-- ==== Sys2Proof/Word.lean ====
section
/-! DEFINITION. The word types of the module and their plainest arithmetic. -/

namespace Sys2Proof

/-- A 64-bit synchronisation word value, or a 64-bit object value. -/
abbrev Word64 := BitVec 64

/-- A 32-bit lane or scalar of an array. -/
abbrev Word32 := BitVec 32

/-- A byte. -/
abbrev Byte := BitVec 8

/-- The bounds of a 32-bit two's-complement integer. -/
def int32Min : Int := -2147483648

/-- The greatest 32-bit two's-complement integer. -/
def int32Max : Int := 2147483647

/-- The two halves of the package (Table 2.5). -/
inductive Half where
  | a | b
  deriving DecidableEq, Repr

/-- Who makes a dictionary access: the roles of spec/00_scope.md, a tenant with its tag, or a peer module agent (R157, R561). -/
inductive Role where
  | operator
  | tenant (tag : Nat)
  | service
  | vendor
  | agent
  deriving DecidableEq, Repr

/-- The path a write takes, as byte 7 of LastWrite codes it (Table 19.16), and a broadcast of R543. -/
inductive Path where
  | coe | mirror | process | config | broadcast
  deriving DecidableEq, Repr

/-- The three contactors of a string (R367). -/
inductive Contactor where
  | neg | pos | pre
  deriving DecidableEq, Repr

/-- What a control tick latches (R320, R342): the 54 raw outputs of the control filters, each Hazel's reading of both
latches ([1] latch B, [0] latch A), and what the comparison with the shadow finds. -/
structure TickIn where
  raw : List Nat
  readA : Nat
  readB : Nat
  /-- stream of the first difference between the latched inputs -/
  senseDiff : Option Nat
  /-- outputs, compare values, P_conv or injections differ -/
  outDiff : Bool
  /-- a Hazel fails a known-answer vector or shows a parity error -/
  failA : Bool
  failB : Bool
  /-- the latched forecast ports differ (R297) -/
  portsDiffer : Bool
  deriving DecidableEq, Repr

/-- A Brucel frame: the header fields of Table 4.2 (and R85 for a SyncResponse) and the payload. -/
structure Frame where
  vc : Nat := 0
  age : Nat := 0
  op : Nat := 0
  first : Bool := true
  last : Bool := true
  signal : Bool := false
  respReq : Bool := false
  retx : Bool := false
  tenant : Nat := 0
  srcShelf : Nat := 0
  srcEp : Nat := 0
  result : Nat := 0
  seq : Nat := 0
  tid : Nat := 0
  signalOp : Nat := 0
  signalWord : Nat := 0
  /-- SyncResponse: full bit and generation after the operation (R85) -/
  full : Bool := false
  gen : Nat := 0
  addr : Nat := 0
  operand : Nat := 0
  payload : List Nat := []
  deriving DecidableEq, Repr

/-- What an uncorrectable error of a stack falls in (R288): a ring copy, byte `offset` of the stack in a part's allocation, a staging slot,
a retained image. -/
inductive BadBlock where
  | ring (channel level pos : Nat) (mirror : Bool)
  | part (offset : Nat)
  | slot (n : Nat)
  | image (handle : Nat)
  deriving DecidableEq, Repr

/-- How a stack shows that it has failed, R289. -/
inductive StackFail where
  | training | sixteenErrors | channel | powerGood | thermal
  deriving DecidableEq, Repr

/-- One reading of a temperature channel as its Hazel takes it (R463, R466): an NTC by its resistance, a remote diode by its
forward voltage, an on-die sensor, each with the temperature it converts to in 0.1 °C before the channel's Offset. -/
inductive Reading where
  | ntc (ohms : Nat) (temp : Int)
  | diode (millivolts : Nat) (temp : Int)
  | onDie (temp : Int)
  | onDieFault
  deriving DecidableEq, Repr

/-- The instructions a J12 TAP shifts in (R79, R562, R564). -/
inductive TapInstr where
  | bypass | idcode | samplePreload | extest | other
  deriving DecidableEq, Repr

/-- EtherCAT states of Table 19.2. -/
inductive EscState where
  | init | preop | safeop | op | boot
  deriving DecidableEq, Repr

end Sys2Proof
end

