-- ==== Sys2Proof/Syntax.lean ====
section
/-! DEFINITION. The commands of the block: one constructor per row of spec/opcode_table.json. A command that an event of the
outside world starts carries the instant `t` (ns) at which it happens; a step of an array sequencer carries the array `g`. -/

namespace Sys2Proof

/-- A command. -/
inductive Instr where
  /-- ENERGISE (R508): ModuleRequest 1: checks the refusals, elects authority and runs the energising steps of Table 18.6. -/
  | energise (t : Nat) (role : Role)
  /-- SHAPE (R23): ModuleRequest 2 moves the module from Ready to Shaping. -/
  | shape (t : Nat) (role : Role)
  /-- UNSHAPE (R23): ModuleRequest 3 moves the module from Shaping back to Ready. -/
  | unshape (t : Nat) (role : Role)
  /-- DE_ENERGISE (R511): ModuleRequest 4 starts the orderly shut-down of Table 18.8, refused while domains are open unless the service role writes it. -/
  | deEnergise (t : Nat) (role : Role)
  /-- SHIP (R430): ModuleRequest 5 in Standby starts ship entry: persistent state written, slices put to sleep, auxiliary enables off, input relay opened. -/
  | ship (t : Nat) (role : Role)
  /-- RESTART_FROM_SEED_OR_SAFE (R505): ModuleRequest 6 by the service role restarts Boot from Seed or Safe and clears the failed-start count. -/
  | restartFromSeedOrSafe (t : Nat) (role : Role)
  /-- REGISTER_WRITE (R526): A write to a dictionary object that has no row of its own passes the write queue, is checked under Table 19.4 and applied. -/
  | registerWrite (t : Nat) (path : Path) (role : Role) (idx sub : Nat) (val : List Nat)
  /-- COMPLETE_ACCESS_WRITE (R529): A CoE complete access write is checked against the new values of all its subindices and applied whole or not at all. -/
  | completeAccessWrite (t : Nat) (role : Role) (idx : Nat) (vals : List (Nat × List Nat))
  /-- CONTROL_TICK (R320): Every 1 µs the control engine latches inputs and runs instance 0, the power reference, the phase loops, auxiliary instances, a known-answer vector and the shadow exchange. -/
  | controlTick (t : Nat) (inp : TickIn)
  /-- STRING_SHARE_UPDATE (R325): Every 1 ms the string shares w_s are recomputed from the energy above the window. -/
  | stringShareUpdate (t : Nat)
  /-- SETPOINT_FRAME (R329): At each 100 µs of hall time the set-point frame is latched, limited and transmitted on both CAN FD buses. -/
  | setpointFrame (t : Nat) (differ : Bool)
  /-- SETPOINT_FRAME_ERROR (R332): A set-point frame meets a bus error; it is not resent and the limiter keeps its last error-free state. -/
  | setpointFrameError (t : Nat) (bus : Fin 2)
  /-- RECTIFIER_REPORT (R331): A report frame is received, judged good or faulty, published to its channel, and updates the rectifier's answering state. -/
  | rectifierReport (t : Nat) (bus : Fin 2) (fdBase : Bool) (id : Nat) (bytes : List Nat)
  /-- REPORT_DEADLINE (R331): No good report by 85.6 µs after the set-point frame; the report counts as missed and faulty. -/
  | reportDeadline (t : Nat) (r : Fin 12)
  /-- CAN_BUS_OFF (R328): A CAN FD controller enters bus-off, is counted and recovers after 128 occurrences of 11 recessive bits. -/
  | canBusOff (t : Nat) (bus : Fin 2)
  /-- HANDOVER_INJECTION (R324): RectifierLag after a set-point application, the change of commanded input is injected into instance 0. -/
  | handoverInjection (t : Nat)
  /-- RELEASE_FEEDFORWARD (R321): A wave's weight sum interrupts the engine, adds a duty step to every active phase of each string and queues the release injection. -/
  | releaseFeedforward (t : Nat) (w : Nat)
  /-- INSTANCE_COMMIT (R317): Writing Commit requests that the instance's staging copy become active at an agreed tick boundary. -/
  | instanceCommit (t : Nat) (role : Role) (i : Fin 64)
  /-- INSTANCE_SWAP (R317): At the tick both Hazels agreed, at least 2 µs after the commit, the staging copy becomes active. -/
  | instanceSwap (t : Nat) (i : Fin 64)
  /-- TRACE_STOP (R347): TraceControl 0 stops the trace. -/
  | traceStop (t : Nat) (role : Role)
  /-- TRACE_ARM_SINGLE (R347): TraceControl 1 arms a single trace. -/
  | traceArmSingle (t : Nat) (role : Role)
  /-- TRACE_ARM_NORMAL (R347): TraceControl 2 arms a trace that re-arms after every read-out. -/
  | traceArmNormal (t : Nat) (role : Role)
  /-- TRACE_FORCE_TRIGGER (R347): TraceControl 3 forces the trigger. -/
  | traceForceTrigger (t : Nat) (role : Role)
  /-- TRACE_SAMPLE (R347): Every Decimation ticks the eight trace channels take a sample, checking the trigger once PreTrigger entries are filled. -/
  | traceSample (t : Nat)
  /-- TRACE_REARM (R347): In normal mode, reading the last entry of every channel re-arms the trace. -/
  | traceRearm (t : Nat) (c : Fin 8)
  /-- CLAMP_HELD_ASSERT (R365): The clamp condition held for 5 consecutive periods asserts clamp-held and switches the limiter to the reserve limit. -/
  | clampHeldAssert (t : Nat)
  /-- RESERVE_END (R336): 10 ms after clamp-held and the hard-limit flag have both cleared, the limiter returns to L. -/
  | reserveEnd (t : Nat)
  /-- PWM_HALF_PERIOD (R352): At each valley and peak a channel loads its new compare value and PR, with interleave lag and dither applied. -/
  | pwmHalfPeriod (t : Nat) (n : Fin 48) (valley : Bool)
  /-- CYCLE_BY_CYCLE_LIMIT (R364): A protection-filter phase current above CbcLimit cuts the driving gate for the rest of the half-period. -/
  | cycleByCycleLimit (t : Nat) (n : Fin 48) (positive : Bool)
  /-- PERSISTENT_CURRENT_LIMIT (R364): Cuts in 8 consecutive periods of a phase idle and fault the phase. -/
  | persistentCurrentLimit (t : Nat) (n : Fin 48)
  /-- STRING_OVER_CURRENT (R364): String current above StringTripCurrent for 2 µs idles the string's phases, opens and locks out the string. -/
  | stringOverCurrent (t : Nat) (s : Fin 2)
  /-- BUS_OVER_VOLTAGE (R364): A bus channel above BusOvTrip for 2 µs idles every GDEN and raises a module-level fault. -/
  | busOverVoltage (t : Nat) (ch : Fin 2)
  /-- BUS_UNDER_VOLTAGE (R364): The armed bus channels below BusUvTrip for 20 µs idle every GDEN; module-level fault, or energising failure. -/
  | busUnderVoltage (t : Nat)
  /-- GATE_DRIVER_FAULT (R364): GD_FLT_Nb low for 1 µs idles GDENb and faults the board's phases. -/
  | gateDriverFault (t : Nat) (b : Fin 6)
  /-- STREAM_FAULT (R363): A sense stream with stuck density or no transition is faulted, with the reaction of Table 12.1. -/
  | streamFault (t : Nat) (c : Fin 54)
  /-- PHASE_SHED (R358): Shed conditions held for ShedDelay idle the longest-active phase of a string. -/
  | phaseShed (t : Nat) (s : Fin 2)
  /-- MUX_HOLD_EXPIRY (R374): With neither latch set for 600 ns, the authority multiplexer idles every PWM and GDEN pair. -/
  | muxHoldExpiry (t : Nat)
  /-- MUX_CHANGEOVER (R374): On a latch change each pair switches source once both generators agree for 10 ns. -/
  | muxChangeover (t : Nat)
  /-- CONTACTOR_FEEDBACK_CHANGE (R576): A contactor feedback change accepted after two samples advances the connection or opening sequence, or reveals a weld. -/
  | contactorFeedbackChange (t : Nat) (s : Fin 2) (k : Contactor) (closed : Bool)
  /-- CLOSE_TIMEOUT (R368): A feedback not closed within CloseTimeout fails the connection with cause 1. -/
  | closeTimeout (t : Nat) (s : Fin 2)
  /-- PRECHARGE_CHECK_1 (R369): At PrechargeCheckTime1 V_conv below PrechargeLevel1 × V_stack fails with cause 2 and opens KsPRE within 1 µs. -/
  | prechargeCheck1 (t : Nat) (s : Fin 2)
  /-- PRECHARGE_CHECK_2 (R369): At PrechargeCheckTime2 V_conv below PrechargeLevel2 × V_stack fails with cause 4. -/
  | prechargeCheck2 (t : Nat) (s : Fin 2)
  /-- PRECHARGE_TIMEOUT (R369): No match by PrechargeTimeout fails with cause 5. -/
  | prechargeTimeout (t : Nat) (s : Fin 2)
  /-- BREAK_WAIT_TIMEOUT (R371): After 20 ms above the break current the contactors open regardless and OperationsUnderLoad increments. -/
  | breakWaitTimeout (t : Nat) (s : Fin 2)
  /-- OPEN_TIMEOUT (R373): A feedback still closed OpenTimeout after opening is a weld: string locked out, cause 6, module-level fault. -/
  | openTimeout (t : Nat) (s : Fin 2)
  /-- PHASE_CLEAR (R366): A service write of a phase number returns a faulted phase to service. -/
  | phaseClear (t : Nat) (role : Role) (n : Nat)
  /-- LOCKOUT_CLEAR (R373): A service write of 1 clears a string's LockedOut state with every feedback open. -/
  | lockoutClear (t : Nat) (role : Role) (s : Fin 2) (v : Nat)
  /-- FEED_PRESENT (R578): A feed at or above 46 V for 1 ms is present; from Off the module enters Boot. -/
  | feedPresent (t : Nat) (f : Half)
  /-- FEEDS_REMOVED (R513): Both feeds below 40 V for 20 µs: the module enters Off and runs the supply-loss shut-down on hold-up. -/
  | feedsRemoved (t : Nat)
  /-- ONE_FEED_LOST (R56): Loss of one feed changes no state and is recorded in the rail controller's history queue. -/
  | oneFeedLost (t : Nat) (f : Half)
  /-- SUPPLY_LOSS_CONTACTOR_RELEASE (R513): 1 ms after the phases idle in a supply loss, the contactor drives are released. -/
  | supplyLossContactorRelease (t : Nat)
  /-- SAFE_POINT (R513): The supply-loss shut-down reaches its safe point: ShutdownRecord written, frames stop, Hazels halt. -/
  | safePoint (t : Nat)
  /-- SHELF_RESET (R73): SHELF_RST_N low for 10 µs resets both halves and puts every contact in its Reset state. -/
  | shelfReset (t : Nat)
  /-- SHELF_RESET_RELEASE (R73): SHELF_RST_N rising starts Boot. -/
  | shelfResetRelease (t : Nat)
  /-- PROTECTOR_TRIP (R71): PROT_TRIP_N low for 2 µs is a fault neither half can mask and sends the module to Safe. -/
  | protectorTrip (t : Nat)
  /-- COOLANT_SEATED (R31): COOLANT_IL_N low for 100 ms lets Boot switch on the remaining domains. -/
  | coolantSeated (t : Nat)
  /-- COOLANT_INTERLOCK_LOST (R32): COOLANT_IL_N high for 100 ms sends Ready, Shaping or Hold to Safe, or switches off domains in other states. -/
  | coolantInterlockLost (t : Nat)
  /-- SUPPLY_ALERT (R451): IBC_ALERT_N low for 200 ns activates throttle reason 0 and clocks every die at P7 within 1 µs. -/
  | supplyAlert (t : Nat)
  /-- ALERT_HOLD_END (R451): AlertHoldTime after IBC_ALERT_N rises, throttle reason 0 ends. -/
  | alertHoldEnd (t : Nat)
  /-- WAKE_LATCH_SET (R67): WAKE_DET at 2 mA for 1 ms sets the wake latch, closing the relay and leaving Ship for Boot. -/
  | wakeLatchSet (t : Nat)
  /-- DISCRETE_INPUT_UPDATE (R75): Every 100 µs DiscreteInputs is refreshed. -/
  | discreteInputUpdate (t : Nat) (gdLow : Fin 64) (protLow : Bool)
  /-- CAGE_ASSEMBLY_READ (R77): An inserted QSFP-DD assembly is read through CMIS and operated or refused by power class. -/
  | cageAssemblyRead (t : Nat) (cage : Fin 2) (optical : Bool) (active : Bool) (milliwatts : Nat)
  /-- ALIVE_TOGGLE (R68): Each 10 µs level ends with an ALIVE edge, unless tick starvation stops the half. -/
  | aliveToggle (t : Nat) (h : Half)
  /-- OTHER_HALF_ALIVE_TIMEOUT (R490): No edge on the other half's ALIVE for 15 µs declares that half lost. -/
  | otherHalfAliveTimeout (t : Nat) (h : Half)
  /-- HALF_LEVEL_REPORT (R490): A report of half-level reaction from the other half declares it lost at once. -/
  | halfLevelReport (t : Nat) (h : Half)
  /-- CROSS_LINK_SILENCE (R490): All cross-link channels down for 30 µs while ALIVE_A toggles makes half B react at half level. -/
  | crossLinkSilence (t : Nat)
  /-- OSCILLATOR_LOST (R37): Loss of a half's reference oscillator is detected within 2 µs and is a half-level fault. -/
  | oscillatorLost (t : Nat) (h : Half)
  /-- AUTHORITY_TRANSFER_REQUEST (R51): A service write moves authority to the other half at a tick boundary without Hold. -/
  | authorityTransferRequest (t : Nat) (role : Role) (v : Nat)
  /-- ELIGIBILITY_EXCHANGE (R491): At t_H + 10 µs each Hazel sends eligibility and unacknowledged count. -/
  | eligibilityExchange (t : Nat)
  /-- WINNER_LATCH_SET (R491): At t_H + 20 µs the eligible half with the lower count sets its latch. -/
  | winnerLatchSet (t : Nat)
  /-- FALLBACK_LATCH_SET (R491): At t_H + 30 µs without the winner's latch, the other eligible half sets its own. -/
  | fallbackLatchSet (t : Nat)
  /-- HOLD_TIMEOUT (R491): No latch set at t_H + 50 µs sends the module to Safe. -/
  | holdTimeout (t : Nat)
  /-- CROSS_LINK_DOWN (R43): A cross-link CRC error persisting after 8 retries takes the channel down. -/
  | crossLinkDown (t : Nat) (c : Fin 3)
  /-- CHANNEL_RESTORED (R486): A cross-link channel up for 1 s returns its port block from its safe state. -/
  | channelRestored (t : Nat) (c : Fin 3)
  /-- DOMAIN_ON_REQUEST (R41): The sequencer switches a power domain on once its prerequisite is power-good. -/
  | domainOnRequest (t : Nat) (d : Fin 32)
  /-- DOMAIN_OFF_REQUEST (R39): The sequencer switches dependants off in reverse dependency order, then the domain. -/
  | domainOffRequest (t : Nat) (d : Fin 32) (fault : Bool)
  /-- POWER_GOOD_TIMEOUT (R40): A domain not power-good within its window is left off with its dependants. -/
  | powerGoodTimeout (t : Nat) (d : Fin 32)
  /-- PCS_LOCK (R91): The PCS of a lane locks and the lane enters Init, sending LinkInit. -/
  | pcsLock (t : Nat) (lane : Fin 52)
  /-- LINK_INIT_TIMER (R91): Every 10 µs after PCS lock each end sends LinkInit. -/
  | linkInitTimer (t : Nat) (lane : Fin 52)
  /-- LINK_INIT (R91): A received LinkInit sets PeerSeen, checks refusal reasons and brings the lane Up, or returns an Up lane to Init. -/
  | linkInit (t : Nat) (lane : Fin 52) (f : Frame)
  /-- LINK_CREDIT (R93): A received LinkCredit updates the cumulative credits returned per channel. -/
  | linkCredit (t : Nat) (lane : Fin 52) (f : Frame)
  /-- CREDIT_RETURN_TIMER (R93): 500 ns after freeing a block, or every 10 µs, a LinkCredit is sent. -/
  | creditReturnTimer (t : Nat) (lane : Fin 52)
  /-- TIME_SYNC (R121): A TimeSync from a tray endpoint is answered with TimeSyncReply within 1 µs. -/
  | timeSync (t : Nat) (lane : Fin 52) (f : Frame)
  /-- TIME_SYNC_EXCHANGE (R118): Every 125 µs a module sends TimeSync to its parent. -/
  | timeSyncExchange (t : Nat)
  /-- TIME_SYNC_REPLY (R119): A TimeSyncReply gives the offset to the parent; hall time is slewed or stepped. -/
  | timeSyncReply (t : Nat) (lane : Fin 52) (f : Frame)
  /-- HALL_TIME_SET (R121): A write of HallTimeSet on the root with no tenant open sets hall time. -/
  | hallTimeSet (t : Nat) (role : Role) (v : Nat) (hallTenantOpen : Bool)
  /-- FLOW_FRAME_RECEIVE (R98): A flow frame is discarded, held or accepted against Cumulative, and held transfers execute in order. -/
  | flowFrameReceive (t : Nat) (lane : Fin 52) (corrected uncorrectable : Nat) (fcsOk : Bool) (bytes : List Nat)
  /-- ACK (R101): A received Ack releases acknowledged frames and triggers fast retransmission of gaps. -/
  | ack (t : Nat) (lane : Fin 52) (f : Frame)
  /-- ACK_TIMER (R100): 2 µs after accepting a frame without an Ack sent, the receiver sends an Ack. -/
  | ackTimer (t : Nat) (flow : Nat)
  /-- FLOW_RESET (R102): A FlowReset drops held frames and incomplete transfers, resets Cumulative and is acknowledged. -/
  | flowReset (t : Nat) (lane : Fin 52) (f : Frame)
  /-- RETRY_TIMEOUT (R101): An unacknowledged frame is retransmitted; the eighth retransmission fails the flow. -/
  | retryTimeout (t : Nat) (flow : Nat) (seq : Nat)
  /-- ROUTE_DOWN_TIMEOUT (R102): A hall flow whose route has been down 1 ms is failed. -/
  | routeDownTimeout (t : Nat) (flow : Nat)
  /-- LANE_DOWN (R127): Loss of PCS alignment or 8 uncorrectable codewords in 10 µs takes a lane out of Up into Training. -/
  | laneDown (t : Nat) (lane : Fin 52) (corrected uncorrectable : Nat)
  /-- TRANSMIT_SELECT (R95): When a lane can send, the transmitter picks the next frame by level, credit and the VC0 limit. -/
  | transmitSelect (t : Nat) (lane : Fin 52)
  /-- FRAME_PROMOTION (R95): A VC2 or VC3 frame waiting 50 µs or 100 µs is promoted a level. -/
  | framePromotion (t : Nat) (lane : Fin 52) (i : Nat)
  /-- READ (R111): A Read request is checked and answered with ReadResponse frames from the named region. -/
  | read (t : Nat) (lane : Fin 52) (f : Frame)
  /-- WRITE (R106): A Write transfer writes its payload, then applies its signal, answering with WriteResponse if asked. -/
  | write (t : Nat) (lane : Fin 52) (fs : List Frame)
  /-- RETURN_FRAME (R90): A return frame is routed by destination shelf to the tray link or module agent its endpoint names. -/
  | returnFrame (t : Nat) (f : Frame)
  /-- BROADCAST_RECEIVE (R117): A broadcast request is executed locally and copied on to neighbours in higher dimensions. -/
  | broadcastReceive (t : Nat) (lane : Fin 52) (f : Frame)
  /-- WRITE_IF_EMPTY_FILL (R132): Opcode 0x20 fills an empty word with the operand. -/
  | writeIfEmptyFill (t : Nat) (f : Frame)
  /-- CONSUME (R132): Opcode 0x21 empties a full word, zeroes data and advances the generation. -/
  | consume (t : Nat) (f : Frame)
  /-- READ_LEAVE_FULL (R132): Opcode 0x22 returns the data of a full word unchanged. -/
  | readLeaveFull (t : Nat) (f : Frame)
  /-- FORCED_WRITE (R132): Opcode 0x23 writes data, sets full and advances the generation. -/
  | forcedWrite (t : Nat) (f : Frame)
  /-- FETCH_ADD (R132): Opcode 0x24 adds the operand to the data modulo 2^64, with queue bounds. -/
  | fetchAdd (t : Nat) (f : Frame)
  /-- COMPARE_SWAP (R132): Opcode 0x25 replaces the data with the payload value if it equals the operand. -/
  | compareSwap (t : Nat) (f : Frame)
  /-- ARRIVE (R155): An Arrive is checked against domain, binding, episode and duplicates and counted on its tree node. -/
  | arrive (t : Nat) (f : Frame)
  /-- RELEASE (R152): A Release from a parent hall node is passed to children and hands the shelf's participants to the pacer. -/
  | release (t : Nat) (f : Frame)
  /-- WATCH_REGISTER (R149): A WatchRegister arms a descriptor after checks and evaluates it at once. -/
  | watchRegister (t : Nat) (f : Frame)
  /-- WATCH_CANCEL (R148): A WatchCancel frees an armed descriptor and drops its unsent message. -/
  | watchCancel (t : Nat) (f : Frame)
  /-- POOL_SCAN (R494): Every 8 µs the background scan checks pool words and descriptors through SECDED. -/
  | poolScan (t : Nat) (single : List Nat) (bad : List Nat) (badDesc : List Nat)
  /-- TENANT_OPEN (R135): TenantCommand 1 opens a slot after checking its tag and the quota sums, and gives it an event word. -/
  | tenantOpen (t : Nat) (role : Role) (k : Fin 64)
  /-- TENANT_CLOSE (R139): TenantCommand 2 closes a tenant with no open domain, freeing or quarantining its resources. -/
  | tenantClose (t : Nat) (role : Role) (k : Fin 64)
  /-- TENANT_FORCE_CLOSE (R139): TenantCommand 3 closes the tenant's domains first, then closes as command 2. -/
  | tenantForceClose (t : Nat) (role : Role) (k : Fin 64)
  /-- CLEAR_QUARANTINE (R139): TenantCommand 4 by the service role empties and frees quarantined words and closes the slot. -/
  | clearQuarantine (t : Nat) (role : Role) (k : Fin 64)
  /-- ALLOCATE_WORDS (R136): Alloc op 1 allocates words within quota, empty with data and generation zero. -/
  | allocateWords (t : Nat) (role : Role) (k : Fin 64) (req : List Nat)
  /-- FREE_WORDS (R138): Alloc op 2 frees clean words and quarantines words left full or nonzero. -/
  | freeWords (t : Nat) (role : Role) (k : Fin 64) (req : List Nat)
  /-- DECLARE_QUEUE (R142): Alloc op 3 declares head and tail words of a queue with N buffers. -/
  | declareQueue (t : Nat) (role : Role) (k : Fin 64) (req : List Nat)
  /-- UNDECLARE_QUEUE (R142): Alloc op 4 removes a queue's bounds. -/
  | undeclareQueue (t : Nat) (role : Role) (k : Fin 64) (req : List Nat)
  /-- ALLOCATE_DESCRIPTORS (R136): Alloc op 5 allocates watch descriptors within quota. -/
  | allocateDescriptors (t : Nat) (role : Role) (k : Fin 64) (req : List Nat)
  /-- FREE_DESCRIPTORS (R136): Alloc op 6 frees watch descriptors. -/
  | freeDescriptors (t : Nat) (role : Role) (k : Fin 64) (req : List Nat)
  /-- WORD_SET (R141): A service WordSet sets a word atomically, evaluates its watches and clears poison. -/
  | wordSet (t : Nat) (role : Role) (val : List Nat)
  /-- DOMAIN_CREATE (R157): A descriptor written to DomainCreate is validated and the home starts the prepare stage. -/
  | domainCreate (t : Nat) (role : Role) (desc : List Nat)
  /-- DOMAIN_PREPARE (R157): A prepare notice makes a member check and reserve words, endpoints and the DomainId. -/
  | domainPrepare (t : Nat) (shelf : Nat) (val : List Nat)
  /-- DOMAIN_COMMIT (R157): A commit notice makes a member build tree words and bindings. -/
  | domainCommit (t : Nat) (shelf : Nat) (val : List Nat)
  /-- DOMAIN_OPEN (R157): An open notice makes a member accept Arrive and raise tenant event 1. -/
  | domainOpen (t : Nat) (shelf : Nat) (val : List Nat)
  /-- DOMAIN_ABORT (R157): An abort notice makes a prepared member release its reservation. -/
  | domainAbort (t : Nat) (shelf : Nat) (val : List Nat)
  /-- DOMAIN_CLOSE_NOTICE (R160): A close notice releases waiters with DomainClosed, frees tree words and raises event 3. -/
  | domainCloseNotice (t : Nat) (shelf : Nat) (val : List Nat)
  /-- DOMAIN_BROKEN_NOTICE (R161): A broken notice releases waiters with DomainBroken and refuses further Arrives. -/
  | domainBrokenNotice (t : Nat) (shelf : Nat) (val : List Nat)
  /-- PEER_TIMEOUT (R157): A member that does not answer within 10 ms fails creation with PeerTimeout. -/
  | peerTimeout (t : Nat)
  /-- PREPARE_EXPIRY (R157): A prepared member that gets neither commit nor abort in 100 ms releases its reservation. -/
  | prepareExpiry (t : Nat) (s : Fin 128)
  /-- DOMAIN_CLOSE (R160): A DomainId written to DomainClose on the home sends close to every reachable member. -/
  | domainClose (t : Nat) (role : Role) (id : Nat)
  /-- TRAY_NODE_FREE (R160): 1 s after a close, former tray node words stop refusing Arrive and are freed. -/
  | trayNodeFree (t : Nat) (s : Fin 128)
  /-- WAVE_INTERVAL (R165): Each WaveInterval the pacer computes headroom and releases waves by deadline order. -/
  | waveInterval (t : Nat)
  /-- WEIGHT_UPDATE (R163): 40 µs after a link's last Release, released participants' weights are updated from measured tray power. -/
  | weightUpdate (t : Nat) (link : Fin 36) (meanBefore meanAfter : Int)
  /-- ARRAY_WAKE_START (R192): At the scheduled time before a known event an array starts its wake from Idle, Nap or Sleep. -/
  | arrayWakeStart (t : Nat) (g : Fin 128)
  /-- ARRAY_WAKE_DONE (R191): A wake completes with tables restored or store zeroed and the self-test run. -/
  | arrayWakeDone (t : Nat) (g : Fin 128) (pass : Bool)
  /-- ARRAY_SELF_TEST (R196): At least once per 1 ms an Active array runs the 96-cycle self-test. -/
  | arraySelfTest (t : Nat) (g : Fin 128) (pass : Bool)
  /-- ARRAY_FAULT (R198): A faulted array stops, closes its ports, leaves placement and its programs are placed again. -/
  | arrayFault (t : Nat) (g : Fin 128) (cause : Nat)
  /-- ARRAY_RETURN_TO_SERVICE (R580): ArrayCommand 1 runs the self-test and returns a faulted array on a pass. -/
  | arrayReturnToService (t : Nat) (role : Role) (g : Fin 128)
  /-- ARRAY_OUT_OF_SERVICE (R201): ArrayCommand 2 takes an array out of service. -/
  | arrayOutOfService (t : Nat) (role : Role) (g : Fin 128)
  /-- DIE_LINK_DOWN (R185): A die link down after 8 retries stops and re-places programs spanning the break. -/
  | dieLinkDown (t : Nat) (d : Fin 7)
  /-- DIE_LINK_RETRAIN (R185): Every 1 s a down die link is retrained. -/
  | dieLinkRetrain (t : Nat) (d : Fin 7) (up : Bool)
  /-- DIE_LINK_RESTORED (R185): A retrained die link up for 1 s returns to service. -/
  | dieLinkRestored (t : Nat) (d : Fin 7)
  /-- NOP (R233): Opcode 0x00 in any slot does nothing. -/
  | sNop (g : Fin 128) (slot : Fin 4)
  /-- ADDI (R235): S-slot 0x01 adds a sign-extended immediate. -/
  | sAddi (g : Fin 128) (d a : Fin 16) (imm : Nat)
  /-- ADD (R235): S-slot 0x02 adds two scalar registers. -/
  | sAdd (g : Fin 128) (d a b : Fin 16)
  /-- SUB (R235): S-slot 0x03 subtracts two scalar registers. -/
  | sSub (g : Fin 128) (d a b : Fin 16)
  /-- AND (R235): S-slot 0x04 ands two scalar registers. -/
  | sAnd (g : Fin 128) (d a b : Fin 16)
  /-- OR (R235): S-slot 0x05 ors two scalar registers. -/
  | sOr (g : Fin 128) (d a b : Fin 16)
  /-- XOR (R235): S-slot 0x06 xors two scalar registers. -/
  | sXor (g : Fin 128) (d a b : Fin 16)
  /-- ANDI (R235): S-slot 0x07 ands with a zero-extended immediate. -/
  | sAndi (g : Fin 128) (d a : Fin 16) (imm : Nat)
  /-- SHL (R235): S-slot 0x08 shifts a scalar left. -/
  | sShl (g : Fin 128) (d a : Fin 16) (amount : Fin 32)
  /-- SHR (R235): S-slot 0x09 shifts a scalar right arithmetically with rounding. -/
  | sShr (g : Fin 128) (d a : Fin 16) (amount : Fin 32)
  /-- MOVHI (R235): S-slot 0x0A sets the high half of a scalar. -/
  | sMovhi (g : Fin 128) (d : Fin 16) (imm : Nat)
  /-- LOOP (R235): S-slot 0x0B repeats a body Sa times without overhead. -/
  | sLoop (g : Fin 128) (a : Fin 16) (target : Nat)
  /-- BR (R235): S-slot 0x0C branches unconditionally. -/
  | sBr (g : Fin 128) (target : Nat)
  /-- BRZ (R235): S-slot 0x0D branches if Sa is zero. -/
  | sBrz (g : Fin 128) (a : Fin 16) (target : Nat)
  /-- BRNZ (R235): S-slot 0x0E branches if Sa is not zero. -/
  | sBrnz (g : Fin 128) (a : Fin 16) (target : Nat)
  /-- BRLT (R235): S-slot 0x0F branches if Sa < Sb, signed. -/
  | sBrlt (g : Fin 128) (a b : Fin 16) (target : Nat)
  /-- SKIP (R235): S-slot 0x10 delays the next bundle by n + 1 cycles. -/
  | sSkip (g : Fin 128) (n : Nat)
  /-- WAITF (R235): S-slot 0x11 waits until a store word reaches Sb. -/
  | sWaitf (g : Fin 128) (a b : Fin 16)
  /-- WAITF_SATISFIED (R235): The awaited store word reaches its value and the waiting part resumes. -/
  | sWaitfSatisfied (g : Fin 128)
  /-- YIELD (R255): S-slot 0x12 ends a slow-lane slice. -/
  | sYield (t : Nat) (g : Fin 128)
  /-- END (R251): S-slot 0x13 ends the tick or run; outputs are published. -/
  | sEnd (t : Nat) (g : Fin 128)
  /-- RDSYS (R235): S-slot 0x14 reads a system value of Table 8.10. -/
  | sRdsys (g : Fin 128) (d : Fin 16) (sel : Nat)
  /-- PHASE (R447): S-slot 0x15 enters a phase, changing the part's preferred point. -/
  | sPhase (g : Fin 128) (n : Fin 8)
  /-- SETMODE (R172): A-slot 0x01 sets dataflow mode, format, frame shift and accumulator mode. -/
  | setmode (g : Fin 128) (os : Bool) (fmt : Fin 3) (f : Fin 64) (add : Bool)
  /-- SETREF (R211): A-slot 0x02 captures a reference exponent for one edge. -/
  | setref (g : Fin 128) (north : Bool) (r : Fin 16)
  /-- TILELOAD (R173): A-slot 0x03 loads 64 lines into the shadow weights. -/
  | tileload (g : Fin 128) (a : Fin 16) (offset : Nat) (e : Fin 256)
  /-- WSVEC (R172): A-slot 0x04 feeds one line into the west edge in WS mode. -/
  | wsvec (g : Fin 128) (a : Fin 16) (offset : Nat) (e : Fin 256)
  /-- OSRUN (R172): A-slot 0x05 runs K output-stationary steps. -/
  | osrun (g : Fin 128) (a b : Fin 16) (k : Fin 128)
  /-- DRAIN (R172): A-slot 0x06 writes OS results and clears the cells. -/
  | drain (g : Fin 128) (a : Fin 16) (offset : Nat)
  /-- EDGEST (R235): A-slot 0x07 stores the 64 edge sums. -/
  | edgest (g : Fin 128) (a : Fin 16) (offset : Nat)
  /-- EDGECLR (R235): A-slot 0x08 zeros the edge sums and saturated bits. -/
  | edgeclr (g : Fin 128)
  /-- LOADCURVE (R171): A-slot 0x09 broadcasts a table's curve into every CCR. -/
  | loadcurve (g : Fin 128) (table : Fin 4)
  /-- VADD (R220): V-slot 0x01 saturating vector add. -/
  | vadd (g : Fin 128) (d a b : Fin 32)
  /-- VSUB (R220): V-slot 0x02 saturating vector subtract. -/
  | vsub (g : Fin 128) (d a b : Fin 32)
  /-- VMIN (R235): V-slot 0x03 lane minimum. -/
  | vmin (g : Fin 128) (d a b : Fin 32)
  /-- VMAX (R235): V-slot 0x04 lane maximum. -/
  | vmax (g : Fin 128) (d a b : Fin 32)
  /-- VCMP (R235): V-slot 0x05 signed lane compare. -/
  | vcmp (g : Fin 128) (d a b : Fin 32) (cond : Fin 6)
  /-- VSEL (R235): V-slot 0x06 selects lanes by a mask. -/
  | vsel (g : Fin 128) (d a b m : Fin 32)
  /-- VLOGIC (R235): V-slot 0x07 lane logic operation. -/
  | vlogic (g : Fin 128) (d a b : Fin 32) (op : Fin 4)
  /-- VSHL (R220): V-slot 0x08 lane shift left. -/
  | vshl (g : Fin 128) (d a : Fin 32) (sh : Fin 32)
  /-- VSHR (R220): V-slot 0x09 lane shift right with rounding. -/
  | vshr (g : Fin 128) (d a : Fin 32) (sh : Fin 32)
  /-- VMUL (R220): V-slot 0x0A MulShift multiply. -/
  | vmul (g : Fin 128) (d a b : Fin 32) (sh : Fin 32)
  /-- VMAC (R220): V-slot 0x0B saturating multiply-accumulate. -/
  | vmac (g : Fin 128) (d a b : Fin 32) (sh : Fin 32)
  /-- VGLMUL (R218): V-slot 0x0C GL multiply by log addition. -/
  | vglmul (g : Fin 128) (d a b : Fin 32) (fmt : Fin 3)
  /-- VGLCMP (R218): V-slot 0x0D GL compare. -/
  | vglcmp (g : Fin 128) (d a b : Fin 32) (fmt : Fin 3) (cond : Fin 6)
  /-- VCVT (R236): V-slot 0x0E converts between formats. -/
  | vcvt (g : Fin 128) (d a : Fin 32) (target : Fin 10) (source : Fin 11) (s : Fin 16)
  /-- VLUT (R179): V-slot 0x0F table lookup with optional interpolation. -/
  | vlut (g : Fin 128) (d a : Fin 32) (table : Fin 4) (interp : Bool)
  /-- VRED (R235): V-slot 0x10 reduces across lanes. -/
  | vred (g : Fin 128) (d a : Fin 32) (op : Fin 3)
  /-- VMOVS (R235): V-slot 0x11 broadcasts a scalar. -/
  | vmovs (g : Fin 128) (d : Fin 32) (s : Fin 16)
  /-- VEXT (R235): V-slot 0x12 extracts a lane or its exponent to a scalar. -/
  | vext (g : Fin 128) (s : Fin 16) (a : Fin 32) (lane : Fin 64) (expo : Bool)
  /-- VIDX (R235): V-slot 0x13 sets each lane to its lane number. -/
  | vidx (g : Fin 128) (d : Fin 32)
  /-- VLD (R235): M-slot 0x01 loads a vector register from 4 lines. -/
  | vld (g : Fin 128) (v : Fin 32) (a : Fin 16) (offset : Nat)
  /-- VST (R235): M-slot 0x02 stores a vector register to 4 lines. -/
  | vst (g : Fin 128) (v : Fin 32) (a : Fin 16) (offset : Nat)
  /-- VLD8 (R235): M-slot 0x03 loads bytes or nibbles per lane. -/
  | vld8 (g : Fin 128) (v : Fin 32) (a : Fin 16) (offset : Nat) (sub : Fin 3)
  /-- VST8 (R235): M-slot 0x04 stores bytes or nibbles per lane. -/
  | vst8 (g : Fin 128) (v : Fin 32) (a : Fin 16) (offset : Nat) (sub : Fin 3)
  /-- VLDX (R235): M-slot 0x05 loads a block exponent pair. -/
  | vldx (g : Fin 128) (v : Fin 32) (a : Fin 16) (offset : Nat)
  /-- VSTX (R235): M-slot 0x06 stores a block exponent pair. -/
  | vstx (g : Fin 128) (v : Fin 32) (a : Fin 16) (offset : Nat)
  /-- EXPLD (R235): M-slot 0x07 loads a line into an edge exponent buffer. -/
  | expld (g : Fin 128) (a : Fin 16) (offset : Nat) (sub : Fin 8)
  /-- TLOAD (R180): M-slot 0x08 loads a lookup table from 256 lines. -/
  | tload (g : Fin 128) (table : Fin 4) (a : Fin 16) (offset : Nat)
  /-- XFER (R237): M-slot 0x09 starts a transfer described by a line. -/
  | xfer (g : Fin 128) (a : Fin 16) (offset : Nat)
  /-- XFER_COMPLETE (R183): A transfer's last byte arrives and its flag is written in the destination store. -/
  | xferComplete (t : Nat) (g : Fin 128) (i : Nat)
  /-- SLD (R235): M-slot 0x0A loads a scalar from a line. -/
  | sld (g : Fin 128) (d a : Fin 16) (offset : Nat)
  /-- SST (R235): M-slot 0x0B stores a scalar to a line. -/
  | sst (g : Fin 128) (d a : Fin 16) (offset : Nat)
  /-- SLOT_OPEN (R240): SlotCommand 1 opens a staging slot for the requester. -/
  | slotOpen (t : Nat) (role : Role) (k : Fin 16)
  /-- SLOT_VERIFY (R241): SlotCommand 2 starts verification of a staged image. -/
  | slotVerify (t : Nat) (role : Role) (k : Fin 16)
  /-- SLOT_VERIFICATION_COMPLETE (R241): Verification ends with the slot Verified or Rejected and SlotResult set. -/
  | slotVerificationComplete (t : Nat) (k : Fin 16)
  /-- SLOT_DISCARD (R248): SlotCommand 3 discards a slot. -/
  | slotDiscard (t : Nat) (role : Role) (k : Fin 16)
  /-- LOAD_REQUEST (R242): A LoadRequest is accepted and the module reserves arrays for every part. -/
  | loadRequest (t : Nat) (role : Role) (req : List Nat)
  /-- LOAD_COMPLETE (R243): All parts are written, curves loaded, flags cleared, image retained and LoadResult set. -/
  | loadComplete (t : Nat)
  /-- PROGRAM_START (R246): ProgramCommand 1 starts a Loaded or Stopped program. -/
  | programStart (t : Nat) (role : Role) (h : Fin 128)
  /-- PROGRAM_STOP (R246): ProgramCommand 2 stops a program at its next END, YIELD or bound. -/
  | programStop (t : Nat) (role : Role) (h : Fin 128)
  /-- PROGRAM_UNLOAD (R246): ProgramCommand 3 stops a program and frees its resources. -/
  | programUnload (t : Nat) (role : Role) (h : Fin 128)
  /-- PROGRAM_RUN_NOW (R254): ProgramCommand 4 releases a run by trigger 1. -/
  | programRunNow (t : Nat) (role : Role) (h : Fin 128)
  /-- FAST_TICK (R249): At each tick boundary inputs are written and every fast-lane part starts, or the tick is skipped. -/
  | fastTick (t : Nat)
  /-- TICK_OVERRUN (R250): A part reaching DeclaredCycles without END stops the program with Overrun. -/
  | tickOverrun (t : Nat) (g : Fin 128)
  /-- SLICE_OVERRUN (R255): A slice reaching its bound without YIELD or END is stopped. -/
  | sliceOverrun (t : Nat) (g : Fin 128)
  /-- PERIODIC_TRIGGER (R254): A program's Period elapses and releases or coalesces a run. -/
  | periodicTrigger (t : Nat) (h : Fin 128)
  /-- SCHEDULER_TICK (R256): Each microsecond the scheduler ranks ready runs and starts slices on reserved arrays. -/
  | schedulerTick (t : Nat)
  /-- RING_SLOT_ADVANCE (R272): A ring's head enters a new slot, writing the gap code and finalising older slots. -/
  | ringSlotAdvance (t : Nat) (ch : Nat)
  /-- CHANNEL_DEFINE (R276): Channel op 1 defines a channel and places its ring. -/
  | channelDefine (t : Nat) (role : Role) (req : List Nat)
  /-- CHANNEL_DELETE (R279): Channel op 2 deletes a ring after reads in progress end. -/
  | channelDelete (t : Nat) (role : Role) (req : List Nat)
  /-- RING_DELETE_COMPLETE (R279): The last earlier read of a deleted ring ends and the ring is freed. -/
  | ringDeleteComplete (t : Nat) (ch : Nat)
  /-- CHANNEL_QUERY (R276): Channel op 3 returns the channel's state in ChannelResult. -/
  | channelQuery (t : Nat) (role : Role) (req : List Nat)
  /-- CHANNEL_SET_GRANTS (R276): Channel op 4 sets the channel's read grants. -/
  | channelSetGrants (t : Nat) (role : Role) (req : List Nat)
  /-- WINDOW_DEFINE (R285): Window op 1 defines a history window. -/
  | windowDefine (t : Nat) (role : Role) (req : List Nat)
  /-- WINDOW_FREE (R285): Window op 2 frees a window. -/
  | windowFree (t : Nat) (role : Role) (req : List Nat)
  /-- WINDOW_QUERY (R285): Window op 3 returns a window's description. -/
  | windowQuery (t : Nat) (role : Role) (req : List Nat)
  /-- STACK_FAILURE (R289): A failed stack is taken out of service with the reactions of Table 9.10. -/
  | stackFailure (t : Nat) (k : Fin 8) (cause : StackFail)
  /-- PATROL_SCRUB (R287): The patrol scrub reads and corrects each stack block, recording rows for repair. -/
  | patrolScrub (t : Nat) (k : Fin 8) (corrected : Nat) (rows : List Nat) (bad : Option BadBlock) (passEnd : Bool)
  /-- FORECASTER_BIND (R294): A write of ForecasterHandle binds or unbinds a forecaster from the next tick and defines its windows. -/
  | forecasterBind (t : Nat) (role : Role) (h : Nat)
  /-- PORT_PUBLICATION (R296): A program's output to a control engine port reaches the Hazels, checked and held for the next latch. -/
  | portPublication (t : Nat) (port : Fin 16) (h : Fin 128) (stamp : Nat) (bytes : List Nat)
  /-- BIN_EVALUATION (R300): At the end of each 250 µs bin the fine horizon is scored and trust updated. -/
  | binEvaluation (t : Nat)
  /-- MEASUREMENT_CYCLE (R388): Each MeasurementInterval Measure is broadcast on every operated ring for simultaneous windows. -/
  | measurementCycle (t : Nat) (delay length : Nat)
  /-- RING_COMMAND_ISSUE (R386): When the ring is free the module sends the next addressed or broadcast command. -/
  | ringCommandIssue (t : Nat) (k : Fin 2)
  /-- RING_RESPONSE (R386): A slice response is received, checked for address, counter and opcode, and its results kept. -/
  | ringResponse (t : Nat) (k : Fin 2) (bytes : List Nat)
  /-- RING_FRAME_RETURN (R397): A broadcast or Enumerate frame returns to the receiving port and its AckMap or hop count is judged. -/
  | ringFrameReturn (t : Nat) (k : Fin 2) (atB : Bool) (bytes : List Nat)
  /-- RESPONSE_TIMEOUT (R386): No response within 400 µs leads to a retransmission or a NoResponse result. -/
  | responseTimeout (t : Nat) (k : Fin 2)
  /-- RING_BREAK (R398): Frames lost or no link pulse for 100 µs declare a break; enumeration from both ends and Split mode follow. -/
  | ringBreak (t : Nat) (k : Fin 2)
  /-- RING_CLOSE (R398): Every hop alive for 1 s returns the ring to Closed mode at the next cycle. -/
  | ringClose (t : Nat) (k : Fin 2)
  /-- LINK_PULSE (R380): Every 16 µs a port sends a link pulse on an idle side. -/
  | linkPulse (t : Nat) (k : Fin 2) (atB : Bool)
  /-- SLICE_REENUMERATE (R400): A slice answering with address 0 is enumerated at the next gap between frames. -/
  | sliceReenumerate (t : Nat) (k : Fin 2)
  /-- STACK_MEASUREMENT_FAULT (R395): A cell without a released value for CellValueTimeout opens its string and records a fault. -/
  | stackMeasurementFault (t : Nat) (k : Fin 2)
  /-- STRING_RECONNECT (R395): After 1 s of released values, at most once per 60 s, the string connection sequence runs again. -/
  | stringReconnect (t : Nat) (k : Fin 2)
  /-- BALANCE_INTERVAL (R402): Each BalanceInterval the module chooses cells to bleed and sends Balance to each slice. -/
  | balanceInterval (t : Nat)
  /-- ESTIMATOR_UPDATE (R415): A released value updates impedance fit, state of charge and trips for its cell. -/
  | estimatorUpdate (t : Nat) (k : Fin 2) (cell : Fin 288)
  /-- LIMIT_UPDATE (R420): Each MeasurementInterval string estimates, charge and discharge limits and the clamp pair are recomputed. -/
  | limitUpdate (t : Nat)
  /-- SOC_REPORT_UPDATE (R419): Every 100 ms the reported state of charge moves as ReportMode selects. -/
  | socReportUpdate (t : Nat)
  /-- ESTIMATOR_COMPARE (R407): Every 100 ms the Hazels compare estimator CRCs and the shadow copies on a difference. -/
  | estimatorCompare (t : Nat) (differ : Bool)
  /-- PERSISTENT_STATE_WRITE (R429): Every 600 s of powered time the estimator's persistent state is written. -/
  | persistentStateWrite (t : Nat)
  /-- LIFETIME_UPDATE (R428): Each second of connected time lifetime histograms and extremes are updated. -/
  | lifetimeUpdate (t : Nat) (k : Fin 2)
  /-- CALIBRATION_START (R424): A string number written to CalibrationRequest starts a capacity calibration. -/
  | calibrationStart (t : Nat) (role : Role) (v : Nat)
  /-- CALIBRATION_ABORT (R427): Writing 0 to CalibrationRequest aborts the calibration with code 1. -/
  | calibrationAbort (t : Nat) (role : Role)
  /-- CALIBRATION_PHASE_END (R425): A calibration phase ends on its voltage or endpoint time, and Apply computes new capacities. -/
  | calibrationPhaseEnd (t : Nat)
  /-- CALIBRATION_TIMEOUT (R427): CalibrationTimeout ends the calibration with code 6. -/
  | calibrationTimeout (t : Nat)
  /-- OCV_TABLE_WRITE (R409): An OcvTable write is checked whole and takes effect at the next released value. -/
  | ocvTableWrite (t : Nat) (role : Role) (bytes : List Nat)
  /-- LIFETIME_CLEAR (R429): A service write of 0xA5 clears a string's lifetime records. -/
  | lifetimeClear (t : Nat) (role : Role) (k : Fin 2) (v : Nat)
  /-- RAIL_HICCUP (R443): 16 limited cycles, or under-voltage for 10 µs, turn the rail off for 20 ms; a third in 1 s fails it. -/
  | railHiccup (t : Nat) (r : Fin 16)
  /-- RAIL_RETRY (R443): After a hiccup's 20 ms the rail starts a new soft start. -/
  | railRetry (t : Nat) (r : Fin 16)
  /-- RAIL_OVER_VOLTAGE (R443): Output above the fixed or tracking level latches every low side on. -/
  | railOverVoltage (t : Nat) (r : Fin 16)
  /-- RAIL_POWER_GOOD (R441): A rail held within 5 % of target for 50 µs reports power-good. -/
  | railPowerGood (t : Nat) (r : Fin 16)
  /-- RAIL_TARGET_REACHED (R440): A rail's reference reaches its target code and the die clock may follow. -/
  | railTargetReached (t : Nat) (r : Fin 16)
  /-- RAIL_PHASE_SHED (R442): Low current for ShedDelay sheds the highest active phase. -/
  | railPhaseShed (t : Nat) (r : Fin 16)
  /-- RAIL_PHASE_ADD (R442): Current above n × AddCurrent adds a phase. -/
  | railPhaseAdd (t : Nat) (r : Fin 16)
  /-- RAIL_CLEAR (R444): A service write of RailClear releases a failed or latched rail. -/
  | railClear (t : Nat) (role : Role) (r : Fin 16) (v : Nat)
  /-- POINT_EVALUATION (R447): Every 10 µs each die's point is computed from requests, FastestPoint and throttle floors. -/
  | pointEvaluation (t : Nat) (railMilliamps : List Nat)
  /-- POINT_EARLY_RISE (R448): Ahead of a known event, a die's rise to a faster point starts early. -/
  | pointEarlyRise (t : Nat) (d : Fin 8)
  /-- POINT_HOLD_EXPIRY (R448): A slower computed point held for PointHoldTime starts the fall. -/
  | pointHoldExpiry (t : Nat) (d : Fin 8)
  /-- POWER_LIMIT_CHECK (R452): Every 100 µs the package estimate is compared with PackagePowerLimit and the reason 1 floor adjusted. -/
  | powerLimitCheck (t : Nat)
  /-- RAIL_CALIBRATION (R454): Every 1 ms each rail updates its estimate calibration factor. -/
  | railCalibration (t : Nat) (r : Fin 16) (millivolts milliamps milliwatts : Nat)
  /-- ENERGY_INTERVAL (R456): Every 1 ms energies are closed out and divided among tenants and overhead. -/
  | energyInterval (t : Nat)
  /-- RAIL_RECOVERY_END (R450): 100 ms after a core rail regains power-good, throttle reason 5 ends. -/
  | railRecoveryEnd (t : Nat) (d : Fin 8)
  /-- HOUSEKEEPING_READING (R464): Each 0.125 ms a temperature channel is read, exchanged and judged for breaks, limits and flow. -/
  | housekeepingReading (t : Nat) (c : Fin 64) (r : Reading)
  /-- THROTTLE_RELAX (R470): ThrottleRelax without a throttle moves a die's thermal floor one point faster. -/
  | throttleRelax (t : Nat) (d : Fin 8)
  /-- BLOCK_ACKNOWLEDGE (R482): Writing 1 to a block's Acknowledge acknowledges its recorded faults. -/
  | blockAcknowledge (t : Nat) (role : Role) (b : Fin 194) (v : Nat)
  /-- ACKNOWLEDGE_ALL (R482): Writing 1 to AcknowledgeAll acknowledges every block's faults. -/
  | acknowledgeAll (t : Nat) (role : Role) (v : Nat)
  /-- BLOCK_RETURN_TO_SERVICE (R580): BlockCommand 1 runs the block's test of Table 17.5a. -/
  | blockReturnToService (t : Nat) (role : Role) (b : Fin 194) (v : Nat)
  /-- BLOCK_TEST_COMPLETE (R580): The block test ends; a pass returns the block, a failure records a fault. -/
  | blockTestComplete (t : Nat) (b : Fin 194) (pass : Bool)
  /-- INTERRUPT_TEST_PULSE (R487): Every 1 ms a block's interrupt line carries a test pulse echoed by the Hazel. -/
  | interruptTestPulse (t : Nat) (b : Fin 194) (echoed : Bool)
  /-- RECOVERY_WINDOW_END (R488): 1 s after Hold, a half loss, a block return or a Safe clear, the recovery window ends. -/
  | recoveryWindowEnd (t : Nat)
  /-- BOOT_STAGE_COMPLETE (R498): A Boot stage completes and the half proceeds to the next, or Standby when stage 6 ends. -/
  | bootStageComplete (t : Nat) (h : Half) (ok : Bool) (failed : List (Fin 97))
  /-- BOOT_TIMEOUT (R501): Boot not through stage 6 in 30 s fails with cause 3. -/
  | bootTimeout (t : Nat)
  /-- BOOT_RESTART (R503): 1 s after a failed start in Boot, Boot resumes at stage 2. -/
  | bootRestart (t : Nat)
  /-- RECTIFIER_ANSWER_TIMEOUT (R508): Not every fitted rectifier answering within 10 ms fails energising with cause 4. -/
  | rectifierAnswerTimeout (t : Nat)
  /-- SOFT_START_COMPLETE (R509): Both bus channels within 1 % for 10 ms end the soft start and arm under-voltage. -/
  | softStartComplete (t : Nat)
  /-- SOFT_START_TIMEOUT (R509): A soft start not ended within BusSoftStartTimeout fails with cause 5. -/
  | softStartTimeout (t : Nat)
  /-- DEENERGISE_TIMEOUT (R511): The bus not below DeenergiseLevel in time raises a module-level fault and enters Safe. -/
  | deenergiseTimeout (t : Nat)
  /-- ESC_STATE_REQUEST (R521): A requested EtherCAT state change is accepted or refused by module state. -/
  | escStateRequest (t : Nat) (req : EscState)
  /-- SM_WATCHDOG (R522): The SM2 watchdog expiry in OP moves the ESC to SAFEOP, keeping applied outputs. -/
  | smWatchdog (t : Nat)
  /-- SDO_INFORMATION (R523): An SDO information request lists objects with access bits for the requester's role. -/
  | sdoInformation (t : Nat) (role : Role)
  /-- PROCESS_DATA_REFRESH (R539): Every 100 µs inputs are refreshed and a new output set is judged and applied whole. -/
  | processDataRefresh (t : Nat) (outputs : List Nat)
  /-- STORE_PARAMETERS (R532): The save signature written to StoreParameters stores the configuration in both halves. -/
  | storeParameters (t : Nat) (role : Role) (v : Nat)
  /-- STORE_COMPLETE (R532): Both halves hold the new stored copy and the write is answered. -/
  | storeComplete (t : Nat)
  /-- RESTORE_DEFAULTS (R532): The load signature written to RestoreDefaults erases the stored configuration. -/
  | restoreDefaults (t : Nat) (role : Role) (v : Nat)
  /-- FOE_SLOT_WRITE (R240): An FoE write of SLOT00–SLOT15 stages an image and issues verify at its end. -/
  | foeSlotWrite (t : Nat) (password : Nat) (k : Fin 16) (bytes : List Nat)
  /-- FWMAIN (R556): An FoE write of FWMAIN is verified and held pending in both halves. -/
  | fwmain (t : Nat) (role : Role) (password : Nat) (bytes : List Nat)
  /-- FWSEED (R556): An FoE write of FWSEED is verified and held pending in both halves. -/
  | fwseed (t : Nat) (role : Role) (password : Nat) (bytes : List Nat)
  /-- CONFIG_READ (R546): An FoE read of CONFIG returns the stored configuration. -/
  | configRead (t : Nat) (role : Role) (password : Nat)
  /-- CONFIG_WRITE (R546): An FoE write of CONFIG is checked in full, applied in one execution and stored. -/
  | configWrite (t : Nat) (role : Role) (password : Nat) (bytes : List Nat)
  /-- KEY_ENROL (R552): Key update op 1 enrols an operator key, adopting factory images on first enrolment. -/
  | keyEnrol (t : Nat) (role : Role) (path : Path) (rec : List Nat)
  /-- KEY_REVOKE (R552): Key update op 2 revokes an operator key. -/
  | keyRevoke (t : Nat) (role : Role) (path : Path) (rec : List Nat)
  /-- KEY_STORE_RESET (R552): Key update op 3 under a vendor session clears the key store to Unenrolled. -/
  | keyStoreReset (t : Nat) (role : Role) (path : Path) (port : Fin 4) (rec : List Nat)
  /-- ROLLBACK_COMMIT (R557): RollbackCommit blows rollback fuses in both Hazels up to v. -/
  | rollbackCommit (t : Nat) (role : Role) (v : Nat)
  /-- AUTHOR_CERTIFICATE (R567): A certified author key is added to the lowest free author slot. -/
  | authorCertificate (t : Nat) (role : Role) (bytes : List Nat)
  /-- AUTHOR_KEY_REMOVE (R567): A KeyId written to AuthorKeyRemove removes that author key. -/
  | authorKeyRemove (t : Nat) (role : Role) (keyId : List Nat)
  /-- PROTECTED_REGISTER_WRITE (R558): A write to a ROM-held register from another source is discarded and raises a half-level fault. -/
  | protectedRegisterWrite (t : Nat) (h : Half) (reg : Fin 7)
  /-- ADMISSION_RETRY (R561): After a link reaches Up, and every 1 s after a failure, a module runs peer admission. -/
  | admissionRetry (t : Nat) (k : Fin 16) (ticket devKey : List Nat) (sig : List Nat)
  /-- ADMISSION_CHALLENGE (R561): A peer's write of AdmissionChallenge makes the device key sign AdmissionResponse. -/
  | admissionChallenge (t : Nat) (k : Fin 16) (bytes : List Nat)
  /-- SESSION_SETUP (R563): SessionSetup issues a challenge for a level and target. -/
  | sessionSetup (t : Nat) (role : Role) (v : Nat)
  /-- SESSION_RESPONSE (R563): A valid signed response opens the session; failures count toward lockout. -/
  | sessionResponse (t : Nat) (role : Role) (bytes : List Nat)
  /-- SESSION_LOCK (R565): A SessionLock bit ends the session of its target. -/
  | sessionLock (t : Nat) (role : Role) (v : Nat)
  /-- SESSION_LIMIT (R565): SessionLimit expiry ends a session. -/
  | sessionLimit (t : Nat) (k : Fin 4)
  /-- UNLOCK_LOCKOUT_END (R563): After 1 h of powered time the challenge lockout ends. -/
  | unlockLockoutEnd (t : Nat)
  /-- IDCODE (R79): The TAP IDCODE instruction selects the identification register. -/
  | idcode (t : Nat)
  /-- BYPASS (R562): The TAP BYPASS instruction, and any unoffered code, selects the bypass register. -/
  | bypass (t : Nat) (instr : TapInstr)
  /-- SAMPLE_PRELOAD (R564): Boundary-scan SAMPLE/PRELOAD in a vendor J12 session with GDEN idle and contactors open. -/
  | samplePreload (t : Nat) (bits : List Nat)
  /-- EXTEST (R564): Boundary-scan EXTEST in a vendor J12 session with GDEN idle and contactors open. -/
  | extest (t : Nat) (bits : List Nat)
  /-- SUPPLY_LOSS_RESTART (R514): When a feed returned during a supply-loss shut-down, Boot starts at stage 1 no earlier than 100 ms after the safe point. -/
  | supplyLossRestart (t : Nat)
  /-- IBC_ALERT_RISE (R451): IBC_ALERT_N rising ends the accumulation of AlertTime and starts (or restarts) the AlertHoldTime hold of throttle reason 0. -/
  | ibcAlertRise (t : Nat)
  /-- BUS_OFF_RECOVERY (R328): A bus-off CAN FD controller recovers after 128 occurrences of 11 recessive bits and resumes operation. -/
  | busOffRecovery (t : Nat) (bus : Fin 2)
  /-- DOMAIN_OUT_OF_REGULATION (R489): The domain monitor finds a Hazel digital or analog domain out of regulation within 2 µs, a fault that stops the half's ALIVE pin. -/
  | domainOutOfRegulation (t : Nat) (d : Fin 32)
  /-- ARRAY_STORE_SCRUB (R195): The scrubber takes a reserved bank cycle, reads a store or bundle-store line and corrects it in place or poisons it. -/
  | arrayStoreScrub (t : Nat) (g : Fin 128) (bundle : Bool) (line : Nat) (errors : Fin 3)
  /-- LOOKUP_TABLE_COMPARE (R195): Every 1 ms each lookup table is compared against its store copy, and a mismatch faults the array. -/
  | lookupTableCompare (t : Nat) (g : Fin 128) (upset : Option (Nat × Nat))
  /-- DEBUG_RESET (R516): A reset through the unlocked debug port resets the module with ResetCause 6 and enters Boot. -/
  | debugReset (t : Nat)
  /-- DIE_HALT (R564): A service-level J12 session halts a die through its debug registers, voiding the single-fault promise in CoverageInForce. -/
  | dieHalt (t : Nat) (d : Fin 8)
  /-- POWER_STATE_ENTRY_COMPLETE (R194): An array's Nap or Sleep entry completes, and a demand that arrived during entry starts the wake at once. -/
  | powerStateEntryComplete (t : Nat) (g : Fin 128)
  /-- RAIL_OUTSIDE_WINDOW (R494): A rail's output outside ±8 % of its reference for 4 µs is detected by the rail controller and recorded as a fault. -/
  | railOutsideWindow (t : Nat) (r : Fin 16)
  deriving DecidableEq, Repr

end Sys2Proof
end

