-- ==== Sys2Proof/Machine/Sparse.lean ====
section
/-! DEFINITION. Sparse maps from natural keys to plain data, as sorted association lists in one canonical form:
keys strictly rising, no entry equal to what an unlisted key reads as. -/

namespace Sys2Proof.Machine

/-- The value at key `q`; an unlisted key reads as `d q`. -/
def smGet {α : Type} (d : Nat → α) : List (Nat × α) → Nat → α
  | [], q => d q
  | (k, v) :: r, q => if k = q then v else smGet d r q

/-- Insert or replace the value of key `q`, keeping the keys rising. -/
def smPut {α : Type} : List (Nat × α) → Nat → α → List (Nat × α)
  | [], q, v => [(q, v)]
  | (k, w) :: r, q, v =>
    if q < k then (q, v) :: (k, w) :: r
    else if q = k then (q, v) :: r
    else (k, w) :: smPut r q v

/-- Forget key `q`, so that it reads as its default. -/
def smErase {α : Type} (m : List (Nat × α)) (q : Nat) : List (Nat × α) :=
  m.filter (fun e => e.1 != q)

/-- Write `v` at `q`; writing the default removes the entry. -/
def smSet {α : Type} [DecidableEq α] (d : Nat → α) (m : List (Nat × α)) (q : Nat) (v : α) : List (Nat × α) :=
  if v = d q then smErase m q else smPut m q v

/-- Canonical form: keys strictly rising from `lo`, no entry equal to its default. -/
def smWfFrom {α : Type} [DecidableEq α] (d : Nat → α) : Nat → List (Nat × α) → Bool
  | _, [] => true
  | lo, (k, v) :: r => decide (lo ≤ k) && decide (v ≠ d k) && smWfFrom d (k + 1) r

/-- Canonical form of a whole map. -/
def smWf {α : Type} [DecidableEq α] (d : Nat → α) (m : List (Nat × α)) : Bool := smWfFrom d 0 m

/-- Apply `f` at key `q`. -/
def smModify {α : Type} [DecidableEq α] (d : Nat → α) (m : List (Nat × α)) (q : Nat) (f : α → α) : List (Nat × α) :=
  smSet d m q (f (smGet d m q))

/-- Element `i` of a list, or `d`. -/
def listGet {α : Type} (d : α) (l : List α) (i : Nat) : α := l.getD i d

/-- The bytes of `v`, least significant first, `n` of them. -/
def leBytes : Nat → Nat → List Nat
  | 0, _ => []
  | n + 1, v => v % 256 :: leBytes n (v / 256)

/-- The number that little-endian bytes spell. -/
def leNat : List Nat → Nat
  | [] => 0
  | b :: r => b + 256 * leNat r

/-- The number that big-endian bytes spell (Brucel headers and ring frames, R9). -/
def beNat (l : List Nat) : Nat := l.foldl (fun a b => a * 256 + b) 0

/-- The bytes of `v`, most significant first, `n` of them. -/
def beBytes (n v : Nat) : List Nat := (leBytes n v).reverse

/-- Bytes `i` to `i+n-1` of a list, zero where it is shorter. -/
def slice (l : List Nat) (i n : Nat) : List Nat :=
  let r := (l.drop i).take n
  r ++ List.replicate (n - r.length) 0

/-- A list made `n` long: cut, or padded with zero bytes. -/
def fitTo (n : Nat) (l : List Nat) : List Nat := slice l 0 n

/-- Bit `i` of `v`. -/
def bitOf (v i : Nat) : Bool := v / 2 ^ i % 2 = 1

/-- `v` with bit `i` set or cleared. -/
def setBit (v i : Nat) (b : Bool) : Nat :=
  if bitOf v i then (if b then v else v - 2 ^ i) else (if b then v + 2 ^ i else v)

/-- Field [hi:lo] of `v`. -/
def field (v hi lo : Nat) : Nat := v / 2 ^ lo % 2 ^ (hi + 1 - lo)

/-- Two's complement of width `w` as an integer. -/
def toSigned (w v : Nat) : Int := if v % 2 ^ w < 2 ^ (w - 1) then (v % 2 ^ w : Nat) else (v % 2 ^ w : Nat) - (2 ^ w : Nat)

/-- The `w`-bit pattern of an integer. -/
def toPattern (w : Nat) (v : Int) : Nat := (v % (2 ^ w : Nat)).toNat

/-- An integer clamped to `lo`..`hi`. -/
def clampI (lo hi v : Int) : Int := if v < lo then lo else if hi < v then hi else v

/-- Division rounding to nearest, halves away from zero. -/
def divRound (a b : Int) : Int :=
  if b = 0 then 0 else if 0 ≤ a * b then (2 * a.natAbs + b.natAbs : Nat) / (2 * b.natAbs : Nat)
  else - (((2 * a.natAbs + b.natAbs) / (2 * b.natAbs) : Nat) : Int)

/-- How many of a list satisfy a test. -/
def countP {α : Type} (p : α → Bool) (l : List α) : Nat := (l.filter p).length

/-- The sum of a list of integers. -/
def sumI (l : List Int) : Int := l.foldl (· + ·) 0

/-- The sum of a list of naturals. -/
def sumN (l : List Nat) : Nat := l.foldl (· + ·) 0

/-- Set element `i` of a list. -/
def listSet {α : Type} (l : List α) (i : Nat) (v : α) : List α := l.set i v

end Sys2Proof.Machine
end

