-- ==== Sys2Proof/Machine/Formats.lean ====
section
/-! DEFINITION. The number formats and the arithmetic of chapter 7: GL8, GL6, GL4, the cell and edge sums, fixed point
and the standard formats. Every function depends only on operands, curves and bundle fields (R217). -/

namespace Sys2Proof.Machine

/-- Bits of the arithmetic flags, Table 7.11 (R226). -/
def flEncUnder : Nat := 1
/-- [1] EncodeSaturate -/
def flEncSat : Nat := 2
/-- [2] RebaseUnderflow -/
def flRebUnder : Nat := 4
/-- [3] RebaseSaturate -/
def flRebSat : Nat := 8
/-- [4] AccumulatorSaturated -/
def flAccSat : Nat := 16
/-- [5] OutputSaturated -/
def flOutSat : Nat := 32
/-- [6] InputInfinite -/
def flInInf : Nat := 64
/-- [7] InputInvalid -/
def flInInvalid : Nat := 128
/-- [8] FixedSaturated -/
def flFixedSat : Nat := 256

/-- A value with the flags its computation raised. -/
abbrev Flagged (α : Type) := α × Nat

/-- The union of two flag words. -/
def flOr (a b : Nat) : Nat := a ||| b

/-- A 32-bit pattern as a signed integer. -/
def s32 (v : Nat) : Int := toSigned 32 v

/-- The 32-bit pattern of an integer. -/
def u32 (v : Int) : Nat := toPattern 32 v

/-- Saturation to 32 bits, with its flag (R220). -/
def satFixed (v : Int) : Flagged Nat :=
  if v < -2147483648 then (u32 (-2147483648), flFixedSat)
  else if 2147483647 < v then (u32 2147483647, flFixedSat)
  else (u32 v, 0)

/-- R220, Add. -/
def fxAdd (a b : Nat) : Flagged Nat := satFixed (s32 a + s32 b)

/-- R220, Subtract. -/
def fxSub (a b : Nat) : Flagged Nat := satFixed (s32 a - s32 b)

/-- R220: the exact product, plus 2^(s-1) when s ≥ 1, shifted right arithmetically by s, saturated. -/
def mulShift (a b s : Nat) : Flagged Nat :=
  satFixed ((s32 a * s32 b + (if s = 0 then 0 else (2 ^ (s - 1) : Nat))) / (2 ^ s : Nat))

/-- R220: shift right rounding as MulShift does. -/
def fxShr (a s : Nat) : Flagged Nat :=
  satFixed ((s32 a + (if s = 0 then 0 else (2 ^ (s - 1) : Nat))) / (2 ^ s : Nat))

/-- R220: shift left, exact and then saturated. -/
def fxShl (a s : Nat) : Flagged Nat := satFixed (s32 a * (2 ^ s : Nat))

/-- R220: MulShift of two compensator operands as integers. -/
def mulShiftI (a b : Int) (s : Nat) : Int :=
  clampI (-2147483648) 2147483647 ((a * b + (if s = 0 then 0 else (2 ^ (s - 1) : Nat))) / (2 ^ s : Nat))

/-! ### GL formats -/

/-- Fraction bits n of GL format 0 GL8, 1 GL6, 2 GL4 (Table 7.1). -/
def glN (f : Nat) : Nat := if f = 0 then 3 else if f = 1 then 2 else 1

/-- Code offset c of Table 7.1. -/
def glC (f : Nat) : Int := if f = 0 then 8 else if f = 1 then 4 else 2

/-- Width w of the integer field of Table 7.1. -/
def glW (f : Nat) : Nat := if f = 0 then 4 else if f = 1 then 3 else 2

/-- Bits of the magnitude code: 7, 5 and 3. -/
def glMBits (f : Nat) : Nat := glN f + glW f

/-- Top magnitude code: 127, 31 and 7. -/
def glTop (f : Nat) : Nat := 2 ^ glMBits f - 1

/-- Bias B of Table 7.8. -/
def glBias (f : Nat) : Int := if f = 0 then 48 else if f = 1 then 24 else 12

/-- Reach below the reference in octaves, Table 7.8. -/
def glReach (f : Nat) : Int := if f = 0 then 16 else if f = 1 then 8 else 4

/-- Top of the range of r, Table 7.8. -/
def glRTop (f : Nat) : Int := if f = 0 then 255 else if f = 1 then 63 else 15

/-- What an element code means (R203). -/
inductive GlCode where
  | zero
  | sat (neg : Bool)
  | val (neg : Bool) (m : Nat)
  deriving DecidableEq, Repr

/-- R203, R204: an element code under the block exponent byte `e`; in a zero block every element reads as zero. -/
def glDecode (f code e : Nat) : GlCode :=
  let m := code % 2 ^ glMBits f
  let neg := bitOf code (glMBits f)
  if e % 256 = 128 then .zero
  else if m = 0 then (if neg && f != 2 then .sat true else .zero)
  else .val neg m

/-- The saturate code, which is the sign-1 code with m = 0 (R203); it carries its sign in the rules that follow by the
code alone, so GL8 and GL6 hold one saturate code. -/
def glSatCode (f : Nat) : Nat := 2 ^ glMBits f

/-- Where GL8 or GL6 produce the saturate code, GL4 produces the largest magnitude code of the right sign (Table 7.2). -/
def glSaturate (f : Nat) (neg : Bool) : Nat :=
  if f = 2 then glTop f + (if neg then 2 ^ glMBits f else 0) else glSatCode f

/-- The code of sign and magnitude. -/
def glPack (f : Nat) (neg : Bool) (m : Nat) : Nat := m + (if neg then 2 ^ glMBits f else 0)

/-- An exact source or target value: (-1)^neg × m × 2^e, or a special one. -/
inductive Lin where
  | fin (neg : Bool) (m : Nat) (e : Int)
  | inf (neg : Bool)
  | nan (neg : Bool)
  | sat (neg : Bool)
  deriving DecidableEq, Repr

/-- floor(log2 m) + e, and the 16-bit mantissa of R209, of a nonzero value m × 2^e. -/
def linK (m : Nat) (e : Int) : Int := (Nat.log2 m : Int) + e

/-- m16 = floor(y / 2^k × 32768). -/
def lin16 (m : Nat) : Nat :=
  if 15 ≤ Nat.log2 m then m / 2 ^ (Nat.log2 m - 15) else m * 2 ^ (15 - Nat.log2 m)

/-- R209: exponent k after the comparison with T(2^n - 1), and fraction f. `T` are the threshold entries. -/
def glKF (f : Nat) (T : List Nat) (m : Nat) (e : Int) : Int × Nat :=
  let m16 := lin16 m
  let last := 2 ^ glN f - 1
  if listGet 0 T last ≤ m16 then (linK m e + 1, 0)
  else (linK m e, countP (fun t => decide (t ≤ m16)) (T.take last))

/-- R209: a nonzero finite value under the block exponent `E`. -/
def glEncodeFin (f : Nat) (T : List Nat) (E : Int) (neg : Bool) (m : Nat) (e : Int) : Flagged Nat :=
  if m = 0 then (0, 0)
  else
    let kf := glKF f T m e
    let i := kf.1 - E + glC f
    if i < 0 ∨ (i = 0 ∧ kf.2 = 0) then (0, flEncUnder)
    else if ((2 ^ glW f - 1 : Nat) : Int) < i then (glSaturate f neg, flEncSat)
    else (glPack f neg (i.toNat * 2 ^ glN f + kf.2), 0)

/-- R209 and R210: any source value. -/
def glEncode (f : Nat) (T : List Nat) (E : Int) : Lin → Flagged Nat
  | .fin neg m e => glEncodeFin f T E neg m e
  | .inf neg => (glSaturate f neg, flInInf)
  | .nan neg => (glSaturate f neg, flInInvalid)
  | .sat neg => (glSaturate f neg, flOutSat)

/-- Whether magnitude m × 2^e is below m' × 2^e'. -/
def magLt (m : Nat) (e : Int) (m' : Nat) (e' : Int) : Bool :=
  if e ≤ e' then decide (m < m' * 2 ^ (e' - e).toNat) else decide (m * 2 ^ (e - e').toNat < m')

/-- The largest finite magnitude of a block, zero if there is none; special values are ignored (R210). -/
def linMax : List Lin → Nat × Int
  | [] => (0, 0)
  | .fin _ m e :: r => let b := linMax r; if magLt b.1 b.2 m e then (m, e) else b
  | _ :: r => linMax r

/-- R208, automatic choice of the block exponent, as its byte. -/
def glAutoE (f : Nat) (T : List Nat) (xs : List Lin) : Int :=
  let b := linMax xs
  if b.1 = 0 then -127
  else clampI (-127) 127 ((glKF f T b.1 b.2).1 + glC f - (2 ^ glW f - 1 : Nat))

/-- R208 to R210: a block of source values into codes with the exponent in [15:8]; `fixed` gives E, `none` chooses it.
A block in which every value converts to the zero code gets the exponent 0x80. -/
def glEncodeBlock (f : Nat) (T : List Nat) (fixed : Option Int) (xs : List Lin) : Flagged (List Nat) :=
  match fixed with
  | some E =>
    let cs := xs.map (glEncode f T E)
    (cs.map (fun c => c.1 + 256 * toPattern 8 E), cs.foldl (fun a c => flOr a c.2) 0)
  | none =>
    let E := glAutoE f T xs
    let cs := xs.map (glEncode f T E)
    let eb := if cs.all (fun c => c.1 == 0) then 128 else toPattern 8 E
    (cs.map (fun c => c.1 + 256 * eb), cs.foldl (fun a c => flOr a c.2) 0)

/-- R204: the exact value of an element under the curve `D`. -/
def glValue (f : Nat) (D : List Nat) (code e : Nat) : Lin :=
  match glDecode f code e with
  | .zero => .fin false 0 0
  | .sat neg => .sat neg
  | .val neg m =>
    .fin neg (listGet 0 D (m % 2 ^ glN f)) (toSigned 8 e + (m / 2 ^ glN f : Nat) - glC f - 15)

/-- R218, GL multiply, of two lanes that carry code and block exponent. -/
def glMul (f la lb : Nat) : Flagged Nat :=
  let ea := la / 256 % 256
  let eb := lb / 256 % 256
  let es : Int := toSigned 8 ea + toSigned 8 eb
  let E := if ea = 128 ∨ eb = 128 then (-128) else clampI (-127) 127 es
  let adj := if ea = 128 ∨ eb = 128 then 0 else es - E
  let pack := fun (c : Nat) => c + 256 * toPattern 8 E
  match glDecode f la ea, glDecode f lb eb with
  | .zero, _ => (pack 0, 0)
  | _, .zero => (pack 0, 0)
  | .sat na, .sat nb => (pack (glSaturate f (na != nb)), flEncSat)
  | .sat na, .val nb _ => (pack (glSaturate f (na != nb)), flEncSat)
  | .val na _, .sat nb => (pack (glSaturate f (na != nb)), flEncSat)
  | .val na ma, .val nb mb =>
    let m : Int := (ma : Int) + mb - (2 ^ glN f : Nat) * glC f + (2 ^ glN f : Nat) * adj
    if m < 1 then (pack 0, flEncUnder)
    else if (glTop f : Int) < m then (pack (glSaturate f (na != nb)), flEncSat)
    else (pack (glPack f (na != nb) m.toNat), 0)

/-- A key that orders GL lanes by value: rebased to a common exponent with no loss (R218). -/
def glKey (f l : Nat) : Int :=
  let e := l / 256 % 256
  match glDecode f l e with
  | .zero => 0
  | .sat neg => if neg then -100000 else 100000
  | .val neg m =>
    let k : Int := (2 ^ glN f : Nat) * (toSigned 8 e + 256) + m
    if neg then -k else k

/-- Conditions 0 eq, 1 ne, 2 lt, 3 le, 4 gt, 5 ge of VCMP and VGLCMP. -/
def condHolds (c : Nat) (a b : Int) : Bool :=
  match c with
  | 0 => decide (a = b)
  | 1 => decide (a ≠ b)
  | 2 => decide (a < b)
  | 3 => decide (a ≤ b)
  | 4 => decide (b < a)
  | _ => decide (b ≤ a)

/-! ### The cell, the edges -/

/-- A rebased operand: the tag and r of R211. -/
inductive CellOp where
  | zero
  | sat (neg : Bool)
  | val (neg : Bool) (r : Nat)
  deriving DecidableEq, Repr

/-- R211: an element rebased to the reference exponent. -/
def rebase (f : Nat) (eref : Int) (code e : Nat) : Flagged CellOp :=
  match glDecode f code e with
  | .zero => (.zero, 0)
  | .sat neg => (.sat neg, 0)
  | .val neg m =>
    let r : Int := m + (2 ^ glN f : Nat) * (toSigned 8 e - eref + glReach f)
    if r < 1 then (.zero, flRebUnder)
    else if glRTop f < r then
      ((if f = 2 then .val neg 15 else .sat neg), flRebSat)
    else (.val neg r.toNat, 0)

/-- A contribution to a partial sum: nothing, the bound of a sign, or a signed amount. -/
inductive Contrib where
  | none
  | bound (neg : Bool)
  | add (v : Int)
  deriving DecidableEq, Repr

/-- R212 and R170: the product of two rebased operands through the CCR under FrameShift F. -/
def cellProduct (f : Nat) (ccr : List Nat) (F : Nat) (a b : CellOp) : Contrib :=
  match a, b with
  | .zero, _ => .none
  | _, .zero => .none
  | .sat na, .sat nb => .bound (na != nb)
  | .sat na, .val nb _ => .bound (na != nb)
  | .val na _, .sat nb => .bound (na != nb)
  | .val na ra, .val nb rb =>
    let s := ra + rb
    let q := s / 2 ^ glN f
    let d := listGet 0 ccr (s % 2 ^ glN f)
    let neg := na != nb
    if F + 16 ≤ q then .bound neg
    else
      let c : Nat := if F ≤ q then d * 2 ^ (q - F) else (d + 2 ^ (F - q - 1)) / 2 ^ (F - q)
      .add (if neg then -(c : Int) else c)

/-- A partial sum or edge sum with its saturated bit (R214). -/
structure PSum where
  v : Int := 0
  sat : Bool := false
  deriving DecidableEq, Repr, Inhabited

/-- R214: addition into a sum. -/
def psAdd (p : PSum) : Contrib → Flagged PSum
  | .none => (p, 0)
  | .bound neg => if p.sat then (p, 0) else ({ v := if neg then -2147483648 else 2147483647, sat := true }, flAccSat)
  | .add c =>
    if p.sat then (p, 0)
    else if p.v + c < -2147483648 then ({ v := -2147483648, sat := true }, flAccSat)
    else if 2147483647 < p.v + c then ({ v := 2147483647, sat := true }, flAccSat)
    else ({ v := p.v + c, sat := false }, 0)

/-- R213: the contributions of a GL4 lane pair, added in 34 bits. -/
def pairContrib : Contrib → Contrib → Contrib
  | .bound n, _ => .bound n
  | _, .bound n => .bound n
  | .none, c => c
  | c, .none => c
  | .add a, .add b => .add (a + b)

/-- The contribution of one cell to its sum in one step: one product in GL8 and GL6, the pair in GL4 (R212, R213).
Operand slots are lists of one or two rebased operands. -/
def cellContrib (f : Nat) (ccr : List Nat) (F : Nat) (a b : List CellOp) : Contrib :=
  let p := fun i => cellProduct f ccr F (listGet .zero a i) (listGet .zero b i)
  if f = 2 then pairContrib (p 0) (p 1) else p 0

/-- Nearest integer to a / 2^d, ties away from zero. -/
def shrAway (a : Int) (d : Nat) : Int :=
  if d = 0 then a
  else
    let q : Int := ((a.natAbs + 2 ^ (d - 1)) / 2 ^ d : Nat)
    if a < 0 then -q else q

/-- R215: the column exponent, held as a 16-bit signed value. -/
def columnExp (f F : Nat) (ew en : Int) : Int :=
  toSigned 16 (toPattern 16 ((F : Int) - 15 + ew + en - glBias f))

/-- The right shift of R216: a difference of 32 or more contributes 0. -/
def edgeShift (v : Int) (d : Int) : Int := if 32 ≤ d then 0 else shrAway v d.toNat

/-- R216: an arriving pair into the running sum, both aligned to the larger exponent `x`. -/
def edgeAdd (run arr : PSum) (xr xa x : Int) : Flagged PSum :=
  let rv := edgeShift run.v (x - xr)
  let av := edgeShift arr.v (x - xa)
  if run.sat then ({ v := rv, sat := true }, 0)
  else if arr.sat then ({ v := av, sat := true }, 0)
  else psAdd { v := rv, sat := false } (.add av)

/-! ### Binary and MX formats -/

/-- A binary format: precision p with the hidden bit, exponent of its smallest subnormal, largest finite code, bits. -/
structure BinFmt where
  p : Nat
  qmin : Int
  maxCode : Nat
  signBit : Nat
  deriving DecidableEq, Repr

/-- Formats of Table 7.9 by the codes of R236: 1 binary32, 2 binary16, 3 bfloat16, 4 E4M3, 5 E5M2, 6 E2M1. -/
def binFmt (c : Nat) : BinFmt :=
  match c with
  | 1 => ⟨24, -149, 0x7F7FFFFF, 31⟩
  | 2 => ⟨11, -24, 0x7BFF, 15⟩
  | 3 => ⟨8, -133, 0x7F7F, 15⟩
  | 4 => ⟨4, -9, 0x7E, 7⟩
  | 5 => ⟨3, -16, 0x7B, 7⟩
  | _ => ⟨2, -1, 7, 3⟩

/-- The value of a code of binary format `c`, times 2^sc; NaN and infinity as Table 7.9 has them (R223). -/
def binDecode (c : Nat) (code : Nat) (sc : Int) : Lin :=
  let b := binFmt c
  let neg := bitOf code b.signBit
  let mag := code % 2 ^ b.signBit
  if b.maxCode < mag then
    if c = 4 then .nan neg
    else if mag = b.maxCode + 1 then .inf neg else .nan neg
  else
    let fld := mag / 2 ^ (b.p - 1)
    let fr := mag % 2 ^ (b.p - 1)
    if fld = 0 then .fin neg fr (b.qmin + sc)
    else .fin neg (2 ^ (b.p - 1) + fr) (b.qmin + fld - 1 + sc)

/-- Round m × 2^e to an integer, ties to even. -/
def rndEven (m : Nat) (e : Int) : Nat :=
  if 0 ≤ e then m * 2 ^ e.toNat
  else
    let d := (-e).toNat
    let q := m / 2 ^ d
    let r := m % 2 ^ d
    if 2 * r < 2 ^ d then q else if 2 ^ d < 2 * r then q + 1 else if q % 2 = 0 then q else q + 1

/-- Round m × 2^e to an integer, ties away from zero. -/
def rndAway (m : Nat) (e : Int) : Nat :=
  if 0 ≤ e then m * 2 ^ e.toNat
  else (m + 2 ^ ((-e).toNat - 1)) / 2 ^ (-e).toNat

/-- R219, R221, R223: a value into a binary format, to nearest even, by gradual underflow, saturating. `fromBin`: the source
is a binary format, the only one whose negative zero is kept. -/
def binEncode (c : Nat) (sc : Int) (fromBin : Bool) : Lin → Flagged Nat
  | .fin neg m e =>
    let b := binFmt c
    let sign := if neg then 2 ^ b.signBit else 0
    if m = 0 then ((if neg && fromBin && decide (c ≤ 3) then sign else 0), 0)
    else
      let e' := e - sc
      let q := max b.qmin (linK m e' + 1 - b.p)
      let code := ((q - b.qmin).toNat) * 2 ^ (b.p - 1) + rndEven m (e' - q)
      if code = 0 then (0, 0)
      else if b.maxCode < code then (b.maxCode + sign, flOutSat) else (code + sign, 0)
  | .inf neg => ((binFmt c).maxCode + (if neg then 2 ^ (binFmt c).signBit else 0), flInInf ||| flOutSat)
  | .nan neg => ((binFmt c).maxCode + (if neg then 2 ^ (binFmt c).signBit else 0), flInInvalid)
  | .sat neg => ((binFmt c).maxCode + (if neg then 2 ^ (binFmt c).signBit else 0), flOutSat)

/-- R219: a value into Qm.n, ties away from zero, saturating. -/
def qEncode (n : Nat) : Lin → Flagged Nat
  | .fin neg m e =>
    let v : Int := rndAway m (e + n)
    let v := if neg then -v else v
    if v < -2147483648 then (u32 (-2147483648), flOutSat)
    else if 2147483647 < v then (u32 2147483647, flOutSat) else (u32 v, 0)
  | .inf neg => (if neg then u32 (-2147483648) else 2147483647, flInInf ||| flOutSat)
  | .nan neg => (if neg then u32 (-2147483648) else 2147483647, flInInvalid)
  | .sat neg => (if neg then u32 (-2147483648) else 2147483647, flOutSat)

/-- emax of R224. -/
def mxEmax (c : Nat) : Int := if c = 4 then 8 else if c = 5 then 15 else 2

/-- R224: the shared scale exponent of a block. -/
def mxScale (c : Nat) (xs : List Lin) : Int :=
  let b := linMax xs
  if b.1 = 0 then 0 else clampI (-127) 127 (linK b.1 b.2 - mxEmax c)

/-- R224: a block into an MX format, codes with the E8M0 scale in [15:8]. -/
def mxEncodeBlock (c : Nat) (xs : List Lin) : Flagged (List Nat) :=
  let sc := mxScale c xs
  let cs := xs.map (binEncode c sc false)
  (cs.map (fun v => v.1 + 256 * (sc + 127).toNat), cs.foldl (fun a v => flOr a v.2) 0)

/-- The 16 words of a reference curve: decode entries 0 to 2^n - 1, threshold entries 8 to 8 + 2^n - 1 (Table 7.5). -/
def refCurve (f : Nat) : List Nat :=
  if f = 0 then
    [0x8000, 0x8B96, 0x9838, 0xA5FF, 0xB505, 0xC567, 0xD745, 0xEAC1,
     0x85AB, 0x91C4, 0x9EF5, 0xAD58, 0xBD09, 0xCE25, 0xE0CD, 0xF525]
  else if f = 1 then
    [0x8000, 0x9838, 0xB505, 0xD745, 0, 0, 0, 0, 0x8B96, 0xA5FF, 0xC567, 0xEAC1, 0, 0, 0, 0]
  else
    [0x8000, 0xB505, 0, 0, 0, 0, 0, 0, 0x9838, 0xD745, 0, 0, 0, 0, 0, 0]

/-! ### VCVT -/

/-- The exact value of a lane of source format `c` (R236): Qm.n with n, binary, MX with the scale in [15:8], GL with the
exponent in [15:8] under decode entries `D`, or a column result with exponent X and its saturated bit. -/
def vcvtSource (c n : Nat) (X : Int) (D : List Nat) (sat : Bool) (l : Nat) : Lin :=
  if c = 0 then .fin (decide (s32 l < 0)) (s32 l).natAbs (-(n : Int))
  else if c ≤ 3 then binDecode c (l % (if c = 1 then 4294967296 else 65536)) 0
  else if c ≤ 6 then
    let sc := l / 256 % 256
    let code := l % (if c = 6 then 16 else 256)
    if sc = 255 then .nan (bitOf code (binFmt c).signBit) else binDecode c code ((sc : Int) - 127)
  else if c ≤ 9 then glValue (c - 7) D (l % 256) (l / 256 % 256)
  else if sat then .sat (decide (s32 l < 0))
  else .fin (decide (s32 l < 0)) (s32 l).natAbs X

/-- One 32-lane block through VCVT (R236): source `src`, target `tgt`, n, X, fixed exponent, curve entries (decode, threshold)
and saturated bits per lane. -/
def vcvtBlock (tgt src n : Nat) (X : Int) (fixed : Option Int) (D T : List Nat) (ls : List (Nat × Bool)) : Flagged (List Nat) :=
  let xs := ls.map (fun l => vcvtSource src n X D l.2 l.1)
  if tgt = 0 then
    let cs := xs.map (qEncode n)
    (cs.map (·.1), cs.foldl (fun a v => flOr a v.2) 0)
  else if tgt ≤ 3 then
    let cs := xs.map (binEncode tgt 0 (decide (1 ≤ src ∧ src ≤ 3)))
    (cs.map (·.1), cs.foldl (fun a v => flOr a v.2) 0)
  else if tgt ≤ 6 then mxEncodeBlock tgt xs
  else glEncodeBlock (tgt - 7) T fixed xs

end Sys2Proof.Machine
end

