-- ==== Sys2Proof/Config.lean ====
section
/-! DEFINITION. What an implementation fixes and what the spec leaves open: opaque constants, so that no statement can rest on a
value of theirs. -/

namespace Sys2Proof.Config

/-- Free value: the next state of the 15-bit dither sequence, whose polynomial R356 does not give (log entry 10). -/
opaque ditherNext : Nat → Nat

/-- Free value: raw power estimate of die `d` in mW at evaluation `k`; the energy table is not published (R454, log entry 11). -/
opaque dieEstimate : Nat → Nat → Nat

/-- Free value: energy of an evaluation interval that falls to an owner, mJ; table not published (R455, log entry 11). -/
opaque ownerEnergy : Nat → Nat → Nat

/-- Free value: binary32 exponential, whose rounding R413 does not give (log entry 12). -/
opaque exp32 : Rat → Rat

/-- Free value: binary32 natural logarithm (R413, log entry 12). -/
opaque ln32 : Rat → Rat

/-- Free value: an interpolated lookup between two entries at a fraction of 256 whose exact result is no integer (R179, log entry 13). -/
opaque interp : Nat → Nat → Nat → Nat

/-- Free value: converter power at the bus in W from the 54 sense values; the spec names it and gives no formula (Table 9.3, R300, log
entry 48). -/
opaque converterPower : List Int → Int

/-- Free value: random bytes of challenges, `n` of them at draw `k` (R561, R563, log entry 14). -/
opaque randomByte : Nat → Nat → Nat

/-- Free value: signature r and s of the device key, whose private key and nonce never leave the module (R551, log entry 14). -/
opaque deviceSign : List Nat → Nat → Nat


/-- Free value: operand slots of weight register `k` at the start of a tick or slice, draw `n` (R174, log entry 16). -/
opaque cellWeight : Nat → Nat → List Machine.CellOp
/-- Free value: partial sum `k` at the start of a tick or slice, draw `n` (R174, log entry 16). -/
opaque cellSum : Nat → Nat → Machine.PSum
/-- Free value: edge accumulator `k` at the start of a tick or slice, draw `n` (R174, log entry 16). -/
opaque edgeSum : Nat → Nat → Machine.PSum
/-- Free value: CCR entry `e` of an array that has woken from Sleep and has loaded no curve since, draw `n` (R190, log entry 16). -/
opaque ccrEntry : Nat → Nat → Nat
/-- Free value: what R235's SETMODE and SETREF fields, word inputs of foreign words and other unstated numbers hold, draw `n` (log entry 16). -/
opaque number : Nat → Nat
/-- Free value: an unstated signed number, draw `n` (log entry 16). -/
opaque integer : Nat → Int
/-- Per part: byte `i` of the fused value of object `key` (R528, log entry 15). -/
opaque fuseByte : Nat → Nat → Nat

/-- Per part: numeric fused value of object `key` (R528, log entry 15). -/
opaque fuseNum : Nat → Nat

/-- Per part: fused voltage code of die `d` at point `n` (R446, log entry 15). -/
opaque fusedCode : Nat → Nat → Nat

/-- Per part: fused voltage code of a rail that holds its code (R440, log entry 15). -/
opaque railCode : Nat → Nat

/-- Per part: byte `i` of Zheud's public key `j` as the fuses name it: 0 firmware, 1 author certification, 2 session, 3 factory
countersigning, 4 Zheud's own author key, 5 this module's device key (R550, log entry 15). -/
opaque zheudKey : Nat → Nat → Nat
/-- Per part: IDCODE register of the module's TAP (R79, log entry 15). -/
opaque idcode : Nat

/-- Per part: the boundary register as SAMPLE captures it at draw `k`. -/
opaque boundary : Nat → List Nat

/-- Free value: byte `i` of SoftwareVersion for an image of version `v`; the spec gives no format for the text (Table 19.6, log entry 15). -/
opaque versionText : Nat → Nat → Nat

/-- Per part: version of the image that a half was shipped with; `kind` 1 main, 2 Seed (R554, log entry 15). -/
opaque shippedVersion : Nat → Nat

/-- Per part: RollbackIndex of the image that a half was shipped with; `kind` 1 main, 2 Seed (R557, log entry 15). -/
opaque shippedRollback : Nat → Nat

end Sys2Proof.Config
end

