-- ==== Sys2Proof/Machine/Objects.lean ====
section
/-! DEFINITION. Keys of the object dictionary: one name per object of the spec's object tables (index * 256 + subindex). -/

namespace Sys2Proof.Machine.Obj

/-- 0x2000:02 OrderingCode (UNSIGNED8, RO), Table 0.2, R4 of spec/00_scope.md. -/
abbrev orderingCode : Nat := 0x200002
/-- 0x2900:01 RampLimit (UNSIGNED32, RW), Table 1.3, R20 of spec/01_load_shaping.md. -/
abbrev rampLimit2900 : Nat := 0x290001
/-- 0x2900:02 RampLimitReserve (UNSIGNED32, RW), Table 1.3, R20 of spec/01_load_shaping.md. -/
abbrev rampLimitReserve2900 : Nat := 0x290002
/-- 0x2900:03 FidelityExceptionCount (UNSIGNED32, RO), Table 1.3, R20 of spec/01_load_shaping.md. -/
abbrev fidelityExceptionCount2900 : Nat := 0x290003
/-- 0x2900:04 LastFidelityException (UNSIGNED8, RO), Table 1.3, R20 of spec/01_load_shaping.md. -/
abbrev lastFidelityException2900 : Nat := 0x290004
/-- 0x2900:05 LastFidelityExceptionTime (HallTime, RO), Table 1.3, R20 of spec/01_load_shaping.md. -/
abbrev lastFidelityExceptionTime : Nat := 0x290005
/-- 0x2C00:01 SocWindowLow (UNSIGNED16, RW), Table 1.3, R20 of spec/01_load_shaping.md. -/
abbrev socWindowLow : Nat := 0x2C0001
/-- 0x2C00:02 SocWindowHigh (UNSIGNED16, RW), Table 1.3, R20 of spec/01_load_shaping.md. -/
abbrev socWindowHigh : Nat := 0x2C0002
/-- 0x3000:01 ModuleState (UNSIGNED8, RO), Table 1.8, R24 of spec/01_load_shaping.md. -/
abbrev moduleState3000 : Nat := 0x300001
/-- 0x3000:02 ModuleRequest (UNSIGNED8, RW), Table 1.8, R24 of spec/01_load_shaping.md. -/
abbrev moduleRequest : Nat := 0x300002
/-- 0x2010:01 HalfAState (UNSIGNED8, RO), Table 2.8, R42 of spec/02_module_and_package.md. -/
abbrev halfAState : Nat := 0x201001
/-- 0x2010:02 HalfBState (UNSIGNED8, RO), Table 2.8, R42 of spec/02_module_and_package.md. -/
abbrev halfBState : Nat := 0x201002
/-- 0x2010:03 CrossLinkState (UNSIGNED8, RO), Table 2.8, R42 of spec/02_module_and_package.md. -/
abbrev crossLinkState : Nat := 0x201003
/-- 0x2010:04 LaneSelectorMap (UNSIGNED64, RO), Table 2.8, R42 of spec/02_module_and_package.md. -/
abbrev laneSelectorMap : Nat := 0x201004
/-- 0x2D01:01–0x2D01:20 DomainState (UNSIGNED8, RO), Table 2.8, R42 of spec/02_module_and_package.md. -/
abbrev domainState2D01 (j : Nat) : Nat := 0x2D01 * 256 + 1 + j
/-- 0x2F10:01 AuthorityHolder (UNSIGNED8, RO), Table 2.13, R52 of spec/02_module_and_package.md. -/
abbrev authorityHolder2F10 : Nat := 0x2F1001
/-- 0x2F10:02 AuthorityTransferRequest (UNSIGNED8, RW), Table 2.13, R52 of spec/02_module_and_package.md. -/
abbrev authorityTransferRequest : Nat := 0x2F1002
/-- 0x2F10:03 AuthorityTransferCount (UNSIGNED32, RO), Table 2.13, R52 of spec/02_module_and_package.md. -/
abbrev authorityTransferCount : Nat := 0x2F1003
/-- 0x2F10:04 AuthorityLatches (UNSIGNED8, RO), Table 2.13, R52 of spec/02_module_and_package.md. -/
abbrev authorityLatches : Nat := 0x2F1004
/-- 0x2011:01 DiscreteInputs (UNSIGNED32, RO), Table 3.7, R75 of spec/03_connectors_and_signals.md. -/
abbrev discreteInputs2011 : Nat := 0x201101
/-- 0x2100:01 ShelfNumber (UNSIGNED8, RW), Table 4.14, R126 of spec/04_brucel_fabric.md. -/
abbrev shelfNumber : Nat := 0x210001
/-- 0x2100:02 EtherType (UNSIGNED16, RW), Table 4.14, R126 of spec/04_brucel_fabric.md. -/
abbrev etherType : Nat := 0x210002
/-- 0x2100:03 HallDomainId (UNSIGNED16, RW), Table 4.14, R126 of spec/04_brucel_fabric.md. -/
abbrev hallDomainId : Nat := 0x210003
/-- 0x2100:04 HallDimensions (UNSIGNED16, RW), Table 4.14, R126 of spec/04_brucel_fabric.md. -/
abbrev hallDimensions : Nat := 0x210004
/-- 0x2100:05 BaseMacAddress (UNSIGNED48, RO), Table 4.14, R126 of spec/04_brucel_fabric.md. -/
abbrev baseMacAddress : Nat := 0x210005
/-- 0x2100:06 RetryTimeoutTray (UNSIGNED16, RW), Table 4.14, R126 of spec/04_brucel_fabric.md. -/
abbrev retryTimeoutTray : Nat := 0x210006
/-- 0x2100:07 RetryTimeoutHall (UNSIGNED16, RW), Table 4.14, R126 of spec/04_brucel_fabric.md. -/
abbrev retryTimeoutHall : Nat := 0x210007
/-- 0x2100:08 HallTimeState (UNSIGNED8, RO), Table 4.14, R126 of spec/04_brucel_fabric.md. -/
abbrev hallTimeState : Nat := 0x210008
/-- 0x2100:09 HallTimeRoot (UNSIGNED8, RO), Table 4.14, R126 of spec/04_brucel_fabric.md. -/
abbrev hallTimeRoot : Nat := 0x210009
/-- 0x2100:0A HallTimeParentOffset (INTEGER32, RO), Table 4.14, R126 of spec/04_brucel_fabric.md. -/
abbrev hallTimeParentOffset : Nat := 0x21000A
/-- 0x2100:0B HallTimeSet (HallTime, RW), Table 4.14, R126 of spec/04_brucel_fabric.md. -/
abbrev hallTimeSet : Nat := 0x21000B
/-- 0x2100:0C FlowResets (UNSIGNED32, RO), Table 4.14, R126 of spec/04_brucel_fabric.md. -/
abbrev flowResets : Nat := 0x21000C
/-- 0x2110+n:01 LinkState (UNSIGNED16, RO), Table 4.15, R127 of spec/04_brucel_fabric.md. -/
abbrev linkState (n : Nat) : Nat := (0x2110 + n) * 256 + 1
/-- 0x2110+n:02 PeerShelf (UNSIGNED8, RO), Table 4.15, R127 of spec/04_brucel_fabric.md. -/
abbrev peerShelf (n : Nat) : Nat := (0x2110 + n) * 256 + 2
/-- 0x2110+n:03 CorrectedCodewords (UNSIGNED64, RO), Table 4.15, R127 of spec/04_brucel_fabric.md. -/
abbrev correctedCodewords (n : Nat) : Nat := (0x2110 + n) * 256 + 3
/-- 0x2110+n:04 UncorrectableCodewords (UNSIGNED64, RO), Table 4.15, R127 of spec/04_brucel_fabric.md. -/
abbrev uncorrectableCodewords (n : Nat) : Nat := (0x2110 + n) * 256 + 4
/-- 0x2110+n:05 FcsErrors (UNSIGNED32, RO), Table 4.15, R127 of spec/04_brucel_fabric.md. -/
abbrev fcsErrors (n : Nat) : Nat := (0x2110 + n) * 256 + 5
/-- 0x2110+n:06 DiscardedFrames (UNSIGNED32, RO), Table 4.15, R127 of spec/04_brucel_fabric.md. -/
abbrev discardedFrames (n : Nat) : Nat := (0x2110 + n) * 256 + 6
/-- 0x2110+n:07 Retransmissions (UNSIGNED32, RO), Table 4.15, R127 of spec/04_brucel_fabric.md. -/
abbrev retransmissions2110 (n : Nat) : Nat := (0x2110 + n) * 256 + 7
/-- 0x2110+n:08 AgedPromotions (UNSIGNED32, RO), Table 4.15, R127 of spec/04_brucel_fabric.md. -/
abbrev agedPromotions (n : Nat) : Nat := (0x2110 + n) * 256 + 8
/-- 0x2300+t:01 TenantTag (UNSIGNED8, RW), Table 5.6, R134 of spec/05_sync_objects.md. -/
abbrev tenantTag (t : Nat) : Nat := (0x2300 + t) * 256 + 1
/-- 0x2300+t:02 TenantState (UNSIGNED8, RO), Table 5.6, R134 of spec/05_sync_objects.md. -/
abbrev tenantState (t : Nat) : Nat := (0x2300 + t) * 256 + 2
/-- 0x2300+t:03 TenantCommand (UNSIGNED8, RW), Table 5.6, R134 of spec/05_sync_objects.md. -/
abbrev tenantCommand (t : Nat) : Nat := (0x2300 + t) * 256 + 3
/-- 0x2300+t:04 WordQuota (UNSIGNED32, RW), Table 5.6, R134 of spec/05_sync_objects.md. -/
abbrev wordQuota (t : Nat) : Nat := (0x2300 + t) * 256 + 4
/-- 0x2300+t:05 WordsInUse (UNSIGNED32, RO), Table 5.6, R134 of spec/05_sync_objects.md. -/
abbrev wordsInUse (t : Nat) : Nat := (0x2300 + t) * 256 + 5
/-- 0x2300+t:06 WatchQuota (UNSIGNED32, RW), Table 5.6, R134 of spec/05_sync_objects.md. -/
abbrev watchQuota (t : Nat) : Nat := (0x2300 + t) * 256 + 6
/-- 0x2300+t:07 WatchesInUse (UNSIGNED32, RO), Table 5.6, R134 of spec/05_sync_objects.md. -/
abbrev watchesInUse (t : Nat) : Nat := (0x2300 + t) * 256 + 7
/-- 0x2300+t:08 ParticipantQuota (UNSIGNED16, RW), Table 5.6, R134 of spec/05_sync_objects.md. -/
abbrev participantQuota (t : Nat) : Nat := (0x2300 + t) * 256 + 8
/-- 0x2300+t:09 PacingBudget (UNSIGNED16, RW), Table 5.6, R134 of spec/05_sync_objects.md. -/
abbrev pacingBudget (t : Nat) : Nat := (0x2300 + t) * 256 + 9
/-- 0x2300+t:0A AllocRequest (DOMAIN, RW), Table 5.6, R134 of spec/05_sync_objects.md. -/
abbrev allocRequest (t : Nat) : Nat := (0x2300 + t) * 256 + 10
/-- 0x2300+t:0B AllocResult (OCTET_STRING, RO), Table 5.6, R134 of spec/05_sync_objects.md. -/
abbrev allocResult (t : Nat) : Nat := (0x2300 + t) * 256 + 11
/-- 0x2300+t:0C LeftoverWords (UNSIGNED32, RO), Table 5.6, R134 of spec/05_sync_objects.md. -/
abbrev leftoverWords (t : Nat) : Nat := (0x2300 + t) * 256 + 12
/-- 0x2300+t:0D EventWord (UNSIGNED32, RO), Table 5.6, R134 of spec/05_sync_objects.md. -/
abbrev eventWord (t : Nat) : Nat := (0x2300 + t) * 256 + 13
/-- 0x2300+t:0E LastEvent (UNSIGNED32, RO), Table 5.6, R134 of spec/05_sync_objects.md. -/
abbrev lastEvent (t : Nat) : Nat := (0x2300 + t) * 256 + 14
/-- 0x2300+t:0F PacedReleases (UNSIGNED32, RO), Table 5.6, R134 of spec/05_sync_objects.md. -/
abbrev pacedReleases (t : Nat) : Nat := (0x2300 + t) * 256 + 15
/-- 0x2300+t:10 PacingDelayTotal (UNSIGNED64, RO), Table 5.6, R134 of spec/05_sync_objects.md. -/
abbrev pacingDelayTotal (t : Nat) : Nat := (0x2300 + t) * 256 + 16
/-- 0x2300+t:11 BudgetExhausted (UNSIGNED32, RO), Table 5.6, R134 of spec/05_sync_objects.md. -/
abbrev budgetExhausted (t : Nat) : Nat := (0x2300 + t) * 256 + 17
/-- 0x2300+t:12 DefaultWeight (UNSIGNED16, RW), Table 5.6, R134 of spec/05_sync_objects.md. -/
abbrev defaultWeight (t : Nat) : Nat := (0x2300 + t) * 256 + 18
/-- 0x2240+s:01 DomainId (UNSIGNED16, RO), Table 5.14, R159 of spec/05_sync_objects.md. -/
abbrev domainId (s : Nat) : Nat := (0x2240 + s) * 256 + 1
/-- 0x2240+s:02 DomainState (UNSIGNED8, RO), Table 5.14, R159 of spec/05_sync_objects.md. -/
abbrev domainState2240 (s : Nat) : Nat := (0x2240 + s) * 256 + 2
/-- 0x2240+s:03 DomainTenant (UNSIGNED8, RO), Table 5.14, R159 of spec/05_sync_objects.md. -/
abbrev domainTenant (s : Nat) : Nat := (0x2240 + s) * 256 + 3
/-- 0x2240+s:04 HomeShelf (UNSIGNED8, RO), Table 5.14, R159 of spec/05_sync_objects.md. -/
abbrev homeShelf (s : Nat) : Nat := (0x2240 + s) * 256 + 4
/-- 0x2240+s:05 ParticipantTotal (UNSIGNED32, RO), Table 5.14, R159 of spec/05_sync_objects.md. -/
abbrev participantTotal (s : Nat) : Nat := (0x2240 + s) * 256 + 5
/-- 0x2240+s:06 Episode (UNSIGNED16, RO), Table 5.14, R159 of spec/05_sync_objects.md. -/
abbrev episode (s : Nat) : Nat := (0x2240 + s) * 256 + 6
/-- 0x2240+s:07 LastCompletionTime (HallTime, RO), Table 5.14, R159 of spec/05_sync_objects.md. -/
abbrev lastCompletionTime (s : Nat) : Nat := (0x2240 + s) * 256 + 7
/-- 0x2240+s:08 LastReleaseSpan (UNSIGNED32, RO), Table 5.14, R159 of spec/05_sync_objects.md. -/
abbrev lastReleaseSpan (s : Nat) : Nat := (0x2240 + s) * 256 + 8
/-- 0x2240+s:09–:2C TrayBinding0–35 (UNSIGNED64, RO), Table 5.14, R159 of spec/05_sync_objects.md. -/
abbrev trayBinding (s j : Nat) : Nat := (0x2240 + s) * 256 + 9 + j
/-- 0x2200:01 PoolWords (UNSIGNED32, RO), Table 5.11, R167 of spec/05_sync_objects.md. -/
abbrev poolWords : Nat := 0x220001
/-- 0x2200:02 PoolWordsFree (UNSIGNED32, RO), Table 5.11, R167 of spec/05_sync_objects.md. -/
abbrev poolWordsFree : Nat := 0x220002
/-- 0x2200:03 QuarantinedWords (UNSIGNED32, RO), Table 5.11, R167 of spec/05_sync_objects.md. -/
abbrev quarantinedWords : Nat := 0x220003
/-- 0x2200:04 WatchesFree (UNSIGNED32, RO), Table 5.11, R167 of spec/05_sync_objects.md. -/
abbrev watchesFree : Nat := 0x220004
/-- 0x2200:05 OpenDomains (UNSIGNED16, RO), Table 5.11, R167 of spec/05_sync_objects.md. -/
abbrev openDomains : Nat := 0x220005
/-- 0x2200:06 CoalescedMessages (UNSIGNED32, RO), Table 5.11, R167 of spec/05_sync_objects.md. -/
abbrev coalescedMessages : Nat := 0x220006
/-- 0x2201:01 WaveInterval (UNSIGNED16, RW), Table 5.11, R167 of spec/05_sync_objects.md. -/
abbrev waveInterval : Nat := 0x220101
/-- 0x2201:02 WeightLearning (UNSIGNED8, RW), Table 5.11, R167 of spec/05_sync_objects.md. -/
abbrev weightLearning : Nat := 0x220102
/-- 0x2201:03 PacerPending (UNSIGNED16, RO), Table 5.11, R167 of spec/05_sync_objects.md. -/
abbrev pacerPending : Nat := 0x220103
/-- 0x2202:01 WordSet (DOMAIN, RW), Table 5.11, R167 of spec/05_sync_objects.md. -/
abbrev wordSet : Nat := 0x220201
/-- 0x2203:01 PowerWeights (DOMAIN, RW), Table 5.11, R167 of spec/05_sync_objects.md. -/
abbrev powerWeights : Nat := 0x220301
/-- 0x2210:01 DomainCreate (DOMAIN, RW), Table 5.11, R167 of spec/05_sync_objects.md. -/
abbrev domainCreate : Nat := 0x221001
/-- 0x2210:02 DomainResult (OCTET_STRING, RO), Table 5.11, R167 of spec/05_sync_objects.md. -/
abbrev domainResult : Nat := 0x221002
/-- 0x2210:03 DomainClose (UNSIGNED16, RW), Table 5.11, R167 of spec/05_sync_objects.md. -/
abbrev domainClose : Nat := 0x221003
/-- 0x2211:01 DomainPeer (DOMAIN, RW), Table 5.11, R167 of spec/05_sync_objects.md. -/
abbrev domainPeer : Nat := 0x221101
/-- 0x2400:01 IdleThreshold (UNSIGNED32, RW), Table 6.14, R199 of spec/06_pecan_arrays.md. -/
abbrev idleThreshold : Nat := 0x240001
/-- 0x2400:02 NapThreshold (UNSIGNED32, RW), Table 6.14, R199 of spec/06_pecan_arrays.md. -/
abbrev napThreshold : Nat := 0x240002
/-- 0x2400:03 SleepThreshold (UNSIGNED32, RW), Table 6.14, R199 of spec/06_pecan_arrays.md. -/
abbrev sleepThreshold : Nat := 0x240003
/-- 0x2400:04 WakeMargin (UNSIGNED32, RW), Table 6.14, R199 of spec/06_pecan_arrays.md. -/
abbrev wakeMargin : Nat := 0x240004
/-- 0x2400:05 CadenceGuard (UNSIGNED32, RW), Table 6.14, R199 of spec/06_pecan_arrays.md. -/
abbrev cadenceGuard : Nat := 0x240005
/-- 0x2400:06 PowerStateControl (UNSIGNED8, RW), Table 6.14, R199 of spec/06_pecan_arrays.md. -/
abbrev powerStateControl : Nat := 0x240006
/-- 0x2400:07 ArraysAvailable (UNSIGNED8, RO), Table 6.14, R199 of spec/06_pecan_arrays.md. -/
abbrev arraysAvailable : Nat := 0x240007
/-- 0x2410+d:01 OperatingPoint (UNSIGNED8, RO), Table 6.15, R200 of spec/06_pecan_arrays.md. -/
abbrev operatingPoint (d : Nat) : Nat := (0x2410 + d) * 256 + 1
/-- 0x2410+d:02 ClockFrequency (UNSIGNED32, RO), Table 6.15, R200 of spec/06_pecan_arrays.md. -/
abbrev clockFrequency (d : Nat) : Nat := (0x2410 + d) * 256 + 2
/-- 0x2410+d:03 DieState (UNSIGNED8, RO), Table 6.15, R200 of spec/06_pecan_arrays.md. -/
abbrev dieState (d : Nat) : Nat := (0x2410 + d) * 256 + 3
/-- 0x2410+d:04 FastTickPeriod (UNSIGNED8, RO), Table 6.15, R200 of spec/06_pecan_arrays.md. -/
abbrev fastTickPeriod (d : Nat) : Nat := (0x2410 + d) * 256 + 4
/-- 0x2410+d:05 EastLinkState (UNSIGNED8, RO), Table 6.15, R200 of spec/06_pecan_arrays.md. -/
abbrev eastLinkState (d : Nat) : Nat := (0x2410 + d) * 256 + 5
/-- 0x2410+d:06 EastLinkRetries (UNSIGNED32, RO), Table 6.15, R200 of spec/06_pecan_arrays.md. -/
abbrev eastLinkRetries (d : Nat) : Nat := (0x2410 + d) * 256 + 6
/-- 0x2480+g:01 ArrayState (UNSIGNED8, RO), Table 6.16, R201 of spec/06_pecan_arrays.md. -/
abbrev arrayState (g : Nat) : Nat := (0x2480 + g) * 256 + 1
/-- 0x2480+g:02 ArrayUse (UNSIGNED8, RO), Table 6.16, R201 of spec/06_pecan_arrays.md. -/
abbrev arrayUse (g : Nat) : Nat := (0x2480 + g) * 256 + 2
/-- 0x2480+g:03 TimeActive (UNSIGNED64, RO), Table 6.16, R201 of spec/06_pecan_arrays.md. -/
abbrev timeActive (g : Nat) : Nat := (0x2480 + g) * 256 + 3
/-- 0x2480+g:04 TimeIdle (UNSIGNED64, RO), Table 6.16, R201 of spec/06_pecan_arrays.md. -/
abbrev timeIdle (g : Nat) : Nat := (0x2480 + g) * 256 + 4
/-- 0x2480+g:05 TimeNap (UNSIGNED64, RO), Table 6.16, R201 of spec/06_pecan_arrays.md. -/
abbrev timeNap (g : Nat) : Nat := (0x2480 + g) * 256 + 5
/-- 0x2480+g:06 TimeSleep (UNSIGNED64, RO), Table 6.16, R201 of spec/06_pecan_arrays.md. -/
abbrev timeSleep (g : Nat) : Nat := (0x2480 + g) * 256 + 6
/-- 0x2480+g:07 WakeCount (UNSIGNED32, RO), Table 6.16, R201 of spec/06_pecan_arrays.md. -/
abbrev wakeCount (g : Nat) : Nat := (0x2480 + g) * 256 + 7
/-- 0x2480+g:08 LateWakes (UNSIGNED32, RO), Table 6.16, R201 of spec/06_pecan_arrays.md. -/
abbrev lateWakes (g : Nat) : Nat := (0x2480 + g) * 256 + 8
/-- 0x2480+g:09 CorrectedErrors (UNSIGNED32, RO), Table 6.16, R201 of spec/06_pecan_arrays.md. -/
abbrev correctedErrors2480 (g : Nat) : Nat := (0x2480 + g) * 256 + 9
/-- 0x2480+g:0A UncorrectedErrors (UNSIGNED32, RO), Table 6.16, R201 of spec/06_pecan_arrays.md. -/
abbrev uncorrectedErrors (g : Nat) : Nat := (0x2480 + g) * 256 + 10
/-- 0x2480+g:0B LastFault (UNSIGNED8, RO), Table 6.16, R201 of spec/06_pecan_arrays.md. -/
abbrev lastFault (g : Nat) : Nat := (0x2480 + g) * 256 + 11
/-- 0x2480+g:0C ArrayCommand (UNSIGNED8, RW), Table 6.16, R201 of spec/06_pecan_arrays.md. -/
abbrev arrayCommand (g : Nat) : Nat := (0x2480 + g) * 256 + 12
/-- 0x2420:01 ReferenceCurveGL8 (OCTET_STRING, RO), Table 7.6, R207 of spec/07_number_formats.md. -/
abbrev referenceCurveGL8 : Nat := 0x242001
/-- 0x2420:02 ReferenceCurveGL6 (OCTET_STRING, RO), Table 7.6, R207 of spec/07_number_formats.md. -/
abbrev referenceCurveGL6 : Nat := 0x242002
/-- 0x2420:03 ReferenceCurveGL4 (OCTET_STRING, RO), Table 7.6, R207 of spec/07_number_formats.md. -/
abbrev referenceCurveGL4 : Nat := 0x242003
/-- 0x2480+g:0D ArithmeticFlags (UNSIGNED16, RO), Table 7.11, R226 of spec/07_number_formats.md. -/
abbrev arithmeticFlags (g : Nat) : Nat := (0x2480 + g) * 256 + 13
/-- 0x2500:01 ProgramsLoaded (UNSIGNED8, RO), Table 8.18, R263 of spec/08_array_programs.md. -/
abbrev programsLoaded : Nat := 0x250001
/-- 0x2500:02 AgingQuantum (UNSIGNED32, RW), Table 8.18, R263 of spec/08_array_programs.md. -/
abbrev agingQuantum : Nat := 0x250002
/-- 0x2500:03 StagingSpace (UNSIGNED64, RO), Table 8.18, R263 of spec/08_array_programs.md. -/
abbrev stagingSpace : Nat := 0x250003
/-- 0x2500:04 TenantSharing (UNSIGNED8, RW), Table 8.18, R263 of spec/08_array_programs.md. -/
abbrev tenantSharing : Nat := 0x250004
/-- 0x2500:05 Replacements (UNSIGNED32, RO), Table 8.18, R263 of spec/08_array_programs.md. -/
abbrev replacements : Nat := 0x250005
/-- 0x2510:01 LoadRequest (DOMAIN, RW), Table 8.18, R263 of spec/08_array_programs.md. -/
abbrev loadRequest : Nat := 0x251001
/-- 0x2510:02 LoadResult (OCTET_STRING, RO), Table 8.18, R263 of spec/08_array_programs.md. -/
abbrev loadResult : Nat := 0x251002
/-- 0x2580+t:01 FastArrayQuota (UNSIGNED8, RW), Table 8.19, R263 of spec/08_array_programs.md. -/
abbrev fastArrayQuota (t : Nat) : Nat := (0x2580 + t) * 256 + 1
/-- 0x2580+t:02 SlowPartQuota (UNSIGNED8, RW), Table 8.19, R263 of spec/08_array_programs.md. -/
abbrev slowPartQuota (t : Nat) : Nat := (0x2580 + t) * 256 + 2
/-- 0x2580+t:03 StoreLineQuota (UNSIGNED32, RW), Table 8.19, R263 of spec/08_array_programs.md. -/
abbrev storeLineQuota (t : Nat) : Nat := (0x2580 + t) * 256 + 3
/-- 0x2580+t:04 StackQuota (UNSIGNED64, RW), Table 8.19, R263 of spec/08_array_programs.md. -/
abbrev stackQuota (t : Nat) : Nat := (0x2580 + t) * 256 + 4
/-- 0x2580+t:05 MailboxQuota (UNSIGNED16, RW), Table 8.19, R263 of spec/08_array_programs.md. -/
abbrev mailboxQuota (t : Nat) : Nat := (0x2580 + t) * 256 + 5
/-- 0x2580+t:06 StagingQuota (UNSIGNED32, RW), Table 8.19, R263 of spec/08_array_programs.md. -/
abbrev stagingQuota (t : Nat) : Nat := (0x2580 + t) * 256 + 6
/-- 0x2580+t:07 FastArraysInUse (UNSIGNED8, RO), Table 8.19, R263 of spec/08_array_programs.md. -/
abbrev fastArraysInUse (t : Nat) : Nat := (0x2580 + t) * 256 + 7
/-- 0x2580+t:08 SlowPartsInUse (UNSIGNED8, RO), Table 8.19, R263 of spec/08_array_programs.md. -/
abbrev slowPartsInUse (t : Nat) : Nat := (0x2580 + t) * 256 + 8
/-- 0x2520+s:01 SlotState (UNSIGNED8, RO), Table 8.20, R263 of spec/08_array_programs.md. -/
abbrev slotState (s : Nat) : Nat := (0x2520 + s) * 256 + 1
/-- 0x2520+s:02 SlotTenant (UNSIGNED8, RO), Table 8.20, R263 of spec/08_array_programs.md. -/
abbrev slotTenant (s : Nat) : Nat := (0x2520 + s) * 256 + 2
/-- 0x2520+s:03 SlotSize (UNSIGNED32, RW), Table 8.20, R263 of spec/08_array_programs.md. -/
abbrev slotSize (s : Nat) : Nat := (0x2520 + s) * 256 + 3
/-- 0x2520+s:04 SlotCommand (UNSIGNED8, RW), Table 8.20, R263 of spec/08_array_programs.md. -/
abbrev slotCommand (s : Nat) : Nat := (0x2520 + s) * 256 + 4
/-- 0x2520+s:05 SlotResult (OCTET_STRING, RO), Table 8.20, R263 of spec/08_array_programs.md. -/
abbrev slotResult (s : Nat) : Nat := (0x2520 + s) * 256 + 5
/-- 0x2520+s:06 SlotProgramId (OCTET_STRING, RO), Table 8.20, R263 of spec/08_array_programs.md. -/
abbrev slotProgramId (s : Nat) : Nat := (0x2520 + s) * 256 + 6
/-- 0x2600+h:01 ProgramState (UNSIGNED8, RO), Table 8.21, R263 of spec/08_array_programs.md. -/
abbrev programState (h : Nat) : Nat := (0x2600 + h) * 256 + 1
/-- 0x2600+h:02 ProgramTenant (UNSIGNED8, RO), Table 8.21, R263 of spec/08_array_programs.md. -/
abbrev programTenant (h : Nat) : Nat := (0x2600 + h) * 256 + 2
/-- 0x2600+h:03 ProgramLane (UNSIGNED8, RO), Table 8.21, R263 of spec/08_array_programs.md. -/
abbrev programLane (h : Nat) : Nat := (0x2600 + h) * 256 + 3
/-- 0x2600+h:04 PartCount (UNSIGNED8, RO), Table 8.21, R263 of spec/08_array_programs.md. -/
abbrev partCount (h : Nat) : Nat := (0x2600 + h) * 256 + 4
/-- 0x2600+h:05 ArrayMapLow (UNSIGNED64, RO), Table 8.21, R263 of spec/08_array_programs.md. -/
abbrev arrayMapLow (h : Nat) : Nat := (0x2600 + h) * 256 + 5
/-- 0x2600+h:06 ArrayMapHigh (UNSIGNED64, RO), Table 8.21, R263 of spec/08_array_programs.md. -/
abbrev arrayMapHigh (h : Nat) : Nat := (0x2600 + h) * 256 + 6
/-- 0x2600+h:07 DeclaredCycles (UNSIGNED32, RO), Table 8.21, R263 of spec/08_array_programs.md. -/
abbrev declaredCycles (h : Nat) : Nat := (0x2600 + h) * 256 + 7
/-- 0x2600+h:08 MaxCycles (UNSIGNED32, RO), Table 8.21, R263 of spec/08_array_programs.md. -/
abbrev maxCycles (h : Nat) : Nat := (0x2600 + h) * 256 + 8
/-- 0x2600+h:09 Completions (UNSIGNED32, RO), Table 8.21, R263 of spec/08_array_programs.md. -/
abbrev completions (h : Nat) : Nat := (0x2600 + h) * 256 + 9
/-- 0x2600+h:0A SkippedTicks (UNSIGNED32, RO), Table 8.21, R263 of spec/08_array_programs.md. -/
abbrev skippedTicks (h : Nat) : Nat := (0x2600 + h) * 256 + 10
/-- 0x2600+h:0B DeadlineMisses (UNSIGNED32, RO), Table 8.21, R263 of spec/08_array_programs.md. -/
abbrev deadlineMisses (h : Nat) : Nat := (0x2600 + h) * 256 + 11
/-- 0x2600+h:0C StopReason (UNSIGNED8, RO), Table 8.21, R263 of spec/08_array_programs.md. -/
abbrev stopReason (h : Nat) : Nat := (0x2600 + h) * 256 + 12
/-- 0x2600+h:0D Priority (UNSIGNED8, RW), Table 8.21, R263 of spec/08_array_programs.md. -/
abbrev priority (h : Nat) : Nat := (0x2600 + h) * 256 + 13
/-- 0x2600+h:0E EffectivePriority (UNSIGNED8, RO), Table 8.21, R263 of spec/08_array_programs.md. -/
abbrev effectivePriority (h : Nat) : Nat := (0x2600 + h) * 256 + 14
/-- 0x2600+h:0F ProgramCommand (UNSIGNED8, RW), Table 8.21, R263 of spec/08_array_programs.md. -/
abbrev programCommand (h : Nat) : Nat := (0x2600 + h) * 256 + 15
/-- 0x2600+h:10 MailboxBase (UNSIGNED16, RO), Table 8.21, R263 of spec/08_array_programs.md. -/
abbrev mailboxBase (h : Nat) : Nat := (0x2600 + h) * 256 + 16
/-- 0x2600+h:11 PlacementCount (UNSIGNED32, RO), Table 8.21, R263 of spec/08_array_programs.md. -/
abbrev placementCount (h : Nat) : Nat := (0x2600 + h) * 256 + 17
/-- 0x2600+h:12 ProgramId (OCTET_STRING, RO), Table 8.21, R263 of spec/08_array_programs.md. -/
abbrev programId (h : Nat) : Nat := (0x2600 + h) * 256 + 18
/-- 0x2600+h:13 TriggersCoalesced (UNSIGNED32, RO), Table 8.21, R263 of spec/08_array_programs.md. -/
abbrev triggersCoalesced (h : Nat) : Nat := (0x2600 + h) * 256 + 19
/-- 0x2700:01 HistoryCapacity (UNSIGNED64, RO), Table 9.13, R292 of spec/09_history_memory.md. -/
abbrev historyCapacity : Nat := 0x270001
/-- 0x2700:02 HistoryInUse (UNSIGNED64, RO), Table 9.13, R292 of spec/09_history_memory.md. -/
abbrev historyInUse : Nat := 0x270002
/-- 0x2700:03 TagTolerance (UNSIGNED32, RW), Table 9.13, R292 of spec/09_history_memory.md. -/
abbrev tagTolerance : Nat := 0x270003
/-- 0x2700:04 RestampedSamples (UNSIGNED32, RO), Table 9.13, R292 of spec/09_history_memory.md. -/
abbrev restampedSamples : Nat := 0x270004
/-- 0x2700:05 RingsLost (UNSIGNED32, RO), Table 9.13, R292 of spec/09_history_memory.md. -/
abbrev ringsLost : Nat := 0x270005
/-- 0x2701:01 ChannelRequest (DOMAIN, RW), Table 9.13, R292 of spec/09_history_memory.md. -/
abbrev channelRequest : Nat := 0x270101
/-- 0x2701:02 ChannelResult (OCTET_STRING, RO), Table 9.13, R292 of spec/09_history_memory.md. -/
abbrev channelResult : Nat := 0x270102
/-- 0x2702:01 WindowRequest (DOMAIN, RW), Table 9.13, R292 of spec/09_history_memory.md. -/
abbrev windowRequest : Nat := 0x270201
/-- 0x2702:02 WindowResult (OCTET_STRING, RO), Table 9.13, R292 of spec/09_history_memory.md. -/
abbrev windowResult : Nat := 0x270202
/-- 0x2710+s:01 StackState (UNSIGNED8, RO), Table 9.14, R292 of spec/09_history_memory.md. -/
abbrev stackState (s : Nat) : Nat := (0x2710 + s) * 256 + 1
/-- 0x2710+s:02 HistoryBytes (UNSIGNED64, RO), Table 9.14, R292 of spec/09_history_memory.md. -/
abbrev historyBytes (s : Nat) : Nat := (0x2710 + s) * 256 + 2
/-- 0x2710+s:03 OtherBytes (UNSIGNED64, RO), Table 9.14, R292 of spec/09_history_memory.md. -/
abbrev otherBytes (s : Nat) : Nat := (0x2710 + s) * 256 + 3
/-- 0x2710+s:04 IngestDemand (UNSIGNED32, RO), Table 9.14, R292 of spec/09_history_memory.md. -/
abbrev ingestDemand (s : Nat) : Nat := (0x2710 + s) * 256 + 4
/-- 0x2710+s:05 CorrectedErrors (UNSIGNED32, RO), Table 9.14, R292 of spec/09_history_memory.md. -/
abbrev correctedErrors2710 (s : Nat) : Nat := (0x2710 + s) * 256 + 5
/-- 0x2710+s:06 UncorrectableErrors (UNSIGNED32, RO), Table 9.14, R292 of spec/09_history_memory.md. -/
abbrev uncorrectableErrors (s : Nat) : Nat := (0x2710 + s) * 256 + 6
/-- 0x2710+s:07 ScrubPasses (UNSIGNED32, RO), Table 9.14, R292 of spec/09_history_memory.md. -/
abbrev scrubPasses (s : Nat) : Nat := (0x2710 + s) * 256 + 7
/-- 0x2710+s:08 RowsToRepair (UNSIGNED16, RO), Table 9.14, R292 of spec/09_history_memory.md. -/
abbrev rowsToRepair (s : Nat) : Nat := (0x2710 + s) * 256 + 8
/-- 0x2780+t:01 HistoryQuota (UNSIGNED64, RW), Table 9.15, R292 of spec/09_history_memory.md. -/
abbrev historyQuota (t : Nat) : Nat := (0x2780 + t) * 256 + 1
/-- 0x2780+t:02 HistoryBytesInUse (UNSIGNED64, RO), Table 9.15, R292 of spec/09_history_memory.md. -/
abbrev historyBytesInUse (t : Nat) : Nat := (0x2780 + t) * 256 + 2
/-- 0x2780+t:03 WindowQuota (UNSIGNED16, RW), Table 9.15, R292 of spec/09_history_memory.md. -/
abbrev windowQuota (t : Nat) : Nat := (0x2780 + t) * 256 + 3
/-- 0x2780+t:04 WindowsInUse (UNSIGNED16, RO), Table 9.15, R292 of spec/09_history_memory.md. -/
abbrev windowsInUse (t : Nat) : Nat := (0x2780 + t) * 256 + 4
/-- 0x2800:01 ForecasterHandle (UNSIGNED8, RW), Table 10.11, R313 of spec/10_forecasting.md. -/
abbrev forecasterHandle : Nat := 0x280001
/-- 0x2800:02 ForecasterState (UNSIGNED8, RO), Table 10.11, R313 of spec/10_forecasting.md. -/
abbrev forecasterState2800 : Nat := 0x280002
/-- 0x2800:03 StepDomain (UNSIGNED16, RW), Table 10.11, R313 of spec/10_forecasting.md. -/
abbrev stepDomain2800 : Nat := 0x280003
/-- 0x2800:04 OnsetArmThreshold (UNSIGNED16, RW), Table 10.11, R313 of spec/10_forecasting.md. -/
abbrev onsetArmThreshold : Nat := 0x280004
/-- 0x2800:05 ConfidenceFloor (UNSIGNED16, RW), Table 10.11, R313 of spec/10_forecasting.md. -/
abbrev confidenceFloor : Nat := 0x280005
/-- 0x2800:06 ErrorLimit (UNSIGNED16, RW), Table 10.11, R313 of spec/10_forecasting.md. -/
abbrev errorLimit : Nat := 0x280006
/-- 0x2800:07 EvaluationLead (UNSIGNED16, RW), Table 10.11, R313 of spec/10_forecasting.md. -/
abbrev evaluationLead : Nat := 0x280007
/-- 0x2800:08 FineMaxAge (UNSIGNED16, RW), Table 10.11, R313 of spec/10_forecasting.md. -/
abbrev fineMaxAge : Nat := 0x280008
/-- 0x2800:09 CoarseMaxAge (UNSIGNED32, RW), Table 10.11, R313 of spec/10_forecasting.md. -/
abbrev coarseMaxAge : Nat := 0x280009
/-- 0x2800:0A RatedRackLoad (UNSIGNED32, RW), Table 10.11, R313 of spec/10_forecasting.md. -/
abbrev ratedRackLoad : Nat := 0x28000A
/-- 0x2800:0B FeedForwardClamp (UNSIGNED32, RW), Table 10.11, R313 of spec/10_forecasting.md. -/
abbrev feedForwardClamp : Nat := 0x28000B
/-- 0x2800:0C Trust (UNSIGNED16, RO), Table 10.11, R313 of spec/10_forecasting.md. -/
abbrev trust : Nat := 0x28000C
/-- 0x2800:0D EffectiveConfidence (UNSIGNED16, RO), Table 10.11, R313 of spec/10_forecasting.md. -/
abbrev effectiveConfidence2800 : Nat := 0x28000D
/-- 0x2800:0E MeanBinError (UNSIGNED16, RO), Table 10.11, R313 of spec/10_forecasting.md. -/
abbrev meanBinError : Nat := 0x28000E
/-- 0x2800:0F ForecastWindowBase (UNSIGNED16, RO), Table 10.11, R313 of spec/10_forecasting.md. -/
abbrev forecastWindowBase : Nat := 0x28000F
/-- 0x2800:10 RejectedPublications (UNSIGNED32, RO), Table 10.11, R313 of spec/10_forecasting.md. -/
abbrev rejectedPublications : Nat := 0x280010
/-- 0x2800:11 LateForecasts (UNSIGNED32, RO), Table 10.11, R313 of spec/10_forecasting.md. -/
abbrev lateForecasts : Nat := 0x280011
/-- 0x2800:12 ForecastMismatches (UNSIGNED32, RO), Table 10.11, R313 of spec/10_forecasting.md. -/
abbrev forecastMismatches : Nat := 0x280012
/-- 0x2800:13 SageControl (UNSIGNED8, RW), Table 10.11, R313 of spec/10_forecasting.md. -/
abbrev sageControl : Nat := 0x280013
/-- 0x2800:14 LatestStatus (OCTET_STRING, RO), Table 10.11, R313 of spec/10_forecasting.md. -/
abbrev latestStatus : Nat := 0x280014
/-- 0x2800:15 LatestFineHorizon (OCTET_STRING, RO), Table 10.11, R313 of spec/10_forecasting.md. -/
abbrev latestFineHorizon : Nat := 0x280015
/-- 0x2800:16 LatestCoarseHorizon (OCTET_STRING, RO), Table 10.11, R313 of spec/10_forecasting.md. -/
abbrev latestCoarseHorizon : Nat := 0x280016
/-- 0x2940+i:01 Kind (UNSIGNED8, RW), Table 11.10, R349 of spec/11_shelf_power_loop.md. -/
abbrev kind (i : Nat) : Nat := (0x2940 + i) * 256 + 1
/-- 0x2940+i:02 Sources (UNSIGNED16, RW), Table 11.10, R349 of spec/11_shelf_power_loop.md. -/
abbrev sources (i : Nat) : Nat := (0x2940 + i) * 256 + 2
/-- 0x2940+i:03 Reference (INTEGER32, RW), Table 11.10, R349 of spec/11_shelf_power_loop.md. -/
abbrev reference (i : Nat) : Nat := (0x2940 + i) * 256 + 3
/-- 0x2940+i:04–:0A B0, B1, B2, B3, A1, A2, A3 (INTEGER32, RW), Table 11.10, R349 of spec/11_shelf_power_loop.md. -/
abbrev b0 (i j : Nat) : Nat := (0x2940 + i) * 256 + 4 + j
/-- 0x2940+i:0B Shifts (UNSIGNED64, RW), Table 11.10, R349 of spec/11_shelf_power_loop.md. -/
abbrev shifts (i : Nat) : Nat := (0x2940 + i) * 256 + 11
/-- 0x2940+i:0C OutputMin (INTEGER32, RW), Table 11.10, R349 of spec/11_shelf_power_loop.md. -/
abbrev outputMin (i : Nat) : Nat := (0x2940 + i) * 256 + 12
/-- 0x2940+i:0D OutputMax (INTEGER32, RW), Table 11.10, R349 of spec/11_shelf_power_loop.md. -/
abbrev outputMax (i : Nat) : Nat := (0x2940 + i) * 256 + 13
/-- 0x2940+i:0E Commit (UNSIGNED8, RW), Table 11.10, R349 of spec/11_shelf_power_loop.md. -/
abbrev commit (i : Nat) : Nat := (0x2940 + i) * 256 + 14
/-- 0x2940+i:0F History (OCTET_STRING, RO), Table 11.10, R349 of spec/11_shelf_power_loop.md. -/
abbrev history (i : Nat) : Nat := (0x2940 + i) * 256 + 15
/-- 0x2940+i:10 OutputSaturations (UNSIGNED32, RO), Table 11.10, R349 of spec/11_shelf_power_loop.md. -/
abbrev outputSaturations (i : Nat) : Nat := (0x2940 + i) * 256 + 16
/-- 0x2940+i:11 Output (INTEGER32, RO), Table 11.10, R349 of spec/11_shelf_power_loop.md. -/
abbrev output (i : Nat) : Nat := (0x2940 + i) * 256 + 17
/-- 0x2901:01 EngineTicks (UNSIGNED32, RO), Table 11.11, R349 of spec/11_shelf_power_loop.md. -/
abbrev engineTicks : Nat := 0x290101
/-- 0x2901:02 ShadowMismatches (UNSIGNED32, RO), Table 11.11, R349 of spec/11_shelf_power_loop.md. -/
abbrev shadowMismatches : Nat := 0x290102
/-- 0x2901:03 KnownAnswerFailures (UNSIGNED32, RO), Table 11.11, R349 of spec/11_shelf_power_loop.md. -/
abbrev knownAnswerFailures : Nat := 0x290103
/-- 0x2901:04 LastMismatchTime (HallTime, RO), Table 11.11, R349 of spec/11_shelf_power_loop.md. -/
abbrev lastMismatchTime : Nat := 0x290104
/-- 0x2901:05 ReleaseDutyGain (INTEGER32, RW), Table 11.11, R349 of spec/11_shelf_power_loop.md. -/
abbrev releaseDutyGain : Nat := 0x290105
/-- 0x2901:06 RectifierLag (UNSIGNED16, RW), Table 11.11, R349 of spec/11_shelf_power_loop.md. -/
abbrev rectifierLag : Nat := 0x290106
/-- 0x2901:07 RejectedPortPublications (UNSIGNED32, RO), Table 11.11, R349 of spec/11_shelf_power_loop.md. -/
abbrev rejectedPortPublications : Nat := 0x290107
/-- 0x2901:08 AuxPortHandle (UNSIGNED8, RW), Table 11.11, R349 of spec/11_shelf_power_loop.md. -/
abbrev auxPortHandle : Nat := 0x290108
/-- 0x2910:01 BusVoltage (UNSIGNED32, RO), Table 11.11, R349 of spec/11_shelf_power_loop.md. -/
abbrev busVoltage2910 : Nat := 0x291001
/-- 0x2910:02 BusSetpointInForce (UNSIGNED32, RO), Table 11.11, R349 of spec/11_shelf_power_loop.md. -/
abbrev busSetpointInForce : Nat := 0x291002
/-- 0x2910:03 BusSetpoint (UNSIGNED32, RW), Table 11.11, R349 of spec/11_shelf_power_loop.md. -/
abbrev busSetpoint2910 : Nat := 0x291003
/-- 0x2910:04 BusSetpointSlew (UNSIGNED16, RW), Table 11.11, R349 of spec/11_shelf_power_loop.md. -/
abbrev busSetpointSlew : Nat := 0x291004
/-- 0x2910:05 ConverterPowerRef (INTEGER32, RO), Table 11.11, R349 of spec/11_shelf_power_loop.md. -/
abbrev converterPowerRef2910 : Nat := 0x291005
/-- 0x2910:06 ConverterPowerClamp (UNSIGNED32, RW), Table 11.11, R349 of spec/11_shelf_power_loop.md. -/
abbrev converterPowerClamp : Nat := 0x291006
/-- 0x2910:07 ContinuousPowerClamp (UNSIGNED32, RW), Table 11.11, R349 of spec/11_shelf_power_loop.md. -/
abbrev continuousPowerClamp : Nat := 0x291007
/-- 0x2910:08 RatingTimer (UNSIGNED32, RO), Table 11.11, R349 of spec/11_shelf_power_loop.md. -/
abbrev ratingTimer : Nat := 0x291008
/-- 0x2910:09 StringShare1 (UNSIGNED16, RO), Table 11.11, R349 of spec/11_shelf_power_loop.md. -/
abbrev stringShare1 : Nat := 0x291009
/-- 0x2910:0A PhaseCurrentClamp (UNSIGNED32, RW), Table 11.11, R349 of spec/11_shelf_power_loop.md. -/
abbrev phaseCurrentClamp : Nat := 0x29100A
/-- 0x2910:0B PhaseTuning (UNSIGNED8, RW), Table 11.11, R349 of spec/11_shelf_power_loop.md. -/
abbrev phaseTuning : Nat := 0x29100B
/-- 0x2911:01 LimiterStateA (UNSIGNED64, RO), Table 11.11, R349 of spec/11_shelf_power_loop.md. -/
abbrev limiterStateA : Nat := 0x291101
/-- 0x2911:02 LimiterStateB (UNSIGNED64, RO), Table 11.11, R349 of spec/11_shelf_power_loop.md. -/
abbrev limiterStateB : Nat := 0x291102
/-- 0x2911:03 CommandedInput (UNSIGNED32, RO), Table 11.11, R349 of spec/11_shelf_power_loop.md. -/
abbrev commandedInput2911 : Nat := 0x291103
/-- 0x2911:04 PlannerTarget (INTEGER32, RO), Table 11.11, R349 of spec/11_shelf_power_loop.md. -/
abbrev plannerTarget : Nat := 0x291104
/-- 0x2911:05 PlanFilter (UNSIGNED16, RW), Table 11.11, R349 of spec/11_shelf_power_loop.md. -/
abbrev planFilter : Nat := 0x291105
/-- 0x2911:06 PlanSpan (UNSIGNED32, RW), Table 11.11, R349 of spec/11_shelf_power_loop.md. -/
abbrev planSpan : Nat := 0x291106
/-- 0x2911:07 SocCentre (UNSIGNED16, RW), Table 11.11, R349 of spec/11_shelf_power_loop.md. -/
abbrev socCentre : Nat := 0x291107
/-- 0x2911:08 SocRecentreTime (UNSIGNED32, RW), Table 11.11, R349 of spec/11_shelf_power_loop.md. -/
abbrev socRecentreTime : Nat := 0x291108
/-- 0x2911:09 LimiterClamps (UNSIGNED32, RO), Table 11.11, R349 of spec/11_shelf_power_loop.md. -/
abbrev limiterClamps : Nat := 0x291109
/-- 0x2911:0A MaskChangesDeferred (UNSIGNED32, RO), Table 11.11, R349 of spec/11_shelf_power_loop.md. -/
abbrev maskChangesDeferred : Nat := 0x29110A
/-- 0x2912:01 RectifiersFitted (UNSIGNED16, RW), Table 11.11, R349 of spec/11_shelf_power_loop.md. -/
abbrev rectifiersFitted : Nat := 0x291201
/-- 0x2912:02 RectifierCurrentMax (UNSIGNED32, RW), Table 11.11, R349 of spec/11_shelf_power_loop.md. -/
abbrev rectifierCurrentMax : Nat := 0x291202
/-- 0x2912:03 SetpointFramesLost (UNSIGNED32, RO), Table 11.11, R349 of spec/11_shelf_power_loop.md. -/
abbrev setpointFramesLost : Nat := 0x291203
/-- 0x2912:04 BusOffEvents (UNSIGNED32, RO), Table 11.11, R349 of spec/11_shelf_power_loop.md. -/
abbrev busOffEvents : Nat := 0x291204
/-- 0x2912:05 CanFramesIgnored (UNSIGNED32, RO), Table 11.11, R349 of spec/11_shelf_power_loop.md. -/
abbrev canFramesIgnored : Nat := 0x291205
/-- 0x2920+r:01 RectifierState (UNSIGNED8, RO), Table 11.11, R349 of spec/11_shelf_power_loop.md. -/
abbrev rectifierState (r : Nat) : Nat := (0x2920 + r) * 256 + 1
/-- 0x2920+r:02 RectifierReport (OCTET_STRING, RO), Table 11.11, R349 of spec/11_shelf_power_loop.md. -/
abbrev rectifierReport (r : Nat) : Nat := (0x2920 + r) * 256 + 2
/-- 0x2920+r:03 MissedReports (UNSIGNED32, RO), Table 11.11, R349 of spec/11_shelf_power_loop.md. -/
abbrev missedReports (r : Nat) : Nat := (0x2920 + r) * 256 + 3
/-- 0x2930:01 TraceControl (UNSIGNED8, RW), Table 11.11, R349 of spec/11_shelf_power_loop.md. -/
abbrev traceControl : Nat := 0x293001
/-- 0x2930:02 TraceState (UNSIGNED8, RO), Table 11.11, R349 of spec/11_shelf_power_loop.md. -/
abbrev traceState : Nat := 0x293002
/-- 0x2930:03 TriggerSource (UNSIGNED16, RW), Table 11.11, R349 of spec/11_shelf_power_loop.md. -/
abbrev triggerSource : Nat := 0x293003
/-- 0x2930:04 TriggerLevel (INTEGER32, RW), Table 11.11, R349 of spec/11_shelf_power_loop.md. -/
abbrev triggerLevel : Nat := 0x293004
/-- 0x2930:05 TriggerEdge (UNSIGNED8, RW), Table 11.11, R349 of spec/11_shelf_power_loop.md. -/
abbrev triggerEdge : Nat := 0x293005
/-- 0x2930:06 PreTrigger (UNSIGNED16, RW), Table 11.11, R349 of spec/11_shelf_power_loop.md. -/
abbrev preTrigger : Nat := 0x293006
/-- 0x2930:07 Decimation (UNSIGNED16, RW), Table 11.11, R349 of spec/11_shelf_power_loop.md. -/
abbrev decimation : Nat := 0x293007
/-- 0x2930:08 TriggerTime (HallTime, RO), Table 11.11, R349 of spec/11_shelf_power_loop.md. -/
abbrev triggerTime : Nat := 0x293008
/-- 0x2930:09 TraceHazel (UNSIGNED8, RW), Table 11.11, R349 of spec/11_shelf_power_loop.md. -/
abbrev traceHazel : Nat := 0x293009
/-- 0x2931+c:01 ChannelSource (UNSIGNED16, RW), Table 11.11, R349 of spec/11_shelf_power_loop.md. -/
abbrev channelSource (c : Nat) : Nat := (0x2931 + c) * 256 + 1
/-- 0x2931+c:02 ChannelData (DOMAIN, RO), Table 11.11, R349 of spec/11_shelf_power_loop.md. -/
abbrev channelData (c : Nat) : Nat := (0x2931 + c) * 256 + 2
/-- 0x2A00:01 PwmBaseFrequency (UNSIGNED32, RO), Table 12.5, R377 of spec/12_converter_stage.md. -/
abbrev pwmBaseFrequency : Nat := 0x2A0001
/-- 0x2A00:02 DitherMode (UNSIGNED8, RW), Table 12.5, R377 of spec/12_converter_stage.md. -/
abbrev ditherMode : Nat := 0x2A0002
/-- 0x2A00:03 DitherDepth (UNSIGNED16, RW), Table 12.5, R377 of spec/12_converter_stage.md. -/
abbrev ditherDepth : Nat := 0x2A0003
/-- 0x2A00:04 DeadTime (UNSIGNED16, RW), Table 12.5, R377 of spec/12_converter_stage.md. -/
abbrev deadTime : Nat := 0x2A0004
/-- 0x2A00:05 DutyMin (UNSIGNED16, RW), Table 12.5, R377 of spec/12_converter_stage.md. -/
abbrev dutyMin : Nat := 0x2A0005
/-- 0x2A00:06 DutyMax (UNSIGNED16, RW), Table 12.5, R377 of spec/12_converter_stage.md. -/
abbrev dutyMax : Nat := 0x2A0006
/-- 0x2A00:07 MinPulse (UNSIGNED16, RW), Table 12.5, R377 of spec/12_converter_stage.md. -/
abbrev minPulse : Nat := 0x2A0007
/-- 0x2A00:08 ShedEnable (UNSIGNED8, RW), Table 12.5, R377 of spec/12_converter_stage.md. -/
abbrev shedEnable : Nat := 0x2A0008
/-- 0x2A00:09 ShedLevel (UNSIGNED8, RW), Table 12.5, R377 of spec/12_converter_stage.md. -/
abbrev shedLevel : Nat := 0x2A0009
/-- 0x2A00:0A AddLevel (UNSIGNED8, RW), Table 12.5, R377 of spec/12_converter_stage.md. -/
abbrev addLevel : Nat := 0x2A000A
/-- 0x2A00:0B ShedDelay (UNSIGNED32, RW), Table 12.5, R377 of spec/12_converter_stage.md. -/
abbrev shedDelay2A00 : Nat := 0x2A000B
/-- 0x2A00:0C ShedMinimum (UNSIGNED8, RW), Table 12.5, R377 of spec/12_converter_stage.md. -/
abbrev shedMinimum : Nat := 0x2A000C
/-- 0x2A00:0D ShedRackLoadLimit (UNSIGNED16, RW), Table 12.5, R377 of spec/12_converter_stage.md. -/
abbrev shedRackLoadLimit : Nat := 0x2A000D
/-- 0x2A00:0E CbcLimit (UNSIGNED32, RW), Table 12.5, R377 of spec/12_converter_stage.md. -/
abbrev cbcLimit : Nat := 0x2A000E
/-- 0x2A00:0F BusOvTrip (UNSIGNED32, RW), Table 12.5, R377 of spec/12_converter_stage.md. -/
abbrev busOvTrip : Nat := 0x2A000F
/-- 0x2A00:10 BusUvTrip (UNSIGNED32, RW), Table 12.5, R377 of spec/12_converter_stage.md. -/
abbrev busUvTrip : Nat := 0x2A0010
/-- 0x2A00:11 BoardString (UNSIGNED8, RW), Table 12.5, R377 of spec/12_converter_stage.md. -/
abbrev boardString : Nat := 0x2A0011
/-- 0x2A00:12 ActivePhases (UNSIGNED64, RO), Table 12.5, R377 of spec/12_converter_stage.md. -/
abbrev activePhases2A00 : Nat := 0x2A0012
/-- 0x2A00:13 FaultedPhases (UNSIGNED64, RO), Table 12.5, R377 of spec/12_converter_stage.md. -/
abbrev faultedPhases : Nat := 0x2A0013
/-- 0x2A00:14 PhaseClear (UNSIGNED8, RW), Table 12.5, R377 of spec/12_converter_stage.md. -/
abbrev phaseClear : Nat := 0x2A0014
/-- 0x2A00:15 CbcEvents (UNSIGNED32, RO), Table 12.5, R377 of spec/12_converter_stage.md. -/
abbrev cbcEvents : Nat := 0x2A0015
/-- 0x2A00:16 ClampHeld (UNSIGNED8, RO), Table 12.5, R377 of spec/12_converter_stage.md. -/
abbrev clampHeld : Nat := 0x2A0016
/-- 0x2A00:17 MuxSource (UNSIGNED8, RO), Table 12.5, R377 of spec/12_converter_stage.md. -/
abbrev muxSource : Nat := 0x2A0017
/-- 0x2A00:18 PhaseSheds (UNSIGNED32, RO), Table 12.5, R377 of spec/12_converter_stage.md. -/
abbrev phaseSheds : Nat := 0x2A0018
/-- 0x2A20+s:01 ContactorState (UNSIGNED8, RO), Table 12.6, R377 of spec/12_converter_stage.md. -/
abbrev contactorState (s : Nat) : Nat := (0x2A20 + s) * 256 + 1
/-- 0x2A20+s:02 StringConnection (UNSIGNED8, RO), Table 12.6, R377 of spec/12_converter_stage.md. -/
abbrev stringConnection (s : Nat) : Nat := (0x2A20 + s) * 256 + 2
/-- 0x2A20+s:03 PrechargeCheckTime1 (UNSIGNED16, RW), Table 12.6, R377 of spec/12_converter_stage.md. -/
abbrev prechargeCheckTime1 (s : Nat) : Nat := (0x2A20 + s) * 256 + 3
/-- 0x2A20+s:04 PrechargeLevel1 (UNSIGNED16, RW), Table 12.6, R377 of spec/12_converter_stage.md. -/
abbrev prechargeLevel1 (s : Nat) : Nat := (0x2A20 + s) * 256 + 4
/-- 0x2A20+s:05 PrechargeCheckTime2 (UNSIGNED16, RW), Table 12.6, R377 of spec/12_converter_stage.md. -/
abbrev prechargeCheckTime2 (s : Nat) : Nat := (0x2A20 + s) * 256 + 5
/-- 0x2A20+s:06 PrechargeLevel2 (UNSIGNED16, RW), Table 12.6, R377 of spec/12_converter_stage.md. -/
abbrev prechargeLevel2 (s : Nat) : Nat := (0x2A20 + s) * 256 + 6
/-- 0x2A20+s:07 PrechargeTimeout (UNSIGNED16, RW), Table 12.6, R377 of spec/12_converter_stage.md. -/
abbrev prechargeTimeout (s : Nat) : Nat := (0x2A20 + s) * 256 + 7
/-- 0x2A20+s:08 PrechargeMatch (UNSIGNED16, RW), Table 12.6, R377 of spec/12_converter_stage.md. -/
abbrev prechargeMatch (s : Nat) : Nat := (0x2A20 + s) * 256 + 8
/-- 0x2A20+s:09 LastConnectResult (UNSIGNED8, RO), Table 12.6, R377 of spec/12_converter_stage.md. -/
abbrev lastConnectResult (s : Nat) : Nat := (0x2A20 + s) * 256 + 9
/-- 0x2A20+s:0A CloseTimeout (UNSIGNED16, RW), Table 12.6, R377 of spec/12_converter_stage.md. -/
abbrev closeTimeout (s : Nat) : Nat := (0x2A20 + s) * 256 + 10
/-- 0x2A20+s:0B ContactorBreakCurrent (UNSIGNED32, RW), Table 12.6, R377 of spec/12_converter_stage.md. -/
abbrev contactorBreakCurrent (s : Nat) : Nat := (0x2A20 + s) * 256 + 11
/-- 0x2A20+s:0C OpenTimeout (UNSIGNED16, RW), Table 12.6, R377 of spec/12_converter_stage.md. -/
abbrev openTimeout (s : Nat) : Nat := (0x2A20 + s) * 256 + 12
/-- 0x2A20+s:0D LockoutClear (UNSIGNED8, RW), Table 12.6, R377 of spec/12_converter_stage.md. -/
abbrev lockoutClear (s : Nat) : Nat := (0x2A20 + s) * 256 + 13
/-- 0x2A20+s:0E StringTripCurrent (UNSIGNED32, RW), Table 12.6, R377 of spec/12_converter_stage.md. -/
abbrev stringTripCurrent (s : Nat) : Nat := (0x2A20 + s) * 256 + 14
/-- 0x2A20+s:0F OperationsUnderLoad (UNSIGNED32, RO), Table 12.6, R377 of spec/12_converter_stage.md. -/
abbrev operationsUnderLoad (s : Nat) : Nat := (0x2A20 + s) * 256 + 15
/-- 0x2A20+s:10 InterlockRefusals (UNSIGNED32, RO), Table 12.6, R377 of spec/12_converter_stage.md. -/
abbrev interlockRefusals (s : Nat) : Nat := (0x2A20 + s) * 256 + 16
/-- 0x2A20+s:11 ConnectCount (UNSIGNED32, RO), Table 12.6, R377 of spec/12_converter_stage.md. -/
abbrev connectCount (s : Nat) : Nat := (0x2A20 + s) * 256 + 17
/-- 0x2A40+c:01 Gain (INTEGER32, RW), Table 12.7, R377 of spec/12_converter_stage.md. -/
abbrev gain (c : Nat) : Nat := (0x2A40 + c) * 256 + 1
/-- 0x2A40+c:02 Offset (INTEGER32, RW), Table 12.7, R377 of spec/12_converter_stage.md. -/
abbrev offset2A40 (c : Nat) : Nat := (0x2A40 + c) * 256 + 2
/-- 0x2A40+c:03 Value (INTEGER32, RO), Table 12.7, R377 of spec/12_converter_stage.md. -/
abbrev value (c : Nat) : Nat := (0x2A40 + c) * 256 + 3
/-- 0x2A40+c:04 StreamFaults (UNSIGNED32, RO), Table 12.7, R377 of spec/12_converter_stage.md. -/
abbrev streamFaults (c : Nat) : Nat := (0x2A40 + c) * 256 + 4
/-- 0x2A40+c:05 BridgedOutputs (UNSIGNED32, RO), Table 12.7, R377 of spec/12_converter_stage.md. -/
abbrev bridgedOutputs (c : Nat) : Nat := (0x2A40 + c) * 256 + 5
/-- 0x2B00:01 SlicesPerString1 (UNSIGNED8, RW), Table 13.10, R405 of spec/13_stack_monitoring.md. -/
abbrev slicesPerString1 : Nat := 0x2B0001
/-- 0x2B00:02 SlicesPerString2 (UNSIGNED8, RW), Table 13.10, R405 of spec/13_stack_monitoring.md. -/
abbrev slicesPerString2 : Nat := 0x2B0002
/-- 0x2B00:03 MeasurementInterval (UNSIGNED8, RW), Table 13.10, R405 of spec/13_stack_monitoring.md. -/
abbrev measurementInterval : Nat := 0x2B0003
/-- 0x2B00:04 AveragingWindow (UNSIGNED16, RW), Table 13.10, R405 of spec/13_stack_monitoring.md. -/
abbrev averagingWindow : Nat := 0x2B0004
/-- 0x2B00:05 OpenWireEnable (UNSIGNED8, RW), Table 13.10, R405 of spec/13_stack_monitoring.md. -/
abbrev openWireEnable : Nat := 0x2B0005
/-- 0x2B00:06 OpenWireThreshold (UNSIGNED16, RW), Table 13.10, R405 of spec/13_stack_monitoring.md. -/
abbrev openWireThreshold : Nat := 0x2B0006
/-- 0x2B00:07 PlausibilityTolerance (UNSIGNED16, RW), Table 13.10, R405 of spec/13_stack_monitoring.md. -/
abbrev plausibilityTolerance : Nat := 0x2B0007
/-- 0x2B00:08 CellValueTimeout (UNSIGNED8, RW), Table 13.10, R405 of spec/13_stack_monitoring.md. -/
abbrev cellValueTimeout : Nat := 0x2B0008
/-- 0x2B00:09 BalanceEnable (UNSIGNED8, RW), Table 13.10, R405 of spec/13_stack_monitoring.md. -/
abbrev balanceEnable : Nat := 0x2B0009
/-- 0x2B00:0A BalanceInterval (UNSIGNED8, RW), Table 13.10, R405 of spec/13_stack_monitoring.md. -/
abbrev balanceInterval : Nat := 0x2B000A
/-- 0x2B00:0B BalanceThreshold (UNSIGNED16, RW), Table 13.10, R405 of spec/13_stack_monitoring.md. -/
abbrev balanceThreshold : Nat := 0x2B000B
/-- 0x2B00:0C BalanceHysteresis (UNSIGNED16, RW), Table 13.10, R405 of spec/13_stack_monitoring.md. -/
abbrev balanceHysteresis : Nat := 0x2B000C
/-- 0x2B00:0D MaxBalancePerSlice (UNSIGNED8, RW), Table 13.10, R405 of spec/13_stack_monitoring.md. -/
abbrev maxBalancePerSlice : Nat := 0x2B000D
/-- 0x2B00:0E BalanceDuty (UNSIGNED8, RW), Table 13.10, R405 of spec/13_stack_monitoring.md. -/
abbrev balanceDuty : Nat := 0x2B000E
/-- 0x2B00:0F BalanceTempLimit (UNSIGNED8, RW), Table 13.10, R405 of spec/13_stack_monitoring.md. -/
abbrev balanceTempLimit : Nat := 0x2B000F
/-- 0x2B00:10 MeasurementCycles (UNSIGNED32, RO), Table 13.10, R405 of spec/13_stack_monitoring.md. -/
abbrev measurementCycles : Nat := 0x2B0010
/-- 0x2B10+s:01 RingMode (UNSIGNED8, RO), Table 13.11, R405 of spec/13_stack_monitoring.md. -/
abbrev ringMode (s : Nat) : Nat := (0x2B10 + s) * 256 + 1
/-- 0x2B10+s:02 SlicesReached (UNSIGNED8, RO), Table 13.11, R405 of spec/13_stack_monitoring.md. -/
abbrev slicesReached (s : Nat) : Nat := (0x2B10 + s) * 256 + 2
/-- 0x2B10+s:03 BreakAfter (UNSIGNED8, RO), Table 13.11, R405 of spec/13_stack_monitoring.md. -/
abbrev breakAfter (s : Nat) : Nat := (0x2B10 + s) * 256 + 3
/-- 0x2B10+s:04 CrcErrors (UNSIGNED32, RO), Table 13.11, R405 of spec/13_stack_monitoring.md. -/
abbrev crcErrors (s : Nat) : Nat := (0x2B10 + s) * 256 + 4
/-- 0x2B10+s:05 Retransmissions (UNSIGNED32, RO), Table 13.11, R405 of spec/13_stack_monitoring.md. -/
abbrev retransmissions2B10 (s : Nat) : Nat := (0x2B10 + s) * 256 + 5
/-- 0x2B10+s:06 CounterMismatches (UNSIGNED32, RO), Table 13.11, R405 of spec/13_stack_monitoring.md. -/
abbrev counterMismatches (s : Nat) : Nat := (0x2B10 + s) * 256 + 6
/-- 0x2B10+s:07 RingBreaks (UNSIGNED32, RO), Table 13.11, R405 of spec/13_stack_monitoring.md. -/
abbrev ringBreaks (s : Nat) : Nat := (0x2B10 + s) * 256 + 7
/-- 0x2B10+s:08 MeasurementFaults (UNSIGNED32, RO), Table 13.11, R405 of spec/13_stack_monitoring.md. -/
abbrev measurementFaults (s : Nat) : Nat := (0x2B10 + s) * 256 + 8
/-- 0x2B10+s:09 LastCommand (OCTET_STRING, RO), Table 13.11, R405 of spec/13_stack_monitoring.md. -/
abbrev lastCommand (s : Nat) : Nat := (0x2B10 + s) * 256 + 9
/-- 0x2B10+s:0A CellsValid (OCTET_STRING, RO), Table 13.11, R405 of spec/13_stack_monitoring.md. -/
abbrev cellsValid (s : Nat) : Nat := (0x2B10 + s) * 256 + 10
/-- 0x2B40+x:01 SliceState (UNSIGNED8, RO), Table 13.12, R405 of spec/13_stack_monitoring.md. -/
abbrev sliceState (x : Nat) : Nat := (0x2B40 + x) * 256 + 1
/-- 0x2B40+x:02 SliceIdentity (OCTET_STRING, RO), Table 13.12, R405 of spec/13_stack_monitoring.md. -/
abbrev sliceIdentity (x : Nat) : Nat := (0x2B40 + x) * 256 + 2
/-- 0x2B40+x:03 Temperatures (OCTET_STRING, RO), Table 13.12, R405 of spec/13_stack_monitoring.md. -/
abbrev temperatures (x : Nat) : Nat := (0x2B40 + x) * 256 + 3
/-- 0x2B40+x:04 BalanceMask (UNSIGNED16, RO), Table 13.12, R405 of spec/13_stack_monitoring.md. -/
abbrev balanceMask (x : Nat) : Nat := (0x2B40 + x) * 256 + 4
/-- 0x2B40+x:05 OpenWires (UNSIGNED32, RO), Table 13.12, R405 of spec/13_stack_monitoring.md. -/
abbrev openWires (x : Nat) : Nat := (0x2B40 + x) * 256 + 5
/-- 0x2B40+x:06 PlausibilityFaults (UNSIGNED32, RO), Table 13.12, R405 of spec/13_stack_monitoring.md. -/
abbrev plausibilityFaults (x : Nat) : Nat := (0x2B40 + x) * 256 + 6
/-- 0x2B40+x:07 WithdrawnValues (UNSIGNED32, RO), Table 13.12, R405 of spec/13_stack_monitoring.md. -/
abbrev withdrawnValues (x : Nat) : Nat := (0x2B40 + x) * 256 + 7
/-- 0x2B40+x:08 LastResult (UNSIGNED8, RO), Table 13.12, R405 of spec/13_stack_monitoring.md. -/
abbrev lastResult (x : Nat) : Nat := (0x2B40 + x) * 256 + 8
/-- 0x2B40+x:10–:1F CellVoltage0–15 (UNSIGNED16, RO), Table 13.12, R405 of spec/13_stack_monitoring.md. -/
abbrev cellVoltage (x j : Nat) : Nat := (0x2B40 + x) * 256 + 16 + j
/-- 0x2C00:03 SocHardLow (UNSIGNED16, RW), Table 14.5, R436 of spec/14_storage_estimation.md. -/
abbrev socHardLow : Nat := 0x2C0003
/-- 0x2C00:04 SocHardHigh (UNSIGNED16, RW), Table 14.5, R436 of spec/14_storage_estimation.md. -/
abbrev socHardHigh : Nat := 0x2C0004
/-- 0x2C00:05 CellVoltageMin (UNSIGNED16, RW), Table 14.5, R436 of spec/14_storage_estimation.md. -/
abbrev cellVoltageMin : Nat := 0x2C0005
/-- 0x2C00:06 CellVoltageMax (UNSIGNED16, RW), Table 14.5, R436 of spec/14_storage_estimation.md. -/
abbrev cellVoltageMax : Nat := 0x2C0006
/-- 0x2C00:07 CellVoltageTripMin (UNSIGNED16, RW), Table 14.5, R436 of spec/14_storage_estimation.md. -/
abbrev cellVoltageTripMin : Nat := 0x2C0007
/-- 0x2C00:08 CellVoltageTripMax (UNSIGNED16, RW), Table 14.5, R436 of spec/14_storage_estimation.md. -/
abbrev cellVoltageTripMax : Nat := 0x2C0008
/-- 0x2C00:09 DerateBand (UNSIGNED16, RW), Table 14.5, R436 of spec/14_storage_estimation.md. -/
abbrev derateBand : Nat := 0x2C0009
/-- 0x2C00:0A CellTempMax (INTEGER16, RW), Table 14.5, R436 of spec/14_storage_estimation.md. -/
abbrev cellTempMax : Nat := 0x2C000A
/-- 0x2C00:0B CellTempTrip (INTEGER16, RW), Table 14.5, R436 of spec/14_storage_estimation.md. -/
abbrev cellTempTrip : Nat := 0x2C000B
/-- 0x2C00:0C CellTempChargeMin (INTEGER16, RW), Table 14.5, R436 of spec/14_storage_estimation.md. -/
abbrev cellTempChargeMin : Nat := 0x2C000C
/-- 0x2C00:0D StringCurrentMax (UNSIGNED32, RW), Table 14.5, R436 of spec/14_storage_estimation.md. -/
abbrev stringCurrentMax : Nat := 0x2C000D
/-- 0x2C00:0E StringPowerMax (UNSIGNED32, RW), Table 14.5, R436 of spec/14_storage_estimation.md. -/
abbrev stringPowerMax : Nat := 0x2C000E
/-- 0x2C00:0F CapacityNominal (UNSIGNED32, RW), Table 14.5, R436 of spec/14_storage_estimation.md. -/
abbrev capacityNominal : Nat := 0x2C000F
/-- 0x2C00:10 RestCurrent (UNSIGNED32, RW), Table 14.5, R436 of spec/14_storage_estimation.md. -/
abbrev restCurrent : Nat := 0x2C0010
/-- 0x2C00:11 RestTime (UNSIGNED16, RW), Table 14.5, R436 of spec/14_storage_estimation.md. -/
abbrev restTime : Nat := 0x2C0011
/-- 0x2C00:12 GainRest (UNSIGNED16, RW), Table 14.5, R436 of spec/14_storage_estimation.md. -/
abbrev gainRest : Nat := 0x2C0012
/-- 0x2C00:13 GainLoad (UNSIGNED16, RW), Table 14.5, R436 of spec/14_storage_estimation.md. -/
abbrev gainLoad : Nat := 0x2C0013
/-- 0x2C00:14 FlatSlope (UNSIGNED16, RW), Table 14.5, R436 of spec/14_storage_estimation.md. -/
abbrev flatSlope : Nat := 0x2C0014
/-- 0x2C00:15 StepMin (UNSIGNED32, RW), Table 14.5, R436 of spec/14_storage_estimation.md. -/
abbrev stepMin : Nat := 0x2C0015
/-- 0x2C00:16 ExcitationSpan (UNSIGNED8, RW), Table 14.5, R436 of spec/14_storage_estimation.md. -/
abbrev excitationSpan : Nat := 0x2C0016
/-- 0x2C00:17 Forgetting (UNSIGNED32, RW), Table 14.5, R436 of spec/14_storage_estimation.md. -/
abbrev forgetting : Nat := 0x2C0017
/-- 0x2C00:18 ConvergeEvents (UNSIGNED8, RW), Table 14.5, R436 of spec/14_storage_estimation.md. -/
abbrev convergeEvents : Nat := 0x2C0018
/-- 0x2C00:19 ReportRate (UNSIGNED16, RW), Table 14.5, R436 of spec/14_storage_estimation.md. -/
abbrev reportRate : Nat := 0x2C0019
/-- 0x2C00:1A ReportMode (UNSIGNED8, RW), Table 14.5, R436 of spec/14_storage_estimation.md. -/
abbrev reportMode : Nat := 0x2C001A
/-- 0x2C00:1B DischargeThreshold (UNSIGNED32, RW), Table 14.5, R436 of spec/14_storage_estimation.md. -/
abbrev dischargeThreshold : Nat := 0x2C001B
/-- 0x2C00:1C RsInitial (UNSIGNED32, RW), Table 14.5, R436 of spec/14_storage_estimation.md. -/
abbrev rsInitial : Nat := 0x2C001C
/-- 0x2C00:1D RpInitial (UNSIGNED32, RW), Table 14.5, R436 of spec/14_storage_estimation.md. -/
abbrev rpInitial : Nat := 0x2C001D
/-- 0x2C00:1E TauInitial (UNSIGNED32, RW), Table 14.5, R436 of spec/14_storage_estimation.md. -/
abbrev tauInitial : Nat := 0x2C001E
/-- 0x2C00:20 EstimatorMismatches (UNSIGNED32, RO), Table 14.5, R436 of spec/14_storage_estimation.md. -/
abbrev estimatorMismatches : Nat := 0x2C0020
/-- 0x2C00:21 ShipSocMin (UNSIGNED16, RW), Table 14.5, R436 of spec/14_storage_estimation.md. -/
abbrev shipSocMin : Nat := 0x2C0021
/-- 0x2C00:22 ShipRecord (OCTET_STRING, RO), Table 14.5, R436 of spec/14_storage_estimation.md. -/
abbrev shipRecord : Nat := 0x2C0022
/-- 0x2C00:23 ShipCount (UNSIGNED32, RO), Table 14.5, R436 of spec/14_storage_estimation.md. -/
abbrev shipCount : Nat := 0x2C0023
/-- 0x2C01:01 CalibrationRequest (UNSIGNED8, RW), Table 14.5, R436 of spec/14_storage_estimation.md. -/
abbrev calibrationRequest : Nat := 0x2C0101
/-- 0x2C01:02 CalibrationPhase (UNSIGNED8, RO), Table 14.5, R436 of spec/14_storage_estimation.md. -/
abbrev calibrationPhase : Nat := 0x2C0102
/-- 0x2C01:03 CalibrationResult (UNSIGNED8, RO), Table 14.5, R436 of spec/14_storage_estimation.md. -/
abbrev calibrationResult : Nat := 0x2C0103
/-- 0x2C01:04 CalibrationPower (UNSIGNED32, RW), Table 14.5, R436 of spec/14_storage_estimation.md. -/
abbrev calibrationPower : Nat := 0x2C0104
/-- 0x2C01:05 CalibrationFullVoltage (UNSIGNED16, RW), Table 14.5, R436 of spec/14_storage_estimation.md. -/
abbrev calibrationFullVoltage : Nat := 0x2C0105
/-- 0x2C01:06 CalibrationEmptyVoltage (UNSIGNED16, RW), Table 14.5, R436 of spec/14_storage_estimation.md. -/
abbrev calibrationEmptyVoltage : Nat := 0x2C0106
/-- 0x2C01:07 CalibrationTimeout (UNSIGNED32, RW), Table 14.5, R436 of spec/14_storage_estimation.md. -/
abbrev calibrationTimeout : Nat := 0x2C0107
/-- 0x2C01:08 EndpointAverage (UNSIGNED16, RW), Table 14.5, R436 of spec/14_storage_estimation.md. -/
abbrev endpointAverage : Nat := 0x2C0108
/-- 0x2C02:01 OcvTable (DOMAIN, RW), Table 14.5, R436 of spec/14_storage_estimation.md. -/
abbrev ocvTable : Nat := 0x2C0201
/-- 0x2C10+s:01 SocEstimate (UNSIGNED16, RO), Table 14.5, R436 of spec/14_storage_estimation.md. -/
abbrev socEstimate (s : Nat) : Nat := (0x2C10 + s) * 256 + 1
/-- 0x2C10+s:02 SocReported (UNSIGNED16, RO), Table 14.5, R436 of spec/14_storage_estimation.md. -/
abbrev socReported (s : Nat) : Nat := (0x2C10 + s) * 256 + 2
/-- 0x2C10+s:03 UsableCapacity (UNSIGNED32, RO), Table 14.5, R436 of spec/14_storage_estimation.md. -/
abbrev usableCapacity (s : Nat) : Nat := (0x2C10 + s) * 256 + 3
/-- 0x2C10+s:04 EnergyAboveWindow (UNSIGNED32, RO), Table 14.5, R436 of spec/14_storage_estimation.md. -/
abbrev energyAboveWindow (s : Nat) : Nat := (0x2C10 + s) * 256 + 4
/-- 0x2C10+s:05 DischargeLimit (UNSIGNED32, RO), Table 14.5, R436 of spec/14_storage_estimation.md. -/
abbrev dischargeLimit (s : Nat) : Nat := (0x2C10 + s) * 256 + 5
/-- 0x2C10+s:06 ChargeLimit (UNSIGNED32, RO), Table 14.5, R436 of spec/14_storage_estimation.md. -/
abbrev chargeLimit (s : Nat) : Nat := (0x2C10 + s) * 256 + 6
/-- 0x2C10+s:07 HardLimitFlags (UNSIGNED8, RO), Table 14.5, R436 of spec/14_storage_estimation.md. -/
abbrev hardLimitFlags (s : Nat) : Nat := (0x2C10 + s) * 256 + 7
/-- 0x2C10+s:08 WindowState (UNSIGNED8, RO), Table 14.5, R436 of spec/14_storage_estimation.md. -/
abbrev windowState (s : Nat) : Nat := (0x2C10 + s) * 256 + 8
/-- 0x2C10+s:09 CellsConverged (UNSIGNED16, RO), Table 14.5, R436 of spec/14_storage_estimation.md. -/
abbrev cellsConverged (s : Nat) : Nat := (0x2C10 + s) * 256 + 9
/-- 0x2C20+s:01 CellSoc (DOMAIN, RO), Table 14.5, R436 of spec/14_storage_estimation.md. -/
abbrev cellSoc (s : Nat) : Nat := (0x2C20 + s) * 256 + 1
/-- 0x2C20+s:02 CellCapacity (DOMAIN, RW), Table 14.5, R436 of spec/14_storage_estimation.md. -/
abbrev cellCapacity (s : Nat) : Nat := (0x2C20 + s) * 256 + 2
/-- 0x2C20+s:03 CellImpedance (DOMAIN, RO), Table 14.5, R436 of spec/14_storage_estimation.md. -/
abbrev cellImpedance (s : Nat) : Nat := (0x2C20 + s) * 256 + 3
/-- 0x2C20+s:04 CellConverged (OCTET_STRING, RO), Table 14.5, R436 of spec/14_storage_estimation.md. -/
abbrev cellConverged (s : Nat) : Nat := (0x2C20 + s) * 256 + 4
/-- 0x2C40+s:01 ConnectedSeconds (UNSIGNED32, RO), Table 14.5, R436 of spec/14_storage_estimation.md. -/
abbrev connectedSeconds (s : Nat) : Nat := (0x2C40 + s) * 256 + 1
/-- 0x2C40+s:02 VoltageExtremes (OCTET_STRING, RO), Table 14.5, R436 of spec/14_storage_estimation.md. -/
abbrev voltageExtremes (s : Nat) : Nat := (0x2C40 + s) * 256 + 2
/-- 0x2C40+s:03 CurrentExtremes (OCTET_STRING, RO), Table 14.5, R436 of spec/14_storage_estimation.md. -/
abbrev currentExtremes (s : Nat) : Nat := (0x2C40 + s) * 256 + 3
/-- 0x2C40+s:04 TemperatureExtremes (OCTET_STRING, RO), Table 14.5, R436 of spec/14_storage_estimation.md. -/
abbrev temperatureExtremes (s : Nat) : Nat := (0x2C40 + s) * 256 + 4
/-- 0x2C40+s:05 SocHistogram (DOMAIN, RO), Table 14.5, R436 of spec/14_storage_estimation.md. -/
abbrev socHistogram (s : Nat) : Nat := (0x2C40 + s) * 256 + 5
/-- 0x2C40+s:06 TemperatureHistogram (DOMAIN, RO), Table 14.5, R436 of spec/14_storage_estimation.md. -/
abbrev temperatureHistogram (s : Nat) : Nat := (0x2C40 + s) * 256 + 6
/-- 0x2C40+s:07 RateHistogram (DOMAIN, RO), Table 14.5, R436 of spec/14_storage_estimation.md. -/
abbrev rateHistogram (s : Nat) : Nat := (0x2C40 + s) * 256 + 7
/-- 0x2C40+s:08 DischargedThroughput (UNSIGNED64, RO), Table 14.5, R436 of spec/14_storage_estimation.md. -/
abbrev dischargedThroughput (s : Nat) : Nat := (0x2C40 + s) * 256 + 8
/-- 0x2C40+s:09 ChargedThroughput (UNSIGNED64, RO), Table 14.5, R436 of spec/14_storage_estimation.md. -/
abbrev chargedThroughput (s : Nat) : Nat := (0x2C40 + s) * 256 + 9
/-- 0x2C40+s:0A EquivalentCycles (UNSIGNED32, RO), Table 14.5, R436 of spec/14_storage_estimation.md. -/
abbrev equivalentCycles (s : Nat) : Nat := (0x2C40 + s) * 256 + 10
/-- 0x2C40+s:0B CalibrationHistory (OCTET_STRING, RO), Table 14.5, R436 of spec/14_storage_estimation.md. -/
abbrev calibrationHistory (s : Nat) : Nat := (0x2C40 + s) * 256 + 11
/-- 0x2C40+s:0C LifetimeClear (UNSIGNED8, RW), Table 14.5, R436 of spec/14_storage_estimation.md. -/
abbrev lifetimeClear (s : Nat) : Nat := (0x2C40 + s) * 256 + 12
/-- 0x2D00:01 PackagePowerEstimate (UNSIGNED32, RO), Table 15.10, R461 of spec/15_package_power.md. -/
abbrev packagePowerEstimate2D00 : Nat := 0x2D0001
/-- 0x2D00:02 PackagePowerMeasured (UNSIGNED32, RO), Table 15.10, R461 of spec/15_package_power.md. -/
abbrev packagePowerMeasured : Nat := 0x2D0002
/-- 0x2D00:03 PackagePowerLimit (UNSIGNED32, RW), Table 15.10, R461 of spec/15_package_power.md. -/
abbrev packagePowerLimit2D00 : Nat := 0x2D0003
/-- 0x2D00:04 DefaultPoint (UNSIGNED8, RW), Table 15.10, R461 of spec/15_package_power.md. -/
abbrev defaultPoint : Nat := 0x2D0004
/-- 0x2D00:05 IdlePoint (UNSIGNED8, RW), Table 15.10, R461 of spec/15_package_power.md. -/
abbrev idlePoint : Nat := 0x2D0005
/-- 0x2D00:06 FastestPoint (UNSIGNED8, RW), Table 15.10, R461 of spec/15_package_power.md. -/
abbrev fastestPoint2D00 : Nat := 0x2D0006
/-- 0x2D00:07 PointHoldTime (UNSIGNED32, RW), Table 15.10, R461 of spec/15_package_power.md. -/
abbrev pointHoldTime : Nat := 0x2D0007
/-- 0x2D00:08 AlertHoldTime (UNSIGNED32, RW), Table 15.10, R461 of spec/15_package_power.md. -/
abbrev alertHoldTime : Nat := 0x2D0008
/-- 0x2D00:09 AlertEvents (UNSIGNED32, RO), Table 15.10, R461 of spec/15_package_power.md. -/
abbrev alertEvents : Nat := 0x2D0009
/-- 0x2D00:0A AlertTime (UNSIGNED64, RO), Table 15.10, R461 of spec/15_package_power.md. -/
abbrev alertTime : Nat := 0x2D000A
/-- 0x2D00:0B RailDitherDepth (UNSIGNED16, RW), Table 15.10, R461 of spec/15_package_power.md. -/
abbrev railDitherDepth : Nat := 0x2D000B
/-- 0x2D00:0C OverheadEnergy (UNSIGNED64, RO), Table 15.10, R461 of spec/15_package_power.md. -/
abbrev overheadEnergy : Nat := 0x2D000C
/-- 0x2D00:0D OperatorProgramEnergy (UNSIGNED64, RO), Table 15.10, R461 of spec/15_package_power.md. -/
abbrev operatorProgramEnergy : Nat := 0x2D000D
/-- 0x2D00:0E RackEnergy (UNSIGNED64, RO), Table 15.10, R461 of spec/15_package_power.md. -/
abbrev rackEnergy : Nat := 0x2D000E
/-- 0x2D00:0F RackUnattributedEnergy (UNSIGNED64, RO), Table 15.10, R461 of spec/15_package_power.md. -/
abbrev rackUnattributedEnergy : Nat := 0x2D000F
/-- 0x2D00:10 StorageDischargeUnattributed (UNSIGNED64, RO), Table 15.10, R461 of spec/15_package_power.md. -/
abbrev storageDischargeUnattributed : Nat := 0x2D0010
/-- 0x2D00:11 StorageChargeUnattributed (UNSIGNED64, RO), Table 15.10, R461 of spec/15_package_power.md. -/
abbrev storageChargeUnattributed : Nat := 0x2D0011
/-- 0x2D10+d:01 RequestedPoint (UNSIGNED8, RO), Table 15.11, R461 of spec/15_package_power.md. -/
abbrev requestedPoint (d : Nat) : Nat := (0x2D10 + d) * 256 + 1
/-- 0x2D10+d:02 ThrottleReasons (UNSIGNED8, RO), Table 15.11, R461 of spec/15_package_power.md. -/
abbrev throttleReasons (d : Nat) : Nat := (0x2D10 + d) * 256 + 2
/-- 0x2D10+d:03 PowerEstimate (UNSIGNED32, RO), Table 15.11, R461 of spec/15_package_power.md. -/
abbrev powerEstimate (d : Nat) : Nat := (0x2D10 + d) * 256 + 3
/-- 0x2D10+d:04 CalibrationFactor (UNSIGNED32, RO), Table 15.11, R461 of spec/15_package_power.md. -/
abbrev calibrationFactor (d : Nat) : Nat := (0x2D10 + d) * 256 + 4
/-- 0x2D10+d:05 FusedVoltageCodes (OCTET_STRING, RO), Table 15.11, R461 of spec/15_package_power.md. -/
abbrev fusedVoltageCodes (d : Nat) : Nat := (0x2D10 + d) * 256 + 5
/-- 0x2D10+d:06 VoltageMargin (UNSIGNED8, RW), Table 15.11, R461 of spec/15_package_power.md. -/
abbrev voltageMargin (d : Nat) : Nat := (0x2D10 + d) * 256 + 6
/-- 0x2D10+d:07–:0C ThrottleTime0–5 (UNSIGNED64, RO), Table 15.11, R461 of spec/15_package_power.md. -/
abbrev throttleTime (d j : Nat) : Nat := (0x2D10 + d) * 256 + 7 + j
/-- 0x2D10+d:0D PointChanges (UNSIGNED32, RO), Table 15.11, R461 of spec/15_package_power.md. -/
abbrev pointChanges (d : Nat) : Nat := (0x2D10 + d) * 256 + 13
/-- 0x2D10+d:0E DieEnergy (UNSIGNED64, RO), Table 15.11, R461 of spec/15_package_power.md. -/
abbrev dieEnergy (d : Nat) : Nat := (0x2D10 + d) * 256 + 14
/-- 0x2D20+r:01 RailState (UNSIGNED8, RO), Table 15.12, R461 of spec/15_package_power.md. -/
abbrev railState (r : Nat) : Nat := (0x2D20 + r) * 256 + 1
/-- 0x2D20+r:02 VoltageCode (UNSIGNED8, RO), Table 15.12, R461 of spec/15_package_power.md. -/
abbrev voltageCode (r : Nat) : Nat := (0x2D20 + r) * 256 + 2
/-- 0x2D20+r:03 OutputVoltage (UNSIGNED16, RO), Table 15.12, R461 of spec/15_package_power.md. -/
abbrev outputVoltage (r : Nat) : Nat := (0x2D20 + r) * 256 + 3
/-- 0x2D20+r:04 OutputCurrent (UNSIGNED32, RO), Table 15.12, R461 of spec/15_package_power.md. -/
abbrev outputCurrent (r : Nat) : Nat := (0x2D20 + r) * 256 + 4
/-- 0x2D20+r:05 ActivePhaseCount (UNSIGNED8, RO), Table 15.12, R461 of spec/15_package_power.md. -/
abbrev activePhaseCount (r : Nat) : Nat := (0x2D20 + r) * 256 + 5
/-- 0x2D20+r:06 PhaseCurrentLimit (UNSIGNED32, RO), Table 15.12, R461 of spec/15_package_power.md. -/
abbrev phaseCurrentLimit (r : Nat) : Nat := (0x2D20 + r) * 256 + 6
/-- 0x2D20+r:07 Slew (UNSIGNED16, RW), Table 15.12, R461 of spec/15_package_power.md. -/
abbrev slew (r : Nat) : Nat := (0x2D20 + r) * 256 + 7
/-- 0x2D20+r:08 SoftStartTime (UNSIGNED16, RW), Table 15.12, R461 of spec/15_package_power.md. -/
abbrev softStartTime (r : Nat) : Nat := (0x2D20 + r) * 256 + 8
/-- 0x2D20+r:09 ShedCurrent (UNSIGNED32, RW), Table 15.12, R461 of spec/15_package_power.md. -/
abbrev shedCurrent (r : Nat) : Nat := (0x2D20 + r) * 256 + 9
/-- 0x2D20+r:0A AddCurrent (UNSIGNED32, RW), Table 15.12, R461 of spec/15_package_power.md. -/
abbrev addCurrent (r : Nat) : Nat := (0x2D20 + r) * 256 + 10
/-- 0x2D20+r:0B ShedDelay (UNSIGNED32, RW), Table 15.12, R461 of spec/15_package_power.md. -/
abbrev shedDelay2D20 (r : Nat) : Nat := (0x2D20 + r) * 256 + 11
/-- 0x2D20+r:0C HiccupEvents (UNSIGNED32, RO), Table 15.12, R461 of spec/15_package_power.md. -/
abbrev hiccupEvents (r : Nat) : Nat := (0x2D20 + r) * 256 + 12
/-- 0x2D20+r:0D OvEvents (UNSIGNED32, RO), Table 15.12, R461 of spec/15_package_power.md. -/
abbrev ovEvents (r : Nat) : Nat := (0x2D20 + r) * 256 + 13
/-- 0x2D20+r:0E RailClear (UNSIGNED8, RW), Table 15.12, R461 of spec/15_package_power.md. -/
abbrev railClear (r : Nat) : Nat := (0x2D20 + r) * 256 + 14
/-- 0x2D80+t:01 ModuleEnergy (UNSIGNED64, RO), Table 15.13, R461 of spec/15_package_power.md. -/
abbrev moduleEnergy (t : Nat) : Nat := (0x2D80 + t) * 256 + 1
/-- 0x2D80+t:02 RackEnergyShare (UNSIGNED64, RO), Table 15.13, R461 of spec/15_package_power.md. -/
abbrev rackEnergyShare (t : Nat) : Nat := (0x2D80 + t) * 256 + 2
/-- 0x2D80+t:03 StorageDischargeShare (UNSIGNED64, RO), Table 15.13, R461 of spec/15_package_power.md. -/
abbrev storageDischargeShare (t : Nat) : Nat := (0x2D80 + t) * 256 + 3
/-- 0x2D80+t:04 StorageChargeShare (UNSIGNED64, RO), Table 15.13, R461 of spec/15_package_power.md. -/
abbrev storageChargeShare (t : Nat) : Nat := (0x2D80 + t) * 256 + 4
/-- 0x2D80+t:05 ExceptionsAttributed (UNSIGNED32, RO), Table 15.13, R461 of spec/15_package_power.md. -/
abbrev exceptionsAttributed (t : Nat) : Nat := (0x2D80 + t) * 256 + 5
/-- 0x2D80+t:06 AccountStart (HallTime, RO), Table 15.13, R461 of spec/15_package_power.md. -/
abbrev accountStart (t : Nat) : Nat := (0x2D80 + t) * 256 + 6
/-- 0x2E00:01 ThermalState (UNSIGNED8, RO), Table 16.6, R477 of spec/16_thermal.md. -/
abbrev thermalState2E00 : Nat := 0x2E0001
/-- 0x2E00:02 ShutdownCause (UNSIGNED8, RO), Table 16.6, R477 of spec/16_thermal.md. -/
abbrev shutdownCause : Nat := 0x2E0002
/-- 0x2E00:03 ShutdownTime (HallTime, RO), Table 16.6, R477 of spec/16_thermal.md. -/
abbrev shutdownTime : Nat := 0x2E0003
/-- 0x2E00:04 RoundsCompleted (UNSIGNED32, RO), Table 16.6, R477 of spec/16_thermal.md. -/
abbrev roundsCompleted : Nat := 0x2E0004
/-- 0x2E00:05 BrokenChannels (UNSIGNED64, RO), Table 16.6, R477 of spec/16_thermal.md. -/
abbrev brokenChannels : Nat := 0x2E0005
/-- 0x2E00:06 LostChannels (UNSIGNED64, RO), Table 16.6, R477 of spec/16_thermal.md. -/
abbrev lostChannels : Nat := 0x2E0006
/-- 0x2E00:07 CoolantFlowEstimate (UNSIGNED16, RO), Table 16.6, R477 of spec/16_thermal.md. -/
abbrev coolantFlowEstimate : Nat := 0x2E0007
/-- 0x2E00:08 FlowLowLimit (UNSIGNED16, RW), Table 16.6, R477 of spec/16_thermal.md. -/
abbrev flowLowLimit : Nat := 0x2E0008
/-- 0x2E00:09 StepLimit (UNSIGNED16, RW), Table 16.6, R477 of spec/16_thermal.md. -/
abbrev stepLimit : Nat := 0x2E0009
/-- 0x2E00:0A CrossCheckTolerance (UNSIGNED16, RW), Table 16.6, R477 of spec/16_thermal.md. -/
abbrev crossCheckTolerance : Nat := 0x2E000A
/-- 0x2E00:0B ThrottleRelax (UNSIGNED32, RW), Table 16.6, R477 of spec/16_thermal.md. -/
abbrev throttleRelax : Nat := 0x2E000B
/-- 0x2E40+c:01 SensorType (UNSIGNED8, RW (external); RO (on-die)), Table 16.7, R477 of spec/16_thermal.md. -/
abbrev sensorType (c : Nat) : Nat := (0x2E40 + c) * 256 + 1
/-- 0x2E40+c:02 Role (UNSIGNED8, RW (external); RO (on-die)), Table 16.7, R477 of spec/16_thermal.md. -/
abbrev role (c : Nat) : Nat := (0x2E40 + c) * 256 + 2
/-- 0x2E40+c:03 Temperature (INTEGER16, RO), Table 16.7, R477 of spec/16_thermal.md. -/
abbrev temperature (c : Nat) : Nat := (0x2E40 + c) * 256 + 3
/-- 0x2E40+c:04 ChannelStatus (UNSIGNED8, RO), Table 16.7, R477 of spec/16_thermal.md. -/
abbrev channelStatus (c : Nat) : Nat := (0x2E40 + c) * 256 + 4
/-- 0x2E40+c:05 WarnLimit (INTEGER16, RW), Table 16.7, R477 of spec/16_thermal.md. -/
abbrev warnLimit (c : Nat) : Nat := (0x2E40 + c) * 256 + 5
/-- 0x2E40+c:06 ThrottleLimit (INTEGER16, RW), Table 16.7, R477 of spec/16_thermal.md. -/
abbrev throttleLimit (c : Nat) : Nat := (0x2E40 + c) * 256 + 6
/-- 0x2E40+c:07 ShutdownLimit (INTEGER16, RW), Table 16.7, R477 of spec/16_thermal.md. -/
abbrev shutdownLimit (c : Nat) : Nat := (0x2E40 + c) * 256 + 7
/-- 0x2E40+c:08 Hysteresis (UNSIGNED16, RW), Table 16.7, R477 of spec/16_thermal.md. -/
abbrev hysteresis (c : Nat) : Nat := (0x2E40 + c) * 256 + 8
/-- 0x2E40+c:09 Neighbours (UNSIGNED16, RW), Table 16.7, R477 of spec/16_thermal.md. -/
abbrev neighbours (c : Nat) : Nat := (0x2E40 + c) * 256 + 9
/-- 0x2E40+c:0A DiodeIdeality (UNSIGNED16, RW), Table 16.7, R477 of spec/16_thermal.md. -/
abbrev diodeIdeality (c : Nat) : Nat := (0x2E40 + c) * 256 + 10
/-- 0x2E40+c:0B NtcBeta (UNSIGNED16, RW), Table 16.7, R477 of spec/16_thermal.md. -/
abbrev ntcBeta (c : Nat) : Nat := (0x2E40 + c) * 256 + 11
/-- 0x2E40+c:0C Offset (INTEGER16, RW), Table 16.7, R477 of spec/16_thermal.md. -/
abbrev offset2E40 (c : Nat) : Nat := (0x2E40 + c) * 256 + 12
/-- 0x2E40+c:0D MaxSeen (INTEGER16, RO), Table 16.7, R477 of spec/16_thermal.md. -/
abbrev maxSeen (c : Nat) : Nat := (0x2E40 + c) * 256 + 13
/-- 0x2E40+c:0E BrokenEvents (UNSIGNED32, RO), Table 16.7, R477 of spec/16_thermal.md. -/
abbrev brokenEvents (c : Nat) : Nat := (0x2E40 + c) * 256 + 14
/-- 0x2F20+b:01 BlockState (UNSIGNED8, RO), Table 17.2, R479 of spec/17_faults.md. -/
abbrev blockState (b : Nat) : Nat := (0x2F20 + b) * 256 + 1
/-- 0x2F20+b:02 Unacknowledged (UNSIGNED8, RO), Table 17.2, R479 of spec/17_faults.md. -/
abbrev unacknowledged (b : Nat) : Nat := (0x2F20 + b) * 256 + 2
/-- 0x2F20+b:03 FaultCount (UNSIGNED32, RO), Table 17.2, R479 of spec/17_faults.md. -/
abbrev faultCount (b : Nat) : Nat := (0x2F20 + b) * 256 + 3
/-- 0x2F20+b:04 EventCount (UNSIGNED32, RO), Table 17.2, R479 of spec/17_faults.md. -/
abbrev eventCount (b : Nat) : Nat := (0x2F20 + b) * 256 + 4
/-- 0x2F20+b:05 HistoryQueue (OCTET_STRING, RO), Table 17.2, R479 of spec/17_faults.md. -/
abbrev historyQueue (b : Nat) : Nat := (0x2F20 + b) * 256 + 5
/-- 0x2F20+b:06 InterruptMask (UNSIGNED16, RW), Table 17.2, R479 of spec/17_faults.md. -/
abbrev interruptMask (b : Nat) : Nat := (0x2F20 + b) * 256 + 6
/-- 0x2F20+b:07 Acknowledge (UNSIGNED8, RW), Table 17.2, R479 of spec/17_faults.md. -/
abbrev acknowledge (b : Nat) : Nat := (0x2F20 + b) * 256 + 7
/-- 0x2F20+b:08 QueueOverwrites (UNSIGNED32, RO), Table 17.2, R479 of spec/17_faults.md. -/
abbrev queueOverwrites (b : Nat) : Nat := (0x2F20 + b) * 256 + 8
/-- 0x2F20+b:09 BlockCommand (UNSIGNED8, RW), Table 17.2, R479 of spec/17_faults.md. -/
abbrev blockCommand (b : Nat) : Nat := (0x2F20 + b) * 256 + 9
/-- 0x2F00:01 EscalationPhase (UNSIGNED8, RO), Table 17.11, R497 of spec/17_faults.md. -/
abbrev escalationPhase : Nat := 0x2F0001
/-- 0x2F00:02 CoverageInForce (UNSIGNED8, RO), Table 17.11, R497 of spec/17_faults.md. -/
abbrev coverageInForce2F00 : Nat := 0x2F0002
/-- 0x2F00:03 HalfAUnacknowledged (UNSIGNED16, RO), Table 17.11, R497 of spec/17_faults.md. -/
abbrev halfAUnacknowledged2F00 : Nat := 0x2F0003
/-- 0x2F00:04 HalfBUnacknowledged (UNSIGNED16, RO), Table 17.11, R497 of spec/17_faults.md. -/
abbrev halfBUnacknowledged2F00 : Nat := 0x2F0004
/-- 0x2F00:05 SafeCause (UNSIGNED32, RO), Table 17.11, R497 of spec/17_faults.md. -/
abbrev safeCause : Nat := 0x2F0005
/-- 0x2F00:06 HoldCount (UNSIGNED32, RO), Table 17.11, R497 of spec/17_faults.md. -/
abbrev holdCount : Nat := 0x2F0006
/-- 0x2F00:07 LastHold (OCTET_STRING, RO), Table 17.11, R497 of spec/17_faults.md. -/
abbrev lastHold : Nat := 0x2F0007
/-- 0x2F00:08 Escalations (UNSIGNED32, RO), Table 17.11, R497 of spec/17_faults.md. -/
abbrev escalations : Nat := 0x2F0008
/-- 0x2F00:09 AcknowledgeAll (UNSIGNED8, RW), Table 17.11, R497 of spec/17_faults.md. -/
abbrev acknowledgeAll2F00 : Nat := 0x2F0009
/-- 0x2F00:0A FaultEventWord (UNSIGNED32, RO), Table 17.11, R497 of spec/17_faults.md. -/
abbrev faultEventWord : Nat := 0x2F000A
/-- 0x2F00:0B SuppressedEmergencies (UNSIGNED32, RO), Table 17.11, R497 of spec/17_faults.md. -/
abbrev suppressedEmergencies : Nat := 0x2F000B
/-- 0x3000:03 BootStage (UNSIGNED8, RO), Table 18.14, R519 of spec/18_startup_and_shutdown.md. -/
abbrev bootStage : Nat := 0x300003
/-- 0x3000:04 FailedStartsInWindow (UNSIGNED8, RO), Table 18.14, R519 of spec/18_startup_and_shutdown.md. -/
abbrev failedStartsInWindow : Nat := 0x300004
/-- 0x3000:05 FailedStartLog (OCTET_STRING, RO), Table 18.14, R519 of spec/18_startup_and_shutdown.md. -/
abbrev failedStartLog : Nat := 0x300005
/-- 0x3000:06 SeedReason (UNSIGNED32, RO), Table 18.14, R519 of spec/18_startup_and_shutdown.md. -/
abbrev seedReason : Nat := 0x300006
/-- 0x3000:07 ResetCause (UNSIGNED8, RO), Table 18.14, R519 of spec/18_startup_and_shutdown.md. -/
abbrev resetCause : Nat := 0x300007
/-- 0x3000:08 BootCount (UNSIGNED32, RO), Table 18.14, R519 of spec/18_startup_and_shutdown.md. -/
abbrev bootCount : Nat := 0x300008
/-- 0x3000:09 PoweredTime (UNSIGNED32, RO), Table 18.14, R519 of spec/18_startup_and_shutdown.md. -/
abbrev poweredTime : Nat := 0x300009
/-- 0x3000:0A EnergiseStep (UNSIGNED8, RO), Table 18.14, R519 of spec/18_startup_and_shutdown.md. -/
abbrev energiseStep : Nat := 0x30000A
/-- 0x3000:0B BusSoftStartSlew (UNSIGNED16, RW), Table 18.14, R519 of spec/18_startup_and_shutdown.md. -/
abbrev busSoftStartSlew : Nat := 0x30000B
/-- 0x3000:0C BusSoftStartTimeout (UNSIGNED32, RW), Table 18.14, R519 of spec/18_startup_and_shutdown.md. -/
abbrev busSoftStartTimeout : Nat := 0x30000C
/-- 0x3000:0D DeenergiseLevel (UNSIGNED32, RW), Table 18.14, R519 of spec/18_startup_and_shutdown.md. -/
abbrev deenergiseLevel : Nat := 0x30000D
/-- 0x3000:0E DeenergiseTimeout (UNSIGNED32, RW), Table 18.14, R519 of spec/18_startup_and_shutdown.md. -/
abbrev deenergiseTimeout : Nat := 0x30000E
/-- 0x3000:0F ShutdownRecord (OCTET_STRING, RO), Table 18.14, R519 of spec/18_startup_and_shutdown.md. -/
abbrev shutdownRecord : Nat := 0x30000F
/-- 0x1000:00 DeviceType (UNSIGNED32, RO), Table 19.6, R531 of spec/19_object_dictionary.md. -/
abbrev deviceType : Nat := 0x100000
/-- 0x1001:00 ErrorRegister (UNSIGNED8, RO), Table 19.6, R531 of spec/19_object_dictionary.md. -/
abbrev errorRegister : Nat := 0x100100
/-- 0x1008:00 DeviceName (VISIBLE_STRING, RO), Table 19.6, R531 of spec/19_object_dictionary.md. -/
abbrev deviceName : Nat := 0x100800
/-- 0x1009:00 HardwareVersion (VISIBLE_STRING, RO), Table 19.6, R531 of spec/19_object_dictionary.md. -/
abbrev hardwareVersion : Nat := 0x100900
/-- 0x100A:00 SoftwareVersion (VISIBLE_STRING, RO), Table 19.6, R531 of spec/19_object_dictionary.md. -/
abbrev softwareVersion : Nat := 0x100A00
/-- 0x1010:01 StoreParameters (UNSIGNED32, RW), Table 19.6, R531 of spec/19_object_dictionary.md. -/
abbrev storeParameters : Nat := 0x101001
/-- 0x1011:01 RestoreDefaults (UNSIGNED32, RW), Table 19.6, R531 of spec/19_object_dictionary.md. -/
abbrev restoreDefaults : Nat := 0x101101
/-- 0x1018:01 VendorId (UNSIGNED32, RO), Table 19.6, R531 of spec/19_object_dictionary.md. -/
abbrev vendorId : Nat := 0x101801
/-- 0x1018:02 ProductCode (UNSIGNED32, RO), Table 19.6, R531 of spec/19_object_dictionary.md. -/
abbrev productCode : Nat := 0x101802
/-- 0x1018:03 RevisionNumber (UNSIGNED32, RO), Table 19.6, R531 of spec/19_object_dictionary.md. -/
abbrev revisionNumber : Nat := 0x101803
/-- 0x1018:04 SerialNumber (UNSIGNED32, RO), Table 19.6, R531 of spec/19_object_dictionary.md. -/
abbrev serialNumber : Nat := 0x101804
/-- 0x10F0:01 BackupChecksum (UNSIGNED32, RO), Table 19.6, R531 of spec/19_object_dictionary.md. -/
abbrev backupChecksum : Nat := 0x10F001
/-- 0x1600:01–:20 RxPdoMapping0 (UNSIGNED32, RW), Table 19.6, R531 of spec/19_object_dictionary.md. -/
abbrev rxPdoMapping0 (j : Nat) : Nat := 0x1600 * 256 + 1 + j
/-- 0x1601:01–:20 RxPdoMapping1 (UNSIGNED32, RW), Table 19.6, R531 of spec/19_object_dictionary.md. -/
abbrev rxPdoMapping1 (j : Nat) : Nat := 0x1601 * 256 + 1 + j
/-- 0x1A00:01–:20 to 0x1A03:01–:20 TxPdoMapping0–3 (UNSIGNED32, RW), Table 19.6, R531 of spec/19_object_dictionary.md. -/
abbrev txPdoMapping (p j : Nat) : Nat := (0x1A00 + p) * 256 + 1 + j
/-- 0x1C00:01–:04 SyncManagerType (UNSIGNED8, RO), Table 19.6, R531 of spec/19_object_dictionary.md. -/
abbrev syncManagerType (j : Nat) : Nat := 0x1C00 * 256 + 1 + j
/-- 0x1C12:01–:02 RxPdoAssign (UNSIGNED16, RW), Table 19.6, R531 of spec/19_object_dictionary.md. -/
abbrev rxPdoAssign (j : Nat) : Nat := 0x1C12 * 256 + 1 + j
/-- 0x1C13:01–:04 TxPdoAssign (UNSIGNED16, RW), Table 19.6, R531 of spec/19_object_dictionary.md. -/
abbrev txPdoAssign (j : Nat) : Nat := 0x1C13 * 256 + 1 + j
/-- 0x1C32:01 OutputSyncMode (UNSIGNED16, RW), Table 19.6, R531 of spec/19_object_dictionary.md. -/
abbrev outputSyncMode : Nat := 0x1C3201
/-- 0x1C32:02 OutputCycleTime (UNSIGNED32, RW), Table 19.6, R531 of spec/19_object_dictionary.md. -/
abbrev outputCycleTime : Nat := 0x1C3202
/-- 0x1C33:01 InputSyncMode (UNSIGNED16, RW), Table 19.6, R531 of spec/19_object_dictionary.md. -/
abbrev inputSyncMode : Nat := 0x1C3301
/-- 0x1C33:02 InputCycleTime (UNSIGNED32, RW), Table 19.6, R531 of spec/19_object_dictionary.md. -/
abbrev inputCycleTime : Nat := 0x1C3302
/-- 0x2000:01 PartNumber (VISIBLE_STRING, RO), Table 19.7, R535 of spec/19_object_dictionary.md. -/
abbrev partNumber : Nat := 0x200001
/-- 0x2000:03 ModuleSerial (VISIBLE_STRING, RO), Table 19.7, R535 of spec/19_object_dictionary.md. -/
abbrev moduleSerial : Nat := 0x200003
/-- 0x2000:04 ManufactureDate (UNSIGNED32, RO), Table 19.7, R535 of spec/19_object_dictionary.md. -/
abbrev manufactureDate : Nat := 0x200004
/-- 0x2000:05 MainImageVersionA (UNSIGNED32, RO), Table 19.7, R535 of spec/19_object_dictionary.md. -/
abbrev mainImageVersionA : Nat := 0x200005
/-- 0x2000:06 MainImageVersionB (UNSIGNED32, RO), Table 19.7, R535 of spec/19_object_dictionary.md. -/
abbrev mainImageVersionB : Nat := 0x200006
/-- 0x2000:07 SeedImageVersion (UNSIGNED32, RO), Table 19.7, R535 of spec/19_object_dictionary.md. -/
abbrev seedImageVersion : Nat := 0x200007
/-- 0x2000:08 DieIdentities (OCTET_STRING, RO), Table 19.7, R535 of spec/19_object_dictionary.md. -/
abbrev dieIdentities : Nat := 0x200008
/-- 0x2000:09 RatedRackLoadMax (UNSIGNED32, RO), Table 19.7, R535 of spec/19_object_dictionary.md. -/
abbrev ratedRackLoadMax : Nat := 0x200009
/-- 0x6000:01 SampleTime (HallTime, RO), Table 19.8, R536 of spec/19_object_dictionary.md. -/
abbrev sampleTime : Nat := 0x600001
/-- 0x6000:02 ModuleState (UNSIGNED8, RO), Table 19.8, R536 of spec/19_object_dictionary.md. -/
abbrev moduleState6000 : Nat := 0x600002
/-- 0x6000:03 AuthorityHolder (UNSIGNED8, RO), Table 19.8, R536 of spec/19_object_dictionary.md. -/
abbrev authorityHolder6000 : Nat := 0x600003
/-- 0x6000:04 CoverageInForce (UNSIGNED8, RO), Table 19.8, R536 of spec/19_object_dictionary.md. -/
abbrev coverageInForce6000 : Nat := 0x600004
/-- 0x6000:05 ThermalState (UNSIGNED8, RO), Table 19.8, R536 of spec/19_object_dictionary.md. -/
abbrev thermalState6000 : Nat := 0x600005
/-- 0x6000:06 LastFidelityException (UNSIGNED8, RO), Table 19.8, R536 of spec/19_object_dictionary.md. -/
abbrev lastFidelityException6000 : Nat := 0x600006
/-- 0x6000:07 ForecasterState (UNSIGNED8, RO), Table 19.8, R536 of spec/19_object_dictionary.md. -/
abbrev forecasterState6000 : Nat := 0x600007
/-- 0x6000:08 DiscreteInputs (UNSIGNED32, RO), Table 19.8, R536 of spec/19_object_dictionary.md. -/
abbrev discreteInputs6000 : Nat := 0x600008
/-- 0x6000:09 BusVoltage (UNSIGNED32, RO), Table 19.8, R536 of spec/19_object_dictionary.md. -/
abbrev busVoltage6000 : Nat := 0x600009
/-- 0x6000:0A CommandedInput (UNSIGNED32, RO), Table 19.8, R536 of spec/19_object_dictionary.md. -/
abbrev commandedInput6000 : Nat := 0x60000A
/-- 0x6000:0B ConverterPowerRef (INTEGER32, RO), Table 19.8, R536 of spec/19_object_dictionary.md. -/
abbrev converterPowerRef6000 : Nat := 0x60000B
/-- 0x6000:0C ShelfInput (INTEGER32, RO), Table 19.8, R536 of spec/19_object_dictionary.md. -/
abbrev shelfInput : Nat := 0x60000C
/-- 0x6000:0D RackLoad (INTEGER32, RO), Table 19.8, R536 of spec/19_object_dictionary.md. -/
abbrev rackLoad : Nat := 0x60000D
/-- 0x6000:0E FidelityExceptionCount (UNSIGNED32, RO), Table 19.8, R536 of spec/19_object_dictionary.md. -/
abbrev fidelityExceptionCount6000 : Nat := 0x60000E
/-- 0x6000:0F SocEstimate1 (UNSIGNED16, RO), Table 19.8, R536 of spec/19_object_dictionary.md. -/
abbrev socEstimate1 : Nat := 0x60000F
/-- 0x6000:10 SocEstimate2 (UNSIGNED16, RO), Table 19.8, R536 of spec/19_object_dictionary.md. -/
abbrev socEstimate2 : Nat := 0x600010
/-- 0x6000:11 EnergyAboveWindow1 (UNSIGNED32, RO), Table 19.8, R536 of spec/19_object_dictionary.md. -/
abbrev energyAboveWindow1 : Nat := 0x600011
/-- 0x6000:12 EnergyAboveWindow2 (UNSIGNED32, RO), Table 19.8, R536 of spec/19_object_dictionary.md. -/
abbrev energyAboveWindow2 : Nat := 0x600012
/-- 0x6000:13 EffectiveConfidence (UNSIGNED16, RO), Table 19.8, R536 of spec/19_object_dictionary.md. -/
abbrev effectiveConfidence6000 : Nat := 0x600013
/-- 0x6000:14 PackagePowerEstimate (UNSIGNED32, RO), Table 19.8, R536 of spec/19_object_dictionary.md. -/
abbrev packagePowerEstimate6000 : Nat := 0x600014
/-- 0x6000:15 HalfAUnacknowledged (UNSIGNED16, RO), Table 19.8, R536 of spec/19_object_dictionary.md. -/
abbrev halfAUnacknowledged6000 : Nat := 0x600015
/-- 0x6000:16 HalfBUnacknowledged (UNSIGNED16, RO), Table 19.8, R536 of spec/19_object_dictionary.md. -/
abbrev halfBUnacknowledged6000 : Nat := 0x600016
/-- 0x6000:17 ActivePhases (UNSIGNED64, RO), Table 19.8, R536 of spec/19_object_dictionary.md. -/
abbrev activePhases6000 : Nat := 0x600017
/-- 0x6000:18 OutputStatus (UNSIGNED32, RO), Table 19.8, R536 of spec/19_object_dictionary.md. -/
abbrev outputStatus : Nat := 0x600018
/-- 0x7000:01 OutputSequence (UNSIGNED16, RW), Table 19.9, R537 of spec/19_object_dictionary.md. -/
abbrev outputSequence : Nat := 0x700001
/-- 0x7000:02 RampLimit (UNSIGNED32, RW), Table 19.9, R537 of spec/19_object_dictionary.md. -/
abbrev rampLimit7000 : Nat := 0x700002
/-- 0x7000:03 RampLimitReserve (UNSIGNED32, RW), Table 19.9, R537 of spec/19_object_dictionary.md. -/
abbrev rampLimitReserve7000 : Nat := 0x700003
/-- 0x7000:04 BusSetpoint (UNSIGNED32, RW), Table 19.9, R537 of spec/19_object_dictionary.md. -/
abbrev busSetpoint7000 : Nat := 0x700004
/-- 0x7000:05 FastestPoint (UNSIGNED8, RW), Table 19.9, R537 of spec/19_object_dictionary.md. -/
abbrev fastestPoint7000 : Nat := 0x700005
/-- 0x7000:06 PackagePowerLimit (UNSIGNED32, RW), Table 19.9, R537 of spec/19_object_dictionary.md. -/
abbrev packagePowerLimit7000 : Nat := 0x700006
/-- 0x7000:07 AcknowledgeAll (UNSIGNED8, RW), Table 19.9, R537 of spec/19_object_dictionary.md. -/
abbrev acknowledgeAll7000 : Nat := 0x700007
/-- 0x7000:08 StepDomain (UNSIGNED16, RW), Table 19.9, R537 of spec/19_object_dictionary.md. -/
abbrev stepDomain7000 : Nat := 0x700008
/-- 0x2020:01 ServerHalf (UNSIGNED8, RO), Table 19.16, R549 of spec/19_object_dictionary.md. -/
abbrev serverHalf : Nat := 0x202001
/-- 0x2020:02 WriteSequence (UNSIGNED32, RO), Table 19.16, R549 of spec/19_object_dictionary.md. -/
abbrev writeSequence : Nat := 0x202002
/-- 0x2020:03 LastWrite (OCTET_STRING, RO), Table 19.16, R549 of spec/19_object_dictionary.md. -/
abbrev lastWrite : Nat := 0x202003
/-- 0x2020:04 StoreCount (UNSIGNED32, RO), Table 19.16, R549 of spec/19_object_dictionary.md. -/
abbrev storeCount : Nat := 0x202004
/-- 0x2020:05 BroadcastRefusals (UNSIGNED32, RO), Table 19.16, R549 of spec/19_object_dictionary.md. -/
abbrev broadcastRefusals : Nat := 0x202005
/-- 0x2020:06 MirrorRequests (UNSIGNED32, RO), Table 19.16, R549 of spec/19_object_dictionary.md. -/
abbrev mirrorRequests : Nat := 0x202006
/-- 0x2020:07 RefusedWrites (UNSIGNED32, RO), Table 19.16, R549 of spec/19_object_dictionary.md. -/
abbrev refusedWrites : Nat := 0x202007
/-- 0x2020:08 StoredConfigState (UNSIGNED8, RO), Table 19.16, R549 of spec/19_object_dictionary.md. -/
abbrev storedConfigState : Nat := 0x202008
/-- 0x3100:01 KeyStoreState (UNSIGNED8, RO), Table 20.12, R567 of spec/20_security.md. -/
abbrev keyStoreState : Nat := 0x310001
/-- 0x3100:02 OperatorKeyIds (OCTET_STRING, RO), Table 20.12, R567 of spec/20_security.md. -/
abbrev operatorKeyIds : Nat := 0x310002
/-- 0x3100:03 KeyUpdate (DOMAIN, RW), Table 20.12, R567 of spec/20_security.md. -/
abbrev keyUpdate : Nat := 0x310003
/-- 0x3100:04 KeyUpdateSequence (UNSIGNED32, RO), Table 20.12, R567 of spec/20_security.md. -/
abbrev keyUpdateSequence : Nat := 0x310004
/-- 0x3100:05 RollbackCounter (UNSIGNED8, RO), Table 20.12, R567 of spec/20_security.md. -/
abbrev rollbackCounter : Nat := 0x310005
/-- 0x3100:06 RollbackCommit (UNSIGNED8, RW), Table 20.12, R567 of spec/20_security.md. -/
abbrev rollbackCommit : Nat := 0x310006
/-- 0x3100:07 ZheudKeyIds (OCTET_STRING, RO), Table 20.12, R567 of spec/20_security.md. -/
abbrev zheudKeyIds : Nat := 0x310007
/-- 0x3100:08 DeviceKeyId (OCTET_STRING, RO), Table 20.12, R567 of spec/20_security.md. -/
abbrev deviceKeyId : Nat := 0x310008
/-- 0x3100:09 ImageState (OCTET_STRING, RO), Table 20.12, R567 of spec/20_security.md. -/
abbrev imageState : Nat := 0x310009
/-- 0x3100:0A VerificationFailures (UNSIGNED32, RO), Table 20.12, R567 of spec/20_security.md. -/
abbrev verificationFailures : Nat := 0x31000A
/-- 0x3101:01 AuthorCertificate (DOMAIN, RW), Table 20.12, R567 of spec/20_security.md. -/
abbrev authorCertificate : Nat := 0x310101
/-- 0x3101:02 AuthorKeyIds (OCTET_STRING, RO), Table 20.12, R567 of spec/20_security.md. -/
abbrev authorKeyIds : Nat := 0x310102
/-- 0x3101:03 AuthorKeyRemove (OCTET_STRING, RW), Table 20.12, R567 of spec/20_security.md. -/
abbrev authorKeyRemove : Nat := 0x310103
/-- 0x3102:01 OperatorTrayLinks (UNSIGNED64, RW), Table 20.12, R567 of spec/20_security.md. -/
abbrev operatorTrayLinks : Nat := 0x310201
/-- 0x3102:02 ServiceTrayLinks (UNSIGNED64, RW), Table 20.12, R567 of spec/20_security.md. -/
abbrev serviceTrayLinks : Nat := 0x310202
/-- 0x3103:01 AdmissionTicket (OCTET_STRING, RW), Table 20.12, R567 of spec/20_security.md. -/
abbrev admissionTicket : Nat := 0x310301
/-- 0x3103:02 DevicePublicKey (OCTET_STRING, RO), Table 20.12, R567 of spec/20_security.md. -/
abbrev devicePublicKey : Nat := 0x310302
/-- 0x3103:03 AdmissionChallenge (OCTET_STRING, RW), Table 20.12, R567 of spec/20_security.md. -/
abbrev admissionChallenge : Nat := 0x310303
/-- 0x3103:04 AdmissionResponse (OCTET_STRING, RO), Table 20.12, R567 of spec/20_security.md. -/
abbrev admissionResponse : Nat := 0x310304
/-- 0x3103:05 AdmittedHallLinks (UNSIGNED16, RO), Table 20.12, R567 of spec/20_security.md. -/
abbrev admittedHallLinks : Nat := 0x310305
/-- 0x3103:06 AdmissionFailures (UNSIGNED32, RO), Table 20.12, R567 of spec/20_security.md. -/
abbrev admissionFailures : Nat := 0x310306
/-- 0x3104:01 SessionSetup (UNSIGNED8, RW), Table 20.12, R567 of spec/20_security.md. -/
abbrev sessionSetup : Nat := 0x310401
/-- 0x3104:02 Challenge (OCTET_STRING, RO), Table 20.12, R567 of spec/20_security.md. -/
abbrev challenge : Nat := 0x310402
/-- 0x3104:03 SessionResponse (DOMAIN, RW), Table 20.12, R567 of spec/20_security.md. -/
abbrev sessionResponse : Nat := 0x310403
/-- 0x3104:04 SessionState (UNSIGNED16, RO), Table 20.12, R567 of spec/20_security.md. -/
abbrev sessionState : Nat := 0x310404
/-- 0x3104:05 SessionLimit (UNSIGNED32, RW), Table 20.12, R567 of spec/20_security.md. -/
abbrev sessionLimit : Nat := 0x310405
/-- 0x3104:06 SessionLock (UNSIGNED8, RW), Table 20.12, R567 of spec/20_security.md. -/
abbrev sessionLock : Nat := 0x310406
/-- 0x3104:07 UnlockFailures (UNSIGNED32, RO), Table 20.12, R567 of spec/20_security.md. -/
abbrev unlockFailures : Nat := 0x310407
/-- 0x3140+t:01 ManagerTrayLinks (UNSIGNED64, RW), Table 20.12, R567 of spec/20_security.md. -/
abbrev managerTrayLinks (t : Nat) : Nat := (0x3140 + t) * 256 + 1

end Sys2Proof.Machine.Obj
end

