-- ==== Sys2Proof/Machine/Desc.lean ====
section
/-! DEFINITION. The object descriptors: type, roles, default and value rule of every object table of the spec. -/

namespace Sys2Proof.Machine

/-- Data types of Table 19.3 (R527): numbers of a width and a sign, octet strings, DOMAINs. -/
inductive ObjType where
  | num (bits : Nat) (signed : Bool)
  | oct (len : Nat)
  | dom (max : Nat)
  deriving DecidableEq, Repr

/-- One end of a range (R10): a constant, another subindex of the same record plus an offset,
an object of another record plus an offset, or the greatest over both strings' records. -/
inductive Bound where
  | c (v : Int)
  | o (sub : Nat) (off : Int)
  | k (idx sub : Nat) (off : Int)
  | k2 (idx sub : Nat)
  deriving DecidableEq, Repr

/-- What values a write may carry, by the Meaning column (rows 7 to 9 of Table 19.4, R528). -/
inductive ValueRule where
  | any
  | range (lo hi : Bound)
  | enum (vals : List Int)
  | mask (allowed : Nat)
  deriving DecidableEq, Repr

/-- One row of an object table: index range, subindex range, type, what each role may do
(0 nothing, 1 read, 2 read and write), default, value rule, command object (R529), stored set (R533). -/
structure ObjRow where
  idxLo : Nat
  idxHi : Nat
  subLo : Nat
  subHi : Nat
  ty : ObjType
  op : Nat
  tn : Nat
  sv : Nat
  vd : Nat
  ma : Nat
  dflt : Int
  rule : ValueRule
  cmd : Bool
  stored : Bool
  deriving DecidableEq, Repr

/-- Objects 0x1000 to 0x1000 (Table 19.6 and following, R531 of spec/19_object_dictionary.md). -/
def rows1000 : List ObjRow := [
  ⟨0x1000, 0x1000, 0, 0, (.num 32 false), 1, 0, 1, 1, 0, 0, .any, false, false⟩]

/-- Objects 0x1001 to 0x1001 (Table 19.6 and following, R531 of spec/19_object_dictionary.md). -/
def rows1001 : List ObjRow := [
  ⟨0x1001, 0x1001, 0, 0, (.num 8 false), 1, 0, 1, 1, 0, 0, .any, false, false⟩]

/-- Objects 0x1008 to 0x1008 (Table 19.6 and following, R531 of spec/19_object_dictionary.md). -/
def rows1008 : List ObjRow := [
  ⟨0x1008, 0x1008, 0, 0, (.oct 16), 1, 0, 1, 1, 0, 0, .any, false, false⟩]

/-- Objects 0x1009 to 0x1009 (Table 19.6 and following, R531 of spec/19_object_dictionary.md). -/
def rows1009 : List ObjRow := [
  ⟨0x1009, 0x1009, 0, 0, (.oct 16), 1, 0, 1, 1, 0, 0, .any, false, false⟩]

/-- Objects 0x100A to 0x100A (Table 19.6 and following, R531 of spec/19_object_dictionary.md). -/
def rows100A : List ObjRow := [
  ⟨0x100A, 0x100A, 0, 0, (.oct 16), 1, 0, 1, 1, 0, 0, .any, false, false⟩]

/-- Objects 0x1010 to 0x1010 (Table 19.6 and following, R531 of spec/19_object_dictionary.md). -/
def rows1010 : List ObjRow := [
  ⟨0x1010, 0x1010, 1, 1, (.num 32 false), 2, 0, 2, 1, 0, 1, .enum [0x65766173], true, false⟩]

/-- Objects 0x1011 to 0x1011 (Table 19.6 and following, R531 of spec/19_object_dictionary.md). -/
def rows1011 : List ObjRow := [
  ⟨0x1011, 0x1011, 1, 1, (.num 32 false), 2, 0, 2, 1, 0, 1, .enum [0x64616F6C], true, false⟩]

/-- Objects 0x1018 to 0x1018 (Table 19.6 and following, R531 of spec/19_object_dictionary.md). -/
def rows1018 : List ObjRow := [
  ⟨0x1018, 0x1018, 1, 1, (.num 32 false), 1, 0, 1, 1, 0, 3661, .any, false, false⟩,
  ⟨0x1018, 0x1018, 2, 2, (.num 32 false), 1, 0, 1, 1, 0, 0, .any, false, false⟩,
  ⟨0x1018, 0x1018, 3, 3, (.num 32 false), 1, 0, 1, 1, 0, 65536, .any, false, false⟩,
  ⟨0x1018, 0x1018, 4, 4, (.num 32 false), 1, 0, 1, 1, 0, 0, .any, false, false⟩]

/-- Objects 0x10F0 to 0x10F0 (Table 19.6 and following, R531 of spec/19_object_dictionary.md). -/
def rows10F0 : List ObjRow := [
  ⟨0x10F0, 0x10F0, 1, 1, (.num 32 false), 1, 0, 1, 1, 0, 0, .any, false, false⟩]

/-- Objects 0x1600 to 0x1600 (Table 19.6 and following, R531 of spec/19_object_dictionary.md). -/
def rows1600 : List ObjRow := [
  ⟨0x1600, 0x1600, 0, 0, (.num 8 false), 2, 0, 2, 1, 0, 0, .range (.c 0) (.c 32), false, true⟩,
  ⟨0x1600, 0x1600, 1, 32, (.num 32 false), 2, 0, 2, 1, 0, 0, .any, false, true⟩]

/-- Objects 0x1601 to 0x1601 (Table 19.6 and following, R531 of spec/19_object_dictionary.md). -/
def rows1601 : List ObjRow := [
  ⟨0x1601, 0x1601, 0, 0, (.num 8 false), 2, 0, 2, 1, 0, 0, .range (.c 0) (.c 32), false, true⟩,
  ⟨0x1601, 0x1601, 1, 32, (.num 32 false), 2, 0, 2, 1, 0, 0, .any, false, true⟩]

/-- Objects 0x1A00 to 0x1A03 (Table 19.6 and following, R531 of spec/19_object_dictionary.md). -/
def rows1A00 : List ObjRow := [
  ⟨0x1A00, 0x1A03, 0, 0, (.num 8 false), 2, 0, 2, 1, 0, 0, .range (.c 0) (.c 32), false, true⟩,
  ⟨0x1A00, 0x1A03, 1, 32, (.num 32 false), 2, 0, 2, 1, 0, 0, .any, false, true⟩]

/-- Objects 0x1C00 to 0x1C00 (Table 19.6 and following, R531 of spec/19_object_dictionary.md). -/
def rows1C00 : List ObjRow := [
  ⟨0x1C00, 0x1C00, 1, 4, (.num 8 false), 1, 0, 1, 1, 0, 0, .any, false, false⟩]

/-- Objects 0x1C12 to 0x1C12 (Table 19.6 and following, R531 of spec/19_object_dictionary.md). -/
def rows1C12 : List ObjRow := [
  ⟨0x1C12, 0x1C12, 0, 0, (.num 8 false), 2, 0, 2, 1, 0, 0, .range (.c 0) (.c 2), false, true⟩,
  ⟨0x1C12, 0x1C12, 1, 2, (.num 16 false), 2, 0, 2, 1, 0, 5632, .any, false, true⟩]

/-- Objects 0x1C13 to 0x1C13 (Table 19.6 and following, R531 of spec/19_object_dictionary.md). -/
def rows1C13 : List ObjRow := [
  ⟨0x1C13, 0x1C13, 0, 0, (.num 8 false), 2, 0, 2, 1, 0, 0, .range (.c 0) (.c 4), false, true⟩,
  ⟨0x1C13, 0x1C13, 1, 4, (.num 16 false), 2, 0, 2, 1, 0, 0, .any, false, true⟩]

/-- Objects 0x1C32 to 0x1C32 (Table 19.6 and following, R531 of spec/19_object_dictionary.md). -/
def rows1C32 : List ObjRow := [
  ⟨0x1C32, 0x1C32, 1, 1, (.num 16 false), 2, 0, 2, 1, 0, 0, .enum [0,1], false, true⟩,
  ⟨0x1C32, 0x1C32, 2, 2, (.num 32 false), 2, 0, 2, 1, 0, 1000000, .range (.c 100000) (.c 100000000), false, true⟩]

/-- Objects 0x1C33 to 0x1C33 (Table 19.6 and following, R531 of spec/19_object_dictionary.md). -/
def rows1C33 : List ObjRow := [
  ⟨0x1C33, 0x1C33, 1, 1, (.num 16 false), 2, 0, 2, 1, 0, 0, .enum [0,1], false, true⟩,
  ⟨0x1C33, 0x1C33, 2, 2, (.num 32 false), 2, 0, 2, 1, 0, 1000000, .range (.c 100000) (.c 100000000), false, true⟩]

/-- Objects 0x2000 to 0x2000 (Table 19.7 and following, R535 of spec/19_object_dictionary.md). -/
def rows2000 : List ObjRow := [
  ⟨0x2000, 0x2000, 1, 1, (.oct 16), 1, 1, 1, 1, 0, 0, .any, false, false⟩,
  ⟨0x2000, 0x2000, 2, 2, (.num 8 false), 1, 1, 1, 1, 0, 2, .any, false, false⟩,
  ⟨0x2000, 0x2000, 3, 3, (.oct 16), 1, 0, 1, 1, 0, 0, .any, false, false⟩,
  ⟨0x2000, 0x2000, 4, 4, (.num 32 false), 1, 0, 1, 1, 0, 0, .any, false, false⟩,
  ⟨0x2000, 0x2000, 5, 5, (.num 32 false), 1, 0, 1, 1, 0, 0, .any, false, false⟩,
  ⟨0x2000, 0x2000, 6, 6, (.num 32 false), 1, 0, 1, 1, 0, 0, .any, false, false⟩,
  ⟨0x2000, 0x2000, 7, 7, (.num 32 false), 1, 0, 1, 1, 0, 0, .any, false, false⟩,
  ⟨0x2000, 0x2000, 8, 8, (.oct 160), 0, 0, 1, 1, 0, 0, .any, false, false⟩,
  ⟨0x2000, 0x2000, 9, 9, (.num 32 false), 1, 1, 1, 1, 0, 2000000, .any, false, false⟩]

/-- Objects 0x2010 to 0x2010 (Table 2.8 and following, R42 of spec/02_module_and_package.md). -/
def rows2010 : List ObjRow := [
  ⟨0x2010, 0x2010, 1, 1, (.num 8 false), 1, 1, 1, 1, 0, 1, .any, false, false⟩,
  ⟨0x2010, 0x2010, 2, 2, (.num 8 false), 1, 1, 1, 1, 0, 1, .any, false, false⟩,
  ⟨0x2010, 0x2010, 3, 3, (.num 8 false), 1, 0, 1, 1, 0, 0, .any, false, false⟩,
  ⟨0x2010, 0x2010, 4, 4, (.num 64 false), 1, 0, 1, 1, 0, 17523466829823, .any, false, false⟩]

/-- Objects 0x2011 to 0x2011 (Table 3.7 and following, R75 of spec/03_connectors_and_signals.md). -/
def rows2011 : List ObjRow := [
  ⟨0x2011, 0x2011, 1, 1, (.num 32 false), 1, 0, 1, 1, 0, 0, .any, false, false⟩]

/-- Objects 0x2020 to 0x2020 (Table 19.16 and following, R549 of spec/19_object_dictionary.md). -/
def rows2020 : List ObjRow := [
  ⟨0x2020, 0x2020, 1, 1, (.num 8 false), 1, 0, 1, 1, 0, 1, .any, false, false⟩,
  ⟨0x2020, 0x2020, 2, 2, (.num 32 false), 1, 1, 1, 1, 0, 0, .any, false, false⟩,
  ⟨0x2020, 0x2020, 3, 3, (.oct 16), 1, 0, 1, 1, 0, 0, .any, false, false⟩,
  ⟨0x2020, 0x2020, 4, 4, (.num 32 false), 1, 0, 1, 1, 0, 0, .any, false, false⟩,
  ⟨0x2020, 0x2020, 5, 5, (.num 32 false), 1, 0, 1, 1, 0, 0, .any, false, false⟩,
  ⟨0x2020, 0x2020, 6, 6, (.num 32 false), 1, 0, 1, 1, 0, 0, .any, false, false⟩,
  ⟨0x2020, 0x2020, 7, 7, (.num 32 false), 1, 0, 1, 1, 0, 0, .any, false, false⟩,
  ⟨0x2020, 0x2020, 8, 8, (.num 8 false), 1, 0, 1, 1, 0, 0, .any, false, false⟩]

/-- Objects 0x2100 to 0x2100 (Table 4.14 and following, R126 of spec/04_brucel_fabric.md). -/
def rows2100 : List ObjRow := [
  ⟨0x2100, 0x2100, 1, 1, (.num 8 false), 2, 1, 1, 1, 0, 0, .range (.c 0) (.c 255), false, true⟩,
  ⟨0x2100, 0x2100, 2, 2, (.num 16 false), 2, 0, 1, 1, 0, 34997, .range (.c 0x600) (.c 0xFFFF), false, true⟩,
  ⟨0x2100, 0x2100, 3, 3, (.num 16 false), 2, 0, 1, 1, 0, 0, .any, false, true⟩,
  ⟨0x2100, 0x2100, 4, 4, (.num 16 false), 2, 0, 1, 1, 0, 0, .any, false, true⟩,
  ⟨0x2100, 0x2100, 5, 5, (.num 48 false), 1, 0, 1, 1, 0, 0, .any, false, false⟩,
  ⟨0x2100, 0x2100, 6, 6, (.num 16 false), 2, 0, 1, 1, 0, 10, .range (.c 2) (.c 100), false, true⟩,
  ⟨0x2100, 0x2100, 7, 7, (.num 16 false), 2, 0, 1, 1, 0, 20, .range (.c 5) (.c 500), false, true⟩,
  ⟨0x2100, 0x2100, 8, 8, (.num 8 false), 1, 1, 1, 1, 0, 0, .any, false, false⟩,
  ⟨0x2100, 0x2100, 9, 9, (.num 8 false), 1, 0, 1, 1, 0, 0, .any, false, false⟩,
  ⟨0x2100, 0x2100, 10, 10, (.num 32 true), 1, 0, 1, 1, 0, 0, .any, false, false⟩,
  ⟨0x2100, 0x2100, 11, 11, (.num 64 false), 2, 1, 1, 1, 0, 0, .any, true, false⟩,
  ⟨0x2100, 0x2100, 12, 12, (.num 32 false), 1, 0, 1, 1, 0, 0, .any, false, false⟩]

/-- Objects 0x2110 to 0x2143 (Table 4.15 and following, R127 of spec/04_brucel_fabric.md). -/
def rows2110 : List ObjRow := [
  ⟨0x2110, 0x2143, 1, 1, (.num 16 false), 1, 0, 1, 1, 0, 0, .any, false, false⟩,
  ⟨0x2110, 0x2143, 2, 2, (.num 8 false), 1, 0, 1, 1, 0, 0, .any, false, false⟩,
  ⟨0x2110, 0x2143, 3, 3, (.num 64 false), 1, 0, 1, 1, 0, 0, .any, false, false⟩,
  ⟨0x2110, 0x2143, 4, 4, (.num 64 false), 1, 0, 1, 1, 0, 0, .any, false, false⟩,
  ⟨0x2110, 0x2143, 5, 5, (.num 32 false), 1, 0, 1, 1, 0, 0, .any, false, false⟩,
  ⟨0x2110, 0x2143, 6, 6, (.num 32 false), 1, 0, 1, 1, 0, 0, .any, false, false⟩,
  ⟨0x2110, 0x2143, 7, 7, (.num 32 false), 1, 0, 1, 1, 0, 0, .any, false, false⟩,
  ⟨0x2110, 0x2143, 8, 8, (.num 32 false), 1, 0, 1, 1, 0, 0, .any, false, false⟩]

/-- Objects 0x2200 to 0x2200 (Table 5.11 and following, R167 of spec/05_sync_objects.md). -/
def rows2200 : List ObjRow := [
  ⟨0x2200, 0x2200, 1, 1, (.num 32 false), 1, 1, 1, 1, 0, 262144, .any, false, false⟩,
  ⟨0x2200, 0x2200, 2, 2, (.num 32 false), 1, 0, 1, 1, 0, 0, .any, false, false⟩,
  ⟨0x2200, 0x2200, 3, 3, (.num 32 false), 1, 0, 1, 1, 0, 0, .any, false, false⟩,
  ⟨0x2200, 0x2200, 4, 4, (.num 32 false), 1, 0, 1, 1, 0, 0, .any, false, false⟩,
  ⟨0x2200, 0x2200, 5, 5, (.num 16 false), 1, 0, 1, 1, 0, 0, .any, false, false⟩,
  ⟨0x2200, 0x2200, 6, 6, (.num 32 false), 1, 0, 1, 1, 0, 0, .any, false, false⟩]

/-- Objects 0x2201 to 0x2201 (Table 5.11 and following, R167 of spec/05_sync_objects.md). -/
def rows2201 : List ObjRow := [
  ⟨0x2201, 0x2201, 1, 1, (.num 16 false), 2, 1, 1, 1, 0, 10, .range (.c 2) (.c 100), false, true⟩,
  ⟨0x2201, 0x2201, 2, 2, (.num 8 false), 2, 0, 1, 1, 0, 1, .enum [0,1], false, true⟩,
  ⟨0x2201, 0x2201, 3, 3, (.num 16 false), 1, 0, 1, 1, 0, 0, .any, false, false⟩]

/-- Objects 0x2202 to 0x2202 (Table 5.11 and following, R167 of spec/05_sync_objects.md). -/
def rows2202 : List ObjRow := [
  ⟨0x2202, 0x2202, 1, 1, (.dom 16), 0, 0, 2, 0, 0, 0, .any, true, false⟩]

/-- Objects 0x2203 to 0x2203 (Table 5.11 and following, R167 of spec/05_sync_objects.md). -/
def rows2203 : List ObjRow := [
  ⟨0x2203, 0x2203, 1, 1, (.dom 8192), 2, 0, 1, 1, 0, 0, .any, false, false⟩]

/-- Objects 0x2210 to 0x2210 (Table 5.11 and following, R167 of spec/05_sync_objects.md). -/
def rows2210 : List ObjRow := [
  ⟨0x2210, 0x2210, 1, 1, (.dom 4096), 2, 2, 0, 0, 0, 0, .any, true, false⟩,
  ⟨0x2210, 0x2210, 2, 2, (.oct 8), 1, 1, 1, 1, 0, 0, .any, false, false⟩,
  ⟨0x2210, 0x2210, 3, 3, (.num 16 false), 2, 2, 0, 0, 0, 0, .any, true, false⟩]

/-- Objects 0x2211 to 0x2211 (Table 5.11 and following, R167 of spec/05_sync_objects.md). -/
def rows2211 : List ObjRow := [
  ⟨0x2211, 0x2211, 1, 1, (.dom 4096), 0, 0, 0, 0, 2, 0, .any, true, false⟩]

/-- Objects 0x2240 to 0x22BF (Table 5.14 and following, R159 of spec/05_sync_objects.md). -/
def rows2240 : List ObjRow := [
  ⟨0x2240, 0x22BF, 1, 1, (.num 16 false), 1, 1, 1, 1, 0, 0, .any, false, false⟩,
  ⟨0x2240, 0x22BF, 2, 2, (.num 8 false), 1, 1, 1, 1, 0, 0, .any, false, false⟩,
  ⟨0x2240, 0x22BF, 3, 3, (.num 8 false), 1, 1, 1, 1, 0, 0, .any, false, false⟩,
  ⟨0x2240, 0x22BF, 4, 4, (.num 8 false), 1, 1, 1, 1, 0, 0, .any, false, false⟩,
  ⟨0x2240, 0x22BF, 5, 5, (.num 32 false), 1, 1, 1, 1, 0, 0, .any, false, false⟩,
  ⟨0x2240, 0x22BF, 6, 6, (.num 16 false), 1, 1, 1, 1, 0, 0, .any, false, false⟩,
  ⟨0x2240, 0x22BF, 7, 7, (.num 64 false), 1, 1, 1, 1, 0, 0, .any, false, false⟩,
  ⟨0x2240, 0x22BF, 8, 8, (.num 32 false), 1, 1, 1, 1, 0, 0, .any, false, false⟩,
  ⟨0x2240, 0x22BF, 9, 44, (.num 64 false), 1, 1, 1, 1, 0, 0, .any, false, false⟩]

/-- Objects 0x2300 to 0x233F (Table 5.6 and following, R134 of spec/05_sync_objects.md). -/
def rows2300 : List ObjRow := [
  ⟨0x2300, 0x233F, 1, 1, (.num 8 false), 2, 1, 1, 1, 0, 0, .range (.c 1) (.c 0xFE), false, false⟩,
  ⟨0x2300, 0x233F, 2, 2, (.num 8 false), 1, 1, 1, 1, 0, 0, .any, false, false⟩,
  ⟨0x2300, 0x233F, 3, 3, (.num 8 false), 2, 1, 2, 1, 0, 0, .enum [1,2,3,4], true, false⟩,
  ⟨0x2300, 0x233F, 4, 4, (.num 32 false), 2, 1, 1, 1, 0, 4096, .any, false, false⟩,
  ⟨0x2300, 0x233F, 5, 5, (.num 32 false), 1, 1, 1, 1, 0, 0, .any, false, false⟩,
  ⟨0x2300, 0x233F, 6, 6, (.num 32 false), 2, 1, 1, 1, 0, 1024, .any, false, false⟩,
  ⟨0x2300, 0x233F, 7, 7, (.num 32 false), 1, 1, 1, 1, 0, 0, .any, false, false⟩,
  ⟨0x2300, 0x233F, 8, 8, (.num 16 false), 2, 1, 1, 1, 0, 256, .range (.c 0) (.c 4096), false, false⟩,
  ⟨0x2300, 0x233F, 9, 9, (.num 16 false), 2, 1, 1, 1, 0, 0, .range (.c 0) (.c 500), false, false⟩,
  ⟨0x2300, 0x233F, 10, 10, (.dom 32), 2, 2, 1, 1, 0, 0, .any, true, false⟩,
  ⟨0x2300, 0x233F, 11, 11, (.oct 16), 1, 1, 1, 1, 0, 0, .any, false, false⟩,
  ⟨0x2300, 0x233F, 12, 12, (.num 32 false), 1, 1, 1, 1, 0, 0, .any, false, false⟩,
  ⟨0x2300, 0x233F, 13, 13, (.num 32 false), 1, 1, 1, 1, 0, 0, .any, false, false⟩,
  ⟨0x2300, 0x233F, 14, 14, (.num 32 false), 1, 1, 1, 1, 0, 0, .any, false, false⟩,
  ⟨0x2300, 0x233F, 15, 15, (.num 32 false), 1, 1, 1, 1, 0, 0, .any, false, false⟩,
  ⟨0x2300, 0x233F, 16, 16, (.num 64 false), 1, 1, 1, 1, 0, 0, .any, false, false⟩,
  ⟨0x2300, 0x233F, 17, 17, (.num 32 false), 1, 1, 1, 1, 0, 0, .any, false, false⟩,
  ⟨0x2300, 0x233F, 18, 18, (.num 16 false), 2, 1, 1, 1, 0, 250, .range (.c 1) (.c 65535), false, false⟩]

/-- Objects 0x2400 to 0x2400 (Table 6.14 and following, R199 of spec/06_pecan_arrays.md). -/
def rows2400 : List ObjRow := [
  ⟨0x2400, 0x2400, 1, 1, (.num 32 false), 2, 0, 1, 1, 0, 100, .range (.c 60) (.o 2 0), false, true⟩,
  ⟨0x2400, 0x2400, 2, 2, (.num 32 false), 2, 0, 1, 1, 0, 60000, .range (.c 22000) (.o 3 0), false, true⟩,
  ⟨0x2400, 0x2400, 3, 3, (.num 32 false), 2, 0, 1, 1, 0, 10000000, .range (.c 2005000) (.c 4000000000), false, true⟩,
  ⟨0x2400, 0x2400, 4, 4, (.num 32 false), 2, 0, 1, 1, 0, 1000, .range (.c 0) (.c 100000), false, true⟩,
  ⟨0x2400, 0x2400, 5, 5, (.num 32 false), 2, 0, 1, 1, 0, 2000, .range (.c 0) (.c 100000), false, true⟩,
  ⟨0x2400, 0x2400, 6, 6, (.num 8 false), 2, 0, 1, 1, 0, 0, .enum [0,1,2,3], false, true⟩,
  ⟨0x2400, 0x2400, 7, 7, (.num 8 false), 1, 0, 1, 1, 0, 128, .any, false, false⟩]

/-- Objects 0x2410 to 0x2417 (Table 6.15 and following, R200 of spec/06_pecan_arrays.md). -/
def rows2410 : List ObjRow := [
  ⟨0x2410, 0x2417, 1, 1, (.num 8 false), 1, 0, 1, 1, 0, 2, .any, false, false⟩,
  ⟨0x2410, 0x2417, 2, 2, (.num 32 false), 1, 0, 1, 1, 0, 1000000, .any, false, false⟩,
  ⟨0x2410, 0x2417, 3, 3, (.num 8 false), 1, 0, 1, 1, 0, 0, .any, false, false⟩,
  ⟨0x2410, 0x2417, 4, 4, (.num 8 false), 1, 0, 1, 1, 0, 1, .any, false, false⟩,
  ⟨0x2410, 0x2417, 5, 5, (.num 8 false), 1, 0, 1, 1, 0, 0, .any, false, false⟩,
  ⟨0x2410, 0x2417, 6, 6, (.num 32 false), 1, 0, 1, 1, 0, 0, .any, false, false⟩]

/-- Objects 0x2420 to 0x2420 (Table 7.6 and following, R207 of spec/07_number_formats.md). -/
def rows2420 : List ObjRow := [
  ⟨0x2420, 0x2420, 1, 1, (.oct 64), 1, 1, 1, 1, 0, 0, .any, false, false⟩,
  ⟨0x2420, 0x2420, 2, 2, (.oct 64), 1, 1, 1, 1, 0, 0, .any, false, false⟩,
  ⟨0x2420, 0x2420, 3, 3, (.oct 64), 1, 1, 1, 1, 0, 0, .any, false, false⟩]

/-- Objects 0x2480 to 0x24FF (Table 6.16 and following, R201 of spec/06_pecan_arrays.md). -/
def rows2480 : List ObjRow := [
  ⟨0x2480, 0x24FF, 1, 1, (.num 8 false), 1, 0, 1, 1, 0, 3, .any, false, false⟩,
  ⟨0x2480, 0x24FF, 2, 2, (.num 8 false), 1, 0, 1, 1, 0, 0, .any, false, false⟩,
  ⟨0x2480, 0x24FF, 3, 3, (.num 64 false), 1, 0, 1, 1, 0, 0, .any, false, false⟩,
  ⟨0x2480, 0x24FF, 4, 4, (.num 64 false), 1, 0, 1, 1, 0, 0, .any, false, false⟩,
  ⟨0x2480, 0x24FF, 5, 5, (.num 64 false), 1, 0, 1, 1, 0, 0, .any, false, false⟩,
  ⟨0x2480, 0x24FF, 6, 6, (.num 64 false), 1, 0, 1, 1, 0, 0, .any, false, false⟩,
  ⟨0x2480, 0x24FF, 7, 7, (.num 32 false), 1, 0, 1, 1, 0, 0, .any, false, false⟩,
  ⟨0x2480, 0x24FF, 8, 8, (.num 32 false), 1, 0, 1, 1, 0, 0, .any, false, false⟩,
  ⟨0x2480, 0x24FF, 9, 9, (.num 32 false), 1, 0, 1, 1, 0, 0, .any, false, false⟩,
  ⟨0x2480, 0x24FF, 10, 10, (.num 32 false), 1, 0, 1, 1, 0, 0, .any, false, false⟩,
  ⟨0x2480, 0x24FF, 11, 11, (.num 8 false), 1, 0, 1, 1, 0, 0, .any, false, false⟩,
  ⟨0x2480, 0x24FF, 12, 12, (.num 8 false), 1, 0, 2, 1, 0, 0, .enum [1,2], true, false⟩,
  ⟨0x2480, 0x24FF, 13, 13, (.num 16 false), 1, 0, 1, 1, 0, 0, .any, false, false⟩]

/-- Objects 0x2500 to 0x2500 (Table 8.18 and following, R263 of spec/08_array_programs.md). -/
def rows2500 : List ObjRow := [
  ⟨0x2500, 0x2500, 1, 1, (.num 8 false), 1, 0, 1, 1, 0, 0, .any, false, false⟩,
  ⟨0x2500, 0x2500, 2, 2, (.num 32 false), 2, 1, 1, 1, 0, 1000, .range (.c 10) (.c 1000000), false, true⟩,
  ⟨0x2500, 0x2500, 3, 3, (.num 64 false), 1, 0, 1, 1, 0, 8589934592, .any, false, false⟩,
  ⟨0x2500, 0x2500, 4, 4, (.num 8 false), 2, 0, 1, 1, 0, 0, .enum [0,1], false, true⟩,
  ⟨0x2500, 0x2500, 5, 5, (.num 32 false), 1, 0, 1, 1, 0, 0, .any, false, false⟩]

/-- Objects 0x2510 to 0x2510 (Table 8.18 and following, R263 of spec/08_array_programs.md). -/
def rows2510 : List ObjRow := [
  ⟨0x2510, 0x2510, 1, 1, (.dom 64), 2, 2, 0, 0, 0, 0, .any, true, false⟩,
  ⟨0x2510, 0x2510, 2, 2, (.oct 16), 1, 1, 1, 1, 0, 0, .any, false, false⟩]

/-- Objects 0x2520 to 0x252F (Table 8.20 and following, R263 of spec/08_array_programs.md). -/
def rows2520 : List ObjRow := [
  ⟨0x2520, 0x252F, 1, 1, (.num 8 false), 1, 1, 1, 1, 0, 0, .any, false, false⟩,
  ⟨0x2520, 0x252F, 2, 2, (.num 8 false), 1, 1, 1, 1, 0, 0, .any, false, false⟩,
  ⟨0x2520, 0x252F, 3, 3, (.num 32 false), 2, 2, 1, 1, 0, 0, .range (.c 0) (.c 1073741824), false, false⟩,
  ⟨0x2520, 0x252F, 4, 4, (.num 8 false), 2, 2, 1, 1, 0, 0, .enum [1,2,3], true, false⟩,
  ⟨0x2520, 0x252F, 5, 5, (.oct 8), 1, 1, 1, 1, 0, 0, .any, false, false⟩,
  ⟨0x2520, 0x252F, 6, 6, (.oct 16), 1, 1, 1, 1, 0, 0, .any, false, false⟩]

/-- Objects 0x2580 to 0x25BF (Table 8.19 and following, R263 of spec/08_array_programs.md). -/
def rows2580 : List ObjRow := [
  ⟨0x2580, 0x25BF, 1, 1, (.num 8 false), 2, 1, 1, 1, 0, 0, .range (.c 0) (.c 128), false, false⟩,
  ⟨0x2580, 0x25BF, 2, 2, (.num 8 false), 2, 1, 1, 1, 0, 8, .range (.c 0) (.c 255), false, false⟩,
  ⟨0x2580, 0x25BF, 3, 3, (.num 32 false), 2, 1, 1, 1, 0, 262144, .any, false, false⟩,
  ⟨0x2580, 0x25BF, 4, 4, (.num 64 false), 2, 1, 1, 1, 0, 4294967296, .any, false, false⟩,
  ⟨0x2580, 0x25BF, 5, 5, (.num 16 false), 2, 1, 1, 1, 0, 16, .any, false, false⟩,
  ⟨0x2580, 0x25BF, 6, 6, (.num 32 false), 2, 1, 1, 1, 0, 268435456, .any, false, false⟩,
  ⟨0x2580, 0x25BF, 7, 7, (.num 8 false), 1, 1, 1, 1, 0, 0, .any, false, false⟩,
  ⟨0x2580, 0x25BF, 8, 8, (.num 8 false), 1, 1, 1, 1, 0, 0, .any, false, false⟩]

/-- Objects 0x2600 to 0x267F (Table 8.21 and following, R263 of spec/08_array_programs.md). -/
def rows2600 : List ObjRow := [
  ⟨0x2600, 0x267F, 1, 1, (.num 8 false), 1, 1, 1, 1, 0, 0, .any, false, false⟩,
  ⟨0x2600, 0x267F, 2, 2, (.num 8 false), 1, 1, 1, 1, 0, 0, .any, false, false⟩,
  ⟨0x2600, 0x267F, 3, 3, (.num 8 false), 1, 1, 1, 1, 0, 0, .any, false, false⟩,
  ⟨0x2600, 0x267F, 4, 4, (.num 8 false), 1, 1, 1, 1, 0, 0, .any, false, false⟩,
  ⟨0x2600, 0x267F, 5, 5, (.num 64 false), 1, 1, 1, 1, 0, 0, .any, false, false⟩,
  ⟨0x2600, 0x267F, 6, 6, (.num 64 false), 1, 1, 1, 1, 0, 0, .any, false, false⟩,
  ⟨0x2600, 0x267F, 7, 7, (.num 32 false), 1, 1, 1, 1, 0, 0, .any, false, false⟩,
  ⟨0x2600, 0x267F, 8, 8, (.num 32 false), 1, 1, 1, 1, 0, 0, .any, false, false⟩,
  ⟨0x2600, 0x267F, 9, 9, (.num 32 false), 1, 1, 1, 1, 0, 0, .any, false, false⟩,
  ⟨0x2600, 0x267F, 10, 10, (.num 32 false), 1, 1, 1, 1, 0, 0, .any, false, false⟩,
  ⟨0x2600, 0x267F, 11, 11, (.num 32 false), 1, 1, 1, 1, 0, 0, .any, false, false⟩,
  ⟨0x2600, 0x267F, 12, 12, (.num 8 false), 1, 1, 1, 1, 0, 0, .any, false, false⟩,
  ⟨0x2600, 0x267F, 13, 13, (.num 8 false), 2, 2, 1, 1, 0, 0, .range (.c 0) (.c 15), false, false⟩,
  ⟨0x2600, 0x267F, 14, 14, (.num 8 false), 1, 1, 1, 1, 0, 0, .any, false, false⟩,
  ⟨0x2600, 0x267F, 15, 15, (.num 8 false), 2, 2, 2, 1, 0, 0, .enum [1,2,3,4], true, false⟩,
  ⟨0x2600, 0x267F, 16, 16, (.num 16 false), 1, 1, 1, 1, 0, 0, .any, false, false⟩,
  ⟨0x2600, 0x267F, 17, 17, (.num 32 false), 1, 1, 1, 1, 0, 0, .any, false, false⟩,
  ⟨0x2600, 0x267F, 18, 18, (.oct 16), 1, 1, 1, 1, 0, 0, .any, false, false⟩,
  ⟨0x2600, 0x267F, 19, 19, (.num 32 false), 1, 1, 1, 1, 0, 0, .any, false, false⟩]

/-- Objects 0x2700 to 0x2700 (Table 9.13 and following, R292 of spec/09_history_memory.md). -/
def rows2700 : List ObjRow := [
  ⟨0x2700, 0x2700, 1, 1, (.num 64 false), 1, 1, 1, 1, 0, 240518168576, .any, false, false⟩,
  ⟨0x2700, 0x2700, 2, 2, (.num 64 false), 1, 0, 1, 1, 0, 0, .any, false, false⟩,
  ⟨0x2700, 0x2700, 3, 3, (.num 32 false), 2, 1, 1, 1, 0, 1000, .range (.c 10) (.c 1000000), false, true⟩,
  ⟨0x2700, 0x2700, 4, 4, (.num 32 false), 1, 0, 1, 1, 0, 0, .any, false, false⟩,
  ⟨0x2700, 0x2700, 5, 5, (.num 32 false), 1, 0, 1, 1, 0, 0, .any, false, false⟩]

/-- Objects 0x2701 to 0x2701 (Table 9.13 and following, R292 of spec/09_history_memory.md). -/
def rows2701 : List ObjRow := [
  ⟨0x2701, 0x2701, 1, 1, (.dom 32), 2, 2, 0, 0, 0, 0, .any, true, false⟩,
  ⟨0x2701, 0x2701, 2, 2, (.oct 32), 1, 1, 1, 1, 0, 0, .any, false, false⟩]

/-- Objects 0x2702 to 0x2702 (Table 9.13 and following, R292 of spec/09_history_memory.md). -/
def rows2702 : List ObjRow := [
  ⟨0x2702, 0x2702, 1, 1, (.dom 32), 2, 2, 0, 0, 0, 0, .any, true, false⟩,
  ⟨0x2702, 0x2702, 2, 2, (.oct 16), 1, 1, 1, 1, 0, 0, .any, false, false⟩]

/-- Objects 0x2710 to 0x2717 (Table 9.14 and following, R292 of spec/09_history_memory.md). -/
def rows2710 : List ObjRow := [
  ⟨0x2710, 0x2717, 1, 1, (.num 8 false), 1, 0, 1, 1, 0, 0, .any, false, false⟩,
  ⟨0x2710, 0x2717, 2, 2, (.num 64 false), 1, 0, 1, 1, 0, 0, .any, false, false⟩,
  ⟨0x2710, 0x2717, 3, 3, (.num 64 false), 1, 0, 1, 1, 0, 0, .any, false, false⟩,
  ⟨0x2710, 0x2717, 4, 4, (.num 32 false), 1, 0, 1, 1, 0, 0, .any, false, false⟩,
  ⟨0x2710, 0x2717, 5, 5, (.num 32 false), 1, 0, 1, 1, 0, 0, .any, false, false⟩,
  ⟨0x2710, 0x2717, 6, 6, (.num 32 false), 1, 0, 1, 1, 0, 0, .any, false, false⟩,
  ⟨0x2710, 0x2717, 7, 7, (.num 32 false), 1, 0, 1, 1, 0, 0, .any, false, false⟩,
  ⟨0x2710, 0x2717, 8, 8, (.num 16 false), 1, 0, 1, 1, 0, 0, .any, false, false⟩]

/-- Objects 0x2780 to 0x27BF (Table 9.15 and following, R292 of spec/09_history_memory.md). -/
def rows2780 : List ObjRow := [
  ⟨0x2780, 0x27BF, 1, 1, (.num 64 false), 2, 1, 1, 1, 0, 1073741824, .any, false, false⟩,
  ⟨0x2780, 0x27BF, 2, 2, (.num 64 false), 1, 1, 1, 1, 0, 0, .any, false, false⟩,
  ⟨0x2780, 0x27BF, 3, 3, (.num 16 false), 2, 1, 1, 1, 0, 256, .range (.c 0) (.c 4096), false, false⟩,
  ⟨0x2780, 0x27BF, 4, 4, (.num 16 false), 1, 1, 1, 1, 0, 0, .any, false, false⟩]

/-- Objects 0x2800 to 0x2800 (Table 10.11 and following, R313 of spec/10_forecasting.md). -/
def rows2800 : List ObjRow := [
  ⟨0x2800, 0x2800, 1, 1, (.num 8 false), 2, 0, 1, 1, 0, 255, .any, false, true⟩,
  ⟨0x2800, 0x2800, 2, 2, (.num 8 false), 1, 1, 1, 1, 0, 0, .any, false, false⟩,
  ⟨0x2800, 0x2800, 3, 3, (.num 16 false), 2, 1, 1, 1, 0, 0, .any, false, true⟩,
  ⟨0x2800, 0x2800, 4, 4, (.num 16 false), 2, 0, 1, 1, 0, 19661, .range (.c 1) (.c 32768), false, true⟩,
  ⟨0x2800, 0x2800, 5, 5, (.num 16 false), 2, 0, 1, 1, 0, 6554, .range (.c 0) (.c 32768), false, true⟩,
  ⟨0x2800, 0x2800, 6, 6, (.num 16 false), 2, 0, 1, 1, 0, 500, .range (.c 50) (.c 5000), false, true⟩,
  ⟨0x2800, 0x2800, 7, 7, (.num 16 false), 2, 0, 1, 1, 0, 1000, .range (.c 250) (.c 15000), false, true⟩,
  ⟨0x2800, 0x2800, 8, 8, (.num 16 false), 2, 0, 1, 1, 0, 100, .range (.c 20) (.c 4000), false, true⟩,
  ⟨0x2800, 0x2800, 9, 9, (.num 32 false), 2, 0, 1, 1, 0, 10000, .range (.c 2000) (.c 1000000), false, true⟩,
  ⟨0x2800, 0x2800, 10, 10, (.num 32 false), 2, 1, 1, 1, 0, 600000, .range (.c 10000) (.c 2000000), false, true⟩,
  ⟨0x2800, 0x2800, 11, 11, (.num 32 false), 2, 0, 1, 1, 0, 60000, .range (.c 0) (.o 10 0), false, true⟩,
  ⟨0x2800, 0x2800, 12, 12, (.num 16 false), 1, 1, 1, 1, 0, 0, .any, false, false⟩,
  ⟨0x2800, 0x2800, 13, 13, (.num 16 false), 1, 1, 1, 1, 0, 0, .any, false, false⟩,
  ⟨0x2800, 0x2800, 14, 14, (.num 16 false), 1, 0, 1, 1, 0, 0, .any, false, false⟩,
  ⟨0x2800, 0x2800, 15, 15, (.num 16 false), 1, 0, 1, 1, 0, 65535, .any, false, false⟩,
  ⟨0x2800, 0x2800, 16, 16, (.num 32 false), 1, 0, 1, 1, 0, 0, .any, false, false⟩,
  ⟨0x2800, 0x2800, 17, 17, (.num 32 false), 1, 0, 1, 1, 0, 0, .any, false, false⟩,
  ⟨0x2800, 0x2800, 18, 18, (.num 32 false), 1, 0, 1, 1, 0, 0, .any, false, false⟩,
  ⟨0x2800, 0x2800, 19, 19, (.num 8 false), 2, 0, 1, 1, 0, 1, .mask 0x03, false, true⟩,
  ⟨0x2800, 0x2800, 20, 20, (.oct 64), 1, 1, 1, 1, 0, 0, .any, false, false⟩,
  ⟨0x2800, 0x2800, 21, 21, (.oct 576), 1, 0, 1, 1, 0, 0, .any, false, false⟩,
  ⟨0x2800, 0x2800, 22, 22, (.oct 448), 1, 0, 1, 1, 0, 0, .any, false, false⟩]

/-- Objects 0x2900 to 0x2900 (Table 1.3 and following, R20 of spec/01_load_shaping.md). -/
def rows2900 : List ObjRow := [
  ⟨0x2900, 0x2900, 1, 1, (.num 32 false), 2, 1, 1, 1, 0, 1000000, .range (.c 100) (.c 10000000), false, true⟩,
  ⟨0x2900, 0x2900, 2, 2, (.num 32 false), 2, 0, 1, 1, 0, 10000000, .range (.o 1 0) (.c 10000000), false, true⟩,
  ⟨0x2900, 0x2900, 3, 3, (.num 32 false), 1, 1, 1, 1, 0, 0, .any, false, false⟩,
  ⟨0x2900, 0x2900, 4, 4, (.num 8 false), 1, 1, 1, 1, 0, 0, .any, false, false⟩,
  ⟨0x2900, 0x2900, 5, 5, (.num 64 false), 1, 1, 1, 1, 0, 0, .any, false, false⟩]

/-- Objects 0x2901 to 0x2901 (Table 11.11 and following, R349 of spec/11_shelf_power_loop.md). -/
def rows2901 : List ObjRow := [
  ⟨0x2901, 0x2901, 1, 1, (.num 32 false), 1, 0, 1, 1, 0, 0, .any, false, false⟩,
  ⟨0x2901, 0x2901, 2, 2, (.num 32 false), 1, 0, 1, 1, 0, 0, .any, false, false⟩,
  ⟨0x2901, 0x2901, 3, 3, (.num 32 false), 1, 0, 1, 1, 0, 0, .any, false, false⟩,
  ⟨0x2901, 0x2901, 4, 4, (.num 64 false), 1, 0, 1, 1, 0, 0, .any, false, false⟩,
  ⟨0x2901, 0x2901, 5, 5, (.num 32 true), 2, 0, 2, 1, 0, 0, .any, false, true⟩,
  ⟨0x2901, 0x2901, 6, 6, (.num 16 false), 2, 0, 2, 1, 0, 30, .range (.c 0) (.c 500), false, true⟩,
  ⟨0x2901, 0x2901, 7, 7, (.num 32 false), 1, 0, 1, 1, 0, 0, .any, false, false⟩,
  ⟨0x2901, 0x2901, 8, 8, (.num 8 false), 2, 0, 1, 1, 0, 255, .any, false, true⟩]

/-- Objects 0x2910 to 0x2910 (Table 11.11 and following, R349 of spec/11_shelf_power_loop.md). -/
def rows2910 : List ObjRow := [
  ⟨0x2910, 0x2910, 1, 1, (.num 32 false), 1, 1, 1, 1, 0, 0, .any, false, false⟩,
  ⟨0x2910, 0x2910, 2, 2, (.num 32 false), 1, 1, 1, 1, 0, 800000, .any, false, false⟩,
  ⟨0x2910, 0x2910, 3, 3, (.num 32 false), 2, 1, 1, 1, 0, 800000, .range (.c 760000) (.c 840000), false, true⟩,
  ⟨0x2910, 0x2910, 4, 4, (.num 16 false), 2, 0, 1, 1, 0, 1000, .range (.c 10) (.c 10000), false, true⟩,
  ⟨0x2910, 0x2910, 5, 5, (.num 32 true), 1, 1, 1, 1, 0, 0, .any, false, false⟩,
  ⟨0x2910, 0x2910, 6, 6, (.num 32 false), 2, 0, 1, 1, 0, 480000, .range (.o 7 0) (.c 480000), false, true⟩,
  ⟨0x2910, 0x2910, 7, 7, (.num 32 false), 2, 0, 1, 1, 0, 360000, .range (.c 0) (.c 360000), false, true⟩,
  ⟨0x2910, 0x2910, 8, 8, (.num 32 false), 1, 0, 1, 1, 0, 0, .any, false, false⟩,
  ⟨0x2910, 0x2910, 9, 9, (.num 16 false), 1, 0, 1, 1, 0, 32768, .any, false, false⟩,
  ⟨0x2910, 0x2910, 10, 10, (.num 32 false), 2, 0, 1, 1, 0, 20000, .range (.c 0) (.c 40000), false, true⟩,
  ⟨0x2910, 0x2910, 11, 11, (.num 8 false), 2, 0, 1, 1, 0, 0, .any, true, false⟩]

/-- Objects 0x2911 to 0x2911 (Table 11.11 and following, R349 of spec/11_shelf_power_loop.md). -/
def rows2911 : List ObjRow := [
  ⟨0x2911, 0x2911, 1, 1, (.num 64 false), 1, 0, 1, 1, 0, 0, .any, false, false⟩,
  ⟨0x2911, 0x2911, 2, 2, (.num 64 false), 1, 0, 1, 1, 0, 0, .any, false, false⟩,
  ⟨0x2911, 0x2911, 3, 3, (.num 32 false), 1, 1, 1, 1, 0, 0, .any, false, false⟩,
  ⟨0x2911, 0x2911, 4, 4, (.num 32 true), 1, 1, 1, 1, 0, 0, .any, false, false⟩,
  ⟨0x2911, 0x2911, 5, 5, (.num 16 false), 2, 0, 1, 1, 0, 20, .range (.c 1) (.c 10000), false, true⟩,
  ⟨0x2911, 0x2911, 6, 6, (.num 32 false), 2, 0, 1, 1, 0, 1000000, .range (.c 1000) (.c 10000000), false, true⟩,
  ⟨0x2911, 0x2911, 7, 7, (.num 16 false), 2, 0, 1, 1, 0, 5500, .range (.k 0x2C00 1 0) (.k 0x2C00 2 0), false, true⟩,
  ⟨0x2911, 0x2911, 8, 8, (.num 32 false), 2, 0, 1, 1, 0, 600, .range (.c 10) (.c 86400), false, true⟩,
  ⟨0x2911, 0x2911, 9, 9, (.num 32 false), 1, 0, 1, 1, 0, 0, .any, false, false⟩,
  ⟨0x2911, 0x2911, 10, 10, (.num 32 false), 1, 0, 1, 1, 0, 0, .any, false, false⟩]

/-- Objects 0x2912 to 0x2912 (Table 11.11 and following, R349 of spec/11_shelf_power_loop.md). -/
def rows2912 : List ObjRow := [
  ⟨0x2912, 0x2912, 1, 1, (.num 16 false), 2, 0, 1, 1, 0, 4095, .mask 0x0FFF, false, true⟩,
  ⟨0x2912, 0x2912, 2, 2, (.num 32 false), 2, 0, 1, 1, 0, 800000000, .range (.c 1) (.c 4294967295), false, true⟩,
  ⟨0x2912, 0x2912, 3, 3, (.num 32 false), 1, 0, 1, 1, 0, 0, .any, false, false⟩,
  ⟨0x2912, 0x2912, 4, 4, (.num 32 false), 1, 0, 1, 1, 0, 0, .any, false, false⟩,
  ⟨0x2912, 0x2912, 5, 5, (.num 32 false), 1, 0, 1, 1, 0, 0, .any, false, false⟩]

/-- Objects 0x2920 to 0x292B (Table 11.11 and following, R349 of spec/11_shelf_power_loop.md). -/
def rows2920 : List ObjRow := [
  ⟨0x2920, 0x292B, 1, 1, (.num 8 false), 1, 1, 1, 1, 0, 0, .any, false, false⟩,
  ⟨0x2920, 0x292B, 2, 2, (.oct 8), 1, 0, 1, 1, 0, 0, .any, false, false⟩,
  ⟨0x2920, 0x292B, 3, 3, (.num 32 false), 1, 0, 1, 1, 0, 0, .any, false, false⟩]

/-- Objects 0x2930 to 0x2930 (Table 11.11 and following, R349 of spec/11_shelf_power_loop.md). -/
def rows2930 : List ObjRow := [
  ⟨0x2930, 0x2930, 1, 1, (.num 8 false), 2, 0, 2, 1, 0, 0, .enum [0,1,2,3], true, false⟩,
  ⟨0x2930, 0x2930, 2, 2, (.num 8 false), 1, 0, 1, 1, 0, 0, .any, false, false⟩,
  ⟨0x2930, 0x2930, 3, 3, (.num 16 false), 2, 0, 2, 1, 0, 1024, .any, false, true⟩,
  ⟨0x2930, 0x2930, 4, 4, (.num 32 true), 2, 0, 2, 1, 0, 0, .any, false, true⟩,
  ⟨0x2930, 0x2930, 5, 5, (.num 8 false), 2, 0, 2, 1, 0, 1, .enum [1,2,3], false, true⟩,
  ⟨0x2930, 0x2930, 6, 6, (.num 16 false), 2, 0, 2, 1, 0, 1024, .range (.c 0) (.c 16383), false, true⟩,
  ⟨0x2930, 0x2930, 7, 7, (.num 16 false), 2, 0, 2, 1, 0, 1, .range (.c 1) (.c 1024), false, true⟩,
  ⟨0x2930, 0x2930, 8, 8, (.num 64 false), 1, 0, 1, 1, 0, 0, .any, false, false⟩,
  ⟨0x2930, 0x2930, 9, 9, (.num 8 false), 2, 0, 2, 1, 0, 0, .enum [0,1,2], false, true⟩]

/-- Objects 0x2931 to 0x2938 (Table 11.11 and following, R349 of spec/11_shelf_power_loop.md). -/
def rows2931 : List ObjRow := [
  ⟨0x2931, 0x2938, 1, 1, (.num 16 false), 2, 0, 2, 1, 0, 0, .any, false, true⟩,
  ⟨0x2931, 0x2938, 2, 2, (.dom 65536), 1, 0, 1, 1, 0, 0, .any, false, false⟩]

/-- Objects 0x2940 to 0x297F (Table 11.10 and following, R349 of spec/11_shelf_power_loop.md). -/
def rows2940 : List ObjRow := [
  ⟨0x2940, 0x297F, 1, 1, (.num 8 false), 2, 0, 2, 1, 0, 0, .enum [0,1,2], false, true⟩,
  ⟨0x2940, 0x297F, 2, 2, (.num 16 false), 2, 0, 2, 1, 0, 0, .any, false, true⟩,
  ⟨0x2940, 0x297F, 3, 3, (.num 32 true), 2, 0, 2, 1, 0, 0, .any, false, true⟩,
  ⟨0x2940, 0x297F, 4, 10, (.num 32 true), 2, 0, 2, 1, 0, 0, .any, false, true⟩,
  ⟨0x2940, 0x297F, 11, 11, (.num 64 false), 2, 0, 2, 1, 0, 0, .any, false, true⟩,
  ⟨0x2940, 0x297F, 12, 12, (.num 32 true), 2, 0, 2, 1, 0, (-2147483648), .range (.c (-2147483648)) (.o 0x0D 0), false, true⟩,
  ⟨0x2940, 0x297F, 13, 13, (.num 32 true), 2, 0, 2, 1, 0, 2147483647, .range (.o 0x0C 0) (.c 2147483647), false, true⟩,
  ⟨0x2940, 0x297F, 14, 14, (.num 8 false), 2, 0, 2, 1, 0, 0, .enum [1], true, false⟩,
  ⟨0x2940, 0x297F, 15, 15, (.oct 24), 1, 0, 1, 1, 0, 0, .any, false, false⟩,
  ⟨0x2940, 0x297F, 16, 16, (.num 32 false), 1, 0, 1, 1, 0, 0, .any, false, false⟩,
  ⟨0x2940, 0x297F, 17, 17, (.num 32 true), 1, 1, 1, 1, 0, 0, .any, false, false⟩]

/-- Objects 0x2A00 to 0x2A00 (Table 12.5 and following, R377 of spec/12_converter_stage.md). -/
def rows2A00 : List ObjRow := [
  ⟨0x2A00, 0x2A00, 1, 1, (.num 32 false), 1, 0, 1, 1, 0, 100000, .any, false, false⟩,
  ⟨0x2A00, 0x2A00, 2, 2, (.num 8 false), 2, 0, 1, 1, 0, 2, .enum [0,1,2], false, true⟩,
  ⟨0x2A00, 0x2A00, 3, 3, (.num 16 false), 2, 0, 1, 1, 0, 200, .range (.c 0) (.c 400), false, true⟩,
  ⟨0x2A00, 0x2A00, 4, 4, (.num 16 false), 2, 0, 1, 1, 0, 100, .range (.c 20) (.c 500), false, true⟩,
  ⟨0x2A00, 0x2A00, 5, 5, (.num 16 false), 2, 0, 1, 1, 0, 820, .range (.c 0) (.c 8192), false, true⟩,
  ⟨0x2A00, 0x2A00, 6, 6, (.num 16 false), 2, 0, 1, 1, 0, 15564, .range (.c 8192) (.c 16384), false, true⟩,
  ⟨0x2A00, 0x2A00, 7, 7, (.num 16 false), 2, 0, 1, 1, 0, 100, .range (.c 50) (.c 1000), false, true⟩,
  ⟨0x2A00, 0x2A00, 8, 8, (.num 8 false), 2, 0, 1, 1, 0, 1, .enum [0,1], false, true⟩,
  ⟨0x2A00, 0x2A00, 9, 9, (.num 8 false), 2, 0, 1, 1, 0, 30, .range (.c 5) (.o 10 (-10)), false, true⟩,
  ⟨0x2A00, 0x2A00, 10, 10, (.num 8 false), 2, 0, 1, 1, 0, 60, .range (.o 9 10) (.c 95), false, true⟩,
  ⟨0x2A00, 0x2A00, 11, 11, (.num 32 false), 2, 0, 1, 1, 0, 1000, .range (.c 100) (.c 1000000), false, true⟩,
  ⟨0x2A00, 0x2A00, 12, 12, (.num 8 false), 2, 0, 1, 1, 0, 4, .range (.c 1) (.c 24), false, true⟩,
  ⟨0x2A00, 0x2A00, 13, 13, (.num 16 false), 2, 0, 1, 1, 0, 5000, .range (.c 0) (.c 10000), false, true⟩,
  ⟨0x2A00, 0x2A00, 14, 14, (.num 32 false), 2, 0, 1, 1, 0, 45000, .range (.k 0x2910 10 0) (.c 60000), false, true⟩,
  ⟨0x2A00, 0x2A00, 15, 15, (.num 32 false), 2, 0, 1, 1, 0, 880000, .range (.c 850000) (.c 900000), false, true⟩,
  ⟨0x2A00, 0x2A00, 16, 16, (.num 32 false), 2, 0, 1, 1, 0, 700000, .range (.c 600000) (.c 750000), false, true⟩,
  ⟨0x2A00, 0x2A00, 17, 17, (.num 8 false), 2, 0, 1, 1, 0, 56, .mask 0x3F, false, true⟩,
  ⟨0x2A00, 0x2A00, 18, 18, (.num 64 false), 1, 1, 1, 1, 0, 0, .any, false, false⟩,
  ⟨0x2A00, 0x2A00, 19, 19, (.num 64 false), 1, 0, 1, 1, 0, 0, .any, false, false⟩,
  ⟨0x2A00, 0x2A00, 20, 20, (.num 8 false), 1, 0, 2, 1, 0, 0, .range (.c 0) (.c 47), true, false⟩,
  ⟨0x2A00, 0x2A00, 21, 21, (.num 32 false), 1, 0, 1, 1, 0, 0, .any, false, false⟩,
  ⟨0x2A00, 0x2A00, 22, 22, (.num 8 false), 1, 0, 1, 1, 0, 0, .any, false, false⟩,
  ⟨0x2A00, 0x2A00, 23, 23, (.num 8 false), 1, 0, 1, 1, 0, 0, .any, false, false⟩,
  ⟨0x2A00, 0x2A00, 24, 24, (.num 32 false), 1, 0, 1, 1, 0, 0, .any, false, false⟩]

/-- Objects 0x2A21 to 0x2A22 (Table 12.6 and following, R377 of spec/12_converter_stage.md). -/
def rows2A20 : List ObjRow := [
  ⟨0x2A21, 0x2A22, 1, 1, (.num 8 false), 1, 0, 1, 1, 0, 0, .any, false, false⟩,
  ⟨0x2A21, 0x2A22, 2, 2, (.num 8 false), 1, 1, 1, 1, 0, 0, .any, false, false⟩,
  ⟨0x2A21, 0x2A22, 3, 3, (.num 16 false), 2, 0, 1, 1, 0, 2, .range (.c 1) (.c 50), false, true⟩,
  ⟨0x2A21, 0x2A22, 4, 4, (.num 16 false), 2, 0, 1, 1, 0, 500, .range (.c 100) (.c 5000), false, true⟩,
  ⟨0x2A21, 0x2A22, 5, 5, (.num 16 false), 2, 0, 1, 1, 0, 20, .range (.o 3 1) (.c 500), false, true⟩,
  ⟨0x2A21, 0x2A22, 6, 6, (.num 16 false), 2, 0, 1, 1, 0, 4000, .range (.o 4 0) (.c 9000), false, true⟩,
  ⟨0x2A21, 0x2A22, 7, 7, (.num 16 false), 2, 0, 1, 1, 0, 200, .range (.c 50) (.c 2000), false, true⟩,
  ⟨0x2A21, 0x2A22, 8, 8, (.num 16 false), 2, 0, 1, 1, 0, 200, .range (.c 50) (.c 1000), false, true⟩,
  ⟨0x2A21, 0x2A22, 9, 9, (.num 8 false), 1, 0, 1, 1, 0, 0, .any, false, false⟩,
  ⟨0x2A21, 0x2A22, 10, 10, (.num 16 false), 2, 0, 1, 1, 0, 50, .range (.c 10) (.c 200), false, true⟩,
  ⟨0x2A21, 0x2A22, 11, 11, (.num 32 false), 2, 0, 1, 1, 0, 5000, .range (.c 100) (.c 50000), false, true⟩,
  ⟨0x2A21, 0x2A22, 12, 12, (.num 16 false), 2, 0, 1, 1, 0, 30, .range (.c 10) (.c 200), false, true⟩,
  ⟨0x2A21, 0x2A22, 13, 13, (.num 8 false), 1, 0, 2, 1, 0, 0, .enum [1], true, false⟩,
  ⟨0x2A21, 0x2A22, 14, 14, (.num 32 false), 2, 0, 1, 1, 0, 900000, .range (.c 100000) (.c 1500000), false, true⟩,
  ⟨0x2A21, 0x2A22, 15, 15, (.num 32 false), 1, 0, 1, 1, 0, 0, .any, false, false⟩,
  ⟨0x2A21, 0x2A22, 16, 16, (.num 32 false), 1, 0, 1, 1, 0, 0, .any, false, false⟩,
  ⟨0x2A21, 0x2A22, 17, 17, (.num 32 false), 1, 0, 1, 1, 0, 0, .any, false, false⟩]

/-- Objects 0x2A40 to 0x2A75 (Table 12.7 and following, R377 of spec/12_converter_stage.md). -/
def rows2A40 : List ObjRow := [
  ⟨0x2A40, 0x2A75, 1, 1, (.num 32 true), 2, 0, 2, 1, 0, 0, .any, false, true⟩,
  ⟨0x2A40, 0x2A75, 2, 2, (.num 32 true), 2, 0, 2, 1, 0, 0, .any, false, true⟩,
  ⟨0x2A40, 0x2A75, 3, 3, (.num 32 true), 1, 1, 1, 1, 0, 0, .any, false, false⟩,
  ⟨0x2A40, 0x2A75, 4, 4, (.num 32 false), 1, 0, 1, 1, 0, 0, .any, false, false⟩,
  ⟨0x2A40, 0x2A75, 5, 5, (.num 32 false), 1, 0, 1, 1, 0, 0, .any, false, false⟩]

/-- Objects 0x2B00 to 0x2B00 (Table 13.10 and following, R405 of spec/13_stack_monitoring.md). -/
def rows2B00 : List ObjRow := [
  ⟨0x2B00, 0x2B00, 1, 1, (.num 8 false), 2, 0, 1, 1, 0, 18, .range (.c 1) (.c 18), false, true⟩,
  ⟨0x2B00, 0x2B00, 2, 2, (.num 8 false), 2, 0, 1, 1, 0, 18, .range (.c 0) (.c 18), false, true⟩,
  ⟨0x2B00, 0x2B00, 3, 3, (.num 8 false), 2, 0, 1, 1, 0, 10, .range (.c 8) (.c 33), false, true⟩,
  ⟨0x2B00, 0x2B00, 4, 4, (.num 16 false), 2, 0, 1, 1, 0, 100, .range (.c 1) (.c 256), false, true⟩,
  ⟨0x2B00, 0x2B00, 5, 5, (.num 8 false), 2, 0, 1, 1, 0, 1, .enum [0,1], false, true⟩,
  ⟨0x2B00, 0x2B00, 6, 6, (.num 16 false), 2, 0, 1, 1, 0, 1500, .range (.c 200) (.c 10000), false, true⟩,
  ⟨0x2B00, 0x2B00, 7, 7, (.num 16 false), 2, 0, 1, 1, 0, 50, .range (.c 10) (.c 500), false, true⟩,
  ⟨0x2B00, 0x2B00, 8, 8, (.num 8 false), 2, 0, 1, 1, 0, 100, .range (.c 30) (.c 100), false, true⟩,
  ⟨0x2B00, 0x2B00, 9, 9, (.num 8 false), 2, 0, 1, 1, 0, 1, .enum [0,1], false, true⟩,
  ⟨0x2B00, 0x2B00, 10, 10, (.num 8 false), 2, 0, 1, 1, 0, 10, .range (.c 1) (.c 60), false, true⟩,
  ⟨0x2B00, 0x2B00, 11, 11, (.num 16 false), 2, 0, 1, 1, 0, 10, .range (.c 2) (.c 200), false, true⟩,
  ⟨0x2B00, 0x2B00, 12, 12, (.num 16 false), 2, 0, 1, 1, 0, 3, .range (.c 1) (.o 11 (-1)), false, true⟩,
  ⟨0x2B00, 0x2B00, 13, 13, (.num 8 false), 2, 0, 1, 1, 0, 8, .range (.c 1) (.c 16), false, true⟩,
  ⟨0x2B00, 0x2B00, 14, 14, (.num 8 false), 2, 0, 1, 1, 0, 100, .range (.c 10) (.c 100), false, true⟩,
  ⟨0x2B00, 0x2B00, 15, 15, (.num 8 false), 2, 0, 1, 1, 0, 85, .range (.c 40) (.c 95), false, true⟩,
  ⟨0x2B00, 0x2B00, 16, 16, (.num 32 false), 1, 0, 1, 1, 0, 0, .any, false, false⟩]

/-- Objects 0x2B11 to 0x2B12 (Table 13.11 and following, R405 of spec/13_stack_monitoring.md). -/
def rows2B10 : List ObjRow := [
  ⟨0x2B11, 0x2B12, 1, 1, (.num 8 false), 1, 1, 1, 1, 0, 0, .any, false, false⟩,
  ⟨0x2B11, 0x2B12, 2, 2, (.num 8 false), 1, 0, 1, 1, 0, 0, .any, false, false⟩,
  ⟨0x2B11, 0x2B12, 3, 3, (.num 8 false), 1, 0, 1, 1, 0, 0, .any, false, false⟩,
  ⟨0x2B11, 0x2B12, 4, 4, (.num 32 false), 1, 0, 1, 1, 0, 0, .any, false, false⟩,
  ⟨0x2B11, 0x2B12, 5, 5, (.num 32 false), 1, 0, 1, 1, 0, 0, .any, false, false⟩,
  ⟨0x2B11, 0x2B12, 6, 6, (.num 32 false), 1, 0, 1, 1, 0, 0, .any, false, false⟩,
  ⟨0x2B11, 0x2B12, 7, 7, (.num 32 false), 1, 0, 1, 1, 0, 0, .any, false, false⟩,
  ⟨0x2B11, 0x2B12, 8, 8, (.num 32 false), 1, 0, 1, 1, 0, 0, .any, false, false⟩,
  ⟨0x2B11, 0x2B12, 9, 9, (.oct 38), 1, 0, 1, 1, 0, 0, .any, false, false⟩,
  ⟨0x2B11, 0x2B12, 10, 10, (.oct 36), 1, 1, 1, 1, 0, 0, .any, false, false⟩]

/-- Objects 0x2B40 to 0x2B63 (Table 13.12 and following, R405 of spec/13_stack_monitoring.md). -/
def rows2B40 : List ObjRow := [
  ⟨0x2B40, 0x2B63, 1, 1, (.num 8 false), 1, 0, 1, 1, 0, 0, .any, false, false⟩,
  ⟨0x2B40, 0x2B63, 2, 2, (.oct 13), 1, 0, 1, 1, 0, 0, .any, false, false⟩,
  ⟨0x2B40, 0x2B63, 3, 3, (.oct 6), 1, 0, 1, 1, 0, 0, .any, false, false⟩,
  ⟨0x2B40, 0x2B63, 4, 4, (.num 16 false), 1, 0, 1, 1, 0, 0, .any, false, false⟩,
  ⟨0x2B40, 0x2B63, 5, 5, (.num 32 false), 1, 0, 1, 1, 0, 0, .any, false, false⟩,
  ⟨0x2B40, 0x2B63, 6, 6, (.num 32 false), 1, 0, 1, 1, 0, 0, .any, false, false⟩,
  ⟨0x2B40, 0x2B63, 7, 7, (.num 32 false), 1, 0, 1, 1, 0, 0, .any, false, false⟩,
  ⟨0x2B40, 0x2B63, 8, 8, (.num 8 false), 1, 0, 1, 1, 0, 0, .any, false, false⟩,
  ⟨0x2B40, 0x2B63, 16, 31, (.num 16 false), 1, 1, 1, 1, 0, 0, .any, false, false⟩]

/-- Objects 0x2C00 to 0x2C00 (Table 1.3 and following, R20 of spec/01_load_shaping.md). -/
def rows2C00 : List ObjRow := [
  ⟨0x2C00, 0x2C00, 1, 1, (.num 16 false), 2, 0, 1, 1, 0, 2000, .range (.c 500) (.o 2 (-1000)), false, true⟩,
  ⟨0x2C00, 0x2C00, 2, 2, (.num 16 false), 2, 0, 1, 1, 0, 9000, .range (.o 1 1000) (.c 9500), false, true⟩,
  ⟨0x2C00, 0x2C00, 3, 3, (.num 16 false), 2, 0, 1, 1, 0, 200, .range (.c 0) (.c 400), false, true⟩,
  ⟨0x2C00, 0x2C00, 4, 4, (.num 16 false), 2, 0, 1, 1, 0, 9800, .range (.c 9600) (.c 10000), false, true⟩,
  ⟨0x2C00, 0x2C00, 5, 5, (.num 16 false), 2, 0, 1, 1, 0, 1500, .range (.c 1000) (.c 2500), false, true⟩,
  ⟨0x2C00, 0x2C00, 6, 6, (.num 16 false), 2, 0, 1, 1, 0, 2900, .range (.o 5 500) (.c 3400), false, true⟩,
  ⟨0x2C00, 0x2C00, 7, 7, (.num 16 false), 2, 0, 1, 1, 0, 1400, .range (.c 900) (.o 5 (-50)), false, true⟩,
  ⟨0x2C00, 0x2C00, 8, 8, (.num 16 false), 2, 0, 1, 1, 0, 3000, .range (.o 6 50) (.c 3500), false, true⟩,
  ⟨0x2C00, 0x2C00, 9, 9, (.num 16 false), 2, 0, 1, 1, 0, 100, .range (.c 10) (.c 500), false, true⟩,
  ⟨0x2C00, 0x2C00, 10, 10, (.num 16 true), 2, 0, 1, 1, 0, 550, .range (.c 200) (.c 700), false, true⟩,
  ⟨0x2C00, 0x2C00, 11, 11, (.num 16 true), 2, 0, 1, 1, 0, 650, .range (.o 10 50) (.c 800), false, true⟩,
  ⟨0x2C00, 0x2C00, 12, 12, (.num 16 true), 2, 0, 1, 1, 0, (-100), .range (.c (-400)) (.c 100), false, true⟩,
  ⟨0x2C00, 0x2C00, 13, 13, (.num 32 false), 2, 0, 1, 1, 0, 750000, .range (.c 1000) (.k2 0x2A21 0x0E), false, true⟩,
  ⟨0x2C00, 0x2C00, 14, 14, (.num 32 false), 2, 0, 1, 1, 0, 480000, .range (.c 0) (.c 480000), false, true⟩,
  ⟨0x2C00, 0x2C00, 15, 15, (.num 32 false), 2, 0, 1, 1, 0, 20000, .range (.c 1000) (.c 500000), false, true⟩,
  ⟨0x2C00, 0x2C00, 16, 16, (.num 32 false), 2, 0, 1, 1, 0, 2000, .range (.c 100) (.c 50000), false, true⟩,
  ⟨0x2C00, 0x2C00, 17, 17, (.num 16 false), 2, 0, 1, 1, 0, 300, .range (.c 10) (.c 7200), false, true⟩,
  ⟨0x2C00, 0x2C00, 18, 18, (.num 16 false), 2, 0, 1, 1, 0, 3277, .range (.c 1) (.c 65535), false, true⟩,
  ⟨0x2C00, 0x2C00, 19, 19, (.num 16 false), 2, 0, 1, 1, 0, 33, .range (.c 0) (.o 18 0), false, true⟩,
  ⟨0x2C00, 0x2C00, 20, 20, (.num 16 false), 2, 0, 1, 1, 0, 200, .range (.c 0) (.c 10000), false, true⟩,
  ⟨0x2C00, 0x2C00, 21, 21, (.num 32 false), 2, 0, 1, 1, 0, 20000, .range (.c 1000) (.c 500000), false, true⟩,
  ⟨0x2C00, 0x2C00, 22, 22, (.num 8 false), 2, 0, 1, 1, 0, 8, .range (.c 1) (.c 32), false, true⟩,
  ⟨0x2C00, 0x2C00, 23, 23, (.num 32 false), 2, 0, 1, 1, 0, 999500, .range (.c 990000) (.c 1000000), false, true⟩,
  ⟨0x2C00, 0x2C00, 24, 24, (.num 8 false), 2, 0, 1, 1, 0, 16, .range (.c 16) (.c 255), false, true⟩,
  ⟨0x2C00, 0x2C00, 25, 25, (.num 16 false), 2, 0, 1, 1, 0, 100, .range (.c 1) (.c 10000), false, true⟩,
  ⟨0x2C00, 0x2C00, 26, 26, (.num 8 false), 2, 0, 1, 1, 0, 0, .enum [0,1], false, true⟩,
  ⟨0x2C00, 0x2C00, 27, 27, (.num 32 false), 2, 0, 1, 1, 0, 1000, .range (.c 0) (.c 100000), false, true⟩,
  ⟨0x2C00, 0x2C00, 28, 28, (.num 32 false), 2, 0, 1, 1, 0, 800000, .range (.c 50000) (.c 20000000), false, true⟩,
  ⟨0x2C00, 0x2C00, 29, 29, (.num 32 false), 2, 0, 1, 1, 0, 400000, .range (.c 0) (.c 20000000), false, true⟩,
  ⟨0x2C00, 0x2C00, 30, 30, (.num 32 false), 2, 0, 1, 1, 0, 2000, .range (.c 20) (.c 20000), false, true⟩,
  ⟨0x2C00, 0x2C00, 32, 32, (.num 32 false), 1, 0, 1, 1, 0, 0, .any, false, false⟩,
  ⟨0x2C00, 0x2C00, 33, 33, (.num 16 false), 2, 0, 1, 1, 0, 3000, .range (.c 0) (.c 9000), false, true⟩,
  ⟨0x2C00, 0x2C00, 34, 34, (.oct 8), 1, 0, 1, 1, 0, 0, .any, false, false⟩,
  ⟨0x2C00, 0x2C00, 35, 35, (.num 32 false), 1, 0, 1, 1, 0, 0, .any, false, false⟩]

/-- Objects 0x2C01 to 0x2C01 (Table 14.5 and following, R436 of spec/14_storage_estimation.md). -/
def rows2C01 : List ObjRow := [
  ⟨0x2C01, 0x2C01, 1, 1, (.num 8 false), 2, 0, 2, 1, 0, 0, .enum [0,1,2], true, false⟩,
  ⟨0x2C01, 0x2C01, 2, 2, (.num 8 false), 1, 1, 1, 1, 0, 0, .any, false, false⟩,
  ⟨0x2C01, 0x2C01, 3, 3, (.num 8 false), 1, 0, 1, 1, 0, 0, .any, false, false⟩,
  ⟨0x2C01, 0x2C01, 4, 4, (.num 32 false), 2, 0, 1, 1, 0, 50000, .range (.c 1000) (.c 360000), false, true⟩,
  ⟨0x2C01, 0x2C01, 5, 5, (.num 16 false), 2, 0, 1, 1, 0, 2800, .range (.c 0) (.k 0x2C00 6 0), false, true⟩,
  ⟨0x2C01, 0x2C01, 6, 6, (.num 16 false), 2, 0, 1, 1, 0, 1700, .range (.k 0x2C00 5 0) (.c 65535), false, true⟩,
  ⟨0x2C01, 0x2C01, 7, 7, (.num 32 false), 2, 0, 1, 1, 0, 14400, .range (.c 600) (.c 86400), false, true⟩,
  ⟨0x2C01, 0x2C01, 8, 8, (.num 16 false), 2, 0, 1, 1, 0, 60, .range (.c 10) (.c 1800), false, true⟩]

/-- Objects 0x2C02 to 0x2C02 (Table 14.5 and following, R436 of spec/14_storage_estimation.md). -/
def rows2C02 : List ObjRow := [
  ⟨0x2C02, 0x2C02, 1, 1, (.dom 1376), 2, 0, 1, 1, 0, 0, .any, false, true⟩]

/-- Objects 0x2C11 to 0x2C12 (Table 14.5 and following, R436 of spec/14_storage_estimation.md). -/
def rows2C10 : List ObjRow := [
  ⟨0x2C11, 0x2C12, 1, 1, (.num 16 false), 1, 1, 1, 1, 0, 0, .any, false, false⟩,
  ⟨0x2C11, 0x2C12, 2, 2, (.num 16 false), 1, 1, 1, 1, 0, 0, .any, false, false⟩,
  ⟨0x2C11, 0x2C12, 3, 3, (.num 32 false), 1, 0, 1, 1, 0, 0, .any, false, false⟩,
  ⟨0x2C11, 0x2C12, 4, 4, (.num 32 false), 1, 1, 1, 1, 0, 0, .any, false, false⟩,
  ⟨0x2C11, 0x2C12, 5, 5, (.num 32 false), 1, 0, 1, 1, 0, 0, .any, false, false⟩,
  ⟨0x2C11, 0x2C12, 6, 6, (.num 32 false), 1, 0, 1, 1, 0, 0, .any, false, false⟩,
  ⟨0x2C11, 0x2C12, 7, 7, (.num 8 false), 1, 0, 1, 1, 0, 0, .any, false, false⟩,
  ⟨0x2C11, 0x2C12, 8, 8, (.num 8 false), 1, 1, 1, 1, 0, 0, .any, false, false⟩,
  ⟨0x2C11, 0x2C12, 9, 9, (.num 16 false), 1, 0, 1, 1, 0, 0, .any, false, false⟩]

/-- Objects 0x2C21 to 0x2C22 (Table 14.5 and following, R436 of spec/14_storage_estimation.md). -/
def rows2C20 : List ObjRow := [
  ⟨0x2C21, 0x2C22, 1, 1, (.dom 576), 1, 0, 1, 1, 0, 0, .any, false, false⟩,
  ⟨0x2C21, 0x2C22, 2, 2, (.dom 1152), 2, 0, 1, 1, 0, 0, .any, false, false⟩,
  ⟨0x2C21, 0x2C22, 3, 3, (.dom 3456), 1, 0, 1, 1, 0, 0, .any, false, false⟩,
  ⟨0x2C21, 0x2C22, 4, 4, (.oct 36), 1, 0, 1, 1, 0, 0, .any, false, false⟩]

/-- Objects 0x2C41 to 0x2C42 (Table 14.5 and following, R436 of spec/14_storage_estimation.md). -/
def rows2C40 : List ObjRow := [
  ⟨0x2C41, 0x2C42, 1, 1, (.num 32 false), 1, 0, 1, 1, 0, 0, .any, false, false⟩,
  ⟨0x2C41, 0x2C42, 2, 2, (.oct 24), 1, 0, 1, 1, 0, 0, .any, false, false⟩,
  ⟨0x2C41, 0x2C42, 3, 3, (.oct 24), 1, 0, 1, 1, 0, 0, .any, false, false⟩,
  ⟨0x2C41, 0x2C42, 4, 4, (.oct 24), 1, 0, 1, 1, 0, 0, .any, false, false⟩,
  ⟨0x2C41, 0x2C42, 5, 5, (.dom 80), 1, 0, 1, 1, 0, 0, .any, false, false⟩,
  ⟨0x2C41, 0x2C42, 6, 6, (.dom 64), 1, 0, 1, 1, 0, 0, .any, false, false⟩,
  ⟨0x2C41, 0x2C42, 7, 7, (.dom 64), 1, 0, 1, 1, 0, 0, .any, false, false⟩,
  ⟨0x2C41, 0x2C42, 8, 8, (.num 64 false), 1, 0, 1, 1, 0, 0, .any, false, false⟩,
  ⟨0x2C41, 0x2C42, 9, 9, (.num 64 false), 1, 0, 1, 1, 0, 0, .any, false, false⟩,
  ⟨0x2C41, 0x2C42, 10, 10, (.num 32 false), 1, 0, 1, 1, 0, 0, .any, false, false⟩,
  ⟨0x2C41, 0x2C42, 11, 11, (.oct 64), 1, 0, 1, 1, 0, 0, .any, false, false⟩,
  ⟨0x2C41, 0x2C42, 12, 12, (.num 8 false), 1, 0, 2, 1, 0, 0, .enum [0xA5], true, false⟩]

/-- Objects 0x2D00 to 0x2D00 (Table 15.10 and following, R461 of spec/15_package_power.md). -/
def rows2D00 : List ObjRow := [
  ⟨0x2D00, 0x2D00, 1, 1, (.num 32 false), 1, 1, 1, 1, 0, 0, .any, false, false⟩,
  ⟨0x2D00, 0x2D00, 2, 2, (.num 32 false), 1, 0, 1, 1, 0, 0, .any, false, false⟩,
  ⟨0x2D00, 0x2D00, 3, 3, (.num 32 false), 2, 0, 1, 1, 0, 1050, .range (.c 300) (.c 1200), false, true⟩,
  ⟨0x2D00, 0x2D00, 4, 4, (.num 8 false), 2, 1, 1, 1, 0, 2, .range (.c 0) (.c 7), false, true⟩,
  ⟨0x2D00, 0x2D00, 5, 5, (.num 8 false), 2, 0, 1, 1, 0, 7, .range (.c 0) (.c 7), false, true⟩,
  ⟨0x2D00, 0x2D00, 6, 6, (.num 8 false), 2, 1, 1, 1, 0, 0, .range (.c 0) (.c 7), false, true⟩,
  ⟨0x2D00, 0x2D00, 7, 7, (.num 32 false), 2, 0, 1, 1, 0, 1000, .range (.c 10) (.c 1000000), false, true⟩,
  ⟨0x2D00, 0x2D00, 8, 8, (.num 32 false), 2, 0, 1, 1, 0, 10000, .range (.c 100) (.c 1000000), false, true⟩,
  ⟨0x2D00, 0x2D00, 9, 9, (.num 32 false), 1, 0, 1, 1, 0, 0, .any, false, false⟩,
  ⟨0x2D00, 0x2D00, 10, 10, (.num 64 false), 1, 0, 1, 1, 0, 0, .any, false, false⟩,
  ⟨0x2D00, 0x2D00, 11, 11, (.num 16 false), 2, 0, 1, 1, 0, 300, .range (.c 0) (.c 500), false, true⟩,
  ⟨0x2D00, 0x2D00, 12, 12, (.num 64 false), 1, 0, 1, 1, 0, 0, .any, false, false⟩,
  ⟨0x2D00, 0x2D00, 13, 13, (.num 64 false), 1, 0, 1, 1, 0, 0, .any, false, false⟩,
  ⟨0x2D00, 0x2D00, 14, 14, (.num 64 false), 1, 0, 1, 1, 0, 0, .any, false, false⟩,
  ⟨0x2D00, 0x2D00, 15, 15, (.num 64 false), 1, 0, 1, 1, 0, 0, .any, false, false⟩,
  ⟨0x2D00, 0x2D00, 16, 16, (.num 64 false), 1, 0, 1, 1, 0, 0, .any, false, false⟩,
  ⟨0x2D00, 0x2D00, 17, 17, (.num 64 false), 1, 0, 1, 1, 0, 0, .any, false, false⟩]

/-- Objects 0x2D01 to 0x2D01 (Table 2.8 and following, R42 of spec/02_module_and_package.md). -/
def rows2D01 : List ObjRow := [
  ⟨0x2D01, 0x2D01, 1, 32, (.num 8 false), 1, 0, 1, 1, 0, 0, .any, false, false⟩]

/-- Objects 0x2D10 to 0x2D17 (Table 15.11 and following, R461 of spec/15_package_power.md). -/
def rows2D10 : List ObjRow := [
  ⟨0x2D10, 0x2D17, 1, 1, (.num 8 false), 1, 0, 1, 1, 0, 7, .any, false, false⟩,
  ⟨0x2D10, 0x2D17, 2, 2, (.num 8 false), 1, 1, 1, 1, 0, 0, .any, false, false⟩,
  ⟨0x2D10, 0x2D17, 3, 3, (.num 32 false), 1, 0, 1, 1, 0, 0, .any, false, false⟩,
  ⟨0x2D10, 0x2D17, 4, 4, (.num 32 false), 1, 0, 1, 1, 0, 65536, .any, false, false⟩,
  ⟨0x2D10, 0x2D17, 5, 5, (.oct 8), 1, 0, 1, 1, 0, 0, .any, false, false⟩,
  ⟨0x2D10, 0x2D17, 6, 6, (.num 8 false), 2, 0, 1, 1, 0, 0, .range (.c 0) (.c 10), false, true⟩,
  ⟨0x2D10, 0x2D17, 7, 12, (.num 64 false), 1, 0, 1, 1, 0, 0, .any, false, false⟩,
  ⟨0x2D10, 0x2D17, 13, 13, (.num 32 false), 1, 0, 1, 1, 0, 0, .any, false, false⟩,
  ⟨0x2D10, 0x2D17, 14, 14, (.num 64 false), 1, 0, 1, 1, 0, 0, .any, false, false⟩]

/-- Objects 0x2D20 to 0x2D2F (Table 15.12 and following, R461 of spec/15_package_power.md). -/
def rows2D20 : List ObjRow := [
  ⟨0x2D20, 0x2D2F, 1, 1, (.num 8 false), 1, 0, 1, 1, 0, 0, .any, false, false⟩,
  ⟨0x2D20, 0x2D2F, 2, 2, (.num 8 false), 1, 0, 1, 1, 0, 0, .any, false, false⟩,
  ⟨0x2D20, 0x2D2F, 3, 3, (.num 16 false), 1, 0, 1, 1, 0, 0, .any, false, false⟩,
  ⟨0x2D20, 0x2D2F, 4, 4, (.num 32 false), 1, 0, 1, 1, 0, 0, .any, false, false⟩,
  ⟨0x2D20, 0x2D2F, 5, 5, (.num 8 false), 1, 0, 1, 1, 0, 0, .any, false, false⟩,
  ⟨0x2D20, 0x2D2F, 6, 6, (.num 32 false), 1, 0, 1, 1, 0, 0, .any, false, false⟩,
  ⟨0x2D20, 0x2D2F, 7, 7, (.num 16 false), 2, 0, 1, 1, 0, 100, .range (.c 1) (.c 200), false, true⟩,
  ⟨0x2D20, 0x2D2F, 8, 8, (.num 16 false), 2, 0, 1, 1, 0, 1000, .range (.c 200) (.c 5000), false, true⟩,
  ⟨0x2D20, 0x2D2F, 9, 9, (.num 32 false), 2, 0, 1, 1, 0, 8000, .range (.c 1000) (.c 20000), false, true⟩,
  ⟨0x2D20, 0x2D2F, 10, 10, (.num 32 false), 2, 0, 1, 1, 0, 15000, .range (.o 9 5000) (.o 6 0), false, true⟩,
  ⟨0x2D20, 0x2D2F, 11, 11, (.num 32 false), 2, 0, 1, 1, 0, 100, .range (.c 10) (.c 100000), false, true⟩,
  ⟨0x2D20, 0x2D2F, 12, 12, (.num 32 false), 1, 0, 1, 1, 0, 0, .any, false, false⟩,
  ⟨0x2D20, 0x2D2F, 13, 13, (.num 32 false), 1, 0, 1, 1, 0, 0, .any, false, false⟩,
  ⟨0x2D20, 0x2D2F, 14, 14, (.num 8 false), 1, 0, 2, 1, 0, 0, .enum [1], true, false⟩]

/-- Objects 0x2D80 to 0x2DBF (Table 15.13 and following, R461 of spec/15_package_power.md). -/
def rows2D80 : List ObjRow := [
  ⟨0x2D80, 0x2DBF, 1, 1, (.num 64 false), 1, 1, 1, 1, 0, 0, .any, false, false⟩,
  ⟨0x2D80, 0x2DBF, 2, 2, (.num 64 false), 1, 1, 1, 1, 0, 0, .any, false, false⟩,
  ⟨0x2D80, 0x2DBF, 3, 3, (.num 64 false), 1, 1, 1, 1, 0, 0, .any, false, false⟩,
  ⟨0x2D80, 0x2DBF, 4, 4, (.num 64 false), 1, 1, 1, 1, 0, 0, .any, false, false⟩,
  ⟨0x2D80, 0x2DBF, 5, 5, (.num 32 false), 1, 1, 1, 1, 0, 0, .any, false, false⟩,
  ⟨0x2D80, 0x2DBF, 6, 6, (.num 64 false), 1, 1, 1, 1, 0, 0, .any, false, false⟩]

/-- Objects 0x2E00 to 0x2E00 (Table 16.6 and following, R477 of spec/16_thermal.md). -/
def rows2E00 : List ObjRow := [
  ⟨0x2E00, 0x2E00, 1, 1, (.num 8 false), 1, 1, 1, 1, 0, 0, .any, false, false⟩,
  ⟨0x2E00, 0x2E00, 2, 2, (.num 8 false), 1, 0, 1, 1, 0, 255, .any, false, false⟩,
  ⟨0x2E00, 0x2E00, 3, 3, (.num 64 false), 1, 0, 1, 1, 0, 0, .any, false, false⟩,
  ⟨0x2E00, 0x2E00, 4, 4, (.num 32 false), 1, 0, 1, 1, 0, 0, .any, false, false⟩,
  ⟨0x2E00, 0x2E00, 5, 5, (.num 64 false), 1, 0, 1, 1, 0, 0, .any, false, false⟩,
  ⟨0x2E00, 0x2E00, 6, 6, (.num 64 false), 1, 0, 1, 1, 0, 0, .any, false, false⟩,
  ⟨0x2E00, 0x2E00, 7, 7, (.num 16 false), 1, 0, 1, 1, 0, 65535, .any, false, false⟩,
  ⟨0x2E00, 0x2E00, 8, 8, (.num 16 false), 2, 0, 1, 1, 0, 120, .range (.c 50) (.c 150), false, true⟩,
  ⟨0x2E00, 0x2E00, 9, 9, (.num 16 false), 2, 0, 1, 1, 0, 100, .range (.c 10) (.c 500), false, true⟩,
  ⟨0x2E00, 0x2E00, 10, 10, (.num 16 false), 2, 0, 1, 1, 0, 150, .range (.c 20) (.c 500), false, true⟩,
  ⟨0x2E00, 0x2E00, 11, 11, (.num 32 false), 2, 0, 1, 1, 0, 100000, .range (.c 4000) (.c 10000000), false, true⟩]

/-- Objects 0x2E40 to 0x2E7F (Table 16.7 and following, R477 of spec/16_thermal.md). -/
def rows2E40 : List ObjRow := [
  ⟨0x2E40, 0x2E7F, 1, 1, (.num 8 false), 2, 0, 1, 1, 0, 0, .enum [0,1,2,3], false, true⟩,
  ⟨0x2E40, 0x2E7F, 2, 2, (.num 8 false), 2, 0, 1, 1, 0, 0, .any, false, true⟩,
  ⟨0x2E40, 0x2E7F, 3, 3, (.num 16 true), 1, 1, 1, 1, 0, (-32768), .any, false, false⟩,
  ⟨0x2E40, 0x2E7F, 4, 4, (.num 8 false), 1, 0, 1, 1, 0, 6, .any, false, false⟩,
  ⟨0x2E40, 0x2E7F, 5, 5, (.num 16 true), 2, 0, 1, 1, 0, 0, .any, false, true⟩,
  ⟨0x2E40, 0x2E7F, 6, 6, (.num 16 true), 2, 0, 1, 1, 0, 0, .any, false, true⟩,
  ⟨0x2E40, 0x2E7F, 7, 7, (.num 16 true), 2, 0, 1, 1, 0, 0, .any, false, true⟩,
  ⟨0x2E40, 0x2E7F, 8, 8, (.num 16 false), 2, 0, 1, 1, 0, 30, .range (.c 5) (.c 200), false, true⟩,
  ⟨0x2E40, 0x2E7F, 9, 9, (.num 16 false), 2, 0, 1, 1, 0, 0, .any, false, true⟩,
  ⟨0x2E40, 0x2E7F, 10, 10, (.num 16 false), 2, 0, 1, 1, 0, 10080, .range (.c 9900) (.c 10300), false, true⟩,
  ⟨0x2E40, 0x2E7F, 11, 11, (.num 16 false), 2, 0, 1, 1, 0, 3435, .range (.c 2500) (.c 5000), false, true⟩,
  ⟨0x2E40, 0x2E7F, 12, 12, (.num 16 true), 2, 0, 1, 1, 0, 0, .range (.c (-100)) (.c 100), false, true⟩,
  ⟨0x2E40, 0x2E7F, 13, 13, (.num 16 true), 1, 0, 1, 1, 0, (-32768), .any, false, false⟩,
  ⟨0x2E40, 0x2E7F, 14, 14, (.num 32 false), 1, 0, 1, 1, 0, 0, .any, false, false⟩]

/-- Objects 0x2F00 to 0x2F00 (Table 17.11 and following, R497 of spec/17_faults.md). -/
def rows2F00 : List ObjRow := [
  ⟨0x2F00, 0x2F00, 1, 1, (.num 8 false), 1, 0, 1, 1, 0, 1, .any, false, false⟩,
  ⟨0x2F00, 0x2F00, 2, 2, (.num 8 false), 1, 1, 1, 1, 0, 0, .any, false, false⟩,
  ⟨0x2F00, 0x2F00, 3, 3, (.num 16 false), 1, 0, 1, 1, 0, 0, .any, false, false⟩,
  ⟨0x2F00, 0x2F00, 4, 4, (.num 16 false), 1, 0, 1, 1, 0, 0, .any, false, false⟩,
  ⟨0x2F00, 0x2F00, 5, 5, (.num 32 false), 1, 1, 1, 1, 0, 0, .any, false, false⟩,
  ⟨0x2F00, 0x2F00, 6, 6, (.num 32 false), 1, 0, 1, 1, 0, 0, .any, false, false⟩,
  ⟨0x2F00, 0x2F00, 7, 7, (.oct 16), 1, 0, 1, 1, 0, 0, .any, false, false⟩,
  ⟨0x2F00, 0x2F00, 8, 8, (.num 32 false), 1, 0, 1, 1, 0, 0, .any, false, false⟩,
  ⟨0x2F00, 0x2F00, 9, 9, (.num 8 false), 2, 0, 2, 1, 0, 0, .enum [1], true, false⟩,
  ⟨0x2F00, 0x2F00, 10, 10, (.num 32 false), 1, 0, 1, 1, 0, 0, .any, false, false⟩,
  ⟨0x2F00, 0x2F00, 11, 11, (.num 32 false), 1, 0, 1, 1, 0, 0, .any, false, false⟩]

/-- Objects 0x2F10 to 0x2F10 (Table 2.13 and following, R52 of spec/02_module_and_package.md). -/
def rows2F10 : List ObjRow := [
  ⟨0x2F10, 0x2F10, 1, 1, (.num 8 false), 1, 1, 1, 1, 0, 0, .any, false, false⟩,
  ⟨0x2F10, 0x2F10, 2, 2, (.num 8 false), 1, 0, 2, 1, 0, 0, .enum [1], true, false⟩,
  ⟨0x2F10, 0x2F10, 3, 3, (.num 32 false), 1, 0, 1, 1, 0, 0, .any, false, false⟩,
  ⟨0x2F10, 0x2F10, 4, 4, (.num 8 false), 0, 0, 1, 1, 0, 0, .any, false, false⟩]

/-- Objects 0x2F20 to 0x2FE1 (Table 17.2 and following, R479 of spec/17_faults.md). -/
def rows2F20 : List ObjRow := [
  ⟨0x2F20, 0x2FE1, 1, 1, (.num 8 false), 1, 1, 1, 1, 0, 0, .any, false, false⟩,
  ⟨0x2F20, 0x2FE1, 2, 2, (.num 8 false), 1, 0, 1, 1, 0, 0, .any, false, false⟩,
  ⟨0x2F20, 0x2FE1, 3, 3, (.num 32 false), 1, 0, 1, 1, 0, 0, .any, false, false⟩,
  ⟨0x2F20, 0x2FE1, 4, 4, (.num 32 false), 1, 0, 1, 1, 0, 0, .any, false, false⟩,
  ⟨0x2F20, 0x2FE1, 5, 5, (.oct 128), 1, 0, 1, 1, 0, 0, .any, false, false⟩,
  ⟨0x2F20, 0x2FE1, 6, 6, (.num 16 false), 2, 0, 2, 1, 0, 1, .any, false, true⟩,
  ⟨0x2F20, 0x2FE1, 7, 7, (.num 8 false), 2, 0, 2, 1, 0, 0, .enum [1], true, false⟩,
  ⟨0x2F20, 0x2FE1, 8, 8, (.num 32 false), 1, 0, 1, 1, 0, 0, .any, false, false⟩,
  ⟨0x2F20, 0x2FE1, 9, 9, (.num 8 false), 1, 0, 2, 1, 0, 0, .enum [1], true, false⟩]

/-- Objects 0x3000 to 0x3000 (Table 1.8 and following, R24 of spec/01_load_shaping.md). -/
def rows3000 : List ObjRow := [
  ⟨0x3000, 0x3000, 1, 1, (.num 8 false), 1, 1, 1, 1, 0, 0, .any, false, false⟩,
  ⟨0x3000, 0x3000, 2, 2, (.num 8 false), 2, 0, 2, 1, 0, 0, .enum [0,1,2,3,4,5,6], true, false⟩,
  ⟨0x3000, 0x3000, 3, 3, (.num 8 false), 1, 1, 1, 1, 0, 1, .any, false, false⟩,
  ⟨0x3000, 0x3000, 4, 4, (.num 8 false), 1, 0, 1, 1, 0, 0, .any, false, false⟩,
  ⟨0x3000, 0x3000, 5, 5, (.oct 64), 1, 0, 1, 1, 0, 0, .any, false, false⟩,
  ⟨0x3000, 0x3000, 6, 6, (.num 32 false), 1, 0, 1, 1, 0, 0, .any, false, false⟩,
  ⟨0x3000, 0x3000, 7, 7, (.num 8 false), 1, 0, 1, 1, 0, 1, .any, false, false⟩,
  ⟨0x3000, 0x3000, 8, 8, (.num 32 false), 1, 0, 1, 1, 0, 0, .any, false, false⟩,
  ⟨0x3000, 0x3000, 9, 9, (.num 32 false), 1, 0, 1, 1, 0, 0, .any, false, false⟩,
  ⟨0x3000, 0x3000, 10, 10, (.num 8 false), 1, 0, 1, 1, 0, 0, .any, false, false⟩,
  ⟨0x3000, 0x3000, 11, 11, (.num 16 false), 2, 0, 1, 1, 0, 10000, .range (.c 1000) (.c 50000), false, true⟩,
  ⟨0x3000, 0x3000, 12, 12, (.num 32 false), 2, 0, 1, 1, 0, 60000, .range (.c 1000) (.c 900000), false, true⟩,
  ⟨0x3000, 0x3000, 13, 13, (.num 32 false), 2, 0, 1, 1, 0, 60000, .range (.c 20000) (.c 120000), false, true⟩,
  ⟨0x3000, 0x3000, 14, 14, (.num 32 false), 2, 0, 1, 1, 0, 10000, .range (.c 1000) (.c 120000), false, true⟩,
  ⟨0x3000, 0x3000, 15, 15, (.oct 16), 1, 0, 1, 1, 0, 0, .any, false, false⟩]

/-- Objects 0x3100 to 0x3100 (Table 20.12 and following, R567 of spec/20_security.md). -/
def rows3100 : List ObjRow := [
  ⟨0x3100, 0x3100, 1, 1, (.num 8 false), 1, 0, 1, 1, 0, 0, .any, false, false⟩,
  ⟨0x3100, 0x3100, 2, 2, (.oct 128), 1, 0, 1, 1, 0, 0, .any, false, false⟩,
  ⟨0x3100, 0x3100, 3, 3, (.dom 240), 2, 0, 2, 1, 0, 0, .any, true, false⟩,
  ⟨0x3100, 0x3100, 4, 4, (.num 32 false), 1, 0, 1, 1, 0, 0, .any, false, false⟩,
  ⟨0x3100, 0x3100, 5, 5, (.num 8 false), 1, 0, 1, 1, 0, 0, .any, false, false⟩,
  ⟨0x3100, 0x3100, 6, 6, (.num 8 false), 2, 0, 2, 1, 0, 0, .any, true, false⟩,
  ⟨0x3100, 0x3100, 7, 7, (.oct 64), 1, 0, 1, 1, 0, 0, .any, false, false⟩,
  ⟨0x3100, 0x3100, 8, 8, (.oct 16), 1, 0, 1, 1, 0, 0, .any, false, false⟩,
  ⟨0x3100, 0x3100, 9, 9, (.oct 16), 1, 0, 1, 1, 0, 0, .any, false, false⟩,
  ⟨0x3100, 0x3100, 10, 10, (.num 32 false), 1, 0, 1, 1, 0, 0, .any, false, false⟩]

/-- Objects 0x3101 to 0x3101 (Table 20.12 and following, R567 of spec/20_security.md). -/
def rows3101 : List ObjRow := [
  ⟨0x3101, 0x3101, 1, 1, (.dom 224), 2, 0, 2, 1, 0, 0, .any, true, false⟩,
  ⟨0x3101, 0x3101, 2, 2, (.oct 256), 1, 1, 1, 1, 0, 0, .any, false, false⟩,
  ⟨0x3101, 0x3101, 3, 3, (.oct 16), 2, 0, 2, 1, 0, 0, .any, true, false⟩]

/-- Objects 0x3102 to 0x3102 (Table 20.12 and following, R567 of spec/20_security.md). -/
def rows3102 : List ObjRow := [
  ⟨0x3102, 0x3102, 1, 1, (.num 64 false), 2, 0, 1, 1, 0, 0, .mask 0xFFFFFFFFF, false, false⟩,
  ⟨0x3102, 0x3102, 2, 2, (.num 64 false), 2, 0, 1, 1, 0, 0, .mask 0xFFFFFFFFF, false, false⟩]

/-- Objects 0x3103 to 0x3103 (Table 20.12 and following, R567 of spec/20_security.md). -/
def rows3103 : List ObjRow := [
  ⟨0x3103, 0x3103, 1, 1, (.oct 168), 2, 0, 1, 1, 1, 0, .any, false, false⟩,
  ⟨0x3103, 0x3103, 2, 2, (.oct 96), 1, 0, 1, 1, 1, 0, .any, false, false⟩,
  ⟨0x3103, 0x3103, 3, 3, (.oct 48), 1, 0, 1, 1, 2, 0, .any, true, false⟩,
  ⟨0x3103, 0x3103, 4, 4, (.oct 96), 1, 0, 1, 1, 1, 0, .any, false, false⟩,
  ⟨0x3103, 0x3103, 5, 5, (.num 16 false), 1, 0, 1, 1, 0, 0, .any, false, false⟩,
  ⟨0x3103, 0x3103, 6, 6, (.num 32 false), 1, 0, 1, 1, 0, 0, .any, false, false⟩]

/-- Objects 0x3104 to 0x3104 (Table 20.12 and following, R567 of spec/20_security.md). -/
def rows3104 : List ObjRow := [
  ⟨0x3104, 0x3104, 1, 1, (.num 8 false), 2, 0, 2, 1, 0, 0, .any, true, false⟩,
  ⟨0x3104, 0x3104, 2, 2, (.oct 64), 1, 0, 1, 1, 0, 0, .any, false, false⟩,
  ⟨0x3104, 0x3104, 3, 3, (.dom 256), 2, 0, 2, 1, 0, 0, .any, true, false⟩,
  ⟨0x3104, 0x3104, 4, 4, (.num 16 false), 1, 0, 1, 1, 0, 0, .any, false, false⟩,
  ⟨0x3104, 0x3104, 5, 5, (.num 32 false), 2, 0, 1, 1, 0, 28800, .range (.c 60) (.c 86400), false, false⟩,
  ⟨0x3104, 0x3104, 6, 6, (.num 8 false), 2, 0, 2, 1, 0, 0, .mask 0x0F, true, false⟩,
  ⟨0x3104, 0x3104, 7, 7, (.num 32 false), 1, 0, 1, 1, 0, 0, .any, false, false⟩]

/-- Objects 0x3140 to 0x317F (Table 20.12 and following, R567 of spec/20_security.md). -/
def rows3140 : List ObjRow := [
  ⟨0x3140, 0x317F, 1, 1, (.num 64 false), 2, 1, 1, 1, 0, 0, .mask 0xFFFFFFFFF, false, false⟩]

/-- Objects 0x6000 to 0x6000 (Table 19.8 and following, R536 of spec/19_object_dictionary.md). -/
def rows6000 : List ObjRow := [
  ⟨0x6000, 0x6000, 1, 1, (.num 64 false), 1, 0, 1, 1, 0, 0, .any, false, false⟩,
  ⟨0x6000, 0x6000, 2, 2, (.num 8 false), 1, 0, 1, 1, 0, 2, .any, false, false⟩,
  ⟨0x6000, 0x6000, 3, 3, (.num 8 false), 1, 0, 1, 1, 0, 0, .any, false, false⟩,
  ⟨0x6000, 0x6000, 4, 4, (.num 8 false), 1, 0, 1, 1, 0, 0, .any, false, false⟩,
  ⟨0x6000, 0x6000, 5, 5, (.num 8 false), 1, 0, 1, 1, 0, 0, .any, false, false⟩,
  ⟨0x6000, 0x6000, 6, 6, (.num 8 false), 1, 0, 1, 1, 0, 0, .any, false, false⟩,
  ⟨0x6000, 0x6000, 7, 7, (.num 8 false), 1, 0, 1, 1, 0, 0, .any, false, false⟩,
  ⟨0x6000, 0x6000, 8, 8, (.num 32 false), 1, 0, 1, 1, 0, 0, .any, false, false⟩,
  ⟨0x6000, 0x6000, 9, 9, (.num 32 false), 1, 0, 1, 1, 0, 0, .any, false, false⟩,
  ⟨0x6000, 0x6000, 10, 10, (.num 32 false), 1, 0, 1, 1, 0, 0, .any, false, false⟩,
  ⟨0x6000, 0x6000, 11, 11, (.num 32 true), 1, 0, 1, 1, 0, 0, .any, false, false⟩,
  ⟨0x6000, 0x6000, 12, 12, (.num 32 true), 1, 0, 1, 1, 0, 0, .any, false, false⟩,
  ⟨0x6000, 0x6000, 13, 13, (.num 32 true), 1, 0, 1, 1, 0, 0, .any, false, false⟩,
  ⟨0x6000, 0x6000, 14, 14, (.num 32 false), 1, 0, 1, 1, 0, 0, .any, false, false⟩,
  ⟨0x6000, 0x6000, 15, 15, (.num 16 false), 1, 0, 1, 1, 0, 0, .any, false, false⟩,
  ⟨0x6000, 0x6000, 16, 16, (.num 16 false), 1, 0, 1, 1, 0, 0, .any, false, false⟩,
  ⟨0x6000, 0x6000, 17, 17, (.num 32 false), 1, 0, 1, 1, 0, 0, .any, false, false⟩,
  ⟨0x6000, 0x6000, 18, 18, (.num 32 false), 1, 0, 1, 1, 0, 0, .any, false, false⟩,
  ⟨0x6000, 0x6000, 19, 19, (.num 16 false), 1, 0, 1, 1, 0, 0, .any, false, false⟩,
  ⟨0x6000, 0x6000, 20, 20, (.num 32 false), 1, 0, 1, 1, 0, 0, .any, false, false⟩,
  ⟨0x6000, 0x6000, 21, 21, (.num 16 false), 1, 0, 1, 1, 0, 0, .any, false, false⟩,
  ⟨0x6000, 0x6000, 22, 22, (.num 16 false), 1, 0, 1, 1, 0, 0, .any, false, false⟩,
  ⟨0x6000, 0x6000, 23, 23, (.num 64 false), 1, 0, 1, 1, 0, 0, .any, false, false⟩,
  ⟨0x6000, 0x6000, 24, 24, (.num 32 false), 1, 0, 1, 1, 0, 0, .any, false, false⟩]

/-- Objects 0x7000 to 0x7000 (Table 19.9 and following, R537 of spec/19_object_dictionary.md). -/
def rows7000 : List ObjRow := [
  ⟨0x7000, 0x7000, 1, 1, (.num 16 false), 2, 0, 1, 1, 0, 0, .any, false, true⟩,
  ⟨0x7000, 0x7000, 2, 2, (.num 32 false), 2, 0, 1, 1, 0, 1000000, .any, false, true⟩,
  ⟨0x7000, 0x7000, 3, 3, (.num 32 false), 2, 0, 1, 1, 0, 10000000, .any, false, true⟩,
  ⟨0x7000, 0x7000, 4, 4, (.num 32 false), 2, 0, 1, 1, 0, 800000, .any, false, true⟩,
  ⟨0x7000, 0x7000, 5, 5, (.num 8 false), 2, 0, 1, 1, 0, 0, .any, false, true⟩,
  ⟨0x7000, 0x7000, 6, 6, (.num 32 false), 2, 0, 1, 1, 0, 1050, .any, false, true⟩,
  ⟨0x7000, 0x7000, 7, 7, (.num 8 false), 2, 0, 1, 1, 0, 0, .enum [0,1], true, false⟩,
  ⟨0x7000, 0x7000, 8, 8, (.num 16 false), 2, 0, 1, 1, 0, 0, .any, false, true⟩]

/-- The rows that describe index `idx` (Table 19.5, R530). -/
def rowsOf (idx : Nat) : List ObjRow :=
  (if idx < 0x2710 then (if idx < 0x2100 then (if idx < 0x1601 then (if idx < 0x1010 then (if idx < 0x1008 then (if idx < 0x1001 then (if 0x1000 ≤ idx ∧ idx ≤ 0x1000 then rows1000 else []) else (if 0x1001 ≤ idx ∧ idx ≤ 0x1001 then rows1001 else [])) else (if idx < 0x1009 then (if 0x1008 ≤ idx ∧ idx ≤ 0x1008 then rows1008 else []) else (if idx < 0x100A then (if 0x1009 ≤ idx ∧ idx ≤ 0x1009 then rows1009 else []) else (if 0x100A ≤ idx ∧ idx ≤ 0x100A then rows100A else [])))) else (if idx < 0x1018 then (if idx < 0x1011 then (if 0x1010 ≤ idx ∧ idx ≤ 0x1010 then rows1010 else []) else (if 0x1011 ≤ idx ∧ idx ≤ 0x1011 then rows1011 else [])) else (if idx < 0x10F0 then (if 0x1018 ≤ idx ∧ idx ≤ 0x1018 then rows1018 else []) else (if idx < 0x1600 then (if 0x10F0 ≤ idx ∧ idx ≤ 0x10F0 then rows10F0 else []) else (if 0x1600 ≤ idx ∧ idx ≤ 0x1600 then rows1600 else []))))) else (if idx < 0x1C32 then (if idx < 0x1C00 then (if idx < 0x1A00 then (if 0x1601 ≤ idx ∧ idx ≤ 0x1601 then rows1601 else []) else (if 0x1A00 ≤ idx ∧ idx ≤ 0x1A03 then rows1A00 else [])) else (if idx < 0x1C12 then (if 0x1C00 ≤ idx ∧ idx ≤ 0x1C00 then rows1C00 else []) else (if idx < 0x1C13 then (if 0x1C12 ≤ idx ∧ idx ≤ 0x1C12 then rows1C12 else []) else (if 0x1C13 ≤ idx ∧ idx ≤ 0x1C13 then rows1C13 else [])))) else (if idx < 0x2010 then (if idx < 0x1C33 then (if 0x1C32 ≤ idx ∧ idx ≤ 0x1C32 then rows1C32 else []) else (if idx < 0x2000 then (if 0x1C33 ≤ idx ∧ idx ≤ 0x1C33 then rows1C33 else []) else (if 0x2000 ≤ idx ∧ idx ≤ 0x2000 then rows2000 else []))) else (if idx < 0x2011 then (if 0x2010 ≤ idx ∧ idx ≤ 0x2010 then rows2010 else []) else (if idx < 0x2020 then (if 0x2011 ≤ idx ∧ idx ≤ 0x2011 then rows2011 else []) else (if 0x2020 ≤ idx ∧ idx ≤ 0x2020 then rows2020 else [])))))) else (if idx < 0x2410 then (if idx < 0x2203 then (if idx < 0x2200 then (if idx < 0x2110 then (if 0x2100 ≤ idx ∧ idx ≤ 0x2100 then rows2100 else []) else (if 0x2110 ≤ idx ∧ idx ≤ 0x2143 then rows2110 else [])) else (if idx < 0x2201 then (if 0x2200 ≤ idx ∧ idx ≤ 0x2200 then rows2200 else []) else (if idx < 0x2202 then (if 0x2201 ≤ idx ∧ idx ≤ 0x2201 then rows2201 else []) else (if 0x2202 ≤ idx ∧ idx ≤ 0x2202 then rows2202 else [])))) else (if idx < 0x2240 then (if idx < 0x2210 then (if 0x2203 ≤ idx ∧ idx ≤ 0x2203 then rows2203 else []) else (if idx < 0x2211 then (if 0x2210 ≤ idx ∧ idx ≤ 0x2210 then rows2210 else []) else (if 0x2211 ≤ idx ∧ idx ≤ 0x2211 then rows2211 else []))) else (if idx < 0x2300 then (if 0x2240 ≤ idx ∧ idx ≤ 0x22BF then rows2240 else []) else (if idx < 0x2400 then (if 0x2300 ≤ idx ∧ idx ≤ 0x233F then rows2300 else []) else (if 0x2400 ≤ idx ∧ idx ≤ 0x2400 then rows2400 else []))))) else (if idx < 0x2520 then (if idx < 0x2480 then (if idx < 0x2420 then (if 0x2410 ≤ idx ∧ idx ≤ 0x2417 then rows2410 else []) else (if 0x2420 ≤ idx ∧ idx ≤ 0x2420 then rows2420 else [])) else (if idx < 0x2500 then (if 0x2480 ≤ idx ∧ idx ≤ 0x24FF then rows2480 else []) else (if idx < 0x2510 then (if 0x2500 ≤ idx ∧ idx ≤ 0x2500 then rows2500 else []) else (if 0x2510 ≤ idx ∧ idx ≤ 0x2510 then rows2510 else [])))) else (if idx < 0x2700 then (if idx < 0x2580 then (if 0x2520 ≤ idx ∧ idx ≤ 0x252F then rows2520 else []) else (if idx < 0x2600 then (if 0x2580 ≤ idx ∧ idx ≤ 0x25BF then rows2580 else []) else (if 0x2600 ≤ idx ∧ idx ≤ 0x267F then rows2600 else []))) else (if idx < 0x2701 then (if 0x2700 ≤ idx ∧ idx ≤ 0x2700 then rows2700 else []) else (if idx < 0x2702 then (if 0x2701 ≤ idx ∧ idx ≤ 0x2701 then rows2701 else []) else (if 0x2702 ≤ idx ∧ idx ≤ 0x2702 then rows2702 else []))))))) else (if idx < 0x2C11 then (if idx < 0x2931 then (if idx < 0x2910 then (if idx < 0x2800 then (if idx < 0x2780 then (if 0x2710 ≤ idx ∧ idx ≤ 0x2717 then rows2710 else []) else (if 0x2780 ≤ idx ∧ idx ≤ 0x27BF then rows2780 else [])) else (if idx < 0x2900 then (if 0x2800 ≤ idx ∧ idx ≤ 0x2800 then rows2800 else []) else (if idx < 0x2901 then (if 0x2900 ≤ idx ∧ idx ≤ 0x2900 then rows2900 else []) else (if 0x2901 ≤ idx ∧ idx ≤ 0x2901 then rows2901 else [])))) else (if idx < 0x2912 then (if idx < 0x2911 then (if 0x2910 ≤ idx ∧ idx ≤ 0x2910 then rows2910 else []) else (if 0x2911 ≤ idx ∧ idx ≤ 0x2911 then rows2911 else [])) else (if idx < 0x2920 then (if 0x2912 ≤ idx ∧ idx ≤ 0x2912 then rows2912 else []) else (if idx < 0x2930 then (if 0x2920 ≤ idx ∧ idx ≤ 0x292B then rows2920 else []) else (if 0x2930 ≤ idx ∧ idx ≤ 0x2930 then rows2930 else []))))) else (if idx < 0x2B00 then (if idx < 0x2A00 then (if idx < 0x2940 then (if 0x2931 ≤ idx ∧ idx ≤ 0x2938 then rows2931 else []) else (if 0x2940 ≤ idx ∧ idx ≤ 0x297F then rows2940 else [])) else (if idx < 0x2A21 then (if 0x2A00 ≤ idx ∧ idx ≤ 0x2A00 then rows2A00 else []) else (if idx < 0x2A40 then (if 0x2A21 ≤ idx ∧ idx ≤ 0x2A22 then rows2A20 else []) else (if 0x2A40 ≤ idx ∧ idx ≤ 0x2A75 then rows2A40 else [])))) else (if idx < 0x2C00 then (if idx < 0x2B11 then (if 0x2B00 ≤ idx ∧ idx ≤ 0x2B00 then rows2B00 else []) else (if idx < 0x2B40 then (if 0x2B11 ≤ idx ∧ idx ≤ 0x2B12 then rows2B10 else []) else (if 0x2B40 ≤ idx ∧ idx ≤ 0x2B63 then rows2B40 else []))) else (if idx < 0x2C01 then (if 0x2C00 ≤ idx ∧ idx ≤ 0x2C00 then rows2C00 else []) else (if idx < 0x2C02 then (if 0x2C01 ≤ idx ∧ idx ≤ 0x2C01 then rows2C01 else []) else (if 0x2C02 ≤ idx ∧ idx ≤ 0x2C02 then rows2C02 else [])))))) else (if idx < 0x2F10 then (if idx < 0x2D10 then (if idx < 0x2C41 then (if idx < 0x2C21 then (if 0x2C11 ≤ idx ∧ idx ≤ 0x2C12 then rows2C10 else []) else (if 0x2C21 ≤ idx ∧ idx ≤ 0x2C22 then rows2C20 else [])) else (if idx < 0x2D00 then (if 0x2C41 ≤ idx ∧ idx ≤ 0x2C42 then rows2C40 else []) else (if idx < 0x2D01 then (if 0x2D00 ≤ idx ∧ idx ≤ 0x2D00 then rows2D00 else []) else (if 0x2D01 ≤ idx ∧ idx ≤ 0x2D01 then rows2D01 else [])))) else (if idx < 0x2E00 then (if idx < 0x2D20 then (if 0x2D10 ≤ idx ∧ idx ≤ 0x2D17 then rows2D10 else []) else (if idx < 0x2D80 then (if 0x2D20 ≤ idx ∧ idx ≤ 0x2D2F then rows2D20 else []) else (if 0x2D80 ≤ idx ∧ idx ≤ 0x2DBF then rows2D80 else []))) else (if idx < 0x2E40 then (if 0x2E00 ≤ idx ∧ idx ≤ 0x2E00 then rows2E00 else []) else (if idx < 0x2F00 then (if 0x2E40 ≤ idx ∧ idx ≤ 0x2E7F then rows2E40 else []) else (if 0x2F00 ≤ idx ∧ idx ≤ 0x2F00 then rows2F00 else []))))) else (if idx < 0x3102 then (if idx < 0x3000 then (if idx < 0x2F20 then (if 0x2F10 ≤ idx ∧ idx ≤ 0x2F10 then rows2F10 else []) else (if 0x2F20 ≤ idx ∧ idx ≤ 0x2FE1 then rows2F20 else [])) else (if idx < 0x3100 then (if 0x3000 ≤ idx ∧ idx ≤ 0x3000 then rows3000 else []) else (if idx < 0x3101 then (if 0x3100 ≤ idx ∧ idx ≤ 0x3100 then rows3100 else []) else (if 0x3101 ≤ idx ∧ idx ≤ 0x3101 then rows3101 else [])))) else (if idx < 0x3140 then (if idx < 0x3103 then (if 0x3102 ≤ idx ∧ idx ≤ 0x3102 then rows3102 else []) else (if idx < 0x3104 then (if 0x3103 ≤ idx ∧ idx ≤ 0x3103 then rows3103 else []) else (if 0x3104 ≤ idx ∧ idx ≤ 0x3104 then rows3104 else []))) else (if idx < 0x6000 then (if 0x3140 ≤ idx ∧ idx ≤ 0x317F then rows3140 else []) else (if idx < 0x7000 then (if 0x6000 ≤ idx ∧ idx ≤ 0x6000 then rows6000 else []) else (if 0x7000 ≤ idx ∧ idx ≤ 0x7000 then rows7000 else []))))))))

/-- Every row of the object tables with the index range of its record group, in ascending order of index (R530). -/
def allRows : List (Nat × Nat × List ObjRow) :=
  [(0x1000, 0x1000, rows1000),
   (0x1001, 0x1001, rows1001),
   (0x1008, 0x1008, rows1008),
   (0x1009, 0x1009, rows1009),
   (0x100A, 0x100A, rows100A),
   (0x1010, 0x1010, rows1010),
   (0x1011, 0x1011, rows1011),
   (0x1018, 0x1018, rows1018),
   (0x10F0, 0x10F0, rows10F0),
   (0x1600, 0x1600, rows1600),
   (0x1601, 0x1601, rows1601),
   (0x1A00, 0x1A03, rows1A00),
   (0x1C00, 0x1C00, rows1C00),
   (0x1C12, 0x1C12, rows1C12),
   (0x1C13, 0x1C13, rows1C13),
   (0x1C32, 0x1C32, rows1C32),
   (0x1C33, 0x1C33, rows1C33),
   (0x2000, 0x2000, rows2000),
   (0x2010, 0x2010, rows2010),
   (0x2011, 0x2011, rows2011),
   (0x2020, 0x2020, rows2020),
   (0x2100, 0x2100, rows2100),
   (0x2110, 0x2143, rows2110),
   (0x2200, 0x2200, rows2200),
   (0x2201, 0x2201, rows2201),
   (0x2202, 0x2202, rows2202),
   (0x2203, 0x2203, rows2203),
   (0x2210, 0x2210, rows2210),
   (0x2211, 0x2211, rows2211),
   (0x2240, 0x22BF, rows2240),
   (0x2300, 0x233F, rows2300),
   (0x2400, 0x2400, rows2400),
   (0x2410, 0x2417, rows2410),
   (0x2420, 0x2420, rows2420),
   (0x2480, 0x24FF, rows2480),
   (0x2500, 0x2500, rows2500),
   (0x2510, 0x2510, rows2510),
   (0x2520, 0x252F, rows2520),
   (0x2580, 0x25BF, rows2580),
   (0x2600, 0x267F, rows2600),
   (0x2700, 0x2700, rows2700),
   (0x2701, 0x2701, rows2701),
   (0x2702, 0x2702, rows2702),
   (0x2710, 0x2717, rows2710),
   (0x2780, 0x27BF, rows2780),
   (0x2800, 0x2800, rows2800),
   (0x2900, 0x2900, rows2900),
   (0x2901, 0x2901, rows2901),
   (0x2910, 0x2910, rows2910),
   (0x2911, 0x2911, rows2911),
   (0x2912, 0x2912, rows2912),
   (0x2920, 0x292B, rows2920),
   (0x2930, 0x2930, rows2930),
   (0x2931, 0x2938, rows2931),
   (0x2940, 0x297F, rows2940),
   (0x2A00, 0x2A00, rows2A00),
   (0x2A21, 0x2A22, rows2A20),
   (0x2A40, 0x2A75, rows2A40),
   (0x2B00, 0x2B00, rows2B00),
   (0x2B11, 0x2B12, rows2B10),
   (0x2B40, 0x2B63, rows2B40),
   (0x2C00, 0x2C00, rows2C00),
   (0x2C01, 0x2C01, rows2C01),
   (0x2C02, 0x2C02, rows2C02),
   (0x2C11, 0x2C12, rows2C10),
   (0x2C21, 0x2C22, rows2C20),
   (0x2C41, 0x2C42, rows2C40),
   (0x2D00, 0x2D00, rows2D00),
   (0x2D01, 0x2D01, rows2D01),
   (0x2D10, 0x2D17, rows2D10),
   (0x2D20, 0x2D2F, rows2D20),
   (0x2D80, 0x2DBF, rows2D80),
   (0x2E00, 0x2E00, rows2E00),
   (0x2E40, 0x2E7F, rows2E40),
   (0x2F00, 0x2F00, rows2F00),
   (0x2F10, 0x2F10, rows2F10),
   (0x2F20, 0x2FE1, rows2F20),
   (0x3000, 0x3000, rows3000),
   (0x3100, 0x3100, rows3100),
   (0x3101, 0x3101, rows3101),
   (0x3102, 0x3102, rows3102),
   (0x3103, 0x3103, rows3103),
   (0x3104, 0x3104, rows3104),
   (0x3140, 0x317F, rows3140),
   (0x6000, 0x6000, rows6000),
   (0x7000, 0x7000, rows7000)]

/-- The row of an object, or none where the subindex does not exist. -/
def findRow (idx sub : Nat) : List ObjRow → Option ObjRow
  | [] => none
  | r :: rs => if r.idxLo ≤ idx ∧ idx ≤ r.idxHi ∧ r.subLo ≤ sub ∧ sub ≤ r.subHi then some r else findRow idx sub rs

/-- The descriptor of index:subindex. -/
def descOf (idx sub : Nat) : Option ObjRow := findRow idx sub (rowsOf idx)


end Sys2Proof.Machine
end

