-- ==== Sys2Proof/Machine/StArray.lean ====
section
/-! DEFINITION. The parts of the state that chapters 6 and 8 name: arrays, their stores and sequencers, die links,
staging slots, programs, runs, transfers. -/

namespace Sys2Proof.Machine

/-- One level of the loop stack (R234): first bundle of the body, the bundle that ends it, repetitions still to come. -/
structure LoopFrame where
  first : Nat
  last : Nat
  left : Nat
  deriving DecidableEq, Repr

/-- An outstanding transfer of R237: the fields of Table 8.11, with absolute arrays and lines. -/
structure Xfer where
  kind : Nat
  lines : Nat
  /-- kind 1: destination array and first absolute line; kinds 2 and 3: absolute stack byte; kind 4: region 0x3 offset -/
  remote : Nat
  dstArray : Nat
  localLine : Nat
  flagArray : Nat
  flagLine : Nat
  flagValue : Nat
  /-- kind 4: instant T that the window's anchor resolved to when the read began, and channel + 1 of the ring read (R283) -/
  anchor : Option Nat := none
  ring : Nat := 0
  /-- the program that issued it -/
  handle : Nat := 0
  deriving DecidableEq, Repr

/-- The part an array's sequencer runs: handle, copy B, part number (R250, R256). -/
structure PartRef where
  handle : Nat
  copyB : Bool
  part : Nat
  deriving DecidableEq, Repr

/-- A weight row that is being loaded into the shadow registers: cycle at which it is complete (Table 8.7). -/
structure Tile where
  completeAt : Nat := 0
  /-- reference exponent of the north edge at its load -/
  ref : Int := 0
  /-- row * 64 + column → operand slot -/
  cells : List (Nat × List CellOp) := []
  deriving DecidableEq, Repr

/-- One array (chapter 6) with its sequencer (chapter 8). -/
structure ArrSt where
  /-- ArrayState of Table 6.16: 0 Active; 1 Idle; 2 Nap; 3 Sleep; 4 waking; 5 faulted; 6 lost -/
  power : Nat := 3
  /-- instant at which the counters of time per state were last brought up to date (Table 6.16) -/
  mark : Nat := 0
  /-- power state being entered, 0 none, and instant at which the entry completes (R194) -/
  entering : Nat := 0
  entryDone : Nat := 0
  /-- a demand waits for the wake (R194) -/
  demand : Bool := false
  /-- scheduled start of a wake (R192); state being woken from and the instant the wake completes -/
  wakeAt : Option Nat := none
  wakeFrom : Nat := 0
  wakeDone : Nat := 0
  /-- an expected event's time passed without the event (R193) -/
  expectedPassed : Bool := false
  /-- store lines by number, 64 bytes each; an unlisted line holds zeros (R191) -/
  store : List (Nat × List Nat) := []
  /-- poisoned lines (R197) -/
  poison : List (Nat × Bool) := []
  /-- instants of uncorrectable store errors, newest first (R197) -/
  errTimes : List Nat := []
  lastSelfTest : Nat := 0
  /-- part that runs -/
  cur : Option PartRef := none
  sregs : List (Nat × Nat) := []
  /-- register * 64 + lane -/
  vregs : List (Nat × Nat) := []
  /-- exponent buffers of the west and north edges -/
  expW : List (Nat × Nat) := []
  expN : List (Nat × Nat) := []
  loops : List LoopFrame := []
  pc : Nat := 0
  /-- cycles of the part in this tick or slice -/
  cyc : Nat := 0
  /-- cycle at which a register is ready (R235): scalars 0 to 15, vectors 16 to 47, tables 64 to 67, edge sums
  68, OS sums 69, exponent buffers 70 and 71, lookups in progress 72 to 75 -/
  ready : List (Nat × Nat) := []
  /-- WAITF in progress: absolute line and threshold -/
  waitf : Option (Nat × Nat) := none
  /-- SETMODE (Table 8.7) -/
  os : Bool := false
  fmt : Nat := 0
  frame : Nat := 0
  accAdd : Bool := false
  /-- captured reference exponents Ew, En (R211) -/
  refW : Int := 0
  refN : Int := 0
  weights : List (Nat × List CellOp) := []
  /-- reference exponent of the active tile -/
  weightRef : Int := 0
  shadow : Option Tile := none
  /-- partial sums of the cells, row * 64 + column -/
  psum : List (Nat × PSum) := []
  /-- column exponent of the OS sums -/
  psumX : Int := 0
  /-- edge accumulators and their column exponent -/
  edge : List (Nat × PSum) := []
  edgeX : Int := 0
  ccr : List Nat := [0, 0, 0, 0, 0, 0, 0, 0]
  /-- table the CCR was last loaded from: the curve in force in the vector unit -/
  curve : Nat := 0
  /-- table * 4096 + entry -/
  tables : List (Nat × Nat) := []
  /-- absolute line of a table's store copy (Table 6.13), by table -/
  tableSrc : List (Nat × Nat) := []
  /-- handle * 128 + copy * 64 + part + 1 whose contents a table holds (R258), by table -/
  tableOwner : List (Nat × Nat) := []
  /-- Nap save area: tables and CCR as saved (R191) -/
  savedTables : List (Nat × Nat) := []
  savedCcr : List Nat := [0, 0, 0, 0, 0, 0, 0, 0]
  xfers : List Xfer := []
  /-- reserved for a run by the scheduler: handle + 1 (R256) -/
  reservedFor : Nat := 0
  /-- the test of ArrayCommand 1 began at (R580) -/
  testSince : Option Nat := none
  /-- the array holds a part of a load in progress -/
  loading : Bool := false
  /-- what unlisted weights, partial sums and edge accumulators hold: 0 zero, n + 1 the free values of draw n (R174) -/
  wSeed : Nat := 0
  pSeed : Nat := 0
  eSeed : Nat := 0
  deriving DecidableEq, Repr

/-- An input descriptor of R230. -/
structure InDesc where
  kind : Nat
  packing : Nat
  count : Nat
  first : Nat
  dest0 : Nat
  dest1 : Nat
  deriving DecidableEq, Repr

/-- An output descriptor of R230. -/
structure OutDesc where
  kind : Nat
  target : Nat
  lines : Nat
  src : Nat
  signal : Nat
  deriving DecidableEq, Repr

/-- A mailbox entry of R231. -/
structure MboxDesc where
  loc : Nat
  access : Nat
  lines : Nat
  line : Nat
  flag : Nat
  deriving DecidableEq, Repr

/-- What an image declares for a part (R228 to R231). -/
structure PartDecl where
  storeLines : Nat := 0
  declared : Nat := 0
  tablesUsed : Nat := 0
  curveAt : Nat := 0
  affinity : Nat := 0
  duplex : Bool := false
  runCycles : Nat := 0
  stackBytes : Nat := 0
  phaseCount : Nat := 0
  points : List Nat := []
  code : List Nat := []
  /-- constants and table copies: first line, bytes -/
  consts : List (Nat × List Nat) := []
  /-- tables: number, first line -/
  tables : List (Nat × Nat) := []
  /-- stack data: byte offset, bytes -/
  stackData : List (Nat × List Nat) := []
  inputs : List InDesc := []
  outputs : List OutDesc := []
  mboxes : List MboxDesc := []
  deriving DecidableEq, Repr

/-- A placed part. -/
structure PartSt where
  copyB : Bool
  idx : Nat
  array : Nat
  /-- first store line, first stack byte on its die, first bundle -/
  base : Nat
  stackBase : Nat
  codeBase : Nat
  decl : PartDecl
  /-- flags raised by the part since its placement (Table 8.10) -/
  flags : Nat := 0
  phase : Nat := 0
  /-- next slice's bundle -/
  pc : Nat := 0
  /-- the tick or slice has ended: 0 running, 1 END, 2 YIELD -/
  ended : Nat := 1
  /-- the part is running a tick or slice -/
  busy : Bool := false
  slices : Nat := 0
  /-- first line of each table's store copy, absolute, by table; CCR and curve at the end of the last slice (R258) -/
  srcs : List (Nat × Nat) := []
  ccr : List Nat := [0, 0, 0, 0, 0, 0, 0, 0]
  curve : Nat := 0
  deriving DecidableEq, Repr

/-- A run of a slow-lane program (R254). -/
structure Run where
  release : Nat
  waitSince : Nat
  e : Nat := 0
  running : Bool := false
  coalesced : Nat := 0
  missed : Bool := false
  deriving DecidableEq, Repr

/-- A program under a handle (Tables 8.13, 8.14, 8.21). -/
structure ProgSt where
  state : Nat := 0
  tenant : Nat := 0
  lane : Nat := 0
  partCount : Nat := 0
  duplex : Bool := false
  progId : List Nat := []
  trigger : Nat := 0
  period : Nat := 0
  domain : Nat := 0
  mailbox : Nat := 0
  deadline : Nat := 0
  priority : Nat := 0
  startAfter : Bool := false
  parts : List PartSt := []
  decls : List PartDecl := []
  maxCycles : Nat := 0
  completions : Nat := 0
  skipped : Nat := 0
  misses : Nat := 0
  stopReason : Nat := 0
  mailboxBase : Nat := 0
  placements : Nat := 0
  coalesced : Nat := 0
  /-- run ready or running, and triggers that wait for the next: release time of the first, count absorbed -/
  run : Option Run := none
  nextRun : Option (Nat × Nat) := none
  lastPeriodic : Nat := 0
  /-- tick or run count; hall time at the start of the tick or slice -/
  ticks : Nat := 0
  startTime : Nat := 0
  /-- stop or unload waits for the end of the tick or slice: 0 none, 2 stop, 3 unload (R246) -/
  stopPending : Nat := 0
  /-- kind 1 outputs are held since (R252) -/
  heldSince : Nat := 0
  /-- an operator's program may use kinds of Table 8.5 reserved to it -/
  effective : Nat := 0
  /-- ReplacementFailed: tried again when ArraysAvailable rises (R247) -/
  retry : Bool := false
  /-- inputs of the next tick have been taken (R249) -/
  primed : Bool := false
  /-- copy of a duplex program that is lost: 0 none, 1 A, 2 B -/
  missing : Nat := 0
  /-- stacks that hold a copy of the retained image, and its bytes (R243) -/
  images : List Nat := []
  imageBytes : Nat := 0
  /-- state to which a program placed again returns: 3 Running, 2 Loaded or 4 Stopped, and its StopReason -/
  resume : Nat := 3
  resumeReason : Nat := 0
  deriving DecidableEq, Repr

/-- A staging slot (Table 8.20). -/
structure SlotSt where
  state : Nat := 0
  tenant : Nat := 0
  size : Nat := 0
  /-- 64-byte blocks by number -/
  data : List (Nat × List Nat) := []
  result : List Nat := List.replicate 8 0
  progId : List Nat := List.replicate 16 0
  /-- stack that holds the slot -/
  stack : Nat := 255
  /-- what verification read from the image (R241): lane, parts per copy, declarations -/
  lane : Nat := 0
  partCount : Nat := 0
  decls : List PartDecl := []
  deriving DecidableEq, Repr

/-- A load in progress (R242, R243): slot, handle, the request. -/
structure LoadSt where
  slot : Nat
  handle : Nat
  req : List Nat
  deriving DecidableEq, Repr

/-- Arrays, die links, slots and programs (chapters 6 and 8). -/
structure PecanSt where
  arrays : List (Nat × ArrSt) := []
  slots : List (Nat × SlotSt) := []
  progs : List (Nat × ProgSt) := []
  load : Option LoadSt := none
  /-- die link d to d + 1: down since instant + 1; up again since instant + 1 while retraining (R185) -/
  linkDown : List (Nat × Nat) := []
  linkUp : List (Nat × Nat) := []
  /-- stack memory: die * 2^34 / 64 + block of 64 bytes, allocations included -/
  stack : List (Nat × List Nat) := []
  /-- blocks of stack memory, keyed likewise, that hold an uncorrectable error (R288) -/
  stackBad : List (Nat × Bool) := []
  /-- last 8 completion intervals of a domain slot with a trigger, newest first (Table 6.11) -/
  intervals : List (Nat × List Nat) := []
  /-- dies halted by a debug session (R564) -/
  halted : List (Nat × Bool) := []
  deriving DecidableEq, Repr

end Sys2Proof.Machine
end

