-- ==== Sys2Proof/Machine/StDict.lean ====
section
/-! DEFINITION. The parts of the state that chapters 19 and 20 name: EtherCAT, stored configuration, keys, images, admission,
sessions, TAP. -/

namespace Sys2Proof.Machine

/-- A stored configuration (R532, R533): sequence number, ordering code, values. -/
structure StoredCfg where
  seq : Nat := 0
  ordering : Nat := 2
  /-- key → value bytes, ascending -/
  recs : List (Nat × List Nat) := []
  deriving DecidableEq, Repr

/-- A firmware image in a slot (R554, R556). -/
structure Image where
  kind : Nat
  rollback : Nat
  ordering : Nat
  version : Nat
  bytes : List Nat
  deriving DecidableEq, Repr

/-- The image slots of one half. -/
structure ImageSlots where
  mainActive : Option Image := none
  mainPending : Option Image := none
  seedActive : Option Image := none
  seedPending : Option Image := none
  deriving DecidableEq, Repr

/-- A debug session or challenge on a target (R563 to R565). -/
structure Session where
  /-- 0 none, 1 service, 2 vendor -/
  level : Nat := 0
  openedAt : Nat := 0
  deriving DecidableEq, Repr

/-- Admission of a hall link (R561). -/
structure Admit where
  upAt : Nat := 0
  /-- this shelf has admitted the peer; the last attempt failed at + 1; 48-byte challenge sent -/
  admitted : Bool := false
  failedAt : Nat := 0
  challenge : List Nat := []
  deriving DecidableEq, Repr

/-- The dictionary server, EtherCAT and security (chapters 19 and 20). -/
structure DictSt where
  esc : EscState := .init
  alStatus : Nat := 0
  /-- value of OutputSequence last judged (R539) -/
  seqJudged : Nat := 0
  /-- mirror writes that are answered later: key, lane, request (R525, R526) -/
  waiting : List (Nat × Nat × Frame) := []
  /-- code of Table 20.4 of the last image verified (ImageState byte 12) -/
  lastVerify : Nat := 0
  /-- the two copies of the stored configuration, written alternately (R532); a store in progress -/
  storedA : Option StoredCfg := none
  storedB : Option StoredCfg := none
  storing : Option StoredCfg := none
  /-- the store in progress follows a CONFIG file (R546) -/
  storeFoe : Bool := false
  /-- key store: slot → 96-byte public key -/
  opKeys : List (Nat × List Nat) := []
  adopted : List (List Nat) := []
  /-- author store: slot → 96-byte public key -/
  authors : List (Nat × List Nat) := []
  imagesA : ImageSlots := {}
  imagesB : ImageSlots := {}
  /-- rollback fuses blown in Hazels A and B (R557) -/
  fusesA : Nat := 0
  fusesB : Nat := 0
  /-- challenge outstanding: 64 bytes, instant issued (R563) -/
  challenge : List Nat := []
  challengeAt : Nat := 0
  failures : List Nat := []
  /-- lockout ends at this powered time, s; 0 none -/
  lockUntil : Nat := 0
  sessions : List (Nat × Session) := []
  admits : List (Nat × Admit) := []
  /-- TAP: instruction in force (R562); boundary register outputs driven by EXTEST -/
  tap : TapInstr := .idcode
  bsr : List Nat := []
  deriving DecidableEq, Repr

end Sys2Proof.Machine
end

