-- ==== Sys2Proof/Machine/StEngine.lean ====
section
/-! DEFINITION. The parts of the state that chapters 10 and 11 name: control engine, rectifier buses and limiters,
ramp planner, forecast ports, trace. -/

namespace Sys2Proof.Machine

/-- One compensator instance: the active copy of its record and its histories (R314 to R317). -/
structure Inst where
  kind : Nat := 0
  sources : Nat := 0
  ref : Int := 0
  b0 : Int := 0
  b1 : Int := 0
  b2 : Int := 0
  b3 : Int := 0
  a1 : Int := 0
  a2 : Int := 0
  a3 : Int := 0
  shifts : Nat := 0
  omin : Int := -2147483648
  omax : Int := 2147483647
  /-- e of the last tick, then the histories the next tick reads: e[k-1] to e[k-3] and u[k-1] to u[k-3] -/
  e0 : Int := 0
  e1 : Int := 0
  e2 : Int := 0
  e3 : Int := 0
  u1 : Int := 0
  u2 : Int := 0
  u3 : Int := 0
  deriving DecidableEq, Repr

/-- One CAN FD bus with its limiter and transmitter (R328 to R336). -/
structure BusSt where
  /-- p_prev in 10^-10 W, mask_prev -/
  pPrev : Nat := 0
  maskPrev : Nat := 0
  /-- limiter state before the frame last sent, for a frame that meets an error (R332) -/
  pOld : Nat := 0
  maskOld : Nat := 0
  /-- last frame's values and counter -/
  counter : Nat := 0
  first : Nat := 0
  second : Nat := 0
  mask : Nat := 0
  /-- start-of-frame instant of the last frame; a frame has been sent -/
  sof : Nat := 0
  sent : Bool := false
  /-- Hazel that transmits on the bus: 0 A, 1 B; from which instant (R333) -/
  owner : Nat := 0
  from_ : Nat := 0
  /-- controller in bus-off (R328) -/
  busOff : Bool := false
  /-- frames that commanded zero in Safe have gone out; the last frame has too (R333) -/
  zeroSent : Bool := false
  ended : Bool := false
  /-- the next update of this limiter finds no admissible integer (R337) -/
  stuck : Bool := false
  deriving DecidableEq, Repr

/-- One rectifier as the module knows it (R331). -/
structure RectSt where
  answering : Bool := false
  /-- consecutive good, consecutive faulty reports -/
  good : Nat := 0
  bad : Nat := 0
  /-- last reported output power, W; last report had Fault set -/
  power : Int := 0
  fault : Bool := false
  status : Nat := 0
  /-- Counter of the set-point frame a report is owed for; owed -/
  owedCounter : Nat := 0
  owed : Bool := false
  /-- the last report owed was missed and may still come -/
  missed : Bool := false
  deriving DecidableEq, Repr

/-- A latched forecast port (R296, R304): bytes, publication stamp, accepted since the binding. -/
structure PortSt where
  bytes : List Nat := []
  stamp : Nat := 0
  valid : Bool := false
  /-- publication that waits for the next latch -/
  nextBytes : List Nat := []
  nextStamp : Nat := 0
  nextValid : Bool := false
  deriving DecidableEq, Repr

/-- Forecast trust and use, chapter 10. -/
structure FcSt where
  ports : List (Nat × PortSt) := []
  /-- accepted fine horizons: publication time and line bytes, newest first (R300) -/
  fine : List (Nat × List Nat) := []
  /-- eps and trust as exact fractions (R300); c_eff (R301) -/
  eps : Rat := 1
  trust : Rat := 0
  cEff : Rat := 0
  /-- feed-forward term of the tick, W (R302) -/
  ff : Int := 0
  /-- a new binding takes effect at the next control tick (R294) -/
  bound : Nat := 255
  /-- step domain in force (R306) -/
  stepDomain : Nat := 0
  lastBinError : Int := 0
  lastBinStart : Nat := 0
  /-- sum and count of the measured rack load over the bin in progress (R300) -/
  binSum : Int := 0
  binCount : Nat := 0
  /-- the ports differ in this tick (R297) -/
  differ : Bool := false
  /-- a forecaster that replaced another has not yet exceeded ConfidenceFloor (R311) -/
  proving : Bool := false
  /-- Sage's inputs hold a request to restore the shipped readout: SageControl bit 1 clears at its tick (R309) -/
  sageAsked : Bool := false
  deriving DecidableEq, Repr

/-- One trace channel's samples are kept oldest first (R347). -/
structure TraceSt where
  /-- 0 idle; 1 pre-trigger; 2 armed; 3 triggered; 4 complete -/
  state : Nat := 0
  normal : Bool := false
  /-- per channel, the samples taken -/
  data : List (List Int) := [[], [], [], [], [], [], [], []]
  count : Nat := 0
  /-- samples still to come after the trigger -/
  left : Nat := 0
  /-- count of the events that the trigger source watches, as of the last sample -/
  mark : Nat := 0
  /-- last value of the trigger channel -/
  last : Int := 0
  /-- Hazel that captures -/
  hazel : Nat := 1
  /-- bit c: the last entry of channel c has been read -/
  readMask : Nat := 0
  /-- an event that the trigger source names happened since the last sample -/
  event : Bool := false
  /-- forced trigger pending -/
  forced : Bool := false
  deriving DecidableEq, Repr

/-- What the planner proposed at a frame's latch instant (R329): T of the latch, rectifiers, the two requests, portadvice. -/
structure PlanLatch where
  at_ : Nat
  rects : List Nat
  w1 : Int
  w2 : Int
  adv : Int
  deriving DecidableEq, Repr

/-- The control engine, planner and ramp-fidelity judgement (chapters 1 and 11). -/
structure EngSt where
  insts : List (Nat × Inst) := []
  /-- commits pending: instance, instant of the write (R317) -/
  commits : List (Nat × Nat) := []
  /-- release injection and handover injection pending (R324), and those of the last tick -/
  relPend : Int := 0
  hoPend : Int := 0
  relLast : Int := 0
  hoLast : Int := 0
  u0 : Int := 0
  /-- set-point changes that wait for RectifierLag: application instant * 2 + bus, change of the bus power in 10^-10 W (R324) -/
  handovers : List (Nat × Int) := []
  /-- commanded power whose changes have been handed over, 10^-10 W -/
  hoBase : Int := 0
  /-- shares w_1, w_2 in 1/32,768 (R325) -/
  w1 : Nat := 32768
  w2 : Nat := 0
  /-- k_1, k_2 of the last tick (R325) -/
  k1 : Int := 0
  k2 : Int := 0
  /-- ticks for which the bus channels differ (R322); channel in use, 0 both -/
  disagree : Nat := 0
  busChannel : Nat := 0
  disagreeReported : Bool := false
  /-- measured rack load and shelf input of the last tick, W -/
  rack : Int := 0
  shelfIn : Int := 0
  /-- converter power at the bus, W (channel 0x0032) -/
  pBus : Int := 0
  /-- last planfilter microseconds of rack load, newest first (R338) -/
  rackHist : List Int := []
  /-- fraction of a mV of slew carried between ticks, in mV/1000 (R322) -/
  slewAcc : Nat := 0
  /-- per-string mean of |phase references| over the last 100 ticks, newest first (R358) -/
  refHist1 : List Int := []
  refHist2 : List Int := []
  /-- string voltages over the last 100 ticks, newest first (R368) -/
  vconv1 : List Int := []
  vconv2 : List Int := []
  ref1 : Int := 0
  ref2 : Int := 0
  /-- R19: rack above rating since; converter ticks above its limit; last instant any case held; counted -/
  overSince : Option Nat := none
  convOver : Nat := 0
  r19Last : Option Nat := none
  /-- the rating timer has reached 10 s and not yet counted back to 0 (R323) -/
  contInForce : Bool := false
  /-- R13: integral of the limit in 10^-6 W, delay line of (D, E) over 1 ms, running minima, last excess -/
  r13Int : Int := 0
  r13Line : List (Int × Int) := []
  r13MinD : Option Int := none
  r13MinE : Option Int := none
  r13Last : Option Nat := none
  /-- string inside its window at the last judgement (R16) -/
  inWindow1 : Bool := true
  inWindow2 : Bool := true
  /-- reserve in force (R17, R336); both causes clear since -/
  reserve : Bool := false
  reserveClear : Option Nat := none
  hardLimit : Bool := false
  /-- announced step by the forecaster (R28) -/
  onsetArmed : Bool := false
  /-- shadow comparison: sweep of 16 vectors due; instants of copies (R343) -/
  sweepDue : Bool := false
  kavIndex : Nat := 0
  copies : List Nat := []
  /-- instants of sense mismatches (Table 17.3a) -/
  senseMis : List Nat := []
  /-- rectifier buses -/
  busA : BusSt := {}
  busB : BusSt := { owner := 1 }
  rects : List (Nat × RectSt) := []
  /-- P_cmd of the last frame, W; measured outputs from which the planner goes on after a Hold (R26) -/
  pCmd : Int := 0
  resume : Option Int := none
  portAdvice : Int := 0
  latched : Option PlanLatch := none
  trace : TraceSt := {}
  deriving DecidableEq, Repr

end Sys2Proof.Machine
end

