-- ==== Sys2Proof/Machine/StFabric.lean ====
section
/-! DEFINITION. The parts of the state that chapters 4 and 5 name: lanes, flows, hall time, the synchronisation pool,
watches, tenants' resources, barrier domains and the release pacer. -/

namespace Sys2Proof.Machine

/-- Four per-channel counts, VC0 to VC3. -/
structure Vc4 where
  v0 : Nat := 0
  v1 : Nat := 0
  v2 : Nat := 0
  v3 : Nat := 0
  deriving DecidableEq, Repr

/-- The count of channel `i`. -/
def Vc4.get (q : Vc4) (i : Nat) : Nat := if i = 0 then q.v0 else if i = 1 then q.v1 else if i = 2 then q.v2 else q.v3

/-- The counts with that of channel `i` replaced. -/
def Vc4.set (q : Vc4) (i v : Nat) : Vc4 :=
  if i = 0 then { q with v0 := v } else if i = 1 then { q with v1 := v } else if i = 2 then { q with v2 := v } else { q with v3 := v }

/-- A frame in a transmit queue: instant it entered, promotions (R95), and the watch it reports if it is a WatchMessage (R147). -/
structure QFrame where
  at_ : Nat
  promo : Nat := 0
  watch : Option Nat := none
  /-- flow that numbers the frame when it is sent, and its place in that flow; none for a frame that is numbered already -/
  flow : Option Nat := none
  ord : Nat := 0
  frame : Frame
  deriving DecidableEq, Repr

/-- One Brucel lane (R91 to R96, R127). Its state code is the object LinkState. -/
structure LaneSt where
  pcs : Bool := false
  /-- a valid LinkInit came; one with PeerSeen came; one with PeerSeen was sent (R91) -/
  peerSeen : Bool := false
  gotSeen : Bool := false
  sentSeen : Bool := false
  lastInit : Nat := 0
  /-- EtherType, shelf number, domain and dimensions as of the bring-up (R126) -/
  ether : Nat := 0x88B5
  shelf : Nat := 0
  domain : Nat := 0
  dims : Nat := 0
  /-- the peer's advertised blocks, MaxPayload, address (R82, R91) -/
  adv : Vc4 := {}
  maxPayload : Nat := 0
  peerMac : Option Nat := none
  /-- cumulative blocks the peer returned; blocks consumed of its buffer (R93) -/
  returned : Vc4 := {}
  consumed : Vc4 := {}
  /-- cumulative blocks this end freed; those already reported; since when one is unreported; last LinkCredit -/
  freed : Vc4 := {}
  reported : Vc4 := {}
  unreportedSince : Option Nat := none
  lastCredit : Nat := 0
  txq : List QFrame := []
  /-- consecutive VC0 frames sent (R96) -/
  vc0Run : Nat := 0
  /-- down since, for R102 -/
  downSince : Nat := 0
  /-- cage refused (reason 7) -/
  cageRefused : Bool := false
  deriving DecidableEq, Repr

/-- A transfer being received (R104 to R106): its first frame, the address ranges so far, payloads that wait for the Last frame, frames
seen, the first refusal, and its TransferId on the flow it is re-sent on (R108). -/
structure XferIn where
  head : Frame
  ranges : List (Nat × Nat) := []
  parts : List (Nat × List Nat) := []
  frames : Nat := 0
  refused : Nat := 0
  tid : Nat := 0
  deriving DecidableEq, Repr

/-- A frame kept until it is acknowledged (R99, R101). -/
structure Unacked where
  frame : Frame
  lane : Nat
  sentAt : Nat
  tries : Nat := 0
  /-- retransmitted since the later frame was sent -/
  fast : Bool := false
  deriving DecidableEq, Repr

/-- One flow in both directions: a peer node and a channel (R97 to R103). -/
structure FlowSt where
  cum : Nat := 65535
  held : List Frame := []
  sinceAck : Nat := 0
  ackDue : Option Nat := none
  cur : Option XferIn := none
  next : Nat := 0
  unacked : List Unacked := []
  /-- frames queued so far; frames that wait for a route -/
  enq : Nat := 0
  waiting : List (Frame × Option Nat) := []
  /-- FlowReset sent and not yet acknowledged: first sequence number after it, instant sent -/
  resetting : Option (Nat × Nat) := none
  downSince : Option Nat := none
  /-- lane the peer was last reached on -/
  lane : Nat := 0
  deriving DecidableEq, Repr

/-- A transfer re-sent on another flow keeps its requester (R108). -/
structure Resent where
  tid : Nat
  origTid : Nat
  shelf : Nat
  ep : Nat
  tenant : Nat
  deriving DecidableEq, Repr

/-- The fabric (chapter 4). -/
structure FabricSt where
  lanes : List (Nat × LaneSt) := []
  flows : List (Nat × FlowSt) := []
  tid : Nat := 0
  resent : List Resent := []
  /-- hall time is `now` plus this (R118, R119) -/
  htOffset : Int := 0
  htLocked : Bool := false
  /-- t1 of the TimeSync outstanding with the parent -/
  syncT1 : Option Nat := none
  lastSync : Nat := 0
  /-- reachable shelves with a lower number than this one's parent path are read from the lanes -/
  broadcastMisses : Nat := 0
  signalFailures : Nat := 0
  signalOpZero : Nat := 0
  deriving DecidableEq, Repr

/-- A synchronisation word (Table 5.1). `managed`: 0 no, 1 tree word, 2 event word. -/
structure PWord where
  data : Nat := 0
  full : Bool := false
  gen : Nat := 0
  tenant : Nat := 0
  alloc : Bool := false
  quarantined : Bool := false
  poisoned : Bool := false
  managed : Nat := 0
  /-- reserved by a prepared domain (R157) -/
  reserved : Bool := false
  deriving DecidableEq, Repr

/-- A watch descriptor (Table 5.9). -/
structure WDesc where
  alloc : Bool := false
  tenant : Nat := 0
  armed : Bool := false
  word : Nat := 0
  cond : Nat := 0
  persistent : Bool := false
  ref : Nat := 0
  threshold : Nat := 0
  shelf : Nat := 0
  ep : Nat := 0
  cookie : Nat := 0
  fire : Nat := 0
  deriving DecidableEq, Repr

/-- Bounds of a declared queue (R142). -/
structure QueueB where
  head : Nat
  tail : Nat
  n : Nat
  deriving DecidableEq, Repr

/-- A tray node of a domain on this shelf (R150, R159): link, word, first endpoint, participants, who has arrived. -/
structure TrayNode where
  link : Nat
  word : Nat
  first : Nat
  count : Nat
  arrived : List Nat := []
  deriving DecidableEq, Repr

/-- A hall node this shelf holds (R150): level, word, children (shelves), those that have arrived. -/
structure HallNode where
  level : Nat
  word : Nat
  children : List Nat
  arrived : List Nat := []
  deriving DecidableEq, Repr

/-- A barrier domain on this shelf (R156 to R161). States: 1 Prepared, 2 Committed, 3 Open, 4 Broken, 5 Closing. -/
structure Dom where
  id : Nat := 0
  state : Nat := 0
  tenant : Nat := 0
  home : Nat := 0
  total : Nat := 0
  /-- shelf records of the descriptor: shelf, tray counts -/
  shelves : List (Nat × List Nat) := []
  trays : List TrayNode := []
  /-- shelf node word, target, tray links that have completed (a tray node that is the shelf node has none) -/
  shelfNode : Nat := 0
  shelfTarget : Nat := 0
  shelfArrived : List Nat := []
  halls : List HallNode := []
  lastCompletion : Nat := 0
  lastInterval : Nat := 0
  completed : Nat := 0
  releaseAt : Nat := 0
  prepSince : Nat := 0
  closedAt : Option Nat := none
  /-- next endpoint in rotation order (R165) -/
  rot : Option Nat := none
  /-- endpoints that have arrived and are not yet released -/
  waiting : List Nat := []
  /-- the shelf node has completed and its release has not come down the hall tree yet: the episode -/
  hallRelease : Option Nat := none
  deriving DecidableEq, Repr

/-- A creation that this shelf runs as home (R157, R158). -/
structure Creation where
  desc : List Nat
  id : Nat
  tenant : Nat
  /-- 2 prepare, 3 commit, 4 open -/
  stage : Nat := 2
  members : List Nat := []
  answered : List Nat := []
  /-- TransferId and shelf of each notice of the stage in progress -/
  tids : List (Nat × Nat) := []
  prepared : List Nat := []
  since : Nat := 0
  /-- first refusal: result, shelf, instant -/
  failed : Option (Nat × Nat × Nat) := none
  deriving DecidableEq, Repr

/-- A release in the pacer (R165). -/
structure Rel where
  dom : Nat
  tenant : Nat
  deadline : Nat
  done : Nat
  episode : Nat
  remaining : List Nat
  wave : Nat := 0
  firstWave : Bool := true
  deriving DecidableEq, Repr

/-- Learning of power weights per tray link (R163): instant of the last Release frame and what was released. -/
structure LinkLearn where
  lastAt : Nat := 0
  eps : List Nat := []
  deriving DecidableEq, Repr

/-- The pool, watches, domains and pacer (chapter 5). -/
structure PoolSt where
  words : List (Nat × PWord) := []
  descs : List (Nat × WDesc) := []
  queues : List QueueB := []
  doms : List (Nat × Dom) := []
  create : Option Creation := none
  pending : List Rel := []
  /-- first pending completion: origin of the interval ticks (R165) -/
  tickFrom : Nat := 0
  /-- weights released: instant, W -/
  recent : List (Nat × Nat) := []
  weights : List (Nat × Nat) := []
  learn : List (Nat × LinkLearn) := []
  deriving DecidableEq, Repr

end Sys2Proof.Machine
end

