-- ==== Sys2Proof/Machine/StHistory.lean ====
section
/-! DEFINITION. The parts of the state that chapter 9 names: channels, rings with their pyramids, windows, step marks. -/

namespace Sys2Proof.Machine

/-- The gap code as an integer (R272); it is clamped away from stored samples. -/
def gapVal : Int := -2147483648

/-- A level above level 0: slots computed, counted from slot 0, and the inputs of the next (R274, R275). -/
structure UpLevel where
  count : Nat := 0
  buf : List Int := []
  deriving DecidableEq, Repr

/-- A defined channel and its ring (Table 9.4). -/
structure RingDef where
  owner : Nat := 0
  /-- 0: defined without a ring -/
  levels : Nat := 0
  factor : Nat := 2
  reduction : Nat := 0
  period : Nat := 1
  n0 : Nat := 1024
  nUpper : Nat := 1024
  late : Nat := 1
  wide : Bool := false
  mirror : Bool := false
  /-- State of Table 9.4: 0 a fixed channel with grants and no ring; 1 defined without a ring; 2 ring; 3 ring with its mirror lost; 4 ring lost -/
  state : Nat := 1
  primary : Nat := 255
  mirrorAt : Nat := 255
  base : Nat := 0
  lateN : Nat := 0
  earlyN : Nat := 0
  grants : Nat := 0
  /-- head slot of level 0 (R272), and the levels above it (R274) -/
  head : Nat := 0
  up : List UpLevel := []
  /-- level * 2^24 + position → sample; an unlisted position holds the gap code -/
  data : List (Nat × Int) := []
  /-- a delete waits for the reads that began before it (R279) -/
  deleting : Bool := false
  deriving DecidableEq, Repr

/-- A window (Table 9.8). -/
structure WindowDef where
  anchor : Nat
  channel : Nat
  level : Nat
  owner : Nat
  domain : Nat
  start : Int
  samples : Nat
  deriving DecidableEq, Repr

/-- A row of a stack that showed corrected errors: the scrub pass of the first, and whether a second pass recorded it (R287). -/
structure RowMark where
  row : Nat
  pass : Nat
  recorded : Bool := false
  deriving DecidableEq, Repr

/-- History (chapter 9). -/
structure HistSt where
  rings : List (Nat × RingDef) := []
  /-- channel → latest sample and its time in µs (R271) -/
  latest : List (Nat × (Int × Nat)) := []
  windows : List (Nat × WindowDef) := []
  /-- domain slot → step marks (generation, T), newest first (R282) -/
  marks : List (Nat × List (Nat × Nat)) := []
  /-- stack → rows that have shown corrected errors (R287) -/
  rows : List (Nat × List RowMark) := []
  /-- stack → instants of uncorrectable errors, newest first (R289) -/
  errTimes : List (Nat × List Nat) := []
  deriving DecidableEq, Repr

end Sys2Proof.Machine
end

