-- ==== Sys2Proof/Machine/StModes.lean ====
section
/-! DEFINITION. The parts of the state that chapters 1, 2, 3, 12, 17 and 18 name: module mode, authority, faults,
boot and shut-down, pins, and the converter stage with its contactors. -/

namespace Sys2Proof.Machine

/-- Module states, Table 1.6 (R22). -/
inductive Mode where
  | off | ship | boot | seed | standby | ready | shaping | hold | safe
  deriving DecidableEq, Repr

/-- The code that 0x3000:01 ModuleState reads (Table 1.6). -/
def Mode.code : Mode → Nat
  | .off => 0 | .ship => 1 | .boot => 2 | .seed => 3 | .standby => 4 | .ready => 5 | .shaping => 6 | .hold => 7 | .safe => 8

/-- One history entry of Table 17.3 (R480). -/
structure HEntry where
  time : Nat
  cls : Nat
  code : Nat
  unack : Bool
  escalated : Bool
  level : Nat
  detail : Nat
  deriving DecidableEq, Repr

/-- What the fault records of chapter 17 hold beside the dictionary objects of Tables 17.2 and 17.11. -/
structure FaultSt where
  /-- history queues by block number: at most eight entries, newest first (R480) -/
  queues : List (Nat × List HEntry) := []
  /-- unacknowledged faults, by block * 16 + class (R482, R488) -/
  unack : List (Nat × Nat) := []
  /-- block → instant + 1 of its last emergency message (R481) -/
  lastEmcy : List (Nat × Nat) := []
  /-- block under test → instant + 1 at which its test began (R580) -/
  tests : List (Nat × Nat) := []
  /-- end of escalation window 3 (R488) -/
  recoveryUntil : Nat := 0
  deriving DecidableEq, Repr

/-- Hold and re-election, R491 and R492. -/
structure HoldSt where
  /-- the state held before Hold -/
  before : Mode := .ready
  /-- t_H -/
  tH : Nat := 0
  /-- 0 no election; 1 entered; 2 eligibility exchanged; 3 winner's latch set; 4 fallback latch set -/
  phase : Nat := 0
  eligA : Bool := false
  eligB : Bool := false
  cntA : Nat := 0
  cntB : Nat := 0
  /-- cause of 0x2F00:07 byte 13 -/
  cause : Nat := 0
  /-- instants of the last Holds, newest first (R492) -/
  entries : List Nat := []
  /-- latches A and B of the authority token -/
  latchA : Bool := false
  latchB : Bool := false
  /-- since when neither latch is set (R50, R374) -/
  noneSince : Nat := 0
  /-- planned transfer in progress (R51): 0 none, 1 to half A, 2 to half B -/
  transferTo : Nat := 0
  /-- halves declared lost (R490) -/
  lostA : Bool := false
  lostB : Bool := false
  /-- bit c: cross-link channel c up, as 0x2010:03 (0 supervisor, 1 fabric, 2 array) -/
  channels : Nat := 0
  /-- the loss of the supervisor channel has been met by a Hold (fourth case of R50, DEDUCED, log entry 46) -/
  supHandled : Bool := false
  /-- since when all three channels are down (R490) -/
  silentSince : Nat := 0
  deriving DecidableEq, Repr

/-- Boot, failed starts, energising and shutting down: chapter 18. -/
structure BootSt where
  /-- stage of each half: 1 to 6, 7 past stage 6, 0 not usable (R498, R499) -/
  stageA : Nat := 1
  stageB : Nat := 1
  verifiedA : Bool := false
  verifiedB : Bool := false
  /-- instant Boot began, and the time spent in stage 3 so far (R501) -/
  since : Nat := 0
  stage3Time : Nat := 0
  stage3Since : Nat := 0
  /-- instant at which a restart after a failed start resumes at stage 2 (R503) -/
  restartAt : Option Nat := none
  /-- powered time of the last clear of the failed-start count, and the log entries made since it (R503, R505) -/
  lastClear : Nat := 0
  sinceClear : Nat := 0
  /-- block whose test failed first in this Boot (Table 18.4) -/
  firstFail : Option Nat := none
  /-- logged failed starts, newest first: powered time, cause, halves, detail (R502), nonvolatile -/
  failLog : List (Nat × Nat × Nat × Nat) := []
  /-- instant at which powered time was last brought up to date -/
  poweredMark : Nat := 0
  /-- thermal latch held in the Hazel analog domains (R473, R474) -/
  thermalLatch : Bool := false
  /-- EnergiseStep in progress began at -/
  stepSince : Nat := 0
  /-- both bus channels within 1 % of BusSetpoint since (R509) -/
  softSince : Option Nat := none
  /-- shut-down of R510 after a failed energising: 0 none, 1 strings opening, 2 ramping, waiting for the bus -/
  failStep : Nat := 0
  failSince : Nat := 0
  /-- orderly shut-down, Table 18.8: 0 none, 2 ramping, 4 strings opening and bus falling -/
  shutStep : Nat := 0
  shutSince : Nat := 0
  shutBegan : Nat := 0
  /-- supply-loss shut-down (R513): instant of detection -/
  supplyLoss : Option Nat := none
  /-- a feed came back during it (R514) -/
  feedReturned : Bool := false
  /-- its safe point has been reached at (R514) -/
  safePoint : Option Nat := none
  /-- SHELF_RST_N held low (R73) -/
  inReset : Bool := false
  /-- string whose connection sequence step 4 runs: 0 none (R508) -/
  connecting : Nat := 0
  /-- Zheud-signed firmware runs (R495) -/
  zheudFirmware : Bool := true
  /-- ship entry in progress: step of Table 14.3, 0 none -/
  shipStep : Nat := 0
  shipSince : Nat := 0
  deriving DecidableEq, Repr

/-- Pins and board inputs, chapter 3. -/
structure PinSt where
  feedA : Bool := true
  feedB : Bool := true
  /-- COOLANT_IL_N low for 100 ms (R31) -/
  coolantSeated : Bool := false
  protTripLow : Bool := false
  ibcAlertLow : Bool := false
  wakeLatch : Bool := false
  /-- GD_FLT_Nb low, bit b -/
  gdFaultLow : Nat := 0
  /-- GDENb asserted, bit b (R60) -/
  gden : Nat := 0
  /-- input relay open (R430) -/
  relayOpen : Bool := false
  /-- ALIVE pins: running, level, last edge (R68) -/
  aliveOnA : Bool := false
  aliveOnB : Bool := false
  aliveA : Bool := false
  aliveB : Bool := false
  edgeA : Nat := 0
  edgeB : Nat := 0
  /-- control ticks seen in the present ALIVE level (Table 17.6) -/
  ticksA : Nat := 0
  ticksB : Nat := 0
  /-- SD_CLK source: 0 Hazel A, 1 Hazel B (R62) -/
  sdClk : Nat := 0
  /-- cages J10, J11: 0 empty or unread, 1 operated, 2 refused (R77) -/
  cage0 : Nat := 0
  cage1 : Nat := 0
  /-- module's own copy of the discrete inputs before the 100 µs refresh is not kept: DiscreteInputs is an object -/
  oscA : Bool := true
  oscB : Bool := true
  deriving DecidableEq, Repr

/-- StringConnection of Table 12.6. -/
inductive Conn where
  | opened | precharging | connected | opening | lockedOut
  deriving DecidableEq, Repr

/-- Code of 0x2A20+s:02. -/
def Conn.code : Conn → Nat
  | .opened => 0 | .precharging => 1 | .connected => 2 | .opening => 3 | .lockedOut => 4

/-- One string's contactors and sequences (R367 to R373). -/
structure StringSt where
  conn : Conn := .opened
  negDrive : Bool := false
  posDrive : Bool := false
  preDrive : Bool := false
  negFb : Bool := false
  posFb : Bool := false
  preFb : Bool := false
  /-- connection step of R368: 0 none, 2 KsNEG closing, 3 KsPRE closing, 4 precharge, 5 KsPOS closing -/
  step : Nat := 0
  stepSince : Nat := 0
  /-- precharge time zero: KsPRE feedback closed -/
  preSince : Nat := 0
  /-- a match has been recorded (R369) -/
  matched : Bool := false
  check1Done : Bool := false
  check2Done : Bool := false
  /-- opening of R371: 0 none, 1 waiting for the break current, 2 KsPOS and KsPRE opening, 3 KsNEG opening -/
  openStep : Nat := 0
  openSince : Nat := 0
  /-- the opening ends in LockedOut with this cause, 0 otherwise (R373) -/
  lockCause : Nat := 0
  /-- the opening follows the failure of a connection with this cause -/
  failCause : Nat := 0
  /-- the phases of the string are held idle (R371 step 1, Table 12.1) -/
  idle : Bool := true
  deriving DecidableEq, Repr

/-- One converter phase: PWM channel and protection (R350 to R366). -/
structure PhaseSt where
  active : Bool := false
  shed : Bool := false
  faulted : Bool := false
  activeSince : Nat := 0
  /-- re-added at its next valley (R359) -/
  readd : Bool := false
  /-- to go idle at its next valley (R358) -/
  shedNext : Bool := false
  /-- compare value written, and compare value and PR loaded at the last valley or peak (R352) -/
  cmpNew : Nat := 0
  cmp : Nat := 0
  /-- compare counts C of R351 after the minimum pulse rule of R353 -/
  counts : Nat := 0
  pr : Nat := 4000
  lag : Nat := 0
  /-- periods counted, the index into the PR sequence (R356) -/
  period : Nat := 0
  /-- cut in the present half-period; in the present period; consecutive cut periods (Table 12.1) -/
  cut : Bool := false
  cutPeriod : Bool := false
  cutRun : Nat := 0
  /-- the gate cut is the high side -/
  cutHigh : Bool := false
  deriving DecidableEq, Repr

/-- The converter stage (chapter 12). -/
structure ConvSt where
  str1 : StringSt := {}
  str2 : StringSt := {}
  phases : List (Nat × PhaseSt) := []
  /-- under-voltage comparison armed (R364) -/
  uvArmed : Bool := false
  /-- bit c: stream c faulted (R363) -/
  streamFault : Nat := 0
  /-- valleys of the string's first active phase at which the clamp condition held (R365) -/
  clampRun1 : Nat := 0
  clampRun2 : Nat := 0
  clampHeld : Bool := false
  /-- shed condition of strings 1, 2 has held since (R358) -/
  shedSince1 : Option Nat := none
  shedSince2 : Option Nat := none
  /-- clamp registers in the security block (R323, R366) -/
  pclampMax : Nat := 480000
  pclampCont : Nat := 360000
  /-- the same pair for charging (R421) -/
  pchargeMax : Nat := 480000
  pchargeCont : Nat := 360000
  /-- decimator windows to bridge still: control filter outputs (R362) -/
  bridge : Nat := 0
  /-- multiplexer: 0 idle, 1 Hazel A, 2 Hazel B (R374) -/
  mux : Nat := 0
  /-- GDEN to assert at the first common valley (R375, R508) -/
  gdenAtValley : Bool := false
  deriving DecidableEq, Repr

end Sys2Proof.Machine
end

