-- ==== Sys2Proof/Machine/StPower.lean ====
section
/-! DEFINITION. The parts of the state that chapters 15 and 16 name: rails, operating points, throttles, energy accounts,
temperature channels. -/

namespace Sys2Proof.Machine

/-- One rail (R437 to R445); its RailState, target code and phase count are objects. -/
structure RailSt where
  /-- instants of hiccups, newest first (R444) -/
  hiccups : List Nat := []
  retryAt : Option Nat := none
  powerGood : Bool := false
  /-- consecutive updates at a clamp, and the calibration factor k (R454) -/
  clamped : Nat := 0
  factor : Rat := 1
  /-- measured output power of the last 1 ms, mW; raw estimates since the last calibration, mW, and how many (R454) -/
  measured : Nat := 0
  estSum : Nat := 0
  estN : Nat := 0
  /-- turned off under Table 15.2 and not yet at power-good again (R445) -/
  recovering : Bool := false
  deriving DecidableEq, Repr

/-- One die's operating point (R446 to R453). -/
structure DiePt where
  /-- point in force for the clock, and point whose change is in progress -/
  target : Nat := 2
  /-- calibrated estimates of the present energy interval, mW per evaluation -/
  acc : Nat := 0
  /-- a slower computed point has stood since + 1 (R448) -/
  slowSince : Nat := 0
  slowTo : Nat := 0
  /-- floors of reasons 1, 2, 3 and 5; 0 is none -/
  thermalFloor : Nat := 0
  thermalOn : Bool := false
  lastThrottle : Nat := 0
  lastRelax : Nat := 0
  movedRound : Nat := 0
  railFloor : Nat := 0
  railOn : Bool := false
  railLow : Option Nat := none
  recoveryUntil : Nat := 0
  deriving DecidableEq, Repr

/-- One temperature channel (R466 to R468). -/
structure ChanSt where
  /-- previous reading, and that it was open or short -/
  prev : Option Int := none
  prevOpen : Bool := false
  brokenRun : Nat := 0
  goodRun : Nat := 0
  broken : Bool := false
  /-- code of its break: 1 open, 2 short, 3 step or fault -/
  code : Nat := 0
  limitRun : Nat := 0
  warn : Bool := false
  throttle : Bool := false
  /-- last valid value -/
  value : Int := 0
  valid : Bool := false
  deriving DecidableEq, Repr

/-- Package power and temperature (chapters 15 and 16). -/
structure PowerSt where
  rails : List (Nat × RailSt) := []
  dies : List (Nat × DiePt) := []
  /-- domains whose on request waits for a prerequisite (R39), and domain → instant + 1 and kind of its last request: 1 on, 2 off,
  3 off by a fault (R41) -/
  want : List Nat := []
  reqs : List (Nat × (Nat × Nat)) := []
  /-- IBC_ALERT_N low since + 1; hold of reason 0 ends at (R451) -/
  alertLow : Nat := 0
  alertOn : Bool := false
  holdUntil : Nat := 0
  /-- fraction of a µs of AlertTime not yet counted, ns -/
  alertRest : Nat := 0
  /-- floor of reason 1; last comparison that made it faster (R452) -/
  limitFloor : Nat := 0
  limitOn : Bool := false
  limitRelax : Nat := 0
  /-- last evaluation instants -/
  lastPoint : Nat := 0
  /-- estimates of the last 100 µs, W, newest first -/
  estHist : List Nat := []
  /-- interval accumulators of R456: rack load, discharge and charge power summed over control ticks, W; ticks -/
  rackSum : Int := 0
  disSum : Int := 0
  chgSum : Int := 0
  ticks : Nat := 0
  /-- energies not yet whole mJ, µJ: rack, discharge, charge; package estimates of the present interval, mW per evaluation -/
  rackRest : Nat := 0
  disRest : Nat := 0
  chgRest : Nat := 0
  pkgAcc : Nat := 0
  /-- tenant slot → running weights summed over control ticks, W -/
  wSum : List (Nat × Nat) := []
  /-- endpoint → tenant slot and weight, released and not yet arrived at its next episode (R456) -/
  running : List (Nat × (Nat × Nat)) := []
  /-- tenant slot → instant of its last wave + 1 (R457) -/
  lastWave : List (Nat × Nat) := []
  /-- tenant slots opened in the present interval (Table 15.7) -/
  opened : List Nat := []
  chans : List (Nat × ChanSt) := []
  /-- rounds in which the flow estimate was below the limit; flow throttle on (R472) -/
  flowRuns : Nat := 0
  flowOn : Bool := false
  /-- operating conditions of R569: any outside since + 1; all inside since + 1; bit cleared -/
  outsideSince : Nat := 0
  insideSince : Nat := 0
  outside : Bool := false
  deriving DecidableEq, Repr

end Sys2Proof.Machine
end

