-- ==== Sys2Proof/Machine/StStack.lean ====
section
/-! DEFINITION. The parts of the state that chapters 13 and 14 name: stack rings, released cell values, balancing, estimator,
calibration, persistent state. -/

namespace Sys2Proof.Machine

/-- A ring command waiting or outstanding (R384, R386, R397). -/
structure RCmd where
  op : Nat
  /-- 1 to 18, 255 broadcast, 0 Enumerate -/
  addr : Nat
  payload : List Nat
  /-- origin port B -/
  fromB : Bool := false
  counter : Nat := 0
  /-- transmissions so far -/
  tries : Nat := 0
  sentAt : Nat := 0
  /-- a bad CRC, a wrong Counter or Opcode has been seen in a response -/
  sawCrc : Bool := false
  sawMismatch : Bool := false
  deriving DecidableEq, Repr

/-- One measurement as the module knows it (R388, R406, R408). -/
structure Meas where
  id : Nat := 0
  start : Nat := 0
  stop : Nat := 0
  /-- the open-wire phase was asked for -/
  openWire : Bool := false
  centred : Bool := false
  /-- charge counter at the window's centre, nC; sum, count, least and greatest of the current in the window, mA -/
  qCentre : Int := 0
  iSum : Int := 0
  iN : Nat := 0
  iMin : Int := 0
  iMax : Int := 0
  /-- sum and count of the current from the centre of the previous window (Ibar) -/
  barSum : Int := 0
  barN : Nat := 0
  deriving DecidableEq, Repr

/-- ReadCells result of a slice kept until it is released or withdrawn (R391, R392). -/
structure CellRead where
  id : Nat
  /-- window complete, Status Ok -/
  ok : Bool
  cells : List Nat
  /-- bit g: group g agrees -/
  agree : Nat
  openWires : Nat
  /-- the open-wire phase ran -/
  ran : Bool
  meas : Meas
  deriving DecidableEq, Repr

/-- One stack ring (chapter 13). Its mode is the object RingMode. -/
structure RingSt where
  counter : Nat := 0
  queue : List RCmd := []
  out : Option RCmd := none
  measId : Nat := 255
  meas : Meas := {}
  prevMeas : Meas := {}
  /-- accumulation of Ibar since the centre of the last window -/
  barSum : Int := 0
  barN : Nat := 0
  /-- address → last ReadCells result -/
  reads : List (Nat × CellRead) := []
  /-- last addresses reached from A and from B -/
  reachA : Nat := 0
  reachB : Nat := 0
  /-- enumerations that have not yet returned -/
  enumerating : Bool := false
  /-- the ring carries the last frame sent until this instant; start of the last measurement cycle (R386, R400) -/
  busyUntil : Nat := 0
  cycleAt : Option Nat := none
  /-- address → instant + 1 of its last ReadStatus (R406) -/
  statusAt : List (Nat × Nat) := []
  /-- instants of the last link pulses that ports A and B sent (R380) -/
  pulseA : Nat := 0
  pulseB : Nat := 0
  /-- stack measurement fault stands; instant of the last reconnection attempt + 1; all cells released since + 1 (R395) -/
  measFault : Bool := false
  lastAttempt : Nat := 0
  releasedSince : Nat := 0
  /-- released values since the last balance interval: cell → sum of u in 0.1 mV, count (R402) -/
  uSum : List (Nat × (Rat × Nat)) := []
  /-- frames discarded under R8 -/
  discards : Nat := 0
  /-- Sleep sent for ship entry -/
  asleep : Bool := false
  deriving DecidableEq, Repr

/-- A cell's last released value: 0.1 mV and the centre of its window, ns. -/
structure CellRel where
  value : Nat := 0
  centre : Nat := 0
  valid : Bool := false
  deriving DecidableEq, Repr

/-- The estimator's state for one cell, in binary32 held as exact fractions (R407, R413, R415). -/
structure EstCell where
  soc : Rat := 0
  /-- restored or initialised (R416) -/
  known : Bool := false
  theta : List Rat := []
  p : List Rat := []
  /-- polarisation voltage, V -/
  pol : Rat := 0
  zPrev : Rat := 0
  iPrev : Rat := 0
  /-- measurement id of the last released value + 1; updates still to run after an excitation; excitation events -/
  lastId : Nat := 0
  left : Nat := 0
  events : Nat := 0
  /-- Rs at the last 16 events, newest first, Ω -/
  rsHist : List Rat := []
  converged : Bool := false
  rs : Rat := 0
  rp : Rat := 0
  tau : Rat := 0
  /-- charge counter at which soc was last brought up to date, nC; instant + 1 up to which balancing charge is in it (R408) -/
  qMark : Int := 0
  balMark : Nat := 0
  deriving DecidableEq, Repr

/-- The estimator's state for one string. -/
structure EstString where
  /-- q_s in nC (R408) -/
  q : Int := 0
  /-- at rest since + 1 (R415) -/
  restSince : Nat := 0
  /-- sum and count of |I| in the present second, and the means of the last 60 s, newest first, mA (R406) -/
  secSum : Int := 0
  secN : Nat := 0
  means : List Int := []
  /-- sum and count of the signed current in the last 100 ms (R419) -/
  repSum : Int := 0
  repN : Nat := 0
  /-- estimate and capacity as exact fractions (R417) -/
  soc : Rat := 0
  cap : Rat := 0
  /-- reported value in 0.01 % with its fraction (R419) -/
  reported : Rat := 0
  /-- discharged and charged throughput not yet whole mAh, nC -/
  disRest : Nat := 0
  chgRest : Nat := 0
  /-- hottest and coldest cell temperature, 0.1 °C -/
  tMax : Option Int := none
  tMin : Option Int := none
  deriving DecidableEq, Repr

/-- A calibration in progress (R424 to R427). -/
structure CalSt where
  string : Nat := 0
  phase : Nat := 0
  began : Nat := 0
  phaseSince : Nat := 0
  /-- time of Hold to be left out of the phase (R427) -/
  heldSince : Option Nat := none
  heldTime : Nat := 0
  /-- cell → sum of ocvest in V, count -/
  sums : List (Nat × (Rat × Nat)) := []
  sFull : List (Nat × Rat) := []
  sEmpty : List (Nat × Rat) := []
  /-- the centre of the endpoint phase has passed; charge counter at the centres of phases 2 and 4 -/
  centred : Bool := false
  q2 : Int := 0
  q4 : Int := 0
  deriving DecidableEq, Repr

/-- A copy of the persistent state (R429): sequence number, per cell, and the lifetime and reported objects. -/
structure PersistSt where
  seq : Nat := 0
  cells : List (Nat × EstCell) := []
  caps : List (Nat × List Nat) := []
  objs : List (Nat × Int) := []
  blobs : List (Nat × List Nat) := []
  reported1 : Rat := 0
  reported2 : Rat := 0
  deriving DecidableEq, Repr

/-- Stack monitoring and estimation (chapters 13 and 14). -/
structure StackSt where
  ring1 : RingSt := {}
  ring2 : RingSt := {}
  /-- string * 288 + cell, strings 0 and 1 -/
  cells : List (Nat × CellRel) := []
  est : List (Nat × EstCell) := []
  str1 : EstString := {}
  str2 : EstString := {}
  cal : CalSt := {}
  /-- the two nonvolatile copies, and the half written last (R429) -/
  persistA : Option PersistSt := none
  persistB : Option PersistSt := none
  /-- powered time of the last write; of the last second counted -/
  lastPersist : Nat := 0
  /-- released values that wait for the estimator: cell key, measurement -/
  pendingEst : List (Nat × CellRead) := []
  deriving DecidableEq, Repr

end Sys2Proof.Machine
end

