-- ==== Sys2Proof/Machine/State.lean ====
section
/-! DEFINITION. The state of the module as plain data, its faults and refusals, and the state after reset. -/

namespace Sys2Proof.Machine

/-- What stops the model. No command of the table does: every fault of the module is an effect on its state (chapter 17). -/
inductive Fault where
  /-- Raised by nothing in this model: kept so that a stop has a name of its own. Safe: it only stops. -/
  | impossible
  deriving DecidableEq, Repr

/-- What the model refuses. -/
inductive Refusal where
  /-- Raised by the dispatch for a command without a meaning. Safe: it only stops. -/
  | notModelled (mnemonic : String)
  deriving DecidableEq, Repr

/-- What the module sends out, in the order sent (newest first in State.out). -/
inductive Output where
  /-- CoE emergency message: its eight bytes (R481) -/
  | emergency (bytes : List Nat)
  /-- set-point frame on bus 0 A or 1 B (R329) -/
  | canFrame (bus : Nat) (bytes : List Nat)
  /-- Brucel frame on a lane, with destination and source address and EtherType (R82, R83) -/
  | brucel (lane dst src etherType : Nat) (f : Frame)
  /-- stack ring frame of string 0 or 1 from port A or B (R382) -/
  | ringFrame (string : Nat) (fromB : Bool) (bytes : List Nat)
  /-- link pulse (R380) -/
  | linkPulse (string : Nat) (fromB : Bool)
  /-- answer to a dictionary access: SDO abort code, or 0; index * 256 + subindex named -/
  | answer (abort : Nat) (key : Nat)
  /-- value read -/
  | value (bytes : List Nat)
  /-- FoE: error code 0 for an acknowledgement, and the refusal code of the text field -/
  | foe (error : Nat) (text : List Nat)
  /-- FoE data read -/
  | foeData (bytes : List Nat)
  /-- SDO information: object keys with access bits (bit 0 read, bit 1 write) -/
  | sdoInfo (entries : List (Nat × Nat))
  /-- AL status code of a refused or forced EtherCAT state change -/
  | alStatus (code : Nat)
  /-- an interrupt line of a block asserted (R486, R487) -/
  | interrupt (block : Nat)
  /-- TAP data register shifted out -/
  | tap (bits : List Nat)
  deriving DecidableEq, Repr

/-- The module. -/
structure State where
  /-- commands that wait, first in, first out -/
  pending : List Instr := []
  /-- instant reached, ns -/
  now : Nat := 0
  /-- numeric objects of the dictionary that differ from their defaults, by key index * 256 + subindex -/
  objs : List (Nat × Int) := []
  /-- byte-string and DOMAIN objects that differ from their defaults -/
  blobs : List (Nat × List Nat) := []
  mode : Mode := .boot
  flt : FaultSt := {}
  hold : HoldSt := {}
  boot : BootSt := {}
  pins : PinSt := {}
  conv : ConvSt := {}
  eng : EngSt := {}
  fc : FcSt := {}
  fab : FabricSt := {}
  pool : PoolSt := {}
  pecan : PecanSt := {}
  hist : HistSt := {}
  stack : StackSt := {}
  pow : PowerSt := {}
  dict : DictSt := {}
  /-- model's own: draws of free values so far -/
  freeCtr : Nat := 0
  /-- what the module has sent, newest first -/
  out : List Output := []
  deriving DecidableEq, Repr

/-- The machine right after reset: Boot has just begun after a power-up, every object at its default, every store empty. -/
def State.reset : State := {}

end Sys2Proof.Machine
end

