-- ==== Sys2Proof/Machine/Ops.lean ====
section
/-! DEFINITION. The operations every family shares: reading and writing dictionary values, time, output, and the views of the
state that many chapters name. -/

namespace Sys2Proof.Machine

/-- What a command answers. -/
abbrev Res := Host.Outcome State Fault Refusal

/-- One microsecond, millisecond and second in ns. -/
abbrev us : Nat := 1000
abbrev ms : Nat := 1000000
abbrev sec : Nat := 1000000000

/-- Index of a half: 0 A, 1 B. -/
def halfIdx : Half → Nat
  | .a => 0
  | .b => 1

/-- The other half. -/
def otherHalf : Half → Half
  | .a => .b
  | .b => .a

/-- The half of index 0 or 1. -/
def halfOf (n : Nat) : Half := if n = 0 then .a else .b

/-! Dictionary values -/

/-- Role of channel `c` (Tables 16.1 and 16.2): 3 Pecan die, 4 stack, 5 fabric die, 6 Hazel; external channels are general. -/
def chanRole (c : Nat) : Nat := if c < 32 then 0 else if c < 48 then 3 else if c < 56 then 4 else if c < 60 then 5 else 6

/-- Default neighbours of channel `c`, second * 256 + first, 255 for none (Table 16.1). -/
def chanNeighbours (c : Nat) : Nat :=
  if c < 16 then 0xFF00 + (c + 16) else if c < 32 then 0xFF00 + (c - 16)
  else if 48 ≤ c ∧ c < 56 then
    let n := (c - 48) % 4
    if n = 0 then 0xFF00 + (c + 1) else if n = 3 then 0xFF00 + (c - 1) else (c + 1) * 256 + (c - 1)
  else 0xFF00 + (if c % 2 = 0 then c + 1 else c - 1)

/-- Warn, throttle and shut-down limits of a Role (Table 16.2), 0.1 °C. -/
def roleLimits (role : Nat) : Int × Int × Int :=
  match role with
  | 0 => (700, 0x7FFF, 850)
  | 1 => (350, 380, 450)
  | 2 => (500, 550, 600)
  | 3 => (950, 1000, 1150)
  | 4 => (850, 900, 950)
  | 5 => (950, 1000, 1150)
  | _ => (1000, 0x7FFF, 1200)

/-- Default of subindex `sub` of channel `c` where Table 16.1 or 16.2 gives it. -/
def thermalDefault (c sub : Nat) : Option Int :=
  match sub with
  | 1 => some (if c < 32 then 0 else 3)
  | 2 => some (chanRole c)
  | 5 => some (roleLimits (chanRole c)).1
  | 6 => some (roleLimits (chanRole c)).2.1
  | 7 => some (roleLimits (chanRole c)).2.2
  | 9 => some (chanNeighbours c)
  | _ => none

/-- Width in bits of a numeric object. -/
def objBits (idx sub : Nat) : Nat :=
  match descOf idx sub with
  | some r => match r.ty with
    | .num b _ => b
    | .oct n => 8 * n
    | .dom _ => 0
  | none => 0

/-- Mapping entry of Table 19.6: index, subindex, bits. -/
def mapEntry (idx sub : Nat) : Nat := idx * 65536 + sub * 256 + objBits idx sub

/-- Default PDO mappings and assignments (Table 19.10). -/
def pdoDefault (idx sub : Nat) : Option Int :=
  if sub = 0 then
    some (if idx = 0x1600 then 6 else if idx = 0x1A00 then 14 else if idx = 0x1A01 then 10
      else if idx = 0x1C12 then 1 else if idx = 0x1C13 then 2 else 0)
  else if idx = 0x1A00 ∧ sub ≤ 14 then some (mapEntry 0x6000 sub)
  else if idx = 0x1A01 ∧ sub ≤ 10 then some (mapEntry 0x6000 (sub + 14))
  else if idx = 0x1600 ∧ sub ≤ 6 then some (mapEntry 0x7000 sub)
  else if idx = 0x1C12 then some (if sub = 1 then 0x1600 else 0)
  else if idx = 0x1C13 then some (if sub = 1 then 0x1A00 else if sub = 2 then 0x1A01 else 0)
  else none

/-- Defaults that a table gives by a rule over the index, not by a constant: instance kinds (R314), sync manager types (Table
19.8), thermal channels (Table 16.2), rail phase limits (Table 15.8), PDO mappings (R537). -/
def ruleDefault (idx sub : Nat) : Option Int :=
  if 0x2940 ≤ idx ∧ idx ≤ 0x297F ∧ sub = 1 then
    some (if idx = 0x2940 then 2 else if idx ≤ 0x2940 + 48 then 1 else 0)
  else if idx = 0x1C00 then some sub
  else if 0x2E40 ≤ idx ∧ idx ≤ 0x2E7F then thermalDefault (idx - 0x2E40) sub
  else if 0x2D20 ≤ idx ∧ idx ≤ 0x2D2F ∧ sub = 6 then
    some (([30000, 30000, 30000, 30000, 20000, 30000, 20000, 35000] : List Int).getD ((idx - 0x2D20) % 8) 0)
  else pdoDefault idx sub

/-- The default of a numeric object. -/
def objDefault (k : Nat) : Int :=
  match ruleDefault (k / 256) (k % 256) with
  | some v => v
  | none =>
    match descOf (k / 256) (k % 256) with
    | some r => r.dflt
    | none => 0

/-- The default of a byte string: zeros of its length; a DOMAIN is empty. -/
def blobDefault (k : Nat) : List Nat :=
  match descOf (k / 256) (k % 256) with
  | some r => match r.ty with
    | .oct n => List.replicate n 0
    | _ => []
  | none => []

/-- Stored value of a numeric object. -/
def State.num (s : State) (k : Nat) : Int := smGet objDefault s.objs k

/-- Stored value of an unsigned object. -/
def State.nat (s : State) (k : Nat) : Nat := (s.num k).toNat

/-- Store a numeric object. -/
def State.setNum (s : State) (k : Nat) (v : Int) : State := { s with objs := smSet objDefault s.objs k v }

/-- Store an unsigned object. -/
def State.setNat (s : State) (k v : Nat) : State := s.setNum k (v : Int)

/-- Add to a 32-bit counter, which wraps to 0. -/
def State.count (s : State) (k : Nat) (n : Nat := 1) : State := s.setNat k ((s.nat k + n) % 2 ^ 32)

/-- Add to a 64-bit counter, which wraps to 0. -/
def State.count64 (s : State) (k : Nat) (n : Nat := 1) : State := s.setNat k ((s.nat k + n) % 2 ^ 64)

/-- Stored bytes of an object. -/
def State.blob (s : State) (k : Nat) : List Nat := smGet blobDefault s.blobs k

/-- Store the bytes of an object. -/
def State.setBlob (s : State) (k : Nat) (v : List Nat) : State := { s with blobs := smSet blobDefault s.blobs k v }

/-! Time, output, free values -/

/-- Time goes on to `t`; it never runs back. -/
def State.at (s : State) (t : Nat) : State := { s with now := max s.now t }

/-- Send something out of the module. -/
def State.emit (s : State) (o : Output) : State := { s with out := o :: s.out }

/-- Take the next draw of a free value. -/
def State.draw (s : State) : Nat × State := (s.freeCtr, { s with freeCtr := s.freeCtr + 1 })

/-- Hall time now, ns (R118, R119). -/
def State.hall (s : State) : Nat := ((s.now : Int) + s.fab.htOffset).toNat

/-- Seconds of powered time (0x3000:09 of Table 18.14). -/
def State.powered (s : State) : Nat := s.nat Obj.poweredTime + (s.now - s.boot.poweredMark) / sec

/-- Fold a state change over a list. -/
def State.forEach {α : Type} (s : State) (l : List α) (f : State → α → State) : State := l.foldl f s

/-! Products and strings -/

/-- The ordering code S2: two strings (R2). -/
def State.isS2 (s : State) : Bool := s.nat Obj.orderingCode = 2

/-- The operated strings, by index 0 and 1 (R2). -/
def State.operated (s : State) : List Nat := if s.isS2 then [0, 1] else [0]

/-- The contactors and sequences of string `k` (0 or 1). -/
def State.str (s : State) (k : Nat) : StringSt := if k = 0 then s.conv.str1 else s.conv.str2

/-- Replace those of string `k`. -/
def State.setStr (s : State) (k : Nat) (v : StringSt) : State :=
  if k = 0 then { s with conv := { s.conv with str1 := v } } else { s with conv := { s.conv with str2 := v } }

/-- One converter phase. -/
def State.phase (s : State) (n : Nat) : PhaseSt := smGet (fun _ => {}) s.conv.phases n

/-- Replace one phase. -/
def State.setPhase (s : State) (n : Nat) (p : PhaseSt) : State :=
  { s with conv := { s.conv with phases := smSet (fun _ => {}) s.conv.phases n p } }

/-- The string that phase `n` serves: board n div 8 by BoardString (R357). -/
def State.phaseString (s : State) (n : Nat) : Nat := if bitOf (s.nat Obj.boardString) (n / 8) then 1 else 0

/-- The phases of string `k`, ascending. -/
def State.phasesOf (s : State) (k : Nat) : List Nat := (List.range 48).filter (fun n => s.phaseString n = k)

/-- The active phases of string `k`, ascending. -/
def State.activeOf (s : State) (k : Nat) : List Nat := (s.phasesOf k).filter (fun n => (s.phase n).active)

/-- The ring of string `k`. -/
def State.ring (s : State) (k : Nat) : RingSt := if k = 0 then s.stack.ring1 else s.stack.ring2

/-- Replace the ring of string `k`. -/
def State.setRing (s : State) (k : Nat) (r : RingSt) : State :=
  if k = 0 then { s with stack := { s.stack with ring1 := r } } else { s with stack := { s.stack with ring2 := r } }

/-- The estimator's string state. -/
def State.estStr (s : State) (k : Nat) : EstString := if k = 0 then s.stack.str1 else s.stack.str2

/-- Replace the estimator's string state. -/
def State.setEstStr (s : State) (k : Nat) (e : EstString) : State :=
  if k = 0 then { s with stack := { s.stack with str1 := e } } else { s with stack := { s.stack with str2 := e } }

/-- A CAN FD bus, 0 A or 1 B. -/
def State.bus (s : State) (b : Nat) : BusSt := if b = 0 then s.eng.busA else s.eng.busB

/-- Replace a CAN FD bus. -/
def State.setBus (s : State) (b : Nat) (v : BusSt) : State :=
  if b = 0 then { s with eng := { s.eng with busA := v } } else { s with eng := { s.eng with busB := v } }

/-! Halves, authority, health -/

/-- A half has been declared lost (R490) or has reacted at half level (R484): its blocks read 3. -/
def State.reacted (s : State) (h : Nat) : Bool := s.nat (Obj.blockState (97 * h)) = 3

/-- A half has been declared lost (R490). -/
def State.lost (s : State) (h : Nat) : Bool := if h = 0 then s.hold.lostA else s.hold.lostB

/-- Block local number `l` of half `h` is in its safe state, or under the test that may return it. -/
def State.blockSafe (s : State) (h l : Nat) : Bool :=
  let v := s.nat (Obj.blockState (97 * h + l))
  v = 2 ∨ v = 4

/-- An authority-critical block of Table 17.5 is in its safe state: locals 0 to 3. -/
def State.critSafe (s : State) (h : Nat) : Bool := (List.range 4).any (s.blockSafe h)

/-- Supervisor channel of the cross-link up. -/
def State.supUp (s : State) : Bool := bitOf s.hold.channels 0

/-- Healthy under R485. -/
def State.healthy (s : State) (h : Nat) : Bool :=
  !s.lost h && !s.reacted h && !s.critSafe h && (h = 0 || s.lost 0 || s.supUp)

/-- Health without the supervisor-channel clause (fourth case of R50). -/
def State.healthyNoSup (s : State) (h : Nat) : Bool := !s.lost h && !s.reacted h && !s.critSafe h

/-- The half that holds authority: exactly its latch set; 0 none, 1 A, 2 B. -/
def State.holder (s : State) : Nat :=
  if s.hold.latchA && !s.hold.latchB then 1 else if s.hold.latchB && !s.hold.latchA then 2 else 0

/-- The half that works a function that both halves work: the holder, or A (R478); the survivor of a lost half. -/
def State.workHalf (s : State) : Nat :=
  if s.holder = 2 then 1 else if s.holder = 1 then 0 else if s.lost 0 || s.reacted 0 then 1 else 0

/-- Block number of local block `l` in the half that works it (R478). -/
def State.block (s : State) (l : Nat) : Nat := 97 * s.workHalf + l

/-- HalfState of Table 2.8: 1 booting, 2 healthy, 3 degraded, 4 lost. -/
def State.halfState (s : State) (h : Nat) : Nat :=
  if s.lost h || s.reacted h then 4
  else if s.mode = .boot then 1
  else if s.healthy h && (List.range 97).all (fun l => !s.blockSafe h l) then 2 else 3

/-- Half's unacknowledged count (R482). -/
def State.unackOf (s : State) (h : Nat) : Nat :=
  sumN ((List.range 97).map (fun l => s.nat (Obj.unacknowledged (97 * h + l))))

/-- EtherCAT ports owned by F1: half A lost or unusable, or the EtherCAT block of F0 in its safe state (R44, Table 17.5). -/
def State.escB (s : State) : Bool := s.lost 0 || s.reacted 0 || s.blockSafe 0 19

/-- Ramp fidelity is judged (R18). -/
def State.fidelityModes (s : State) : Bool := s.mode = .ready || s.mode = .shaping || s.mode = .hold

/-- Standby's energising sequence runs: EnergiseStep is not 0. -/
def State.energising (s : State) : Bool := s.mode = .standby && s.nat Obj.energiseStep != 0

/-- The bus is de-energised: every channel without a stream fault below DeenergiseLevel; energised while both are faulted (R578). -/
def State.busDown (s : State) : Bool :=
  let f := fun c => bitOf s.conv.streamFault c
  let low := fun c => decide (s.num (Obj.value c) < s.num Obj.deenergiseLevel)
  !(f 52 && f 53) && (f 52 || low 52) && (f 53 || low 53)

/-- The generators switch and the protections act: R350 and the head of chapter 12. -/
def State.pwmLive (s : State) : Bool :=
  s.mode = .ready || s.mode = .shaping || s.mode = .hold ||
  (s.mode = .standby && (s.energising || s.boot.failStep != 0)) ||
  (s.mode = .safe && !s.busDown)

end Sys2Proof.Machine
end

