-- ==== Sys2Proof/Machine/FabricOps.lean ====
section
/-! DEFINITION. Lanes, hall topology, flows and return frames: the shared operations of spec/04_brucel_fabric.md. -/

namespace Sys2Proof.Machine

/-- Brucel opcodes of Table 4.4. -/
abbrev opLinkInit : Nat := 0x00
abbrev opLinkCredit : Nat := 0x01
abbrev opTimeSync : Nat := 0x02
abbrev opTimeSyncReply : Nat := 0x03
abbrev opAck : Nat := 0x08
abbrev opFlowReset : Nat := 0x09
abbrev opRead : Nat := 0x10
abbrev opReadResponse : Nat := 0x11
abbrev opWrite : Nat := 0x12
abbrev opWriteResponse : Nat := 0x13
abbrev opWriteIfEmptyFill : Nat := 0x20
abbrev opConsume : Nat := 0x21
abbrev opReadLeaveFull : Nat := 0x22
abbrev opForcedWrite : Nat := 0x23
abbrev opFetchAdd : Nat := 0x24
abbrev opCompareSwap : Nat := 0x25
abbrev opSyncResponse : Nat := 0x26
abbrev opArrive : Nat := 0x30
abbrev opRelease : Nat := 0x31
abbrev opWatchRegister : Nat := 0x32
abbrev opWatchCancel : Nat := 0x33
abbrev opWatchMessage : Nat := 0x34

/-- Result codes of Table 4.6. -/
abbrev rsOk : Nat := 0x00
abbrev rsAddressReserved : Nat := 0x01
abbrev rsRouteDown : Nat := 0x02
abbrev rsOffsetOutOfRange : Nat := 0x03
abbrev rsTenantDenied : Nat := 0x04
abbrev rsRoleDenied : Nat := 0x05
abbrev rsOpcodeNotPermitted : Nat := 0x06
abbrev rsMisaligned : Nat := 0x07
abbrev rsLengthInvalid : Nat := 0x08
abbrev rsTargetLost : Nat := 0x09
abbrev rsBusy : Nat := 0x0A
abbrev rsStateRefused : Nat := 0x0B
abbrev rsSignalRejected : Nat := 0x0C
abbrev rsTransferInvalid : Nat := 0x0D
abbrev rsSourceInvalid : Nat := 0x0E
abbrev rsFlowReset : Nat := 0x0F

/-- A request is one of Table 4.4's class Request. -/
def isRequest (op : Nat) : Bool :=
  op = opRead || op = opWrite || (opWriteIfEmptyFill ≤ op && op ≤ opCompareSwap) || op = opArrive || op = opWatchRegister || op = opWatchCancel

/-- A return frame of Table 4.4. -/
def isReturn (op : Nat) : Bool :=
  op = opReadResponse || op = opWriteResponse || op = opSyncResponse || op = opRelease || op = opWatchMessage

/-- Link frames 0x00 to 0x03. -/
def isLinkOp (op : Nat) : Bool := op ≤ 3

/-- Flow frames. -/
def isFlowOp (op : Nat) : Bool := op = opAck || op = opFlowReset

/-- The request is answered under R86: Reads and VC0 requests always, Writes when they ask. -/
def isAnswered (f : Frame) : Bool :=
  isRequest f.op && (f.op != opWrite || f.respReq)

/-! Lanes -/

/-- Lane `n`. -/
def State.lane (s : State) (n : Nat) : LaneSt := smGet (fun _ => {}) s.fab.lanes n

/-- Replace lane `n`. -/
def State.setLane (s : State) (n : Nat) (l : LaneSt) : State :=
  { s with fab := { s.fab with lanes := smSet (fun _ => {}) s.fab.lanes n l } }

/-- LinkState's state field: 0 Down, 1 Training, 2 Init, 3 Up, 4 Refused, 5 Unused (Table 4.15). -/
def State.laneState (s : State) (n : Nat) : Nat := s.nat (Obj.linkState n) % 256

/-- Set LinkState. -/
def State.setLaneState (s : State) (n st reason : Nat) : State := s.setNat (Obj.linkState n) (reason * 256 + st)

/-- The lane is Up. -/
def State.laneUp (s : State) (n : Nat) : Bool := s.laneState n = 3

/-- Count a discard on a lane (R83, R87, R89). -/
def State.countDiscard (s : State) (n : Nat) : State := s.count (Obj.discardedFrames n)

/-- Hall links are lanes 36 to 51. -/
def isHall (n : Nat) : Bool := 36 ≤ n

/-- The port group, 0 to 2 tray and 3, 4 hall, that a lane belongs to (R45). -/
def portGroup (n : Nat) : Nat := if n < 36 then n % 18 / 6 else 3 + (n - 36) % 8 / 4

/-- The fabric die that serves a lane: 0 for F0 (0x2010:04). -/
def State.laneDie (s : State) (n : Nat) : Nat := if bitOf (s.nat Obj.laneSelectorMap) n then 0 else 1

/-- The block of the port group that runs a lane. -/
def State.laneBlock (s : State) (n : Nat) : Nat := 97 * s.laneDie n + 11 + portGroup n

/-- Bytes of a frame from destination address through FCS (R82). -/
def frameBytes (f : Frame) : Nat := max 64 (50 + f.payload.length)

/-- Blocks of 64 bytes a frame consumes (R93). -/
def frameBlocks (f : Frame) : Nat := (frameBytes f + 63) / 64

/-- Transmit level of a frame, 0 highest (R95). -/
def frameLevel (q : QFrame) : Nat :=
  if isLinkOp q.frame.op then 0 else if isFlowOp q.frame.op then 1
  else if q.frame.vc = 0 then 2 else if q.frame.vc = 1 then 3
  else if q.frame.vc = 2 then 4 - min q.promo 1 else 5 - min q.promo 2

/-- Put a frame into a lane's transmit queue. Only link frames go on a lane that is not Up. -/
def State.enqueue (s : State) (n : Nat) (f : Frame) : State :=
  if s.laneUp n || isLinkOp f.op then
    let l := s.lane n
    s.setLane n { l with txq := l.txq ++ [{ at_ := s.now, frame := f }] }
  else s

/-! Hall topology: R114 to R116 -/

/-- Size of dimension `d`, 1 to 16, from HallDimensions. -/
def dimSize (dims d : Nat) : Nat := dims / 16 ^ d % 16 + 1

/-- Shelf numbers that one step in dimension `d` moves by. -/
def dimStep (dims d : Nat) : Nat := (List.range d).foldl (fun a e => a * dimSize dims e) 1

/-- First hall link of dimension `d`. -/
def dimStart (dims d : Nat) : Nat := (List.range d).foldl (fun a e => a + (dimSize dims e - 1)) 0

/-- The sum S of R114: hall links in first use. -/
def dimSum (dims : Nat) : Nat := dimStart dims 4

/-- Shelves of the domain. -/
def dimShelves (dims : Nat) : Nat := dimStep dims 4

/-- Digit of a shelf in dimension `d`. -/
def dimDigit (dims shelf d : Nat) : Nat := shelf / dimStep dims d % dimSize dims d

/-- Hall link from own digit `u` to digit `v` of dimension `d`. -/
def hallLink (dims d u v : Nat) : Nat :=
  dimStart dims d + (v + 2 * dimSize dims d - u - 1) % dimSize dims d

/-- The link that a hall link is or duplicates; none where it is in neither role. -/
def baseLink (dims i : Nat) : Option Nat :=
  if i < dimSum dims then some i
  else if dimSum dims ≤ 8 ∧ i < 2 * dimSum dims then some (i - dimSum dims) else none

/-- Dimension of a base link. -/
def linkDim (dims i : Nat) : Nat :=
  (List.range 4).foldl (fun a d => if dimStart dims d ≤ i ∧ i < dimStart dims d + (dimSize dims d - 1) then d else a) 0

/-- Peer shelf that a base link leads to from `own`. -/
def linkPeer (dims own i : Nat) : Nat :=
  let d := linkDim dims i
  let u := dimDigit dims own d
  let v := (u + (i - dimStart dims d) + 1) % dimSize dims d
  own + v * dimStep dims d - u * dimStep dims d

/-- The lane of the peer that R115 cables a hall link to. -/
def linkPeerLane (dims own i : Nat) : Nat :=
  match baseLink dims i with
  | none => 0
  | some b =>
    let d := linkDim dims b
    let u := dimDigit dims own d
    let v := dimDigit dims (linkPeer dims own b) d
    36 + hallLink dims d v u + (i - b)

/-- A hall link carries routed traffic: Up and admitted (R116, R561). -/
def State.hallUsable (s : State) (i : Nat) : Bool :=
  s.laneUp (36 + i) && bitOf (s.nat Obj.admittedHallLinks) i

/-- The usable links toward digit `v` of dimension `d`, the link first and its duplicate after it. -/
def State.usableLinks (s : State) (i : Nat) : List Nat :=
  let dims := s.nat Obj.hallDimensions
  let dup := if dimSum dims ≤ 8 then [i + dimSum dims] else []
  (i :: dup).filter s.hallUsable

/-- The base link of the first hop from this shelf to shelf `dst` (R116). -/
def State.firstHop (s : State) (dst : Nat) : Option Nat :=
  let dims := s.nat Obj.hallDimensions
  let own := s.nat Obj.shelfNumber
  if dst ≥ dimShelves dims then none
  else
    match (List.range 4).filter (fun d => dimDigit dims own d != dimDigit dims dst d) with
    | [] => none
    | d :: _ => some (hallLink dims d (dimDigit dims own d) (dimDigit dims dst d))

/-- Lane on which a frame for shelf `dst` goes next, spread over a link and its duplicate after `last`. -/
def State.route (s : State) (dst last : Nat) : Option Nat :=
  match s.firstHop dst with
  | none => none
  | some i =>
    match s.usableLinks i with
    | [] => none
    | [a] => some (36 + a)
    | a :: b :: _ => some (36 + (if last = 36 + a then b else a))

/-! Flows -/

/-- Node of the flow to or from tray link `n`, and of that to or from shelf `p`. -/
def trayNode (n : Nat) : Nat := n
def shelfNodeKey (p : Nat) : Nat := 64 + p

/-- Key of a flow: peer node and channel. -/
def flowKey (node vc : Nat) : Nat := node * 4 + vc

/-- Peer node and channel of a flow key. -/
def flowNode (k : Nat) : Nat := k / 4
def flowVc (k : Nat) : Nat := k % 4

/-- A flow's state. -/
def State.flow (s : State) (k : Nat) : FlowSt := smGet (fun _ => {}) s.fab.flows k

/-- Replace a flow's state. -/
def State.setFlow (s : State) (k : Nat) (f : FlowSt) : State :=
  { s with fab := { s.fab with flows := smSet (fun _ => {}) s.fab.flows k f } }

/-- Lane on which frames to a node go now. -/
def State.nodeLane (s : State) (node last : Nat) : Option Nat :=
  if node < 64 then (if s.laneUp node then some node else none) else s.route (node - 64) last

/-- Lane on which flow frames and the answers of admission go to a node: the route, or else a link to the peer that is Up and not yet
admitted (R561). -/
def State.directLane (s : State) (node last : Nat) : Option Nat :=
  match s.nodeLane node last with
  | some n => some n
  | none =>
    if node < 64 then none
    else
      let dims := s.nat Obj.hallDimensions
      match s.firstHop (node - 64) with
      | none => none
      | some i =>
        if linkPeer dims (s.nat Obj.shelfNumber) i ≠ node - 64 then none
        else
          let dup := if dimSum dims ≤ 8 then [i + dimSum dims] else []
          ((i :: dup).filter (fun k => s.laneUp (36 + k))).head?.map (· + 36)

/-- The return route of Table 4.7. -/
def routeAddr (shelf ep offset : Nat) : Nat := shelf * 2 ^ 44 + ep * 2 ^ 28 + offset

/-- Endpoint that names a node on the return route of an Ack or FlowReset (R88). -/
def nodeEndpoint (node : Nat) : Nat := if node < 64 then 0x2000 + node else 0x1000

/-- Shelf that a node lies on. -/
def State.nodeShelf (s : State) (node : Nat) : Nat := if node < 64 then s.nat Obj.shelfNumber else node - 64

/-- Give a frame to a flow: it joins the transmit queue of the lane it goes on and is numbered when it leaves; without a route it
waits (R97, R101). -/
def State.sendFlow (s : State) (key : Nat) (f : Frame) (watch : Option Nat := none) : State :=
  let fl := s.flow key
  let adm := isReturn f.op && f.srcEp = 0x1001 && field f.addr 43 28 = 0x1000
  match (if adm then s.directLane (flowNode key) fl.lane else s.nodeLane (flowNode key) fl.lane) with
  | some n =>
    let l := s.lane n
    (s.setFlow key { fl with lane := n, enq := fl.enq + 1 }).setLane n { l with
      txq := l.txq ++ [{ at_ := s.now, watch := watch, flow := some key, ord := fl.enq, frame := { f with vc := flowVc key } }] }
  | none => s.setFlow key { fl with waiting := fl.waiting ++ [(f, watch)] }

/-- Queue the frames of a flow that waited for a route. -/
def State.sendWaiting (s : State) (key : Nat) : State :=
  let fl := s.flow key
  fl.waiting.foldl (fun s w => s.sendFlow key w.1 w.2) (s.setFlow key { fl with waiting := [] })

/-- A fresh TransferId. -/
def State.newTid (s : State) : Nat × State :=
  (s.fab.tid, { s with fab := { s.fab with tid := (s.fab.tid + 1) % 65536 } })

/-- Bitmap of an Ack: bit j set when frame cumulative + 2 + j is held (R100). -/
def ackBitmap (fl : FlowSt) : Nat :=
  (List.range 32).foldl (fun a j => if fl.held.any (fun f => f.seq = (fl.cum + 2 + j) % 65536) then a + 2 ^ j else a) 0

/-- Send an Ack of a flow (R100). -/
def State.sendAck (s : State) (key : Nat) : State :=
  let fl := s.flow key
  let node := flowNode key
  let f : Frame := {
    vc := flowVc key, op := opAck, srcShelf := s.nat Obj.shelfNumber, srcEp := 0x1000
    addr := routeAddr (s.nodeShelf node) (nodeEndpoint node) 0, operand := ackBitmap fl * 65536 + fl.cum }
  let s1 := s.setFlow key { fl with sinceAck := 0, ackDue := none }
  match s.directLane node fl.lane with
  | some n => s1.enqueue n f
  | none => s1

/-- What R98 does with an arriving frame: the verdict, 0 already received, 1 beyond the window, 2 already held, 3 held,
and the flow after it. -/
def flowArrive (fl : FlowSt) (f : Frame) : Nat × FlowSt :=
  let d := (f.seq + 65536 - fl.cum) % 65536
  if d = 0 ∨ d ≥ 32768 then (0, fl)
  else if d > 256 then (1, fl)
  else if fl.held.any (fun g => g.seq = f.seq) then (2, fl)
  else (3, { fl with held := fl.held ++ [f] })

/-- Move Cumulative over the held frames that follow it, giving them in sequence order; at most `n` of them. -/
def flowDrain : Nat → FlowSt → List Frame × FlowSt
  | 0, fl => ([], fl)
  | n + 1, fl =>
    match fl.held.find? (fun g => g.seq = (fl.cum + 1) % 65536) with
    | none => ([], fl)
    | some g =>
      let r := flowDrain n { fl with cum := g.seq, held := fl.held.filter (fun h => h.seq != g.seq), sinceAck := fl.sinceAck + 1 }
      (g :: r.1, r.2)

/-- FlowReset frame of a flow (R102). -/
def State.sendFlowReset (s : State) (key : Nat) : State :=
  let fl := s.flow key
  let node := flowNode key
  match fl.resetting, s.directLane node fl.lane with
  | some (q, _), some n =>
    (s.setFlow key { fl with resetting := some (q, s.now) }).enqueue n {
        vc := flowVc key, op := opFlowReset, srcShelf := s.nat Obj.shelfNumber, srcEp := 0x1000
        addr := routeAddr (s.nodeShelf node) (nodeEndpoint node) 0, operand := q }
  | some (q, _), none => s.setFlow key { fl with resetting := some (q, s.now) }
  | none, _ => s

/-- What the receiver of a flow forgets when the flow is reset: held frames and incomplete transfers (R102). -/
def flowRxEnd (fl : FlowSt) (cum : Nat) : FlowSt :=
  { fl with cum := cum, held := [], sinceAck := 0, ackDue := none, cur := none }

/-- End every flow on a tray link, both ways; it starts again at sequence number 0 (R103). -/
def State.endTrayFlows (s : State) (n : Nat) : State :=
  s.forEach [0, 1, 2, 3] (fun s vc => s.setFlow (flowKey n vc) {})

/-! Return frames -/

/-- The endpoint is bound to tray link: its own node, or a participant a domain binds (R90, R113). -/
def Dom.binds (d : Dom) (ep : Nat) : Option Nat :=
  match d.trays.find? (fun t => decide (t.first ≤ ep ∧ ep < t.first + t.count)) with
  | some t => some t.link
  | none => none

/-- Tray link of an endpoint of this shelf. -/
def State.trayOf (s : State) (ep : Nat) : Option Nat :=
  if 0x2000 ≤ ep ∧ ep < 0x2024 then some (ep - 0x2000)
  else if ep < 0x1000 then (s.pool.doms.filterMap (fun d => d.2.binds ep)).head?
  else none

/-- Fill in the fields that every frame of this module carries. -/
def State.stamp (s : State) (ep : Nat) (f : Frame) : Frame := { f with srcShelf := s.nat Obj.shelfNumber, srcEp := ep }

/-- Send a return frame to an endpoint of a tray link of this shelf or of another shelf. One for an agent of this module is
handled where the agent's own rule says (R90). -/
def State.sendReturn (s : State) (shelf ep vc : Nat) (f : Frame) (watch : Option Nat := none) : State :=
  if shelf = s.nat Obj.shelfNumber then
    match s.trayOf ep with
    | some n => s.sendFlow (flowKey (trayNode n) vc) f watch
    | none => s
  else s.sendFlow (flowKey (shelfNodeKey shelf) vc) f watch

/-- The agent of Table 4.5 that answers for a region. -/
def regionAgent (region : Nat) : Nat :=
  if region ≤ 1 then 0x1000 else if region = 4 then 0x1001 else if region = 2 ∨ region = 3 then 0x1002
  else if region = 5 ∨ region = 6 then 0x1003 else 0x1000

/-- Region field of a global address (R110). -/
def addrRegion (a : Nat) : Nat := a / 2 ^ 40 % 16

/-- Shelf field of a global address. -/
def addrShelf (a : Nat) : Nat := a / 2 ^ 44 % 256

/-- Offset field of a global address. -/
def addrOffset (a : Nat) : Nat := a % 2 ^ 40

/-- Answer a VC0 request with a SyncResponse (R85, R87). -/
def State.syncResponse (s : State) (req : Frame) (result data : Nat) (full : Bool) (gen : Nat) : State :=
  s.sendReturn req.srcShelf req.srcEp 0 (s.stamp 0x1000 {
    op := opSyncResponse, tenant := req.tenant, result := result, tid := req.tid
    full := full, gen := gen, addr := routeAddr req.srcShelf req.srcEp 0, operand := data })

/-- Answer a Write with a WriteResponse where it asks (R87, R109); otherwise count a refusal on `lane` (R89). -/
def State.writeResponse (s : State) (lane : Nat) (req : Frame) (result detail : Nat) : State :=
  if req.respReq then
    s.sendReturn req.srcShelf req.srcEp req.vc (s.stamp (regionAgent (addrRegion req.addr)) {
      op := opWriteResponse, tenant := req.tenant, result := result, tid := req.tid
      addr := routeAddr req.srcShelf req.srcEp 0
      operand := if result = rsSignalRejected then detail else req.tid })
  else if result = rsOk ∨ result = rsSignalRejected then s else s.countDiscard lane

/-- Largest payload of a return frame to an endpoint: the peer's MaxPayload on the lane it goes on (Table 4.8). -/
def State.maxReturnPayload (s : State) (shelf ep : Nat) : Nat :=
  let ln := if shelf = s.nat Obj.shelfNumber then s.trayOf ep else s.route shelf 0
  match ln with
  | some n => if (s.lane n).maxPayload = 0 then 1024 else (s.lane n).maxPayload
  | none => 1024

/-- Cut data into payloads of at most `m` bytes, with their offsets; at most `n` of them. -/
def chunks : Nat → Nat → Nat → List Nat → List (Nat × List Nat)
  | 0, _, _, _ => []
  | n + 1, m, off, l =>
    match l with
    | [] => []
    | _ => (off, l.take m) :: chunks n m (off + m) (l.drop m)

/-- Answer a Read with ReadResponse frames carrying the data, or one without data for a refusal (R87, R89). -/
def State.readResponse (s : State) (req : Frame) (result : Nat) (data : List Nat) : State :=
  let (tid, s) := s.newTid
  let m := s.maxReturnPayload req.srcShelf req.srcEp
  let parts := if data.isEmpty then [(0, [])] else chunks (data.length + 1) m 0 data
  let n := parts.length
  let base := s.stamp (regionAgent (addrRegion req.addr)) {
    op := opReadResponse, tenant := req.tenant, result := result, tid := tid
    operand := req.tid }
  (parts.zipIdx).foldl (fun s p => s.sendReturn req.srcShelf req.srcEp req.vc { base with
    first := p.2 = 0
    last := p.2 + 1 = n
    addr := routeAddr req.srcShelf req.srcEp p.1.1
    payload := p.1.2 }) s

/-- Answer a refused request where it is answered, otherwise count it (R89). -/
def State.refuseRequest (s : State) (lane : Nat) (req : Frame) (result : Nat) : State :=
  if req.vc = 0 ∧ req.op != opRead ∧ req.op != opWrite then s.syncResponse req result 0 false 0
  else if req.op = opRead then s.readResponse req result []
  else s.writeResponse lane req result 0

/-! Answers of the dictionary server -/

/-- Region 0x4 result code of a refusal (Table 19.4). An internal code whose bits [39:32] are set carries its fabric result there: the refusals
that share an SDO abort code. -/
def mirrorCode (code : Nat) : Nat :=
  if code / 2 ^ 32 % 256 ≠ 0 then code / 2 ^ 32 % 256
  else match code with
    | 0 => rsOk
    | 0x06020000 | 0x06090011 => rsOffsetOutOfRange
    | 0x06010000 => rsRoleDenied
    | 0x06010002 => 0x40
    | 0x06070010 => rsLengthInvalid
    | 0x06090030 => 0x41
    | 0x06090031 => 0x42
    | 0x06090032 => 0x43
    | 0x08000022 => rsStateRefused
    | _ => 0x44

/-- Answer the access to object `key`: a mirror request that waits for it, or else the mailbox. -/
def State.answerKey (s : State) (key code : Nat) : State :=
  match s.dict.waiting.find? (fun w => w.1 = key) with
  | some (_, lane, req) =>
    (({ s with dict := { s.dict with waiting := s.dict.waiting.filter (fun w => w.1 != key) } } : State)).writeResponse lane req (mirrorCode code) 0
  | none => s.emit (.answer (code % 2 ^ 32) key)

end Sys2Proof.Machine
end

