-- ==== Sys2Proof/Machine/PoolOps.lean ====
section
/-! DEFINITION. Synchronisation words, watches, allocation and tenant events: the shared operations of spec/05_sync_objects.md. -/

namespace Sys2Proof.Machine

/-- Synchronisation result codes of Table 5.5. -/
abbrev syNotFull : Nat := 0x40
abbrev syNotEmpty : Nat := 0x41
abbrev syCompareFailed : Nat := 0x42
abbrev syWordNotAllocated : Nat := 0x43
abbrev syWordQuarantined : Nat := 0x44
abbrev syManagedWord : Nat := 0x45
abbrev syQueueFull : Nat := 0x46
abbrev syQueueUnderrun : Nat := 0x47
abbrev syWordPoisoned : Nat := 0x48
abbrev syEpisodeStale : Nat := 0x49
abbrev syEpisodeAhead : Nat := 0x4A
abbrev syDuplicateArrival : Nat := 0x4B
abbrev syDomainNotOpen : Nat := 0x4C
abbrev syDomainClosed : Nat := 0x4D
abbrev syDomainBroken : Nat := 0x4E
abbrev syWatchInvalid : Nat := 0x4F
abbrev syWatchInUse : Nat := 0x50
abbrev syWatchNotArmed : Nat := 0x51
abbrev syNotBound : Nat := 0x52
abbrev syQuotaExceeded : Nat := 0x53
abbrev syCapacityExhausted : Nat := 0x54
abbrev syDomainIdInUse : Nat := 0x55
abbrev syParticipantLimit : Nat := 0x56
abbrev syTenantNotOpen : Nat := 0x57
abbrev syPeerTimeout : Nat := 0x58
abbrev syLeftoverWords : Nat := 0x59
abbrev syDescriptorInvalid : Nat := 0x5A
abbrev syCreationBusy : Nat := 0x5B

/-- Words on one fabric die (Table 4.10). -/
abbrev dieWords : Nat := 131072
/-- Descriptors on one fabric die (R143's region 0x1). -/
abbrev dieDescs : Nat := 32768
/-- Tag of the service role on the fabric. -/
abbrev tagService : Nat := 0xFF

/-- A word. -/
def State.word (s : State) (w : Nat) : PWord := smGet (fun _ => {}) s.pool.words w

/-- Replace a word, without evaluating its watches. -/
def State.setWord (s : State) (w : Nat) (v : PWord) : State :=
  { s with pool := { s.pool with words := smSet (fun _ => {}) s.pool.words w v } }

/-- A watch descriptor. -/
def State.desc (s : State) (v : Nat) : WDesc := smGet (fun _ => {}) s.pool.descs v

/-- Replace a watch descriptor. -/
def State.setDesc (s : State) (v : Nat) (d : WDesc) : State :=
  { s with pool := { s.pool with descs := smSet (fun _ => {}) s.pool.descs v d } }

/-- Fabric core domain of half `h` is on (Table 2.7). -/
def State.fabricOn (s : State) (h : Nat) : Bool := s.nat (Obj.domainState2D01 (24 + h)) = 1
/-- The words of fabric die `h` are lost: its half, its pool block in the safe state, or its core off (R162, Tables 17.5, 2.7). -/
def State.poolLost (s : State) (h : Nat) : Bool := s.lost h || s.reacted h || s.blockSafe h 16 || !s.fabricOn h

/-- The descriptors of fabric die `h` are lost. -/
def State.watchLost (s : State) (h : Nat) : Bool := s.lost h || s.reacted h || s.blockSafe h 17 || !s.fabricOn h

/-- A word is held in a lost half; event words have a copy on each die (R140, R481). -/
def State.wordLost (s : State) (w : Nat) : Bool := s.poolLost (w / dieWords) && (s.word w).managed != 2

/-! Tenants -/

/-- Slot of a tag that is not Closed (R134). -/
def State.slotOf (s : State) (tag : Nat) : Option Nat :=
  (List.range 64).find? (fun t => s.nat (Obj.tenantState t) != 0 && s.nat (Obj.tenantTag t) = tag)

/-- The tag is of an open tenant. -/
def State.tenantOpen (s : State) (tag : Nat) : Bool :=
  match s.slotOf tag with
  | some t => s.nat (Obj.tenantState t) = 1
  | none => false

/-- Any tenant is open on the module. -/
def State.anyTenantOpen (s : State) : Bool := (List.range 64).any (fun t => s.nat (Obj.tenantState t) = 1)

/-! Watches -/

/-- A condition of Table 5.10 holds of a word (R144). -/
def watchTrue (d : WDesc) (w : PWord) : Bool :=
  match d.cond with
  | 1 => w.full
  | 2 => !w.full
  | 3 => d.threshold ≤ w.data
  | 4 => toSigned 64 d.threshold ≤ toSigned 64 w.data
  | 5 => w.data = d.threshold
  | 6 => w.gen != d.ref
  | 7 => (w.gen + 65536 - d.ref) % 65536 < 32768
  | _ => false

/-- The WatchMessage of descriptor `v` (R146). -/
def State.watchFrame (s : State) (v : Nat) (d : WDesc) (w : PWord) : Frame :=
  s.stamp 0x1000 {
    op := opWatchMessage, tenant := d.tenant
    addr := routeAddr d.shelf d.ep 0
    operand := w.data
    payload := beBytes 4 d.cookie ++ beBytes 2 v ++ [if w.full then 1 else 0, d.cond] ++ beBytes 2 w.gen ++
      [0, 0, 0, 0, 0, 0] ++ beBytes 8 s.hall }

/-- Replace the message of watch `v` that has not left yet, in every transmit queue and in the flows' waiting lists. -/
def State.replaceWatch (s : State) (v : Nat) (f : Frame) : State :=
  { s with fab := { s.fab with
      lanes := s.fab.lanes.map (fun e => (e.1, { e.2 with
        txq := e.2.txq.map (fun q => if q.watch = some v then { q with frame := { f with vc := q.frame.vc } } else q) }))
      flows := s.fab.flows.map (fun e => (e.1, { e.2 with
        waiting := e.2.waiting.map (fun q => if q.2 = some v then (f, q.2) else q) })) } }

/-- Drop the message of watch `v` that has not left yet (R148). -/
def State.dropWatch (s : State) (v : Nat) : State :=
  { s with fab := { s.fab with
      lanes := s.fab.lanes.map (fun e => (e.1, { e.2 with txq := e.2.txq.filter (fun q => q.watch != some v) }))
      flows := s.fab.flows.map (fun e => (e.1, { e.2 with waiting := e.2.waiting.filter (fun q => q.2 != some v) })) } }

/-- A message of watch `v` waits to be handed to a link. -/
def State.watchQueued (s : State) (v : Nat) : Bool :=
  s.fab.lanes.any (fun e => e.2.txq.any (fun q => q.watch = some v)) ||
  s.fab.flows.any (fun e => e.2.waiting.any (fun q => q.2 = some v))

/-- A watch fires (R145 to R148). -/
def State.fireWatch (s : State) (v : Nat) (w : PWord) : State :=
  let d := s.desc v
  let f := s.watchFrame v d w
  let d1 := { d with fire := (d.fire + 1) % 2 ^ 32, armed := d.persistent, ref := if d.cond = 6 ∧ d.persistent then w.gen else d.ref }
  if d.persistent && s.watchQueued v then
    ((s.setDesc v { d1 with fire := d.fire }).replaceWatch v f).count Obj.coalescedMessages
  else (s.setDesc v d1).sendReturn d.shelf d.ep 0 f (some v)

/-- Armed watches of a word, in descriptor order. -/
def State.watchesOf (s : State) (w : Nat) : List Nat :=
  (s.pool.descs.filter (fun e => e.2.armed && e.2.word = w && !s.watchLost (e.1 / dieDescs))).map (·.1)

/-- Evaluate the watches of a word after an operation (R145). -/
def State.evalWatches (s : State) (w : Nat) (old new : PWord) : State :=
  (s.watchesOf w).foldl (fun s v =>
    let d := s.desc v
    if !watchTrue d old && watchTrue d new then s.fireWatch v new else s) s

/-- Write a word's data, full bit and generation, and evaluate its watches where any of them changed. -/
def State.putWord (s : State) (w : Nat) (new : PWord) : State :=
  let old := s.word w
  let s1 := s.setWord w new
  if old.data = new.data ∧ old.full = new.full ∧ old.gen = new.gen then s1 else s1.evalWatches w old new

/-- Free an armed descriptor without a message (R148). -/
def State.disarm (s : State) (v : Nat) : State := (s.setDesc v { s.desc v with armed := false }).dropWatch v

/-- Disarm every watch of a word that is freed or quarantined (Table 5.11a). -/
def State.disarmWord (s : State) (w : Nat) : State :=
  (s.pool.descs.filter (fun e => e.2.armed && e.2.word = w)).foldl (fun s e => s.disarm e.1) s

/-- Fetch-and-add 1 to an event word (R140, R481). -/
def State.bumpWord (s : State) (w : Nat) : State :=
  let p := s.word w
  if p.alloc then s.putWord w { p with data := (p.data + 1) % 2 ^ 64 } else s

/-- Raise a tenant event of Table 5.8. -/
def State.tenantEvent (s : State) (tag code detail : Nat) : State :=
  match s.slotOf tag with
  | some t => (s.setNat (Obj.lastEvent t) (code * 2 ^ 24 + detail % 2 ^ 24)).bumpWord (s.nat (Obj.eventWord t))
  | none => s

/-! Word operations: R131, R132, R142 -/

/-- The queue a word is the head or tail of. -/
def State.queueOf (s : State) (w : Nat) : Option QueueB := s.pool.queues.find? (fun q => decide (q.head = w ∨ q.tail = w))

/-- Rows 2 to 7 of Table 5.2. -/
def State.wordCheck (s : State) (op w tenant : Nat) : Option Nat :=
  let p := s.word w
  let svc := decide (tenant = tagService)
  if s.wordLost w then some rsTargetLost
  else if !p.alloc then some syWordNotAllocated
  else if !svc ∧ p.tenant ≠ tenant then some rsTenantDenied
  else if !svc ∧ p.quarantined then some syWordQuarantined
  else if p.poisoned then some syWordPoisoned
  else if !svc ∧ p.managed ≠ 0 ∧ ¬(op = opRead ∨ op = opReadLeaveFull ∨ op = opWatchRegister ∨ (op = opArrive ∧ p.managed = 1)) then
    some syManagedWord
  else none

/-- Row 8 of Table 5.2: queue bounds (R142). -/
def State.queueCheck (s : State) (op w tenant operand : Nat) : Option Nat :=
  match s.queueOf w with
  | none => none
  | some q =>
    if op = opFetchAdd then
      if w = q.head ∧ (s.word q.head).data + operand > (s.word q.tail).data + q.n then some syQueueFull
      else if w = q.tail ∧ (s.word q.tail).data + operand > (s.word q.head).data then some syQueueUnderrun
      else none
    else if (op = opForcedWrite ∨ op = opCompareSwap) ∧ tenant ≠ tagService then some syManagedWord
    else none

/-- The word after an operation of Table 5.3, or the code of its failed precondition. -/
def wordEffect (op operand new : Nat) (p : PWord) : Except Nat PWord :=
  if op = opWriteIfEmptyFill then (if p.full then .error syNotEmpty else .ok { p with data := operand, full := true })
  else if op = opConsume then
    (if p.full then .ok { p with data := 0, full := false, gen := (p.gen + 1) % 65536 } else .error syNotFull)
  else if op = opReadLeaveFull then (if p.full then .ok p else .error syNotFull)
  else if op = opForcedWrite then .ok { p with data := operand, full := true, gen := (p.gen + 1) % 65536 }
  else if op = opFetchAdd then .ok { p with data := (p.data + operand) % 2 ^ 64 }
  else if op = opCompareSwap then (if p.data = operand then .ok { p with data := new } else .error syCompareFailed)
  else .error rsOpcodeNotPermitted

/-- A word operation with every check from row 2 of Table 5.2 on: result, data before, full and generation after; and the state. -/
def State.wordOp (s : State) (op operand new tenant w : Nat) : (Nat × Nat × Bool × Nat) × State :=
  let p := s.word w
  match s.wordCheck op w tenant with
  | some c => ((c, p.data, p.full, p.gen), s)
  | none =>
    match s.queueCheck op w tenant operand with
    | some c => ((c, p.data, p.full, p.gen), s)
    | none =>
      match wordEffect op operand new p with
      | .error c => ((c, p.data, p.full, p.gen), s)
      | .ok q => ((rsOk, p.data, q.full, q.gen), s.putWord w q)

/-! Allocation: R129, R136, R138 -/

/-- Lowest base of `n` unused keys in `lo`..`hi`-1, given the used keys in rising order. -/
def findGap (n hi : Nat) : Nat → List Nat → Option Nat
  | lo, [] => if lo + n ≤ hi then some lo else none
  | lo, k :: r => if k < lo then findGap n hi lo r else if lo + n ≤ k then (if lo + n ≤ hi then some lo else none) else findGap n hi (k + 1) r

/-- A block of `n` words wholly on die `h`. -/
def State.wordGap (s : State) (h n : Nat) : Option Nat :=
  if s.poolLost h then none else findGap n ((h + 1) * dieWords) (h * dieWords) (s.pool.words.map (·.1))

/-- A block of `n` descriptors wholly on die `h`. -/
def State.descGap (s : State) (h n : Nat) : Option Nat :=
  if s.watchLost h then none else findGap n ((h + 1) * dieDescs) (h * dieDescs) (s.pool.descs.map (·.1))

/-- The dies that a Placement allows, in order of trial (Table 5.7). -/
def placementDies (placement ref : Nat) : List Nat :=
  if placement = 1 then [0] else if placement = 2 then [1]
  else if placement = 3 then (if ref < 2 * dieWords then [ref / dieWords] else []) else [0, 1]

/-- Allocate `n` words from `base` on to a tag, empty, zero, generation zero (R129). -/
def State.allocWords (s : State) (base n tag managed : Nat) : State :=
  s.forEach (List.range n) (fun s i => s.setWord (base + i) { alloc := true, tenant := tag, managed := managed })

/-- Allocate `n` descriptors from `base` on to a tag. -/
def State.allocDescs (s : State) (base n tag : Nat) : State :=
  s.forEach (List.range n) (fun s i => s.setDesc (base + i) { alloc := true, tenant := tag })

/-- Words of a tag: allocated or reserved, tenant event words left out; they are the module's gift (R140). -/
def State.wordsOf (s : State) (tag : Nat) : List Nat :=
  (s.pool.words.filter (fun e => decide (e.2.tenant = tag) && (e.2.alloc || e.2.reserved) && e.2.managed != 2)).map (·.1)

/-- Descriptors of a tag. -/
def State.descsOf (s : State) (tag : Nat) : List Nat :=
  (s.pool.descs.filter (fun e => decide (e.2.tenant = tag) && e.2.alloc)).map (·.1)

/-- A word is left as R137 asks. -/
def wordClean (p : PWord) : Bool := !p.full && p.data = 0

/-- Free one word, or quarantine it where it is not clean (R138): 1 if it was quarantined. A word of a lost die is freed unchecked (R162). -/
def State.freeWord (s : State) (w : Nat) : Nat × State :=
  let p := s.word w
  if p.quarantined then (0, s)
  else
    let s0 := s.disarmWord w
    let s1 := { s0 with pool := { s0.pool with queues := s0.pool.queues.filter (fun q => q.head != w && q.tail != w) } }
    if s.wordLost w || wordClean p then (0, s1.setWord w {})
    else (1, s1.setWord w { p with quarantined := true })

/-- Free words in order, counting the quarantined. -/
def State.freeWords (s : State) (l : List Nat) : Nat × State :=
  l.foldl (fun r w => let q := r.2.freeWord w; (r.1 + q.1, q.2)) (0, s)

/-- Words served: those of the dies that are not lost (Table 5.11). -/
def State.poolWordsNow (s : State) : Nat :=
  (if s.poolLost 0 then 0 else dieWords) + (if s.poolLost 1 then 0 else dieWords)

/-- Words of live dies that are not allocated, reserved or quarantined. -/
def State.poolWordsFreeNow (s : State) : Nat :=
  s.poolWordsNow - countP (fun e => !s.poolLost (e.1 / dieWords)) s.pool.words

/-- Descriptors not allocated. -/
def State.watchesFreeNow (s : State) : Nat :=
  (if s.watchLost 0 then 0 else dieDescs) + (if s.watchLost 1 then 0 else dieDescs) -
    countP (fun e => !s.watchLost (e.1 / dieDescs)) s.pool.descs

end Sys2Proof.Machine
end

