-- ==== Sys2Proof/Machine/FaultOps.lean ====
section
/-! DEFINITION. Fault entries, counts, interrupts and escalation: the records of spec/17_faults.md. The reactions are in
Reactions.lean. -/

namespace Sys2Proof.Machine

/-- Fault classes of Table 17.4. -/
abbrev clStorage : Nat := 1
abbrev clComputation : Nat := 2
abbrev clCommunication : Nat := 3
abbrev clSense : Nat := 4
abbrev clPower : Nat := 5
abbrev clPowerPath : Nat := 6
abbrev clThermal : Nat := 7
abbrev clStatus : Nat := 8
abbrev clConfig : Nat := 9
abbrev clExternal : Nat := 10

/-- Levels of Table 17.3. -/
abbrev lvNone : Nat := 0
abbrev lvBlock : Nat := 1
abbrev lvHalf : Nat := 2
abbrev lvModule : Nat := 3

/-- Local block numbers of Table 17.1. -/
abbrev blBoot : Nat := 0
abbrev blEngine : Nat := 1
abbrev blPwm : Nat := 2
abbrev blDecimators : Nat := 3
abbrev blAdcs : Nat := 4
abbrev blHousekeeping : Nat := 5
abbrev blRail : Nat := 6
abbrev blRing1 : Nat := 7
abbrev blCan : Nat := 9
abbrev blSupervisor : Nat := 10
abbrev blTray0 : Nat := 11
abbrev blHall0 : Nat := 14
abbrev blPool : Nat := 16
abbrev blWatch : Nat := 17
abbrev blPacer : Nat := 18
abbrev blEsc : Nat := 19
abbrev blFabricPort : Nat := 20

/-- Block of array `g` (0 to 127): die g div 16, array g mod 16 (Table 17.1). -/
def arrayBlock (g : Nat) : Nat := let d := g / 16; 97 * (d / 4) + 21 + 19 * (d % 4) + g % 16

/-- Blocks of die `d`: exchange ring node, stack controller, fabric link port. -/
def exchangeBlock (d : Nat) : Nat := 97 * (d / 4) + 37 + 19 * (d % 4)
def stackBlock (d : Nat) : Nat := 97 * (d / 4) + 38 + 19 * (d % 4)
def linkPortBlock (d : Nat) : Nat := 97 * (d / 4) + 39 + 19 * (d % 4)

/-- History queue of a block, newest first. -/
def State.queue (s : State) (b : Nat) : List HEntry := smGet (fun _ => []) s.flt.queues b

/-- Replace a block's queue. -/
def State.setQueue (s : State) (b : Nat) (l : List HEntry) : State :=
  { s with flt := { s.flt with queues := smSet (fun _ => []) s.flt.queues b l } }

/-- Table 17.3's bytes of an entry. -/
def HEntry.bytes (e : HEntry) : List Nat :=
  leBytes 8 e.time ++ [e.cls % 256, e.code % 256, (if e.unack then 128 else 0) + (if e.escalated then 64 else 0) + e.level % 4 * 16, 0] ++
    leBytes 4 e.detail

/-- 0x2F20+b:05 HistoryQueue: eight entries, newest first. -/
def State.queueBytes (s : State) (b : Nat) : List Nat := fitTo 128 ((s.queue b).flatMap HEntry.bytes)

/-- Put an entry in a block's queue: it overwrites the oldest of eight (R480). -/
def State.pushEntry (s : State) (b : Nat) (e : HEntry) : State :=
  let q := s.queue b
  let s1 := (s.setQueue b ((e :: q).take 8)).count (Obj.eventCount b)
  if q.length = 8 ∧ (q.getLast?.map (·.unack)).getD false then s1.count (Obj.queueOverwrites b) else s1

/-- The interrupt of an entry whose class is not masked: emergency message, at most one per block in 1 ms, fault event word and
interrupt line (R481). -/
def State.interrupt (s : State) (b cls code level : Nat) : State :=
  if bitOf (s.nat (Obj.interruptMask b)) cls then s
  else
    let last := smGet (fun _ => 0) s.flt.lastEmcy b
    let s1 := s.emit (.interrupt b)
    let s2 :=
      if last = 0 ∨ s.now ≥ last - 1 + ms then
        ({ s1 with flt := { s1.flt with lastEmcy := smSet (fun _ => 0) s1.flt.lastEmcy b (s.now + 1) } }).emit
          (.emergency ([cls, 0xFF, 0x80] ++ leBytes 2 b ++ [code, level, 0]))
      else s1.count Obj.suppressedEmergencies
    s2.bumpWord (s2.nat Obj.faultEventWord)

/-- An event entry: not a fault, no reaction (R579, class 0). -/
def State.event (s : State) (b code detail : Nat) : State :=
  (s.pushEntry b { time := s.hall, cls := 0, code := code, unack := false, escalated := false, level := 0, detail := detail }).interrupt b 0 code 0

/-- Unacknowledged faults of block `b` in class `k`. -/
def State.unackCls (s : State) (b k : Nat) : Nat := smGet (fun _ => 0) s.flt.unack (b * 16 + k)

/-- Unacknowledged class-`k` faults in the module (R488). -/
def State.unackClass (s : State) (k : Nat) : Nat :=
  sumN ((s.flt.unack.filter (fun e => e.1 % 16 = k)).map (·.2))

/-- The highest escalation window that holds: 0 normal service, 1 start-up, 2 test, 3 recovery (R488). -/
def State.phaseNow (s : State) : Nat :=
  if s.mode = .hold || s.now < s.flt.recoveryUntil then 3
  else if !s.flt.tests.isEmpty || s.eng.sweepDue ||
    (s.mode = .boot && (s.boot.stageA = 5 || s.boot.stageB = 5)) || s.pecan.arrays.any (fun e => e.2.testSince.isSome) then 2
  else if s.mode = .boot || s.energising then 1
  else 0

/-- Level that `n` unacknowledged faults of a class set within a window (R488). -/
def escalateTo (n : Nat) : Nat := if n ≤ 1 then lvBlock else if n = 2 then lvHalf else lvModule

/-- Record a fault: entry, counts, interrupt; and the level at which it is reacted to (R479 to R483, R488). -/
def State.recordFault (s : State) (b cls code detail native : Nat) : Nat × State :=
  let s1 := { s with flt := { s.flt with unack := smModify (fun _ => 0) s.flt.unack (b * 16 + cls) (· + 1) } }
  let level := if s.phaseNow = 0 then native else max native (escalateTo (s1.unackClass cls))
  let esc := decide (native < level)
  let s2 := (s1.setNat (Obj.unacknowledged b) (min 255 (s1.nat (Obj.unacknowledged b) + 1))).count (Obj.faultCount b)
  let s3 := if esc then s2.count Obj.escalations else s2
  let s4 := s3.pushEntry b { time := s.hall, cls := cls, code := code, unack := true, escalated := esc, level := level, detail := detail }
  (level, s4.interrupt b cls code level)

/-- Acknowledge every fault of a block (R482). -/
def State.ackBlock (s : State) (b : Nat) : State :=
  let s1 := s.setQueue b ((s.queue b).map (fun e => { e with unack := false }))
  ({ s1 with flt := { s1.flt with unack := s1.flt.unack.filter (fun e => e.1 / 16 != b) } }).setNat (Obj.unacknowledged b) 0

/-- A ramp-fidelity exception (R18): causes 1, 2, 4, 5 and 6 only in Ready, Shaping and Hold. It is attributed to the tenants that
released a wave in the 10 ms before (R457). -/
def State.exception (s : State) (cause : Nat) : State :=
  if (cause = 3 ∨ cause = 7 ∨ s.fidelityModes) then
    let who := (s.pow.lastWave.filter (fun e => decide (s.now + 1 ≤ e.2 + 10 * ms))).map (·.1)
    ((((s.forEach who (fun s t => s.count (Obj.exceptionsAttributed t))).count Obj.fidelityExceptionCount2900).setNat Obj.lastFidelityException2900 cause).setNat Obj.lastFidelityExceptionTime s.hall).event
      (s.block blEngine) 8 cause
  else s

/-- Open escalation window 3 for `d` ns from now (R488). -/
def State.openRecovery (s : State) (d : Nat) : State :=
  { s with flt := { s.flt with recoveryUntil := max s.flt.recoveryUntil (s.now + d) } }

end Sys2Proof.Machine
end

