-- ==== Sys2Proof/Machine/EngineOps.lean ====
section
/-! DEFINITION. Compensator arithmetic, shares, compare values and the release feed-forward: shared operations of
spec/11_shelf_power_loop.md. -/

namespace Sys2Proof.Machine

/-- Saturation to a 32-bit integer. -/
def sat32 (v : Int) : Int := clampI int32Min int32Max v

/-- term(c, x, s) of R315: the exact product, rounded half up, shifted right arithmetically. -/
def engTerm (c x : Int) (sh : Nat) : Int := (c * x + (if sh = 0 then 0 else (2 ^ (sh - 1) : Nat))) / (2 ^ sh : Nat)

/-- Shift field `j` of the Shifts word: 0 SB0 to 3 SB3, 4 SA1 to 6 SA3 (R316). -/
def shiftField (w j : Nat) : Nat := w / 2 ^ (5 * j) % 32

/-- An active instance record. -/
def State.inst (s : State) (i : Nat) : Inst :=
  smGet (fun i => { kind := if i = 0 then 2 else if i ≤ 48 then 1 else 0 }) s.eng.insts i

/-- Replace an instance. -/
def State.setInst (s : State) (i : Nat) (v : Inst) : State :=
  { s with eng := { s.eng with
      insts := smSet (fun i => { kind := if i = 0 then 2 else if i ≤ 48 then 1 else 0 }) s.eng.insts i v } }

/-- One computation of R315 with the coefficients of `c` and the histories of `h`; true when sat32 or a clamp acted. -/
def Inst.compute (c h : Inst) (ref fb : Int) : Inst × Bool :=
  let e := sat32 (ref - fb)
  let t := fun k x j => engTerm k x (shiftField c.shifts j)
  let a2 := t c.b0 e 0 + t c.b1 h.e1 1 + t c.b2 h.e2 2 + t c.a1 h.u1 4 + t c.a2 h.u2 5
  let acc := if c.kind = 2 then a2 + t c.b3 h.e3 3 + t c.a3 h.u3 6 else a2
  let u := clampI c.omin c.omax (sat32 acc)
  ({ h with e0 := e, e1 := e, e2 := h.e1, e3 := h.e2, u1 := u, u2 := h.u1, u3 := h.u2 }, u != acc)

/-- Add an injection to the stored outputs, each clamped (R324). -/
def Inst.inject (h : Inst) (w : Int) : Inst :=
  { h with u1 := clampI h.omin h.omax (h.u1 + w), u2 := clampI h.omin h.omax (h.u2 + w), u3 := clampI h.omin h.omax (h.u3 + w) }

/-- Histories cleared (R326, R375). -/
def Inst.cleared (h : Inst) : Inst := { h with e1 := 0, e2 := 0, e3 := 0, u1 := 0, u2 := 0, u3 := 0 }

/-- Share of string `k` in 1/32,768 (R325). -/
def State.share (s : State) (k : Nat) : Nat := if k = 0 then s.eng.w1 else s.eng.w2

/-- Power of string `k` out of a total: total × w_s, rounded as MulShift does (DEDUCED, log entry 20). -/
def State.sharePower (s : State) (k : Nat) (w : Int) : Int := mulShiftI w (s.share k : Int) 15

/-- k_s of R325 for string `k` with voltage `v` in mV; 0 where no phase is active or the voltage is not positive. -/
def State.kFactor (s : State) (k : Nat) (v : Int) : Int :=
  let n := (s.activeOf k).length
  if n = 0 ∨ v ≤ 0 then 0 else divRound (2 ^ 24 * 1000000) (n * v)

/-- The duty clamp of R354. -/
def State.dutyClamp (s : State) (d : Int) : Nat := (clampI (s.num Obj.dutyMin) (s.num Obj.dutyMax) d).toNat

/-- Write a phase's compare value through the duty clamp (R354). -/
def State.writeCompare (s : State) (n : Nat) (d : Int) : State :=
  s.setPhase n { s.phase n with cmpNew := s.dutyClamp d }

/-- Release feed-forward of a wave of `w` watts: the duty step of R321 in every active phase, and the injection of R324 due at
the next tick. -/
def State.releaseFF (s : State) (w : Nat) : State :=
  if s.mode = .ready ∨ s.mode = .shaping then
    let s1 := s.forEach s.operated (fun s k =>
      let di := mulShiftI (s.sharePower k w) (if k = 0 then s.eng.k1 else s.eng.k2) 24
      let dd := mulShiftI di (s.num Obj.releaseDutyGain) 16
      s.forEach (s.activeOf k) (fun s n => s.writeCompare n ((s.phase n).cmpNew + dd)))
    { s1 with eng := { s1.eng with relPend := s1.eng.relPend + w } }
  else s

/-- The ramp limit in force in W/s: the reserve limit while R17 applies it, else L. -/
def State.activeLimit (s : State) : Nat := if s.eng.reserve then s.nat Obj.rampLimitReserve2900 else s.nat Obj.rampLimit2900

end Sys2Proof.Machine
end

