-- ==== Sys2Proof/Machine/ProgOps.lean ====
section
/-! DEFINITION. Programs and arrays by number, and the triggers of R254. -/

namespace Sys2Proof.Machine

/-- Array `g`. -/
def State.arr (s : State) (g : Nat) : ArrSt := smGet (fun _ => {}) s.pecan.arrays g

/-- Replace array `g`. -/
def State.setArr (s : State) (g : Nat) (a : ArrSt) : State :=
  { s with pecan := { s.pecan with arrays := smSet (fun _ => {}) s.pecan.arrays g a } }

/-- Program under handle `h`. -/
def State.prog (s : State) (h : Nat) : ProgSt := smGet (fun _ => {}) s.pecan.progs h

/-- Replace a program. -/
def State.setProg (s : State) (h : Nat) (p : ProgSt) : State :=
  { s with pecan := { s.pecan with progs := smSet (fun _ => {}) s.pecan.progs h p } }

/-- Staging slot `k`. -/
def State.slot (s : State) (k : Nat) : SlotSt := smGet (fun _ => {}) s.pecan.slots k

/-- Replace a staging slot. -/
def State.setSlot (s : State) (k : Nat) (v : SlotSt) : State :=
  { s with pecan := { s.pecan with slots := smSet (fun _ => {}) s.pecan.slots k v } }

/-- Program states of Table 8.14. -/
abbrev pgFree : Nat := 0
abbrev pgLoading : Nat := 1
abbrev pgLoaded : Nat := 2
abbrev pgRunning : Nat := 3
abbrev pgStopped : Nat := 4
abbrev pgReplacing : Nat := 5
abbrev pgUnloading : Nat := 6

/-- A trigger releases a run of a running slow-lane program, or is coalesced into the next run (R254). -/
def State.triggerRun (s : State) (h : Nat) : State :=
  let p := s.prog h
  if p.state = pgRunning ∧ p.lane = 2 then
    match p.run with
    | none => s.setProg h { p with run := some { release := s.hall, waitSince := s.hall } }
    | some _ =>
      s.setProg h { p with
        coalesced := (p.coalesced + 1) % 2 ^ 32
        nextRun := match p.nextRun with
          | none => some (s.hall, 1)
          | some (t, n) => some (t, n + 1) }
  else s

/-- Every program that trigger 3 names a domain for. -/
def State.triggerDomain (s : State) (id tenant : Nat) : State :=
  (s.pecan.progs.filter (fun e => decide (e.2.trigger = 3 ∧ e.2.domain = id ∧ e.2.tenant = tenant))).foldl (fun s e => s.triggerRun e.1) s

end Sys2Proof.Machine
end

