-- ==== Sys2Proof/Machine/BarrierOps.lean ====
section
/-! DEFINITION. Barrier trees, releases, the pacer and domain notices: the shared operations of the domain sections of
spec/05_sync_objects.md. -/

namespace Sys2Proof.Machine

/-- Domain slot `i`. -/
def State.dom (s : State) (i : Nat) : Dom := smGet (fun _ => {}) s.pool.doms i

/-- Replace a domain slot. -/
def State.setDom (s : State) (i : Nat) (d : Dom) : State :=
  { s with pool := { s.pool with doms := smSet (fun _ => {}) s.pool.doms i d } }

/-- Slot that holds a DomainId in any state but Free. -/
def State.domSlot (s : State) (id : Nat) : Option Nat :=
  (s.pool.doms.find? (fun e => decide (e.2.state ≠ 0 ∧ e.2.id = id))).map (·.1)

/-- This shelf's number. -/
def State.own (s : State) : Nat := s.nat Obj.shelfNumber

/-! The tree: R150 -/

/-- Group divisors of the hall levels, lowest first: consecutive dimensions share a level while their product is at most 16. -/
def levelDivisors (dims : Nat) : List Nat :=
  let r := (List.range 4).foldl (fun (a : List Nat × Nat × Nat) d =>
    let k := dimSize dims d
    if k = 1 then a
    else if a.2.2 * k ≤ 16 then (a.1, a.2.1 * k, a.2.2 * k)
    else (a.1 ++ [a.2.1], a.2.1 * k, k)) ([], 1, 1)
  if r.2.2 = 1 then r.1 else r.1 ++ [r.2.1]

/-- Levels a domain uses: up to the first at which all its members are in one group; none on a single shelf. -/
def domLevels (dims : Nat) (members : List Nat) : List Nat :=
  if members.length ≤ 1 then []
  else
    let same := fun m => (members.map (· / m)).eraseDups.length ≤ 1
    let ds := levelDivisors dims
    let below := ds.takeWhile (fun m => !same m)
    below ++ (ds.drop below.length).take 1

/-- Shelf of the level-`l` node of `x`'s group (level 0 is the shelf itself): its lowest member. -/
def treeShelf (lv : List Nat) (members : List Nat) (l x : Nat) : Nat :=
  if l = 0 then x
  else
    let m := lv.getD (l - 1) 1
    (members.find? (fun y => y / m = x / m)).getD x

/-- Children of the level-`l` node of `x`'s group: the nodes of its subgroups. -/
def treeChildren (lv : List Nat) (members : List Nat) (l x : Nat) : List Nat :=
  let m := lv.getD (l - 1) 1
  ((members.filter (fun y => y / m = x / m)).map (treeShelf lv members (l - 1))).eraseDups

/-- Members of a domain, ascending. -/
def Dom.members (d : Dom) : List Nat := d.shelves.map (·.1)

/-- Levels of a domain on this hall. -/
def State.levelsOf (s : State) (d : Dom) : List Nat := domLevels (s.nat Obj.hallDimensions) d.members

/-- Parent shelf of this shelf's node at level `l`; none at the root. -/
def State.parentOf (s : State) (d : Dom) (l : Nat) : Option Nat :=
  let lv := s.levelsOf d
  if l < lv.length then some (treeShelf lv d.members (l + 1) s.own) else none

/-- The shelves this shelf's tree nodes exchange frames with (R161's tree neighbours). -/
def State.treeNeighbours (s : State) (d : Dom) : List Nat :=
  let up := (List.range (d.halls.length + 1)).filterMap (fun l => s.parentOf d l)
  ((up ++ d.halls.flatMap (·.children)).filter (· != s.own)).eraseDups

/-! Participants -/

/-- Participants of this shelf, in endpoint order. -/
def Dom.participants (d : Dom) : List Nat :=
  d.trays.flatMap (fun t => (List.range t.count).map (t.first + ·))

/-- Tray link of a participant. -/
def Dom.linkOf (d : Dom) (ep : Nat) : Nat := (d.binds ep).getD 0

/-- Power weight of an endpoint (R163). -/
def State.weight (s : State) (ep : Nat) : Nat := smGet (fun _ => 250) s.pool.weights ep

/-- Set a power weight. -/
def State.setWeight (s : State) (ep w : Nat) : State :=
  { s with pool := { s.pool with weights := smSet (fun _ => 250) s.pool.weights ep w } }

/-- A step is announced: R28's first two cases over the domains, and the forecaster's. -/
def State.announced (s : State) : Bool :=
  s.pool.doms.any (fun e => e.2.state = 3 && (!e.2.waiting.isEmpty || e.2.hallRelease.isSome)) || s.eng.onsetArmed

/-! Release frames: R154 -/

/-- Entries a Release frame to tray link `n` holds at most. -/
def State.releaseEntries (s : State) (n : Nat) : Nat :=
  let l := s.lane n
  let p := min l.maxPayload (64 * l.adv.v0 - 50) / 8 * 8
  min 512 (p / 2)

/-- Payload of a Release: endpoints, padded with 0xFFFF to a multiple of 8 bytes. -/
def releasePayload (eps : List Nat) : List Nat :=
  let b := eps.flatMap (beBytes 2)
  b ++ List.replicate ((8 - b.length % 8) % 8) 0xFF

/-- Cut a list into pieces of at most `m`; at most `n` pieces. -/
def pieces {α : Type} : Nat → Nat → List α → List (List α)
  | 0, _, _ => []
  | n + 1, m, l =>
    match l with
    | [] => []
    | _ => l.take m :: pieces n m (l.drop m)

/-- Send Release frames for participants of a domain, link by link. -/
def State.sendReleases (s : State) (d : Dom) (eps : List Nat) (result episode wave : Nat) : State :=
  s.forEach d.trays (fun s (t : TrayNode) =>
    let mine := eps.filter (fun e => decide (t.first ≤ e ∧ e < t.first + t.count))
    let m := max 1 (s.releaseEntries t.link)
    s.forEach (pieces (mine.length + 1) m mine) (fun s part =>
      s.sendFlow (flowKey (trayNode t.link) 0) (s.stamp 0x1000 {
        op := opRelease, tenant := d.tenant, result := result
        addr := routeAddr s.own (0x2000 + t.link) 0
        operand := d.id * 2 ^ 48 + episode * 2 ^ 32 + wave % 65536 * 65536 + part.length
        payload := releasePayload part })))

/-- Send a Release to a child module (R152, R154). -/
def State.sendHallRelease (s : State) (d : Dom) (shelf episode : Nat) : State :=
  s.sendFlow (flowKey (shelfNodeKey shelf) 0) (s.stamp 0x1000 {
    op := opRelease, tenant := d.tenant, result := rsOk
    addr := routeAddr shelf 0x1000 0
    operand := d.id * 2 ^ 48 + episode * 2 ^ 32 })

/-! Pacer: R163 to R167 -/

/-- Integer square root, bit by bit from bit `b`. -/
def isqrtFrom : Nat → Nat → Nat → Nat
  | 0, r, _ => r
  | b + 1, r, v => let c := r + 2 ^ b; isqrtFrom b (if c * c ≤ v then c else r) v

/-- Floor of the square root of a value below 2^96. -/
def isqrt (v : Nat) : Nat := isqrtFrom 48 0 v

/-- Weights released in the last 20 µs. -/
def State.recentWeight (s : State) : Nat :=
  sumN ((s.pool.recent.filter (fun e => decide (s.now < e.1 + 20 * us))).map (·.2))

/-- pmax of R164. -/
def State.pacerPmax (s : State) : Int :=
  let lim := sumN (s.operated.map (fun k => s.nat (Obj.dischargeLimit (k + 1))))
  min (if s.eng.contInForce then 360000 else 480000) (lim : Int)

/-- Terms hc and he of R164. -/
def State.headTerms (s : State) : Int × Int :=
  let pq : Int := s.recentWeight
  let em := sumN (s.operated.map (fun k => s.nat (Obj.energyAboveWindow (k + 1))))
  (s.pacerPmax - s.eng.pBus - pq, (isqrt (2 * s.activeLimit * em) : Int) - s.eng.pBus - pq)

/-- Headroom h of R164; 0 in Hold. -/
def State.headroom (s : State) : Int :=
  if s.mode = .hold then 0 else max 0 (min s.headTerms.1 s.headTerms.2)

/-- Sum of the weights of participants. -/
def State.weightSum (s : State) (eps : List Nat) : Nat := sumN (eps.map s.weight)

/-- Participants leave in one wave: frames, weight records, feed-forward (R163, R165, R167, R456, R457). -/
def State.releaseWave (s : State) (slot : Nat) (eps : List Nat) (episode wave : Nat) : State :=
  let d := s.dom slot
  let w := s.weightSum eps
  let s1 := s.sendReleases d eps rsOk episode wave
  let ts := s.slotOf d.tenant
  let s2 := { s1 with
    pool := { s1.pool with
      recent := (s1.now, w) :: s1.pool.recent.filter (fun e => decide (s1.now < e.1 + 20 * us))
      learn := d.trays.foldl (fun m (t : TrayNode) =>
        let mine := eps.filter (fun e => decide (t.first ≤ e ∧ e < t.first + t.count))
        if mine.isEmpty then m
        else if s1.nat Obj.weightLearning ≠ 1 then smErase m t.link
        else smModify (fun _ => {}) m t.link (fun (l : LinkLearn) => { lastAt := s1.now, eps := l.eps ++ mine })) s1.pool.learn }
    pow := match ts with
      | some t => { s1.pow with
          running := eps.foldl (fun m e => smSet (fun _ => (0, 0)) m e (t, s1.weight e)) s1.pow.running
          lastWave := smSet (fun _ => 0) s1.pow.lastWave t (s1.now + 1) }
      | none => s1.pow }
  s2.releaseFF w

/-- Rotate a list to start after element `e`. -/
def rotateAfter (l : List Nat) (e : Option Nat) : List Nat :=
  match e with
  | none => l
  | some x => l.filter (fun y => decide (x < y)) ++ l.filter (fun y => decide (y ≤ x))

/-- A pending release has ended: counts of a paced release (Table 5.6) and LastReleaseSpan. -/
def State.pacedEnd (s : State) (r : Rel) : State :=
  let s1 := s.setNat (Obj.lastReleaseSpan r.dom) ((s.now - r.done) % 2 ^ 32)
  match s.slotOf r.tenant with
  | some t => (s1.count (Obj.pacedReleases t)).count64 (Obj.pacingDelayTotal t) (s.now - r.done)
  | none => s1

/-- Longest prefix of participants whose weights fit into `h`, what is left of h, and the rest. -/
def State.takeFit (s : State) : Int → List Nat → List Nat × Int × List Nat
  | h, [] => ([], h, [])
  | h, p :: r =>
    if (s.weight p : Int) > h then ([], h, p :: r)
    else let q := s.takeFit (h - s.weight p) r; (p :: q.1, q.2.1, q.2.2)

/-- One pending release at an interval: what is left of h, the release if it stays pending, the state (R165, R166). -/
def State.waveOne (s : State) (h : Int) (heLess : Bool) (r : Rel) : Int × Option Rel × State :=
  if s.now ≥ r.deadline then
    let w : Int := s.weightSum r.remaining
    let s1 := s.releaseWave r.dom r.remaining r.episode r.wave
    let s2 := if r.firstWave then s1.setDom r.dom { s1.dom r.dom with rot := r.remaining.getLast? } else s1
    let s3 := s2.pacedEnd r
    let s4 :=
      if w > h then
        let a := match s3.slotOf r.tenant with
          | some t => (s3.count (Obj.budgetExhausted t)).tenantEvent r.tenant 7 (s3.dom r.dom).id
          | none => s3
        if heLess then a.exception 7 else a
      else s3
    (h - w, none, s4)
  else
    let q := s.takeFit h r.remaining
    if q.1.isEmpty then (h, some r, s)
    else
      let s1 := s.releaseWave r.dom q.1 r.episode r.wave
      let s2 := if r.firstWave then s1.setDom r.dom { s1.dom r.dom with rot := q.1.getLast? } else s1
      if q.2.2.isEmpty then (q.2.1, none, s2.pacedEnd r)
      else (q.2.1, some { r with remaining := q.2.2, wave := r.wave + 1, firstWave := false }, s2)

/-- Order of pending releases: deadline, completion time, tenant tag. -/
def relBefore (a b : Rel) : Bool :=
  a.deadline < b.deadline || (a.deadline = b.deadline && (a.done < b.done || (a.done = b.done && a.tenant ≤ b.tenant)))

/-- Insert into the order of pending releases. -/
def relInsert (r : Rel) : List Rel → List Rel
  | [] => [r]
  | x :: l => if relBefore x r then x :: relInsert r l else r :: x :: l

/-- Run the waves of R165 once over all pending releases. -/
def State.runWaves (s : State) : State :=
  let le := decide (s.headTerms.2 < s.headTerms.1)
  let r := s.pool.pending.foldl (fun (a : Int × List Rel × State) r =>
    let q := a.2.2.waveOne a.1 le r
    (q.1, a.2.1 ++ q.2.1.toList, q.2.2)) (s.headroom, [], s)
  { r.2.2 with pool := { r.2.2.pool with pending := r.2.1 } }

/-- Release everything that is pending, at once (R511 step 2, and the pacer's safe state of Table 17.5). -/
def State.flushPending (s : State) : State :=
  let s1 := s.pool.pending.foldl (fun s r => (s.releaseWave r.dom r.remaining r.episode r.wave).pacedEnd r) s
  { s1 with pool := { s1.pool with pending := [] } }

/-- The pacer of the working half is in its safe state: releases go unpaced (Table 17.5). -/
def State.pacerDown (s : State) : Bool := s.blockSafe s.workHalf blPacer

/-- The shelf node of a slot is released: its participants go to the pacer (R152, R165). -/
def State.pacerComplete (s : State) (slot episode : Nat) : State :=
  let d := s.dom slot
  let all := d.participants
  let budget := match s.slotOf d.tenant with
    | some t => s.nat (Obj.pacingBudget t)
    | none => 0
  let s1 := s.setDom slot { d with waiting := [], hallRelease := none, releaseAt := s.now }
  if s.mode ≠ .shaping ∨ budget = 0 ∨ s.pacerDown then
    (s1.releaseWave slot all episode 0).setNat (Obj.lastReleaseSpan slot) 0
  else
    let r : Rel := { dom := slot, tenant := d.tenant, deadline := s.now + budget * us, done := s.now, episode := episode,
                     remaining := rotateAfter all d.rot }
    let s2 := { s1 with pool := { s1.pool with
      pending := relInsert r s1.pool.pending
      tickFrom := if s1.pool.pending.isEmpty then s1.now else s1.pool.tickFrom } }
    s2.runWaves

/-! Node completion: R151, R152 -/

/-- Release the tree below this shelf's nodes: a Release to the shelf of every child, then the shelf's own participants. -/
def State.releaseDown (s : State) (slot episode : Nat) : State :=
  let d := s.dom slot
  let kids := (d.halls.flatMap (·.children)).filter (· != s.own)
  (s.forEach kids (fun s c => s.sendHallRelease d c episode)).pacerComplete slot episode

/-- Set a tree word to a count, or complete it: data 0, generation advanced. -/
def State.nodeCount (s : State) (w n : Nat) : State := s.putWord w { s.word w with data := n }
def State.nodeReset (s : State) (w : Nat) : State :=
  let p := s.word w
  s.putWord w { p with data := 0, gen := (p.gen + 1) % 65536 }

/-- Arrive frame of this module to the parent shelf of a node; the parent's word index is nowhere given to the child, so the
address is a free value (log entry 21). -/
def State.sendHallArrive (s : State) (d : Dom) (parent episode : Nat) : State :=
  let r := s.draw
  r.2.sendFlow (flowKey (shelfNodeKey parent) 0) (r.2.stamp 0x1000 {
    op := opArrive, tenant := d.tenant
    addr := parent * 2 ^ 44 + Config.number r.1 % 262144 * 8
    operand := d.id * 2 ^ 48 + episode * 2 ^ 32 })

/-- Report a completed node of level `l` upward, through nodes this shelf holds itself, until another shelf or the root. -/
def State.reportUp (s : State) (slot episode : Nat) : Nat → Nat → State
  | 0, _ => s
  | n + 1, l =>
    let d := s.dom slot
    match s.parentOf d l with
    | none => s.releaseDown slot episode
    | some p =>
      if p ≠ s.own then s.sendHallArrive d p episode
      else
        match d.halls.find? (fun h => h.level = l + 1) with
        | none => s
        | some h =>
          let arr := h.arrived ++ [s.own]
          if arr.length ≥ h.children.length then
            ((s.setDom slot { d with halls := d.halls.map (fun x => if x.level = l + 1 then { x with arrived := [] } else x) }).nodeReset
              h.word).reportUp slot episode n (l + 1)
          else
            (s.setDom slot { d with halls := d.halls.map (fun x => if x.level = l + 1 then { x with arrived := arr } else x) }).nodeCount
              h.word arr.length

/-- The shelf node of a slot completes: reset, marks, intervals, triggers, trace event, report upward (R151, R254, R282, R347). -/
def State.shelfComplete (s : State) (slot : Nat) : State :=
  let d := s.dom slot
  let episode := (s.word d.shelfNode).gen
  let gap := if d.completed = 0 then 0 else s.now - d.lastCompletion
  let s1 := s.setDom slot { d with
    shelfArrived := [], lastCompletion := s.now, lastInterval := gap, completed := d.completed + 1
    hallRelease := if (s.levelsOf d).isEmpty then none else some episode }
  let s2 := { s1 with
    hist := { s1.hist with marks := smModify (fun _ => []) s1.hist.marks slot (fun l => ((episode, s1.hall / us) :: l).take 256) }
    pecan := if d.completed = 0 then s1.pecan else
      { s1.pecan with intervals := smModify (fun _ => []) s1.pecan.intervals slot (fun l => (gap :: l).take 8) }
    eng := if s1.nat Obj.triggerSource / 256 = 1 ∧ s1.fc.stepDomain = d.id then { s1.eng with trace := { s1.eng.trace with event := true } } else s1.eng }
  let s3 := (s2.setNat (Obj.lastCompletionTime slot) s.hall).nodeReset d.shelfNode
  (s3.triggerDomain d.id d.tenant).reportUp slot episode 5 0

end Sys2Proof.Machine
end

