-- ==== Sys2Proof/Machine/DomainOps.lean ====
section
/-! DEFINITION. Creating, closing and breaking barrier domains: members, notices and the home's stages (R156 to R161 of
spec/05_sync_objects.md), and the tenants' closing of resources. -/

namespace Sys2Proof.Machine

/-! Notices -/

/-- Global address of index:subindex in the dictionary mirror of a shelf (Table 4.10). -/
def mirrorAddr (shelf idx sub : Nat) : Nat := shelf * 2 ^ 44 + 4 * 2 ^ 40 + idx * 65536 + sub * 256

/-- Send a Write transfer from this module to another shelf on VC1, asking for a response; its TransferId. -/
def State.sendWrite (s : State) (shelf addr : Nat) (data : List Nat) : Nat × State :=
  let r := s.newTid
  let parts := chunks (data.length + 1) 1024 0 data
  let n := parts.length
  (r.1, parts.zipIdx.foldl (fun s p => s.sendFlow (flowKey (shelfNodeKey shelf) 1) (s.stamp 0x1000 {
    op := opWrite, tid := r.1, respReq := true, addr := addr + p.1.1, payload := p.1.2
    first := p.2 = 0
    last := p.2 + 1 = n })) r.2)

/-- Header of a DomainPeer value (R157). -/
def peerHeader (stage home id : Nat) : List Nat := [stage, home] ++ leBytes 2 id ++ [0, 0, 0, 0]

/-- Send a notice to another member; its TransferId. -/
def State.sendNotice (s : State) (shelf stage home id : Nat) (body : List Nat) : Nat × State :=
  s.sendWrite shelf (mirrorAddr shelf 0x2211 1) (peerHeader stage home id ++ body)

/-! The descriptor of Table 5.13 -/

/-- Fields of a descriptor. -/
def descId (b : List Nat) : Nat := leNat (slice b 0 2)
def descTenant (b : List Nat) : Nat := listGet 0 b 2
def descCount (b : List Nat) : Nat := leNat (slice b 4 2)
def descTotal (b : List Nat) : Nat := leNat (slice b 8 4)

/-- Shelf records: shelf number and counts of tray links 0 to 35. -/
def descShelves (b : List Nat) : List (Nat × List Nat) :=
  (List.range (descCount b)).map (fun i =>
    (listGet 0 b (16 + 80 * i), (List.range 36).map (fun j => leNat (slice b (24 + 80 * i + 2 * j) 2))))

/-- Reserved bytes of a descriptor are zero (R7). -/
def descReserved (b : List Nat) : Bool :=
  (slice b 3 1 ++ slice b 6 2 ++ slice b 12 4 ++ (List.range (descCount b)).flatMap (fun i => slice b (17 + 80 * i) 7)).all (· = 0)

/-- Strictly rising. -/
def rising : List Nat → Bool
  | a :: b :: r => a < b && rising (b :: r)
  | _ => true

/-- The home's check of a descriptor: none, or the code of stage 1 (R157). -/
def descCheck (own : Nat) (b : List Nat) : Option Nat :=
  let sh := descShelves b
  let sums := sh.map (fun e => sumN e.2)
  if b.length < 16 ∨ descCount b = 0 ∨ descCount b > 256 ∨ b.length ≠ 16 + 80 * descCount b ∨ descId b = 0 ∨
      descTenant b = 0 ∨ descTenant b = tagService ∨ !rising (sh.map (·.1)) ∨ !(sh.any (fun e => e.1 = own)) ∨
      sums.any (· = 0) ∨ sumN sums ≠ descTotal b ∨ descTotal b = 0 then some syDescriptorInvalid
  else if sums.any (fun n => decide (n > 4096)) ∨ descTotal b > 1048576 then some syParticipantLimit
  else none

/-! Members -/

/-- Endpoints in use on this shelf: those of domains that are not closing (R159, R160). -/
def State.endpointsUsed (s : State) : List (Nat × Nat) :=
  s.pool.doms.flatMap (fun e => if e.2.state = 0 ∨ e.2.state = 5 then [] else e.2.trays.map (fun t => (t.first, t.count)))

/-- Participants of a tag on this shelf. -/
def State.participantsOf (s : State) (tag : Nat) : Nat :=
  sumN (s.pool.doms.map (fun e => if (e.2.state = 0 ∨ e.2.state = 5) ∨ e.2.tenant ≠ tag then 0 else e.2.participants.length))

/-- The lowest block of `n` free endpoints. -/
def State.endpointGap (s : State) (n : Nat) : Option Nat :=
  let used := s.endpointsUsed
  (List.range (4097 - n)).find? (fun b => used.all (fun u => decide (u.1 + u.2 ≤ b ∨ b + n ≤ u.1)))

/-- One free word on die `h`, or on the other die where `h` is lost. -/
def State.treeWord (s : State) (h : Nat) : Option Nat :=
  if s.poolLost h then s.wordGap (1 - h) 1 else s.wordGap h 1

/-- Reserve one tree word (R157). -/
def State.reserveWord (s : State) (w tag : Nat) : State := s.setWord w { reserved := true, tenant := tag }

/-- Die that serves the most of the domain's tray links, F0 on a tie (R150). -/
def State.shelfNodeDie (s : State) (links : List Nat) : Nat :=
  if countP (fun n => s.laneDie n = 1) links > countP (fun n => s.laneDie n = 0) links then 1 else 0

/-- Reserve the words of a member's tree: tray nodes, shelf node, hall nodes (R150); none when the pool is full. -/
def State.reserveTree (s : State) (tag : Nat) (lv members : List Nat) (trays : List TrayNode) :
    Option (List TrayNode × Nat × List HallNode × State) :=
  let step := fun (a : Option (List TrayNode × State)) (t : TrayNode) =>
    match a with
    | none => none
    | some (l, s) =>
      match s.treeWord (s.laneDie t.link) with
      | none => none
      | some w => some (l ++ [{ t with word := w }], s.reserveWord w tag)
  match trays.foldl step (some ([], s)) with
  | none => none
  | some (tl, s1) =>
    let sn :=
      if trays.length = 1 then some ((tl.map (·.word)).headD 0, s1)
      else (s1.treeWord (s1.shelfNodeDie (trays.map (·.link)))).map (fun w => (w, s1.reserveWord w tag))
    match sn with
    | none => none
    | some (w0, s2) =>
      let mine := (List.range lv.length).filter (fun l => treeShelf lv members (l + 1) s.own = s.own)
      let step2 := fun (a : Option (List HallNode × State)) (l : Nat) =>
        match a with
        | none => none
        | some (hs, s) =>
          let die := if l + 1 = lv.length then 0 else treeShelf lv members (l + 2) s.own % 2
          match s.treeWord die with
          | none => none
          | some w => some (hs ++ [{ level := l + 1, word := w, children := treeChildren lv members (l + 1) s.own }], s.reserveWord w tag)
      match mine.foldl step2 (some ([], s2)) with
      | none => none
      | some (hs, s3) => some (tl, w0, hs, s3)

/-- Tray nodes of a shelf record, endpoints numbered consecutively from `base`. -/
def trayNodes (base : Nat) (counts : List Nat) : List TrayNode :=
  ((counts.zipIdx).foldl (fun (a : Nat × List TrayNode) c =>
    if c.1 = 0 then a else (a.1 + c.1, a.2 ++ [{ link := c.2, word := 0, first := a.1, count := c.1 }])) (base, [])).2

/-- A member's prepare: the answer, and the reservation (R157 stage 2). -/
def State.memberPrepare (s : State) (home : Nat) (b : List Nat) : Nat × State :=
  let tag := descTenant b
  let counts := ((descShelves b).find? (fun e => e.1 = s.own)).map (·.2) |>.getD []
  let n := sumN counts
  let members := (descShelves b).map (·.1)
  let lv := domLevels (s.nat Obj.hallDimensions) members
  match s.slotOf tag with
  | none => (if s.mode = .ready ∨ s.mode = .shaping then syTenantNotOpen else rsStateRefused, s)
  | some t =>
    let links := countP (fun c => decide (c > 0)) counts
    let need := links + (if links = 1 then 0 else 1) + countP (fun l => treeShelf lv members (l + 1) s.own = s.own) (List.range lv.length)
    if ¬(s.mode = .ready ∨ s.mode = .shaping) then (rsStateRefused, s)
    else if s.nat (Obj.tenantState t) ≠ 1 then (syTenantNotOpen, s)
    else if (s.domSlot (descId b)).isSome then (syDomainIdInUse, s)
    else if (s.wordsOf tag).length + need > s.nat (Obj.wordQuota t) ∨ s.participantsOf tag + n > s.nat (Obj.participantQuota t) then
      (syQuotaExceeded, s)
    else if sumN (s.endpointsUsed.map (·.2)) + n > 4096 then (syParticipantLimit, s)
    else
      match (List.range 128).find? (fun i => (s.dom i).state = 0), s.endpointGap n with
      | some i, some base =>
        match s.reserveTree tag lv members (trayNodes base counts) with
        | none => (syCapacityExhausted, s)
        | some (trays, w0, halls, s1) =>
          (rsOk, s1.setDom i {
            id := descId b, state := 1, tenant := tag, home := home, total := descTotal b, shelves := descShelves b
            trays := trays, shelfNode := w0, shelfTarget := trays.length, halls := halls, prepSince := s.now })
      | _, _ => (syCapacityExhausted, s)

/-- Words of a domain's tree on this shelf. -/
def Dom.treeWords (d : Dom) : List Nat := (d.trays.map (·.word) ++ [d.shelfNode] ++ d.halls.map (·.word)).eraseDups

/-- A member's commit: tree words and bindings are built; new participants take their tenant's DefaultWeight (R157, R163). -/
def State.memberCommit (s : State) (i : Nat) : State :=
  let d := s.dom i
  let w0 := match s.slotOf d.tenant with
    | some t => s.nat (Obj.defaultWeight t)
    | none => 250
  let s1 := s.forEach d.treeWords (fun s w => s.setWord w { alloc := true, tenant := d.tenant, managed := 1 })
  let s2 := { s1 with
    hist := { s1.hist with marks := smErase s1.hist.marks i }
    pecan := { s1.pecan with intervals := smErase s1.pecan.intervals i } }
  (s2.forEach d.participants (fun s e => s.setWeight e w0)).setDom i { d with state := 2 }

/-- A member's open (R157 stage 4). -/
def State.memberOpen (s : State) (i : Nat) : State :=
  let d := s.dom i
  (s.setDom i { d with state := 3 }).tenantEvent d.tenant 1 d.id

/-- Free tree words without the check of R138: the module owns their contents. -/
def State.freeTree (s : State) (ws : List Nat) : State := s.forEach ws (fun s w => (s.disarmWord w).setWord w {})

/-- A member's abort, or the expiry of a preparation: the reservation is released. -/
def State.memberAbort (s : State) (i : Nat) : State := (s.freeTree (s.dom i).treeWords).setDom i {}

/-- Participants that have arrived and are not yet released, pending waves included. -/
def State.unreleased (s : State) (i : Nat) : List Nat :=
  let p := (s.pool.pending.filter (fun r => r.dom = i)).flatMap (·.remaining)
  (s.dom i).participants.filter (fun e => (s.dom i).waiting.contains e || p.contains e)

/-- Drop a domain's releases from the pacer. -/
def State.dropPending (s : State) (i : Nat) : State :=
  { s with pool := { s.pool with pending := s.pool.pending.filter (fun r => r.dom != i) } }

/-- A member closes a domain (R160). -/
def State.memberClose (s : State) (i : Nat) (requester : Bool) : State :=
  let d := s.dom i
  let s1 := s.sendReleases d (s.unreleased i) syDomainClosed (s.word d.shelfNode).gen 0
  let keep := d.trays.map (·.word)
  let s2 := (s1.dropPending i).freeTree (d.treeWords.filter (fun w => !keep.contains w))
  let s3 := s2.setDom i { d with state := 5, waiting := [], hallRelease := none, halls := [], closedAt := some s.now }
  if requester then s3 else s3.tenantEvent d.tenant 3 d.id

/-- The tray words of a closed domain are freed and its slot becomes Free (R160). -/
def State.domainFree (s : State) (i : Nat) : State := (s.freeTree ((s.dom i).trays.map (·.word))).setDom i {}

/-- A domain becomes Broken on this shelf: broken notices, releases, event 2 (R161). `quiet`: entering Safe, when the own waiters
receive nothing. -/
def State.breakDomain (s : State) (i : Nat) (quiet : Bool) : State :=
  let d := s.dom i
  if d.state = 3 ∨ d.state = 2 then
    let s1 := s.forEach (d.members.filter (· != s.own)) (fun s m =>
      if (s.route m 0).isSome then (s.sendNotice m 6 d.home d.id []).2 else s)
    let s2 := if quiet then s1 else s1.sendReleases d (s.unreleased i) syDomainBroken (s.word d.shelfNode).gen 0
    ((s2.dropPending i).setDom i { d with state := 4, waiting := [], hallRelease := none }).tenantEvent d.tenant 2 d.id
  else s

/-- Slots of open domains that a test of the domain picks. -/
def State.domsWhere (s : State) (p : Dom → Bool) : List Nat :=
  (s.pool.doms.filter (fun e => decide (e.2.state ≠ 0) && p e.2)).map (·.1)

/-- Break every domain that has a tree neighbour on shelf `p` (R161: a hall flow toward it has failed). -/
def State.breakToward (s : State) (p : Nat) : State :=
  s.forEach (s.domsWhere (fun d => (s.treeNeighbours d).contains p)) (fun s i => s.breakDomain i false)

/-- Break every domain with a tree word on fabric die `h` (R161). -/
def State.breakOnDie (s : State) (h : Nat) : State :=
  s.forEach (s.domsWhere (fun d => d.treeWords.any (fun w => w / dieWords = h))) (fun s i => s.breakDomain i false)

/-- Break every domain before the service stops on entry to Safe (R161). -/
def State.breakAllQuiet (s : State) : State := s.forEach (s.domsWhere (fun _ => true)) (fun s i => s.breakDomain i true)

/-- Words and descriptors on a lost die are reported to their tenants: events 4 and 5 (R162). -/
def State.reportLost (s : State) (h : Nat) (words descs : Bool) : State :=
  s.forEach (List.range 64) (fun s t =>
    if s.nat (Obj.tenantState t) = 0 then s
    else
      let tag := s.nat (Obj.tenantTag t)
      let nw := countP (fun w => w / dieWords = h) (s.wordsOf tag)
      let nd := countP (fun v => v / dieDescs = h) (s.descsOf tag)
      let s1 := if words ∧ nw > 0 then s.tenantEvent tag 4 nw else s
      if descs ∧ nd > 0 then s1.tenantEvent tag 5 nd else s1)

/-- Descriptors on a lost die are lost: they disarm and their unsent messages go with the die (Table 5.11a). -/
def State.loseDescs (s : State) (h : Nat) : State :=
  (s.pool.descs.filter (fun e => e.2.armed && e.1 / dieDescs = h)).foldl (fun s e => s.disarm e.1) s

/-! The home: R157, R158 -/

/-- DomainResult (R158). -/
def State.setDomainResult (s : State) (id result shelf stage : Nat) : State :=
  s.setBlob Obj.domainResult (leBytes 2 id ++ [result, shelf, stage, 0, 0, 0])

/-- The creation that runs. -/
def State.setCreate (s : State) (c : Option Creation) : State := { s with pool := { s.pool with create := c } }

/-- A creation runs: one that failed stands only for the tick in which further refusals may reach the home. -/
def State.createBusy (s : State) : Bool :=
  match s.pool.create with
  | none => false
  | some c => c.failed.isNone

/-- Member effect of a stage on this shelf: the answer. -/
def State.memberStage (s : State) (stage home id : Nat) (body : List Nat) : Nat × State :=
  if stage = 1 then s.memberPrepare home body
  else
    match s.domSlot id with
    | none => (if stage ≥ 4 then rsOk else rsStateRefused, s)
    | some i =>
      let d := s.dom i
      if stage = 2 then (if d.state = 1 then (rsOk, s.memberCommit i) else (rsStateRefused, s))
      else if stage = 3 then (if d.state = 2 then (rsOk, s.memberOpen i) else (rsStateRefused, s))
      else if stage = 4 then (rsOk, if d.state = 1 ∨ d.state = 2 then s.memberAbort i else s)
      else if stage = 5 then (rsOk, if d.state = 3 ∨ d.state = 4 ∨ d.state = 2 then s.memberClose i (home = s.own) else s)
      else (rsOk, s.breakDomain i false)

/-- A creation fails: result, and abort to every member that has prepared (R157). Refusals of the same tick are ordered by shelf. -/
def State.createFail (s : State) (result shelf : Nat) : State :=
  match s.pool.create with
  | none => s
  | some c =>
    match c.failed with
    | some (_, sh, at_) =>
      if at_ / us = s.now / us ∧ shelf < sh then
        (s.setCreate (some { c with failed := some (result, shelf, at_) })).setDomainResult c.id result shelf c.stage
      else s
    | none =>
      let s1 := (s.setCreate (some { c with failed := some (result, shelf, s.now) })).setDomainResult c.id result shelf c.stage
      if c.stage ≤ 3 then
        s1.forEach c.prepared (fun s m => if m = s.own then (s.memberStage 4 s.own c.id []).2 else (s.sendNotice m 4 s.own c.id []).2)
      else s1

/-- Send a stage's notice to every member, this shelf excepted; then this shelf's own answer is counted. -/
def State.createStage (s : State) (c : Creation) (stage : Nat) : State :=
  let body := if stage = 2 then c.desc else []
  let r := (c.members.filter (· != s.own)).foldl (fun (a : List (Nat × Nat) × State) m =>
    let q := a.2.sendNotice m (stage - 1) s.own c.id body
    ((q.1, m) :: a.1, q.2)) ([], s)
  r.2.setCreate (some { c with stage := stage, answered := [], tids := r.1, since := s.now })

/-- A member's answer Ok is counted; when all have answered the next stage begins (R157). `n` bounds the stages run at once on a
domain of this shelf alone. -/
def State.createAnswer : Nat → State → Nat → State
  | 0, s, _ => s
  | n + 1, s, m =>
    match s.pool.create with
    | none => s
    | some c =>
      let c1 := { c with
        answered := (m :: c.answered).eraseDups
        prepared := if c.stage = 2 then (m :: c.prepared).eraseDups else c.prepared }
      let s1 := s.setCreate (some c1)
      if c.members.all (fun x => c1.answered.contains x) then
        if c.stage = 4 then (s1.setDomainResult c.id rsOk s.own 4).setCreate none
        else
          let s2 := s1.createStage c1 (c.stage + 1)
          let r := s2.memberStage c.stage s.own c.id c.desc
          if r.1 = rsOk then createAnswer n r.2 s.own else r.2.createFail r.1 s.own
      else s1

/-- A write to DomainCreate (R156 to R158): 0, or the abort code. -/
def State.domainCreate (s : State) (b : List Nat) : Nat × State :=
  let id := descId b
  if s.createBusy then (0x08000022, s.setDomainResult id syCreationBusy s.own 1)
  else
    match descCheck s.own b with
    | some c => (0, s.setDomainResult id c s.own 1)
    | none =>
      let c : Creation := { desc := b, id := id, tenant := descTenant b, members := (descShelves b).map (·.1) }
      let s1 := (s.setCreate (some c)).createStage c 2
      let r := s1.memberStage 1 s.own id b
      (0, if r.1 = rsOk then State.createAnswer 4 r.2 s.own else r.2.createFail r.1 s.own)

/-- A member's WriteResponse to a notice of the stage in progress; one that has prepared after the creation failed is told to abort (R157). -/
def State.peerAnswer (s : State) (tid shelf result : Nat) : State :=
  match s.pool.create with
  | none => s
  | some c =>
    if c.tids.contains (tid, shelf) then
      if result ≠ rsOk then s.createFail result shelf
      else if c.failed.isNone then State.createAnswer 4 s shelf
      else if c.stage = 2 then (s.sendNotice shelf 4 s.own c.id []).2
      else s
    else s

/-- A write to DomainClose on the home: 0, or the abort code (R160). -/
def State.domainClose (s : State) (id : Nat) : Nat × State :=
  match s.domSlot id with
  | none => (0x08000022, s)
  | some i =>
    let d := s.dom i
    if d.home ≠ s.own ∨ ¬(d.state = 3 ∨ d.state = 4) then (0x08000022, s)
    else
      let s1 := s.forEach (d.members.filter (· != s.own)) (fun s m =>
        if (s.route m 0).isSome then (s.sendNotice m 5 s.own id []).2 else s)
      (0, s1.memberClose i true)

/-! Tenants' resources: R138, R139 -/

/-- Free a tenant's descriptors without messages, and check and free its words; the count quarantined. -/
def State.freeTenant (s : State) (tag : Nat) : Nat × State :=
  let s1 := s.forEach (s.descsOf tag) (fun s v => (s.disarm v).setDesc v {})
  let s2 := { s1 with pool := { s1.pool with queues := s1.pool.queues.filter (fun q => decide ((s1.word q.head).tenant ≠ tag)) } }
  s2.freeWords ((s2.wordsOf tag).filter (fun w => !(s2.word w).reserved && (s2.word w).managed = 0))

end Sys2Proof.Machine
end

