-- ==== Sys2Proof/Machine/HistOps.lean ====
section
/-! DEFINITION. Channels, rings, windows and stacks: shared operations of spec/09_history_memory.md. -/

namespace Sys2Proof.Machine

/-- Result codes of Table 9.5. -/
abbrev hsQuotaExceeded : Nat := 0x53
abbrev hsCapacityExhausted : Nat := 0x54
abbrev hsTenantNotOpen : Nat := 0x57
abbrev hsChannelNotDefined : Nat := 0x5C
abbrev hsChannelNotWritable : Nat := 0x5D
abbrev hsParameterInvalid : Nat := 0x5E
abbrev hsRingLost : Nat := 0x5F
abbrev hsChannelInUse : Nat := 0x60

/-- The module's T: hall time in µs (R270). -/
def State.histT (s : State) : Nat := s.hall / us

/-! Channels: Table 9.3 -/

/-- Free channels. -/
def chanFree (c : Nat) : Bool := 0x1000 ≤ c ∧ c ≤ 0xFFFF
/-- Channels that trays feed. -/
def chanTray (c : Nat) : Bool := c < 0x24
/-- Channels that the module feeds. -/
def chanModule (c : Nat) : Bool :=
  (0x24 ≤ c ∧ c ≤ 0x36) ∨ (0x40 ≤ c ∧ c ≤ 0x6F) ∨ (0x100 ≤ c ∧ c ≤ 0x13F) ∨ (0x200 ≤ c ∧ c ≤ 0x43F)
/-- The channel is no reserved value. -/
def chanKnown (c : Nat) : Bool := chanFree c || chanTray c || chanModule c

/-- The definition of a channel; State 0 where it has none. -/
def State.ringDef (s : State) (c : Nat) : RingDef := smGet (fun _ => { state := 0 }) s.hist.rings c

/-- Replace the definition of a channel. -/
def State.setRingDef (s : State) (c : Nat) (r : RingDef) : State :=
  { s with hist := { s.hist with rings := smSet (fun _ => { state := 0 }) s.hist.rings c r } }

/-- A ring that holds samples: State 2 or 3. -/
def RingDef.live (r : RingDef) : Bool := r.state = 2 ∨ r.state = 3

/-! Ring storage: R272 to R275, R277 -/

/-- Key of position `p` of level `l` in a ring's storage. -/
def ringKey (l p : Nat) : Nat := l * 2 ^ 24 + p

/-- Sample at position `p` of level `l`. -/
def RingDef.atPos (r : RingDef) (l p : Nat) : Int := smGet (fun _ => gapVal) r.data (ringKey l p)

/-- Store a sample at a position; the gap code removes it. -/
def RingDef.put (r : RingDef) (l p : Nat) (v : Int) : RingDef :=
  { r with data := smSet (fun _ => gapVal) r.data (ringKey l p) v }

/-- Slots of level `l`. -/
def RingDef.slots (r : RingDef) (l : Nat) : Nat := if l = 0 then r.n0 else r.nUpper

/-- Bytes of a sample. -/
def RingDef.width (r : RingDef) : Nat := if r.wide then 4 else 2

/-- Bytes of level `l`, rounded up to 64 KiB (R277). -/
def RingDef.levelBytes (r : RingDef) (l : Nat) : Nat := (r.slots l * r.width + 65535) / 65536 * 65536

/-- Bytes of one copy. -/
def RingDef.copyBytes (r : RingDef) : Nat := sumN ((List.range r.levels).map r.levelBytes)

/-- Bytes charged: every copy (R276). -/
def RingDef.bytes (r : RingDef) : Nat := r.copyBytes * (if r.mirror then 2 else 1)

/-- Raw offset of level `l` from the ring's base. -/
def RingDef.levelOff (r : RingDef) (l : Nat) : Nat := sumN ((List.range l).map r.levelBytes)

/-- The reduction of D inputs (R274). -/
def reduceSlots (red : Nat) (l : List Int) : Int :=
  let v := l.filter (· != gapVal)
  match v with
  | [] => gapVal
  | a :: rest =>
    if red = 1 then rest.foldl min a
    else if red = 2 then rest.foldl max a
    else divRound (sumI v) v.length

/-- A final slot's value goes to the level above, which computes its next slot when it has D of them (R274). -/
def pushUp (d red n : Nat) : Nat → List UpLevel → List (Nat × Int) → Int → List UpLevel × List (Nat × Int)
  | _, [], data, _ => ([], data)
  | l, u :: rest, data, v =>
    let b := u.buf ++ [v]
    if b.length < d then ({ u with buf := b } :: rest, data)
    else
      let w := reduceSlots red b
      let r := pushUp d red n (l + 1) rest (smSet (fun _ => gapVal) data (ringKey l (u.count % n)) w) w
      ({ count := u.count + 1, buf := [] } :: r.1, r.2)

/-- The head enters the next slot: the gap code goes to its position, and the slot that becomes final is reduced (R272, R274). -/
def RingDef.advanceOne (r : RingDef) : RingDef :=
  let h := r.head + 1
  let r0 : RingDef := { r with head := h }
  let r1 := r0.put 0 (h % r.n0) gapVal
  if h < r.late then r1
  else
    let p := pushUp r.factor r.reduction r.nUpper 1 r1.up r1.data (r1.atPos 0 ((h - r.late) % r.n0))
    { r1 with up := p.1, data := p.2 }

/-- The ring with its head where time `t` in µs puts it. -/
def RingDef.advance (r : RingDef) (t : Nat) : RingDef :=
  (List.range (t / r.period - r.head)).foldl (fun r _ => r.advanceOne) r

/-- The head of channel `c`'s ring goes on to now (R272). -/
def State.advanceRing (s : State) (c : Nat) : State :=
  let r := s.ringDef c
  if r.live then s.setRingDef c (r.advance s.histT) else s

/-- The value a ring stores: clamped so that no sample reads as a gap (R272). -/
def RingDef.clamp (r : RingDef) (v : Int) : Int := if r.wide then clampI (-2147483647) 2147483647 v else clampI (-32767) 32767 v

/-- A sample with time `t` arrives at an advanced ring (R273). -/
def RingDef.arrive (r : RingDef) (v : Int) (t : Nat) : RingDef :=
  let sl := t / r.period
  if r.head < sl then
    let r0 : RingDef := { r with earlyN := (r.earlyN + 1) % 2 ^ 32 }
    r0.put 0 (r.head % r.n0) (r.clamp v)
  else if r.head < sl + r.late then r.put 0 (sl % r.n0) (r.clamp v)
  else { r with lateN := (r.lateN + 1) % 2 ^ 32 }

/-- A sample of a channel: its latest value (R271) and its ring (R273). -/
def State.sample (s : State) (c : Nat) (v : Int) (t : Nat) : State :=
  let last := smGet (fun _ => ((gapVal, 0) : Int × Nat)) s.hist.latest c
  let s1 := if last.2 ≤ t then
      { s with hist := { s.hist with latest := smSet (fun _ => ((gapVal, 0) : Int × Nat)) s.hist.latest c (v, t) } }
    else s
  let r := s1.ringDef c
  if r.live then s1.setRingDef c ((r.advance s1.histT).arrive v t) else s1

/-- The module publishes a sample of its own, stamped now (R270). -/
def State.publish (s : State) (c : Nat) (v : Int) : State := s.sample c v s.histT

/-- A fabric sample's tag expanded to the time nearest to now; none where the sample is stamped with its arrival (R270). -/
def State.expandTag (s : State) (tag : Nat) : Option Nat :=
  let t := s.histT
  let e : Nat := t / 4294967296 * 4294967296
  let dist := fun (c : Int) => (c - t).natAbs
  let mid : Int := (e : Int) + tag
  let best := [mid - 4294967296, mid, mid + 4294967296].foldl (fun (a b : Int) => if dist b < dist a then b else a) mid
  if tag = 0 ∨ best < 0 ∨ s.nat Obj.tagTolerance < dist best then none else some best.toNat

/-- A fabric sample of an accepted Write (R270, R271, R273). -/
def State.fabricSample (s : State) (c v tag : Nat) : State :=
  match s.expandTag tag with
  | some t => s.sample c (toSigned 32 v) t
  | none => (s.sample c (toSigned 32 v) s.histT).count Obj.restampedSamples

/-- Latest value and tag of a channel as region 0x2 reads them. -/
def State.latestEntry (s : State) (c : Nat) : Nat × Nat :=
  let last := smGet (fun _ => ((gapVal, 0) : Int × Nat)) s.hist.latest c
  (toPattern 32 last.1, last.2 % 2 ^ 32)

/-- Slot `sl` of level `l` of an advanced ring, a gap where it is not valid (R275). -/
def RingDef.slot (r : RingDef) (l : Nat) (sl : Int) : Int :=
  let newest : Int := if l = 0 then (r.head : Int) else ((r.up.getD (l - 1) {}).count : Int) - 1
  if 0 ≤ sl ∧ sl ≤ newest ∧ newest - sl ≤ (r.slots l : Int) - 1 then r.atPos l (sl.toNat % r.slots l) else gapVal

/-- The bytes of a sample in a ring of width `w`. -/
def sampleBytes (w : Nat) (v : Int) : List Nat := leBytes w (if v = gapVal then 2 ^ (8 * w - 1) else toPattern (8 * w) v)

/-! Windows: R281 to R285 -/

/-- A window by number. -/
def State.window (s : State) (w : Nat) : Option WindowDef := (s.hist.windows.find? (fun e => e.1 = w)).map (·.2)

/-- The anchor of window `d` for step back `j`: the instant in µs, or none where the domain has too few marks (R283). -/
def State.anchorOf (s : State) (d : WindowDef) (j : Nat) : Option Nat :=
  if d.anchor = 0 then some s.histT
  else
    match s.domSlot d.domain with
    | none => none
    | some i => ((smGet (fun _ => []) s.hist.marks i)[j]?).map (·.2)

/-- Bytes `b` to `b + n - 1` of a window whose anchor resolved to `t`; gaps past its samples (R281, R283). -/
def State.windowBytes (s : State) (d : WindowDef) (t : Option Nat) (b n : Nat) : List Nat :=
  let r := s.ringDef d.channel
  let rr := if r.live then r.advance s.histT else r
  let w := r.width
  let per : Int := r.period * r.factor ^ d.level
  let samp := fun (i : Nat) =>
    match t with
    | none => gapVal
    | some t =>
      if i < d.samples ∧ r.live then rr.slot d.level (((t : Int) + d.start) / per + i) else gapVal
  let first := b / w
  let last := (b + n + w - 1) / w
  slice (((List.range (last - first)).map (fun i => sampleBytes w (samp (first + i)))).flatten) (b - first * w) n

/-- The ring whose raw copy holds offset `off`, with its channel (R277, R280). -/
def State.rawRing (s : State) (off : Nat) : Option (Nat × RingDef) :=
  s.hist.rings.find? (fun e => decide (2 ≤ e.2.state) && decide (e.2.base ≤ off) && decide (off < e.2.base + e.2.copyBytes))

/-- Level of a ring that holds byte `o` of its copy. -/
def RingDef.levelAt (r : RingDef) (o : Nat) : Nat :=
  ((List.range r.levels).filter (fun l => r.levelOff l ≤ o)).getLastD 0

/-- Raw bytes of an advanced ring from byte `o` of its copy, or none where they leave the slots of one level (R280). -/
def RingDef.rawBytes (r : RingDef) (o n : Nat) : Option (List Nat) :=
  let l := r.levelAt o
  let b := o - r.levelOff l
  if b + n ≤ r.slots l * r.width then
    let w := r.width
    let first := b / w
    let last := (b + n + w - 1) / w
    some (slice (((List.range (last - first)).map (fun i => sampleBytes w (r.atPos l (first + i)))).flatten) (b - first * w) n)
  else none

/-! Placement: R266, R267, R286 -/

/-- Stack `k` is in service. -/
def State.stackOk (s : State) (k : Nat) : Bool := s.nat (Obj.stackState k) = 2

/-- Bytes that stack `k` still has for allocations. -/
def State.stackRoom (s : State) (k : Nat) : Nat :=
  32 * 2 ^ 30 - 256 * 2 ^ 20 - s.nat (Obj.historyBytes k) - s.nat (Obj.otherBytes k)

/-- Bytes of primary copies in stack `k`. -/
def State.primaryBytes (s : State) (k : Nat) : Nat :=
  sumN ((s.hist.rings.filter (fun e => e.2.primary = k)).map (fun e => e.2.copyBytes))

/-- Ingest demand of one copy in kB/s (R286). -/
def RingDef.demand (r : RingDef) : Rat :=
  (1000 * r.width : Nat) / (r.period : Rat) * ((List.range r.levels).map (fun l => 1 / ((r.factor : Rat) ^ l))).foldl (· + ·) 0

/-- Ingest demand of stack `k` in kB/s. -/
def State.stackDemand (s : State) (k : Nat) : Rat :=
  ((s.hist.rings.filter (fun e => e.2.primary = k ∨ e.2.mirrorAt = k)).map (fun e => e.2.demand)).foldl (· + ·) 0

/-- The stack of `l` that is least under the keys, the first of equals. -/
def leastBy (f : Nat → List Nat) : List Nat → Option Nat
  | [] => none
  | a :: r =>
    match leastBy f r with
    | none => some a
    | some b => if List.lex (f b) (f a) then some b else some a

/-- Stack for a primary copy of `n` bytes (R267). -/
def State.placePrimary (s : State) (n : Nat) : Option Nat :=
  leastBy (fun k => [s.primaryBytes k, s.nat (Obj.historyBytes k)])
    ((List.range 8).filter (fun k => s.stackOk k && decide (n ≤ s.stackRoom k)))

/-- Stack for a mirror copy of `n` bytes in the half other than that of stack `p` (R267). -/
def State.placeMirror (s : State) (p n : Nat) : Option Nat :=
  leastBy (fun k => [s.nat (Obj.historyBytes k)])
    ((List.range 8).filter (fun k => k / 4 != p / 4 && s.stackOk k && decide (n ≤ s.stackRoom k)))

/-- Lowest base at which `n` bytes fit between the rings, given their (base, bytes) in rising order (DESIGN CHOICE, log entry 30). -/
def baseGap (n : Nat) : Nat → List (Nat × Nat) → Nat
  | lo, [] => lo
  | lo, (b, m) :: r => if lo + n ≤ b then lo else baseGap n (max lo (b + m)) r

/-- Insert into a list of pairs by the first. -/
def insPair (e : Nat × Nat) : List (Nat × Nat) → List (Nat × Nat)
  | [] => [e]
  | x :: r => if e.1 < x.1 then e :: x :: r else x :: insPair e r

/-- The raw base of a new ring. -/
def State.newBase (s : State) (n : Nat) : Nat :=
  baseGap n 0 ((s.hist.rings.filter (fun e => 2 ≤ e.2.state)).foldl (fun l e => insPair (e.2.base, e.2.copyBytes) l) [])

/-- Bring a stack record's history objects up to date. -/
def State.stackAccount (s : State) (k : Nat) : State :=
  if s.stackOk k then
    (s.setNat (Obj.historyBytes k)
      (sumN ((s.hist.rings.filter (fun e => e.2.primary = k ∨ e.2.mirrorAt = k)).map (fun e => e.2.copyBytes)))).setNat
        (Obj.ingestDemand k) (s.stackDemand k).floor.toNat
  else (s.setNat (Obj.historyBytes k) 0).setNat (Obj.ingestDemand k) 0

/-- Upper levels of a ring defined with its head at slot `h`: every slot before it counts as a gap. -/
def freshUp : Nat → Nat → Nat → List UpLevel
  | 0, _, _ => []
  | n + 1, d, c => { count := c / d, buf := List.replicate (c % d) gapVal } :: freshUp n d (c / d)

/-- A ring at the moment it is defined. -/
def RingDef.fresh (r : RingDef) (t : Nat) : RingDef :=
  let h := t / r.period
  { r with head := h, data := [], up := freshUp (r.levels - 1) r.factor (if r.late ≤ h then h - r.late + 1 else 0) }

/-- Define a ring on channel `c`, or answer why not (R276, R267, R286). `boot`: the default rings of R278, which a boot without
the other half's stacks defines with their mirror lost (DEDUCED, log entry 31). -/
def State.defineRing (s : State) (c : Nat) (r : RingDef) (boot : Bool) : Except Nat State :=
  let n := r.copyBytes
  if s.nat Obj.historyCapacity < s.nat Obj.historyInUse + r.bytes then .error hsCapacityExhausted
  else
    match s.placePrimary n with
    | none => .error hsCapacityExhausted
    | some p =>
      let m := if r.mirror then s.placeMirror p n else none
      if r.mirror ∧ m = none ∧ !boot then .error hsCapacityExhausted
      else
        let past := fun k => decide (73700000 < s.stackDemand k + r.demand)
        if past p || (m.map past).getD false then .error hsCapacityExhausted
        else
          let r1 := { r.fresh s.histT with
            state := if r.mirror ∧ m = none then 3 else 2
            primary := p
            mirrorAt := m.getD 255
            base := s.newBase n }
          let s1 := (s.setRingDef c r1).setNat Obj.historyInUse (s.nat Obj.historyInUse + r.bytes)
          let s2 := match m with
            | some k => (s1.stackAccount p).stackAccount k
            | none => s1.stackAccount p
          .ok s2

/-- Remove a channel's definition with its ring (R276, R279). -/
def State.removeRing (s : State) (c : Nat) : State :=
  let r := s.ringDef c
  let s1 := { s with hist := { s.hist with rings := smErase s.hist.rings c } }
  if 2 ≤ r.state then
    let s2 := s1.setNat Obj.historyInUse (s1.nat Obj.historyInUse - r.bytes)
    let s3 := match s2.slotOf r.owner with
      | some t => if r.owner = 0 then s2 else s2.setNat (Obj.historyBytesInUse t) (s2.nat (Obj.historyBytesInUse t) - r.bytes)
      | none => s2
    let s4 := if r.primary < 8 then s3.stackAccount r.primary else s3
    if r.mirrorAt < 8 then s4.stackAccount r.mirrorAt else s4
  else s1

/-- A history read of channel `c` is in progress: an XFER of kind 4 outstanding (R279). -/
def State.ringRead (s : State) (c : Nat) : Bool :=
  s.pecan.arrays.any (fun a => a.2.xfers.any (fun x => x.ring = c + 1))

/-- Channel or window a tenant may read: granted to its slot (R284). -/
def State.granted (s : State) (tag c : Nat) : Bool :=
  match s.slotOf tag with
  | some t => bitOf (s.ringDef c).grants t
  | none => false

/-! Requests: R276, R285 -/

/-- A request is executing: a delete waits for its reads. -/
def State.histBusy (s : State) : Bool := s.hist.rings.any (fun e => e.2.deleting)

/-- The result of Table 9.4 for channel `c`. -/
def State.channelResultBytes (s : State) (op code c : Nat) : List Nat :=
  let r := s.ringDef c
  [op, code] ++ leBytes 2 c ++ [r.state, r.primary, r.mirrorAt, 0] ++ leBytes 8 r.base ++ leBytes 4 r.lateN ++ leBytes 4 r.earlyN ++
    leBytes 8 r.grants

/-- Finish a channel request. -/
def State.channelDone (s : State) (op code c : Nat) : State := s.setBlob Obj.channelResult (s.channelResultBytes op code c)

/-- Fields of Table 9.4 that define a ring. -/
def reqRing (b : List Nat) : RingDef := {
  owner := listGet 0 b 4
  levels := listGet 0 b 5
  factor := listGet 0 b 6
  reduction := listGet 0 b 7
  period := leNat (slice b 8 4)
  n0 := leNat (slice b 12 4)
  nUpper := leNat (slice b 16 4)
  late := leNat (slice b 20 2)
  wide := bitOf (listGet 0 b 1) 1
  mirror := bitOf (listGet 0 b 1) 0
  state := 2 }

/-- The fields of a ring definition are in range (Table 9.4). -/
def RingDef.ok (r : RingDef) : Bool :=
  decide (1 ≤ r.levels ∧ r.levels ≤ 8 ∧ r.reduction ≤ 2 ∧ 1 ≤ r.period ∧ r.period ≤ 1000000 ∧
    1024 ≤ r.n0 ∧ r.n0 ≤ 10485760 ∧ 1 ≤ r.late ∧ r.late ≤ min 4096 (r.n0 - 1)) &&
  (decide (r.levels = 1) || decide (2 ≤ r.factor ∧ r.factor ≤ 16 ∧ 1024 ≤ r.nUpper ∧ r.nUpper ≤ 10485760))

/-- Reserved fields of a ChannelRequest are zero. -/
def reqRingReserved (b : List Nat) : Bool := listGet 0 b 1 < 4 ∧ leNat (slice b 22 2) = 0

/-- Define, Op 1 of Table 9.4. -/
def State.channelDefine (s : State) (b : List Nat) : State :=
  let c := leNat (slice b 2 2)
  let r := reqRing b
  let done := fun code => s.channelDone 1 code c
  if !chanKnown c then done hsChannelNotWritable
  else if !reqRingReserved b || (r.levels = 0 && !chanFree c) || (!(r.levels = 0) && !r.ok) || (!chanFree c && r.owner != 0) then
    done hsParameterInvalid
  else if (s.ringDef c).state ≠ 0 then done hsChannelInUse
  else if r.owner ≠ 0 ∧ !s.tenantOpen r.owner then done hsTenantNotOpen
  else if r.levels = 0 then
    let s1 := s.setRingDef c { owner := r.owner, state := 1, grants := (s.ringDef c).grants }
    s1.channelDone 1 0 c
  else
    let slot := if r.owner = 0 then none else s.slotOf r.owner
    let used := (slot.map (fun t => s.nat (Obj.historyBytesInUse t))).getD 0
    if (slot.map (fun t => decide (s.nat (Obj.historyQuota t) < used + r.bytes))).getD false then done hsQuotaExceeded
    else
      match s.defineRing c { r with grants := (s.ringDef c).grants } false with
      | .error e => done e
      | .ok s1 =>
        let s2 := match slot with
          | some t => s1.setNat (Obj.historyBytesInUse t) (used + r.bytes)
          | none => s1
        s2.channelDone 1 0 c

/-- Code that ops 2 and 4 answer for a channel they cannot name. -/
def State.channelBad (s : State) (c : Nat) : Option Nat :=
  if !chanKnown c then some hsChannelNotWritable
  else if chanFree c ∧ (s.ringDef c).state = 0 then some hsChannelNotDefined
  else none

/-- Delete, Op 2: at once, or when the reads that began before it have ended (R279). -/
def State.channelDelete (s : State) (b : List Nat) : State :=
  let c := leNat (slice b 2 2)
  if (s.channelBad c).isSome ∨ (s.ringDef c).state = 0 then s.channelDone 2 ((s.channelBad c).getD hsChannelNotDefined) c
  else if s.ringRead c then s.setRingDef c { s.ringDef c with deleting := true }
  else (s.removeRing c).channelDone 2 0 c

/-- Query, Op 3. -/
def State.channelQuery (s : State) (b : List Nat) : State :=
  let c := leNat (slice b 2 2)
  (s.advanceRing c).channelDone 3 (if chanKnown c then 0 else hsChannelNotWritable) c

/-- Set grants, Op 4. -/
def State.channelGrants (s : State) (b : List Nat) : State :=
  let c := leNat (slice b 2 2)
  match s.channelBad c with
  | some e => s.channelDone 4 e c
  | none => (s.setRingDef c { s.ringDef c with grants := leNat (slice b 24 8) }).channelDone 4 0 c

/-- Who may make a ChannelRequest (R276). -/
def State.channelRole (s : State) (role : Role) (b : List Nat) : Bool :=
  let c := leNat (slice b 2 2)
  match role with
  | .operator => true
  | .tenant tag =>
    let op := listGet 0 b 0
    if op = 3 then s.granted tag c || (chanFree c && (s.ringDef c).state != 0 && (s.ringDef c).owner = tag)
    else if op = 1 then chanFree c && listGet 0 b 4 = tag
    else chanFree c && ((s.ringDef c).state = 0 || (s.ringDef c).owner = tag)
  | _ => false

/-- Finish a window request. -/
def State.windowDone (s : State) (op code w bytes : Nat) : State :=
  s.setBlob Obj.windowResult ([op, code] ++ leBytes 2 w ++ leBytes 4 bytes ++ List.replicate 8 0)

/-- Lowest free window number, of 4,096. -/
def State.freeWindow (s : State) : Option Nat := findGap 1 4096 0 (s.hist.windows.map (·.1))

/-- Samples × width of a window. -/
def State.windowSize (s : State) (d : WindowDef) : Nat := d.samples * (s.ringDef d.channel).width

/-- Reserved fields of a WindowRequest are zero. -/
def reqWindowReserved (b : List Nat) : Bool := leNat (slice b 10 2) = 0 ∧ slice b 20 12 = List.replicate 12 0

/-- Window operations, Table 9.8: define. -/
def State.windowDefine (s : State) (b : List Nat) : State :=
  let d : WindowDef := {
    anchor := listGet 0 b 1, channel := leNat (slice b 4 2), level := listGet 0 b 6, owner := listGet 0 b 7
    domain := leNat (slice b 8 2), start := toSigned 32 (leNat (slice b 12 4)), samples := leNat (slice b 16 4) }
  let r := s.ringDef d.channel
  let done := fun code => s.windowDone 1 code 0 0
  let domOk : Bool := decide (d.anchor = 0) || (match s.domSlot d.domain with
    | some i => decide ((s.dom i).tenant = d.owner ∨ d.owner = 0)
    | none => false)
  if !reqWindowReserved b ∨ 1 < d.anchor ∨ d.samples = 0 ∨ !domOk then done hsParameterInvalid
  else if !r.live && r.state != 4 then done hsChannelNotDefined
  else if r.levels ≤ d.level ∨ 65536 < d.samples * r.width then done hsParameterInvalid
  else if d.owner ≠ 0 ∧ !s.tenantOpen d.owner then done hsTenantNotOpen
  else if d.owner ≠ 0 ∧ !s.granted d.owner d.channel then done hsParameterInvalid
  else if r.state = 4 then done hsRingLost
  else
    let slot := if d.owner = 0 then none else s.slotOf d.owner
    if (slot.map (fun t => decide (s.nat (Obj.windowQuota t) ≤ s.nat (Obj.windowsInUse t)))).getD false then done hsQuotaExceeded
    else
      match s.freeWindow with
      | none => done hsCapacityExhausted
      | some w =>
        let s1 := { s with hist := { s.hist with windows := smPut s.hist.windows w d } }
        let s2 := match slot with
          | some t => s1.setNat (Obj.windowsInUse t) (s1.nat (Obj.windowsInUse t) + 1)
          | none => s1
        s2.windowDone 1 0 w (d.samples * r.width)

/-- Forget a window. -/
def State.dropWindow (s : State) (w : Nat) : State :=
  match s.window w with
  | none => s
  | some d =>
    let s1 := { s with hist := { s.hist with windows := smErase s.hist.windows w } }
    match (if d.owner = 0 then none else s1.slotOf d.owner) with
    | some t => s1.setNat (Obj.windowsInUse t) (s1.nat (Obj.windowsInUse t) - 1)
    | none => s1

/-- Window operations: free, Op 2, and query, Op 3. A window number that names none is a field out of range. -/
def State.windowFree (s : State) (b : List Nat) : State :=
  let w := leNat (slice b 2 2)
  match s.window w with
  | none => s.windowDone 2 hsParameterInvalid w 0
  | some d => (s.dropWindow w).windowDone 2 0 w (s.windowSize d)

def State.windowQuery (s : State) (b : List Nat) : State :=
  let w := leNat (slice b 2 2)
  match s.window w with
  | none => s.windowDone 3 hsParameterInvalid w 0
  | some d => s.windowDone 3 0 w (s.windowSize d)

/-- Who may make a WindowRequest (R285). -/
def State.windowRole (s : State) (role : Role) (b : List Nat) : Bool :=
  match role with
  | .operator => true
  | .tenant tag =>
    if listGet 0 b 0 = 1 then listGet 0 b 7 = tag
    else match s.window (leNat (slice b 2 2)) with
      | some d => d.owner = tag
      | none => true
  | _ => false

/-- Closing a tenant deletes its rings and windows and clears its bit in every grant mask (R279). A transfer that still
reads such a ring finds gaps (log entry 103). -/
def State.histCloseTenant (s : State) (slot tag : Nat) : State :=
  let s1 := s.forEach ((s.hist.windows.filter (fun e => e.2.owner = tag)).map (·.1)) State.dropWindow
  let s2 := s1.forEach ((s1.hist.rings.filter (fun e => e.2.owner = tag && 1 ≤ e.2.state)).map (·.1)) State.removeRing
  s2.forEach (s2.hist.rings.map (·.1)) (fun s c => s.setRingDef c { s.ringDef c with grants := setBit (s.ringDef c).grants slot false })

/-! Stack failures: R289, R290, Table 9.10 -/

/-- What the history in a failed stack becomes. -/
def State.histStackFail (s : State) (k : Nat) : State :=
  s.forEach ((s.hist.rings.filter (fun e => e.2.primary = k ∨ e.2.mirrorAt = k)).map (·.1)) (fun s c =>
    let r := s.ringDef c
    if r.primary = k then
      if r.mirrorAt < 8 then s.setRingDef c { r with primary := r.mirrorAt, mirrorAt := 255, state := 3 }
      else
        ((s.setRingDef c { r with primary := 255, state := 4, data := [] }).count Obj.ringsLost).event (stackBlock k) 12 c
    else s.setRingDef c { r with mirrorAt := 255, state := 3 })

/-- The default rings of R278. -/
def State.defineDefaults (s : State) : State :=
  s.forEach (List.range 36 ++ [0x30, 0x31, 0x32]) (fun s c =>
    if (s.ringDef c).state = 0 then
      match s.defineRing c {
          levels := 4, factor := 16, reduction := 0, period := 1, n0 := 10485760, nUpper := 1048576, late := 64
          wide := true, mirror := true, state := 2 } true with
      | .ok s1 => s1
      | .error _ => s
    else s)

end Sys2Proof.Machine
end

