-- ==== Sys2Proof/Machine/ArrayOps.lean ====
section
/-! DEFINITION. Array power states, placement, stopping and placing again: shared operations of spec/06_pecan_arrays.md and
spec/08_array_programs.md. -/

namespace Sys2Proof.Machine

/-! Operating points and power states: R187, R190 to R194 -/

/-- Array clock of a point in kHz (Table 6.8). -/
def pointKHz (p : Nat) : Nat := [1100000, 1050000, 1000000, 900000, 800000, 700000, 550000].getD p 400000

/-- Fast-lane tick period of a point in µs (R187). -/
def pointTick (p : Nat) : Nat := if p ≤ 4 then 1 else 2

/-- Entry and wake times of a power state, ns (Table 6.10). -/
def entryTime (st : Nat) : Nat := if st = 1 then 10 else if st = 2 then 2 * us else 5 * us
def wakeTime (st : Nat) : Nat := if st = 1 then 50 else if st = 2 then 20 * us else 2 * ms

/-- Bring an array's time counters up to date (Table 6.16). -/
def State.accountArr (s : State) (g : Nat) : State :=
  let a := s.arr g
  let dt := s.now - a.mark
  let s1 := match a.power with
    | 0 => s.count64 (Obj.timeActive g) dt
    | 1 => s.count64 (Obj.timeIdle g) dt
    | 2 => s.count64 (Obj.timeNap g) dt
    | 3 => s.count64 (Obj.timeSleep g) dt
    | _ => s
  s1.setArr g { a with mark := s.now }

/-- Change an array's state. -/
def State.setPower (s : State) (g st : Nat) : State :=
  let s1 := s.accountArr g
  s1.setArr g { s1.arr g with power := st }

/-- Die of array `g`. -/
def dieOf (g : Nat) : Nat := g / 16

/-- The die is out of placement: its fabric link port block is in its safe state (Table 17.5). -/
def State.dieOut (s : State) (d : Nat) : Bool := s.blockSafe (d / 4) (39 + 19 * (d % 4))

/-- An array in service: not faulted, not lost, its die running and in placement. -/
def State.inService (s : State) (g : Nat) : Bool :=
  let p := (s.arr g).power
  p != 5 && p != 6 && s.nat (Obj.dieState (dieOf g)) = 1 && !s.dieOut (dieOf g)

/-- ArraysAvailable of Table 6.14. -/
def State.arraysAvailableNow (s : State) : Nat :=
  countP (fun g => (s.arr g).power != 5 && (s.arr g).power != 6) (List.range 128)

/-- Every placed part, with its handle. -/
def State.allParts (s : State) : List (Nat × PartSt) := s.pecan.progs.flatMap (fun e => e.2.parts.map (fun p => (e.1, p)))

/-- Parts on array `g`. -/
def State.partsOn (s : State) (g : Nat) : List (Nat × PartSt) := s.allParts.filter (fun e => e.2.array = g)

/-- A fast-lane program is resident on `g`. -/
def State.fastOn (s : State) (g : Nat) : Bool := (s.partsOn g).any (fun e => (s.prog e.1).lane = 1)

/-- The store of `g` holds something to keep (R245). -/
def State.keeps (s : State) (g : Nat) : Bool := !(s.partsOn g).isEmpty

/-- The array has work now. -/
def State.hasWork (s : State) (g : Nat) : Bool :=
  let a := s.arr g
  a.cur.isSome || a.demand || a.testSince.isSome || a.loading || !a.xfers.isEmpty

/-- Expected barrier of a program on domain slot `i`: the instant, if 8 completions have been seen (Table 6.11). -/
def State.expectedBarrier (s : State) (i : Nat) : Option Nat :=
  let d := s.dom i
  let l := smGet (fun _ => []) s.pecan.intervals i
  match l with
  | [] => none
  | a :: r => if d.completed < 8 then none else some (d.lastCompletion + r.foldl min a - s.nat Obj.cadenceGuard * us)

/-- Slow-lane programs on `g` that a domain's completion triggers, with the domain's slot. -/
def State.barrierProgs (s : State) (g : Nat) : List Nat :=
  (s.partsOn g).filterMap (fun e =>
    let p := s.prog e.1
    if p.lane = 2 ∧ p.trigger = 3 ∧ p.state = pgRunning then s.domSlot p.domain else none)

/-- Instants of the known events of array `g` that lie ahead (Table 6.11), on the module's clock. -/
def State.knownEvents (s : State) (g : Nat) : List Nat :=
  let per := s.nat (Obj.fastTickPeriod (dieOf g)) * us
  let fast := if (s.partsOn g).any (fun e => (s.prog e.1).lane = 1 && (s.prog e.1).state = pgRunning) then
      [s.now + (per - s.hall % (max 1 per))] else []
  let barriers := (s.barrierProgs g).filterMap s.expectedBarrier
  let jobs := (s.partsOn g).filterMap (fun e =>
    let p := s.prog e.1
    if p.lane = 2 ∧ p.trigger = 2 ∧ p.state = pgRunning then
      some (s.now + (p.lastPeriodic + p.period * us - s.hall)) else none)
  (fast ++ barriers ++ jobs).filter (fun t => s.now ≤ t)

/-- The state R192 and R193 choose: 0 Active, 1 Idle, 2 Nap, 3 Sleep; and the time of the next event. -/
def State.choosePower (s : State) (g : Nat) : Nat × Option Nat :=
  if s.hasWork g then (0, none)
  else
    let ev := match s.knownEvents g with
      | [] => none
      | a :: r => some (r.foldl min a)
    let longer := fun th => match ev with
      | none => true
      | some e => decide (th ≤ e - s.now)
    let ctl := s.nat Obj.powerStateControl
    let c := if longer (s.nat Obj.sleepThreshold) && !s.keeps g && ctl = 0 then 3
      else if longer (s.nat Obj.napThreshold) && ctl ≤ 1 then 2
      else if longer (s.nat Obj.idleThreshold) && ctl ≤ 2 then 1 else 0
    let young := (s.barrierProgs g).any (fun i => decide ((s.dom i).completed < 8))
    let passed := (s.barrierProgs g).any (fun i => match s.expectedBarrier i with
      | some e => decide (e < s.now)
      | none => false)
    (if s.fastOn g || young || passed then min c 1 else c, ev)

/-- Begin to wake an array. -/
def State.startWake (s : State) (g : Nat) : State :=
  let a := s.arr g
  let s1 := s.setPower g 4
  let s2 := if 2 ≤ a.power then s1.count (Obj.wakeCount g) else s1
  s2.setArr g { s2.arr g with wakeFrom := a.power, wakeDone := s.now + wakeTime a.power, wakeAt := none }

/-- Choose the power state of an array whose work or events have changed (R192). -/
def State.rechoose (s : State) (g : Nat) : State :=
  let a0 := s.arr g
  let keep := (s.partsOn g).any (fun e => (s.prog e.1).run.isSome || (s.prog e.1).lane = 1)
  let a := if a0.demand && !keep then { a0 with demand := false } else a0
  let s := s.setArr g a
  if a.power = 5 ∨ a.power = 6 ∨ a.power = 4 then s
  else
    let (c, ev) := s.choosePower g
    let wakeAt := fun st => ev.map (fun e => e - wakeTime st - s.nat Obj.wakeMargin)
    if a.entering ≠ 0 then s.setArr g { a with wakeAt := wakeAt a.entering }
    else if c < a.power then
      let ctl := s.nat Obj.powerStateControl
      if c = 0 ∧ a.power = 1 then s.setPower g 0
      else if 2 ≤ a.power ∧ (c = 0 ∨ ev.isNone ∨ 4 ≤ a.power + ctl) then s.startWake g
      else s.setArr g { a with wakeAt := wakeAt a.power }
    else if c = a.power then s.setArr g { a with wakeAt := if c = 0 then none else wakeAt c }
    else s.setArr g { a with entering := c, entryDone := s.now + entryTime c, wakeAt := wakeAt c }

/-- A demand on array `g` (R194): true when the array can take work now. -/
def State.demandArr (s : State) (g : Nat) : Bool × State :=
  let a := s.arr g
  let late := fun (s : State) => if a.demand then s else s.count (Obj.lateWakes g)
  match a.power with
  | 0 => if a.entering ≤ 1 then (true, s.setArr g { a with entering := 0 })
    else (false, (late s).setArr g { a with demand := true })
  | 1 => if a.entering ≤ 1 then
      let s1 := (s.setArr g { a with entering := 0 }).setPower g 0
      (true, s1)
    else (false, (late s).setArr g { a with demand := true })
  | 2 => (false, (((late s).setArr g { a with demand := true }).startWake g))
  | 3 => (false, (((late s).setArr g { a with demand := true }).startWake g))
  | 4 => (false, (late s).setArr g { a with demand := true })
  | _ => (false, s)

/-! Stack bytes outside history: Table 9.14 -/

/-- Add to a stack's OtherBytes. -/
def State.otherAdd (s : State) (k n : Nat) : State := s.setNat (Obj.otherBytes k) (s.nat (Obj.otherBytes k) + n)
/-- Take from a stack's OtherBytes. -/
def State.otherSub (s : State) (k n : Nat) : State := s.setNat (Obj.otherBytes k) (s.nat (Obj.otherBytes k) - n)

/-- The healthy stack of those given with the most room for `n` bytes, lowest first (DESIGN CHOICE, log entry 32). -/
def State.bulkStack (s : State) (l : List Nat) (n : Nat) : Option Nat :=
  leastBy (fun k => [32 * 2 ^ 30 - s.stackRoom k]) (l.filter (fun k => s.stackOk k && decide (n ≤ s.stackRoom k)))

/-- Bytes `b`.. of stack memory, from 64-byte block key `k`. -/
def State.stackBlockAt (s : State) (k : Nat) : List Nat := smGet (fun _ => List.replicate 64 0) s.pecan.stack k
/-- Write a 64-byte block of stack memory, which ends an error in it. -/
def State.setStackBlock (s : State) (k : Nat) (v : List Nat) : State :=
  { s with pecan := { s.pecan with
      stack := smSet (fun _ => List.replicate 64 0) s.pecan.stack k v
      stackBad := smSet (fun _ => false) s.pecan.stackBad k false } }
/-- Key of the block at byte `b` of die `d`'s stack. -/
def stackKey (d b : Nat) : Nat := d * 2 ^ 29 + b / 64

/-! Array store -/

/-- Line `l` of an array's store. -/
def ArrSt.line (a : ArrSt) (l : Nat) : List Nat := smGet (fun _ => List.replicate 64 0) a.store l
/-- Write a whole line; a write in full ends its poison (R197). -/
def ArrSt.setLine (a : ArrSt) (l : Nat) (v : List Nat) : ArrSt :=
  { a with store := smSet (fun _ => List.replicate 64 0) a.store l (fitTo 64 v), poison := smErase a.poison l }
/-- Write lines from `l` on with bytes. -/
def ArrSt.setLines (a : ArrSt) (l : Nat) (bytes : List Nat) : ArrSt :=
  (List.range ((bytes.length + 63) / 64)).foldl (fun a i => a.setLine (l + i) (slice bytes (64 * i) 64)) a
/-- Bytes of `n` lines from `l` on. -/
def ArrSt.lines (a : ArrSt) (l n : Nat) : List Nat := (List.range n).flatMap (fun i => a.line (l + i))
/-- Entry `e` of lookup table `t`; one that nothing has loaded holds zero (R206). -/
def ArrSt.tableAt (a : ArrSt) (t e : Nat) : Nat := smGet (fun _ => 0) a.tables (t * 4096 + e)
/-- Fill table `t` from 16 KiB of store lines. -/
def ArrSt.loadTable (a : ArrSt) (t line : Nat) : ArrSt :=
  (List.range 256).foldl (fun a i =>
    let l := a.line (line + i)
    (List.range 16).foldl (fun a j => { a with tables := smPut a.tables (t * 4096 + 16 * i + j) (leNat (slice l (4 * j) 4)) }) a) a
/-- Zero table `t`. -/
def ArrSt.zeroTable (a : ArrSt) (t : Nat) : ArrSt :=
  { a with tables := (List.range 4096).foldl (fun m e => smPut m (t * 4096 + e) 0) a.tables }
/-- Copy entries 0 to 7 of table `t` into the CCR (R171). -/
def ArrSt.loadCurve (a : ArrSt) (t : Nat) : ArrSt :=
  { a with ccr := (List.range 8).map (fun e => a.tableAt t e % 65536), curve := t }

/-! Programs and their parts -/

/-- Parts per copy of a program that are present, copy A first. -/
def ProgSt.copyParts (p : ProgSt) (b : Bool) : List PartSt := p.parts.filter (fun q => q.copyB = b)

/-- Number that tells parts of all programs apart. -/
def partKey (h : Nat) (p : PartSt) : Nat := h * 128 + (if p.copyB then 64 else 0) + p.idx + 1

/-- Replace one part of a program. -/
def ProgSt.setPart (p : ProgSt) (b : Bool) (i : Nat) (f : PartSt → PartSt) : ProgSt :=
  { p with parts := p.parts.map (fun q => if q.copyB = b ∧ q.idx = i then f q else q) }

/-- A debug session holds die `d` halted: its sequencers run nothing (R564). -/
def State.dieHalted (s : State) (d : Nat) : Bool := smGet (fun _ => false) s.pecan.halted d

/-- The part that runs on array `g`. -/
def State.curPart (s : State) (g : Nat) : Option (PartRef × PartSt) :=
  match (if s.dieHalted (dieOf g) then none else (s.arr g).cur) with
  | none => none
  | some r =>
    match (s.prog r.handle).parts.find? (fun q => decide (q.copyB = r.copyB ∧ q.idx = r.part)) with
    | some q => some (r, q)
    | none => none

/-- Apply `f` to the part that a reference names. -/
def State.updPart (s : State) (r : PartRef) (f : PartSt → PartSt) : State :=
  s.setProg r.handle ((s.prog r.handle).setPart r.copyB r.part f)

/-- Mailboxes of a program: its number from MailboxBase, part, entry; copy A first (R259). -/
def ProgSt.mailboxes (p : ProgSt) : List (Nat × PartSt × MboxDesc) :=
  let l := p.parts.filter (fun q => !q.copyB) ++ p.parts.filter (fun q => q.copyB)
  let m := l.flatMap (fun q =>
    (q.decl.mboxes.foldl (fun (acc : List MboxDesc) e =>
      let (a, b) := acc.partition (fun x => x.loc < e.loc)
      a ++ [e] ++ b) []).map (fun e => (q, e)))
  m.zipIdx.map (fun x => (p.mailboxBase + x.2, x.1.1, x.1.2))

/-- The mailbox of number `m`, of copy A, with its handle (R259). -/
def State.mailbox (s : State) (m : Nat) : Option (Nat × PartSt × MboxDesc) :=
  (s.pecan.progs.filterMap (fun e =>
    match e.2.mailboxes.find? (fun x => decide (x.1 = m)) with
    | some x => if x.2.1.copyB then none else some (e.1, x.2.1, x.2.2)
    | none => none)).head?

/-- Stop what part `q` of handle `h` does on its array. -/
def State.haltPart (s : State) (h : Nat) (q : PartSt) : State :=
  let a := s.arr q.array
  match a.cur with
  | some r =>
    if r.handle = h ∧ r.copyB = q.copyB ∧ r.part = q.idx then
      s.setArr q.array { a with cur := none, waitf := none, xfers := [], loops := [] }
    else s
  | none => s

/-- Halt every part of a program in the middle of a tick or slice. -/
def State.haltProg (s : State) (h : Nat) : State :=
  let p := s.prog h
  let s1 := s.forEach p.parts (fun s q => s.haltPart h q)
  s1.setProg h { s1.prog h with parts := (s1.prog h).parts.map (fun q => { q with busy := false, ended := 1, pc := 0 }) }

/-- Choose the power states of a program's arrays again. -/
def State.rechooseProg (s : State) (h : Nat) : State :=
  s.forEach ((s.prog h).parts.map (·.array)) (fun s g => s.rechoose g)

/-- Stop a program with a reason of Table 8.12, at once: its runs are dropped and it publishes nothing more (R246, R252). -/
def State.stopNow (s : State) (h reason state : Nat) : State :=
  let s1 := s.haltProg h
  let s2 := s1.setProg h { s1.prog h with
    state := state, stopReason := reason, run := none, nextRun := none, stopPending := 0, heldSince := s.hall, primed := false }
  s2.rechooseProg h

/-- Bytes that a tenant's tag is charged in staging slots that are not Free. -/
def State.stagingOf (s : State) (tag : Nat) : Nat :=
  sumN ((s.pecan.slots.filter (fun e => e.2.state != 0 && e.2.tenant = tag)).map (fun e => e.2.size))

/-- Programs of a tag. -/
def State.progsOf (s : State) (tag : Nat) : List Nat :=
  (s.pecan.progs.filter (fun e => e.2.state != pgFree && e.2.tenant = tag)).map (·.1)

/-- Bring a tenant's FastArraysInUse and SlowPartsInUse up to date (Table 8.19). -/
def State.progAccount (s : State) (tag : Nat) : State :=
  match (if tag = 0 then none else s.slotOf tag) with
  | none => s
  | some t =>
    let n := fun lane => sumN ((s.progsOf tag).map (fun h => if (s.prog h).lane = lane then (s.prog h).parts.length else 0))
    (s.setNat (Obj.fastArraysInUse t) (n 1)).setNat (Obj.slowPartsInUse t) (n 2)

/-- Give up the arrays, store lines and stack bytes of a program's parts. -/
def State.releaseParts (s : State) (h : Nat) (which : PartSt → Bool) : State :=
  let p := s.prog h
  let gone := p.parts.filter which
  let s1 := s.forEach gone (fun s q => (s.haltPart h q).otherSub (dieOf q.array) q.decl.stackBytes)
  let s2 := s1.setProg h { s1.prog h with parts := (s1.prog h).parts.filter (fun q => !which q) }
  (s2.forEach (gone.map (·.array)) (fun s g => s.rechoose g)).progAccount p.tenant

/-- Unload a program: everything it holds is freed (R246). -/
def State.freeProg (s : State) (h : Nat) : State :=
  let p := s.prog h
  let s1 := s.releaseParts h (fun _ => true)
  let s2 := s1.forEach p.images (fun s k => s.otherSub k p.imageBytes)
  let s3 := { s2 with pecan := { s2.pecan with progs := smErase s2.pecan.progs h } }
  s3.progAccount p.tenant

/-! Placement: R243, R244 -/

/-- Least gap of `n` units below `hi` between the extents given, or none. -/
def gapIn (n hi : Nat) (l : List (Nat × Nat)) : Option Nat :=
  let b := baseGap n 0 (l.foldl (fun a e => insPair e a) [])
  if b + n ≤ hi then some b else none

/-- Room for a part in the store and the bundle store of array `g`: first line and first bundle. -/
def State.storeRoom (s : State) (g : Nat) (d : PartDecl) : Option (Nat × Nat) :=
  let on := s.partsOn g
  match gapIn d.storeLines 64448 (on.map (fun e => (e.2.base, e.2.decl.storeLines))),
    gapIn (d.code.length / 16) 4096 (on.map (fun e => (e.2.codeBase, e.2.decl.code.length / 16))) with
  | some a, some b => some (a, b)
  | _, _ => none

/-- Room for a part's stack bytes on die `d`: its first byte. -/
def State.stackGap (s : State) (d n : Nat) : Option Nat :=
  if n = 0 then some 0
  else if s.stackOk d && decide (n ≤ s.stackRoom d) then
    gapIn n (2 ^ 35) ((s.allParts.filter (fun e => decide (dieOf e.2.array = d) && decide (0 < e.2.decl.stackBytes))).map
      (fun e => (e.2.stackBase, e.2.decl.stackBytes)))
  else none

/-- Slow-lane load on an array (R244). -/
def State.slowLoad (s : State) (g : Nat) : Rat :=
  ((s.partsOn g).map (fun e =>
    let p := s.prog e.1
    if p.lane = 2 ∧ p.trigger = 2 then
      (e.2.decl.runCycles : Rat) / ((p.period : Rat) * (s.nat (Obj.clockFrequency (dieOf g)) : Rat) / 1000) else 0)).foldl (· + ·) 0

/-- Parts placed on die `d`. -/
def State.partsOnDie (s : State) (d : Nat) : Nat := countP (fun e => decide (dieOf e.2.array = d)) s.allParts

/-- Arrays that meet lane, half and affinity of a part, by R244's first, second and fifth lines. -/
def State.laneCands (s : State) (h : Nat) (copyB : Bool) (i : Nat) (d : PartDecl) : List Nat :=
  let p := s.prog h
  let first := (p.parts.find? (fun q => q.copyB = copyB ∧ q.idx = 0)).map (·.array)
  let other := (p.parts.find? (fun q => q.copyB ≠ copyB ∧ q.idx = 0)).map (·.array)
  (List.range 128).filter (fun g =>
    s.inService g && s.healthy (g / 64) &&
    (match other with
      | some o => o / 64 != g / 64
      | none => true) &&
    (if p.lane = 1 then !s.keeps g else !s.fastOn g &&
      (s.nat Obj.tenantSharing = 0 || (s.partsOn g).all (fun e => (s.prog e.1).tenant = p.tenant))) &&
    (i = 0 || (match first with
      | some o => if d.affinity = 1 then dieOf o = dieOf g else if d.affinity = 2 then o / 64 = g / 64 else true
      | none => true)))

/-- The array with least parts on its die, then least slow-lane load, then lowest (R244). -/
def State.bestArray (s : State) : List Nat → Option Nat
  | [] => none
  | g :: r =>
    match s.bestArray r with
    | none => some g
    | some b =>
      let pg := s.partsOnDie (dieOf g)
      let pb := s.partsOnDie (dieOf b)
      if pb < pg ∨ (pb = pg ∧ s.slowLoad b < s.slowLoad g) then some b else some g

/-- Reserve an array for one part, or the first refusal: code and array (R243, R244). -/
def State.placePart (s : State) (h : Nat) (copyB : Bool) (i : Nat) (d : PartDecl) : Except (Nat × Nat) State :=
  let p := s.prog h
  if p.duplex ∧ p.missing = 0 ∧ ¬(s.healthy 0 = true ∧ s.healthy 1 = true) then .error (0x70, 255)
  else
    let c1 := s.laneCands h copyB i d
    let c2 := c1.filter (fun g => (s.storeRoom g d).isSome)
    let c3 := c2.filter (fun g => (s.stackGap (dieOf g) d.stackBytes).isSome)
    match s.bestArray c3 with
    | none =>
      if c1.isEmpty then .error (0x6C, 255)
      else if c2.isEmpty then .error (0x6E, c1.headD 255) else .error (0x6F, c2.headD 255)
    | some g =>
      match s.storeRoom g d, s.stackGap (dieOf g) d.stackBytes with
      | some (a, b), some k =>
        let q : PartSt := { copyB := copyB, idx := i, array := g, base := a, stackBase := k, codeBase := b, decl := d }
        let s1 := s.setProg h { p with parts := p.parts ++ [q] }
        let s2 := s1.otherAdd (dieOf g) d.stackBytes
        .ok (s2.setArr g { s2.arr g with loading := true })
      | _, _ => .error (0x6C, 255)

/-- Reserve arrays for the parts of one copy in part order: the state, or code, part and array of the first refusal. -/
def State.placeCopy (h : Nat) (copyB : Bool) : List (PartDecl × Nat) → State → Except (Nat × Nat × Nat) State
  | [], s => .ok s
  | (d, i) :: r, s =>
    match s.placePart h copyB i d with
    | .error (c, g) => .error (c, i + (if copyB then 64 else 0), g)
    | .ok s1 => State.placeCopy h copyB r s1

/-- Reserve arrays for every part of a program (R243). -/
def State.placeProg (s : State) (h : Nat) : Except (Nat × Nat × Nat) State :=
  let p := s.prog h
  match State.placeCopy h false p.decls.zipIdx s with
  | .error e => .error e
  | .ok s1 => if p.duplex then State.placeCopy h true p.decls.zipIdx s1 else .ok s1

/-- Write a part's constants, tables and stack data, load the CCR where it asks, clear its flags (R243). A slow-lane part's
tables and CCR are loaded when it comes to run (R258). -/
def State.writePart (s : State) (h : Nat) (q : PartSt) : State :=
  let d := q.decl
  let fast := decide ((s.prog h).lane = 1)
  let a := s.arr q.array
  let a1 := d.consts.foldl (fun (a : ArrSt) (c : Nat × List Nat) => a.setLines (q.base + c.1) c.2) a
  let srcs := d.tables.map (fun t => (t.1, q.base + t.2))
  let a2 := if fast then srcs.foldl (fun (a : ArrSt) (t : Nat × Nat) => a.loadTable t.1 t.2) a1 else a1
  let a3 := if fast ∧ bitOf d.curveAt 7 then a2.loadCurve (d.curveAt % 4) else a2
  let a4 := { a3 with
    loading := false
    tableSrc := if fast then srcs else a3.tableSrc
    tableOwner := if fast then (List.range 4).map (fun t => (t, partKey h q)) else a3.tableOwner }
  let s1 := s.setArr q.array a4
  let s2 := s1.forEach d.stackData (fun s c =>
    s.forEach (List.range (c.2.length / 64)) (fun s i =>
      s.setStackBlock (stackKey (dieOf q.array) (q.stackBase + c.1 + 64 * i)) (slice c.2 (64 * i) 64)))
  let curve := if bitOf d.curveAt 7 then d.curveAt % 4 else 0
  let ccr := if bitOf d.curveAt 7 then
      match srcs.find? (fun t => t.1 = curve) with
      | some t => (List.range 8).map (fun e => leNat (slice (a1.line t.2) (4 * e) 4) % 65536)
      | none => a4.ccr
    else List.replicate 8 0
  s2.setProg h ((s2.prog h).setPart q.copyB q.idx (fun p => { p with flags := 0, srcs := srcs, ccr := ccr, curve := curve, phase := 0, pc := 0, ended := 1, busy := false }))

/-- Write every part that `which` names. -/
def State.writeParts (s : State) (h : Nat) (which : PartSt → Bool) : State :=
  s.forEach ((s.prog h).parts.filter which) (fun s q => s.writePart h q)

/-- Give up the reservations of a refused load or placement. -/
def State.unreserve (s : State) (h : Nat) : State :=
  let s1 := s.forEach ((s.prog h).parts) (fun s q => s.setArr q.array { s.arr q.array with loading := false })
  s1.releaseParts h (fun _ => true)

/-! Placing again: R185, R198, R247 -/

/-- Place a program in Replacing again. -/
def State.replaceOne (s : State) (h : Nat) : State :=
  let p := s.prog h
  if p.images.isEmpty then
    (s.unreserve h).setProg h { (s.unreserve h).prog h with state := pgStopped, stopReason := 0x7B }
  else
    let s0 := s.unreserve h
    match s0.placeProg h with
    | .error _ =>
      s0.setProg h { s0.prog h with state := pgStopped, stopReason := 0x7D, retry := true }
    | .ok s1 =>
      let s2 := s1.writeParts h (fun _ => true)
      let p2 := s2.prog h
      let s3 := s2.setProg h { p2 with
        state := p.resume, stopReason := p.resumeReason, retry := false, missing := 0, placements := (p2.placements + 1) % 2 ^ 32, primed := false }
      ((s3.count Obj.replacements).progAccount p.tenant).rechooseProg h

/-- Place the lost copy of a duplex program again beside the copy that runs (DEDUCED, log entry 33). -/
def State.replaceCopy (s : State) (h : Nat) : State :=
  let p := s.prog h
  let b := decide (p.missing = 2)
  if p.images.isEmpty then s
  else
    match State.placeCopy h b p.decls.zipIdx s with
    | .error _ => s
    | .ok s1 =>
      let s2 := s1.writeParts h (fun q => q.copyB = b)
      let p2 := s2.prog h
      let s3 := s2.setProg h { p2 with missing := 0, placements := (p2.placements + 1) % 2 ^ 32 }
      ((s3.count Obj.replacements).progAccount p.tenant).rechooseProg h

/-- Re-placements that are due, in handle order; none while a load runs (R248). -/
def State.runReplacements (s : State) : State :=
  if s.pecan.load.isSome then s
  else s.forEach (s.pecan.progs.map (·.1)) (fun s h =>
    let p := s.prog h
    if p.state = pgReplacing then s.replaceOne h
    else if p.duplex ∧ p.missing ≠ 0 ∧ p.state ≠ pgFree ∧ p.state ≠ pgLoading then s.replaceCopy h else s)

/-- ArraysAvailable has risen: failed re-placements are tried again (R247). -/
def State.retryReplacements (s : State) : State :=
  let s1 := s.forEach (s.pecan.progs.map (·.1)) (fun s h =>
    let p := s.prog h
    if p.retry ∧ p.state = pgStopped then s.setProg h { p with state := pgReplacing, retry := false } else s)
  s1.runReplacements

/-- A program goes to Replacing with ArrayLost; one that was not running returns to the state it had (DEDUCED, log entry 33). -/
def State.loseProg (s : State) (h : Nat) : State :=
  let p := s.prog h
  let s1 := s.setProg h (if p.state = pgLoaded ∨ p.state = pgStopped then { p with resume := p.state, resumeReason := p.stopReason }
    else if p.state = pgReplacing then p else { p with resume := pgRunning, resumeReason := 0 })
  s1.stopNow h 0x7C pgReplacing

/-- Programs lose the arrays that `lost` names: a program stops with ArrayLost and goes to Replacing, or, where it is duplex and
its other copy is whole, goes on with that copy. One that is only loaded keeps no place either (R198, R247, Table 10.7). -/
def State.loseArrays (s : State) (lost : PartSt → Bool) : State :=
  s.forEach (s.pecan.progs.map (·.1)) (fun s h =>
    let p := s.prog h
    if p.state = pgLoading ∨ !p.parts.any lost then s
    else
      let hitA := (p.copyParts false).any lost
      let hitB := (p.copyParts true).any lost
      if p.duplex ∧ p.missing = 0 ∧ ¬(hitA = true ∧ hitB = true) then
        let s1 := s.releaseParts h (fun q => q.copyB = hitB)
        s1.setProg h { s1.prog h with missing := if hitB then 2 else 1 }
      else
        s.loseProg h)

/-- An array leaves service with state `st`, 5 faulted or 6 lost: it stops, its ports close and its programs lose it (R198). -/
def State.arrayOut (s : State) (g st : Nat) : State :=
  let s1 := s.setPower g st
  let a := s1.arr g
  let s2 := s1.setArr g { a with
    entering := 0, demand := false, wakeAt := none, xfers := [], waitf := none, reservedFor := 0
    testSince := if st = 6 then none else a.testSince }
  let s3 := s2.loseArrays (fun q => q.array = g)
  s3.setArr g { s3.arr g with cur := none }

/-! Die links: R185 -/

/-- Programs whose arrays lie on both sides of the link between dies `d` and `d + 1`, copy by copy. -/
def State.splitBy (s : State) (d : Nat) : State :=
  s.forEach (s.pecan.progs.map (·.1)) (fun s h =>
    let p := s.prog h
    let split := fun b => (p.copyParts b).any (fun q => dieOf q.array ≤ d) && (p.copyParts b).any (fun q => d < dieOf q.array)
    if p.state = pgLoading ∨ !(split false || split true) then s
    else s.loseProg h)

end Sys2Proof.Machine
end

