-- ==== Sys2Proof/Machine/RailOps.lean ====
section
/-! DEFINITION. Lanes that leave Up, stacks that fail, rails and the power-domain sequencer: shared operations of chapters 2, 4, 9
and 15. -/

namespace Sys2Proof.Machine

/-! Lanes: R102, R103, R127 -/

/-- Hall flows meet a route that has come or gone: waiting frames leave, and a flow without a route is timed (R101, R102). -/
def State.routesChanged (s : State) : State :=
  s.forEach ((s.fab.flows.filter (fun e => 64 ≤ flowNode e.1)).map (·.1)) (fun s k =>
    let fl := s.flow k
    match s.route (flowNode k - 64) fl.lane with
    | some _ => (s.setFlow k { fl with downSince := none }).sendWaiting k
    | none => match fl.downSince with
      | some _ => s
      | none => s.setFlow k { fl with downSince := some s.now })

/-- Frames queued on a hall lane that has left Up go on by another lane toward their shelf, or wait for one. -/
def State.requeue (s : State) (l : List QFrame) : State :=
  s.forEach l (fun s q =>
    match q.flow with
    | none => s
    | some k =>
      match s.nodeLane (flowNode k) 0 with
      | some n => s.setLane n { s.lane n with txq := (s.lane n).txq ++ [q] }
      | none => s.setFlow k { s.flow k with waiting := (s.flow k).waiting ++ [(q.frame, q.watch)] })

/-- Admission stands until the link leaves Up (R561). -/
def State.unadmit (s : State) (k : Nat) : State :=
  let s1 := s.setNat Obj.admittedHallLinks (setBit (s.nat Obj.admittedHallLinks) k false)
  { s1 with dict := { s1.dict with admits := smErase s1.dict.admits k } }

/-- LinkState and reason of a lane that does not run, where it is not to be `st`: a hall link in neither role of R114 is Unused, one of a
refused cage is Refused with reason 7 (R92). -/
def State.laneRest (s : State) (n st reason : Nat) : Nat × Nat :=
  if 1 < st then (st, reason)
  else if isHall n && (baseLink (s.nat Obj.hallDimensions) (n - 36)).isNone then (5, 0)
  else if (s.lane n).cageRefused then (4, 7)
  else (st, reason)

/-- A lane that is down trains where its die's SerDes are powered. -/
def State.laneStart (s : State) (n : Nat) : State :=
  let r := s.laneRest n (if s.nat (Obj.domainState2D01 (26 + s.laneDie n)) = 1 then 1 else 0) 0
  s.setLaneState n r.1 r.2

/-- The hall links take the roles that HallDimensions gives them; one that is Up keeps its own until it leaves Up (R114, R126). -/
def State.hallRoles (s : State) : State :=
  s.forEach ((List.range 16).map (· + 36)) (fun s n =>
    let st := s.laneState n
    if st = 2 ∨ st = 3 ∨ (st = 4 ∧ (s.lane n).pcs) then s else s.laneStart n)

/-- A lane leaves Up, or Init, for another state: its link counts start again; on a tray link its flows end (R103), on a hall link its
queued frames take another route. -/
def State.laneDrop (s : State) (n st reason : Nat) : State :=
  let l := s.lane n
  let was := s.laneUp n
  let o := s.laneRest n st reason
  let s1 := (s.setLaneState n o.1 o.2).setLane n { pcs := l.pcs && st != 0 && st != 1 && !l.cageRefused, downSince := s.now, cageRefused := l.cageRefused }
  if isHall n then
    if was then ((s1.unadmit (n - 36)).requeue l.txq).routesChanged else s1
  else if was then s1.endTrayFlows n else s1

/-! Stacks: R289, Table 9.10 -/

/-- Free a staging slot and what it holds. -/
def State.freeSlot (s : State) (k : Nat) : State :=
  let v := s.slot k
  let s1 := if v.stack < 8 then s.otherSub v.stack v.size else s
  s1.setSlot k {}

/-- A stack is gone, with StackState `st`: Table 9.10. -/
def State.stackGone (s : State) (k st : Nat) : State :=
  let s1 := (s.histStackFail k).setNat (Obj.stackState k) st
  let s2 := s1.stackAccount k
  let s3 := s2.loseArrays (fun q => decide (dieOf q.array = k) && decide (0 < q.decl.stackBytes))
  let s4 := s3.forEach ((s3.pecan.slots.filter (fun e => e.2.stack = k && e.2.state != 0)).map (·.1)) State.freeSlot
  let s5 := s4.forEach ((s4.pecan.progs.filter (fun e => e.2.images.contains k)).map (·.1)) (fun s h =>
    let p := s.prog h
    let left := p.images.filter (· != k)
    if left.isEmpty then s.setProg h { p with images := left }
    else
      match s.bulkStack ((List.range 4).map (· + k / 4 * 4)) p.imageBytes with
      | some j => (s.setProg h { p with images := left ++ [j] }).otherAdd j p.imageBytes
      | none => s.setProg h { p with images := left })
  let s6 := { s5 with pecan := { s5.pecan with stack := s5.pecan.stack.filter (fun e => e.1 / 2 ^ 29 != k), stackBad := s5.pecan.stackBad.filter (fun e => e.1 / 2 ^ 29 != k) } }
  (s6.setNat (Obj.otherBytes k) 0).runReplacements

/-! Rails and domains: R38 to R41, R437 to R445 -/

/-- Rail of a domain; 16 where none supplies it (Table 15.1). -/
def domRail (d : Nat) : Nat :=
  if d < 8 then 8 * (d / 4) + d % 4
  else if d < 16 then 8 * ((d - 8) / 4) + 4
  else if d < 24 then 8 * ((d - 16) / 4) + 5
  else if d < 26 then 8 * (d - 24) + 6
  else if d < 28 then 8 * (d - 26) + 7
  else 16

/-- Prerequisite of a domain (Table 2.7); 32 for 54 V. -/
def domPrereq (d : Nat) : Nat :=
  if d < 8 then 8 + d else if d < 16 then 24 + (d - 8) / 4 else if d < 24 then d - 16
  else if d < 26 then d + 4 else if d < 28 then d - 2 else 32

/-- Half of a domain. -/
def domHalf (d : Nat) : Nat := if d < 24 then d % 8 / 4 else d % 2

/-- Domains that depend on a domain directly. -/
def domDependants (d : Nat) : List Nat := (List.range 32).filter (fun e => domPrereq e = d)

/-- Domains that a rail supplies. -/
def railDoms (r : Nat) : List Nat := (List.range 28).filter (fun d => domRail d = r)

/-- State of a domain: 0 off, 1 on, 2 switching, 3 off after a fault (Table 2.8). -/
def State.domState (s : State) (d : Nat) : Nat := if 28 ≤ d then 1 else s.nat (Obj.domainState2D01 d)
/-- Set a domain's state. -/
def State.setDomState (s : State) (d v : Nat) : State := s.setNat (Obj.domainState2D01 d) v

/-- A rail's hidden state. -/
def State.rail (s : State) (r : Nat) : RailSt := smGet (fun _ => {}) s.pow.rails r
/-- Replace it. -/
def State.setRail (s : State) (r : Nat) (v : RailSt) : State := { s with pow := { s.pow with rails := smSet (fun _ => {}) s.pow.rails r v } }

/-- A die's operating point state. -/
def State.diePt (s : State) (d : Nat) : DiePt := smGet (fun _ => {}) s.pow.dies d
/-- Replace it. -/
def State.setDiePt (s : State) (d : Nat) (v : DiePt) : State := { s with pow := { s.pow with dies := smSet (fun _ => {}) s.pow.dies d v } }

/-- Phases of rail `r`, and its least active phases (Table 15.1). -/
def railPhases (r : Nat) : Nat := [8, 8, 8, 8, 4, 4, 6, 2].getD (r % 8) 0
def railLeast (r : Nat) : Nat := [2, 2, 2, 2, 1, 1, 2, 1].getD (r % 8) 0

/-- Die whose core rail `r` is; 8 where it is none. -/
def railDie (r : Nat) : Nat := if r % 8 < 4 then 4 * (r / 8) + r % 8 else 8

/-- Voltage code of die `d` at point `p` with its margin (R446). -/
def State.pointCode (s : State) (d p : Nat) : Nat := (Config.fusedCode d p % 256 + s.nat (Obj.voltageMargin d)) % 256

/-- Code a rail targets when it starts: its die's point for a core rail, the fused code for the others (R440). -/
def State.railTarget (s : State) (r : Nat) : Nat :=
  if railDie r < 8 then s.pointCode (railDie r) (s.diePt (railDie r)).target else Config.railCode r % 256

/-- Soft start of a rail, with every phase (R441, R442). -/
def State.startRail (s : State) (r : Nat) : State :=
  ((((s.setNat (Obj.railState r) 1).setNat (Obj.voltageCode r) (s.railTarget r)).setNat (Obj.activePhaseCount r) (railPhases r))).setRail r
    { s.rail r with retryAt := none, powerGood := false }

/-- A rail stops without a fault: no domain on it is on or switching. -/
def State.stopRail (s : State) (r : Nat) : State :=
  if s.nat (Obj.railState r) = 1 ∨ s.nat (Obj.railState r) = 2 ∨ s.nat (Obj.railState r) = 3 then
    (((s.setNat (Obj.railState r) 0).setNat (Obj.voltageCode r) 0).setNat (Obj.activePhaseCount r) 0).setRail r
      { s.rail r with retryAt := none, powerGood := false }
  else s

/-- Blocks of a domain: those whose clock island it powers. -/
def domBlocks (d : Nat) : List Nat :=
  if d < 8 then (List.range 16).map (fun i => arrayBlock (16 * d + i)) ++ [exchangeBlock d, linkPortBlock d]
  else if 16 ≤ d ∧ d < 24 then [stackBlock (d - 16)]
  else if d = 24 ∨ d = 25 then (List.range 10).map (fun l => 97 * (d - 24) + 11 + l)
  else []

/-- Blocks come on: off becomes operating. -/
def State.blocksOn (s : State) (l : List Nat) : State :=
  s.forEach l (fun s b => if s.nat (Obj.blockState b) = 0 then s.setNat (Obj.blockState b) 1 else s)

/-- Blocks go off: operating becomes off. -/
def State.blocksOff (s : State) (l : List Nat) : State :=
  s.forEach l (fun s b => if s.nat (Obj.blockState b) = 1 then s.setNat (Obj.blockState b) 0 else s)

/-- EastLinkState of link `d` follows its dies (Table 6.15): up while both run and it is not down under R185. -/
def State.linkState (s : State) (d : Nat) : State :=
  if d = 7 then s.setNat (Obj.eastLinkState 7) 2
  else
    let up := s.nat (Obj.dieState d) = 1 ∧ s.nat (Obj.dieState (d + 1)) = 1 ∧ !s.pecan.linkDown.any (fun e => e.1 = d)
    s.setNat (Obj.eastLinkState d) (if up then 1 else 0)

/-- Both links of die `d`. -/
def State.linksOf (s : State) (d : Nat) : State := if d = 0 then s.linkState 0 else (s.linkState (d - 1)).linkState d

/-- The fault event word (R481): allocated when the first fabric core comes up (DESIGN CHOICE, log entry 22). -/
def State.eventWordUp (s : State) : State :=
  let w := s.nat Obj.faultEventWord
  if (s.word w).alloc then s else s.setWord w { alloc := true, tenant := 0, managed := 2 }

/-- What follows when a domain has come on. -/
def State.domainOnEffect (s : State) (d : Nat) : State :=
  let s1 := s.blocksOn (domBlocks d)
  if d < 8 then (s1.setNat (Obj.dieState d) 1).linksOf d
  else if 16 ≤ d ∧ d < 24 then
    if s1.nat (Obj.stackState (d - 16)) = 0 then s1.setNat (Obj.stackState (d - 16)) 1 else s1
  else if d = 24 ∨ d = 25 then s1.eventWordUp
  else if d = 26 ∨ d = 27 then
    s1.forEach ((List.range 52).filter (fun n => s1.laneDie n = d - 26 && s1.laneState n = 0)) State.laneStart
  else s1

/-- Arrays of die `d` lose core and store contents; its programs lose their places (Table 2.7, Table 15.3). -/
def State.dieOff (s : State) (d st : Nat) : State :=
  let gs := (List.range 16).map (fun i => 16 * d + i)
  let s1 := (s.setNat (Obj.dieState d) st).loseArrays (fun q => dieOf q.array = d)
  let s2 := s1.forEach gs (fun s g =>
    let a := s.arr g
    let s1 := s.accountArr g
    s1.setArr g {
      power := if a.power = 5 ∨ a.power = 6 then a.power else 3
      mark := s.now, lastSelfTest := a.lastSelfTest, errTimes := a.errTimes })
  (s2.linksOf d).runReplacements

/-- What follows when a domain goes off; `fault` says that a fault turned it off. -/
def State.domainOffEffect (s : State) (d : Nat) (fault : Bool) : State :=
  let s1 := s.blocksOff (domBlocks d)
  if d < 8 then s1.dieOff d (if fault then 2 else 0)
  else if 16 ≤ d ∧ d < 24 then
    let k := d - 16
    if s1.nat (Obj.stackState k) = 1 ∨ s1.nat (Obj.stackState k) = 2 then s1.stackGone k (if fault then 3 else 0) else s1
  else if d = 24 ∨ d = 25 then
    let h := d - 24
    (s1.breakOnDie h).reportLost h true true
  else if d = 26 ∨ d = 27 then
    s1.forEach ((List.range 52).filter (fun n => s1.laneDie n = d - 26 && s1.laneState n != 5)) (fun s n => s.laneDrop n 0 0)
  else s1

/-- A domain reports power-good: it is on, and what waited for it starts. Recursion: a dependant may already have its supply. -/
def State.domainStart : Nat → State → Nat → State
  | 0, s, _ => s
  | n + 1, s, d =>
    if 28 ≤ d ∨ s.domState d = 1 ∨ s.domState d = 2 then s
    else if s.domState (domPrereq d) ≠ 1 then
      { s with pow := { s.pow with want := if s.pow.want.contains d then s.pow.want else s.pow.want ++ [d] } }
    else
      let r := domRail d
      let st := s.nat (Obj.railState r)
      if st = 4 ∨ st = 5 then (s.setDomState d 3).event (97 * (r / 8) + blRail) 5 d
      else if st = 2 ∧ (s.rail r).powerGood then
        let s1 := ((s.setNat (Obj.activePhaseCount r) (railPhases r)).setDomState d 1).domainOnEffect d
        let waiting := s1.pow.want.filter (fun e => domPrereq e = d)
        let s2 := { s1 with pow := { s1.pow with want := s1.pow.want.filter (fun e => domPrereq e != d) } }
        s2.forEach waiting (fun s e => State.domainStart n s e)
      else if st = 0 then (s.setDomState d 2).startRail r
      else s.setDomState d 2

/-- A domain is switched on, in prerequisite order (R39). -/
def State.domainOn (s : State) (d : Nat) : State := State.domainStart 6 s d

/-- A rail that a protection had turned off is back: reason 5 for its die (Table 15.5); behind a store rail the core domains that a fault
turned off are requested again, and their dies recover as well (R445). -/
def State.railBack (s : State) (r : Nat) : State :=
  if railDie r < 8 then
    s.setDiePt (railDie r) { s.diePt (railDie r) with recoveryUntil := s.now + 100 * ms }
  else if r % 8 = 4 then
    s.forEach (((List.range 4).map (· + 4 * (r / 8))).filter (fun d => s.domState d = 3)) (fun s d =>
      (s.setRail (domRail d) { s.rail (domRail d) with recovering := true }).domainOn d)
  else s

/-- A rail has power-good: its switching domains are on (R441), and the domains that waited for them start. -/
def State.railUp (s : State) (r : Nat) : State :=
  let back := (s.rail r).recovering
  let s0 := (s.setNat (Obj.railState r) 2).setRail r { s.rail r with powerGood := true, recovering := false }
  let s1 := s0.forEach ((railDoms r).filter (fun d => s0.domState d = 2)) (fun s d =>
    let s1 := (s.setDomState d 1).domainOnEffect d
    let waiting := s1.pow.want.filter (fun e => domPrereq e = d)
    let s2 := { s1 with pow := { s1.pow with want := s1.pow.want.filter (fun e => domPrereq e != d) } }
    s2.forEach waiting State.domainOn)
  if back then s1.railBack r else s1

/-- A domain is switched off after every domain that depends on it (R39). -/
def State.domainStop : Nat → State → Nat → Bool → State
  | 0, s, _, _ => s
  | n + 1, s, d, fault =>
    if 28 ≤ d then s
    else
      let s1 := s.forEach (domDependants d) (fun s e => State.domainStop n s e fault)
      let s2 := { s1 with pow := { s1.pow with want := s1.pow.want.filter (· != d) } }
      if s2.domState d = 0 ∨ s2.domState d = 3 then s2
      else
        let s3 := (s2.setDomState d (if fault then 3 else 0)).domainOffEffect d fault
        if (railDoms (domRail d)).all (fun e => s3.domState e != 1 && s3.domState e != 2) then s3.stopRail (domRail d) else s3

/-- A domain goes off, dependants first. -/
def State.domainOff (s : State) (d : Nat) (fault : Bool) : State := State.domainStop 6 s d fault

/-- Switch off every domain but those `keep` names and the Hazel domains. -/
def State.domainsOffBut (s : State) (keep : Nat → Bool) (fault : Bool) : State :=
  s.forEach ((List.range 28).reverse.filter (fun d => !keep d)) (fun s d => s.domainOff d fault)

/-- A domain that switches is left off: an entry, and its dependants are not started (R40). -/
def State.leftOff (s : State) (d : Nat) : State :=
  let s1 := (s.setDomState d 3).event (97 * (domRail d / 8) + blRail) 5 d
  let gone := fun e => domPrereq e = d || domPrereq (domPrereq e) = d || domPrereq (domPrereq (domPrereq e)) = d
  { s1 with pow := { s1.pow with want := s1.pow.want.filter (fun e => !gone e) } }

/-- The rails of a lost half stop with it; its dies read Lost (R437, Table 6.14). -/
def State.loseRails (s : State) (h : Nat) : State :=
  let ds := (List.range 28).filter (fun d => domHalf d = h)
  let s1 := s.forEach ((List.range 8).map (· + 8 * h)) (fun s r =>
    let st := if s.nat (Obj.railState r) = 4 then 4 else 0
    (((s.setNat (Obj.railState r) st).setNat (Obj.voltageCode r) 0).setNat (Obj.activePhaseCount r) 0).setRail r {})
  let s2 := s1.forEach ds (fun s d => s.setDomState d 0)
  let s3 := { s2 with pow := { s2.pow with want := s2.pow.want.filter (fun d => domHalf d != h) } }
  s3.forEach ((List.range 4).map (· + 4 * h)) (fun s d => (s.setNat (Obj.dieState d) 3).linksOf d)

/-- A protection of Table 15.2 turns a rail off: RailState `st`; its domains lose power-good, their dependants go off, and each of
its own domains waits for the rail (R443, Table 15.3). -/
def State.railTrip (s : State) (r st : Nat) : State :=
  let doms := (railDoms r).filter (fun d => s.domState d = 1 || s.domState d = 2)
  let s1 := ((s.setNat (Obj.railState r) st).setNat (Obj.activePhaseCount r) 0).setRail r { s.rail r with powerGood := false, recovering := true }
  let s2 := s1.forEach doms (fun s d =>
    let s1 := s.forEach (domDependants d) (fun s e => s.domainOff e true)
    (s1.setDomState d 3).domainOffEffect d true)
  if st = 3 then s2.forEach doms (fun s d => s.setDomState d 2) else s2

/-! Operating points: R188, R446 to R449 -/

/-- The clock of a die takes a point. -/
def State.clockPoint (s : State) (d p : Nat) : State :=
  (s.setNat (Obj.operatingPoint d) p).setNat (Obj.clockFrequency d) (pointKHz p)

/-- The die's point is to become `p`: a fall lowers the clock at once and then the voltage; a rise adds every phase, raises the
voltage and lets the clock follow (R188, R442, R449). -/
def State.changePoint (s : State) (d p : Nat) : State :=
  let q := s.diePt d
  if q.target = p then s
  else
    let r := 8 * (d / 4) + d % 4
    let s1 := ((s.setDiePt d { q with target := p }).count (Obj.pointChanges d))
    let s2 := if s1.nat (Obj.operatingPoint d) ≤ p then s1.clockPoint d p else s1
    let s3 := if p < q.target then s2.setNat (Obj.activePhaseCount r) (if s2.nat (Obj.railState r) = 1 ∨ s2.nat (Obj.railState r) = 2 then railPhases r else 0) else s2
    if s3.nat (Obj.railState r) = 1 ∨ s3.nat (Obj.railState r) = 2 then s3.setNat (Obj.voltageCode r) (s3.pointCode d p) else s3

end Sys2Proof.Machine
end

