-- ==== Sys2Proof/Machine/ConvOps.lean ====
section
/-! DEFINITION. The converter stage: PWM periods, shedding and re-adding, power clamps, contactor drives and their interlocks, openings:
shared operations of spec/12_converter_stage.md. -/

namespace Sys2Proof.Machine

/-! PWM: R351 to R356 -/

/-- Bounds of PR at dither depth `d` in 0.01 % (R356). -/
def prLow (d : Nat) : Nat := (divRound 40000000 (10000 + d)).toNat
def prHigh (d : Nat) : Nat := (divRound 40000000 (10000 - (d : Int))).toNat

/-- PR of period `i` (R356): the triangle starts at its lower bound (DESIGN CHOICE, log entry 40); the pseudo-random state is a free
value. -/
def State.prAt (s : State) (i : Nat) : Nat :=
  let d := s.nat Obj.ditherDepth
  let span := prHigh d - prLow d
  match s.nat Obj.ditherMode with
  | 1 => if span = 0 then 4000 else prLow d + (if i % (2 * span) ≤ span then i % (2 * span) else 2 * span - i % (2 * span))
  | 2 => prLow d + Config.ditherNext i % (span + 1)
  | _ => 4000

/-- Counts of 1.25 ns in `n` ns, to the nearest. -/
def nsCounts (n : Nat) : Nat := (4 * n + 2) / 5

/-- C of R351 with the minimum pulse of R353: a high-side pulse is 2 C counts wide, a low-side pulse 2 (PR - C). -/
def State.pwmCounts (s : State) (d pr : Nat) : Nat :=
  let c := (d * pr + 8192) / 16384
  let m := nsCounts (s.nat Obj.minPulse)
  if (c ≠ 0 ∧ 2 * c < m) ∨ (c ≠ pr ∧ 2 * (pr - c) < m) then (if 2 * c ≤ pr then 0 else pr) else c

/-- The phases of string `k` take their interleave lags (R355). -/
def State.interleave (s : State) (k : Nat) : State :=
  let act := s.activeOf k
  s.forEach (act.zip (List.range act.length)) (fun s (e : Nat × Nat) =>
    let p := s.phase e.1
    s.setPhase e.1 { p with lag := (divRound (e.2 * 2 * p.pr) act.length).toNat })

/-! Idling, shedding, re-adding: R358, R359, R366, R371 -/

/-- A phase goes idle: both gates off. -/
def State.idlePhase (s : State) (n : Nat) : State :=
  s.setPhase n { s.phase n with active := false, readd := false, shedNext := false, cut := false, cutPeriod := false, cutRun := 0 }

/-- Every phase of string `k` goes idle. -/
def State.idlePhases (s : State) (k : Nat) : State := s.forEach (s.phasesOf k) State.idlePhase

/-- A phase is faulted: idle until R366 returns it. -/
def State.faultPhase (s : State) (n : Nat) : State :=
  let s1 := s.idlePhase n
  s1.setPhase n { s1.phase n with faulted := true, shed := false }

/-- Every GDEN goes idle. -/
def State.gdenOff (s : State) : State := { s with pins := { s.pins with gden := 0 }, conv := { s.conv with gdenAtValley := false } }

/-- Connected strings. -/
def State.connected (s : State) (k : Nat) : Bool := (s.str k).conn = .connected

/-- Every shed phase of string `k` starts at its next valley (R359). -/
def State.readdShed (s : State) (k : Nat) : State :=
  s.forEach (s.phasesOf k) (fun s n =>
    let p := s.phase n
    if p.shed ∧ !p.faulted then s.setPhase n { p with shed := false, readd := true } else s.setPhase n { p with shedNext := false })

/-- Every phase of the connected strings that is not faulted starts at its next valley, and GDEN is asserted at the first common valley
(R375, Table 18.6 step 5). -/
def State.startPhases (s : State) : State :=
  let s1 := s.forEach ((s.operated.filter s.connected).flatMap s.phasesOf) (fun s n =>
    let p := s.phase n
    if p.faulted then s else s.setPhase n { p with active := false, shed := false, readd := true, shedNext := false })
  { s1 with conv := { s1.conv with gdenAtValley := true } }

/-- Mean magnitude of a string's references over the last 100 µs, times the number of samples, and that number (R358). -/
def State.refMean (s : State) (k : Nat) : Int × Nat :=
  let l := if k = 0 then s.eng.refHist1 else s.eng.refHist2
  (sumI l, l.length)

/-- The mean magnitude of string `k`'s references is below `pct` % of PhaseCurrentClamp. -/
def State.refBelow (s : State) (k pct : Nat) : Bool :=
  let m := s.refMean k
  decide (100 * m.1 < (pct * s.nat Obj.phaseCurrentClamp * m.2 : Nat)) || m.2 = 0

/-- The mean exceeds `pct` % of PhaseCurrentClamp. -/
def State.refAbove (s : State) (k pct : Nat) : Bool :=
  let m := s.refMean k
  decide ((pct * s.nat Obj.phaseCurrentClamp * m.2 : Nat) < 100 * m.1)

/-- The measured rack load is below ShedRackLoadLimit. -/
def State.rackLow (s : State) : Bool :=
  decide (10000 * s.eng.rack < (s.nat Obj.shedRackLoadLimit * s.nat Obj.ratedRackLoad : Nat))


/-- The shed condition of string `k` holds (R358). -/
def State.shedCondition (s : State) (k : Nat) : Bool :=
  s.nat Obj.shedEnable = 1 && (s.mode = .ready || s.mode = .shaping) && !s.announced && s.rackLow &&
    s.refBelow k (s.nat Obj.shedLevel) && decide (s.nat Obj.shedMinimum < (s.activeOf k).length)

/-- A phase of string `k` has its reference at PhaseCurrentClamp. -/
def State.refAtClamp (s : State) (k : Nat) : Bool :=
  let r := if k = 0 then s.eng.ref1 else s.eng.ref2
  decide ((s.nat Obj.phaseCurrentClamp : Int) ≤ r.natAbs) && !(s.activeOf k).isEmpty

/-- A re-add condition of string `k` holds (R359); a write of 0 to ShedEnable is judged where it is written. -/
def State.readdCondition (s : State) (k : Nat) : Bool :=
  s.announced || s.refAbove k (s.nat Obj.addLevel) || s.refAtClamp k || !s.rackLow

/-- Active phase of string `k` that has been active longest, the lowest number on a tie. -/
def State.longestActive (s : State) (k : Nat) : Option Nat :=
  (s.activeOf k).foldl (fun (b : Option Nat) n =>
    match b with
    | none => some n
    | some m => if (s.phase n).activeSince < (s.phase m).activeSince then some n else some m) none

/-! Power clamps: R323, R366 -/

/-- Phases of string `k` that are not faulted. -/
def State.sound (s : State) (k : Nat) : Nat := countP (fun n => !(s.phase n).faulted) (s.phasesOf k)

/-- A clamp register from its object: lowered in proportion to the sound phases of the operated strings, then to 10 kW for each sound
phase of every string (R366), then to `lim`, the storage limits' bound. -/
def State.clampFrom (s : State) (v lim : Nat) : Nat :=
  let all := sumN (s.operated.map (fun k => (s.phasesOf k).length))
  let ok := sumN (s.operated.map s.sound)
  let v1 := if all = 0 then v else v * ok / all
  min lim (s.operated.foldl (fun a k => if s.share k = 0 then a else min a (10000 * s.sound k * 32768 / s.share k)) v1)

/-! Contactors: R367 to R373 -/

/-- A string's drives all open. -/
def StringSt.drivesOpen (t : StringSt) : StringSt := { t with negDrive := false, posDrive := false, preDrive := false }

/-- Table 12.2: the contactor may be driven closed now. -/
def State.mayClose (s : State) (k : Nat) (c : Contactor) : Bool :=
  let t := s.str k
  match c with
  | .neg => (s.energising || s.mode = .ready || s.mode = .shaping || s.mode = .hold) && t.conn != .lockedOut && t.lockCause = 0
  | .pre => t.negFb && (!t.preFb || decide (s.now - t.preSince < s.nat (Obj.prechargeTimeout (k + 1)) * ms))
  | .pos => t.negFb && t.matched

/-- The authority Hazel drives a contactor closed; a drive that breaks an interlock is not applied and is counted (R367). -/
def State.driveClosed (s : State) (k : Nat) (c : Contactor) : State :=
  if s.holder = 0 then s
  else if s.mayClose k c then
    let t := s.str k
    s.setStr k (match c with
      | .neg => { t with negDrive := true }
      | .pre => { t with preDrive := true }
      | .pos => { t with posDrive := true })
  else s.count (Obj.interlockRefusals (k + 1))

/-- An opening goes as far as the feedbacks and the break current let it (R371). -/
def State.advanceOpening (s : State) (k : Nat) : State :=
  let t := s.str k
  let s1 :=
    if t.openStep = 1 ∧ (s.num (Obj.value (48 + k))).natAbs < s.nat (Obj.contactorBreakCurrent (k + 1)) then
      s.setStr k { t with openStep := 2, openSince := s.now, posDrive := false, preDrive := false }
    else s
  let t1 := s1.str k
  let s2 :=
    if t1.openStep = 2 ∧ !t1.posFb ∧ !t1.preFb then s1.setStr k { t1 with openStep := 3, openSince := s.now, negDrive := false } else s1
  let t2 := s2.str k
  if t2.openStep = 3 ∧ !t2.negFb then
    s2.setStr k { t2 with openStep := 0, failCause := 0, conn := if t2.lockCause = 0 then .opened else .lockedOut }
  else s2

/-- A string is opened (R371): `wait` says that the break current is awaited, `lock` that it ends LockedOut with that cause. -/
def State.openString (s : State) (k : Nat) (wait : Bool) (lock : Nat) : State :=
  let t := s.str k
  let cause := if t.lockCause = 0 then lock else t.lockCause
  match t.conn with
  | .lockedOut => s.idlePhases k
  | .opened => (s.idlePhases k).setStr k { t with lockCause := cause, conn := if cause = 0 then .opened else .lockedOut }
  | .opening =>
    let s1 := (s.idlePhases k).setStr k { t with lockCause := cause }
    if t.openStep = 1 ∧ !wait then
      (s1.setStr k { t with lockCause := cause, openStep := 2, openSince := s.now, posDrive := false, preDrive := false }).advanceOpening k
    else s1
  | _ =>
    let live := !(s.activeOf k).isEmpty && wait
    let t1 : StringSt := { t with conn := .opening, step := 0, matched := false, lockCause := cause, idle := true, openSince := s.now }
    let t2 : StringSt := if live then { t1 with openStep := 1 } else { t1 with openStep := 2, posDrive := false, preDrive := false }
    ((s.idlePhases k).setStr k t2).advanceOpening k

/-- Every contactor of the string is driven open and held open: a weld has shown itself (R373). -/
def State.lockWelded (s : State) (k : Nat) : State :=
  let t := s.str k
  ((s.idlePhases k).setStr k
    { t.drivesOpen with conn := .lockedOut, lockCause := 6, openStep := 0, step := 0, matched := false, failCause := 0 }).setNat
    (Obj.lastConnectResult (k + 1)) 6

/-- Every string is opened. -/
def State.openAll (s : State) : State := s.forEach [0, 1] (fun s k => s.openString k true 0)

/-- No contactor sequence is in progress and every string is open. -/
def State.allOpen (s : State) : Bool :=
  [0, 1].all (fun k => decide ((s.str k).conn = .opened) || decide ((s.str k).conn = .lockedOut))

/-- A contactor feedback is closed. -/
def StringSt.anyFb (t : StringSt) : Bool := t.negFb || t.posFb || t.preFb

/-- ContactorState of Table 12.6. -/
def StringSt.code (t : StringSt) : Nat :=
  [t.negDrive, t.posDrive, t.preDrive, t.negFb, t.posFb, t.preFb].zip [1, 2, 4, 8, 16, 32] |>.foldl (fun a e => if e.1 then a + e.2 else a) 0

/-! V_stack and V_conv: R368, R369 -/

/-- Cells of string `k` (R3: sixteen a slice). -/
def State.cellCount (s : State) (k : Nat) : Nat := 16 * s.nat (if k = 0 then Obj.slicesPerString1 else Obj.slicesPerString2)

/-- A cell's last released value. -/
def State.cellRel (s : State) (k i : Nat) : CellRel := smGet (fun _ => {}) s.stack.cells (288 * k + i)

/-- V_stack in 0.1 mV and the centre of the oldest value in it; none where a cell has no value. -/
def State.vStack (s : State) (k : Nat) : Option (Nat × Nat) :=
  let l := (List.range (s.cellCount k)).map (s.cellRel k)
  if l.isEmpty || l.any (fun c => !c.valid) then none
  else some (sumN (l.map (·.value)), l.foldl (fun a c => min a c.centre) s.now)

/-- V_stack in 0.1 mV when no older than 100 ms. -/
def State.vStackFresh (s : State) (k : Nat) : Option Nat :=
  match s.vStack k with
  | some (v, t) => if s.now ≤ t + 100 * ms then some v else none
  | none => none

/-- Sum and count of the string voltage over the last 100 µs: V_conv times the count (R368). -/
def State.vConv (s : State) (k : Nat) : Int × Nat :=
  let l := if k = 0 then s.eng.vconv1 else s.eng.vconv2
  (sumI l, l.length)

/-- V_conv is at least `lvl` 0.01 % of V_stack `v` (0.1 mV). -/
def State.vConvAtLeast (s : State) (k lvl v : Nat) : Bool :=
  let c := s.vConv k
  decide ((lvl * v * c.2 : Nat) ≤ 100000 * c.1) && c.2 != 0

/-- |V_conv - V_stack| ≤ PrechargeMatch × V_stack. -/
def State.vConvMatches (s : State) (k v : Nat) : Bool :=
  let c := s.vConv k
  decide (10000 * (10 * c.1 - (v * c.2 : Nat)).natAbs ≤ s.nat (Obj.prechargeMatch (k + 1)) * v * c.2) && c.2 != 0

/-- The duty check before KsPOS closes: V_stack × 16,384 / V_bus between DutyMin and DutyMax (R369). -/
def State.dutyOk (s : State) (v : Nat) : Bool :=
  let b := s.num Obj.busVoltage2910
  decide (0 < b) && decide ((s.nat Obj.dutyMin : Int) * 10 * b ≤ (v * 16384 : Nat)) && decide (((v * 16384 : Nat) : Int) ≤ s.num Obj.dutyMax * 10 * b)

end Sys2Proof.Machine
end

