-- ==== Sys2Proof/Machine/RingOps.lean ====
section
/-! DEFINITION. Stack rings: frames, commands, reach, release of cell values, balancing: shared operations of
spec/13_stack_monitoring.md. String index `k` is 0 or 1. -/

namespace Sys2Proof.Machine

/-- One byte of R383's CRC-16. -/
def crc16Step (c b : Nat) : Nat :=
  (List.range 8).foldl (fun c _ => if c / 32768 % 2 = 1 then (c * 2 % 65536) ^^^ 0x1021 else c * 2 % 65536) (c ^^^ (b % 256 * 256))

/-- CRC of a ring frame (R383). -/
def crc16 (l : List Nat) : Nat := l.foldl crc16Step 0xFFFF

/-- Opcodes of Table 13.3. -/
abbrev rgEnumerate : Nat := 0x01
abbrev rgReadIdentity : Nat := 0x02
abbrev rgConfigure : Nat := 0x03
abbrev rgMeasure : Nat := 0x10
abbrev rgReadCells : Nat := 0x11
abbrev rgBalance : Nat := 0x20
abbrev rgReadStatus : Nat := 0x21
abbrev rgSleep : Nat := 0x30

/-- Result codes of Table 13.6. -/
abbrev rrNoResponse : Nat := 0x90
abbrev rrCrcError : Nat := 0x91
abbrev rrCounterMismatch : Nat := 0x92
abbrev rrNotReached : Nat := 0x93
abbrev rrNotAcknowledged : Nat := 0x94
abbrev rrSliceRefused : Nat := 0x95
abbrev rrVersionMismatch : Nat := 0x96
abbrev rrNotPresent : Nat := 0x97

/-- Ring modes of Table 13.11. -/
abbrev rmDown : Nat := 0
abbrev rmEnumerating : Nat := 1
abbrev rmClosed : Nat := 2
abbrev rmSplit : Nat := 3
abbrev rmSingleA : Nat := 4
abbrev rmSingleB : Nat := 5
abbrev rmConfigMismatch : Nat := 6
abbrev rmNotOperated : Nat := 7

/-- RingMode of string `k`. -/
def State.ringMode (s : State) (k : Nat) : Nat := s.nat (Obj.ringMode (k + 1))
/-- Set it. -/
def State.setRingMode (s : State) (k v : Nat) : State := s.setNat (Obj.ringMode (k + 1)) v

/-- The ring is worked: modes 2 to 5. -/
def State.ringWorked (s : State) (k : Nat) : Bool := let m := s.ringMode k; 2 ≤ m && m ≤ 5

/-- SlicesPerString of string `k`. -/
def State.slicesOf (s : State) (k : Nat) : Nat := s.nat (if k = 0 then Obj.slicesPerString1 else Obj.slicesPerString2)

/-- Record index of slice `a` of string `k` (Table 13.12). -/
def sliceIdx (k a : Nat) : Nat := 18 * k + (a - 1)

/-- Port A, or B, of string `k`'s ring can be worked: its half runs and its ring port block is not in its safe state (Table 13.1). -/
def State.portOk (s : State) (k : Nat) (atB : Bool) : Bool :=
  let h := if atB then 1 else 0
  !s.lost h && !s.reacted h && !s.blockSafe h (blRing1 + k) && !(s.mode = .boot && (if atB then s.boot.stageB else s.boot.stageA) = 0)

/-- Addresses whose slice is operated. -/
def State.operatedSlices (s : State) (k : Nat) : List Nat :=
  ((List.range 18).map (· + 1)).filter (fun a => s.nat (Obj.sliceState (sliceIdx k a)) = 1)

/-- A command's broadcast form. -/
def RCmd.isBroadcast (c : RCmd) : Bool := c.addr = 0xFF || c.op = rgEnumerate

/-- Bytes of a command on the ring, from byte 0, with its CRC (Table 13.2). -/
def RCmd.bytes (c : RCmd) : List Nat :=
  let b := [(if c.isBroadcast then 64 else 0) + (if c.fromB then 32 else 0), c.addr, c.counter, c.op, c.payload.length] ++ c.payload
  b ++ beBytes 2 (crc16 b)

/-- Time on the wire of a frame with `n` payload bytes, ns: preamble, delimiter, header and CRC at 2 Mb/s. -/
def ringFrameTime (n : Nat) : Nat := (9 + n) * 4000

/-- Queue a command. -/
def State.ringPush (s : State) (k : Nat) (c : RCmd) : State :=
  let r := s.ring k
  s.setRing k { r with queue := r.queue ++ [c] }

/-- Queue an addressed command to slice `a`: Split works the slices past the break from port B (Table 13.1). -/
def State.ringTo (s : State) (k a op : Nat) (payload : List Nat) : State :=
  let r := s.ring k
  let m := s.ringMode k
  s.ringPush k { op := op, addr := a, payload := payload, fromB := m = rmSingleB || (m = rmSplit && decide (r.reachA < a)) }

/-- Ports a broadcast leaves from: both in Split. -/
def State.ringPorts (s : State) (k : Nat) : List Bool :=
  let m := s.ringMode k
  if m = rmSplit then [false, true] else if m = rmSingleB then [true] else [false]

/-- Queue a broadcast with its AckMap of zeros (R396). -/
def State.ringAll (s : State) (k op : Nat) (payload : List Nat) : State :=
  s.forEach (s.ringPorts k) (fun s b => s.ringPush k { op := op, addr := 0xFF, payload := payload ++ [0, 0, 0], fromB := b })

/-- Put a command on the wire. -/
def State.ringSend (s : State) (k : Nat) (c : RCmd) : State :=
  let r := s.ring k
  (s.setRing k { r with busyUntil := s.now + ringFrameTime c.payload.length + (s.slicesOf k + 1) * us + 4 * us }).emit
    (.ringFrame k c.fromB c.bytes)

/-- A frame started now would be off the ring 20 µs before the next Measure (R400); an addressed command also holds it for its response. -/
def State.ringFits (s : State) (k : Nat) (c : RCmd) : Bool :=
  match (s.ring k).cycleAt with
  | none => true
  | some t =>
    let d := ringFrameTime c.payload.length + (if c.isBroadcast then (s.slicesOf k + 1) * us else 400 * us) + 20 * us
    decide (s.now + d ≤ t + s.nat Obj.measurementInterval * ms) || decide (t + s.nat Obj.measurementInterval * ms < s.now)

/-- ReadCells waits for the end of the window and of the open-wire phase (Example 13.1). -/
def State.ringReady (s : State) (k : Nat) (c : RCmd) : Bool :=
  let m := (s.ring k).meas
  c.op != rgReadCells || decide (m.stop + (if m.openWire then 200 * us else 0) ≤ s.now)

/-- The ring's next counter (R384). -/
def RingSt.nextCounter (r : RingSt) : Nat := if r.counter ≥ 255 then 1 else r.counter + 1

/-- When the ring is free the next command goes out (R386). -/
def State.ringIssue (s : State) (k : Nat) : State :=
  let r := s.ring k
  match r.out, r.queue with
  | none, c :: q =>
    if (s.ringWorked k || c.op = rgEnumerate) && decide (r.busyUntil ≤ s.now) && s.ringFits k c && s.ringReady k c then
      let n := if c.op = rgEnumerate then 0 else r.nextCounter
      let c1 := { c with counter := n, tries := 1, sentAt := s.now }
      (s.setRing k { r with queue := q, out := some c1, counter := if c.op = rgEnumerate then r.counter else n }).ringSend k c1
    else s
  | _, _ => s

/-! Results: R397, Table 13.6 -/

/-- LastCommand of a fresh command: addresses that are not there or not reached say so. -/
def State.freshRecord (s : State) (k op counter : Nat) : List Nat :=
  [op, counter] ++ (List.range 18).map (fun i =>
    if s.slicesOf k ≤ i then rrNotPresent else if s.nat (Obj.sliceState (sliceIdx k (i + 1))) = 2 then rrNotReached else 0) ++ List.replicate 18 0

/-- The result of a command for slice `a`: LastResult and LastCommand. The addressed commands of one set share the record (DEDUCED,
log entry 41). -/
def State.ringResult (s : State) (k : Nat) (c : RCmd) (a code status : Nat) : State :=
  let key := Obj.lastCommand (k + 1)
  let old := s.blob key
  let rec0 := if listGet 0 old 0 = c.op ∧ (c.isBroadcast = false ∨ listGet 0 old 1 = c.counter) then listSet old 1 c.counter
    else s.freshRecord k c.op c.counter
  (s.setBlob key (listSet (listSet rec0 (1 + a) code) (19 + a) status)).setNat (Obj.lastResult (sliceIdx k a)) code

/-- Every slice's result of a broadcast. -/
def State.ringResults (s : State) (k : Nat) (c : RCmd) (as : List Nat) (code : Nat → Nat) : State :=
  s.forEach as (fun s a => s.ringResult k c a (code a) 0)

/-- The outstanding command is done with. -/
def State.ringDone (s : State) (k : Nat) : State := s.setRing k { s.ring k with out := none }

/-! Released values: R391 to R394 -/

/-- Stored result of slice `a`. -/
def RingSt.readOf (r : RingSt) (a : Nat) : Option CellRead := (r.reads.find? (fun e => e.1 = a)).map (·.2)

/-- Replace or drop it. -/
def RingSt.setRead (r : RingSt) (a : Nat) (v : Option CellRead) : RingSt :=
  { r with reads := (match v with | some x => [(a, x)] | none => []) ++ r.reads.filter (fun e => e.1 != a) }

/-- Cell values withdrawn under R392 are counted. -/
def State.withdraw (s : State) (k a n : Nat) : State := s.count (Obj.withdrawnValues (sliceIdx k a)) n

/-- The series resistance that balancing uses: zero until it has converged (R402). -/
def State.estCell (s : State) (i : Nat) : EstCell := smGet (fun _ => {}) s.stack.est i

/-- Centre of a measurement's window. -/
def Meas.centre (m : Meas) : Nat := (m.start + m.stop) / 2

/-- A cell value is released: record, channel, V_stack, estimator, balancing mean (R394, R402). -/
def State.releaseCell (s : State) (k a j : Nat) (rd : CellRead) : State :=
  let cell := 16 * (a - 1) + j
  let v := listGet 0 rd.cells j
  let key := 288 * k + cell
  let e := s.estCell key
  let i : Rat := if rd.meas.iN = 0 then 0 else (rd.meas.iSum : Rat) / rd.meas.iN
  let u : Rat := (v : Rat) + (if e.converged then e.rs else 0) * i * 10
  let c := rd.meas.centre
  let r := s.ring k
  let s1 := s.setRing k { r with uSum := smModify (fun _ => ((0 : Rat), 0)) r.uSum cell (fun p => (p.1 + u, p.2 + 1)) }
  let s2 := { s1 with stack := { s1.stack with
    cells := smSet (fun _ => ({} : CellRel)) s1.stack.cells key { value := v, centre := c, valid := true }
    pendingEst := s1.stack.pendingEst ++ [(key, rd)] } }
  (s2.setNat (Obj.cellVoltage (sliceIdx k a) j) v).sample (0x200 + 288 * k + cell) v ((((c : Int) + s2.fab.htOffset).toNat) / us)

/-- Cells of a result whose group agrees and, with the open-wire check on, whose wires neither phase flagged. -/
def releasable (rd : CellRead) (next : Option CellRead) : List Nat :=
  (List.range 16).filter (fun j =>
    rd.ok && bitOf rd.agree (j / 4) &&
      match next with
      | none => true
      | some n => rd.ran && n.ran && !bitOf rd.openWires j && !bitOf rd.openWires (j + 1) && !bitOf n.openWires j && !bitOf n.openWires (j + 1))

/-- Release what R392 lets go of a result and count the rest. -/
def State.releaseRead (s : State) (k a : Nat) (rd : CellRead) (next : Option CellRead) : State :=
  let l := releasable rd next
  (s.forEach l (fun s j => s.releaseCell k a j rd)).withdraw k a (16 - l.length)

/-- A held result that no later readout can release any more is withdrawn. -/
def State.dropRead (s : State) (k a : Nat) : State :=
  match (s.ring k).readOf a with
  | some _ => (s.setRing k ((s.ring k).setRead a none)).withdraw k a 16
  | none => s

/-- A ReadCells response of slice `a` (R390 to R392). -/
def State.cellsRead (s : State) (k a : Nat) (b : List Nat) : State :=
  let r := s.ring k
  let flags := listGet 0 b 45
  let cells := (List.range 16).map (fun j => beNat (slice b (2 + 2 * j) 2))
  let groups := (List.range 4).map (fun g => beNat (slice b (34 + 2 * g) 2) % 4096)
  let tol := s.nat Obj.plausibilityTolerance * 10
  let agrees := fun g =>
    decide (((sumN (slice cells (4 * g) 4) : Int) - (40 * listGet 0 groups g : Nat)).natAbs ≤ tol)
  let ok := listGet 0 b 0 = 0 && listGet 0 b 1 = r.meas.id && !bitOf flags 2
  let wires := beNat (slice b 42 3) % 2 ^ 17
  let cur : CellRead :=
    { id := listGet 0 b 1, ok := ok, cells := cells,
      agree := (List.range 4).foldl (fun m g => setBit m g (agrees g)) 0,
      openWires := wires, ran := bitOf flags 1, meas := r.meas }
  let x := sliceIdx k a
  let s1 := if ok then s.count (Obj.plausibilityFaults x) (countP (fun g => !agrees g) (List.range 4)) else s
  let s2 := if bitOf flags 1 then
      s1.setNat (Obj.openWires x) ((List.range 17).foldl (fun m w =>
        if w % 2 = (if bitOf flags 0 then 1 else 0) then setBit m w (bitOf wires w) else m) (s1.nat (Obj.openWires x)))
    else s1
  if s.nat Obj.openWireEnable = 1 then
    let s3 := match r.readOf a with
      | some p => if (p.id + 1) % 256 = cur.id then s2.releaseRead k a p (some cur) else s2.withdraw k a 16
      | none => s2
    s3.setRing k ((s3.ring k).setRead a (some cur))
  else
    let s3 := s2.dropRead k a
    s3.releaseRead k a cur none

/-! Reach and modes: R381, R387, R398, R399 -/

/-- Slice states and counts after an enumeration that reached `ra` slices from port A and `rb` from port B. -/
def State.setReach (s : State) (k ra rb : Nat) : State :=
  let n := s.slicesOf k
  let s1 := s.forEach ((List.range 18).map (· + 1)) (fun s a =>
    let x := sliceIdx k a
    let old := s.nat (Obj.sliceState x)
    s.setNat (Obj.sliceState x) (if n < a then 0 else if a ≤ ra ∨ n < a + rb then (if old = 3 then 3 else 1) else 2))
  (s1.setRing k { s1.ring k with reachA := ra, reachB := rb, enumerating := false }).setNat (Obj.slicesReached (k + 1)) (min n (ra + rb))

/-- Identity, status and configuration follow an enumeration (R387, R401, R406). -/
def State.ringLearn (s : State) (k : Nat) : State :=
  let s1 := s.forEach (s.operatedSlices k) (fun s a => (s.ringTo k a rgReadIdentity []).ringTo k a rgReadStatus [])
  s1.ringAll k rgConfigure (beBytes 2 (s1.nat Obj.openWireThreshold) ++ [s1.nat Obj.balanceDuty, 0, 0, 0, 0, 0])

/-- Enumerate from a port, ahead of what waits. -/
def State.ringEnumerate (s : State) (k : Nat) (fromB : Bool) : State :=
  let r := s.ring k
  s.setRing k { r with enumerating := true, queue := { op := rgEnumerate, addr := 0, payload := [1, 0, 0, 0], fromB := fromB } :: r.queue }

/-- Enumeration starts again from every port that works: from A, and from B where A does not (R387, R398). -/
def State.ringRestart (s : State) (k : Nat) : State :=
  if s.portOk k false then (s.setRingMode k rmEnumerating).ringEnumerate k false
  else if s.portOk k true then (s.setRingMode k rmEnumerating).ringEnumerate k true
  else s.setRingMode k rmDown

/-- A ring that is left with one port, or with neither, works on from it with the addresses it holds (R399). -/
def State.ringOneEnd (s : State) (k : Nat) : State :=
  if s.ringWorked k then
    let r := s.ring k
    let n := s.slicesOf k
    let full := decide (s.ringMode k = rmClosed)
    let s1 := s.setRing k { r with out := none, queue := [] }
    let s2 := s1.forEach (r.reads.map (·.1)) (fun s a => s.dropRead k a)
    if s.portOk k false ∧ s.portOk k true then s
    else if s.portOk k false then
      ((s2.setReach k (if full then n else r.reachA) 0).setRingMode k rmSingleA).setNat (Obj.breakAfter (k + 1)) 0
    else if s.portOk k true then
      ((s2.setReach k 0 (if full then n else r.reachB)).setRingMode k rmSingleB).setNat (Obj.breakAfter (k + 1)) 0
    else (s2.setReach k 0 0).setRingMode k rmDown
  else s

/-- Broadcast Balance with mask 0, and the duration of any other Balance (R401; DESIGN CHOICE, log entry 104). -/
def State.balanceStop (s : State) (k : Nat) : State :=
  if s.ringWorked k then s.ringAll k rgBalance ([0, 0] ++ beBytes 2 ((s.nat Obj.balanceInterval + 2) * 100)) else s

/-! Balancing: R402 -/

/-- u(c) of a cell of string `k` over the last interval. -/
def RingSt.uMean (r : RingSt) (cell : Nat) : Option Rat :=
  let p := smGet (fun _ => ((0 : Rat), 0)) r.uSum cell
  if p.2 = 0 then none else some (p.1 / p.2)

/-- Insert by falling key; equal keys keep the lower cell first. -/
def insFall (p : Rat × Nat) : List (Rat × Nat) → List (Rat × Nat)
  | [] => [p]
  | q :: l => if q.1 < p.1 then p :: q :: l else q :: insFall p l

/-- Hottest of die, NTC0 and NTC1 of a slice, 0.1 °C, from its last ReadStatus. -/
def State.sliceHottest (s : State) (x : Nat) : Int :=
  let b := s.blob (Obj.temperatures x)
  (List.range 3).foldl (fun (m : Int) i => max m (toSigned 16 (beNat (slice b (2 * i) 2)))) (-32768)

/-- Cells of slice `a` to bleed, as a mask. -/
def State.balanceWant (s : State) (k a : Nat) (u : List (Option Rat)) (umin : Rat) : Nat :=
  let x := sliceIdx k a
  let now := s.nat (Obj.balanceMask x)
  let th : Rat := (s.nat Obj.balanceThreshold : Rat) * 10
  let hy : Rat := (s.nat Obj.balanceHysteresis : Rat) * 10
  if (s.nat Obj.balanceTempLimit : Int) * 10 ≤ s.sliceHottest x then 0
  else
    let want := (List.range 16).filterMap (fun j =>
      match u.getD (16 * (a - 1) + j) none with
      | none => none
      | some v => if th < v - umin ∨ (bitOf now j ∧ th - hy < v - umin) then some (v - umin, j) else none)
    ((want.foldl (fun l p => insFall p l) []).take (s.nat Obj.maxBalancePerSlice)).foldl (fun m p => setBit m p.2 true) 0

/-- One string's balance interval (R402); a calibration stops balancing on its string (R425). -/
def State.balanceString (s : State) (k : Nat) : State :=
  let r := s.ring k
  let u := (List.range (s.cellCount k)).map r.uMean
  let s0 := s.setRing k { r with uSum := [] }
  let s1 := s0.forEach (s0.operatedSlices k) (fun s a => s.ringTo k a rgReadStatus [])
  if s.nat Obj.balanceEnable = 0 ∨ u.any (·.isNone) ∨ s.stack.cal.string = k + 1 then s1.balanceStop k
  else
    let vals := u.filterMap id
    let umin := vals.foldl (fun a b => if b < a then b else a) (vals.headD 0)
    s1.forEach (s1.operatedSlices k) (fun s a =>
      s.ringTo k a rgBalance (beBytes 2 (s.balanceWant k a u umin) ++ beBytes 2 ((s.nat Obj.balanceInterval + 2) * 100)))

/-! Stack measurement fault: R395 -/

/-- A configured cell of string `k` has no released value whose centre lies within CellValueTimeout: the first. -/
def State.staleCell (s : State) (k : Nat) : Option Nat :=
  (List.range (s.cellCount k)).find? (fun i =>
    let c := s.cellRel k i
    !(c.valid && decide (s.now ≤ c.centre + s.nat Obj.cellValueTimeout * ms)))

/-- CellsValid: 36 bytes. -/
def State.cellsValidBytes (s : State) (k : Nat) : List Nat :=
  (List.range 36).map (fun b => (List.range 8).foldl (fun m j =>
    let c := s.cellRel k (8 * b + j)
    setBit m j (c.valid && decide (8 * b + j < s.cellCount k) && decide (s.now ≤ c.centre + s.nat Obj.cellValueTimeout * ms))) 0)

end Sys2Proof.Machine
end

