-- ==== Sys2Proof/Machine/EstOps.lean ====
section
/-! DEFINITION. The estimator: binary32, the OCV table, impedance fit, state of charge, limits, trips, calibration, lifetime and
persistent records: shared operations of spec/14_storage_estimation.md. -/

namespace Sys2Proof.Machine

/-! binary32 (R407): finite values as exact fractions, each result rounded to nearest even -/

/-- Exponent of a positive fraction: the greatest e with 2^e ≤ n / d. -/
def ratExp (n d : Nat) : Int :=
  let e : Int := (Nat.log2 n : Int) - (Nat.log2 d : Int)
  let le := fun (e : Int) => if 0 ≤ e then decide (d * 2 ^ e.toNat ≤ n) else decide (d ≤ n * 2 ^ (-e).toNat)
  if le e then e else e - 1

/-- Round to binary32, ties to even. -/
def f32 (r : Rat) : Rat :=
  if r.num = 0 then 0
  else
    let n := r.num.natAbs
    let d := r.den
    let q := max (ratExp n d) (-126) - 23
    let nn := if q < 0 then n * 2 ^ (-q).toNat else n
    let dd := if q < 0 then d else d * 2 ^ q.toNat
    let m := nn / dd
    let rem := nn % dd
    let m1 := if dd < 2 * rem ∨ (2 * rem = dd ∧ m % 2 = 1) then m + 1 else m
    let v : Rat := if q < 0 then (m1 : Rat) / ((2 ^ (-q).toNat : Nat) : Rat) else ((m1 * 2 ^ q.toNat : Nat) : Rat)
    if r.num < 0 then -v else v

def fAdd (a b : Rat) : Rat := f32 (a + b)
def fSub (a b : Rat) : Rat := f32 (a - b)
def fMul (a b : Rat) : Rat := f32 (a * b)
def fDiv (a b : Rat) : Rat := f32 (a / b)

/-- Nearest integer, halves up. -/
def ratRound (r : Rat) : Int := (2 * r.num + r.den) / (2 * r.den)

/-- Clamp a fraction to 0 and 1. -/
def clamp01 (r : Rat) : Rat := if r < 0 then 0 else if 1 < r then 1 else r

/-! The OCV table: R409, R410 -/

/-- Axes and runs of an accepted table. -/
structure Ocv where
  temps : List Int
  rates : List Nat
  volts : List Nat
  deriving DecidableEq, Repr

/-- Read the table's layout; none for an empty one. -/
def parseOcv (b : List Nat) : Option Ocv :=
  if b.length < 8 then none
  else
    let nt := listGet 0 b 1
    let nr := listGet 0 b 2
    some
      { temps := (List.range nt).map (fun i => toSigned 16 (leNat (slice b (8 + 2 * i) 2))),
        rates := (List.range nr).map (fun i => leNat (slice b (8 + 2 * nt + 2 * i) 2)),
        volts := (List.range (nt * nr * 21)).map (fun i => leNat (slice b (8 + 2 * nt + 2 * nr + 2 * i) 2)) }

/-- Strictly rising. -/
def risingI : List Int → Bool
  | a :: b :: l => decide (a < b) && risingI (b :: l)
  | _ => true

/-- The check of R409: 0, or the abort code. -/
def ocvCheck (b : List Nat) : Nat :=
  let nt := listGet 0 b 1
  let nr := listGet 0 b 2
  if listGet 0 b 0 ≠ 1 ∨ nt = 0 ∨ 8 < nt ∨ nr = 0 ∨ 4 < nr ∨ (slice b 3 5).any (· != 0) ∨
      b.length ≠ 8 + 2 * nt + 2 * nr + 42 * nt * nr then 0x06090030
  else
    match parseOcv b with
    | none => 0x06090030
    | some o =>
      let runs := (List.range (nt * nr)).map (fun i => (slice o.volts (21 * i) 21).map (fun (v : Nat) => (v : Int)))
      if risingI o.temps && risingI (o.rates.map (fun (v : Nat) => (v : Int))) && decide (o.rates.headD 1 = 0) && runs.all risingI &&
          o.volts.all (fun v => decide (10000 ≤ v) && decide (v ≤ 35000)) then 0 else 0x06090030

/-- The accepted table. -/
def State.ocv (s : State) : Option Ocv := parseOcv (s.blob Obj.ocvTable)

/-- Linear interpolation. -/
def lerp (a b f : Rat) : Rat := fAdd a (fMul f (fSub b a))

/-- Place of `x` on an ascending axis: the lower index, the upper index, the fraction; the ends clamp (R410). -/
def axisAt (ax : List Rat) (x : Rat) : Nat × Nat × Rat :=
  let n := ax.length
  let i := countP (fun a => decide (a ≤ x)) ax
  if i = 0 then (0, 0, 0)
  else if n ≤ i then (n - 1, n - 1, 0)
  else
    let a := ax.getD (i - 1) 0
    let b := ax.getD i 0
    (i - 1, i, fDiv (fSub x a) (fSub b a))

/-- Voltage of run (t, r) at entry `n`, V. -/
def Ocv.entry (o : Ocv) (t r n : Nat) : Rat := f32 (((listGet 0 o.volts ((t * o.rates.length + r) * 21 + n) : Nat) : Rat) / 10000)

/-- A run at state of charge `s`. -/
def Ocv.runAt (o : Ocv) (t r : Nat) (s : Rat) : Rat :=
  let x := fMul (clamp01 s) 20
  let n := min 19 (x.num / x.den).toNat
  lerp (o.entry t r n) (o.entry t r (n + 1)) (fSub x n)

/-- Axes as fractions: 0.1 °C and C. -/
def Ocv.tAxis (o : Ocv) : List Rat := o.temps.map (fun (t : Int) => (t : Rat))
def Ocv.rAxis (o : Ocv) : List Rat := o.rates.map (fun (r : Nat) => f32 ((r : Rat) / 100))

/-- A value of the four surrounding runs, interpolated in t and then in r. -/
def Ocv.blend (o : Ocv) (t r : Rat) (f : Nat → Nat → Rat) : Rat :=
  let a := axisAt o.tAxis t
  let b := axisAt o.rAxis r
  lerp (lerp (f a.1 b.1) (f a.2.1 b.1) a.2.2) (lerp (f a.1 b.2.1) (f a.2.1 b.2.1) a.2.2) b.2.2

/-- ocv(s, t, r). -/
def Ocv.at (o : Ocv) (s t r : Rat) : Rat := o.blend t r (fun i j => o.runAt i j s)

/-- The run at (t, r). -/
def Ocv.run (o : Ocv) (t r : Rat) : List Rat := (List.range 21).map (fun n => o.blend t r (fun i j => o.entry i j n))

/-- inverse(v, t, r): the state of charge. -/
def Ocv.inverse (o : Ocv) (v t r : Rat) : Rat :=
  let l := o.run t r
  let i := countP (fun a => decide (a ≤ v)) l
  if i = 0 then 0
  else if 21 ≤ i then 1
  else
    let a := l.getD (i - 1) 0
    let b := l.getD i 0
    fMul (fAdd ((i - 1 : Nat) : Rat) (fDiv (fSub v a) (fSub b a))) (1 / 20)

/-- Slope of the run at `s`, in 0.01 mV per %. -/
def Ocv.slope (o : Ocv) (s t r : Rat) : Rat :=
  let l := o.run t r
  let x := clamp01 s * 20
  let n := min 19 (x.num / x.den).toNat
  (l.getD (n + 1) 0 - l.getD n 0) * 20000

/-! Inputs: R406 -/

/-- A usable NTC of slice `a`: 0 or 1. -/
def State.ntc (s : State) (k a w : Nat) : Option Int :=
  let t := toSigned 16 (beNat (slice (s.blob (Obj.temperatures (sliceIdx k a))) (2 + 2 * w) 2))
  let at_ := smGet (fun _ => 0) (s.ring k).statusAt a
  if at_ ≠ 0 ∧ s.now ≤ at_ - 1 + 2 * s.nat Obj.balanceInterval * sec ∧ -400 ≤ t ∧ t ≤ 1250 then some t else none

/-- The higher of two readings that may be absent. -/
def maxO (a b : Option Int) : Option Int :=
  match a, b with
  | some x, some y => some (max x y)
  | some x, none => some x
  | none, y => y

/-- A cell's own temperature: its NTC, the other NTC of its slice, the higher NTC of the neighbouring slices. -/
def State.cellTempOwn (s : State) (k cell : Nat) : Option Int :=
  let a := cell / 16 + 1
  let w := if cell % 16 < 8 then 0 else 1
  match s.ntc k a w, s.ntc k a (1 - w) with
  | some t, _ => some t
  | none, some t => some t
  | none, none =>
    let lo := if 1 < a then maxO (s.ntc k (a - 1) 0) (s.ntc k (a - 1) 1) else none
    let hi := if a < s.slicesOf k then maxO (s.ntc k (a + 1) 0) (s.ntc k (a + 1) 1) else none
    maxO lo hi

/-- Own temperatures of a string's cells: one per eight cells suffices. -/
def State.stringTemps (s : State) (k : Nat) : List (Option Int) := (List.range (2 * s.slicesOf k)).map (fun i => s.cellTempOwn k (8 * i))

/-- A cell's temperature: its own, else the string's highest (R406). -/
def State.cellTemp (s : State) (k cell : Nat) : Option Int :=
  match s.cellTempOwn k cell with
  | some t => some t
  | none => (s.stringTemps k).foldl maxO none

/-- Highest and lowest cell temperature of a string. -/
def State.tempMax (s : State) (k : Nat) : Option Int := (s.stringTemps k).foldl maxO none
def State.tempMin (s : State) (k : Nat) : Option Int :=
  ((s.stringTemps k).filterMap id).foldl (fun (a : Option Int) t => match a with | some x => some (min x t) | none => some t) none

/-- Temperature that a lookup takes: 25.0 °C where there is none. -/
def tempOr25 (t : Option Int) : Rat := ((t.getD 250 : Int) : Rat)

/-- Mean temperature of a string's cells. -/
def State.tempMean (s : State) (k : Nat) : Rat :=
  let l := (List.range (2 * s.slicesOf k)).filterMap (fun i => s.cellTemp k (8 * i))
  if l.isEmpty then 250 else f32 (((sumI l : Int) : Rat) / (l.length : Nat))

/-- Rate: mean |I| of the last 60 s in A over CapacityNominal in Ah (R406). -/
def State.rate (s : State) (k : Nat) : Rat :=
  let e := s.estStr k
  let n := e.means.length
  let cn := s.nat Obj.capacityNominal
  if n = 0 ∨ cn = 0 then 0 else f32 (((sumI e.means : Int) : Rat) / ((n * cn : Nat) : Rat))

/-- Capacity of a cell, mAh. -/
def State.cellCap (s : State) (k cell : Nat) : Nat :=
  let b := s.blob (Obj.cellCapacity (k + 1))
  if 4 * cell + 4 ≤ b.length then leNat (slice b (4 * cell) 4) else s.nat Obj.capacityNominal

/-- Replace a cell's estimator state. -/
def State.setEstCell (s : State) (i : Nat) (e : EstCell) : State :=
  { s with stack := { s.stack with est := smSet (fun _ => {}) s.stack.est i e } }

/-- Change of state of charge for `dq` nC discharged from `cap` mAh (R408). -/
def socDrop (dq : Rat) (cap : Nat) : Rat := if cap = 0 then 0 else fDiv (f32 dq) (f32 ((cap : Rat) * 3600000000))

/-- A cell's count at charge counter `q`. -/
def EstCell.socAt (e : EstCell) (q : Int) (cap : Nat) : Rat := fSub e.soc (socDrop ((q - e.qMark : Int) : Rat) cap)

/-! Impedance: R412 to R414 -/

/-- Vector product of four terms, in order. -/
def dot4 (a b : List Rat) : Rat :=
  (List.range 4).foldl (fun (s : Rat) i => fAdd s (fMul (a.getD i 0) (b.getD i 0))) 0

/-- A row of P. -/
def row4 (p : List Rat) (i : Nat) : List Rat := (List.range 4).map (fun j => p.getD (4 * i + j) 0)

/-- Measurement interval in s. -/
def State.estM (s : State) : Rat := f32 ((s.nat Obj.measurementInterval : Rat) / 1000)

/-- Initial values of R413. -/
def State.thetaInit (s : State) : List Rat × List Rat :=
  let a0 := f32 (Config.exp32 (fDiv (-s.estM) (f32 ((s.nat Obj.tauInitial : Rat) / 1000))))
  let rs := f32 ((s.nat Obj.rsInitial : Rat) / 1000000000)
  let rp := f32 ((s.nat Obj.rpInitial : Rat) / 1000000000)
  ([a0, -rs, fMul a0 rs, -(fMul rp (fSub 1 a0))],
   (List.range 16).map (fun i => if i = 0 then f32 (1 / 100) else if i % 5 = 0 then f32 (1 / 1000000) else 0))

/-- The fit starts again. -/
def State.fitStart (s : State) (e : EstCell) : EstCell :=
  let t := s.thetaInit
  { e with theta := t.1, p := t.2, events := 0, rsHist := [], left := 0, converged := false }

/-- One recursive least-squares update (R413): `phi` and z(k). -/
def State.fitUpdate (s : State) (e : EstCell) (phi : List Rat) (z : Rat) : EstCell :=
  let lam := f32 ((s.nat Obj.forgetting : Rat) / 1000000)
  let err := fSub z (dot4 phi e.theta)
  let pphi := (List.range 4).map (fun i => dot4 (row4 e.p i) phi)
  let den := fAdd lam (dot4 phi pphi)
  let g := pphi.map (fun x => fDiv x den)
  let theta := (List.range 4).map (fun i => fAdd (e.theta.getD i 0) (fMul (g.getD i 0) err))
  let phiP := (List.range 4).map (fun j => (List.range 4).foldl (fun (a : Rat) i => fAdd a (fMul (phi.getD i 0) (e.p.getD (4 * i + j) 0))) 0)
  let p := (List.range 16).map (fun n => fDiv (fSub (e.p.getD n 0) (fMul (g.getD (n / 4) 0) (phiP.getD (n % 4) 0))) lam)
  let a := theta.getD 0 0
  let b := -(theta.getD 3 0)
  { e with theta := theta, p := p, rs := -(theta.getD 1 0), rp := fDiv b (fSub 1 a),
           tau := fDiv (-s.estM) (f32 (Config.ln32 a)) }

/-- The bounds of R414 hold. -/
def fitBounds (e : EstCell) : Bool :=
  let t := fun i => e.theta.getD i 0
  let ab := fun (x : Rat) => if x < 0 then -x else x
  let x := fMul (t 0) (t 1)
  decide ((1 : Rat) / 20000 ≤ e.rs) && decide (e.rs ≤ (1 : Rat) / 50) && decide ((0 : Rat) ≤ e.rp) && decide (e.rp ≤ (1 : Rat) / 50) &&
    t 0 != 1 && decide ((1 : Rat) / 50 ≤ e.tau) && decide (e.tau ≤ 20) && decide (ab (t 2 + x) ≤ ab x / 10)

/-- Every Rs of the last 16 events is within `pct` % of their mean. -/
def fitSpread (e : EstCell) (pct : Nat) : Bool :=
  let n : Nat := e.rsHist.length
  let mean := e.rsHist.foldl (· + ·) 0 / (n : Rat)
  let ab := fun (x : Rat) => if x < 0 then -x else x
  n != 0 && e.rsHist.all (fun r => decide (ab (r - mean) ≤ ab mean * (pct : Rat) / 100))

/-- Convergence at an excitation event (R414): gained, kept, or lost; a loss starts the fit again (R413). -/
def State.fitJudge (s : State) (e : EstCell) : EstCell :=
  if e.converged then (if fitSpread e 10 && fitBounds e then e else s.fitStart e)
  else
    let ok := decide (s.nat Obj.convergeEvents ≤ e.events) && decide (16 ≤ e.rsHist.length) && fitSpread e 5 && fitBounds e
    { e with converged := ok }

/-! Limits and estimate: R417, R418, R420 to R422 -/

/-- Cells of string `k` with a known state of charge: (s × C, (1 - s) × C) in mAh. -/
def State.chargeSides (s : State) (k : Nat) : List (Rat × Rat) :=
  let q := (s.estStr k).q
  (List.range (s.cellCount k)).filterMap (fun i =>
    let e := s.estCell (288 * k + i)
    let c := s.cellCap k i
    if e.known then
      let x := e.socAt q c
      some (fMul x (c : Rat), fMul (fSub 1 x) (c : Rat))
    else none)

/-- Least of a list. -/
def ratMin (l : List Rat) : Rat := l.foldl (fun a b => if b < a then b else a) (l.headD 0)

/-- Stack OCV of a string at state of charge `x`, V, at its mean temperature and rate 0 (R418). -/
def State.stackOcv (s : State) (k : Nat) (x : Rat) : Rat :=
  match s.ocv with
  | some o => fMul ((s.cellCount k : Nat) : Rat) (o.at x (s.tempMean k) 0)
  | none => 0

/-- The string's estimate, usable capacity and energy above the window (R417, R418). -/
def State.estimateString (s : State) (k : Nat) : State :=
  let l := s.chargeSides k
  if l.isEmpty then s
  else
    let down := ratMin (l.map (·.1))
    let up := ratMin (l.map (·.2))
    let cap := fAdd down up
    let soc := if cap = 0 then 0 else fDiv down cap
    let low := f32 ((s.nat Obj.socWindowLow : Rat) / 10000)
    let above := if soc < low then 0 else fSub soc low
    let vbar := fDiv (fAdd (s.stackOcv k soc) (s.stackOcv k low)) 2
    let em := ratRound (fMul (fMul above (fMul cap (f32 ((36 : Rat) / 10)))) vbar)
    let s1 := s.setEstStr k { s.estStr k with soc := soc, cap := cap, tMax := s.tempMax k, tMin := s.tempMin k }
    ((s1.setNat (Obj.socEstimate (k + 1)) (clampI 0 10000 (ratRound (soc * 10000))).toNat).setNat
      (Obj.usableCapacity (k + 1)) (ratRound cap).toNat).setNat (Obj.energyAboveWindow (k + 1)) em.toNat

/-- Least and greatest last released values of a string, 0.1 mV. -/
def State.cellVMin (s : State) (k : Nat) : Option Nat :=
  ((List.range (s.cellCount k)).filterMap (fun i => let c := s.cellRel k i; if c.valid then some c.value else none)).foldl
    (fun (a : Option Nat) v => match a with | some x => some (min x v) | none => some v) none
def State.cellVMax (s : State) (k : Nat) : Option Nat :=
  ((List.range (s.cellCount k)).filterMap (fun i => let c := s.cellRel k i; if c.valid then some c.value else none)).foldl
    (fun (a : Option Nat) v => match a with | some x => some (max x v) | none => some v) none

/-- Discharge and charge limits of an operated string, W (R420). -/
def State.stringLimits (s : State) (k : Nat) : Nat × Nat :=
  let vst : Rat := match s.vStack k with
    | some (v, _) => f32 ((v : Rat) / 10000)
    | none => 0
  let base : Rat :=
    let p : Rat := (s.nat Obj.stringPowerMax : Rat)
    let q := fMul (f32 ((s.nat Obj.stringCurrentMax : Rat) / 1000)) vst
    if q < p then q else p
  let band : Rat := (s.nat Obj.derateBand : Rat) * 10
  let fV := fun (x : Rat) => clamp01 (fDiv x band)
  let lo := match s.cellVMin k with
    | some v => fV ((v : Rat) - (s.nat Obj.cellVoltageMin : Rat) * 10)
    | none => 0
  let hi := match s.cellVMax k with
    | some v => fV ((s.nat Obj.cellVoltageMax : Rat) * 10 - (v : Rat))
    | none => 0
  let fT := match s.tempMax k with
    | some t => clamp01 (fDiv (((s.num Obj.cellTempMax - t : Int)) : Rat) 100)
    | none => 0
  let soc := (s.estStr k).soc * 10000
  let fLow : Rat := if soc ≤ (s.nat Obj.socHardLow : Rat) then 0 else 1
  let fHigh : Rat := if (s.nat Obj.socHardHigh : Rat) ≤ soc then 0 else 1
  let fCold : Rat := match s.tempMin k with
    | some t => if t < s.num Obj.cellTempChargeMin then 0 else 1
    | none => 0
  ((ratRound (fMul base (ratMin [lo, fT, fLow]))).toNat, (ratRound (fMul base (ratMin [hi, fT, fHigh, fCold]))).toNat)

/-- HardLimitFlags of a string (R422): 0 voltage min, 1 voltage max, 2 SoC low, 3 SoC high, 4 temperature. The string discharges, or
charges, by its last control-filter current. -/
def State.hardFlags (s : State) (k : Nat) : Nat :=
  let i := s.num (Obj.value (48 + k))
  let soc := (s.estStr k).soc * 10000
  let known := !(s.chargeSides k).isEmpty
  let f0 := match s.cellVMin k with | some v => decide (v ≤ s.nat Obj.cellVoltageMin * 10) && decide (0 < i) | none => false
  let f1 := match s.cellVMax k with | some v => decide (s.nat Obj.cellVoltageMax * 10 ≤ v) && decide (i < 0) | none => false
  let f2 := known && decide (soc ≤ (s.nat Obj.socHardLow : Rat))
  let f3 := known && decide ((s.nat Obj.socHardHigh : Rat) ≤ soc)
  let f4 := match s.tempMax k with | some t => decide (s.num Obj.cellTempMax ≤ t) | none => false
  [f0, f1, f2, f3, f4].foldr (fun b a => 2 * a + (if b then 1 else 0)) 0

/-- WindowState of Table 14.5. -/
def State.windowOf (s : State) (k : Nat) : Nat :=
  let soc := (s.estStr k).soc * 10000
  if s.nat (Obj.hardLimitFlags (k + 1)) ≠ 0 then 3
  else if (s.chargeSides k).isEmpty then 0
  else if soc < (s.nat Obj.socWindowLow : Rat) then 1
  else if (s.nat Obj.socWindowHigh : Rat) < soc then 2 else 0

/-- The power clamp registers of both directions (R366, R421). -/
def State.refreshClamps (s : State) : State :=
  let dis := sumN (s.operated.map (fun k => s.nat (Obj.dischargeLimit (k + 1))))
  let chg := sumN (s.operated.map (fun k => s.nat (Obj.chargeLimit (k + 1))))
  let a := s.nat Obj.converterPowerClamp
  let b := s.nat Obj.continuousPowerClamp
  { s with conv := { s.conv with
    pclampMax := s.clampFrom a dis, pclampCont := s.clampFrom b dis, pchargeMax := s.clampFrom a chg, pchargeCont := s.clampFrom b chg } }

/-- The reserve input of the limiters (R336): clamp-held or the hard-limit flag. It counts while the module is in a state that
judges fidelity for cause 2 (R17, R18). -/
def State.reserveInput (s : State) : State :=
  let on := s.conv.clampHeld || s.eng.hardLimit
  if on then
    if s.eng.reserve then { s with eng := { s.eng with reserveClear := none } }
    else ({ s with eng := { s.eng with reserve := true, reserveClear := none } }).exception 2
  else if s.eng.reserve && s.eng.reserveClear.isNone then { s with eng := { s.eng with reserveClear := some s.now } }
  else s

/-- A string leaves its working window: exception cause 1 (R16). -/
def State.judgeWindow (s : State) (k : Nat) : State :=
  let w := s.windowOf k
  let was := if k = 0 then s.eng.inWindow1 else s.eng.inWindow2
  let inside := decide (w = 0)
  let s1 := s.setNat (Obj.windowState (k + 1)) w
  let s2 := if k = 0 then { s1 with eng := { s1.eng with inWindow1 := inside } } else { s1 with eng := { s1.eng with inWindow2 := inside } }
  if was ∧ !inside then s2.exception 1 else s2

/-- Every MeasurementInterval: estimates, limits, clamps, hard limits (R417 to R422). -/
def State.limitUpdate (s : State) : State :=
  let s1 := s.forEach s.operated (fun s k =>
    let s1 := s.estimateString k
    let l := s1.stringLimits k
    let s2 := (s1.setNat (Obj.dischargeLimit (k + 1)) l.1).setNat (Obj.chargeLimit (k + 1)) l.2
    let s3 := s2.setNat (Obj.hardLimitFlags (k + 1)) (s2.hardFlags k)
    s3.judgeWindow k)
  let hard := s1.operated.any (fun k => s1.nat (Obj.hardLimitFlags (k + 1)) != 0)
  ({ s1.refreshClamps with eng := { s1.eng with hardLimit := hard } }).reserveInput

/-! Lifetime: R428 -/

/-- A 12-byte extreme record. -/
def extremeRec (v : Int) (t cell : Nat) : List Nat := leBytes 4 (toPattern 32 v) ++ leBytes 4 t ++ leBytes 2 cell ++ [0, 0]

/-- Update a pair of extremes: `hi` gives the second record, which keeps the greater value. A record never set holds zeros. -/
def State.extreme (s : State) (key : Nat) (hi : Bool) (v : Int) (cell : Nat) : State :=
  let b := s.blob key
  let o := if hi then 12 else 0
  let old := slice b o 12
  let ov := toSigned 32 (leNat (slice old 0 4))
  let unset := old.all (· == 0)
  if unset ∨ (hi ∧ ov < v) ∨ (!hi ∧ v < ov) then
    let r := extremeRec v s.powered cell
    s.setBlob key (if hi then slice b 0 12 ++ r else r ++ slice b 12 12)
  else s

/-- Add one to entry `i` of a table of `n` 32-bit counts. -/
def bumpTable (b : List Nat) (n i : Nat) : List Nat :=
  let f := fitTo (4 * n) b
  slice f 0 (4 * i) ++ leBytes 4 (leNat (slice f (4 * i) 4) + 1) ++ slice f (4 * i + 4) (4 * n - 4 * i - 4)

/-- Bin of a rate (C × 100) in the C-rate histogram. -/
def rateBin (r : Rat) : Nat :=
  countP (fun (e : Nat) => decide ((e : Rat) / 10 < r)) [5, 10, 20, 40, 60, 80, 100, 120, 150, 200, 250, 300, 350, 400, 500]

/-- One second of connected time of string `k` (R428). -/
def State.lifetimeSecond (s : State) (k : Nat) : State :=
  let n := k + 1
  let e := s.estStr k
  let s1 := s.count (Obj.connectedSeconds n)
  let sb := min 19 (s.nat (Obj.socEstimate n) / 500)
  let s2 := s1.setBlob (Obj.socHistogram n) (bumpTable (s1.blob (Obj.socHistogram n)) 20 sb)
  let s3 := match s.tempMax k with
    | some t =>
      let tb := if t < -100 then 0 else min 15 ((t + 100) / 50 + 1).toNat
      s2.setBlob (Obj.temperatureHistogram n) (bumpTable (s2.blob (Obj.temperatureHistogram n)) 16 tb)
    | none => s2
  let cn := s.nat Obj.capacityNominal
  let r : Rat := if cn = 0 then 0 else ((e.means.headD 0 : Int) : Rat) / (cn : Nat)
  let s4 := s3.setBlob (Obj.rateHistogram n) (bumpTable (s3.blob (Obj.rateHistogram n)) 16 (rateBin r))
  let c := s4.nat (Obj.usableCapacity n)
  if c = 0 then s4 else s4.setNat (Obj.equivalentCycles n) (s4.nat (Obj.dischargedThroughput n) * 100 / c)

/-! Persistent state: R429 -/

/-- Lifetime objects kept in nonvolatile memory. -/
def lifetimeNums : List Nat :=
  [1, 2].flatMap (fun n => [Obj.connectedSeconds n, Obj.dischargedThroughput n, Obj.chargedThroughput n, Obj.equivalentCycles n])
def lifetimeBlobs : List Nat :=
  [1, 2].flatMap (fun n => [Obj.voltageExtremes n, Obj.currentExtremes n, Obj.temperatureExtremes n, Obj.socHistogram n,
    Obj.temperatureHistogram n, Obj.rateHistogram n, Obj.calibrationHistory n])

/-- Cells with their counts brought up to date. -/
def State.cellsNow (s : State) : List (Nat × EstCell) :=
  s.stack.est.map (fun e => (e.1, { e.2 with soc := e.2.socAt (s.estStr (e.1 / 288)).q (s.cellCap (e.1 / 288) (e.1 % 288)), qMark := 0, balMark := 0 }))

/-- Sequence number of a copy. -/
def persistSeq (p : Option PersistSt) : Nat := match p with | some x => x.seq | none => 0

/-- The newer copy. -/
def State.persisted (s : State) : Option PersistSt :=
  if persistSeq s.stack.persistA < persistSeq s.stack.persistB then s.stack.persistB else s.stack.persistA

/-- Put a copy in the place of the older one. -/
def State.putPersist (s : State) (p : PersistSt) : State :=
  let x := { p with seq := max (persistSeq s.stack.persistA) (persistSeq s.stack.persistB) + 1 }
  let st := { s.stack with lastPersist := s.powered }
  if persistSeq s.stack.persistB < persistSeq s.stack.persistA then { s with stack := { st with persistB := some x } }
  else { s with stack := { st with persistA := some x } }

/-- The persistent state is written to the older of its two copies (R429). -/
def State.persist (s : State) : State :=
  s.putPersist
    { cells := s.cellsNow, caps := [1, 2].map (fun n => (n, s.blob (Obj.cellCapacity n))),
      objs := lifetimeNums.map (fun k => (k, s.num k)), blobs := lifetimeBlobs.map (fun k => (k, s.blob k)),
      reported1 := s.stack.str1.reported, reported2 := s.stack.str2.reported }

/-- The reduced record of a supply-loss shut-down: states of charge and reported values (Table 18.9). -/
def State.persistReduced (s : State) : State :=
  let p := s.persisted.getD {}
  let l := s.cellsNow
  let old := p.cells.filter (fun e => !l.any (fun x => x.1 = e.1))
  s.putPersist { p with
    cells := l.map (fun e => (e.1, match p.cells.find? (fun x => x.1 = e.1) with
      | some x => { x.2 with soc := e.2.soc, known := e.2.known }
      | none => { soc := e.2.soc, known := e.2.known })) ++ old,
    reported1 := s.stack.str1.reported, reported2 := s.stack.str2.reported }

/-- Boot restores the persistent state (R416, R428): fitted parameters replace the initial ones with P / 100 (R413), the reported
value starts at the estimate (R419), every string counts as at rest (Table 14.4). -/
def State.restorePersist (s : State) : State :=
  match s.persisted with
  | none => s
  | some p =>
    let init := s.thetaInit
    let cells := p.cells.map (fun e => (e.1,
      { e.2 with theta := if e.2.theta.isEmpty then [] else e.2.theta
                 p := if e.2.theta.isEmpty then [] else init.2.map (fun x => fDiv x 100)
                 lastId := 0, left := 0, events := 0, rsHist := [], converged := false, pol := 0, zPrev := 0, iPrev := 0 }))
    let s1 := { s with stack := { s.stack with est := cells.foldl (fun m (e : Nat × EstCell) => smSet (fun _ => {}) m e.1 e.2) [] } }
    let s2 := s1.forEach p.caps (fun s e => if e.2.isEmpty then s else s.setBlob (Obj.cellCapacity e.1) e.2)
    let s3 := s2.forEach p.objs (fun s e => s.setNum e.1 e.2)
    let s4 := s3.forEach p.blobs (fun s e => s.setBlob e.1 e.2)
    s4.forEach s4.operated (fun s k =>
      let s1 := s.estimateString k
      let e := s1.estStr k
      let r := if e.cap = 0 then (if k = 0 then p.reported1 else p.reported2) else e.soc * 10000
      (s1.setEstStr k { e with reported := r, restSince := s.now + 1 }).setNat (Obj.socReported (k + 1)) (ratRound r).toNat)

/-! Calibration: R424 to R427 -/

/-- The calibration in progress ends with a result code, and the persistent state is written (R427, R429). -/
def State.calEnd (s : State) (result : Nat) : State :=
  if s.stack.cal.string = 0 then s
  else (({ s with stack := { s.stack with cal := {} } }).setNat Obj.calibrationResult result).persist

/-- Time that a phase of a calibration has run, Hold left out (R427). -/
def State.calElapsed (s : State) : Nat :=
  let c := s.stack.cal
  (match c.heldSince with | some t => t | none => s.now) - c.phaseSince - c.heldTime

/-- The centre of an endpoint phase passes: the charge counter there (R426). -/
def State.calTick (s : State) (k : Nat) (q : Int) : State :=
  let c := s.stack.cal
  if c.string = k + 1 ∧ (c.phase = 2 ∨ c.phase = 4) ∧ !c.centred ∧ s.nat Obj.endpointAverage * sec ≤ 2 * s.calElapsed then
    { s with stack := { s.stack with cal := if c.phase = 2 then { c with centred := true, q2 := q } else { c with centred := true, q4 := q } } }
  else s

/-- A string is opened: a calibration on it ends with code 3 (R427). -/
def State.calOpened (s : State) (k : Nat) : State := if s.stack.cal.string = k + 1 then s.calEnd 3 else s

/-- The module leaves Ready and Shaping for another state than Hold: code 2; Hold stops the clock, and a return starts it again. -/
def State.calMode (s : State) : State :=
  let c := s.stack.cal
  if c.string = 0 then s
  else
    match s.mode with
    | .ready | .shaping =>
      match c.heldSince with
      | some t => { s with stack := { s.stack with cal := { c with heldSince := none, heldTime := c.heldTime + (s.now - t) } } }
      | none => s
    | .hold => if c.heldSince.isNone then { s with stack := { s.stack with cal := { c with heldSince := some s.now } } } else s
    | _ => s.calEnd 2

/-- Offset that a calibration adds to the planner's target, W (R425). -/
def State.calOffset (s : State) : Int :=
  let c := s.stack.cal
  if c.string = 0 ∨ c.heldSince.isSome then 0
  else match c.phase with
    | 1 => s.num Obj.calibrationPower
    | 3 => -s.num Obj.calibrationPower
    | _ => 0

end Sys2Proof.Machine
end

