-- ==== Sys2Proof/Machine/ForecastOps.lean ====
section
/-! DEFINITION. Forecast ports, trust, step domain, recall windows and the state vector: shared operations of
spec/10_forecasting.md and R344 to R346. -/

namespace Sys2Proof.Machine

/-- Code of "no prediction" (R295). -/
def noPrediction : Int := -2147483648

/-- Greatest integer not above a fraction. -/
def ratFloor (r : Rat) : Int := r.num / r.den

/-! Ports: R295, R296, R304, R344 -/

/-- A forecast port. -/
def State.port (s : State) (p : Nat) : PortSt := smGet (fun _ => {}) s.fc.ports p

/-- Replace it. -/
def State.setPort (s : State) (p : Nat) (v : PortSt) : State := { s with fc := { s.fc with ports := smSet (fun _ => {}) s.fc.ports p v } }

/-- All zero. -/
def zeros (l : List Nat) : Bool := l.all (· == 0)

/-- A publication's fields are in order (R296, R344, R345). -/
def pubOk (p : Nat) (b : List Nat) : Bool :=
  match p with
  | 0 => b.length = 64 && zeros (b.drop 4)
  | 1 => b.length = 576 && zeros (slice b 12 52) && leNat (slice b 0 8) % 250 = 0
  | 2 => b.length = 448 && zeros (slice b 13 51) && zeros (slice b 224 32) && zeros (slice b 416 32) && leNat (slice b 0 8) % 250000 = 0
  | 3 => b.length = 64 && decide (leNat (slice b 0 2) ≤ 32768) && decide (leNat (slice b 2 2) ≤ 32768) && listGet 0 b 12 < 4 && zeros (b.drop 13)
  | 4 => b.length = 64 && zeros (b.drop 60)
  | 5 => b.length = 64 && zeros (b.drop 6) && decide (leNat (slice b 4 2) ≤ 32768)
  | _ => false

/-- A publication reaches the Hazels: it waits for the next latch, or is discarded and counted (R294, R296, R344). -/
def State.publishPort (s : State) (p h stamp : Nat) (b : List Nat) : State :=
  if p < 4 then
    if s.fc.bound = h ∧ pubOk p b then s.setPort p { s.port p with nextBytes := b, nextStamp := stamp, nextValid := true }
    else s.count Obj.rejectedPublications
  else if p < 6 ∧ s.nat Obj.auxPortHandle = h ∧ (s.prog h).tenant = 0 ∧ (s.prog h).lane = 1 ∧ pubOk p b then
    s.setPort p { s.port p with nextBytes := b, nextStamp := stamp, nextValid := true }
  else s.count Obj.rejectedPortPublications

/-- Fast-lane tick period of a program in ns: the longest of its parts' dies (R187). -/
def State.tickPeriod (s : State) (h : Nat) : Nat :=
  (s.prog h).parts.foldl (fun a q => max a (s.nat (Obj.fastTickPeriod (dieOf q.array)) * us)) us

/-- Age limit of a port, ns (R304, R344). -/
def State.portLimit (s : State) (p : Nat) : Nat :=
  match p with
  | 1 => s.nat Obj.fineMaxAge * us
  | 2 => s.nat Obj.coarseMaxAge * us
  | 4 | 5 => 2 * s.tickPeriod (s.nat Obj.auxPortHandle)
  | _ => 2 * s.tickPeriod s.fc.bound

/-- A port is absent under R304. -/
def State.portGone (s : State) (p : Nat) : Bool :=
  let q := s.port p
  (decide (p < 4) && s.fc.bound = 255) || !q.valid || decide (q.stamp + s.portLimit p < s.hall)

/-- A port counts as absent in this tick: it is, or ports differ (R297, R304). -/
def State.portAbsent (s : State) (p : Nat) : Bool := (decide (p < 4) && s.fc.differ) || s.portGone p

/-- A horizon accepted on port 1 is kept while a bin could still be judged by it (R300): lead and horizon are at most 31 ms. -/
def State.keepFine (s : State) (stamp : Nat) (b : List Nat) : State :=
  { s with fc := { s.fc with fine := (stamp, b) :: s.fc.fine.filter (fun e => decide (s.hall < e.1 + 32 * ms)) } }

/-- The Hazels latch every port (R296). -/
def State.latchPorts (s : State) : State :=
  s.forEach (List.range 6) (fun s p =>
    let q := s.port p
    if q.nextValid then
      let s1 := s.setPort p { bytes := q.nextBytes, stamp := q.nextStamp, valid := true, nextBytes := [], nextStamp := 0, nextValid := false }
      if p = 1 then s1.keepFine q.nextStamp q.nextBytes else s1
    else s)

/-- A power field of a port: a value outside 0 to 2 × RatedRackLoad is no prediction (R296). -/
def State.powerField (s : State) (b : List Nat) (i : Nat) : Option Int :=
  let v := toSigned 32 (leNat (slice b i 4))
  if v < 0 ∨ (2 * s.nat Obj.ratedRackLoad : Nat) < v then none else some v

/-- OnsetProbability of port 3, 0 while it is absent. -/
def State.onset (s : State) : Nat := if s.portAbsent 3 then 0 else leNat (slice (s.port 3).bytes 0 2)

/-! Trust: R300, R301 -/

/-- ErrorLimit as a fraction. -/
def State.errLimit (s : State) : Rat := (s.nat Obj.errorLimit : Rat) / 10000

/-- Store eps, and trust with it. -/
def State.setEps (s : State) (e : Rat) : State :=
  let l := s.errLimit
  let t := if l = 0 then 0 else clamp01 (1 - e / l)
  (({ s with fc := { s.fc with eps := e, trust := t } }).setNat Obj.trust (ratRound (t * 32768)).toNat).setNat Obj.meanBinError
    (min 65535 (ratRound (e * 10000)).toNat)

/-- eps starts again at ErrorLimit (R300). -/
def State.resetTrust (s : State) : State := s.setEps s.errLimit

/-- A fine horizon contains the bin that starts at `b` µs. -/
def fineHas (h : List Nat) (b : Nat) : Bool :=
  let t := leNat (slice h 0 8)
  decide (t ≤ b) && decide (b < t + 64 * 250)

/-- Mean of a fine horizon for that bin. -/
def State.fineMean (s : State) (h : List Nat) (b : Nat) : Option Int := s.powerField h (64 + 4 * ((b - leNat (slice h 0 8)) / 250))

/-- The horizon that judges the bin at `b` µs: the latest published no later than b - EvaluationLead that contains it. -/
def State.judgeHorizon (s : State) (b : Nat) : Option (List Nat) :=
  let ok := s.fc.fine.filter (fun e => decide (e.1 + s.nat Obj.evaluationLead * us ≤ b * us) && fineHas e.2 b)
  (ok.foldl (fun (a : Option (Nat × List Nat)) e => match a with
    | some x => if x.1 < e.1 then some e else some x
    | none => some e) none).map (·.2)

/-- The end of the bin that starts at `b` µs of T (R300): the sums of the measured rack load start again. -/
def State.evaluateBin (s : State) (b : Nat) : State :=
  let n := s.fc.binCount
  let mean : Rat := if n = 0 then 0 else (s.fc.binSum : Rat) / n
  let s0 := { s with fc := { s.fc with binSum := 0, binCount := 0 } }
  if (s.mode = .ready ∨ s.mode = .shaping) ∧ n ≠ 0 ∧ s.fc.bound ≠ 255 then
    match s.judgeHorizon b with
    | none => s0
    | some h =>
      match s.fineMean h b with
      | none => s0
      | some m =>
        let d := mean - (m : Rat)
        let rated := s.nat Obj.ratedRackLoad
        let e := (if d < 0 then -d else d) / (rated : Nat)
        let s1 := { s0 with fc := { s0.fc with lastBinError := ratRound d, lastBinStart := b } }
        if 4 * s.errLimit < e then s1.setEps s.errLimit else s1.setEps (s.fc.eps + (e - s.fc.eps) / 16)
  else s0

/-- A replacing forecaster still has to prove itself: its trust or its confidence has not yet exceeded ConfidenceFloor (R311). -/
def State.stillProving (s : State) (conf : Nat) : Bool :=
  s.fc.proving && !(decide (s.nat Obj.confidenceFloor < conf) && decide ((s.nat Obj.confidenceFloor : Rat) / 32768 < s.fc.trust))

/-- c_eff and the feed-forward term of the tick (R301, R302, R311), LateForecasts and ForecasterState. -/
def State.forecastTerms (s : State) : State :=
  let conf := if s.portAbsent 3 then 0 else leNat (slice (s.port 3).bytes 2 2)
  let proving := s.stillProving conf
  let c : Rat :=
    if s.mode ≠ .shaping ∨ s.portAbsent 3 ∨ conf < s.nat Obj.confidenceFloor ∨ proving then 0
    else
      let q : Rat := (conf : Rat) / 32768
      if q < s.fc.trust then q else s.fc.trust
  let clamp := s.num Obj.feedForwardClamp
  let ff : Int := if s.portAbsent 0 then 0
    else match s.powerField (s.port 0).bytes 0 with
      | some p => clampI (-clamp) clamp (ratRound (c * ((p - s.eng.rack : Int) : Rat)))
      | none => 0
  let s1 := { s with fc := { s.fc with cEff := c, ff := ff, proving := proving }, eng := { s.eng with onsetArmed := decide (s.nat Obj.onsetArmThreshold < s.onset) } }
  let s2 := s1.setNat Obj.effectiveConfidence2800 (ratRound (c * 32768)).toNat
  let s3 := if s.fc.bound ≠ 255 ∧ s.portGone 0 then s2.count Obj.lateForecasts else s2
  s3.setNat Obj.forecasterState2800 (if s.fc.bound = 255 then 0 else if s.portGone 3 then 1 else if c = 0 then 2 else 3)

/-! Step domain and windows: R294, R306 -/

/-- Participants of a domain on this shelf. -/
def Dom.localCount (d : Dom) : Nat := sumN (d.trays.map (·.count))

/-- The module's choice: the open domain with the most participants here, the lowest DomainId on a tie. -/
def State.stepChoice (s : State) : Nat :=
  let l := (s.pool.doms.filter (fun e => e.2.state = 3)).map (·.2)
  let named := s.nat Obj.stepDomain2800
  if named ≠ 0 ∧ l.any (fun d => d.id = named) then named
  else
    ((l.foldl (fun (a : Option Dom) d => match a with
      | some x => if x.localCount < d.localCount ∨ (x.localCount = d.localCount ∧ d.id < x.id) then some d else some x
      | none => some d) none).map (·.id)).getD 0

/-- The 38 windows of Table 10.8. -/
def fcWindow (dom i : Nat) : WindowDef :=
  if i < 36 then { anchor := 1, channel := i, level := 0, owner := 0, domain := dom, start := -1024, samples := 4096 }
  else if i = 36 then { anchor := 1, channel := 0x32, level := 0, owner := 0, domain := dom, start := -1024, samples := 4096 }
  else { anchor := 1, channel := 0x31, level := 3, owner := 0, domain := dom, start := -2097152, samples := 3072 }

/-- Define the windows for a newly bound forecaster; 0xFFFF where they cannot be defined. -/
def State.defineFcWindows (s : State) : State :=
  let ok := (List.range 38).all (fun i =>
    let w := fcWindow 0 i
    let r := s.ringDef w.channel
    r.live && decide (w.level < r.levels) && decide (w.samples * r.width ≤ 65536))
  match (if ok then findGap 38 4096 0 (s.hist.windows.map (·.1)) else none) with
  | some b =>
    let ws := (List.range 38).foldl (fun m i => smPut m (b + i) (fcWindow s.fc.stepDomain i)) s.hist.windows
    ({ s with hist := { s.hist with windows := ws } }).setNat Obj.forecastWindowBase b
  | none => s.setNat Obj.forecastWindowBase 0xFFFF

/-- Free them. -/
def State.dropFcWindows (s : State) : State :=
  let b := s.nat Obj.forecastWindowBase
  if b = 0xFFFF then s
  else
    let s1 := s.forEach (List.range 38) (fun s i => s.dropWindow (b + i))
    s1.setNat Obj.forecastWindowBase 0xFFFF

/-- The step domain follows the open domains; its windows are redefined when it changes (R306). -/
def State.refreshStep (s : State) : State :=
  let d := s.stepChoice
  if d = s.fc.stepDomain then s
  else
    let s1 := { s with fc := { s.fc with stepDomain := d } }
    let b := s.nat Obj.forecastWindowBase
    if d = 0 ∨ b = 0xFFFF then s1
    else
      let ws := (List.range 38).foldl (fun m i =>
        match m.find? (fun e => e.1 = b + i) with
        | some e => smPut m (b + i) { e.2 with domain := d }
        | none => m) s1.hist.windows
      { s1 with hist := { s1.hist with windows := ws } }

/-- A program may be bound (R294). -/
def State.bindable (s : State) (h : Nat) : Bool :=
  let p := s.prog h
  let outs := (p.copyParts false).flatMap (fun q => q.decl.outputs.filter (fun o => o.kind = 1))
  decide (h < 128) && p.lane = 1 && p.tenant = 0 && (p.state = pgLoaded || p.state = pgRunning) &&
    outs.any (fun o => o.target = 0 && o.lines = 1) && outs.any (fun o => o.target = 3 && o.lines = 1) &&
    outs.all (fun o => (o.target != 1 || o.lines = 9) && (o.target != 2 || o.lines = 7))

/-- A write to ForecasterHandle: 0, or the abort code (R294, R306). -/
def State.bindForecaster (s : State) (h : Nat) : Nat × State :=
  if h = 255 then (0, (s.setNat Obj.forecasterHandle 255).dropFcWindows)
  else if !s.bindable h then (0x08000022, s)
  else
    let s1 := s.setNat Obj.forecasterHandle h
    (0, if s.nat Obj.forecastWindowBase = 0xFFFF then s1.refreshStep.defineFcWindows else s1)

/-- A new binding takes effect at a control tick (R294, R300). -/
def State.takeBinding (s : State) : State :=
  let h := s.nat Obj.forecasterHandle
  if h = s.fc.bound then s
  else
    let s1 := { s with fc := { s.fc with
        bound := h, proving := decide (s.fc.bound ≠ 255 ∧ h ≠ 255), fine := [], ports := s.fc.ports.filter (fun e => decide (4 ≤ e.1)) } }
    if h = 255 then s1 else s1.resetTrust

/-- The bound program is unloaded: ForecasterHandle becomes 0xFF (R294). -/
def State.unbindProg (s : State) (h : Nat) : State :=
  if s.nat Obj.forecasterHandle = h then (s.bindForecaster 255).2 else s

/-! The planner's view: R303, R338 -/

/-- P_plan of one horizon bin of `len` µs that starts at `t` µs. -/
def State.planBin (s : State) (h : List Nat) (at_ t len : Nat) : Int :=
  match s.powerField h (at_ + 4 * ((t - leNat (slice h 0 8)) / len)) with
  | some m => s.eng.rack + ratRound (s.fc.cEff * ((m - s.eng.rack : Int) : Rat))
  | none => s.eng.rack

/-- End of the piece of constant P_plan that holds `t` µs, and its value: a fine bin, else a coarse bin, else the rack load to the end. -/
def State.planPiece (s : State) (t : Nat) : Nat × Int :=
  let f := (s.port 1).bytes
  let c := (s.port 2).bytes
  let ft := leNat (slice f 0 8)
  let ct := leNat (slice c 0 8)
  if !s.portAbsent 1 ∧ ft ≤ t ∧ t < ft + 16000 then ((t / 250 + 1) * 250, s.planBin f 64 t 250)
  else
    let next := if !s.portAbsent 1 ∧ t < ft then ft else t + 250000
    if !s.portAbsent 2 ∧ ct ≤ t ∧ t < ct + 10000000 then (min ((t / 250000 + 1) * 250000) next, s.planBin c 64 t 250000)
    else (if !s.portAbsent 2 ∧ t < ct then min ct next else next, s.eng.rack)

/-- Sum of P_plan × µs over [t, e). -/
def State.planSum (s : State) : Nat → Nat → Nat → Int
  | 0, _, _ => 0
  | n + 1, t, e =>
    if e ≤ t then 0
    else
      let p := s.planPiece t
      let u := min p.1 e
      p.2 * (u - t : Nat) + s.planSum n u e

/-- Mean of P_plan over a span of `len` µs from `t`. -/
def State.planMean (s : State) (t len : Nat) : Int := if len = 0 then s.eng.rack else divRound (s.planSum 300 t (t + len)) len

/-! State vector: R299, R346 -/

/-- Little-endian two's complement. -/
def leInt (n : Nat) (v : Int) : List Nat := leBytes n (toPattern (8 * n) v)

/-- Field that saturates. -/
def leSat (n : Nat) (v : Nat) : List Nat := leBytes n (min v (256 ^ n - 1))

/-- The step domain's record. -/
def State.stepDom (s : State) : Dom :=
  match s.domSlot s.fc.stepDomain with
  | some i => if s.fc.stepDomain = 0 then {} else s.dom i
  | none => {}

/-- Lines 0 to 2, Table 10.6. -/
def State.vectorLow (s : State) (l : Nat) : List Nat :=
  match l with
  | 0 =>
    let d := s.stepDom
    let open_ := d.state = 3
    let arrived := d.trays.flatMap (·.arrived)
    leBytes 8 s.hall ++ leBytes 2 s.fc.stepDomain ++ leBytes 2 (if open_ then (s.word d.shelfNode).gen else 0) ++
      leSat 4 (s.weightSum arrived) ++ leSat 4 (s.weightSum d.participants) ++
      leSat 4 (if d.completed = 0 then 4294967295 else (s.now - d.lastCompletion) / us) ++ leSat 4 (d.lastInterval / us) ++
      leSat 4 s.recentWeight ++ leSat 4 (sumN (s.pool.pending.map (fun r => s.weightSum r.remaining))) ++
      [(if s.pool.doms.any (fun e => e.2.state = 3 && !e.2.waiting.isEmpty) then 1 else 0) +
        (if s.pool.doms.any (fun e => e.2.state = 3 && e.2.hallRelease.isSome) then 2 else 0) + (if s.pool.pending.isEmpty then 0 else 4),
        s.mode.code]
  | 1 =>
    leInt 4 s.eng.rack ++ leInt 4 s.eng.shelfIn ++ leInt 4 s.eng.pCmd ++ leInt 4 s.eng.pBus ++ leBytes 4 s.activeLimit ++
      leSat 4 (sumN (s.operated.map (fun k => s.nat (Obj.energyAboveWindow (k + 1))))) ++
      leBytes 2 (s.nat (Obj.socEstimate 1)) ++ leBytes 2 (s.nat (Obj.socEstimate 2)) ++ leBytes 4 (s.nat Obj.busVoltage2910) ++
      [countP (fun e => e.2.answering) s.eng.rects,
        (if s.eng.reserve then 1 else 0) + (if s.operated.any (fun k => s.nat (Obj.windowState (k + 1)) != 0) then 2 else 0)]
  | _ =>
    leBytes 2 (s.nat Obj.trust) ++ leBytes 2 (s.nat Obj.effectiveConfidence2800) ++ leBytes 2 (s.nat Obj.meanBinError) ++
      leBytes 2 (s.nat Obj.forecastWindowBase) ++ leBytes 4 (s.nat Obj.ratedRackLoad) ++ leInt 4 s.fc.lastBinError ++
      leBytes 8 s.fc.lastBinStart ++ [s.nat Obj.sageControl]

/-- Active phases, bit n for phase n. -/
def State.activeMask (s : State) : Nat := (List.range 48).foldl (fun m n => setBit m n (s.phase n).active) 0

/-- Faulted phases. -/
def State.faultMask (s : State) : Nat := (List.range 48).foldl (fun m n => setBit m n (s.phase n).faulted) 0

/-- A rectifier as the module knows it. -/
def State.rect (s : State) (r : Nat) : RectSt := smGet (fun _ => {}) s.eng.rects r

/-- Replace it. -/
def State.setRect (s : State) (r : Nat) (v : RectSt) : State := { s with eng := { s.eng with rects := smSet (fun _ => {}) s.eng.rects r v } }

/-- Lines 3 to 15, Table 11.8. -/
def State.vectorHigh (s : State) (l : Nat) : List Nat :=
  match l with
  | 3 =>
    leBytes 4 (s.nat Obj.busSetpointInForce) ++ leInt 4 (s.inst 0).e0 ++ leInt 4 s.eng.u0 ++ leInt 4 s.fc.ff ++ leInt 4 s.eng.relLast ++
      leInt 4 s.eng.hoLast ++ leInt 4 (s.num Obj.converterPowerRef2910) ++ leBytes 4 (s.nat Obj.ratingTimer) ++ leBytes 4 s.eng.w1 ++
      leInt 4 (s.num Obj.releaseDutyGain)
  | 4 =>
    leBytes 8 s.eng.busA.pPrev ++ leBytes 8 s.eng.busB.pPrev ++ leInt 4 (s.num Obj.plannerTarget) ++ leInt 4 s.eng.portAdvice ++
      [s.eng.busA.maskPrev, s.eng.busB.maskPrev, (if s.eng.busA.stuck || s.eng.busB.stuck then 1 else 0) + (if s.eng.reserve then 2 else 0)]
  | 5 => (List.range 16).flatMap (fun i => leInt 4 (s.num (Obj.value i)))
  | 6 => (List.range 16).flatMap (fun i => leInt 4 (s.num (Obj.value (16 + i))))
  | 7 => (List.range 16).flatMap (fun i => leInt 4 (s.num (Obj.value (32 + i))))
  | 8 => (List.range 32).flatMap (fun i => leBytes 2 (s.phase i).cmpNew)
  | 9 => (List.range 16).flatMap (fun i => leBytes 2 (s.phase (32 + i)).cmpNew) ++ leBytes 8 s.activeMask
  | 10 => (List.range 12).flatMap (fun r => leInt 4 (s.rect r).power)
  | 11 => (List.range 12).map (fun r => (s.rect r).status) ++ (List.range 12).map (fun r => if (s.rect r).answering then 1 else 0)
  | 12 => (List.range 4).flatMap (fun i => leInt 4 (s.num (Obj.value (48 + i))))
  | 13 => (List.range 15).flatMap (fun i => leInt 4 (s.num (Obj.output (49 + i))))
  | _ => []

/-- Line `l` of the control engine's state vector, 64 bytes. -/
def State.vectorLine (s : State) (l : Nat) : List Nat := fitTo 64 (if l < 3 then s.vectorLow l else s.vectorHigh l)

end Sys2Proof.Machine
end

