-- ==== Sys2Proof/Machine/ModeOps.lean ====
section
/-! DEFINITION. Authority latches, failed starts, energising, the connection sequence and the ways down: shared operations of chapters 2,
12 and 18. -/

namespace Sys2Proof.Machine

/-! Latches, clock source: R48, R62, R362, R374 -/

/-- Hazel that sources SD_CLK: the holder, else A where it is healthy, else B (R62). -/
def State.clockSource (s : State) : Nat := if s.holder = 1 then 0 else if s.holder = 2 then 1 else if s.healthy 0 then 0 else 1

/-- The clock source follows authority and health; the outputs that a change bridges, at most three, are a free value (R362). -/
def State.followClock (s : State) : State :=
  let c := s.clockSource
  if c = s.pins.sdClk then s
  else
    let d := s.draw
    { d.2 with pins := { s.pins with sdClk := c }, conv := { s.conv with bridge := Config.number d.1 % 4 } }

/-- Replace both latches; their neither-set time starts where both become clear. -/
def State.setLatches (s : State) (a b : Bool) : State :=
  let was := s.hold.latchA || s.hold.latchB
  ({ s with hold := { s.hold with latchA := a, latchB := b, noneSince := if was && !(a || b) then s.now else s.hold.noneSince } }).followClock

/-- A half clears its latch. -/
def State.clearLatch (s : State) (h : Nat) : State :=
  if h = 0 then s.setLatches false s.hold.latchB else s.setLatches s.hold.latchA false

/-- A half sets its latch: gated by the other latch being clear. -/
def State.setLatch (s : State) (h : Nat) : State :=
  if h = 0 then (if s.hold.latchB then s else s.setLatches true false) else if s.hold.latchA then s else s.setLatches false true

/-- Half elected by R49 and R491 from eligibility and counts: the lower count, A on a tie. -/
def elect (eligA eligB : Bool) (cntA cntB : Nat) : Option Nat :=
  match eligA, eligB with
  | true, true => if cntB < cntA then some 1 else some 0
  | true, false => some 0
  | false, true => some 1
  | false, false => none

/-! Failed starts: R502 to R505 -/

/-- Failures in the window of 600 s that are later than the last clear (R503). -/
def State.failsInWindow (s : State) : List (Nat × Nat × Nat × Nat) :=
  (s.boot.failLog.take s.boot.sinceClear).filter (fun e => decide (s.powered ≤ e.1 + 600) && decide (s.boot.lastClear ≤ e.1))

/-- FailedStartLog: 64 bytes. -/
def State.failLogBytes (s : State) : List Nat :=
  fitTo 64 ((s.boot.failLog.take 8).flatMap (fun e => leBytes 4 e.1 ++ [e.2.1, e.2.2.1] ++ leBytes 2 e.2.2.2))

/-- A failed start is logged before it is acted on (R502); the log keeps its eight newest entries. -/
def State.logFail (s : State) (cause halves detail : Nat) : State :=
  { s with boot := { s.boot with
    failLog := (s.powered, cause, halves, detail) :: s.boot.failLog.take 7, sinceClear := min 8 (s.boot.sinceClear + 1) } }

/-- The count is cleared (R505). -/
def State.clearFails (s : State) : State := { s with boot := { s.boot with lastClear := s.powered, sinceClear := 0 } }

/-- SeedReason: causes of the third, second and first failure (R507). -/
def State.seedReasonNow (s : State) : Nat :=
  let l := s.failsInWindow
  let c := fun i => (l.getD i (0, 0, 0, 0)).2.1
  c 0 * 65536 + c 1 * 256 + c 2

/-! Gates and standing down -/

/-- Both latches clear, gates idle, no request: Standby (R510, R511). -/
def State.standDown (s : State) : State :=
  let s1 := ((s.gdenOff.setLatches false false).setNat Obj.moduleRequest 0).setNat Obj.energiseStep 0
  { s1 with
    mode := .standby
    conv := { s1.conv with uvArmed := false }
    boot := { s1.boot with failStep := 0, shutStep := 0, connecting := 0, softSince := none } }

/-- A string's opening reaches the estimator's rest and a calibration (R415, R427). -/
def State.openFor (s : State) (k : Nat) (wait : Bool) (lock : Nat) : State := ((s.openString k wait lock).calOpened k)

/-- Every string is opened. -/
def State.openEvery (s : State) : State := s.forEach [0, 1] (fun s k => s.openFor k true 0)

/-- The shut-down of R510 goes on: strings open, then the rectifiers ramp, then the bus falls. -/
def State.failAdvance (s : State) : State :=
  let s1 := if s.boot.failStep = 1 ∧ s.allOpen then { s with boot := { s.boot with failStep := 2, failSince := s.now } } else s
  if s1.boot.failStep = 2 ∧ s1.busDown then s1.standDown else s1

/-- An energising sequence fails (R510): logged, and the shelf is brought down. -/
def State.failEnergise (s : State) (cause detail : Nat) : State :=
  if s.energising then
    let s1 := (s.logFail cause 0 detail).setNat Obj.energiseStep 0
    let s2 := { s1 with boot := { s1.boot with failStep := 1, failSince := s1.now, connecting := 0, softSince := none } }
    (s2.openEvery).failAdvance
  else s

/-! Ready and the connection sequence: R368, R375, Table 18.6 -/

/-- Instance 0's histories are zeroed (R375). -/
def State.zeroLoop (s : State) : State := s.setInst 0 ((s.inst 0).cleared)

/-- BOOT is permitted in Standby and Seed only: leaving Standby, the ESC goes down from it, with AL status code 0x0011 (R521). -/
def State.escLeaveBoot (s : State) : State :=
  if s.dict.esc = .boot then (({ s with dict := { s.dict with esc := .init, alStatus := 0x0011 } } : State)).emit (.alStatus 0x0011) else s

/-- The ports have no link: Off and Ship (R74, Table 19.2). -/
def State.escNoLink (s : State) : State := { s with dict := { s.dict with esc := .init, alStatus := 0 } }

/-- Ready is entered: phases start as re-added at the first common valley, trust starts again (R300, Table 18.6 step 5). -/
def State.enterReady (s : State) : State :=
  let s1 := ({ s with mode := .ready, boot := { s.boot with connecting := 0 } }.setNat Obj.energiseStep 0).setNat Obj.moduleRequest 0
  ((s1.startPhases.zeroLoop).resetTrust).escLeaveBoot

/-- A string's sequence starts: V_stack is checked, KsNEG driven closed (R368 steps 1 and 2). A refusal is cause 7. -/
def State.startConnect (s : State) (k : Nat) : Nat × State :=
  match s.vStackFresh k with
  | none => (7, s)
  | some _ =>
    let t := s.str k
    let s1 := s.setStr k { t with conn := .precharging, step := 2, stepSince := s.now, matched := false, check1Done := false, check2Done := false }
    (0, s1.driveClosed k .neg)

/-- A string's result of R370 is reported. -/
def State.connectResult (s : State) (k cause : Nat) : State := s.setNat (Obj.lastConnectResult (k + 1)) cause

/-- A failed connection opens its string; a failed precharge check opens KsPRE at once (R372). -/
def State.connectAbort (s : State) (k cause : Nat) : State :=
  let s1 := s.connectResult k cause
  let t := s1.str k
  let s2 := s1.setStr k { t with failCause := cause, preDrive := if cause = 2 ∨ cause = 4 then false else t.preDrive }
  s2.openFor k (cause != 2 && cause != 4 && cause != 9) 0

/-- Next string of energising step 4 that still has to be connected (R368): LockedOut strings are skipped. -/
def State.nextConnect (s : State) : Option Nat := s.operated.find? (fun k => decide ((s.str k).conn = .opened))

/-- Energising step 4 goes on: the next string's sequence, or Ready. The recursion ends: each round fails or starts a sequence. -/
def State.connectNext (s : State) : Nat × Nat × State :=
  match s.nextConnect with
  | none => (0, 0, s.enterReady)
  | some k =>
    let s1 := { s with boot := { s.boot with connecting := k + 1 } }
    let r := s1.startConnect k
    (r.1, k, r.2)

/-- Share recomputation of R325. -/
def State.updateShares (s : State) : State :=
  let w1 : Nat :=
    if !s.isS2 then 32768
    else
      let on := fun k => s.connected k || s.mode != .ready && s.mode != .shaping && s.mode != .hold
      if on 0 && !on 1 then 32768
      else if on 1 && !on 0 then 0
      else
        let a := s.nat (Obj.energyAboveWindow 1)
        let b := s.nat (Obj.energyAboveWindow 2)
        if a + b = 0 then 16384 else max 3277 (min 29491 (divRound (32768 * a) (a + b)).toNat)
  ({ s with eng := { s.eng with w1 := w1, w2 := if s.isS2 then 32768 - w1 else 0 } }).setNat Obj.stringShare1 w1

/-- KsPOS has closed: KsPRE is driven open and the string is connected (R368 steps 5 and 6). -/
def State.connectDone (s : State) (k : Nat) : State :=
  let t := s.str k
  let s1 := s.setStr k { t with conn := .connected, step := 0, stepSince := s.now, matched := false, preDrive := false, idle := false, lockCause := 0 }
  ((s1.connectResult k 0).count (Obj.connectCount (k + 1))).updateShares

/-- In a precharge: KsPRE is closed and KsPOS not yet. -/
def State.precharging (s : State) (k : Nat) : Bool := (s.str k).step = 4

/-- The match of R369, judged in a control tick: with the duty check passed, KsPOS is driven closed; cause 8 where it fails. -/
def State.judgeMatch (s : State) (k : Nat) : Nat × State :=
  let t := s.str k
  match s.vStack k with
  | none => (0, s)
  | some (v, _) =>
    if t.step = 4 ∧ s.vConvMatches k v then
      if s.dutyOk v then
        let s1 := s.setStr k { t with matched := true, step := 5, stepSince := s.now }
        (0, s1.driveClosed k .pos)
      else (8, s)
    else (0, s)

/-- Interlocks that end with time (Table 12.2): KsPRE after PrechargeTimeout, KsPOS and KsPRE together after 100 ms. -/
def State.interlockTick (s : State) (k : Nat) : State :=
  let t := s.str k
  if t.preDrive ∧ t.posDrive ∧ 100 * ms ≤ s.now - t.stepSince then (s.setStr k { t with preDrive := false }).count (Obj.interlockRefusals (k + 1))
  else s

/-! Shut-downs: R511, R513 -/

/-- ShutdownRecord (Table 18.14). -/
def State.shutRecord (s : State) (kind status began : Nat) : State :=
  s.setBlob Obj.shutdownRecord
    ([kind, status, 0, 0] ++ leBytes 8 ((began : Int) + s.fab.htOffset).toNat ++ leBytes 4 ((s.now - began) / ms))

/-- P_cmd is zero (R511 step 3): gates idle, comparison disarmed, both strings opened together (steps 3 and 4). -/
def State.shutOpen (s : State) : State :=
  let s1 := s.gdenOff
  let s2 := { s1 with conv := { s1.conv with uvArmed := false }, boot := { s1.boot with shutStep := 4, shutSince := s1.now } }
  s2.openEvery

/-- The bus is down (R511 step 5): persistent state, latches, Standby. -/
def State.shutDone (s : State) : State :=
  if s.boot.shutStep = 4 ∧ s.busDown then ((s.shutRecord 1 0 s.boot.shutBegan).persist).standDown else s

/-- What waits for strings to open or for the bus to fall goes on. -/
def State.wayDown (s : State) : State := s.failAdvance.shutDone

end Sys2Proof.Machine
end

