-- ==== Sys2Proof/Machine/Reactions.lean ====
section
/-! DEFINITION. What a fault does beyond its record: entering Safe, reactions at block, half and module level, a half declared lost, a
flow that fails (spec/17_faults.md R482 to R490, spec/02_module_and_package.md R43 to R47, spec/04_brucel_fabric.md R102). -/

namespace Sys2Proof.Machine

/-! Flows that fail: R102, R123 -/

/-- Frames of a flow that are queued on a lane or wait for a route. -/
def State.queuedOf (s : State) (key : Nat) : List Frame :=
  (s.fab.lanes.flatMap (fun e => (e.2.txq.filter (fun q => q.flow = some key)).map (·.frame))) ++ (s.flow key).waiting.map (·.1)

/-- One frame per TransferId, the first. -/
def perTransfer : List Frame → List Frame
  | [] => []
  | f :: r => f :: (perTransfer r).filter (fun g => g.tid != f.tid)

/-- An abandoned transfer is reported to its requester: this module's own service, or the endpoint that asked (R102, R108). -/
def State.reportReset (s : State) (node : Nat) (f : Frame) : State :=
  if f.srcEp = 0x1000 ∨ f.srcEp = 0x1001 ∨ f.srcEp = 0x1002 ∨ f.srcEp = 0x1003 then s.peerAnswer f.tid (s.nodeShelf node) rsFlowReset
  else
    match s.fab.resent.find? (fun r => r.tid = f.tid) with
    | some r => (({ s with fab := { s.fab with resent := s.fab.resent.filter (fun q => q.tid != f.tid) } } : State)).refuseRequest 0
        { f with tid := r.origTid }  rsFlowReset
    | none => s.refuseRequest 0 f rsFlowReset

/-- A flow fails at its sender: unacknowledged transfers end, answered ones are reported, FlowReset goes out (R102); a hall flow's
failure breaks the domains with a tree neighbour there (R161). -/
def State.flowFail (s : State) (key : Nat) : State :=
  let fl := s.flow key
  let all := fl.unacked.map (·.frame) ++ s.queuedOf key
  let gone := (perTransfer (all.filter (fun f => isRequest f.op))).filter isAnswered
  let s1 := s.forEach ((s.fab.lanes.filter (fun e => e.2.txq.any (fun q => q.flow = some key))).map (·.1)) (fun s n =>
    s.setLane n { s.lane n with txq := (s.lane n).txq.filter (fun q => q.flow != some key) })
  let s2 := s1.setFlow key { s1.flow key with
    unacked := [], waiting := [], downSince := none, resetting := some (fl.next, s1.now), enq := 0 }
  let s3 := (s2.sendFlowReset key).count Obj.flowResets
  let s4 := s3.forEach gone (fun s f => s.reportReset (flowNode key) f)
  if 64 ≤ flowNode key then s4.breakToward (flowNode key - 64) else s4

/-- Hall flows whose state half `h` holds: even peers on F0, odd on F1 (R123). -/
def State.hallFlowsOn (s : State) (h : Nat) : List Nat :=
  (s.fab.flows.filter (fun e => 64 ≤ flowNode e.1 && (flowNode e.1 - 64) % 2 = h)).map (·.1)

/-! Temperature channels: R465, R466, R468 -/

/-- Half whose Hazel reads channel `c` (Table 16.1). -/
def chanHalf (c : Nat) : Nat :=
  if c < 32 then c / 16 else if c < 48 then (c - 32) / 8 else if c < 56 then (c - 48) / 4 else if c < 60 then (c - 56) / 2 else (c - 60) / 2

/-- A channel's judgement so far. -/
def State.chan (s : State) (c : Nat) : ChanSt := smGet (fun _ => {}) s.pow.chans c

/-- Replace it. -/
def State.setChan (s : State) (c : Nat) (v : ChanSt) : State := { s with pow := { s.pow with chans := smSet (fun _ => {}) s.pow.chans c v } }

/-- A channel takes no part: SensorType 0, or Lost. -/
def State.chanUnused (s : State) (c : Nat) : Bool := s.nat (Obj.sensorType c) = 0
/-- Lost with its half (R465). -/
def State.chanLost (s : State) (c : Nat) : Bool := bitOf (s.nat Obj.lostChannels) c

/-- A channel becomes broken with a code of Table 16.7 (R466). -/
def State.breakChan (s : State) (c code : Nat) : State :=
  let v := s.chan c
  if v.broken then s.setChan c { v with code := code }
  else
    let s1 := s.setChan c { v with broken := true, code := code, goodRun := 0, valid := false }
    let s2 := ((s1.setNat Obj.brokenChannels (setBit (s1.nat Obj.brokenChannels) c true)).count (Obj.brokenEvents c)).setNat (Obj.channelStatus c) code
    (s2.setNum (Obj.temperature c) (-32768)).event (s2.block blHousekeeping) 7 c

/-- External channels of a half whose ADCs or housekeeping block is in its safe state are broken (Table 17.5). -/
def State.breakExternal (s : State) (h : Nat) : State :=
  s.forEach ((List.range 16).map (· + 16 * h)) (fun s c => if s.chanUnused c || s.chanLost c then s else s.breakChan c 3)

/-- The channels of a lost half are Lost (R465). -/
def State.loseChans (s : State) (h : Nat) : State :=
  s.forEach ((List.range 64).filter (fun c => chanHalf c = h)) (fun s c =>
    let s0 := (s.setNat Obj.lostChannels (setBit (s.nat Obj.lostChannels) c true)).setNat Obj.brokenChannels (setBit (s.nat Obj.brokenChannels) c false)
    if s.chanUnused c then s0.setChan c {}
    else ((s0.setChan c {}).setNat (Obj.channelStatus c) 5).setNum (Obj.temperature c) (-32768))

/-! Cross-link, die links, lanes -/

/-- A cross-link channel is treated as down (R43). -/
def State.channelDown (s : State) (c : Nat) : State :=
  let v := setBit s.hold.channels c false
  { s with hold := { s.hold with channels := v, silentSince := if v = 0 ∧ s.hold.channels ≠ 0 then s.now else s.hold.silentSince } }

/-- A die link goes down: programs across it move, EastLinkState reads 0, the array channel follows link 3 (R185). -/
def State.dieLinkDown (s : State) (d : Nat) : State :=
  if s.pecan.linkDown.any (fun e => e.1 = d) then s
  else
    let s1 := s.splitBy d
    let s2 := { s1 with pecan := { s1.pecan with linkDown := smPut s1.pecan.linkDown d (s1.now + 1), linkUp := smErase s1.pecan.linkUp d } }
    let s3 := (s2.linkState d).runReplacements
    if d = 3 then s3.channelDown 2 else s3

/-- Links of die `d`. -/
def dieLinks (d : Nat) : List Nat := (if d = 0 then [] else [d - 1]) ++ if d < 7 then [d] else []

/-- The lane selectors move lanes to die `h`: they retrain there (R45, Table 2.11). -/
def State.moveLanes (s : State) (ns : List Nat) (h : Nat) : State :=
  s.forEach ns (fun s n =>
    let st := s.laneState n
    let s1 := if st = 5 ∨ (s.lane n).cageRefused then s else s.laneDrop n (if s.nat (Obj.domainState2D01 (26 + h)) = 1 then 1 else 0) 0
    s1.setNat Obj.laneSelectorMap (setBit (s1.nat Obj.laneSelectorMap) n (h = 0)))

/-- A Hazel takes a CAN FD bus (R333). -/
def State.takeBus (s : State) (b h : Nat) : State :=
  s.setBus b { s.bus b with owner := h, from_ := s.now + 30 * us, busOff := false }

/-! Safe: Table 1.7 -/

/-- The module enters Safe for a fault of class `cls`, code `code`, block `b` (R22, R23, R484). During the energising sequence the failed
start is logged first: cause 6 for a bus over-voltage, cause 8 otherwise (R502). -/
def State.enterSafe (s : State) (cls code b : Nat) : State :=
  if s.mode = .safe ∨ s.mode = .off ∨ s.mode = .ship then s
  else
    let ov := decide (cls = clPowerPath ∧ code = 8 ∧ b % 97 = blPwm)
    let s0 := if s.energising then (if ov then s.logFail 6 0 4 else s.logFail 8 0 cls) else s
    let s1 := ((s0.breakAllQuiet).calEnd 2).openEvery.gdenOff
    let s2 := s1.forEach [0, 1] State.balanceStop
    let s3 := ((s2.setNat Obj.energiseStep 0).setNat Obj.moduleRequest 0).setNat Obj.safeCause (cls * 2 ^ 24 + code * 65536 + b)
    let s4 := s3.forEach [0, 1] (fun s b => s.setBus b { s.bus b with zeroSent := false, ended := false })
    ({ s4 with
      mode := .safe
      hold := { s4.hold with phase := 0, transferTo := 0 }
      boot := { s4.boot with failStep := 0, shutStep := 0, connecting := 0, softSince := none, restartAt := none } } : State).dropFcWindows.escLeaveBoot

/-! A half's reaction, and its loss -/

/-- Blocks of a half read a state. -/
def State.halfBlocks (s : State) (h v : Nat) : State :=
  let s1 := s.forEach (List.range 97) (fun s l => s.setNat (Obj.blockState (97 * h + l)) v)
  { s1 with flt := { s1.flt with tests := s1.flt.tests.filter (fun e => e.1 / 97 != h) } }

/-- The other half has stopped running. -/
def State.halfGone (s : State) (h : Nat) : Bool := s.lost h || s.reacted h || (s.mode = .boot && (if h = 0 then s.boot.stageA else s.boot.stageB) = 0)

/-- A half's ALIVE pin stops (R68). -/
def State.aliveStop (s : State) (h : Nat) : State :=
  if h = 0 then { s with pins := { s.pins with aliveOnA := false } } else { s with pins := { s.pins with aliveOnB := false } }

/-- A half reacts at half level: ALIVE stops, its latch clears, its blocks read 3 (R484). In the only half that runs it is a module-level
reaction. -/
def State.halfReact (s : State) (h cls code b : Nat) : State :=
  if s.reacted h ∨ s.lost h then s
  else if s.halfGone (1 - h) then s.enterSafe cls code b
  else ((s.aliveStop h).clearLatch h).halfBlocks h 3

/-- A debug session ends (R565); one on J12 releases the dies it halted (R564). -/
def State.endSession (s : State) (k : Nat) : State :=
  let d := s.dict
  let s1 := { s with dict := { d with sessions := smErase d.sessions k, tap := if k = 0 then .idcode else d.tap } }
  if k = 0 then { s1 with pecan := { s1.pecan with halted := [] } } else s1

/-- The EtherCAT ports move to F1: the link comes up again there and sessions on the ports end (R525, R565, Table 2.11). -/
def State.portsMove (s : State) : State :=
  let s1 := (s.endSession 1).endSession 2
  { s1 with dict := { s1.dict with esc := .init, alStatus := 0 } }

/-- The dictionary server moves to Hazel B: requests in progress end without effect. A store ends with 0x0800_0020, a mirror request with
AccessFailed, a CoE transfer without an answer (R525, R547). -/
def State.serverLost (s : State) : State :=
  let d := s.dict
  let sdo := d.storing.isSome && !d.storeFoe && d.waiting.all (fun w => w.1 != Obj.storeParameters)
  let s1 := { s with
    dict := { d with storing := none, storeFoe := false, waiting := [] }
    hist := { s.hist with rings := s.hist.rings.map (fun (e : Nat × RingDef) => (e.1, { e.2 with deleting := false })) } }
  let s2 := s1.forEach d.waiting (fun s w => s.writeResponse w.2.1 w.2.2 0x44 0)
  if sdo then s2.emit (.answer 0x08000020 Obj.storeParameters) else s2

/-- Everything a lost half held goes over to the survivor, or is lost (R43 to R47, R123, R161, R162, R198, R290, R333, R399, R465). -/
def State.halfTakeover (s : State) (h : Nat) : State :=
  let o := 1 - h
  let s1 := ((s.aliveStop h).clearLatch h).halfBlocks h 3
  let s2 := s1.moveLanes ((List.range 52).filter (fun n => s1.laneDie n = h)) o
  let s3 := s2.forEach ([0, 1].filter (fun b => (s2.bus b).owner = h)) (fun s b => s.takeBus b o)
  let s4 := { s3 with hold := { s3.hold with channels := 0, silentSince := if s3.hold.channels = 0 then s3.hold.silentSince else s3.now } }
  let s5 := ((s4.breakOnDie h).reportLost h true true).loseDescs h
  let s6 := s5.forEach (s5.hallFlowsOn h) State.flowFail
  let s7 := s6.forEach ((List.range 64).map (· + 64 * h)) (fun s g => if (s.arr g).power = 6 then s else s.arrayOut g 6)
  let s8 := s7.forEach ((List.range 4).map (· + 4 * h)) (fun s k => if s.nat (Obj.stackState k) = 4 then s else s.stackGone k 4)
  let s9 := s8.forEach [0, 1] State.ringOneEnd
  let s10 := (s9.loseChans h).loseRails h
  if h = 0 then s10.serverLost.portsMove else s10

/-- A half is declared lost (R490): recovery window 3, takeover; during energising the survivor takes authority and repeats the step
(Table 18.10). -/
def State.halfLost (s : State) (h : Nat) : State :=
  if s.lost h then s
  else
    let held := decide (s.holder = h + 1)
    let s1 := { s with hold := { s.hold with lostA := s.hold.lostA || h = 0, lostB := s.hold.lostB || h = 1, transferTo := 0 } }
    let s2 := (s1.openRecovery sec).halfTakeover h
    if s2.energising && held then
      let s3 := if s2.healthy (1 - h) then s2.setLatch (1 - h) else s2
      { s3 with boot := { s3.boot with stepSince := s3.now } }
    else s2

/-! Block reactions: Table 17.5 -/

/-- What the safe state of local block `l` of half `h` brings with it. -/
def State.blockEffect (s : State) (h l : Nat) : State :=
  let o := 1 - h
  if l = blAdcs ∨ l = blHousekeeping then s.breakExternal h
  else if l = blRail then s.forEach ((List.range 24).filter (fun d => domHalf d = h) ++ [26 + h, 24 + h]) (fun s d => s.domainOff d true)
  else if l = blRing1 then s.ringOneEnd 0
  else if l = blRing1 + 1 then s.ringOneEnd 1
  else if l = blCan then s.forEach ([0, 1].filter (fun b => (s.bus b).owner = h)) (fun s b => if s.halfGone o then s else s.takeBus b o)
  else if l = blSupervisor then s.channelDown 0
  else if blTray0 ≤ l ∧ l < blPool then
    let ns := (List.range 52).filter (fun n => s.laneDie n = h && 11 + portGroup n = l)
    if s.halfGone o ∨ s.blockSafe o l then s.forEach ns (fun s n => if s.laneState n = 5 then s else s.laneDrop n 0 0)
    else s.moveLanes ns o
  else if l = blPool then ((s.breakOnDie h).reportLost h true false)
  else if l = blWatch then (s.loseDescs h).reportLost h false true
  else if l = blPacer then s.flushPending
  else if l = blEsc then if h = 0 then s.portsMove else s
  else if l = blFabricPort then s.channelDown 1
  else if 21 ≤ l then
    let d := 4 * h + (l - 21) / 19
    let j := (l - 21) % 19
    if j < 16 then s.arrayOut (16 * d + j) 5
    else if j = 16 then
      let s1 := s.forEach ((List.range 16).map (· + 16 * d)) (fun s g =>
        if (s.arr g).power = 5 ∨ (s.arr g).power = 6 then s else (s.arrayOut g 5).setNat (Obj.blockState (arrayBlock g)) 2)
      (s1.forEach (dieLinks d) State.dieLinkDown).runReplacements
    else if j = 17 then (if s.nat (Obj.stackState d) = 3 ∨ s.nat (Obj.stackState d) = 4 then s else s.stackGone d 3)
    else (s.loseArrays (fun q => dieOf q.array = d)).runReplacements
  else s

/-- A block enters its safe state. -/
def State.blockReact (s : State) (b : Nat) : State :=
  let v := s.nat (Obj.blockState b)
  if v = 2 ∨ v = 3 then s
  else
    let s1 := (s.setNat (Obj.blockState b) 2).blockEffect (b / 97) (b % 97)
    { s1 with flt := { s1.flt with tests := smErase s1.flt.tests b } }

/-- The holder clears its own latch once its half is not healthy (R485). -/
def State.holderHealth (s : State) : State :=
  if s.holder = 1 ∧ !s.healthy 0 then s.clearLatch 0 else if s.holder = 2 ∧ !s.healthy 1 then s.clearLatch 1 else s

/-- Raise a fault of class `cls` in block `b` at native level `native`; `own` says that a block-level reaction is the safe state of Table
17.5, and not only what the fault's own rule has done (R484, R486, R579). -/
def State.raise (s : State) (b cls code detail native : Nat) (own : Bool := false) : State :=
  let r := s.recordFault b cls code detail native
  let s1 := if s.mode = .boot ∧ s.boot.firstFail = none then { r.2 with boot := { r.2.boot with firstFail := some b } } else r.2
  let s2 :=
    if r.1 = lvModule then s1.enterSafe cls code b
    else if r.1 = lvHalf then (if own then s1.blockReact b else s1).halfReact (b / 97) cls code b
    else if own then s1.blockReact b
    else s1
  s2.holderHealth

end Sys2Proof.Machine
end

