-- ==== Sys2Proof/Machine/LifeOps.lean ====
section
/-! DEFINITION. Resets, failed starts, Seed, thermal shut-down, the ways into and out of power, and the requests of R24: shared operations
of chapters 1, 14, 16 and 18. -/

namespace Sys2Proof.Machine

/-! Thermal shut-down: R473 -/

/-- Domains that a thermal shut-down leaves on go off once the bus is de-energised: all but 24, 25 and the Hazel domains (R473). -/
def State.thermalOff (s : State) : State :=
  if s.boot.thermalLatch ∧ s.mode = .safe ∧ s.busDown then
    if (List.range 28).any (fun d => d != 24 && d != 25 && (s.domState d = 1 || s.domState d = 2)) then
      s.domainsOffBut (fun d => d = 24 || d = 25) true
    else s
  else s

/-- A thermal shut-down that channel `c` causes (R473); 255 for the latch found at Boot (R474). -/
def State.thermalShutdown (s : State) (c : Nat) : State :=
  let s1 := { s with boot := { s.boot with thermalLatch := true } }
  let s2 := if c < 64 ∧ s.nat Obj.thermalState2E00 ≠ 3 then (s1.setNat Obj.shutdownCause c).setNat Obj.shutdownTime s1.hall else s1
  ((s2.setNat Obj.thermalState2E00 3).raise (s2.block blHousekeeping) clThermal 8 c lvModule).thermalOff

/-! Resets: R516 -/

/-- Numeric objects that survive every reset (R516, R549, Table 14.5). -/
def nvNums : List Nat :=
  [Obj.orderingCode, Obj.bootCount, Obj.poweredTime, Obj.shipCount, Obj.storeCount, Obj.keyUpdateSequence]

/-- Byte strings that survive every reset: records of shut-down and of ship entry, and the ticket that the key store holds (DEDUCED from op 3
of R552, log entry 42). -/
def nvBlobs : List Nat := [Obj.shutdownRecord, Obj.shipRecord, Obj.admissionTicket]

/-- What of a string survives a reset: LockedOut (R373) and the contactors' own feedback. -/
def StringSt.kept (t : StringSt) : StringSt :=
  if t.conn = .lockedOut ∨ t.lockCause ≠ 0 then
    { conn := .lockedOut, lockCause := t.lockCause, negFb := t.negFb, posFb := t.posFb, preFb := t.preFb }
  else { negFb := t.negFb, posFb := t.posFb, preFb := t.preFb }

/-- Boot begins, for the source `cause` of Table 18.11, at stage 1, or at stage 2 for a restart after a failed start: all volatile state
is lost (R516), but an OvLatched rail stays latched while 54 V is present (R444). Hall time runs on from its last value, unlocked (DESIGN CHOICE, log entry 43). -/
def State.resetTo (s : State) (cause : Nat) : State :=
  let again := decide (cause = 4)
  let stage := if again then 2 else 1
  let s0 : State := {}
  let b := s.boot
  let p := s.pins
  { s0 with
    pending := s.pending
    now := s.now
    freeCtr := s.freeCtr
    out := s.out
    mode := .boot
    objs := s.objs.filter (fun e => nvNums.contains e.1 || (cause != 1 && e.1 / 256 / 16 = 0x2D2 && e.1 % 256 = 1 && e.2 = 4))
    blobs := s.blobs.filter (fun e => nvBlobs.contains e.1)
    flt := { recoveryUntil := if s.mode = .safe then s.now + sec else 0 }
    hold := { noneSince := s.now }
    boot := {
      stageA := stage, stageB := stage, since := s.now
      lastClear := b.lastClear, sinceClear := b.sinceClear, failLog := b.failLog
      poweredMark := s.now
      thermalLatch := if cause = 1 then false else b.thermalLatch
      zheudFirmware := b.zheudFirmware }
    pins := {
      feedA := p.feedA, feedB := p.feedB, coolantSeated := p.coolantSeated, protTripLow := p.protTripLow
      ibcAlertLow := p.ibcAlertLow, wakeLatch := p.wakeLatch, gdFaultLow := p.gdFaultLow
      aliveOnA := again && p.aliveOnA, aliveOnB := again && p.aliveOnB
      aliveA := again && p.aliveA, aliveB := again && p.aliveB
      edgeA := p.edgeA, edgeB := p.edgeB }
    conv := { s0.conv with str1 := s.conv.str1.kept, str2 := s.conv.str2.kept }
    fab := { s0.fab with htOffset := s.fab.htOffset }
    stack := { s0.stack with persistA := s.stack.persistA, persistB := s.stack.persistB }
    dict := { s0.dict with
      storedA := s.dict.storedA, storedB := s.dict.storedB, opKeys := s.dict.opKeys, adopted := s.dict.adopted, authors := s.dict.authors
      imagesA := s.dict.imagesA, imagesB := s.dict.imagesB, fusesA := s.dict.fusesA, fusesB := s.dict.fusesB
      failures := s.dict.failures, lockUntil := s.dict.lockUntil } }

/-- A reset source acts: nonvolatile counts brought up to date, then Boot (R505, R516). -/
def State.reset_ (s : State) (cause : Nat) : State :=
  let s1 := (s.setNat Obj.poweredTime (s.powered % 2 ^ 32)).count Obj.bootCount
  let s2 := if cause = 1 ∨ cause = 3 then s1.clearFails else s1
  let s3 := (s2.resetTo cause).setNat Obj.resetCause cause
  if cause = 1 ∨ cause = 3 then { s3 with boot := { s3.boot with lastClear := s3.nat Obj.poweredTime } } else s3

/-! Failed starts and Seed: R503 to R507 -/

/-- Seed is entered (R506). -/
def State.enterSeed (s : State) : State :=
  let keep := if s.boot.stageA = 0 then 25 else 24
  let s0 := s.setNat Obj.seedReason s.seedReasonNow
  let s1 := (s0.setLatches false false).gdenOff.domainsOffBut (fun d => d = keep) false
  let s2 := { s1 with mode := .seed, boot := { s1.boot with restartAt := none } }
  (s2.setNat Obj.moduleRequest 0).forEach s2.operated State.ringRestart

/-- A start fails in Boot: logged, then Seed at the third failure in the window, else the domains go off for 1 s (R502 to R504). -/
def State.bootFail (s : State) (cause halves detail : Nat) : State :=
  let s1 := s.logFail cause halves detail
  if 3 ≤ s1.failsInWindow.length then s1.enterSeed
  else
    let s2 := s1.domainsOffBut (fun _ => false) false
    { s2 with boot := { s2.boot with restartAt := some (s2.now + sec) } }

/-- Stage of a half, and its replacement. -/
def State.stageOf (s : State) (h : Nat) : Nat := if h = 0 then s.boot.stageA else s.boot.stageB
/-- Replace the stage of a half. -/
def State.setStage (s : State) (h n : Nat) : State :=
  if h = 0 then { s with boot := { s.boot with stageA := n } } else { s with boot := { s.boot with stageB := n } }

/-- BootStage: the lowest stage that a half is in; 0 outside Boot (R498). -/
def State.bootStageNow (s : State) : Nat :=
  if s.mode != .boot then 0
  else
    let a := s.boot.stageA
    let b := s.boot.stageB
    min 6 (if a = 0 then b else if b = 0 then a else min a b)

/-- A half starts stage 4: its domains are requested in prerequisite order (Table 18.1). -/
def State.stage4 (s : State) (h : Nat) : State :=
  let l := [24 + h, 26 + h] ++ (List.range 4).map (fun i => 8 + 4 * h + i) ++ (List.range 4).map (fun i => 4 * h + i) ++
    (List.range 4).map (fun i => 16 + 4 * h + i)
  (s.setStage h 4).forEach l State.domainOn

/-- A half reaches stage 3, and goes on where the coolant is seated already (R31). -/
def State.stage3 (s : State) (h : Nat) : State :=
  if s.pins.coolantSeated then s.stage4 h
  else
    let s1 := s.setStage h 3
    { s1 with boot := { s1.boot with stage3Since := if s.boot.stageA = 3 ∨ s.boot.stageB = 3 then s.boot.stage3Since else s.now } }

/-- COOLANT_IL_N has been low for 100 ms: halves in stage 3 go on; in Standby the domains that R32 switched off are requested again
(DEDUCED, log entry 44). -/
def State.coolantBack (s : State) : State :=
  let w := decide (s.boot.stageA = 3 ∨ s.boot.stageB = 3)
  let s1 := { s with
    pins := { s.pins with coolantSeated := true }
    boot := { s.boot with stage3Time := if w then s.boot.stage3Time + (s.now - s.boot.stage3Since) else s.boot.stage3Time } }
  if s1.mode = .boot then s1.forEach ([0, 1].filter (fun h => s1.stageOf h = 3)) State.stage4
  else if s1.mode = .standby then
    s1.forEach ((List.range 2).filter (fun h => !s1.lost h && !s1.reacted h)) (fun s h =>
      s.forEach ([24 + h, 26 + h] ++ (List.range 24).filter (fun d => domHalf d = h)) State.domainOn)
  else s1

/-- COOLANT_IL_N has been high for 100 ms (R32, Table 18.10). -/
def State.coolantGone (s : State) : State :=
  let s1 := { s with pins := { s.pins with coolantSeated := false } }
  let b := s.block blBoot
  if s.mode = .ready ∨ s.mode = .shaping ∨ s.mode = .hold then s1.raise b clExternal 8 0 lvModule
  else if s.mode = .boot ∨ s.mode = .seed ∨ s.mode = .standby then
    let keep := if s.escB || s.boot.stageA = 0 then 25 else 24
    let s2 := (s1.domainsOffBut (fun d => d = keep) false).raise b clExternal 8 0 lvBlock
    if s2.mode == .boot then
      let s3 := s2.forEach ([0, 1].filter (fun h => 4 ≤ s2.stageOf h)) (fun s h => s.setStage h 3)
      if s2.stageOf 0 == 3 || s2.stageOf 1 == 3 then s3 else { s3 with boot := { s3.boot with stage3Since := s3.now } }
    else s2
  else s1

/-! Loss of both feeds: R513, R514 -/

/-- Both feeds are lost: Off, and the supply-loss shut-down begins (Table 18.9). -/
def State.supplyLost (s : State) : State :=
  let s0 := { s with pins := { s.pins with feedA := false, feedB := false } }
  if s0.mode = .off ∨ s0.mode = .ship then s0
  else
    let s1 := ((s0.calEnd 2).gdenOff).forEach [0, 1] State.idlePhases
    let s2 := ((s1.setNat Obj.energiseStep 0).setNat Obj.moduleRequest 0).domainsOffBut (fun d => d = 24 || d = 25) false
    let s3 := s2.persistReduced.escNoLink
    { s3 with
      mode := .off
      conv := { s3.conv with uvArmed := false }
      hold := { s3.hold with phase := 0, transferTo := 0 }
      boot := { s3.boot with
        supplyLoss := some s3.now, feedReturned := false, safePoint := none, failStep := 0, shutStep := 0, connecting := 0
        softSince := none, restartAt := none, shipStep := 0, inReset := false } }

/-- The drives are released 1 ms after the phases idle, all together (R367, R513). -/
def State.releaseDrives (s : State) : State :=
  s.forEach [0, 1] (fun s k =>
    let t := s.str k
    s.setStr k { t.drivesOpen with conn := if t.conn = .lockedOut then .lockedOut else .opened, step := 0, openStep := 0, idle := true })

/-- The safe point: the record is written and the Hazels halt (R513, R514). -/
def State.safePointReached (s : State) : State :=
  match s.boot.supplyLoss, s.boot.safePoint with
  | some t0, none =>
    let s1 := s.shutRecord 2 (if s.boot.feedReturned then 1 else 0) t0
    let s2 := s1.setNat Obj.poweredTime (s1.powered % 2 ^ 32)
    { s2 with
      boot := { s2.boot with safePoint := some s2.now, poweredMark := s2.now }
      pins := { s2.pins with aliveOnA := false, aliveOnB := false } }
  | _, _ => s

/-- A feed is present (R578). From Off past the safe point Boot begins with both feeds previously absent (Table 18.11). -/
def State.feedPresent (s : State) (f : Half) : State :=
  let s1 := match f with
    | .a => { s with pins := { s.pins with feedA := true } }
    | .b => { s with pins := { s.pins with feedB := true } }
  if s1.mode = .off then
    match s1.boot.safePoint with
    | none => { s1 with boot := { s1.boot with feedReturned := true } }
    | some _ =>
      if s1.boot.feedReturned then s1
      else ({ s1 with boot := { s1.boot with poweredMark := s1.now } }).reset_ 1
  else s1

/-! Ship: R430 to R434 -/

/-- ShipRecord. -/
def State.setShipRecord (s : State) (code n : Nat) : State := s.setBlob Obj.shipRecord [code, n, 0, 0, 0, 0, 0, 0]

/-- Slices of operated strings that have not acknowledged Sleep. -/
def State.notAsleep (s : State) : Nat :=
  sumN (s.operated.map (fun k => countP (fun a => decide (s.nat (Obj.lastResult (sliceIdx k a)) ≠ 0) || !(s.ring k).asleep) ((List.range (s.slicesOf k)).map (· + 1))))

/-- Ship entry goes on once every ring has been told to sleep: steps 4 and 5 (Table 14.3). -/
def State.shipAdvance (s : State) : State :=
  if s.boot.shipStep = 2 ∧ s.operated.all (fun k => (s.ring k).asleep || !s.ringWorked k) then
    let s1 := ((s.setShipRecord 1 (s.notAsleep % 256)).setNat Obj.moduleRequest 0).escNoLink
    { s1 with
      mode := .ship
      boot := { s1.boot with shipStep := 0 }
      pins := { s1.pins with relayOpen := true, aliveOnA := false, aliveOnB := false } }
  else s

/-- Ship entry begins: persistent state and record, then Balance mask 0 and Sleep on each ring (steps 1 to 3). -/
def State.shipBegin (s : State) : State :=
  let s1 := (s.persist.setShipRecord 2 0).setNat Obj.moduleRequest 5
  let s2 := { s1 with boot := { s1.boot with shipStep := 2, shipSince := s1.now } }
  let s3 := s2.forEach s2.operated (fun s k =>
    let s1 := s.setRing k { s.ring k with asleep := false, queue := [] }
    (s1.balanceStop k).ringAll k rgSleep [])
  s3.shipAdvance

/-- Ship entry is abandoned: WAKE_DET draws current (Table 14.6). -/
def State.shipCancel (s : State) : State :=
  let s1 := (s.setShipRecord 3 0).setNat Obj.moduleRequest 0
  let s2 := { s1 with boot := { s1.boot with shipStep := 0 } }
  s2.forEach s2.operated (fun s k => (s.setRing k { s.ring k with asleep := false, queue := [], out := none }).ringRestart k)

/-- The wake latch is set (R67): in Ship it closes the input relay and Boot begins (R433); during ship entry it abandons it. -/
def State.wake (s : State) : State :=
  let s1 := { s with pins := { s.pins with wakeLatch := true } }
  if s1.mode = .ship then
    let s2 := { s1 with pins := { s1.pins with relayOpen := false }, boot := { s1.boot with poweredMark := s1.now } }
    (s2.count Obj.shipCount).reset_ 1
  else if s1.boot.shipStep ≠ 0 then s1.shipCancel
  else s1

/-- STRs_AUX_EN conducts (R67). -/
def State.auxOn (s : State) (k : Nat) : Bool :=
  s.pins.wakeLatch ||
  ((s.operated.contains k) && s.boot.shipStep ≤ 3 && !s.boot.inReset &&
    (s.mode = .ready || s.mode = .shaping || s.mode = .hold || s.energising || s.mode = .standby || s.mode = .seed || s.mode = .safe))

/-! Requests: R24, R25, R430, R508 -/

/-- SDO abort codes of Table 19.4. -/
abbrev abNone : Nat := 0
abbrev abNoObject : Nat := 0x06020000
abbrev abNoSub : Nat := 0x06090011
abbrev abRole : Nat := 0x06010000
abbrev abReadOnly : Nat := 0x06010002
abbrev abLength : Nat := 0x06070010
abbrev abValue : Nat := 0x06090030
abbrev abHigh : Nat := 0x06090031
abbrev abLow : Nat := 0x06090032
abbrev abState : Nat := 0x08000022
abbrev abLost : Nat := 0x08000020

/-- Every coefficient of an instance is zero (R319). -/
def Inst.untuned (c : Inst) : Bool := c.b0 = 0 && c.b1 = 0 && c.b2 = 0 && c.b3 = 0 && c.a1 = 0 && c.a2 = 0 && c.a3 = 0

/-- Streams that serve string `k`: its phases, and its current and voltage streams (Table 3.3). -/
def State.streamsOf (s : State) (k : Nat) : List Nat := s.phasesOf k ++ [48 + k, 50 + k]

/-- Refusals of request 1 (R319, R378, R395, R411, R504, R508). -/
def State.energiseRefused (s : State) : Bool :=
  (s.inst 0).untuned || (s.inst 1).untuned ||
  (s.operated.flatMap s.streamsOf ++ [52, 53]).any (fun c => s.nat (Obj.gain c) = 0) ||
  s.operated.any (fun k => (s.ring k).measFault) ||
  (s.blob Obj.ocvTable).isEmpty ||
  decide (3 ≤ s.failsInWindow.length) ||
  s.nat Obj.rectifiersFitted = 0 ||
  (!s.healthy 0 && !s.healthy 1) ||
  s.operated.all (fun k => (s.str k).conn = .lockedOut)

/-- The energising sequence starts: authority elected, set-point frames with zero set-points (Table 18.6 steps 1 and 2). -/
def State.energiseBegin (s : State) : State :=
  let s1 := match elect (s.healthy 0) (s.healthy 1) (s.unackOf 0) (s.unackOf 1) with
    | some h => s.setLatch h
    | none => s
  let s2 := (s1.setNat Obj.moduleRequest 1).setNat Obj.energiseStep 2
  { s2 with boot := { s2.boot with stepSince := s2.now, softSince := none, connecting := 0 }, eng := { s2.eng with rects := [] } }

/-- An orderly shut-down starts: Table 18.8 steps 1 and 2. -/
def State.shutBegin (s : State) : State :=
  let s1 := s.forEach (s.domsWhere (fun d => d.state = 3)) (fun s i => s.breakDomain i false)
  let s2 := s1.flushPending.setNat Obj.moduleRequest 4
  { s2 with boot := { s2.boot with shutStep := 2, shutSince := s2.now, shutBegan := s2.now } }

/-- A string's estimate is below ShipSocMin (R430). -/
def State.socShort (s : State) : Bool := s.operated.any (fun k => decide (s.nat (Obj.socEstimate (k + 1)) < s.nat Obj.shipSocMin))

/-- A write of ModuleRequest, whose value and role the dictionary server has judged: its abort code, and its effect (R24, Table 1.8). -/
def State.request (s : State) (role : Role) (v : Nat) : Nat × State :=
  let busy := decide (s.nat Obj.moduleRequest ≠ 0)
  match v, s.mode with
  | 1, .standby => if busy || s.energiseRefused then (abState, s) else (0, s.energiseBegin)
  | 2, .ready => if busy then (abState, s) else (0, { s with mode := .shaping })
  | 3, .shaping => if busy then (abState, s) else (0, ({ s with mode := .ready } : State).flushPending)
  | 4, .ready | 4, .shaping =>
    if busy || (role != .service && !(s.domsWhere (fun d => d.state = 3)).isEmpty) then (abState, s) else (0, s.shutBegin)
  | 5, .standby =>
    if busy || s.stack.cal.string ≠ 0 || s.pins.wakeLatch || (role != .service && s.socShort) then (abState, s) else (0, s.shipBegin)
  | 6, .seed => (0, s.reset_ 3)
  | 6, .safe => if s.busDown && !s.boot.thermalLatch then (0, s.reset_ 3) else (abState, s)
  | _, _ => (abState, s)

end Sys2Proof.Machine
end

