-- ==== Sys2Proof/Machine/HoldOps.lean ====
section
/-! DEFINITION. Hold, re-election and return, and cross-link channels: shared operations of spec/17_faults.md R490 to R493 and
spec/02_module_and_package.md R50 to R52. -/

namespace Sys2Proof.Machine

/-- LastHold: 16 bytes of Table 17.11. -/
def State.writeLastHold (s : State) (winner : Nat) : State :=
  s.setBlob Obj.lastHold (leBytes 8 ((s.hold.tH : Int) + s.fab.htOffset).toNat ++ leBytes 4 (s.now - s.hold.tH) ++ [winner, s.hold.cause, 0, 0])

/-- Safe without a fault of a block: a Hold that cannot be settled (R491, R492). SafeCause names class 0, code 12 and the boot and security
block (DESIGN CHOICE, log entry 45). -/
def State.holdSafe (s : State) : State := (s.writeLastHold 0).enterSafe 0 12 (s.block blBoot)

/-- The halves disagree: latches clear, Hold is entered at once; a third Hold within 1 s, or a disagreement before authority is settled, is
Safe (R50, R60, R491, R492). -/
def State.enterHold (s : State) (cause : Nat) : State :=
  if s.mode = .hold then (s.setLatches false false).holdSafe
  else if s.mode = .ready ∨ s.mode = .shaping then
    let recent := s.hold.entries.filter (fun e => decide (s.now < e + sec))
    if 2 ≤ recent.length then
      ({ s with hold := { s.hold with tH := s.now, cause := cause } } : State).setLatches false false |>.holdSafe
    else
      let s1 := ((s.exception 3).setLatches false false).gdenOff
      let s2 := { s1 with
        mode := .hold
        hold := { s1.hold with before := s.mode, tH := s.now, phase := 1, cause := cause, entries := s.now :: recent, transferTo := 0, supHandled := !s.supUp } }
      s2.calMode
  else s

/-- Authority is settled: the module returns to the state it held, the planner goes on from the measured outputs, phases are re-added
(R26, R375, R491 step 4). -/
def State.settle (s : State) : State :=
  let s1 := ((s.count Obj.holdCount).count Obj.authorityTransferCount).writeLastHold s.holder
  let out := sumI ((List.range 12).map (fun r =>
    if (s1.rect r).answering then ((smGet (fun _ => ((0 : Int), 0)) s1.hist.latest (0x0024 + r)).1) else 0))
  let s2 := { s1 with
    mode := s1.hold.before
    hold := { s1.hold with phase := 0 }
    eng := { s1.eng with resume := some out } }
  (((s2.openRecovery sec).calMode).startPhases).zeroLoop

/-- Half elected at step 3 (R491, R492). -/
def State.holdWinner (s : State) : Option Nat :=
  let a := s.hold.eligA && !s.halfGone 0
  let b := s.hold.eligB && !s.halfGone 1
  if s.supUp || s.lost 0 || s.lost 1 then elect a b s.hold.cntA s.hold.cntB
  else if a then some 0 else none

/-- Step 2: eligibility and counts are exchanged. -/
def State.holdExchange (s : State) : State :=
  if s.mode = .hold ∧ s.hold.phase = 1 ∧ s.hold.tH + 10 * us ≤ s.now then
    { s with hold := { s.hold with
      phase := 2, eligA := s.healthy 0, eligB := s.healthy 1, cntA := s.unackOf 0, cntB := s.unackOf 1 } }
  else s

/-- Step 3: the winner sets its latch. -/
def State.holdWin (s : State) : State :=
  if s.mode = .hold ∧ s.hold.phase = 2 ∧ s.hold.tH + 20 * us ≤ s.now then
    let s1 := { s with hold := { s.hold with phase := 3 } }
    match s1.holdWinner with
    | some h => s1.setLatch h
    | none => s1
  else s

/-- Step 5: the other half sets its own latch where the winner's is not set. -/
def State.holdFallback (s : State) : State :=
  if s.mode = .hold ∧ s.hold.phase = 3 ∧ s.hold.tH + 30 * us ≤ s.now ∧ s.holder = 0 then
    let s1 := { s with hold := { s.hold with phase := 4 } }
    match s1.holdWinner with
    | some 0 => if s1.hold.eligB && s1.supUp && !s1.halfGone 1 then s1.setLatch 1 else s1
    | some _ => if s1.hold.eligA && !s1.halfGone 0 then s1.setLatch 0 else s1
    | none => s1
  else s

/-- Step 6: no latch is set. -/
def State.holdExpire (s : State) : State :=
  if s.mode = .hold ∧ s.hold.tH + 50 * us ≤ s.now ∧ s.holder = 0 then s.holdSafe else s

/-- Disagreement by what the Hazels read of the latches, [1] B and [0] A: cause of LastHold, 0 for none (R50). -/
def State.disagreement (s : State) (readA readB : Nat) : Nat :=
  if readA = 3 ∧ readB = 3 then 1
  else if readA ≠ readB then 3
  else if s.mode ≠ .hold ∧ s.hold.transferTo = 0 ∧ readA = 0 ∧ s.holder = 0 ∧ s.hold.noneSince + 500 < s.now then 2
  else if !s.supUp && !s.hold.supHandled && !s.lost 0 && !s.lost 1 && s.healthyNoSup 0 && s.healthyNoSup 1 && s.mode != .hold then 4
  else 0

/-! Cross-link channels: R43, R185, R486 -/

/-- A die link fails after its retries (R185). -/
def State.dieLinkFault (s : State) (d : Nat) : State :=
  if s.pecan.linkDown.any (fun e => e.1 = d) then s
  else
    let s1 := s.raise (exchangeBlock d) clCommunication 6 d lvBlock
    (s1.raise (exchangeBlock (d + 1)) clCommunication 6 d lvBlock).dieLinkDown d

/-- The die link is back in service (R185). -/
def State.dieLinkBack (s : State) (d : Nat) : State :=
  let s1 := { s with pecan := { s.pecan with linkDown := smErase s.pecan.linkDown d, linkUp := smErase s.pecan.linkUp d } }
  let s2 := s1.linkState d
  if d = 3 ∧ !s2.lost 0 ∧ !s2.lost 1 then { s2 with hold := { s2.hold with channels := setBit s2.hold.channels 2 true } } else s2

/-- A channel fails after 8 retries: a fault of its port (R43); the array channel is the link of dies 3 and 4. -/
def State.channelFault (s : State) (c : Nat) : State :=
  if bitOf s.hold.channels c then
    if c = 2 then s.dieLinkFault 3
    else (s.raise (s.block (if c = 0 then blSupervisor else blFabricPort)) clCommunication 6 c lvBlock true).channelDown c
  else s

/-- A channel has been up for 1 s: its ports leave their safe state (Table 17.5). -/
def State.channelBack (s : State) (c : Nat) : State :=
  if bitOf s.hold.channels c || s.lost 0 || s.lost 1 || s.reacted 0 || s.reacted 1 then s
  else if c = 2 then s.dieLinkBack 3
  else
    let l := if c = 0 then blSupervisor else blFabricPort
    let s1 := s.forEach [l, 97 + l] (fun s b =>
      if s.nat (Obj.blockState b) = 2 then (s.setNat (Obj.blockState b) 1).openRecovery sec else s)
    { s1 with hold := { s1.hold with channels := setBit s1.hold.channels c true, supHandled := s1.hold.supHandled && c != 0 } }

end Sys2Proof.Machine
end

