-- ==== Sys2Proof/Machine/Life.lean ====
section
/-! DEFINITION. Meanings: pins, supplies, resets, halves, Hold and the power-domain sequencer (spec/02, 03, 17, 18). -/

namespace Sys2Proof.Machine

/-- What a half takes part in: powered, out of reset, past stage 1 of Boot. -/
def State.running (s : State) : Bool :=
  s.mode != .off && s.mode != .ship && !s.boot.inReset && !(s.mode = .boot && s.boot.stageA ≤ 1 && s.boot.stageB ≤ 1)

/-- FEED_PRESENT (R23, R505, R514, R578). -/
def execFeedPresent (t : Nat) (f : Half) (s : State) : Res := .next ((s.at t).feedPresent f)

/-- FEEDS_REMOVED (R513, R578). -/
def execFeedsRemoved (t : Nat) (s : State) : Res := .next (s.at t).supplyLost

/-- A feed's loss is entered in the history queue of half A's rail controller, while the halves run (R56, R579). -/
def State.feedEvent (s : State) (f : Nat) : State := if s.running then s.event blRail 9 f else s

/-- One feed goes while the other stays (R56, R579). -/
def State.oneFeedLost (s : State) (f : Half) : State :=
  let p := s.pins
  match f with
  | .a => if p.feedA && p.feedB then ({ s with pins := { p with feedA := false } } : State).feedEvent 1 else s
  | .b => if p.feedA && p.feedB then ({ s with pins := { p with feedB := false } } : State).feedEvent 2 else s

/-- ONE_FEED_LOST (R56). -/
def execOneFeedLost (t : Nat) (f : Half) (s : State) : Res := .next ((s.at t).oneFeedLost f)

/-- The drives go 1 ms after the loss was detected (Table 18.9). -/
def State.supplyRelease (s : State) : State :=
  match s.boot.supplyLoss, s.boot.safePoint with
  | some t0, none => if t0 + ms ≤ s.now then s.releaseDrives else s
  | _, _ => s

/-- SUPPLY_LOSS_CONTACTOR_RELEASE (R367, R513). -/
def execSupplyLossContactorRelease (t : Nat) (s : State) : Res := .next (s.at t).supplyRelease

/-- SAFE_POINT (R513, R514). -/
def execSafePoint (t : Nat) (s : State) : Res := .next (s.at t).safePointReached

/-- Boot starts no earlier than 100 ms after the safe point when a feed came back before it (R514). -/
def State.supplyRestart (s : State) : State :=
  match s.mode, s.boot.safePoint with
  | .off, some sp => if s.boot.feedReturned && decide (sp + 100 * ms ≤ s.now) then s.reset_ 5 else s
  | _, _ => s

/-- SUPPLY_LOSS_RESTART (R514). -/
def execSupplyLossRestart (t : Nat) (s : State) : Res := .next (s.at t).supplyRestart

/-- SHELF_RST_N has been low for 10 µs: both halves are held in reset; ignored during a supply-loss shut-down (R73, Table 18.10). -/
def State.shelfReset (s : State) : State :=
  if s.mode = .off ∨ s.mode = .ship then s
  else
    let s1 := s.reset_ 2
    { s1 with boot := { s1.boot with inReset := true } }

/-- SHELF_RESET (R73, R516). -/
def execShelfReset (t : Nat) (s : State) : Res := .next (s.at t).shelfReset

/-- The pin rises: Boot runs (R73). -/
def State.shelfRise (s : State) : State :=
  if s.boot.inReset then { s with boot := { s.boot with inReset := false, since := s.now } } else s

/-- SHELF_RESET_RELEASE (R73, R498). -/
def execShelfResetRelease (t : Nat) (s : State) : Res := .next (s.at t).shelfRise

/-- PROT_TRIP_N has been low for 2 µs: a fault that neither half can mask (R71). -/
def State.protTrip (s : State) : State :=
  let s1 := { s with pins := { s.pins with protTripLow := true } }
  if s1.running then s1.raise (s1.block blBoot) clExternal 8 0 lvModule else s1

/-- PROTECTOR_TRIP (R71). -/
def execProtectorTrip (t : Nat) (s : State) : Res := .next (s.at t).protTrip

/-- COOLANT_SEATED (R31, R498). -/
def execCoolantSeated (t : Nat) (s : State) : Res := .next (s.at t).coolantBack

/-- COOLANT_INTERLOCK_LOST (R32, R515). -/
def execCoolantInterlockLost (t : Nat) (s : State) : Res := .next (s.at t).coolantGone

/-- WAKE_LATCH_SET (R67, R433, R434). -/
def execWakeLatchSet (t : Nat) (s : State) : Res := .next (s.at t).wake

/-- DiscreteInputs of Table 3.7. -/
def State.discreteNow (s : State) : Nat :=
  let b := fun (v : Bool) (i : Nat) => if v then 2 ^ i else 0
  let p := s.pins
  let x := s.conv.str1
  let y := s.conv.str2
  p.gdFaultLow % 64 * 2 ^ 14 + b y.preFb 13 + b y.negFb 12 + b y.posFb 11 + b x.preFb 10 + b x.negFb 9 + b x.posFb 8 +
    b p.wakeLatch 4 + b p.protTripLow 3 + b p.ibcAlertLow 2 + b p.coolantSeated 1

/-- The 100 µs refresh (R75): GD_FLT_N and PROT_TRIP_N are seen high again here; what a pin that goes low does is its own command's. -/
def State.discreteUpdate (s : State) (gdLow : Nat) (protLow : Bool) : State :=
  if s.running then
    let s1 := { s with pins := { s.pins with gdFaultLow := s.pins.gdFaultLow &&& gdLow, protTripLow := s.pins.protTripLow && protLow } }
    s1.setNat Obj.discreteInputs2011 s1.discreteNow
  else s

/-- DISCRETE_INPUT_UPDATE (R75). -/
def execDiscreteInputUpdate (t : Nat) (gdLow : Fin 64) (protLow : Bool) (s : State) : Res := .next ((s.at t).discreteUpdate gdLow.val protLow)

/-- An assembly in a cage is read: passive copper and active copper of up to 3.5 W are operated; an optical module or more power is
refused, its lanes stay down with reason 7 (R77, R92). -/
def State.cageRead (s : State) (cage : Nat) (optical active : Bool) (mw : Nat) : State :=
  let lanes := (List.range 8).map (fun i => 36 + 8 * cage + i)
  let ok := !optical && (!active || decide (mw ≤ 3500)) && decide (mw ≤ 3500)
  let s1 := if cage = 0 then { s with pins := { s.pins with cage0 := if ok then 1 else 2 } } else { s with pins := { s.pins with cage1 := if ok then 1 else 2 } }
  let s2 := s1.forEach lanes (fun s n => s.setLane n { s.lane n with cageRefused := !ok })
  if ok then
    s2.forEach lanes (fun s n =>
      if s.laneState n = 0 || (s.laneState n = 4 && !(s.lane n).pcs) then s.laneStart n else s)
  else
    let s3 := s2.forEach lanes (fun s n => if s.laneState n = 5 then s else s.laneDrop n 4 7)
    s3.raise (s3.laneBlock (36 + 8 * cage)) clConfig 7 cage lvBlock

/-- CAGE_ASSEMBLY_READ (R77, R78). -/
def execCageAssemblyRead (t : Nat) (cage : Fin 2) (optical active : Bool) (milliwatts : Nat) (s : State) : Res :=
  .next ((s.at t).cageRead cage.val optical active milliwatts)

/-! ALIVE: R68, R489, R490 -/

/-- A half's ALIVE pin toggles. -/
def State.aliveOn (s : State) (h : Nat) : Bool := if h = 0 then s.pins.aliveOnA else s.pins.aliveOnB
/-- Its last edge. -/
def State.aliveEdge (s : State) (h : Nat) : Nat := if h = 0 then s.pins.edgeA else s.pins.edgeB
/-- Control ticks seen in its present level. -/
def State.aliveTicks (s : State) (h : Nat) : Nat := if h = 0 then s.pins.ticksA else s.pins.ticksB

/-- An edge. At the end of a level with fewer than 8 control ticks the half reacts at half level: tick starvation (Table 17.6), which is
judged once the control engines run, past Boot. -/
def State.aliveToggle (s : State) (h : Nat) : State :=
  if s.aliveOn h then
    if s.aliveTicks h < 8 ∧ s.mode ≠ .boot ∧ s.mode ≠ .seed ∧ s.mode ≠ .off ∧ s.mode ≠ .ship then
      s.raise (97 * h + blEngine) clComputation 5 0 lvHalf
    else
      let p := s.pins
      if h = 0 then { s with pins := { p with aliveA := !p.aliveA, edgeA := s.now, ticksA := 0 } }
      else { s with pins := { p with aliveB := !p.aliveB, edgeB := s.now, ticksB := 0 } }
  else s

/-- ALIVE_TOGGLE (R68, R489). -/
def execAliveToggle (t : Nat) (h : Half) (s : State) : Res := .next ((s.at t).aliveToggle (halfIdx h))

/-- No edge of half `h` for 15 µs: the other half declares it lost (R490). -/
def State.aliveTimeout (s : State) (h : Nat) : State :=
  if s.running && (s.aliveOn h || s.reacted h) && decide (s.aliveEdge h + 15 * us ≤ s.now) && !s.halfGone (1 - h) then s.halfLost h else s

/-- OTHER_HALF_ALIVE_TIMEOUT (R490). -/
def execOtherHalfAliveTimeout (t : Nat) (h : Half) (s : State) : Res := .next ((s.at t).aliveTimeout (halfIdx h))

/-- A half reports its reaction over a channel that is up (R490). -/
def State.levelReport (s : State) (h : Nat) : State :=
  if s.reacted h && !s.lost h && s.hold.channels != 0 && !s.halfGone (1 - h) then s.halfLost h else s

/-- HALF_LEVEL_REPORT (R490). -/
def execHalfLevelReport (t : Nat) (h : Half) (s : State) : Res := .next ((s.at t).levelReport (halfIdx h))

/-- All three channels down for 30 µs while ALIVE_A still toggles: half B reacts at half level (R490). -/
def State.crossSilence (s : State) : State :=
  if s.running && s.mode != .boot && s.mode != .seed && s.hold.channels = 0 && !s.halfGone 0 && !s.halfGone 1 &&
      decide (s.hold.silentSince + 30 * us ≤ s.now) && s.aliveOn 0 && decide (s.now < s.aliveEdge 0 + 15 * us) then
    s.raise (97 + blSupervisor) clCommunication 5 0 lvHalf
  else s

/-- CROSS_LINK_SILENCE (R490). -/
def execCrossLinkSilence (t : Nat) (s : State) : Res := .next (s.at t).crossSilence

/-- A half loses its reference oscillator: class 5, code 9, half level (R37, R579). -/
def State.oscLost (s : State) (h : Nat) : State :=
  if s.running then
    let s1 := if h = 0 then { s with pins := { s.pins with oscA := false } } else { s with pins := { s.pins with oscB := false } }
    s1.raise (97 * h + blBoot) clPower 9 0 lvHalf
  else s

/-- OSCILLATOR_LOST (R37, R484). -/
def execOscillatorLost (t : Nat) (h : Half) (s : State) : Res := .next ((s.at t).oscLost (halfIdx h))

/-! Hold: R491 -/

/-- ELIGIBILITY_EXCHANGE (R491 step 2). -/
def execEligibilityExchange (t : Nat) (s : State) : Res := .next (s.at t).holdExchange

/-- WINNER_LATCH_SET (R491 step 3). -/
def execWinnerLatchSet (t : Nat) (s : State) : Res := .next (s.at t).holdWin

/-- FALLBACK_LATCH_SET (R491 step 5). -/
def execFallbackLatchSet (t : Nat) (s : State) : Res := .next (s.at t).holdFallback

/-- HOLD_TIMEOUT (R491 step 6). -/
def execHoldTimeout (t : Nat) (s : State) : Res := .next (s.at t).holdExpire

/-- CROSS_LINK_DOWN (R43, R486). -/
def execCrossLinkDown (t : Nat) (c : Fin 3) (s : State) : Res := .next ((s.at t).channelFault c.val)

/-- CHANNEL_RESTORED (R486). -/
def execChannelRestored (t : Nat) (c : Fin 3) (s : State) : Res := .next ((s.at t).channelBack c.val)

/-! Power domains: R39 to R41 -/

/-- Last request of domain `d` at this instant: 1 on, 2 off, 3 off by a fault; 0 none (R41). -/
def State.reqNow (s : State) (d : Nat) : Nat :=
  let r := smGet (fun _ => (0, 0)) s.pow.reqs d
  if r.1 = s.now + 1 then r.2 else 0

/-- Keep the request. -/
def State.keepReq (s : State) (d k : Nat) : State :=
  { s with pow := { s.pow with reqs := smSet (fun _ => (0, 0)) s.pow.reqs d (s.now + 1, k) } }

/-- An on request: an off request by a fault at the same instant prevails (R41); no domain but 24 without coolant (R31, R32). -/
def State.domainRequestOn (s : State) (d : Nat) : State :=
  if s.running && s.reqNow d != 3 && (s.pins.coolantSeated || d = 24) && !s.halfGone (domHalf d) && !s.blockSafe (domHalf d) blRail &&
      !(s.mode = .safe && s.boot.thermalLatch) then
    (s.keepReq d 1).domainOn d
  else s

/-- DOMAIN_ON_REQUEST (R39, R41). -/
def execDomainOnRequest (t : Nat) (d : Fin 32) (s : State) : Res := .next ((s.at t).domainRequestOn d.val)

/-- An off request: between ordinary requests at one instant the on request prevails (R41). -/
def State.domainRequestOff (s : State) (d : Nat) (fault : Bool) : State :=
  if s.running && (fault || s.reqNow d != 1) then (s.keepReq d (if fault then 3 else 2)).domainOff d fault else s

/-- DOMAIN_OFF_REQUEST (R39, R41). -/
def execDomainOffRequest (t : Nat) (d : Fin 32) (fault : Bool) (s : State) : Res := .next ((s.at t).domainRequestOff d.val fault)

/-- A domain has not reported power-good in its window: it is left off, its dependants are not started (R40). -/
def State.powerGoodLate (s : State) (d : Nat) : State :=
  if s.domState d = 2 then
    let r := domRail d
    let s2 := s.leftOff d
    if (railDoms r).all (fun e => s2.domState e != 1 && s2.domState e != 2) then s2.stopRail r else s2
  else s

/-- POWER_GOOD_TIMEOUT (R40). -/
def execPowerGoodTimeout (t : Nat) (d : Fin 32) (s : State) : Res := .next ((s.at t).powerGoodLate d.val)

/-- A domain's supply is out of regulation: a Hazel domain stops its half (Table 17.6); a per-die switch or load switch faults what it
supplies (Table 15.3). -/
def State.outOfRegulation (s : State) (d : Nat) : State :=
  if s.domState d ≠ 1 then s
  else if 28 ≤ d then if s.running then s.raise (97 * (d % 2) + blRail) clPower 9 d lvHalf else s
  else if 24 ≤ d then s.raise (97 * domHalf d + blRail) clPower 9 d lvHalf
  else (s.raise (97 * domHalf d + blRail) clPower 9 d lvBlock).domainOff d true

/-- DOMAIN_OUT_OF_REGULATION (R445, R489). -/
def execDomainOutOfRegulation (t : Nat) (d : Fin 32) (s : State) : Res := .next ((s.at t).outOfRegulation d.val)

/-! Failed starts: R501 to R510 -/

/-- Boot has run for 30 s outside stage 3: it fails with cause 3 (R501). -/
def State.bootLate (s : State) : State :=
  let b := s.boot
  let in3 := decide (b.stageA = 3 ∨ b.stageB = 3)
  let spent := b.stage3Time + (if in3 then s.now - b.stage3Since else 0)
  if s.mode = .boot ∧ !b.inReset ∧ b.restartAt = none ∧ b.since + spent + 30 * sec ≤ s.now then
    let open_ := fun n => n != 7
    s.bootFail 3 ((if open_ b.stageA then 1 else 0) + if open_ b.stageB then 2 else 0) s.bootStageNow
  else s

/-- BOOT_TIMEOUT (R501, R503). -/
def execBootTimeout (t : Nat) (s : State) : Res := .next (s.at t).bootLate

/-- 1 s after the failure Boot resumes at stage 2 (R503). -/
def State.bootAgain (s : State) : State :=
  match s.mode, s.boot.restartAt with
  | .boot, some r => if r ≤ s.now then (s.reset_ 4).domainOn 24 else s
  | _, _ => s

/-- BOOT_RESTART (R503). -/
def execBootRestart (t : Nat) (s : State) : Res := .next (s.at t).bootAgain

/-- Fitted rectifiers that are not answering. -/
def State.notAnswering (s : State) : Nat :=
  sumN ((List.range 12).map (fun r => if bitOf (s.nat Obj.rectifiersFitted) r && !(s.rect r).answering then 2 ^ r else 0))

/-- Step 2 has lasted 10 ms (Table 18.6). -/
def State.answerLate (s : State) : State :=
  if s.energising ∧ s.nat Obj.energiseStep = 2 ∧ s.boot.stepSince + 10 * ms ≤ s.now ∧ s.notAnswering ≠ 0 then s.failEnergise 4 s.notAnswering else s

/-- RECTIFIER_ANSWER_TIMEOUT (R502, R508). -/
def execRectifierAnswerTimeout (t : Nat) (s : State) : Res := .next (s.at t).answerLate

/-- Bus voltage in V, as the details of chapter 18 give it. -/
def State.busVolts (s : State) : Nat := s.nat Obj.busVoltage2910 / 1000

/-- The soft start has not ended in time (R509). -/
def State.softLate (s : State) : State :=
  if s.energising ∧ s.nat Obj.energiseStep = 3 ∧ s.boot.stepSince + s.nat Obj.busSoftStartTimeout * ms ≤ s.now then s.failEnergise 5 s.busVolts else s

/-- SOFT_START_TIMEOUT (R509, R510). -/
def execSoftStartTimeout (t : Nat) (s : State) : Res := .next (s.at t).softLate

/-- The bus has not come down in time (R510, R511). -/
def State.busLate (s : State) : State :=
  let d := s.nat Obj.deenergiseTimeout * ms
  if s.busDown then s
  else if s.boot.shutStep = 4 ∧ s.boot.shutSince + d ≤ s.now then
    (s.shutRecord 1 2 s.boot.shutBegan).raise (s.block blPwm) clPowerPath 5 s.busVolts lvModule
  else if s.boot.failStep = 2 ∧ s.boot.failSince + d ≤ s.now then s.raise (s.block blPwm) clPowerPath 5 s.busVolts lvModule
  else s

/-- DEENERGISE_TIMEOUT (R510, R511). -/
def execDeenergiseTimeout (t : Nat) (s : State) : Res := .next (s.at t).busLate

/-- DEBUG_RESET: a reset through the unlocked debug port (Table 18.11 code 6). -/
def execDebugReset (t : Nat) (s : State) : Res :=
  let s1 := s.at t
  .next (if (smGet (fun _ => {}) s1.dict.sessions 0 : Session).level ≠ 0 ∧ s1.running then s1.reset_ 6 else s1)

/-- RECOVERY_WINDOW_END: escalation window 3 ends where its second has passed (R488). -/
def execRecoveryWindowEnd (t : Nat) (s : State) : Res :=
  let s1 := s.at t
  .next (if s1.flt.recoveryUntil ≤ s1.now then { s1 with flt := { s1.flt with recoveryUntil := 0 } } else s1)

end Sys2Proof.Machine
end

