-- ==== Sys2Proof/Machine/Converter.lean ====
section
/-! DEFINITION. Meanings: PWM periods, protections, shedding, the authority multiplexer and the contactors (spec/12_converter_stage.md). -/

namespace Sys2Proof.Machine

/-! PWM: R350 to R359, R365 -/

/-- The generators count: from the end of Boot (R350). -/
def State.counting (s : State) : Bool := s.mode != .off && s.mode != .ship && s.mode != .boot && s.mode != .seed && !s.boot.inReset

/-- P_conv's clamp in force toward discharge and toward charge (R323). -/
def State.clampNow (s : State) (discharge : Bool) : Nat :=
  if s.eng.contInForce then (if discharge then s.conv.pclampCont else s.conv.pchargeCont)
  else if discharge then s.conv.pclampMax else s.conv.pchargeMax

/-- The clamp condition of R365 for string `k`, in the direction of the load change: the sign of the measured rack load less the shelf
input (DEDUCED, log entry 47). -/
def State.clampCondition (s : State) (k : Nat) : Bool :=
  let dir := s.eng.rack - s.eng.shelfIn
  let up := decide (0 < dir)
  let act := s.activeOf k
  let p := s.num Obj.converterPowerRef2910
  let r := if k = 0 then s.eng.ref1 else s.eng.ref2
  let ref := if up then r else -r
  let held := countP (fun n => decide ((s.nat Obj.phaseCurrentClamp : Int) ≤ ref) || ((s.phase n).cut && (s.phase n).cutHigh != up)) act
  dir != 0 && (decide ((s.clampNow up : Int) ≤ if up then p else -p) || (!act.isEmpty && decide (act.length ≤ 2 * held)))

/-- A valley of string `k`'s first active phase: the clamp condition is counted, or the signal released (R365). -/
def State.clampValley (s : State) (k : Nat) : State :=
  let n := if s.clampCondition k then (if k = 0 then s.conv.clampRun1 else s.conv.clampRun2) + 1 else 0
  let c : ConvSt := if k = 0 then { s.conv with clampRun1 := n } else { s.conv with clampRun2 := n }
  let held := c.clampHeld && (decide (5 ≤ c.clampRun1) || decide (5 ≤ c.clampRun2))
  let s1 := ({ s with conv := { c with clampHeld := held } } : State).setNat Obj.clampHeld (if held then 1 else 0)
  if c.clampHeld && !held then s1.reserveInput else s1

/-- Boards whose GDEN may be asserted: no gate-driver fault, and a phase that is not faulted (R60, Table 12.1). -/
def State.gdenMask (s : State) : Nat :=
  sumN (((List.range 6).filter (fun b => !bitOf s.pins.gdFaultLow b && (List.range 8).any (fun i => !(s.phase (8 * b + i)).faulted))).map (2 ^ ·))

/-- New compare value and PR of channel `n` (R351 to R353, R356). -/
def State.pwmLoad (s : State) (n : Nat) (valley : Bool) : State :=
  let p := s.phase n
  let i := if valley then p.period + 1 else p.period
  let pr := s.prAt i
  s.setPhase n { p with period := i, pr := pr, cmp := p.cmpNew, counts := s.pwmCounts p.cmpNew pr, cut := false,
                        cutRun := if valley then (if p.cutPeriod then p.cutRun + 1 else 0) else p.cutRun,
                        cutPeriod := if valley then false else p.cutPeriod }

/-- What else a valley does: a shed phase goes idle, a re-added one starts with its histories cleared, GDEN is asserted, lags are taken
(R326, R355, R358, R359, R375). -/
def State.pwmValley (s : State) (n : Nat) : State :=
  let p := s.phase n
  let k := s.phaseString n
  let s1 :=
    if p.active ∧ p.shedNext then (s.idlePhase n).setPhase n { (s.idlePhase n).phase n with shed := true }
    else if p.readd ∧ !p.faulted ∧ s.connected k then
      ((s.setPhase n { p with active := true, readd := false, shed := false, activeSince := s.now }).setInst (n + 1) (s.inst (n + 1)).cleared)
    else s
  let s2 :=
    if s1.conv.gdenAtValley ∧ (s1.mode = .ready ∨ s1.mode = .shaping) then
      { s1 with pins := { s1.pins with gden := s1.gdenMask }, conv := { s1.conv with gdenAtValley := false } }
    else s1
  if (s2.activeOf k).head? = some n then (s2.interleave k).clampValley k else s2

/-- One valley or peak of channel `n`. -/
def State.pwmHalf (s : State) (n : Nat) (valley : Bool) : State :=
  if s.counting then
    let s1 := s.pwmLoad n valley
    if valley then s1.pwmValley n else s1
  else s

/-- PWM_HALF_PERIOD (R350 to R356, R358, R359, R365). -/
def execPwmHalfPeriod (t : Nat) (n : Fin 48) (valley : Bool) (s : State) : Res := .next ((s.at t).pwmHalf n.val valley)

/-- The clamp condition has held for 5 periods (R365, R336). -/
def State.clampAssert (s : State) : State :=
  if !s.conv.clampHeld && (decide (5 ≤ s.conv.clampRun1) || decide (5 ≤ s.conv.clampRun2)) then
    (({ s with conv := { s.conv with clampHeld := true } } : State).setNat Obj.clampHeld 1).reserveInput
  else s

/-- CLAMP_HELD_ASSERT (R365). -/
def execClampHeldAssert (t : Nat) (s : State) : Res := .next (s.at t).clampAssert

/-- 10 ms after both causes cleared the limiter returns to L (R336). -/
def State.reserveEnd (s : State) : State :=
  match s.eng.reserveClear with
  | some t0 => if t0 + 10 * ms ≤ s.now then { s with eng := { s.eng with reserve := false, reserveClear := none } } else s
  | none => s

/-- RESERVE_END (R17, R336). -/
def execReserveEnd (t : Nat) (s : State) : Res := .next (s.at t).reserveEnd

/-- STRING_SHARE_UPDATE (R325, R366). -/
def execStringShareUpdate (t : Nat) (s : State) : Res := .next ((s.at t).updateShares.refreshClamps)

/-- The shed condition has held for ShedDelay (R358). -/
def State.phaseShed (s : State) (k : Nat) : State :=
  match if k = 0 then s.conv.shedSince1 else s.conv.shedSince2 with
  | none => s
  | some t0 =>
    if s.shedCondition k && decide (t0 + s.nat Obj.shedDelay2A00 * us ≤ s.now) then
      match s.longestActive k with
      | none => s
      | some n =>
        let s1 := (s.setPhase n { s.phase n with shedNext := true }).count Obj.phaseSheds
        if k = 0 then { s1 with conv := { s1.conv with shedSince1 := some s.now } } else { s1 with conv := { s1.conv with shedSince2 := some s.now } }
    else s

/-- PHASE_SHED (R358). -/
def execPhaseShed (t : Nat) (st : Fin 2) (s : State) : Res := .next ((s.at t).phaseShed st.val)

/-! Strings that leave the shelf: R366, R371, R372 -/

/-- A string is opened and what follows from its shares and phases (R325, R366). -/
def State.dropString (s : State) (k : Nat) (wait : Bool) (lock : Nat) : State :=
  let s1 := s.openFor k wait lock
  if s1.fidelityModes then s1.updateShares.refreshClamps else s1

/-- A failed start is the most specific cause that fits: a Safe entry that a fault brings replaces its cause 8 by it (R502). -/
def State.relogged (before s : State) (cause detail : Nat) : State :=
  if before.energising && decide (s.mode = .safe) then
    { s with boot := { s.boot with
        failLog := match s.boot.failLog with
          | e :: l => (e.1, cause, 0, detail) :: l
          | [] => [] } }
  else s.failEnergise cause detail

/-- A connection fails: result, entry, opening; during energising the sequence fails with cause 7 (R370, R372, R510, R579). -/
def State.connectFault (s : State) (k cause : Nat) : State :=
  let s1 := s.connectAbort k cause
  let s2 := s1.raise (s1.block blPwm) clPowerPath cause (k + 1) lvBlock
  if s.energising then s.relogged s2 7 ((k + 1) * 256 + cause) else s2

/-- Energising step 4 goes on (R368). -/
def State.goConnect (s : State) : State :=
  if s.energising ∧ s.nat Obj.energiseStep = 4 then
    let r := s.connectNext
    if r.1 = 0 then r.2.2 else r.2.2.connectFault r.2.1 r.1
  else s

/-- A weld: the string is held open and locked out, and the module goes to Safe (R373). -/
def State.weld (s : State) (k : Nat) : State :=
  if (s.str k).conn = .lockedOut ∧ (s.str k).lockCause = 6 then s
  else
    let s1 := (s.lockWelded k).calOpened k
    let s2 := s1.raise (s1.block blPwm) clPowerPath 6 (k + 1) lvModule
    if s.energising then s.relogged s2 7 ((k + 1) * 256 + 6) else s2

/-! Protections: R363, R364, Table 12.1 -/

/-- A half-period is cut. -/
def State.cbcCut (s : State) (n : Nat) (positive : Bool) : State :=
  let p := s.phase n
  if s.pwmLive && p.active && !p.cut then
    let s1 := s.setPhase n { p with cut := true, cutPeriod := true, cutHigh := !positive }
    (s1.count Obj.cbcEvents).event (s1.block blPwm) 8 n
  else s

/-- CYCLE_BY_CYCLE_LIMIT (Table 12.1). -/
def execCycleByCycleLimit (t : Nat) (n : Fin 48) (positive : Bool) (s : State) : Res := .next ((s.at t).cbcCut n.val positive)

/-- Eight consecutive periods of a phase were cut: it is faulted. -/
def State.persistentLimit (s : State) (n : Nat) : State :=
  let p := s.phase n
  if s.pwmLive && p.active && decide (7 ≤ p.cutRun) && p.cutPeriod then
    let s1 := (s.faultPhase n).refreshClamps
    s1.raise (s1.block blPwm) clPowerPath 8 n lvBlock
  else s

/-- PERSISTENT_CURRENT_LIMIT (Table 12.1, R366). -/
def execPersistentCurrentLimit (t : Nat) (n : Fin 48) (s : State) : Res := .next ((s.at t).persistentLimit n.val)

/-- A string-side fault of a string in its connection sequence ends that sequence with cause 9, which fails no energising (R370). -/
def State.connectCause9 (s : State) (k : Nat) (was : Conn) : State :=
  if was = .precharging then
    let s1 := s.connectResult k 9
    (s1.raise (s1.block blPwm) clPowerPath 9 (k + 1) lvBlock).goConnect
  else s

/-- A string's current has been above its trip. -/
def State.stringOver (s : State) (k : Nat) : State :=
  if s.pwmLive then
    let was := (s.str k).conn
    let s1 := s.dropString k false 9
    (s1.raise (s1.block blPwm) clPowerPath 8 (k + 1) lvBlock).connectCause9 k was
  else s

/-- STRING_OVER_CURRENT (Table 12.1, R372, R373). -/
def execStringOverCurrent (t : Nat) (st : Fin 2) (s : State) : Res := .next ((s.at t).stringOver st.val)

/-- A bus channel has been above BusOvTrip. -/
def State.busOver (s : State) (ch : Nat) : State :=
  if s.pwmLive && !bitOf s.conv.streamFault ch then
    let s1 := s.gdenOff
    s1.raise (s1.block blPwm) clPowerPath 8 ch lvModule
  else s

/-- BUS_OVER_VOLTAGE (Table 12.1). -/
def execBusOverVoltage (t : Nat) (ch : Fin 2) (s : State) : Res := .next ((s.at t).busOver (52 + ch.val))

/-- The bus channels have been below BusUvTrip. In the shut-down of R510 it idles the gates and is recorded, and nothing more. -/
def State.busUnder (s : State) : State :=
  if s.pwmLive && s.conv.uvArmed && !(bitOf s.conv.streamFault 52 && bitOf s.conv.streamFault 53) then
    let s1 := s.gdenOff
    let lv := if s.mode = .standby then lvBlock else lvModule
    let s2 := s1.raise (s1.block blPwm) clPowerPath 8 0 lv
    if s.energising then
      match s.operated.find? s.precharging with
      | some k => if s2.energising then s2.connectFault k 3 else s.relogged s2 7 ((k + 1) * 256 + 3)
      | none => s.relogged s2 6 5
    else s2
  else s

/-- BUS_UNDER_VOLTAGE (Table 12.1, R369, R510). -/
def execBusUnderVoltage (t : Nat) (s : State) : Res := .next (s.at t).busUnder

/-- GD_FLT_Nb has been low for 1 µs. -/
def State.gateDriver (s : State) (b : Nat) : State :=
  let s0 := { s with pins := { s.pins with gdFaultLow := setBit s.pins.gdFaultLow b true } }
  if s.pwmLive then
    let s1 := { s0 with pins := { s0.pins with gden := setBit s0.pins.gden b false } }
    let s2 := (s1.forEach ((List.range 8).map (8 * b + ·)) State.faultPhase).refreshClamps
    s2.raise (s2.block blPwm) clPowerPath 7 b lvBlock
  else s0

/-- GATE_DRIVER_FAULT (Table 12.1). -/
def execGateDriverFault (t : Nat) (b : Fin 6) (s : State) : Res := .next ((s.at t).gateDriver b.val)

/-- A sense stream is faulted (R363). Outside the times at which the protections act it is marked and counted, and nothing more. -/
def State.streamFaulted (s : State) (c : Nat) : State :=
  if !s.counting || bitOf s.conv.streamFault c then s
  else
    let s1 := ({ s with conv := { s.conv with streamFault := setBit s.conv.streamFault c true } } : State).count (Obj.streamFaults c)
    if s.pwmLive then
      let b := s1.block blDecimators
      if c < 48 then ((s1.faultPhase c).refreshClamps).raise b clSense 7 c lvBlock
      else if c < 52 then
        let k := (c - 48) % 2
        let was := (s1.str k).conn
        ((s1.dropString k true 9).raise b clSense 7 c lvBlock).connectCause9 k was
      else if bitOf s1.conv.streamFault 52 && bitOf s1.conv.streamFault 53 then s1.gdenOff.raise b clSense 7 c lvModule
      else s1.raise b clSense 7 c lvBlock
    else s1

/-- STREAM_FAULT (R363, Table 12.1). -/
def execStreamFault (t : Nat) (c : Fin 54) (s : State) : Res := .next ((s.at t).streamFaulted c.val)

/-- A faulted phase returns to service (R366): abort code and effect of a write of PhaseClear. -/
def State.phaseClear (s : State) (n : Nat) : Nat × State :=
  if 48 ≤ n then (abHigh, s)
  else if (s.mode ≠ .standby ∧ s.mode ≠ .ready) ∨ bitOf s.pins.gdFaultLow (n / 8) ∨ bitOf s.conv.streamFault n then (abState, s)
  else
    let p := s.phase n
    if p.faulted then
      let up := decide (s.mode = .ready ∧ s.connected (s.phaseString n))
      let s1 := s.setPhase n { p with faulted := false, readd := decide up }
      let s2 := if up then { s1 with conv := { s1.conv with gdenAtValley := true } } else s1
      (0, s2.refreshClamps)
    else (0, s)

/-! The authority multiplexer: R374 -/

/-- Neither latch has been set for 600 ns. -/
def State.muxExpire (s : State) : State :=
  if !s.hold.latchA && !s.hold.latchB && decide (s.hold.noneSince + 600 ≤ s.now) then { s with conv := { s.conv with mux := 0 } } else s

/-- MUX_HOLD_EXPIRY (R374). -/
def execMuxHoldExpiry (t : Nat) (s : State) : Res := .next (s.at t).muxExpire

/-- The selector takes the source that the latches name; with both set it drives every pair idle. -/
def State.muxChange (s : State) : State :=
  let m := if s.hold.latchA && s.hold.latchB then 0 else if s.hold.latchA then 1 else if s.hold.latchB then 2 else s.conv.mux
  { s with conv := { s.conv with mux := m } }

/-- MUX_CHANGEOVER (R374). -/
def execMuxChangeover (t : Nat) (s : State) : Res := .next (s.at t).muxChange

/-! Contactors: R367 to R373 -/

/-- A feedback of a string that connects reads closed: the next step of R368. -/
def State.connectStep (s : State) (k : Nat) (c : Contactor) : State :=
  let t := s.str k
  match t.step, c with
  | 2, .neg => (s.setStr k { t with step := 3, stepSince := s.now }).driveClosed k .pre
  | 3, .pre => s.setStr k { t with step := 4, preSince := s.now }
  | 5, .pos => (s.connectDone k).goConnect
  | _, _ => s

/-- After a reconnection in Ready or Shaping the string's phases start as re-added (R395, R326). -/
def State.joinString (s : State) (k : Nat) : State :=
  if (s.mode = .ready ∨ s.mode = .shaping) ∧ s.connected k then
    let s1 := s.forEach (s.phasesOf k) (fun s n =>
      let p := s.phase n
      if p.faulted ∨ p.active then s else s.setPhase n { p with shed := false, readd := true })
    let s2 := s1.setRing k { s1.ring k with releasedSince := 0 }
    ({ s2 with conv := { s2.conv with gdenAtValley := true } } : State).updateShares.refreshClamps
  else s

/-- An accepted change of a contactor's feedback. -/
def State.feedbackChange (s : State) (k : Nat) (c : Contactor) (closed : Bool) : State :=
  let t := s.str k
  let drive := match c with | .neg => t.negDrive | .pos => t.posDrive | .pre => t.preDrive
  let s1 := s.setStr k (match c with
    | .neg => { t with negFb := closed }
    | .pos => { t with posFb := closed }
    | .pre => { t with preFb := closed })
  if closed then
    if drive then
      let s2 := s1.connectStep k c
      if t.conn = .precharging ∧ (s2.str k).conn = .connected then s2.joinString k else s2
    else if t.conn = .opening then s1
    else s1.weld k
  else if t.conn = .opening then (s1.advanceOpening k).wayDown
  else s1

/-- CONTACTOR_FEEDBACK_CHANGE (R368, R371, R373, R576). -/
def execContactorFeedbackChange (t : Nat) (st : Fin 2) (k : Contactor) (closed : Bool) (s : State) : Res :=
  .next ((s.at t).feedbackChange st.val k closed)

/-- A feedback did not close within CloseTimeout. -/
def State.closeTimeout (s : State) (k : Nat) : State :=
  let t := s.str k
  if (t.step = 2 ∨ t.step = 3 ∨ t.step = 5) ∧ t.stepSince + s.nat (Obj.closeTimeout (k + 1)) * ms ≤ s.now then s.connectFault k 1 else s

/-- CLOSE_TIMEOUT (R368, R370). -/
def execCloseTimeout (t : Nat) (st : Fin 2) (s : State) : Res := .next ((s.at t).closeTimeout st.val)

/-- The match of a tick, and cause 8 where the duty check fails (R369). -/
def State.tickMatch (s : State) (k : Nat) : State :=
  let r := s.judgeMatch k
  if r.1 = 0 then r.2 else s.connectFault k r.1

/-- V_stack in 0.1 mV, 0 where a cell has no value. -/
def State.vStackNow (s : State) (k : Nat) : Nat := match s.vStack k with | some v => v.1 | none => 0

/-- The first precharge check. -/
def State.precheck1 (s : State) (k : Nat) : State :=
  let t := s.str k
  if t.step = 4 ∧ !t.check1Done ∧ t.preSince + s.nat (Obj.prechargeCheckTime1 (k + 1)) * ms ≤ s.now then
    let s1 := s.setStr k { t with check1Done := true }
    if s.vConvAtLeast k (s.nat (Obj.prechargeLevel1 (k + 1))) (s.vStackNow k) then s1.tickMatch k else s1.connectFault k 2
  else s

/-- PRECHARGE_CHECK_1 (R369). -/
def execPrechargeCheck1 (t : Nat) (st : Fin 2) (s : State) : Res := .next ((s.at t).precheck1 st.val)

/-- The second precharge check. -/
def State.precheck2 (s : State) (k : Nat) : State :=
  let t := s.str k
  if t.step = 4 ∧ !t.check2Done ∧ t.preSince + s.nat (Obj.prechargeCheckTime2 (k + 1)) * ms ≤ s.now then
    let s1 := s.setStr k { t with check2Done := true }
    if s.vConvAtLeast k (s.nat (Obj.prechargeLevel2 (k + 1))) (s.vStackNow k) then s1.tickMatch k else s1.connectFault k 4
  else s

/-- PRECHARGE_CHECK_2 (R369). -/
def execPrechargeCheck2 (t : Nat) (st : Fin 2) (s : State) : Res := .next ((s.at t).precheck2 st.val)

/-- No match by PrechargeTimeout. -/
def State.prechargeOver (s : State) (k : Nat) : State :=
  let t := s.str k
  if t.step = 4 ∧ t.preSince + s.nat (Obj.prechargeTimeout (k + 1)) * ms ≤ s.now then
    let s1 := s.tickMatch k
    if (s1.str k).step = 4 then s1.connectFault k 5 else s1
  else s

/-- PRECHARGE_TIMEOUT (R369). -/
def execPrechargeTimeout (t : Nat) (st : Fin 2) (s : State) : Res := .next ((s.at t).prechargeOver st.val)

/-- The break current has been awaited for 20 ms (R371 step 1). -/
def State.breakWait (s : State) (k : Nat) : State :=
  let t := s.str k
  if t.openStep = 1 ∧ t.openSince + 20 * ms ≤ s.now then
    let past := decide (s.nat (Obj.contactorBreakCurrent (k + 1)) < (s.num (Obj.value (48 + k))).natAbs)
    let s1 := if past then s.count (Obj.operationsUnderLoad (k + 1)) else s
    ((s1.setStr k { t with openStep := 2, openSince := s.now, posDrive := false, preDrive := false }).advanceOpening k).wayDown
  else s

/-- BREAK_WAIT_TIMEOUT (R371). -/
def execBreakWaitTimeout (t : Nat) (st : Fin 2) (s : State) : Res := .next ((s.at t).breakWait st.val)

/-- A feedback still reads closed OpenTimeout after its drive opened (R373). -/
def State.openTimeout (s : State) (k : Nat) : State :=
  let t := s.str k
  let late := fun since => decide (since + s.nat (Obj.openTimeout (k + 1)) * ms ≤ s.now)
  if ((t.openStep = 2 && (t.posFb || t.preFb)) && late t.openSince) || ((t.openStep = 3 && t.negFb) && late t.openSince) ||
      (t.conn = .connected && !t.preDrive && t.preFb && late t.stepSince) then s.weld k
  else s

/-- OPEN_TIMEOUT (R373). -/
def execOpenTimeout (t : Nat) (st : Fin 2) (s : State) : Res := .next ((s.at t).openTimeout st.val)

/-- LockoutClear (R373): abort code and effect of a write. -/
def State.lockoutClear (s : State) (k v : Nat) : Nat × State :=
  let t := s.str k
  if v ≠ 1 then (abValue, s)
  else if t.conn = .lockedOut ∧ !t.anyFb then (0, s.setStr k { t with conn := .opened, lockCause := 0, failCause := 0 }) else (abState, s)

end Sys2Proof.Machine
end

