-- ==== Sys2Proof/Machine/Tick.lean ====
section
/-! DEFINITION. Meanings: the control tick and what it does step by step (Table 11.2, R320 to R326, R342, R343, R13, R19, R50). -/

namespace Sys2Proof.Machine

/-! Step 1: sense inputs, ports, injections -/

/-- Physical value of a raw control-filter output of stream `c` (R360). -/
def State.physical (s : State) (c raw : Nat) : Int :=
  sat32 (mulShiftI ((raw : Int) - 62500) (s.num (Obj.gain c)) 16 + s.num (Obj.offset2A40 c))

/-- The 54 streams are latched; a bridged output is replaced by the last that was not (R360, R362). -/
def State.senseLatch (s : State) (raw : List Nat) : State :=
  if s.conv.bridge = 0 then s.forEach (List.range 54) (fun s c => s.setNum (Obj.value c) (s.physical c (raw.getD c 62500)))
  else
    let s1 := { s with conv := { s.conv with bridge := s.conv.bridge - 1 } }
    s1.forEach (List.range 54) (fun s c => s.count (Obj.bridgedOutputs c))

/-- Commanded power in 10^-10 W as whole watts. -/
def watts (p : Int) : Int := divRound p 10000000000

/-- Rectifier handovers that are due join the pending injection (R324). -/
def State.takeHandovers (s : State) : State :=
  let lag := s.nat Obj.rectifierLag * us
  let due := s.eng.handovers.filter (fun e => decide (e.1 / 2 + lag ≤ s.now))
  let base := s.eng.hoBase + sumI (due.map (·.2))
  { s with eng := { s.eng with
    handovers := s.eng.handovers.filter (fun e => decide (s.now < e.1 / 2 + lag))
    hoBase := base
    hoPend := s.eng.hoPend - (watts base - watts s.eng.hoBase) } }

/-- HANDOVER_INJECTION (R324). -/
def execHandoverInjection (t : Nat) (s : State) : Res := .next (s.at t).takeHandovers

/-- RELEASE_FEEDFORWARD (R321, R324). -/
def execReleaseFeedforward (t : Nat) (w : Nat) (s : State) : Res := .next ((s.at t).releaseFF w)

/-! Step 2: bus feedback and set-point, R322, R337 -/

/-- Bus channels that differ for 3 ticks: the nearer one is used, and the sense fault is reported once (R322, R579). They are used together
again at the first tick in which they agree (DEDUCED, log entry 49). -/
def State.busChoose (s : State) : State :=
  let v0 := s.num (Obj.value 52)
  let v1 := s.num (Obj.value 53)
  let sp := s.num Obj.busSetpointInForce
  let e := s.eng
  if !bitOf s.conv.streamFault 52 && !bitOf s.conv.streamFault 53 && decide (sp < 100 * ((v0 - v1).natAbs : Int)) then
    let n := e.disagree + 1
    if 3 ≤ n then
      let ch := if (v1 - sp).natAbs < (v0 - sp).natAbs then 53 else 52
      let s1 := { s with eng := { e with disagree := n, busChannel := ch, disagreeReported := true } }
      if e.disagreeReported then s1 else s1.raise (s1.block blDecimators) clSense 7 ch lvBlock
    else { s with eng := { e with disagree := n } }
  else { s with eng := { e with disagree := 0, busChannel := 0, disagreeReported := false } }

/-- Feedback of instance 0, mV. -/
def State.busMean (s : State) : Int :=
  let v0 := s.num (Obj.value 52)
  let v1 := s.num (Obj.value 53)
  let f0 := bitOf s.conv.streamFault 52
  let f1 := bitOf s.conv.streamFault 53
  if f0 && f1 then s.num Obj.busVoltage2910
  else if f0 || s.eng.busChannel = 53 then v1
  else if f1 || s.eng.busChannel = 52 then v0
  else (v0 + v1 + 1) / 2

/-- Bits set in a mask of six. -/
def popMask (m : Nat) : Nat := countP (bitOf m) (List.range 6)

/-- Greatest change of a bus's power at one value, 10^-10 W (R335). -/
def limStep (l : Nat) : Nat := l * 250000

/-- The limiter of a bus would find no admissible integer at set-point `v` with its mask unchanged (R337). -/
def State.limStuck (s : State) (b v : Nat) : Bool :=
  let x := s.bus b
  let n := popMask x.maskPrev
  n != 0 && v != 0 && decide (s.nat Obj.rectifierCurrentMax < (x.pPrev - limStep s.activeLimit + n * v - 1) / (n * v))

/-- The set-point in force moves by the slew of this tick; the soft start has its own (R322, R337, R509). -/
def State.slewTick (s : State) : State :=
  let rate := if s.energising ∧ s.nat Obj.energiseStep = 3 then s.nat Obj.busSoftStartSlew else s.nat Obj.busSetpointSlew
  let acc := s.eng.slewAcc + rate
  let cur := s.nat Obj.busSetpointInForce
  let tgt := s.nat Obj.busSetpoint2910
  let nxt := if cur < tgt then min tgt (cur + acc / 1000) else max tgt (cur - acc / 1000)
  let a := decide (nxt ≠ cur) && s.limStuck 0 nxt
  let b := decide (nxt ≠ cur) && s.limStuck 1 nxt
  let s1 := { s with eng := { s.eng with
    slewAcc := if cur = tgt then 0 else acc % 1000
    busA := { s.eng.busA with stuck := a }
    busB := { s.eng.busB with stuck := b } } }
  if a || b then s1 else s1.setNat Obj.busSetpointInForce nxt

/-! Steps 2 to 5: the instances -/

/-- Count an instance's tick with a saturation or a clamp, and show its output. -/
def State.putInst (s : State) (i : Nat) (h : Inst) (sat : Bool) : State :=
  let s1 := (s.setInst i h).setNum (Obj.output i) h.u1
  if sat then s1.count (Obj.outputSaturations i) else s1

/-- Instance 0, the injections, P_conv and the rating timer (R315, R323, R324). -/
def State.loopTick (s : State) : State :=
  let c := s.inst 0
  let r := c.compute c (s.num Obj.busSetpointInForce) s.busMean
  let rel := s.eng.relPend
  let ho := s.eng.hoPend
  let u0 := r.1.u1 + rel + ho
  let s1 := s.putInst 0 ((r.1.inject rel).inject ho) r.2
  let lo := -(s.clampNow false : Int)
  let hi := (s.clampNow true : Int)
  let w := u0 + s.fc.ff
  let p := min (max w lo) hi
  let past := decide (s.nat Obj.continuousPowerClamp < p.natAbs)
  let tm := if past then s.nat Obj.ratingTimer + 1 else s.nat Obj.ratingTimer - 1
  let inF := if 10000000 ≤ tm then true else if tm = 0 then false else s.eng.contInForce
  let s2 := ((s1.setNum Obj.converterPowerRef2910 p).setNat Obj.ratingTimer tm).setNat Obj.busVoltage2910 s.busMean.toNat
  { s2 with eng := { s2.eng with
    u0 := u0, relPend := 0, hoPend := 0, relLast := rel, hoLast := ho, contInForce := inF } }

/-- Current reference of each active phase of string `k` (R325), with `v` the string voltage of the previous tick. -/
def State.phaseRef (s : State) (k : Nat) (v : Int) : Int × Int :=
  let kf := s.kFactor k v
  let c := s.num Obj.phaseCurrentClamp
  (kf, clampI (-c) c (mulShiftI (s.sharePower k (s.num Obj.converterPowerRef2910)) kf 24))

/-- The active phases of string `k` compute, and write their compare values (R318, R326, R354). -/
def State.phaseLoops (s : State) (k : Nat) (ref : Int) : State :=
  let one := decide (s.nat Obj.phaseTuning = 0)
  s.forEach (s.activeOf k) (fun s n =>
    let h := s.inst (n + 1)
    let r := (if one then s.inst 1 else h).compute h ref (s.num (Obj.value n))
    (s.putInst (n + 1) r.1 r.2).writeCompare n r.1.u1)

/-- Steps 3 and 4 for one string. -/
def State.stringLoops (s : State) (k : Nat) (v : Int) : State :=
  let r := s.phaseRef k v
  let e := s.eng
  let s1 := if k = 0 then { s with eng := { e with k1 := r.1, ref1 := r.2, refHist1 := (r.2.natAbs : Int) :: e.refHist1.take 99 } }
    else { s with eng := { e with k2 := r.1, ref2 := r.2, refHist2 := (r.2.natAbs : Int) :: e.refHist2.take 99 } }
  if s1.mode = .hold then s1 else s1.phaseLoops k r.2

/-- A source of the Sources list of Table 11.10; an absent port 4 gives a free value (log entry 16). -/
def State.sense (s : State) (code : Nat) (ref : Int) : Int :=
  if code = 0 then ref
  else if code = 1 then s.busMean
  else if code = 2 then s.num (Obj.value 52)
  else if code = 3 then s.num (Obj.value 53)
  else if code = 4 ∨ code = 5 then s.num (Obj.value (44 + code))
  else if code = 6 ∨ code = 7 then s.num (Obj.value (44 + code))
  else if code = 8 then s.eng.pBus
  else if 16 ≤ code ∧ code < 64 then s.num (Obj.value (code - 16))
  else if 64 ≤ code ∧ code < 79 then
    (if s.portAbsent 4 then Config.integer s.freeCtr else toSigned 32 (leNat (slice (s.port 4).bytes (4 * (code - 64)) 4)))
  else Config.integer s.freeCtr

/-- Step 5: auxiliary instances that are not off (R314). -/
def State.auxLoops (s : State) : State :=
  s.forEach (((List.range 15).map (· + 49)).filter (fun i => (s.inst i).kind != 0)) (fun s i =>
    let c := s.inst i
    let r := c.compute c (s.sense (c.sources % 256) c.ref) (s.sense (c.sources / 256) c.ref)
    (s.draw.2).putInst i r.1 r.2)

/-! Measured load and what is judged on it: R13, R19, R300 -/

/-- The measured rack load of the samples just latched, and its histories (R300). -/
def State.measure (s : State) : State :=
  let pb := Config.converterPower ((List.range 54).map (fun c => s.num (Obj.value c)))
  let rack := s.eng.shelfIn + pb
  let e := s.eng
  { s with
    eng := { e with
      pBus := pb, rack := rack
      rackHist := rack :: e.rackHist.take (s.nat Obj.planFilter - 1)
      vconv1 := s.num (Obj.value 50) :: e.vconv1.take 99
      vconv2 := s.num (Obj.value 51) :: e.vconv2.take 99 }
    fc := { s.fc with binSum := s.fc.binSum + rack, binCount := s.fc.binCount + 1 } }

/-- The module's samples of the tick (R268). -/
def State.publishTick (s : State) : State :=
  let s2 := (s.publish 0x30 (s.num Obj.busVoltage2910)).publish 0x32 s.eng.pBus
  let s3 := s2.forEach s2.operated (fun s k =>
    (s.publish (0x33 + k) (s.num (Obj.value (48 + k)))).publish (0x35 + k) (s.num (Obj.value (50 + k))))
  s3.forEach (List.range 48) (fun s n => s.publish (0x40 + n) (s.num (Obj.value n)))

/-- The lesser of a running minimum and a value. -/
def minOpt (a : Option Int) (v : Int) : Option Int := match a with | some x => some (min x v) | none => some v

/-- Windows of the measured shelf input against the limit (R13): a further exception needs 10 ms without excess. -/
def State.judgeChange (s : State) : State :=
  let e := s.eng
  if s.fidelityModes then
    let i := e.r13Int + s.activeLimit
    let d := 1000000 * e.shelfIn - i
    let f := -1000000 * e.shelfIn - i
    let line := (d, f) :: e.r13Line
    let old := line.getD 1000 (0, 0)
    let full := decide (1000 < line.length)
    let md := if full then minOpt e.r13MinD old.1 else e.r13MinD
    let mf := if full then minOpt e.r13MinE old.2 else e.r13MinE
    let lim := 10000 * (s.nat Obj.ratedRackLoad : Int)
    let ex := (match md with | some m => decide (lim < d - m) | none => false) || (match mf with | some m => decide (lim < f - m) | none => false)
    let fresh := match e.r13Last with | some t => decide (t + 10 * ms ≤ s.now) | none => true
    let s1 := { s with eng := { e with
      r13Int := i, r13Line := line.take 1000, r13MinD := md, r13MinE := mf, r13Last := if ex then some s.now else e.r13Last } }
    if ex && fresh then s1.exception 5 else s1
  else { s with eng := { e with r13Int := 0, r13Line := [], r13MinD := none, r13MinE := none, r13Last := none } }

/-- Load and converter beyond their ratings (R19), given the rack load of the tick before. -/
def State.judgeRatings (s : State) (before : Int) : State :=
  let e := s.eng
  let rated := (s.nat Obj.ratedRackLoad : Int)
  let past := if rated < e.rack then (match e.overSince with | some t => some t | none => some s.now) else none
  let cl : Nat := if e.contInForce then 360000 else 480000
  let n := if cl < e.pBus.natAbs then e.convOver + 1 else 0
  let s1 := { s with eng := { e with overSince := past, convOver := n } }
  if s.fidelityModes then
    let held := (match past with | some t => decide (t + ms ≤ s.now) | none => false) ||
      decide (20 * rated < 100 * ((e.rack - before).natAbs : Int)) || decide (10 ≤ n)
    let fresh := match e.r19Last with | some t => decide (t + 10 * ms ≤ s.now) | none => true
    if held then
      let s2 := { s1 with eng := { s1.eng with r19Last := some s.now } }
      if fresh then s2.exception 6 else s2
    else s1
  else { s1 with eng := { s1.eng with r19Last := none } }

/-! Shedding, precharge, openings -/

/-- Shed and re-add conditions of string `k` (R358, R359). -/
def State.shedTick (s : State) (k : Nat) : State :=
  let since := if k = 0 then s.conv.shedSince1 else s.conv.shedSince2
  let nw := if s.shedCondition k then (match since with | some t => some t | none => some s.now) else none
  let s1 := if k = 0 then { s with conv := { s.conv with shedSince1 := nw } } else { s with conv := { s.conv with shedSince2 := nw } }
  if (s1.mode = .ready ∨ s1.mode = .shaping) ∧ s1.readdCondition k ∧
      (s1.phasesOf k).any (fun n => (s1.phase n).shed || (s1.phase n).shedNext) then s1.readdShed k
  else s1

/-- What a string's contactors wait for of a tick: break current, match, interlock times (R369, R371, Table 12.2). -/
def State.contactorTick (s : State) (k : Nat) : State :=
  let s1 := if (s.str k).openStep = 1 then s.advanceOpening k else s
  (if (s1.str k).step = 4 then s1.tickMatch k else s1).interlockTick k

/-! Charge counters: R406, R408, R419, R428 -/

/-- A pair of largest magnitudes: `o` is 0 for the first record and 12 for the second (Table 14.5). -/
def State.largest (s : State) (key o : Nat) (v : Int) : State :=
  let b := s.blob key
  if toSigned 32 (leNat (slice b o 4)) < v then
    s.setBlob key (slice b 0 o ++ extremeRec v s.powered 0xFFFF ++ slice b (o + 12) (12 - o))
  else s

/-- A measurement takes the current of one tick (R406). -/
def Meas.tick (m : Meas) (i : Int) (now : Nat) : Meas :=
  if m.start < now ∧ now ≤ m.stop then
    { m with iSum := m.iSum + i, iN := m.iN + 1, iMin := if m.iN = 0 then i else min m.iMin i, iMax := if m.iN = 0 then i else max m.iMax i }
  else m

/-- The ring's window takes the tick, and its centre the charge counter `q` (R406, R408). -/
def RingSt.tick (r : RingSt) (i q : Int) (now : Nat) : RingSt :=
  let m := r.meas.tick i now
  let bs := r.barSum + i
  let bn := r.barN + 1
  if !m.centred && decide (0 < m.stop) && decide (m.centre ≤ now) then
    { r with meas := { m with centred := true, qCentre := q, barSum := bs, barN := bn }, barSum := 0, barN := 0 }
  else { r with meas := m, barSum := bs, barN := bn }

/-- The current of one tick of string `k` reaches its counters: 1 mA for 1 µs is 1 nC. -/
def State.chargeTick (s : State) (k : Nat) : State :=
  let i := s.num (Obj.value (48 + k))
  let e := s.estStr k
  let a : Int := i.natAbs
  let sum := e.secSum + a
  let full := decide (1000000 ≤ e.secN + 1)
  let e1 : EstString := { e with
    q := e.q + i
    secSum := if full then 0 else sum
    secN := if full then 0 else e.secN + 1
    means := if full then divRound sum 1000000 :: e.means.take 59 else e.means
    repSum := e.repSum + i
    repN := e.repN + 1
    restSince := if i.natAbs ≤ s.nat Obj.restCurrent then (if e.restSince = 0 then s.now + 1 else e.restSince) else 0
    disRest := if 0 < i then (e.disRest + i.toNat) % 3600000000 else e.disRest
    chgRest := if i < 0 then (e.chgRest + i.natAbs) % 3600000000 else e.chgRest }
  let s1 := ((s.setEstStr k e1).setRing k ((s.ring k).tick i e1.q s.now)).calTick k e1.q
  let s2 := if 0 < i then s1.count64 (Obj.dischargedThroughput (k + 1)) ((e.disRest + i.toNat) / 3600000000)
    else if i < 0 then s1.count64 (Obj.chargedThroughput (k + 1)) ((e.chgRest + i.natAbs) / 3600000000) else s1
  if s.connected k then s2.largest (Obj.currentExtremes (k + 1)) (if 0 < i then 0 else 12) a else s2

/-! Step 7: shadow comparison, R342, R343, R579 -/

/-- Both engines run, and the supervisor channel carries their exchange. -/
def State.shadowing (s : State) : Bool :=
  s.supUp && !s.lost 0 && !s.lost 1 && !s.reacted 0 && !s.reacted 1 && !s.blockSafe 0 blEngine && !s.blockSafe 1 blEngine

/-- A Hazel accuses itself: a known-answer vector fails, or parity. -/
def State.accuse (s : State) (h : Nat) : State :=
  if s.lost h || s.reacted h || s.blockSafe h blEngine then s
  else (s.count Obj.knownAnswerFailures).raise (97 * h + blEngine) clComputation 4 s.eng.kavIndex lvBlock true

/-- Half that shadows. -/
def State.shadowHalf (s : State) : Nat := 1 - s.workHalf

/-- A mismatch: the sweep of the 16 vectors follows in the next tick. -/
def State.mismatch (s : State) : State :=
  ({ s with eng := { s.eng with sweepDue := true } } : State).setNat Obj.lastMismatchTime s.hall

/-- Events within the last millisecond, with one more now. -/
def recent1ms (l : List Nat) (now : Nat) : List Nat := (now :: l).filter (fun t => decide (now < t + ms))

/-- A sense mismatch is recorded; four within 1 ms put the shadow's decimators in their safe state (Table 17.3a). -/
def State.senseMismatch (s : State) (c : Nat) : State :=
  let b := 97 * s.shadowHalf + blDecimators
  let l := recent1ms s.eng.senseMis s.now
  let s1 := { s with eng := { s.eng with senseMis := if 4 ≤ l.length then [] else l } }
  s1.raise b clSense 7 c lvBlock (decide (4 ≤ l.length))

/-- The sweep after a mismatch: with neither Hazel at fault, the shadow copies the holder's histories; the fourth copy in 1 ms is a fault of
the shadow's engine. -/
def State.sweep (s : State) (failed : Bool) : State :=
  if s.eng.sweepDue then
    if failed then s
    else
      let l := recent1ms s.eng.copies s.now
      let s1 := ({ s with eng := { s.eng with copies := if 4 ≤ l.length then [] else l } } : State).count Obj.shadowMismatches
      if 4 ≤ l.length then s1.raise (97 * s1.shadowHalf + blEngine) clComputation 4 0 lvBlock true else s1
  else s

/-- Steps 6 and 7. -/
def State.compareTick (s : State) (inp : TickIn) : State :=
  let s0 := { s with eng := { s.eng with kavIndex := (s.eng.kavIndex + 1) % 16 } }
  let s1 := s0.sweep (inp.failA || inp.failB)
  let s2 := if inp.failA then s1.accuse 0 else s1
  let s3 := if inp.failB then s2.accuse 1 else s2
  let s3 : State := { s3 with eng := { s3.eng with sweepDue := false } }
  if s3.shadowing then
    match inp.senseDiff with
    | some c => s3.mismatch.senseMismatch c
    | none => if inp.outDiff then s3.mismatch else s3
  else s3

/-! Authority: R50, R51, R491 step 4 -/

/-- A planned transfer takes place at the tick boundary (Table 2.12). -/
def State.transferTick (s : State) : State :=
  let n := s.hold.transferTo
  if n = 0 then s
  else
    let s1 := { s with hold := { s.hold with transferTo := 0 } }
    if s1.healthy (n - 1) then
      (s1.setLatches (decide (n = 1)) (decide (n = 2))).count Obj.authorityTransferCount
    else s1

/-- What both Hazels read of the latches: disagreement, or authority settled. A half that is gone reads nothing. -/
def State.latchTick (s : State) (ra rb : Nat) : State :=
  let a := if s.lost 0 || s.reacted 0 then rb % 4 else ra % 4
  let b := if s.lost 1 || s.reacted 1 then a else rb % 4
  let s1 := if s.supUp then { s with hold := { s.hold with supHandled := false } } else s
  if s1.mode = .hold ∧ a = b ∧ 3 ≤ s1.hold.phase ∧ ((a = 1 ∧ s1.holder = 1) ∨ (a = 2 ∧ s1.holder = 2)) then s1.settle
  else
    let c := s1.disagreement a b
    if c = 0 then s1 else s1.enterHold c

/-! Planner: R338 to R340 -/

/-- Mean measured rack load over the last PlanFilter µs. -/
def State.rackMean (s : State) : Int := if s.eng.rackHist.isEmpty then s.eng.rack else divRound (sumI s.eng.rackHist) s.eng.rackHist.length

/-- Averaging span in µs: one step cycle of the step domain, or PlanSpan. -/
def State.planSpanNow (s : State) : Nat :=
  let li := s.stepDom.lastInterval / us
  if 0 < li ∧ li ≤ 10000000 then li else s.nat Obj.planSpan

/-- portadvice for a target (R340, R345). -/
def State.adviceFor (s : State) (target : Int) : Int :=
  if s.portAbsent 5 then 0
  else
    let b := (s.port 5).bytes
    divRound ((leNat (slice b 4 2) : Int) * (toSigned 32 (leNat (slice b 0 4)) - target)) 32768

/-- Energy capacity of the operated strings, J (R418). -/
def State.energyTotal (s : State) : Rat :=
  (s.operated.map (fun k => (s.estStr k).cap * ((18 : Rat) / 5) * s.stackOcv k (1 / 2))).foldl (· + ·) 0

/-- The state-of-charge term of R338; a calibration puts its offset in its place (R425). -/
def State.socTerm (s : State) : Int :=
  if s.stack.cal.string ≠ 0 then s.calOffset
  else
    let n := s.operated.length
    let soc := (s.operated.map (fun k => (s.estStr k).soc)).foldl (· + ·) (0 : Rat) / (n : Rat)
    let d := (s.nat Obj.socCentre : Rat) / 10000 - soc
    let lim := (s.nat Obj.ratedRackLoad : Int) / 20
    let tr := s.nat Obj.socRecentreTime
    if tr = 0 then 0 else clampI (-lim) lim (ratRound (d * s.energyTotal / (tr : Rat)))

/-- A fitted rectifier. -/
def State.fitted (s : State) (r : Nat) : Bool := decide (r < 12) && bitOf (s.nat Obj.rectifiersFitted) r

/-- Answering rectifiers in service. -/
def State.answering (s : State) : List Nat := (List.range 12).filter (fun r => s.fitted r && (s.rect r).answering)

/-- Bus set-point that the limiters compute with (R335, R509). -/
def State.limVolts (s : State) : Nat :=
  if s.energising ∧ s.nat Obj.energiseStep = 3 then s.nat Obj.busSetpoint2910 else s.nat Obj.busSetpointInForce

/-- Bounds of a target: nothing negative, nothing beyond the answering rectifiers. -/
def State.boundTarget (s : State) (w : Int) : Int :=
  min (max w 0) (((s.answering.length * s.nat Obj.rectifierCurrentMax * s.limVolts / 10000000000 : Nat) : Int))

/-- Target before advice for the application instant `ta`, in µs of T (R338, R339). -/
def State.planBase (s : State) (ta : Nat) : Int := if 0 < s.fc.cEff ∧ !s.portAbsent 1 then s.planMean ta s.planSpanNow else s.rackMean

/-- Target shelf input for the application instant `ta` (R338). -/
def State.planTarget (s : State) (ta : Nat) : Int :=
  let base := s.planBase ta
  s.boundTarget (base + s.adviceFor base + s.socTerm)

/-- The planner's proposal for the frame whose start-of-frame bit comes at `sof` µs of T. -/
def State.planLatch (s : State) (sof : Nat) : PlanLatch := {
  at_ := s.histT, rects := s.answering, w1 := s.planTarget (sof + 50), w2 := s.planTarget (sof + 100)
  adv := s.adviceFor (s.planBase (sof + 100)) }

/-- The tick at a latch instant, 20 µs before a multiple of 100 µs of hall time, keeps the plan (R329). -/
def State.latchTickPlan (s : State) : State :=
  if s.histT % 100 = 80 then { s with eng := { s.eng with latched := some (s.planLatch (s.histT + 20)) } } else s

/-! The whole tick -/

/-- Both bus channels within 1 % of BusSetpoint (R509). -/
def State.softWithin (s : State) : Bool :=
  let sp := s.num Obj.busSetpoint2910
  [52, 53].all (fun c => bitOf s.conv.streamFault c || decide (100 * ((s.num (Obj.value c) - sp).natAbs : Int) ≤ sp)) &&
    !(bitOf s.conv.streamFault 52 && bitOf s.conv.streamFault 53)

/-- The soft start watches the bus. -/
def State.softTick (s : State) : State :=
  if s.energising ∧ s.nat Obj.energiseStep = 3 then
    let v := if s.softWithin then (match s.boot.softSince with | some t => some t | none => some s.now) else none
    { s with boot := { s.boot with softSince := v } }
  else s

/-- Tick of the ALIVE levels (Table 17.6). -/
def State.levelTick (s : State) : State := { s with pins := { s.pins with ticksA := s.pins.ticksA + 1, ticksB := s.pins.ticksB + 1 } }

/-- Steps 1 to 5 and the measured values. -/
def State.computeTick (s : State) (inp : TickIn) : State :=
  let v1 := s.num (Obj.value 50)
  let v2 := s.num (Obj.value 51)
  let s1 := ((((s.count Obj.engineTicks).levelTick.senseLatch inp.raw).measure).takeBinding).latchPorts
  let s2 := { s1 with fc := { s1.fc with differ := inp.portsDiffer } }
  let s3 := (if inp.portsDiffer then s2.count Obj.forecastMismatches else s2).forecastTerms.takeHandovers
  let s4 := s3.busChoose.slewTick.loopTick
  let s5 := s4.stringLoops 0 v1
  let s6 := if s5.isS2 then s5.stringLoops 1 v2 else s5
  s6.auxLoops.publishTick.latchTickPlan

/-- The tick's share of the energies of R456: rack load, converter power and running weights, W over 1 µs. -/
def State.energyTick (s : State) : State :=
  let p := s.pow
  { s with pow := { p with
    rackSum := p.rackSum + s.eng.rack, disSum := p.disSum + max s.eng.pBus 0, chgSum := p.chgSum + max (-s.eng.pBus) 0
    ticks := p.ticks + 1
    wSum := p.running.foldl (fun m e => smModify (fun _ => 0) m e.2.1 (· + e.2.2)) p.wSum } }

/-- One control tick. -/
def State.controlTick (s : State) (inp : TickIn) : State :=
  if s.counting then
    let before := s.eng.rack
    let s1 := s.transferTick.computeTick inp
    let s2 := (s1.energyTick.forEach s1.operated State.chargeTick).judgeChange.judgeRatings before
    let s3 := ((s2.forEach s2.operated State.shedTick).softTick).forEach s2.operated State.contactorTick
    (s3.wayDown.compareTick inp).latchTick inp.readA inp.readB
  else s

/-- CONTROL_TICK (R320). -/
def execControlTick (t : Nat) (inp : TickIn) (s : State) : Res := .next ((s.at t).controlTick inp)

/-! Instances: R317, R318 -/

/-- The staging copy of instance `i`: its record in the dictionary. -/
def State.staged (s : State) (i : Nat) : Inst :=
  { s.inst i with
    kind := s.nat (Obj.kind i), sources := s.nat (Obj.sources i), ref := s.num (Obj.reference i)
    b0 := s.num (Obj.b0 i 0), b1 := s.num (Obj.b0 i 1), b2 := s.num (Obj.b0 i 2), b3 := s.num (Obj.b0 i 3)
    a1 := s.num (Obj.b0 i 4), a2 := s.num (Obj.b0 i 5), a3 := s.num (Obj.b0 i 6)
    shifts := s.nat (Obj.shifts i), omin := s.num (Obj.outputMin i), omax := s.num (Obj.outputMax i) }

/-- Commit written 1: abort code and effect. -/
def State.commitInst (s : State) (i v : Nat) : Nat × State :=
  if v ≠ 1 then (abValue, s)
  else (0, { s.setNat (Obj.commit i) 1 with eng := { s.eng with commits := (i, s.now) :: s.eng.commits.filter (fun e => e.1 != i) } })

/-- The staging copy becomes active, no earlier than 2 µs after the write; histories are kept. -/
def State.swapInst (s : State) (i : Nat) : State :=
  match s.eng.commits.find? (fun e => e.1 = i) with
  | some e =>
    if e.2 + 2 * us ≤ s.now then
      let s1 := { s with eng := { s.eng with commits := s.eng.commits.filter (fun e => e.1 != i) } }
      (s1.setInst i (s1.staged i)).setNat (Obj.commit i) 0
    else s
  | none => s

/-- INSTANCE_SWAP (R317). -/
def execInstanceSwap (t : Nat) (i : Fin 64) (s : State) : Res := .next ((s.at t).swapInst i.val)

end Sys2Proof.Machine
end

