-- ==== Sys2Proof/Machine/Setpoint.lean ====
section
/-! DEFINITION. Meanings: set-point frames, reports and limiters, soft start, trace (spec/11_shelf_power_loop.md R328 to R347). -/

namespace Sys2Proof.Machine

/-! Limiter: R334 to R337 -/

/-- Admissible integer of a mask, none where there is none. -/
def limTry (step v imax pPrev mask iReq : Nat) : Option Nat :=
  let n := popMask mask
  if n = 0 then (if pPrev ≤ step then some 0 else none)
  else
    let lo := (pPrev - step + n * v - 1) / (n * v)
    let hi := min ((pPrev + step) / (n * v)) imax
    if lo ≤ hi then some (min (max iReq lo) hi) else none

/-- What the limiter makes of one value. -/
structure LimOut where
  i : Nat
  p : Nat
  mask : Nat
  deferred : Bool
  clamped : Bool
  deriving DecidableEq, Repr

/-- One value of a frame: the mask requested, else the mask before; where the cap excludes every integer, the least that keeps the step. -/
def limVal (l v imax pPrev maskPrev maskReq iReq : Nat) : LimOut :=
  let step := limStep l
  let out := fun (m i : Nat) (d : Bool) => ({ i := i, p := popMask m * i * v, mask := m, deferred := d, clamped := i != iReq } : LimOut)
  match limTry step v imax pPrev maskReq iReq with
  | some i => out maskReq i false
  | none =>
    match limTry step v imax pPrev maskPrev iReq with
    | some i => out maskPrev i (maskReq != maskPrev)
    | none =>
      let n := popMask maskPrev
      { out maskPrev ((pPrev - step + n * v - 1) / (n * v)) (maskReq != maskPrev) with clamped := true }

/-! Frames: R329, R332, R333 -/

/-- Half `h` can send on its bus: it runs, its CAN FD block and its controller do; in Safe it is healthy too (R333). -/
def State.canSend (s : State) (b : Nat) : Bool :=
  let x := s.bus b
  !s.lost x.owner && !s.reacted x.owner && !s.blockSafe x.owner blCan && !x.busOff && decide (x.from_ + 20 * us ≤ s.now) &&
    (s.mode != .safe || (s.healthy x.owner && !x.ended))

/-- Frames go out: while the bus may be energised. -/
def State.framing (s : State) : Bool :=
  s.mode = .ready || s.mode = .shaping || s.energising || (s.mode = .standby && s.boot.failStep != 0) || s.mode = .safe

/-- EnableMask of bus `b` from a choice of rectifiers. -/
def busMask (b : Nat) (l : List Nat) : Nat := sumN ((l.filter (fun r => r / 6 = b)).map (fun r => 2 ^ (r % 6)))

/-- One frame on bus `b`: limited, sent, its reports owed and its changes handed over (R324, R329, R335). -/
def State.sendFrame (s : State) (b mask r1 r2 : Nat) (ramp : Bool) : State :=
  let x := s.bus b
  let l := if ramp then s.nat Obj.rampLimitReserve2900 else s.activeLimit
  let v := s.limVolts
  let imax := s.nat Obj.rectifierCurrentMax
  let a := limVal l v imax x.pPrev x.maskPrev mask r1
  let c := limVal l v imax a.p a.mask a.mask r2
  let n := (x.counter + 1) % 256
  let s1 := if a.deferred then s.count Obj.maskChangesDeferred else s
  let s2 := s1.count Obj.limiterClamps ((if a.clamped then 1 else 0) + (if c.clamped then 1 else 0))
  let s3 := s2.setBus b { x with
    pOld := x.pPrev, maskOld := x.maskPrev, pPrev := c.p, maskPrev := c.mask, counter := n
    first := a.i, second := c.i, mask := c.mask, sof := s.now, sent := true }
  let s4 := { s3 with eng := { s3.eng with
    handovers := s3.eng.handovers ++ [((s.now + 50 * us) * 2 + b, (a.p : Int) - x.pPrev), ((s.now + 100 * us) * 2 + b, (c.p : Int) - a.p)] } }
  let r := 6 * b + n % 6
  let s5 := if s.fitted r then s4.setRect r { s4.rect r with owed := true, owedCounter := n, missed := false } else s4
  let s6 := s5.setNat (if b = 0 then Obj.limiterStateA else Obj.limiterStateB) c.p
  s6.emit (.canFrame b ([n, c.mask, (if ramp then 2 else 0) + (if ramp || s.eng.reserve then 1 else 0), 0] ++ beBytes 4 a.i ++ beBytes 4 c.i))

/-- Current per enabled rectifier for a target, 0.1 µA (R338). -/
def perRect (target : Int) (n v : Nat) : Nat := if n = 0 ∨ v = 0 then 0 else (divRound (target * 10000000000) (n * v)).toNat

/-- P_cmd as the frames left it. -/
def State.showCmd (s : State) : State :=
  let w := watts ((s.eng.busA.pPrev + s.eng.busB.pPrev : Nat) : Int)
  { s.setNum Obj.commandedInput2911 w with eng := { s.eng with pCmd := w } }

/-- Both buses stand at zero. -/
def State.cmdZero (s : State) : Bool := s.eng.busA.pPrev = 0 && s.eng.busB.pPrev = 0

/-- Frames on both buses, with the same request for each enabled rectifier. -/
def State.sendBoth (s : State) (l : List Nat) (w1 w2 : Int) : State :=
  let v := s.limVolts
  s.forEach [0, 1] (fun s b =>
    if s.canSend b then s.sendFrame b (busMask b l) (perRect w1 l.length v) (perRect w2 l.length v) false else s)

/-- Planner outputs shown: the target, and the port's part in it. -/
def State.showPlan (s : State) (w : Int) (adv : Int := 0) : State :=
  { s.setNum Obj.plannerTarget w with eng := { s.eng with portAdvice := adv } }

/-- The plan in force at a frame: that of its latch, 20 µs before, or, where no tick fell on that instant, the present one. -/
def State.planNow (s : State) : PlanLatch :=
  match s.eng.latched with
  | some p => if p.at_ + 20 = s.histT then p else s.planLatch s.histT
  | none => s.planLatch s.histT

/-- Ready and Shaping: the planner's targets, the way down of Table 18.8, or the measured outputs after a Hold (R26, R338). -/
def State.planFrame (s : State) : State :=
  let l := s.answering
  if s.boot.shutStep = 4 then s.sendBoth [] 0 0
  else if s.boot.shutStep = 2 then (s.showPlan 0).sendBoth l 0 0
  else
    match s.eng.resume with
    | some w => (({ s with eng := { s.eng with resume := none } } : State).showPlan w).sendBoth l w w
    | none =>
      let p := s.planNow
      (s.showPlan p.w2 p.adv).sendBoth p.rects p.w1 p.w2

/-- Energising: zero for every fitted rectifier, then the soft start's request, whose law the spec does not give (R509, log entry 50). -/
def State.startFrame (s : State) : State :=
  if s.nat Obj.energiseStep ≤ 2 then s.sendBoth ((List.range 12).filter s.fitted) 0 0
  else
    let d := s.draw
    let w := s.boundTarget (Config.integer d.1)
    (d.2.showPlan w).sendBoth s.answering w w

/-- The shut-down of R510: the set-points stay while strings open, then go to zero. -/
def State.failFrame (s : State) : State :=
  if s.boot.failStep = 1 then
    s.forEach [0, 1] (fun s b => if s.canSend b then s.sendFrame b (s.bus b).maskPrev (s.bus b).second (s.bus b).second false else s)
  else (s.showPlan 0).sendBoth s.answering 0 0

/-- Safe: RampDown at the reserve limit, a last frame with EnableMask 0 once both buses are at zero, then none (R333). -/
def State.safeFrame (s : State) : State :=
  let done := [0, 1].all (fun b => (s.bus b).zeroSent || !s.canSend b)
  s.forEach [0, 1] (fun s b =>
    if s.canSend b then
      if done then
        let s1 := s.sendFrame b 0 0 0 true
        s1.setBus b { s1.bus b with ended := true }
      else
        let s1 := s.sendFrame b (s.bus b).maskPrev 0 0 true
        s1.setBus b { s1.bus b with zeroSent := (s1.bus b).pPrev = 0 }
    else s)

/-- One grid instant of R329. -/
def State.gridFrame (s : State) (differ : Bool) : State :=
  if s.counting && s.framing then
    let s0 := if differ && s.shadowing then s.mismatch else s
    let s1 :=
      if s0.mode = .safe then s0.safeFrame
      else if s0.energising then s0.startFrame
      else if s0.mode = .standby then s0.failFrame
      else s0.planFrame
    let s2 := s1.showCmd
    if s2.boot.shutStep = 2 ∧ s2.cmdZero then s2.shutOpen.wayDown else s2.wayDown
  else s

/-- SETPOINT_FRAME (R329, R333, R335, R338). -/
def execSetpointFrame (t : Nat) (differ : Bool) (s : State) : Res := .next ((s.at t).gridFrame differ)

/-- The last frame of a bus met an error (R332). -/
def State.frameError (s : State) (b : Nat) : State :=
  let x := s.bus b
  if x.sent then
    let s1 := s.setBus b { x with pPrev := x.pOld, maskPrev := x.maskOld, sent := false, zeroSent := x.zeroSent && x.pOld = 0 }
    let s2 := { s1 with eng := { s1.eng with handovers := s1.eng.handovers.filter (fun e => !(e.1 % 2 = b && decide (x.sof + 50 * us ≤ e.1 / 2))) } }
    ((s2.setNat (if b = 0 then Obj.limiterStateA else Obj.limiterStateB) x.pOld).count Obj.setpointFramesLost).showCmd
  else s

/-- SETPOINT_FRAME_ERROR (R328, R332). -/
def execSetpointFrameError (t : Nat) (bus : Fin 2) (s : State) : Res := .next ((s.at t).frameError bus.val)

/-! Reports: R329, R331 -/

/-- The measured shelf input, formed again (R300, channel 0x0031). -/
def State.sumInput (s : State) : State :=
  let w := sumI (s.answering.map (fun r => (s.rect r).power))
  ({ s with eng := { s.eng with shelfIn := w } } : State).publish 0x31 w

/-- Every fitted rectifier answers: the soft start begins, from the measured bus voltage (Table 18.6, R509). -/
def State.softBegin (s : State) : State :=
  if s.energising ∧ s.nat Obj.energiseStep = 2 ∧ (List.range 12).all (fun r => !s.fitted r || (s.rect r).answering) then
    let s1 := (s.setNat Obj.energiseStep 3).setNat Obj.busSetpointInForce (s.nat Obj.busVoltage2910)
    { s1 with boot := { s1.boot with stepSince := s1.now, softSince := none }, eng := { s1.eng with slewAcc := 0 } }
  else s

/-- A good or faulty report is counted: two in a row change what the rectifier is (R331). -/
def State.judgeReport (s : State) (r : Nat) (good : Bool) : State :=
  let x := s.rect r
  let g := if good then x.good + 1 else 0
  let f := if good then 0 else x.bad + 1
  let s1 := s.setRect r { x with good := g, bad := f, owed := false, answering := if 2 ≤ g then true else if 2 ≤ f then false else x.answering }
  let s2 := if x.answering ∧ 2 ≤ f then s1.exception 4 else s1
  s2.sumInput.softBegin

/-- Deadline of a report after its frame's start, ns. -/
def reportLate : Nat := 85600

/-- A frame received on a bus. A report that no frame asked for is faulty; one that comes late is the one its deadline counts (R329, R331). -/
def State.reportFrame (s : State) (b : Nat) (fdBase : Bool) (id : Nat) (bytes : List Nat) : State :=
  let r := id - 0x100
  let flags := listGet 0 bytes 1
  if !s.counting then s
  else if !fdBase || bytes.length != 8 || decide (id < 0x100) || decide (0x10C ≤ id) || decide (r / 6 ≠ b) || flags % 16 != 0 then
    s.count Obj.canFramesIgnored
  else
    let x := s.rect r
    let w := divRound ((beNat (slice bytes 2 2) * beNat (slice bytes 4 4) : Nat) : Int) 100000
    let fault := bitOf flags 7
    let inSlot := x.owed && decide (s.now ≤ (s.bus b).sof + reportLate)
    let s1 := (s.setRect r { x with power := w, status := flags, fault := if inSlot then fault else x.fault, missed := false }).setBlob
      (Obj.rectifierReport r) bytes
    let s2 := s1.publish (0x24 + r) w
    if inSlot then s2.judgeReport r (listGet 0 bytes 0 = x.owedCounter && !fault)
    else if s.fitted r && !x.owed && !x.missed then s2.judgeReport r false
    else s2.sumInput

/-- RECTIFIER_REPORT (R328, R331). -/
def execRectifierReport (t : Nat) (bus : Fin 2) (fdBase : Bool) (id : Nat) (bytes : List Nat) (s : State) : Res :=
  .next ((s.at t).reportFrame bus.val fdBase id bytes)

/-- No report ended in time. -/
def State.reportMissed (s : State) (r : Nat) : State :=
  if (s.rect r).owed && decide ((s.bus (r / 6)).sof + reportLate ≤ s.now) then
    ((s.setRect r { s.rect r with missed := true }).count (Obj.missedReports r)).judgeReport r false
  else s

/-- REPORT_DEADLINE (R329, R331). -/
def execReportDeadline (t : Nat) (r : Fin 12) (s : State) : Res := .next ((s.at t).reportMissed r.val)

/-- A controller goes bus-off: counted and recorded; R328's recovery is the reaction (DEDUCED, log entry 51). -/
def State.canBusOff (s : State) (b : Nat) : State :=
  let x := s.bus b
  if x.busOff then s
  else ((s.setBus b { x with busOff := true }).count Obj.busOffEvents).raise (97 * x.owner + blCan) clCommunication 6 b lvBlock

/-- CAN_BUS_OFF (R328). -/
def execCanBusOff (t : Nat) (bus : Fin 2) (s : State) : Res := .next ((s.at t).canBusOff bus.val)

/-- 128 occurrences of 11 recessive bits (R328). -/
def State.canRecover (s : State) (b : Nat) : State := s.setBus b { s.bus b with busOff := false }

/-- BUS_OFF_RECOVERY (R328). -/
def execBusOffRecovery (t : Nat) (bus : Fin 2) (s : State) : Res := .next ((s.at t).canRecover bus.val)

/-- The soft start has ended: the under-voltage comparison is armed and the strings connect (R509, R368). -/
def State.softDone (s : State) : State :=
  match s.boot.softSince with
  | some t0 =>
    if s.energising ∧ s.nat Obj.energiseStep = 3 ∧ t0 + 10 * ms ≤ s.now then
      let s1 := s.setNat Obj.energiseStep 4
      ({ s1 with conv := { s1.conv with uvArmed := true }, boot := { s1.boot with stepSince := s1.now } } : State).goConnect
    else s
  | none => s

/-- SOFT_START_COMPLETE (R509). -/
def execSoftStartComplete (t : Nat) (s : State) : Res := .next (s.at t).softDone

/-! Trace: R347 -/

/-- Count of the events the trigger source watches. -/
def State.traceMark (s : State) : Nat :=
  match s.nat Obj.triggerSource / 256 with
  | 2 => s.nat Obj.fidelityExceptionCount2900
  | 3 => s.nat (Obj.faultCount blEngine) + s.nat (Obj.faultCount (97 + blEngine))
  | _ => 0

/-- Value of a ChannelSource code. -/
def State.traceValue (s : State) (code : Nat) : Int :=
  let i := s.inst (code % 256 % 64)
  match code / 256 with
  | 1 => i.e1
  | 2 => i.u1
  | 3 => i.u2
  | 4 => i.e2
  | 5 => (s.phase (code % 256)).cmpNew
  | 6 => match code % 256 with
    | 0 => s.fc.ff
    | 1 => s.eng.relLast
    | 2 => s.eng.hoLast
    | _ => s.num Obj.converterPowerRef2910
  | 7 => s.sense (code % 256) 0
  | 8 => if code % 256 = 0 then s.eng.pCmd else s.num Obj.plannerTarget
  | _ => 0

/-- The trace is armed (TraceControl 1 or 2). -/
def State.traceArm (s : State) (normal : Bool) : State :=
  let hz := s.nat Obj.traceHazel
  { s with eng := { s.eng with trace := {
      state := if s.nat Obj.preTrigger = 0 then 2 else 1
      normal := normal
      hazel := if hz = 0 then s.clockSource + 1 else hz
      mark := s.traceMark
      last := s.traceValue (s.nat (Obj.channelSource (s.nat Obj.triggerSource % 256 % 8))) } } }

/-- TraceControl written: abort code and effect. -/
def State.traceControl (s : State) (v : Nat) : Nat × State :=
  let t := s.eng.trace
  let s1 := s.setNat Obj.traceControl v
  match v with
  | 0 => (0, { s1 with eng := { s1.eng with trace := { t with state := 0 } } })
  | 1 => (0, s1.traceArm false)
  | 2 => (0, s1.traceArm true)
  | 3 => (0, { s1 with eng := { s1.eng with trace := { t with forced := t.forced || t.state = 2 } } })
  | _ => (abValue, s)

/-- The trigger condition at a sample. -/
def State.triggered (s : State) (v : Int) : Bool :=
  let t := s.eng.trace
  let lvl := s.num Obj.triggerLevel
  let up := decide (t.last < lvl) && decide (lvl ≤ v)
  let down := decide (lvl < t.last) && decide (v ≤ lvl)
  t.forced ||
  match s.nat Obj.triggerSource / 256 with
  | 0 => match s.nat Obj.triggerEdge with
    | 1 => up
    | 2 => down
    | _ => up || down
  | 1 => t.event
  | 2 | 3 => s.traceMark != t.mark
  | _ => false

/-- One sample of every channel: pre-trigger entries, the trigger, the rest. -/
def State.traceSample (s : State) : State :=
  let t := s.eng.trace
  if t.state = 1 ∨ t.state = 2 ∨ t.state = 3 then
    let vs := (List.range 8).map (fun c => s.traceValue (s.nat (Obj.channelSource c)))
    let tv := vs.getD (s.nat Obj.triggerSource % 256 % 8) 0
    let pre := s.nat Obj.preTrigger
    let app := fun (drop : Nat) => (t.data.zip vs).map (fun e => (e.1 ++ [e.2]).drop drop)
    let t0 := { t with last := tv, mark := s.traceMark, event := false }
    if t.state = 1 then
      let t1 := { t0 with data := app 0, count := t.count + 1, state := if pre ≤ t.count + 1 then 2 else 1 }
      { s with eng := { s.eng with trace := t1 } }
    else if t.state = 2 then
      if s.triggered tv then
        let left := 16383 - pre
        let t1 := { t0 with data := app 0, count := pre + 1, left := left, forced := false, state := if left = 0 then 4 else 3 }
        ({ s with eng := { s.eng with trace := t1 } } : State).setNat Obj.triggerTime s.hall
      else
        let t1 := { t0 with data := app 1 }
        { s with eng := { s.eng with trace := t1 } }
    else
      let t1 := { t0 with data := app 0, count := t.count + 1, left := t.left - 1, state := if t.left ≤ 1 then 4 else 3 }
      { s with eng := { s.eng with trace := t1 } }
  else s

/-- TRACE_SAMPLE (R347). -/
def execTraceSample (t : Nat) (s : State) : Res := .next (s.at t).traceSample

/-- The last entry of a channel has been read; once all have, normal mode arms again. -/
def State.traceRead (s : State) (c : Nat) : State :=
  let t := s.eng.trace
  if t.state = 4 then
    let m := setBit t.readMask c true
    if m = 255 ∧ t.normal then s.traceArm true else { s with eng := { s.eng with trace := { t with readMask := m } } }
  else s

/-- TRACE_REARM (R347). -/
def execTraceRearm (t : Nat) (c : Fin 8) (s : State) : Res := .next ((s.at t).traceRead c.val)

/-- ChannelData as it reads: 65,536 bytes. -/
def State.traceBytes (s : State) (c : Nat) : List Nat := fitTo 65536 ((s.eng.trace.data.getD c []).flatMap (leInt 4))

end Sys2Proof.Machine
end

