-- ==== Sys2Proof/Machine/Power.lean ====
section
/-! DEFINITION. The meanings of spec/15_package_power.md: rails, operating points, throttles, calibration and the energy accounts. -/

namespace Sys2Proof.Machine

/-! Rails: R440 to R445 -/

/-- Native level of a rail's protection: the fabric rails carry what a half cannot mask (Table 15.3, Table 17.6). -/
def railLevel (r : Nat) : Nat := if 6 ≤ r % 8 then lvHalf else lvBlock

/-- The fault that a rail turned off raises. -/
def State.railFault (s : State) (r : Nat) : State := s.raise (97 * (r / 8) + blRail) clPower 9 r (railLevel r)

/-- The change of point in progress on a core rail that turns off is abandoned: its die starts again at DefaultPoint (Table 15.7). -/
def State.railAbandon (s : State) (r : Nat) : State :=
  let d := railDie r
  if d < 8 then
    let p := s.nat Obj.defaultPoint
    (s.setDiePt d { s.diePt d with target := p, slowSince := 0 }).clockPoint d p
  else s

/-- A hiccup (R443); the third within 1 s fails the rail (R444), which leaves its switching domains off (R40). -/
def State.railHiccup (s : State) (r : Nat) : State :=
  let st := s.nat (Obj.railState r)
  if st = 1 ∨ st = 2 then
    let l := (s.now :: (s.rail r).hiccups.filter (fun t => decide (s.now ≤ t + sec)))
    let fails := decide (3 ≤ l.length)
    let waiting := (railDoms r).filter (fun d => s.domState d = 2)
    let s1 := ((s.count (Obj.hiccupEvents r)).railTrip r (if fails then 5 else 3)).railAbandon r
    let s2 := s1.setRail r { s1.rail r with hiccups := l, retryAt := if fails then none else some (s1.now + 20 * ms) }
    (if fails then s2.forEach waiting State.leftOff else s2).railFault r
  else s

/-- RAIL_HICCUP (R443, R444). -/
def execRailHiccup (t : Nat) (r : Fin 16) (s : State) : Res := .next ((s.at t).railHiccup r.val)

/-- After the off time a new soft start begins. -/
def State.railRetry (s : State) (r : Nat) : State :=
  match (s.rail r).retryAt with
  | some t => if s.nat (Obj.railState r) = 3 ∧ t ≤ s.now then s.startRail r else s
  | none => s

/-- RAIL_RETRY (R443). -/
def execRailRetry (t : Nat) (r : Fin 16) (s : State) : Res := .next ((s.at t).railRetry r.val)

/-- An over-voltage latches the low sides on; a retry is cancelled (Table 15.7). -/
def State.railOver (s : State) (r : Nat) : State :=
  let st := s.nat (Obj.railState r)
  if st = 4 ∨ st = 0 then s
  else
    let waiting := (railDoms r).filter (fun d => s.domState d = 2)
    let s1 := ((s.count (Obj.ovEvents r)).railTrip r 4).railAbandon r
    let s2 := s1.setRail r { s1.rail r with retryAt := none }
    (s2.forEach waiting State.leftOff).railFault r

/-- RAIL_OVER_VOLTAGE (R443). -/
def execRailOverVoltage (t : Nat) (r : Fin 16) (s : State) : Res := .next ((s.at t).railOver r.val)

/-- RAIL_POWER_GOOD (R441). -/
def execRailPowerGood (t : Nat) (r : Fin 16) (s : State) : Res :=
  let s := s.at t
  .next (if s.nat (Obj.railState r.val) = 1 then s.railUp r.val else s)

/-- The reference has reached its target: the clock of a core rail's die may follow (R449). -/
def State.railReached (s : State) (r : Nat) : State :=
  let d := railDie r
  let p := (s.diePt d).target
  if d < 8 ∧ s.nat (Obj.railState r) = 2 ∧ p ≠ s.nat (Obj.operatingPoint d) then s.clockPoint d p else s

/-- RAIL_TARGET_REACHED (R440, R449). -/
def execRailTargetReached (t : Nat) (r : Fin 16) (s : State) : Res := .next ((s.at t).railReached r.val)

/-- A regulating rail with more than its least active phases sheds the highest-numbered (R442). -/
def State.railShed (s : State) (r : Nat) : State :=
  let n := s.nat (Obj.activePhaseCount r)
  if s.nat (Obj.railState r) = 2 ∧ railLeast r < n then s.setNat (Obj.activePhaseCount r) (n - 1) else s

/-- RAIL_PHASE_SHED (R442). -/
def execRailPhaseShed (t : Nat) (r : Fin 16) (s : State) : Res := .next ((s.at t).railShed r.val)

/-- A regulating rail adds one phase (R442). -/
def State.railAdd (s : State) (r : Nat) : State :=
  let n := s.nat (Obj.activePhaseCount r)
  if s.nat (Obj.railState r) = 2 ∧ n < railPhases r then s.setNat (Obj.activePhaseCount r) (n + 1) else s

/-- RAIL_PHASE_ADD (R442). -/
def execRailPhaseAdd (t : Nat) (r : Fin 16) (s : State) : Res := .next ((s.at t).railAdd r.val)

/-- RailClear written by service: abort code and effect (R444). -/
def State.railClear (s : State) (r v : Nat) : Nat × State :=
  if v ≠ 1 then (abValue, s)
  else if s.mode ≠ .standby ∨ (railDoms r).any (fun d => s.domState d = 1 ∨ s.domState d = 2) then (abState, s)
  else
    let st := s.nat (Obj.railState r)
    if st = 4 ∨ st = 5 then (0, (s.setNat (Obj.railState r) 0).setRail r { s.rail r with hiccups := [], retryAt := none })
    else (0, s)

/-- A rail is outside its window: a fault of the rail controller, without a reaction of its own (R494, Table 17.8). -/
def State.railWindow (s : State) (r : Nat) : State :=
  if s.nat (Obj.railState r) = 2 then s.raise (97 * (r / 8) + blRail) clPower 8 r lvBlock else s

/-- RAIL_OUTSIDE_WINDOW (R494). -/
def execRailOutsideWindow (t : Nat) (r : Fin 16) (s : State) : Res := .next ((s.at t).railWindow r.val)

/-! Operating points: R447 to R453 -/

/-- The point that a part's present phase prefers; 0xFF stands for DefaultPoint. -/
def State.partPoint (s : State) (q : PartSt) : Nat :=
  let v := listGet 0xFF q.decl.points q.phase
  if v = 0xFF then s.nat Obj.defaultPoint else min v 7

/-- A part's preference counts: always in the fast lane, in the slow lane while a run is ready or running (R447). -/
def State.partCounts (s : State) (h : Nat) : Bool :=
  let p := s.prog h
  p.lane = 1 || p.run.isSome

/-- The requested point of die `d`: fastest of the counted preferences, or IdlePoint. -/
def State.wantedPoint (s : State) (d : Nat) : Nat :=
  match ((s.allParts.filter (fun e => dieOf e.2.array = d && s.partCounts e.1)).map (fun e => s.partPoint e.2)).min? with
  | some p => p
  | none => s.nat Obj.idlePoint

/-- Die recovers behind its rail (reason 5). -/
def State.recoveringDie (s : State) (d : Nat) : Bool := decide (s.now < (s.diePt d).recoveryUntil)

/-- Floors of the active reasons of Table 15.5, in order of their bits; none is not active. -/
def State.floors (s : State) (d : Nat) : List (Option Nat) :=
  let q := s.diePt d
  let req := s.nat (Obj.requestedPoint d)
  let fastest := s.nat Obj.fastestPoint2D00
  [ if s.pow.alertOn then some 7 else none
  , if s.pow.limitOn then some s.pow.limitFloor else none
  , if q.thermalOn then some q.thermalFloor else none
  , if q.railOn then some q.railFloor else none
  , if req < fastest then some fastest else none
  , if s.recoveringDie d then some (s.nat Obj.defaultPoint) else none ]

/-- ThrottleReasons of a die from its floors. -/
def reasonBits (l : List (Option Nat)) : Nat := sumN ((List.range 6).map (fun j => if (listGet none l j).isSome then 2 ^ j else 0))

/-- Time during which each reason cost a running die speed (R453). -/
def State.throttleTimes (s : State) (d us : Nat) : State :=
  let req := s.nat (Obj.requestedPoint d)
  s.forEach (List.range 6) (fun s j =>
    match listGet none (s.floors d) j with
    | some f => if req < f ∧ s.nat (Obj.dieState d) = 1 then s.count64 (Obj.throttleTime d j) us else s
    | none => s)

/-- Rail current judged over 100 µs against 80 % and 70 % of 8 × 30 A (reason 3). -/
def State.railThrottle (s : State) (d ma : Nat) : State :=
  let q := s.diePt d
  if 192000 < ma then
    s.setDiePt d { q with railOn := true, railFloor := if q.railOn then q.railFloor else min 7 (q.target + 1), railLow := none }
  else if q.railOn then
    if ma < 168000 then
      let since := q.railLow.getD s.now
      if since + ms ≤ s.now then s.setDiePt d { q with railOn := false, railLow := none }
      else s.setDiePt d { q with railLow := some since }
    else s.setDiePt d { q with railLow := none }
  else s

/-- The computed point of a die (R447). -/
def State.computedPoint (s : State) (d : Nat) : Nat :=
  ((s.floors d).filterMap id).foldl max (max (s.nat (Obj.requestedPoint d)) (s.nat Obj.fastestPoint2D00))

/-- A die is brought to its computed point: faster at once, forced slower at once, otherwise after the hold (R448). -/
def State.applyPoint (s : State) (d : Nat) : State :=
  let s1 := s.setNat (Obj.throttleReasons d) (reasonBits (s.floors d))
  if s1.nat (Obj.dieState d) ≠ 1 then s1
  else
    let c := s1.computedPoint d
    let forced := ((s1.floors d).filterMap id).foldl max 0
    let q := s1.diePt d
    if c < q.target then (s1.setDiePt d { q with slowSince := 0 }).changePoint d c
    else
      let s2 := if q.target < forced then s1.changePoint d forced else s1
      let q2 := s2.diePt d
      if q2.target < c then (if q2.slowSince = 0 then s2.setDiePt d { q2 with slowSince := s2.now + 1, slowTo := c } else s2)
      else s2.setDiePt d { q2 with slowSince := 0 }

/-- One die is evaluated. -/
def State.evalDie (s : State) (d : Nat) : State :=
  (s.setNat (Obj.requestedPoint d) (s.wantedPoint d)).applyPoint d

/-- Estimates of R454: raw values are free, published ones are calibrated with their rail's factor. -/
def State.estimate (s : State) : State :=
  let k := s.draw.1
  let s0 := s.draw.2
  let raw := fun d => if s.domState d = 1 then Config.dieEstimate d k else 0
  let cal := fun d => ((raw d : Rat) * (s.rail (domRail d)).factor).floor.toNat
  let s1 := s0.forEach (List.range 16) (fun s r =>
    let q := s.rail r
    s.setRail r { q with estSum := q.estSum + sumN ((railDoms r).map raw), estN := q.estN + 1 })
  let s2 := s1.forEach (List.range 8) (fun s d =>
    let v := cal d + cal (8 + d)
    (s.setNat (Obj.powerEstimate d) (v / 1000)).setDiePt d { s.diePt d with acc := (s.diePt d).acc + v })
  let pkg := sumN ((List.range 28).map cal)
  let s3 := s2.setNat Obj.packagePowerEstimate2D00 (pkg / 1000)
  { s3 with pow := { s3.pow with estHist := (pkg / 1000) :: s3.pow.estHist.take 9, pkgAcc := s3.pow.pkgAcc + pkg } }

/-- The 10 µs evaluation of every die. -/
def State.evalPoints (s : State) (amps : List Nat) : State :=
  if s.mode = .off ∨ s.mode = .ship ∨ s.boot.inReset then s
  else
    let us := s.now / 1000 - s.pow.lastPoint / 1000
    let s0 := { s with pow := { s.pow with lastPoint := s.now } }
    (s0.forEach (List.range 8) (fun s d => ((s.throttleTimes d us).railThrottle d (listGet 0 amps d)).evalDie d)).estimate

/-- POINT_EVALUATION (R447 to R450, R453, R454). -/
def execPointEvaluation (t : Nat) (railMilliamps : List Nat) (s : State) : Res := .next ((s.at t).evalPoints railMilliamps)

/-- Rise time of die `d` to point `p` at its rail's Slew, ns (R448). -/
def State.riseTime (s : State) (d p : Nat) : Nat :=
  let r := 8 * (d / 4) + d % 4
  (s.pointCode d p - s.pointCode d (s.diePt d).target) * 50000 / max 1 (s.nat (Obj.slew r))

/-- The next known event of an array of die `d`, and the point its parts prefer. -/
def State.nextRise (s : State) (d : Nat) : Option (Nat × Nat) :=
  let l := ((List.range 16).map (· + 16 * d)).filterMap (fun g =>
    match (s.knownEvents g).min?, ((s.partsOn g).map (fun e => s.partPoint e.2)).min? with
    | some t, some p => some (t, p)
    | _, _ => none)
  l.foldl (fun (a : Option (Nat × Nat)) e => match a with
    | none => some e
    | some b => if e.1 < b.1 then some e else some b) none

/-- The rise ahead of a known event starts once the rise and WakeMargin are all that is left. -/
def State.earlyRise (s : State) (d : Nat) : State :=
  match s.nextRise d with
  | none => s
  | some (te, p) =>
    let c := ((s.floors d).filterMap id).foldl max (max p (s.nat Obj.fastestPoint2D00))
    if s.nat (Obj.dieState d) = 1 ∧ c < (s.diePt d).target ∧ te ≤ s.now + s.riseTime d c + s.nat Obj.wakeMargin * 1000 then
      (s.setDiePt d { s.diePt d with slowSince := 0 }).changePoint d c
    else s

/-- POINT_EARLY_RISE (R448). -/
def execPointEarlyRise (t : Nat) (d : Fin 8) (s : State) : Res := .next ((s.at t).earlyRise d.val)

/-- A slower computed point has stood for PointHoldTime: the fall starts. -/
def State.holdOver (s : State) (d : Nat) : State :=
  let q := s.diePt d
  if q.slowSince ≠ 0 ∧ q.slowSince - 1 + s.nat Obj.pointHoldTime * 1000 ≤ s.now ∧ q.target < s.computedPoint d ∧ s.nat (Obj.dieState d) = 1 then
    (s.setDiePt d { q with slowSince := 0 }).changePoint d (s.computedPoint d)
  else s

/-- POINT_HOLD_EXPIRY (R448). -/
def execPointHoldExpiry (t : Nat) (d : Fin 8) (s : State) : Res := .next ((s.at t).holdOver d.val)

/-! Supply alert: R451 -/

/-- Every die is brought to its computed point. -/
def State.applyPoints (s : State) : State := s.forEach (List.range 8) State.applyPoint

/-- IBC_ALERT_N has been low for 200 ns: reason 0 on all dies. -/
def State.alert (s : State) : State :=
  if s.pins.ibcAlertLow then s
  else
    let s1 := if s.pow.alertOn then s else s.count Obj.alertEvents
    let s2 := { s1 with
      pins := { s1.pins with ibcAlertLow := true }
      pow := { s1.pow with alertOn := true, alertLow := s1.now + 1, holdUntil := 0 } }
    s2.forEach (List.range 8) (fun s d => (s.changePoint d 7).applyPoint d)

/-- SUPPLY_ALERT (R72, R451). -/
def execSupplyAlert (t : Nat) (s : State) : Res := .next (s.at t).alert

/-- IBC_ALERT_N rises: its low time is counted, the hold begins or begins again. -/
def State.alertRise (s : State) : State :=
  if s.pins.ibcAlertLow then
    let low := s.now + 1 - s.pow.alertLow + s.pow.alertRest
    let s1 := s.count64 Obj.alertTime (low / 1000)
    { s1 with
      pins := { s1.pins with ibcAlertLow := false }
      pow := { s1.pow with alertLow := 0, alertRest := low % 1000, holdUntil := s1.now + s1.nat Obj.alertHoldTime * 1000 } }
  else s

/-- IBC_ALERT_RISE (R451). -/
def execIbcAlertRise (t : Nat) (s : State) : Res := .next (s.at t).alertRise

/-- The hold has ended: reason 0 ends. -/
def State.alertEnd (s : State) : State :=
  if s.pow.alertOn ∧ !s.pins.ibcAlertLow ∧ s.pow.holdUntil ≤ s.now then
    ({ s with pow := { s.pow with alertOn := false } } : State).applyPoints
  else s

/-- ALERT_HOLD_END (R451). -/
def execAlertHoldEnd (t : Nat) (s : State) : Res := .next (s.at t).alertEnd

/-- RAIL_RECOVERY_END (R450): reason 5 of the die ends with its 100 ms. -/
def execRailRecoveryEnd (t : Nat) (d : Fin 8) (s : State) : Res :=
  let s := s.at t
  let q := s.diePt d.val
  .next (if q.recoveryUntil ≠ 0 ∧ q.recoveryUntil ≤ s.now then (s.setDiePt d.val { q with recoveryUntil := 0 }).applyPoint d.val else s)

/-! Package power limit: R452 -/

/-- Typical core power of a point, W (Table 6.8). -/
def corePower (p : Nat) : Nat := [95, 83, 72, 56, 43, 33, 21, 13].getD p 13

/-- The present point of the fastest die that runs. -/
def State.fastestDie (s : State) : Nat :=
  ((List.range 8).filter (fun d => s.nat (Obj.dieState d) = 1)).foldl (fun m d => min m (s.diePt d).target) 7

/-- The 100 µs comparison. -/
def State.limitCheck (s : State) : State :=
  if s.pow.estHist.isEmpty then s
  else
    let avg := sumN s.pow.estHist / s.pow.estHist.length
    let lim := s.nat Obj.packagePowerLimit2D00
    let p := s.pow
    if lim < avg then
      ({ s with pow := { p with limitFloor := min 7 ((if p.limitOn then p.limitFloor else s.fastestDie) + 1), limitOn := true } } : State).applyPoints
    else if p.limitOn ∧ avg * 100 < lim * 95 ∧ p.limitRelax + ms ≤ s.now ∧
        avg * corePower (p.limitFloor - 1) < lim * corePower p.limitFloor then
      let f := p.limitFloor - 1
      ({ s with pow := { p with limitFloor := f, limitOn := decide (f ≠ 0), limitRelax := s.now } } : State).applyPoints
    else s

/-- POWER_LIMIT_CHECK (R452). -/
def execPowerLimitCheck (t : Nat) (s : State) : Res := .next (s.at t).limitCheck

/-! Calibration and energy: R454 to R457 -/

/-- Conditions that clear CoverageInForce bit 1 (R569): coolant supply above 35.0 °C, or package power above 1,200 W. -/
def State.outsideConditions (s : State) : Bool :=
  decide (1200 < s.nat Obj.packagePowerMeasured) ||
  (List.range 32).any (fun c => s.nat (Obj.role c) = 1 && s.nat (Obj.sensorType c) ≠ 0 && (s.chan c).valid && decide (350 < (s.chan c).value))

/-- The operating conditions are judged: outside for 1 ms clears the bit, inside for 1 s sets it again. -/
def State.judgeConditions (s : State) : State :=
  let p := s.pow
  let s1 : State :=
    if s.outsideConditions then
      { s with pow := { p with outsideSince := if p.outsideSince = 0 then s.now + 1 else p.outsideSince, insideSince := 0 } }
    else
      { s with pow := { p with insideSince := if p.insideSince = 0 then s.now + 1 else p.insideSince, outsideSince := 0 } }
  let q := s1.pow
  if q.outsideSince ≠ 0 ∧ q.outsideSince - 1 + ms ≤ s1.now then { s1 with pow := { q with outside := true } }
  else if q.insideSince ≠ 0 ∧ q.insideSince - 1 + sec ≤ s1.now then { s1 with pow := { q with outside := false } }
  else s1

/-- k after an update: an eighth of the way to measured / estimated, clamped to 0.5 to 2. -/
def factorStep (k : Rat) (measured est : Nat) : Rat :=
  if est = 0 then k
  else
    let v := k + ((measured : Rat) / est - k) / 8
    if v < 1 / 2 then 1 / 2 else if 2 < v then 2 else v

/-- A rail's 1 ms calibration: its measured values and its factor (R454). -/
def State.calibrate (s : State) (r mv ma mw : Nat) : State :=
  let q := s.rail r
  let est := if q.estN = 0 then 0 else q.estSum / q.estN
  let k := factorStep q.factor mw est
  let run := if est ≠ 0 ∧ (k = 1 / 2 ∨ k = 2) then q.clamped + 1 else if est = 0 then q.clamped else 0
  let s1 := s.setRail r { q with measured := mw, factor := k, estSum := 0, estN := 0, clamped := if run = 100 then 0 else run }
  let s2 := (s1.setNat (Obj.outputVoltage r) (mv % 65536)).setNat (Obj.outputCurrent r) (ma % 2 ^ 32)
  let s3 := s2.setNat Obj.packagePowerMeasured (sumN ((List.range 16).map (fun i => (s2.rail i).measured)) / 1000)
  let s4 := if railDie r < 8 then s3.setNat (Obj.calibrationFactor (railDie r)) (k * 65536).floor.toNat else s3
  (if run = 100 then s4.event (97 * (r / 8) + blRail) 8 r else s4).judgeConditions

/-- RAIL_CALIBRATION (R454). -/
def execRailCalibration (t : Nat) (r : Fin 16) (millivolts milliamps milliwatts : Nat) (s : State) : Res :=
  .next ((s.at t).calibrate r.val millivolts milliamps milliwatts)

/-- A tenant slot's share of an energy: its running weight over the greater of all weights and the load, mJ from µJ. -/
def energyShare (e w all : Nat) : Nat := if all = 0 then 0 else e * w / all / 1000

/-- One measured energy of the interval is divided: what has accumulated in µJ, the fraction carried over, its total (where one is kept), its
remainder object and each slot's object. -/
def State.divide (s : State) (sum rest : Nat) (total : Option Nat) (left : Nat) (mine : Nat → Nat) (all : Nat) : Nat × State :=
  let e := sum + rest
  let mj := e / 1000
  let got := (s.pow.wSum.filter (fun x => !s.pow.opened.contains x.1)).map (fun x => (x.1, energyShare (mj * 1000) x.2 all))
  let s1 := s.forEach got (fun s x => s.count64 (mine x.1) x.2)
  let s2 := match total with
    | some k => s1.count64 k mj
    | none => s1
  (e % 1000, s2.count64 left (mj - sumN (got.map (·.2))))

/-- The module's own energy: what an owner gets is free, no more than is left; the rest is overhead, so that the shares add up (R455). -/
def State.moduleShares (s : State) (mj : Nat) : State :=
  let who := (List.range 64).filter (fun t => s.nat (Obj.tenantState t) = 1 && !s.pow.opened.contains t)
  let step := fun (x : Nat × State) (key : Nat) =>
    let d := x.2.draw
    let v := min x.1 (Config.ownerEnergy key d.1)
    (x.1 - v, d.2.count64 key v)
  let r := (who.map Obj.moduleEnergy ++ [Obj.operatorProgramEnergy]).foldl step (mj, s)
  r.2.count64 Obj.overheadEnergy r.1

/-- The 1 ms interval is closed out. -/
def State.energyInterval (s : State) : State :=
  let p := s.pow
  let all := max (sumN (p.wSum.map (·.2))) p.rackSum.toNat
  let a := s.divide p.rackSum.toNat p.rackRest (some Obj.rackEnergy) Obj.rackUnattributedEnergy Obj.rackEnergyShare all
  let b := a.2.divide p.disSum.toNat p.disRest none Obj.storageDischargeUnattributed Obj.storageDischargeShare all
  let c := b.2.divide p.chgSum.toNat p.chgRest none Obj.storageChargeUnattributed Obj.storageChargeShare all
  let s1 := c.2.moduleShares (p.pkgAcc / 100000)
  let s2 := s1.forEach (List.range 8) (fun s d =>
    let q := s.diePt d
    (s.count64 (Obj.dieEnergy d) (q.acc / 100000)).setDiePt d { q with acc := q.acc % 100000 })
  ({ s2 with pow := { s2.pow with
    rackSum := 0, disSum := 0, chgSum := 0, ticks := 0, wSum := [], opened := []
    rackRest := a.1, disRest := b.1, chgRest := c.1, pkgAcc := p.pkgAcc % 100000 } } : State).judgeConditions

/-- ENERGY_INTERVAL (R455, R456). -/
def execEnergyInterval (t : Nat) (s : State) : Res := .next (s.at t).energyInterval

end Sys2Proof.Machine
end

