-- ==== Sys2Proof/Machine/Thermal.lean ====
section
/-! DEFINITION. The meanings of spec/16_thermal.md: one housekeeping reading with everything it completes, and the relaxing of
thermal floors. -/

namespace Sys2Proof.Machine

/-- A stack fails at run time: its controller's block reacts with Table 9.10 (R289, Table 17.5). -/
def State.stackFault (s : State) (k cls code detail : Nat) : State :=
  if s.nat (Obj.stackState k) = 1 ∨ s.nat (Obj.stackState k) = 2 then s.raise (stackBlock k) cls code detail lvBlock true else s

/-- The limit value that disables a limit. -/
abbrev noLimit : Int := 0x7FFF

/-- What a reading shows: its temperature with the channel's Offset where it has one, and the code of its break by itself (R466). -/
def State.readingOf (s : State) (c : Nat) (r : Reading) : Option Int × Nat :=
  let off := s.num (Obj.offset2E40 c)
  match r with
  | .ntc ohms v => if 1000000 < ohms then (none, 1) else if ohms < 200 then (none, 2) else (some (v + off), 0)
  | .diode mv v => if 850 < mv then (none, 1) else if mv < 250 then (none, 2) else (some (v + off), 0)
  | .onDie v => (some (v + off), 0)
  | .onDieFault => (none, 3)

/-- The reading's kind is the one the channel's SensorType reads. -/
def State.readingFits (s : State) (c : Nat) (r : Reading) : Bool :=
  match r with
  | .ntc _ _ => s.nat (Obj.sensorType c) = 2
  | .diode _ _ => s.nat (Obj.sensorType c) = 1
  | .onDie _ | .onDieFault => s.nat (Obj.sensorType c) = 3

/-- An external channel whose ADCs or housekeeping block is in its safe state reads as broken (Table 17.5). -/
def State.chanDead (s : State) (c : Nat) : Bool :=
  c < 32 && (s.blockSafe (chanHalf c) blAdcs || s.blockSafe (chanHalf c) blHousekeeping)

/-- Values of the valid neighbours of a channel. -/
def State.neighbourValues (s : State) (c : Nat) : List Int :=
  let n := s.nat (Obj.neighbours c)
  ([n % 256, n / 256].filter (fun x => x < 64 && !s.chanUnused x && !s.chanLost x && !(s.chan x).broken && (s.chan x).valid)).map
    (fun x => (s.chan x).value)

/-- Replacement of a broken channel on an S1; none where its cross-check fails, and on an S2 (R467). -/
def State.replacement (s : State) (c : Nat) : Option Int :=
  if s.isS2 then none
  else
    match s.neighbourValues c with
    | [] => none
    | [a] => some a
    | a :: b :: _ => if (s.nat Obj.crossCheckTolerance : Int) < (a - b).natAbs then none else some (max a b)

/-- Dies that a throttle of channel `c` slows (Table 16.2). -/
def State.throttleScope (s : State) (c : Nat) : List Nat :=
  if c < 32 then List.range 8
  else if c < 48 then [(c - 32) / 2]
  else if c < 56 then [c - 48]
  else if c < 60 then (List.range 4).map (· + 4 * ((c - 56) / 2))
  else if s.nat (Obj.role c) = 6 then [] else List.range 8

/-- A throttle applies to a die: its floor moves one point slower, once a round (R470). -/
def State.throttleDie (s : State) (d : Nat) : State :=
  let q := s.diePt d
  let round := s.hall / (4 * ms) + 1
  if q.movedRound = round ∧ q.thermalOn then s.setDiePt d { q with lastThrottle := s.now }
  else
    let f := min 7 ((if q.thermalOn then q.thermalFloor else q.target) + 1)
    (s.setDiePt d { q with thermalOn := true, thermalFloor := f, movedRound := round, lastThrottle := s.now, lastRelax := 0 }).applyPoint d

/-- A throttle applies to a die: a channel's, or that of a low flow (R468, R472). -/
def State.throttled (s : State) (d : Nat) : Bool :=
  s.pow.flowOn || s.pow.chans.any (fun e => e.2.throttle && (s.throttleScope e.1).contains d)

/-- A throttle of dies `l` has ended: until now it applied to them. -/
def State.throttleEnds (s : State) (l : List Nat) : State :=
  s.forEach l (fun s d => s.setDiePt d { s.diePt d with lastThrottle := s.now })

/-- ThermalState of Table 16.6. -/
def State.thermalStateNow (s : State) : Nat :=
  if s.boot.thermalLatch then 3
  else if s.pow.flowOn || s.pow.dies.any (fun e => e.2.thermalOn) || s.pow.chans.any (fun e => e.2.throttle) then 2
  else if s.pow.chans.any (fun e => e.2.warn) then 1
  else 0

/-- Warning and throttle of a value judged on channel `c` (R468). -/
def State.judgeLevels (s : State) (c : Nat) (v : Int) : State :=
  let q := s.chan c
  let hy := s.num (Obj.hysteresis c)
  let w := s.num (Obj.warnLimit c)
  let th := s.num (Obj.throttleLimit c)
  let warn := decide (w ≠ noLimit ∧ (w ≤ v ∨ (q.warn ∧ w - hy ≤ v)))
  let thr := decide (th ≠ noLimit ∧ (th ≤ v ∨ (q.throttle ∧ th - hy ≤ v)))
  let s1 := s.setChan c { q with warn := decide warn, throttle := decide thr }
  let s2 := if warn ∧ !q.warn then s1.event (s1.block blHousekeeping) 8 c else s1
  if thr then s2.forEach (s2.throttleScope c) State.throttleDie
  else if q.throttle then s2.throttleEnds (s2.throttleScope c)
  else s2

/-- The reading counts toward the limit pair, or restarts it; the second acts (R468). -/
def State.judgeLimit (s : State) (c : Nat) (limit : Bool) : State :=
  let q := s.chan c
  let n := if limit then min 3 (q.limitRun + 1) else 0
  let s1 := s.setChan c { q with limitRun := n }
  if n = 2 then
    if 48 ≤ c ∧ c < 56 then s1.stackFault (c - 48) clThermal 8 c else s1.thermalShutdown c
  else s1

/-- A value is judged against all three limits. -/
def State.judgeValue (s : State) (c : Nat) (v : Int) : State :=
  let lim := s.num (Obj.shutdownLimit c)
  (s.judgeLevels c v).judgeLimit c (decide (lim ≠ noLimit ∧ lim ≤ v))

/-- A good reading of a valid channel is its value. -/
def State.goodValue (s : State) (c : Nat) (v : Int) : State :=
  let s1 := (s.setChan c { s.chan c with value := v, valid := true }).setNat (Obj.channelStatus c) 0
  let s2 := (s1.setNum (Obj.temperature c) v).setNum (Obj.maxSeen c) (max (s1.num (Obj.maxSeen c)) v)
  (s2.publish (0x100 + c) v).judgeValue c v

/-- A broken channel at one of its readings: replaced, or treated as reading its ShutdownLimit (R467). -/
def State.brokenValue (s : State) (c : Nat) : State :=
  match s.replacement c with
  | some v => ((s.setNat (Obj.channelStatus c) 4).setNum (Obj.temperature c) v).judgeValue c v
  | none =>
    ((s.setNat (Obj.channelStatus c) (s.chan c).code).setNum (Obj.temperature c) (-32768)).judgeValue c (s.num (Obj.shutdownLimit c))

/-- Break judgement of one reading (R466): its code, 0 for a good one, and the channel's new record. -/
def State.judgeReading (s : State) (c : Nat) (v : Option Int) (code : Nat) : Nat × ChanSt :=
  let q := s.chan c
  let step := match v, q.prev with
    | some a, some b => !q.prevOpen && decide ((s.nat Obj.stepLimit : Int) < (a - b).natAbs)
    | _, _ => false
  let code' := if code ≠ 0 then code else if step then 3 else 0
  (code', { q with
    prev := v, prevOpen := v.isNone
    brokenRun := if code' = 0 then 0 else q.brokenRun + 1
    goodRun := if code' = 0 then q.goodRun + 1 else 0 })

/-- A broken channel has given 16 good readings: it is valid again. -/
def State.mendChan (s : State) (c : Nat) : State :=
  (s.setChan c { s.chan c with broken := false, code := 0, limitRun := 0 }).setNat Obj.brokenChannels
    (setBit (s.nat Obj.brokenChannels) c false)

/-- One reading of a channel that takes part. -/
def State.readChan (s : State) (c : Nat) (r : Reading) : State :=
  let rd := if s.chanDead c then (none, 3) else s.readingOf c r
  let j := s.judgeReading c rd.1 rd.2
  let s1 := s.setChan c j.2
  let s2 := if j.1 ≠ 0 ∧ 2 ≤ j.2.brokenRun ∧ !j.2.broken then s1.breakChan c j.1 else s1
  let s3 := if j.1 = 0 ∧ j.2.broken ∧ 16 ≤ j.2.goodRun then s2.mendChan c else s2
  if (s3.chan c).broken then s3.brokenValue c
  else
    match j.1, rd.1 with
    | 0, some v => s3.goodValue c v
    | _, _ => s3.judgeLimit c (s3.isS2 && decide (s3.num (Obj.shutdownLimit c) ≠ noLimit))

/-! Coolant: R471, R472 -/

/-- Mean of the valid channels of a role, 0.1 °C. -/
def State.roleMean (s : State) (role : Nat) : Option Rat :=
  let l := ((List.range 32).filter (fun c => s.nat (Obj.role c) = role && !s.chanUnused c && !s.chanLost c && !(s.chan c).broken && (s.chan c).valid)).map
    (fun c => (s.chan c).value)
  if l.isEmpty then none else some ((sumI l : Rat) / l.length)

/-- The flow estimate in 0.01 L/min; none where it is unavailable. -/
def State.flowNow (s : State) : Option Nat :=
  let h : Rat := (1116 : Rat) / 1000 * (s.nat Obj.packagePowerEstimate2D00 : Rat)
  match s.roleMean 1, s.roleMean 2 with
  | some ts, some tr =>
    let dk := (tr - ts) / 10
    if h < 300 ∨ dk < 1 then none else some (min 0xFFFE (h * 100 / ((663 : Rat) / 10 * dk)).floor.toNat)
  | _, _ => none

/-- The end of a round: its count, the flow estimate and its throttle. -/
def State.roundEnd (s : State) : State :=
  let f := s.flowNow
  let lim := s.nat Obj.flowLowLimit
  let s1 := (s.count Obj.roundsCompleted).setNat Obj.coolantFlowEstimate (f.getD 0xFFFF)
  let low := match f with
    | some v => decide (v < lim)
    | none => false
  let runs := if low then s1.pow.flowRuns + 1 else 0
  let fine := match f with
    | some v => decide (lim + 10 ≤ v)
    | none => true
  let on := decide (3 ≤ runs) || (s1.pow.flowOn && !fine)
  let s2 := { s1 with pow := { s1.pow with flowRuns := min runs 3, flowOn := on } }
  (if on then s2.forEach (List.range 8) State.throttleDie
    else if s1.pow.flowOn then s2.throttleEnds (List.range 8)
    else s2).judgeConditions

/-- The channel read last in a round: local number 31 of half A, or of half B where A is lost (R464). -/
def State.lastChan (s : State) : Nat := if s.lost 0 || s.reacted 0 then 63 else 61

/-- One housekeeping reading. -/
def State.housekeeping (s : State) (c : Nat) (r : Reading) : State :=
  if s.mode = .off ∨ s.mode = .ship ∨ s.boot.inReset then s
  else
    let s1 := if s.chanUnused c || s.chanLost c || !s.readingFits c r then s else s.readChan c r
    let s2 := if c = s1.lastChan then s1.roundEnd else s1
    s2.setNat Obj.thermalState2E00 s2.thermalStateNow

/-- HOUSEKEEPING_READING (R464 to R473). -/
def execHousekeepingReading (t : Nat) (c : Fin 64) (r : Reading) (s : State) : Res := .next ((s.at t).housekeeping c.val r)

/-- No throttle has applied for ThrottleRelax: the floor moves one point faster (R470). -/
def State.relaxDie (s : State) (d : Nat) : State :=
  let q := s.diePt d
  if q.thermalOn ∧ !s.throttled d ∧ max q.lastThrottle q.lastRelax + s.nat Obj.throttleRelax * 1000 ≤ s.now then
    let f := q.thermalFloor - 1
    let s1 := (s.setDiePt d { q with thermalFloor := f, thermalOn := decide (f ≠ 0), lastRelax := s.now }).applyPoint d
    s1.setNat Obj.thermalState2E00 s1.thermalStateNow
  else s

/-- THROTTLE_RELAX (R470). -/
def execThrottleRelax (t : Nat) (d : Fin 8) (s : State) : Res := .next ((s.at t).relaxDie d.val)

end Sys2Proof.Machine
end

