-- ==== Sys2Proof/Machine/Faults.lean ====
section
/-! DEFINITION. The meanings of spec/17_faults.md that act on one block: acknowledging, tests, return to service, test pulses. -/

namespace Sys2Proof.Machine

/-- Acknowledge written: abort code and effect (R482). -/
def State.ackWrite (s : State) (b v : Nat) : Nat × State := if v ≠ 1 then (abValue, s) else (0, s.ackBlock b)

/-- AcknowledgeAll written (R482). -/
def State.ackAll (s : State) (v : Nat) : Nat × State :=
  if v ≠ 1 then (abValue, s)
  else (0, s.forEach ((List.range 194).filter (fun b => s.nat (Obj.unacknowledged b) ≠ 0)) State.ackBlock)

/-- Blocks whose row of Table 17.5 names BlockCommand 1. -/
def commandNamed (b : Nat) : Bool :=
  let l := b % 97
  if l < 21 then [1, 2, 3, 4, 5, 7, 8, 9, 11, 12, 13, 14, 15, 18].contains l
  else (l - 21) % 19 = 16 || (l - 21) % 19 = 18

/-- Blocks whose row names it in Standby or Ready only. -/
def commandIdle (b : Nat) : Bool := [1, 2, 3, 9].contains (b % 97)

/-- BlockCommand written: abort code and effect (R486, R580). -/
def State.blockCommand (s : State) (b v : Nat) : Nat × State :=
  if v ≠ 1 then (abValue, s)
  else if !commandNamed b || s.nat (Obj.blockState b) ≠ 2 ||
      (commandIdle b && s.mode != .standby && s.mode != .ready) then (abState, s)
  else
    let s1 := (s.setNat (Obj.blockState b) 4).setNat (Obj.blockCommand b) 1
    (0, { s1 with flt := { s1.flt with tests := smPut s1.flt.tests b (s1.now + 1) } })

/-- The lanes a port group runs train again (Table 17.5a). -/
def State.retrainGroup (s : State) (h l : Nat) : State :=
  s.forEach ((List.range 52).filter (fun n => s.laneDie n = h && 11 + portGroup n = l && s.laneState n = 0)) (fun s n =>
    s.laneStart n)

/-- What the return of local block `l` of half `h` brings with it. -/
def State.blockReturn (s : State) (h l : Nat) : State :=
  if l = blRing1 then s.ringRestart 0
  else if l = blRing1 + 1 then s.ringRestart 1
  else if blTray0 ≤ l ∧ l < blPool then s.retrainGroup h l
  else if 21 ≤ l then
    let d := 4 * h + (l - 21) / 19
    if (l - 21) % 19 = 16 then
      let s1 := s.forEach ((List.range 16).map (· + 16 * d)) (fun s g =>
        if (s.arr g).power = 5 then ((s.setPower g 0).setNat (Obj.blockState (arrayBlock g)) 1).rechoose g else s)
      s1.retryReplacements
    else if (l - 21) % 19 = 18 then s.retryReplacements
    else s
  else s

/-- The test of a block ends: it returns to service, or stays in its safe state with a new fault (R580). -/
def State.testComplete (s : State) (b : Nat) (pass : Bool) : State :=
  if s.nat (Obj.blockState b) ≠ 4 then s
  else
    let fin := fun (s : State) =>
      ({ s with flt := { s.flt with tests := smErase s.flt.tests b } } : State).setNat (Obj.blockCommand b) 0
    if pass then ((fin (s.setNat (Obj.blockState b) 1)).openRecovery sec).blockReturn (b / 97) (b % 97)
    else fin ((s.setNat (Obj.blockState b) 2).raise b clComputation 4 0 lvBlock)

/-- BLOCK_TEST_COMPLETE (R580). -/
def execBlockTestComplete (t : Nat) (b : Fin 194) (pass : Bool) (s : State) : Res := .next ((s.at t).testComplete b.val pass)

/-- A test pulse on a block's interrupt line: without an echo, a class 8 fault puts the block in its safe state (R487). -/
def State.testPulse (s : State) (b : Nat) (echoed : Bool) : State :=
  if echoed ∨ s.nat (Obj.blockState b) ≠ 1 then s else s.raise b clStatus 10 0 lvBlock true

/-- INTERRUPT_TEST_PULSE (R487). -/
def execInterruptTestPulse (t : Nat) (b : Fin 194) (echoed : Bool) (s : State) : Res := .next ((s.at t).testPulse b.val echoed)

end Sys2Proof.Machine
end

