-- ==== Sys2Proof/Machine/Pecan.lean ====
section
/-! DEFINITION. The meanings of spec/06_pecan_arrays.md that act on a whole array, a die link or a die: power states, self-tests, faults,
scrubbing, halting. -/

namespace Sys2Proof.Machine

/-! Faults of an array: R195 to R198 -/

/-- Class of an array's fault by its LastFault code (Tables 6.16 and 17.4). -/
def arrayClass (cause : Nat) : Nat :=
  if cause = 2 ∨ cause = 3 then clComputation else if cause = 8 then clCommunication else if cause = 9 then clPower else clStorage

/-- An array is faulted for a cause of Table 6.16: its block takes the safe state that R198 describes. -/
def State.arrayFault (s : State) (g cause : Nat) : State :=
  let p := (s.arr g).power
  if p = 5 ∨ p = 6 ∨ cause = 0 ∨ 9 < cause ∨ s.nat (Obj.dieState (dieOf g)) ≠ 1 then s
  else (s.setNat (Obj.lastFault g) cause).raise (arrayBlock g) (arrayClass cause) cause g lvBlock true

/-- ARRAY_FAULT (R198). -/
def execArrayFault (t : Nat) (g : Fin 128) (cause : Nat) (s : State) : Res := .next ((s.at t).arrayFault g.val cause)

/-- The test of ArrayCommand 1 ends (R580). -/
def State.arrayTestDone (s : State) (g : Nat) (pass : Bool) : State :=
  let s0 := (s.setArr g { s.arr g with testSince := none }).setNat (Obj.arrayCommand g) 0
  if pass then
    let s1 := ((s0.setPower g 0).setNat (Obj.blockState (arrayBlock g)) 1).openRecovery sec
    ((s1.setArr g { s1.arr g with lastSelfTest := s1.now }).rechoose g).retryReplacements
  else
    ((s0.setNat (Obj.blockState (arrayBlock g)) 2).setNat (Obj.lastFault g) 3).raise (arrayBlock g) clComputation 3 g lvBlock

/-- A self-test ends: the regular one of an Active array, or the one behind ArrayCommand 1. -/
def State.selfTest (s : State) (g : Nat) (pass : Bool) : State :=
  let a := s.arr g
  if a.testSince.isSome then s.arrayTestDone g pass
  else if a.power = 0 ∧ s.nat (Obj.dieState (dieOf g)) = 1 then
    if pass then s.setArr g { a with lastSelfTest := s.now } else s.arrayFault g 3
  else s

/-- ARRAY_SELF_TEST (R196). -/
def execArraySelfTest (t : Nat) (g : Fin 128) (pass : Bool) (s : State) : Res := .next ((s.at t).selfTest g.val pass)

/-- ArrayCommand written: abort code and effect (R201, R580). Command 2 leaves the array faulted without a fault (DESIGN CHOICE, log entry
52). -/
def State.arrayCmd (s : State) (g v : Nat) : Nat × State :=
  let p := (s.arr g).power
  match v with
  | 1 =>
    if p ≠ 5 ∨ s.lost (g / 64) ∨ s.reacted (g / 64) ∨ s.nat (Obj.dieState (dieOf g)) ≠ 1 then (abState, s)
    else
      let s1 := s.setArr g { s.arr g with testSince := some s.now }
      (0, (s1.setNat (Obj.arrayCommand g) 1).setNat (Obj.blockState (arrayBlock g)) 4)
  | 2 =>
    if p = 5 ∨ p = 6 then (0, s)
    else (0, ((s.arrayOut g 5).setNat (Obj.blockState (arrayBlock g)) 2).runReplacements)
  | _ => (abValue, s)

/-! Power states: R190 to R194 -/

/-- The scheduled time of a wake has come. -/
def State.wakeStart (s : State) (g : Nat) : State :=
  let a := s.arr g
  match a.wakeAt with
  | some t => if t ≤ s.now ∧ 1 ≤ a.power ∧ a.power ≤ 3 ∧ a.entering = 0 then s.startWake g else s
  | none => s

/-- ARRAY_WAKE_START (R192). -/
def execArrayWakeStart (t : Nat) (g : Fin 128) (s : State) : Res := .next ((s.at t).wakeStart g.val)

/-- What a wake brings back: from Nap the tables and the CCR, from Sleep a store and tables of zeros and a CCR that nothing
has loaded (R191, R206). -/
def State.wakeContents (s : State) (g : Nat) : State :=
  let a := s.arr g
  if a.wakeFrom = 2 then s.setArr g { a with tables := a.savedTables, ccr := a.savedCcr }
  else if a.wakeFrom = 3 then
    let d := s.draw
    let k := d.1
    d.2.setArr g { a with
      store := [], poison := [], tables := [], tableSrc := [], tableOwner := []
      ccr := (List.range 8).map (fun e => Config.ccrEntry k e % 65536) }
  else s

/-- A wake completes; from Nap and Sleep its self-test has run. -/
def State.wakeDone (s : State) (g : Nat) (pass : Bool) : State :=
  let a := s.arr g
  if a.power = 4 ∧ a.wakeDone ≤ s.now then
    let s1 := s.wakeContents g
    if pass || a.wakeFrom ≤ 1 then
      let s2 := s1.setPower g 0
      let s3 := if 2 ≤ a.wakeFrom then s2.setArr g { s2.arr g with lastSelfTest := s2.now } else s2
      if a.demand then s3 else s3.rechoose g
    else s1.arrayFault g 3
  else s

/-- ARRAY_WAKE_DONE (R191). -/
def execArrayWakeDone (t : Nat) (g : Fin 128) (pass : Bool) (s : State) : Res := .next ((s.at t).wakeDone g.val pass)

/-- An entry to a power state completes; a demand or a scheduled time that has passed starts the wake (R194). -/
def State.entryComplete (s : State) (g : Nat) : State :=
  let a := s.arr g
  if a.entering ≠ 0 ∧ a.entryDone ≤ s.now ∧ a.power ≤ 3 then
    let c := a.entering
    let s1 := s.setPower g c
    let b := s1.arr g
    let b1 := { b with entering := 0 }
    let b2 := if c = 2 then { b1 with savedTables := b.tables, savedCcr := b.ccr }
      else if c = 3 then { b1 with store := [], poison := [] } else b1
    let s2 := s1.setArr g b2
    if b.demand || (match b.wakeAt with
      | some t => decide (t ≤ s2.now)
      | none => false) then s2.startWake g else s2
  else s

/-- POWER_STATE_ENTRY_COMPLETE (R194). -/
def execPowerStateEntryComplete (t : Nat) (g : Fin 128) (s : State) : Res := .next ((s.at t).entryComplete g.val)

/-! Scrubbing: R195, R197 -/

/-- Errors of the last second, with one more. -/
def recentSec (l : List Nat) (now : Nat) : List Nat := (now :: l).filter (fun t => decide (now < t + sec))

/-- An uncorrectable store error: the line is poisoned, and the fourth in 1 s faults the array. -/
def State.lineBad (s : State) (g line : Nat) : State :=
  let a := s.arr g
  let l := recentSec a.errTimes s.now
  let s1 := (s.setArr g { a with poison := smPut a.poison line true, errTimes := l }).count (Obj.uncorrectedErrors g)
  let s2 := s1.raise (arrayBlock g) clStorage 2 line lvBlock
  if 4 ≤ l.length then s2.arrayFault g 4 else s2

/-- One line read by the scrubber with the errors it shows: 0, 1 corrected, 2 uncorrectable. -/
def State.scrubLine (s : State) (g : Nat) (bundle : Bool) (line errors : Nat) : State :=
  let p := (s.arr g).power
  if p = 3 ∨ p = 5 ∨ p = 6 ∨ s.nat (Obj.dieState (dieOf g)) ≠ 1 then s
  else if errors = 1 then s.count (Obj.correctedErrors2480 g)
  else if errors = 2 then
    if bundle then (s.count (Obj.uncorrectedErrors g)).arrayFault g 7
    else if line < 65536 then s.lineBad g line else s
  else s

/-- ARRAY_STORE_SCRUB (R195). -/
def execArrayStoreScrub (t : Nat) (g : Fin 128) (bundle : Bool) (line : Nat) (errors : Fin 3) (s : State) : Res :=
  .next ((s.at t).scrubLine g.val bundle line errors.val)

/-- A table equals its store copy. -/
def ArrSt.tableMatches (a : ArrSt) (t line : Nat) : Bool :=
  (List.range 256).all (fun i =>
    let l := a.line (line + i)
    (List.range 16).all (fun j => a.tableAt t (16 * i + j) = leNat (slice l (4 * j) 4)))

/-- The 1 ms comparison of every table with its store copy, after an upset of an entry. -/
def State.tableCompare (s : State) (g : Nat) (upset : Option (Nat × Nat)) : State :=
  let a := s.arr g
  if a.power = 0 ∨ a.power = 1 then
    let b := match upset with
      | some (e, v) => { a with tables := smPut a.tables (e % 16384) (v % 2 ^ 32) }
      | none => a
    let s1 := s.setArr g b
    if b.tableSrc.all (fun e => b.tableMatches e.1 e.2) then s1 else s1.arrayFault g 6
  else s

/-- LOOKUP_TABLE_COMPARE (R195). -/
def execLookupTableCompare (t : Nat) (g : Fin 128) (upset : Option (Nat × Nat)) (s : State) : Res :=
  .next ((s.at t).tableCompare g.val upset)

/-! Die links: R185 -/

/-- A die link that is up goes down after eight failed retries. -/
def State.linkFails (s : State) (d : Nat) : State :=
  if s.nat (Obj.eastLinkState d) = 1 then (s.count (Obj.eastLinkRetries d) 8).dieLinkFault d else s

/-- DIE_LINK_DOWN (R185). -/
def execDieLinkDown (t : Nat) (d : Fin 7) (s : State) : Res := .next ((s.at t).linkFails d.val)

/-- A down link is retrained each second. -/
def State.linkRetrain (s : State) (d : Nat) (up : Bool) : State :=
  match s.pecan.linkDown.find? (fun e => e.1 = d) with
  | none => s
  | some e =>
    if e.2 - 1 + sec ≤ s.now then
      { s with pecan := { s.pecan with
        linkDown := smPut s.pecan.linkDown d (s.now + 1)
        linkUp := if up then (if s.pecan.linkUp.any (fun e => e.1 = d) then s.pecan.linkUp else smPut s.pecan.linkUp d (s.now + 1))
          else smErase s.pecan.linkUp d } }
    else s

/-- DIE_LINK_RETRAIN (R185). -/
def execDieLinkRetrain (t : Nat) (d : Fin 7) (up : Bool) (s : State) : Res := .next ((s.at t).linkRetrain d.val up)

/-- A retrained link has stayed up for 1 s. -/
def State.linkRestored (s : State) (d : Nat) : State :=
  match s.pecan.linkUp.find? (fun e => e.1 = d) with
  | none => s
  | some e => if e.2 - 1 + sec ≤ s.now then s.dieLinkBack d else s

/-- DIE_LINK_RESTORED (R185). -/
def execDieLinkRestored (t : Nat) (d : Fin 7) (s : State) : Res := .next ((s.at t).linkRestored d.val)

/-! Halting: R564 -/

/-- A J12 session of service level or above halts a die. -/
def State.haltDie (s : State) (d : Nat) : State :=
  if (smGet (fun _ => {}) s.dict.sessions 0 : Session).level ≠ 0 then
    { s with pecan := { s.pecan with halted := smPut s.pecan.halted d true } }
  else s

/-- DIE_HALT (R564). -/
def execDieHalt (t : Nat) (d : Fin 8) (s : State) : Res := .next ((s.at t).haltDie d.val)

end Sys2Proof.Machine
end

