-- ==== Sys2Proof/Machine/Sequencer.lean ====
section
/-! DEFINITION. The sequencer of an array and the operations of the S slot (R233 to R235, Table 8.6). Each slot operation of a bundle is
a command of its own; the S slot's, sent last, moves the part on to its next bundle (log entry 53). -/

namespace Sys2Proof.Machine

/-! Registers and their readiness -/

/-- Scalar register `i`; S0 reads zero (R234). -/
def ArrSt.sreg (a : ArrSt) (i : Nat) : Nat := if i = 0 then 0 else smGet (fun _ => 0) a.sregs i
/-- Write a scalar register; writes to S0 are discarded. -/
def ArrSt.setS (a : ArrSt) (i v : Nat) : ArrSt := if i = 0 then a else { a with sregs := smSet (fun _ => 0) a.sregs i (v % 2 ^ 32) }

/-- What becomes ready in register `k` after `lat` cycles (R235). -/
def ArrSt.busy (a : ArrSt) (k lat : Nat) : ArrSt := { a with ready := smSet (fun _ => 0) a.ready k (a.cyc + lat) }
/-- Cycle at which register `k` is ready. -/
def ArrSt.readyAt (a : ArrSt) (k : Nat) : Nat := smGet (fun _ => 0) a.ready k

/-- Keys of readiness: vectors, tables, edge sums, OS sums, exponent buffers, lookups. -/
abbrev rkV (v : Nat) : Nat := 16 + v
abbrev rkT (t : Nat) : Nat := 64 + t
abbrev rkEdge : Nat := 68
abbrev rkOs : Nat := 69
abbrev rkExp (north : Bool) : Nat := if north then 71 else 70
abbrev rkLook (t : Nat) : Nat := 72 + t

/-- Flags raised by a part: kept with it, and in its array's record (R226, Table 8.10). -/
def State.raiseFlags (s : State) (g : Nat) (r : PartRef) (fl : Nat) : State :=
  if fl = 0 then s
  else (s.updPart r (fun q => { q with flags := q.flags ||| fl })).setNat (Obj.arithmeticFlags g) (s.nat (Obj.arithmeticFlags g) ||| fl)

/-- One slot operation on array `g`: it waits for the registers it reads, then acts; an error names the reason that stops the program
(R235, R239, R197). Nothing happens where no part runs, where a WAITF waits, or past the part's bound. -/
def State.slotOp (s : State) (g : Nat) (reads : List Nat) (f : ArrSt → PartSt → Except Nat (ArrSt × Nat)) : State :=
  match s.curPart g with
  | none => s
  | some (r, q) =>
    let a := s.arr g
    if a.waitf.isSome ∨ q.decl.declared ≤ a.cyc then s
    else
      let c := reads.foldl (fun m k => max m (a.readyAt k)) a.cyc
      let a1 := { a with cyc := c }
      if q.decl.declared ≤ c then s.setArr g a1
      else
        match f a1 q with
        | .error e => (s.setArr g a1).stopNow r.handle e pgStopped
        | .ok x => (s.setArr g x.1).raiseFlags g r x.2

/-- A slot operation that can neither stop the part nor raise a flag. -/
def State.slotPure (s : State) (g : Nat) (reads : List Nat) (f : ArrSt → ArrSt) : State := s.slotOp g reads (fun a _ => .ok (f a, 0))

/-! Moving on -/

/-- The bundle after bundle `pc`, with the loops that end there (R235, LOOP). -/
def nextPc : List LoopFrame → Nat → List LoopFrame × Nat
  | [], pc => ([], pc + 1)
  | f :: r, pc =>
    if f.last = pc then (if 1 < f.left then ({ f with left := f.left - 1 } :: r, f.first) else nextPc r pc)
    else (f :: r, pc + 1)

/-- The part goes on to its next bundle; `n` cycles more than one pass. -/
def ArrSt.advance (a : ArrSt) (n : Nat := 0) : ArrSt :=
  let x := nextPc a.loops a.pc
  { a with loops := x.1, pc := x.2, cyc := a.cyc + 1 + n }

/-- A taken branch costs one extra cycle. -/
def ArrSt.branch (a : ArrSt) (target : Nat) : ArrSt := { a with pc := target, cyc := a.cyc + 2 }

/-- A branch on a condition. -/
def ArrSt.branchIf (a : ArrSt) (c : Bool) (target : Nat) : ArrSt := if c then a.branch target else a.advance

/-- A scalar operation on one or two registers: its result in d, then the next bundle. -/
def State.scalarOp (s : State) (g : Nat) (reads : List Nat) (d : Nat) (f : ArrSt → Flagged Nat) : State :=
  s.slotOp g reads (fun a _ => let v := f a; .ok (((a.setS d v.1).busy d 1).advance, v.2))

/-! Store lines of a part: R239, R197 -/

/-- `n` lines of the part from its line `rel`: their bytes, or the code that stops the part. -/
def ArrSt.partLines (a : ArrSt) (q : PartSt) (rel n : Nat) : Except Nat (List (List Nat)) :=
  if q.decl.storeLines < rel + n then .error 0x7A
  else
    let ls := (List.range n).map (fun i => q.base + rel + i)
    if ls.any (fun l => smGet (fun _ => false) a.poison l) then .error 0x7B else .ok (ls.map a.line)

/-- Write whole lines of the part from its line `rel` on. -/
def ArrSt.putLines (a : ArrSt) (q : PartSt) (rel : Nat) (ls : List (List Nat)) : Except Nat ArrSt :=
  if q.decl.storeLines < rel + ls.length then .error 0x7A
  else .ok (ls.zipIdx.foldl (fun a x => a.setLine (q.base + rel + x.2) x.1) a)

/-- Write bytes of one line of the part from byte `b` on, keeping the others and the line's poison. -/
def ArrSt.putBytes (a : ArrSt) (q : PartSt) (rel b : Nat) (v : List Nat) : Except Nat ArrSt :=
  if q.decl.storeLines ≤ rel then .error 0x7A
  else
    let l := q.base + rel
    let old := a.line l
    .ok { a with store := smSet (fun _ => List.replicate 64 0) a.store l (old.take b ++ v ++ old.drop (b + v.length)) }

/-! S-slot operations: Table 8.6 -/

/-- NOP in a slot; in the S slot the part goes on. -/
def State.nop (s : State) (g slot : Nat) : State := s.slotPure g [] (fun a => if slot = 0 then a.advance else a)

/-- NOP (R233). -/
def execSNop (g : Fin 128) (slot : Fin 4) (s : State) : Res := .next (s.nop g.val slot.val)

/-- Sign extension of imm16. -/
def sext16 (imm : Nat) : Int := toSigned 16 imm

/-- ADDI (R235). -/
def execSAddi (g : Fin 128) (d a : Fin 16) (imm : Nat) (s : State) : Res :=
  .next (s.scalarOp g.val [a.val] d.val (fun x => (u32 (s32 (x.sreg a.val) + sext16 imm), 0)))

/-- A two-register scalar operation. -/
def State.scalar2 (s : State) (g d a b : Nat) (f : Nat → Nat → Nat) : State :=
  s.scalarOp g [a, b] d (fun x => (f (x.sreg a) (x.sreg b), 0))

/-- ADD (R235). -/
def execSAdd (g : Fin 128) (d a b : Fin 16) (s : State) : Res := .next (s.scalar2 g.val d.val a.val b.val (fun x y => u32 (s32 x + s32 y)))
/-- SUB (R235). -/
def execSSub (g : Fin 128) (d a b : Fin 16) (s : State) : Res := .next (s.scalar2 g.val d.val a.val b.val (fun x y => u32 (s32 x - s32 y)))
/-- AND (R235). -/
def execSAnd (g : Fin 128) (d a b : Fin 16) (s : State) : Res := .next (s.scalar2 g.val d.val a.val b.val (fun x y => x &&& y))
/-- OR (R235). -/
def execSOr (g : Fin 128) (d a b : Fin 16) (s : State) : Res := .next (s.scalar2 g.val d.val a.val b.val (fun x y => x ||| y))
/-- XOR (R235). -/
def execSXor (g : Fin 128) (d a b : Fin 16) (s : State) : Res := .next (s.scalar2 g.val d.val a.val b.val (fun x y => x ^^^ y))

/-- ANDI, imm16 zero-extended (R235). -/
def execSAndi (g : Fin 128) (d a : Fin 16) (imm : Nat) (s : State) : Res :=
  .next (s.scalarOp g.val [a.val] d.val (fun x => (x.sreg a.val &&& (imm % 65536), 0)))

/-- SHL: the low 32 bits (R235). -/
def execSShl (g : Fin 128) (d a : Fin 16) (amount : Fin 32) (s : State) : Res :=
  .next (s.scalarOp g.val [a.val] d.val (fun x => (x.sreg a.val * 2 ^ amount.val % 2 ^ 32, 0)))

/-- SHR: arithmetic, rounding as R220 (R235). -/
def execSShr (g : Fin 128) (d a : Fin 16) (amount : Fin 32) (s : State) : Res :=
  .next (s.scalarOp g.val [a.val] d.val (fun x => fxShr (x.sreg a.val) amount.val))

/-- MOVHI (R235). -/
def execSMovhi (g : Fin 128) (d : Fin 16) (imm : Nat) (s : State) : Res :=
  .next (s.scalarOp g.val [d.val] d.val (fun x => (imm % 65536 * 65536 + x.sreg d.val % 65536, 0)))

/-- LOOP: repeat the bundles from the next up to `target` Sa times. -/
def ArrSt.loop (x : ArrSt) (a target : Nat) : ArrSt :=
  let n := x.sreg a
  if n = 0 then { x with pc := target + 1, cyc := x.cyc + 1 }
  else { x with loops := { first := x.pc + 1, last := target, left := n } :: x.loops, pc := x.pc + 1, cyc := x.cyc + 1 }

/-- LOOP (R235). -/
def execSLoop (g : Fin 128) (a : Fin 16) (target : Nat) (s : State) : Res :=
  .next (s.slotPure g.val [a.val] (fun x => x.loop a.val target))

/-- BR (R235). -/
def execSBr (g : Fin 128) (target : Nat) (s : State) : Res := .next (s.slotPure g.val [] (fun x => x.branch target))

/-- BRZ (R235). -/
def execSBrz (g : Fin 128) (a : Fin 16) (target : Nat) (s : State) : Res :=
  .next (s.slotPure g.val [a.val] (fun x => x.branchIf (decide (x.sreg a.val = 0)) target))

/-- BRNZ (R235). -/
def execSBrnz (g : Fin 128) (a : Fin 16) (target : Nat) (s : State) : Res :=
  .next (s.slotPure g.val [a.val] (fun x => x.branchIf (decide (x.sreg a.val ≠ 0)) target))

/-- BRLT, signed (R235). -/
def execSBrlt (g : Fin 128) (a b : Fin 16) (target : Nat) (s : State) : Res :=
  .next (s.slotPure g.val [a.val, b.val] (fun x => x.branchIf (decide (s32 (x.sreg a.val) < s32 (x.sreg b.val))) target))

/-- SKIP: the next bundle issues n + 1 cycles after this one (R235). -/
def execSSkip (g : Fin 128) (n : Nat) (s : State) : Res := .next (s.slotPure g.val [] (fun x => x.advance (n % 4096)))

/-- WAITF: go on where bytes 0 to 7 of line Sa are at least Sb, else wait. -/
def ArrSt.waitFlag (x : ArrSt) (q : PartSt) (a b : Nat) : Except Nat (ArrSt × Nat) :=
  match x.partLines q (x.sreg a) 1 with
  | .error e => .error e
  | .ok ls =>
    if x.sreg b ≤ leNat ((ls.headD []).take 8) then .ok (x.advance, 0)
    else .ok ({ x with waitf := some (q.base + x.sreg a, x.sreg b) }, 0)

/-- WAITF (R235). -/
def execSWaitf (g : Fin 128) (a b : Fin 16) (s : State) : Res := .next (s.slotOp g.val [a.val, b.val] (fun x q => x.waitFlag q a.val b.val))

/-- The word that a WAITF waits for has reached its value: the part resumes. -/
def State.waitDone (s : State) (g : Nat) : State :=
  match s.curPart g, (s.arr g).waitf with
  | some _, some w =>
    let a := s.arr g
    if w.2 ≤ leNat ((a.line w.1).take 8) then s.setArr g ({ a with waitf := none } : ArrSt).advance else s
  | _, _ => s

/-- WAITF_SATISFIED (R235). -/
def execSWaitfSatisfied (g : Fin 128) (s : State) : Res := .next (s.waitDone g.val)

/-- Dies that a program's parts run on. -/
def ProgSt.dies (p : ProgSt) : List Nat := (p.parts.map (fun q => dieOf q.array)).eraseDups

/-- The tick period of a program: that of its slowest die, µs (R187, R188). -/
def State.progPeriod (s : State) (h : Nat) : Nat := ((s.prog h).dies.map (fun d => s.nat (Obj.fastTickPeriod d))).foldl max 1

/-- The value of a selector of Table 8.10; one that the table does not list reads a free value. -/
def State.sysValue (s : State) (g sel : Nat) (r : PartRef) (q : PartSt) : Nat :=
  let p := s.prog r.handle
  let a := s.arr g
  let sats := fun o => sumN ((List.range 32).map (fun i =>
    if (smGet (fun k => if a.eSeed = 0 then {} else Config.edgeSum (a.eSeed - 1) k) a.edge (o + i)).sat then 2 ^ i else 0))
  match sel with
  | 0 => q.flags
  | 1 => p.ticks % 2 ^ 32
  | 2 => p.startTime % 2 ^ 32
  | 3 => p.startTime / 2 ^ 32 % 2 ^ 32
  | 4 => q.idx
  | 5 => p.placements
  | 6 => s.progPeriod r.handle
  | 7 => s.nat (Obj.operatingPoint (dieOf g))
  | 8 => match p.run with
    | some x => x.coalesced
    | none => 0
  | 9 => toPattern 16 a.edgeX * 65536
  | 10 => sats 0
  | 11 => sats 32
  | 12 => q.slices
  | 13 => if q.copyB then 1 else 0
  | _ => Config.number s.freeCtr % 2 ^ 32

/-- RDSYS: it waits for the edge sums where it reads them. -/
def State.readSys (s : State) (g d sel : Nat) : State :=
  match s.curPart g with
  | none => s
  | some (r, q) =>
    let v := s.sysValue g sel r q
    let s1 := if 13 < sel then s.draw.2 else s
    s1.scalarOp g (if sel = 9 ∨ sel = 10 ∨ sel = 11 then [rkEdge] else []) d (fun _ => (v, 0))

/-- RDSYS (R235). -/
def execSRdsys (g : Fin 128) (d : Fin 16) (sel : Nat) (s : State) : Res := .next (s.readSys g.val d.val sel)

/-- PHASE: the part enters phase n (R235, R447). -/
def State.enterPhase (s : State) (g n : Nat) : State :=
  match s.curPart g with
  | none => s
  | some (r, q) =>
    let a := s.arr g
    if a.waitf.isSome ∨ q.decl.declared ≤ a.cyc then s
    else (s.updPart r (fun q => { q with phase := n })).slotPure g [] (fun x => x.advance)

/-- PHASE (R235). -/
def execSPhase (g : Fin 128) (n : Fin 8) (s : State) : Res := .next (s.enterPhase g.val n.val)

end Sys2Proof.Machine
end

