-- ==== Sys2Proof/Machine/Edge.lean ====
section
/-! DEFINITION. The operations of the A slot: cells, edges and their accumulators (Table 8.7, R169 to R174, R211 to R217). -/

namespace Sys2Proof.Machine

/-! What the cells and edges hold -/

/-- Active weight slot of cell `k` = row * 64 + column. -/
def ArrSt.weight (a : ArrSt) (k : Nat) : List CellOp :=
  smGet (fun k => if a.wSeed = 0 then [] else Config.cellWeight (a.wSeed - 1) k) a.weights k
/-- Partial sum of cell `k`. -/
def ArrSt.cellSum (a : ArrSt) (k : Nat) : PSum := smGet (fun k => if a.pSeed = 0 then {} else Config.cellSum (a.pSeed - 1) k) a.psum k
/-- Edge accumulator of column `j`. -/
def ArrSt.edgeAt (a : ArrSt) (j : Nat) : PSum := smGet (fun k => if a.eSeed = 0 then {} else Config.edgeSum (a.eSeed - 1) k) a.edge j

/-- Exponent buffer entry of an edge, modulo 256. -/
def ArrSt.expAt (a : ArrSt) (north : Bool) (e : Nat) : Nat := smGet (fun _ => 0) (if north then a.expN else a.expW) (e % 256)

/-- Slot `i` of a 64-byte line entering an edge in format `f` under reference `eref`, its exponents from entry `e` on: one element in
GL8 and GL6, two in GL4 with the high nibble first (R169, R211). -/
def ArrSt.slotOps (a : ArrSt) (north : Bool) (eref : Int) (e : Nat) (line : List Nat) (i : Nat) : Flagged (List CellOp) :=
  let b := listGet 0 line i
  if a.fmt = 2 then
    let x := a.expAt north (e + i / 16)
    let hi := rebase 2 eref (b / 16) x
    let lo := rebase 2 eref (b % 16) x
    ([hi.1, lo.1], hi.2 ||| lo.2)
  else
    let r := rebase a.fmt eref (if a.fmt = 1 then b % 64 else b) (a.expAt north (e + i / 32))
    ([r.1], r.2)

/-- The 64 slots of a line. -/
def ArrSt.lineOps (a : ArrSt) (north : Bool) (eref : Int) (e : Nat) (line : List Nat) : Flagged (List (List CellOp)) :=
  let l := (List.range 64).map (a.slotOps north eref e line)
  (l.map (·.1), l.foldl (fun x y => x ||| y.2) 0)

/-- Entries that a line's exponents take. -/
def ArrSt.expStep (a : ArrSt) : Nat := if a.fmt = 2 then 4 else 2

/-! SETMODE, SETREF -/

/-- SETMODE (R172, R212). -/
def execSetmode (g : Fin 128) (os : Bool) (fmt : Fin 3) (f : Fin 64) (add : Bool) (s : State) : Res :=
  .next (s.slotPure g.val [] (fun a => { a with os := os, fmt := fmt.val, frame := f.val, accAdd := add }))

/-- SETREF (R211). -/
def execSetref (g : Fin 128) (north : Bool) (r : Fin 16) (s : State) : Res :=
  .next (s.slotPure g.val [r.val] (fun a =>
    if north then { a with refN := s32 (a.sreg r.val) } else { a with refW := s32 (a.sreg r.val) }))

/-! Weight-stationary: TILELOAD, WSVEC -/

/-- The shadow tile takes the place of the active one where it is complete at cycle `c` (R173). -/
def ArrSt.swapTile (a : ArrSt) (c : Nat) : ArrSt :=
  match a.shadow with
  | some t => if t.completeAt ≤ c then { a with weights := t.cells, weightRef := t.ref, wSeed := 0, shadow := none } else a
  | none => a

/-- TILELOAD: 64 lines into the shadow weights, complete 66 cycles after issue. -/
def ArrSt.loadTile (x : ArrSt) (q : PartSt) (a offset e : Nat) : Except Nat (ArrSt × Nat) :=
  match x.partLines q ((x.sreg a + offset) % 2 ^ 32) 64 with
  | .error c => .error c
  | .ok ls =>
    let rows := ls.zipIdx.map (fun l => x.lineOps true x.refN (e + x.expStep * l.2) l.1)
    let cells := rows.zipIdx.flatMap (fun r => r.1.1.zipIdx.map (fun c => (r.2 * 64 + c.2, c.1)))
    let y := x.swapTile x.cyc
    .ok ({ y with shadow := some { completeAt := x.cyc + 66, ref := x.refN, cells := cells } }, rows.foldl (fun m r => m ||| r.2) 0)

/-- TILELOAD (R173). -/
def execTileload (g : Fin 128) (a : Fin 16) (offset : Nat) (e : Fin 256) (s : State) : Res :=
  .next (s.slotOp g.val [a.val, rkExp true] (fun x q => x.loadTile q a.val offset e.val))

/-- One column's sum: the contributions of its 64 rows in order (R172, R214). -/
def columnSum (a : ArrSt) (ops : List (List CellOp)) (j : Nat) : Flagged PSum :=
  ops.zipIdx.foldl (fun (acc : Flagged PSum) o =>
    let r := psAdd acc.1 (cellContrib a.fmt a.ccr a.frame o.1 (a.weight (o.2 * 64 + j)))
    (r.1, acc.2 ||| r.2)) ({}, 0)

/-- The edge accumulators take 64 arriving sums with exponent `x`, replacing or adding (R173, R216). -/
def ArrSt.edgeTake (a : ArrSt) (sums : List PSum) (x : Int) : Flagged ArrSt :=
  if a.accAdd then
    let m := max a.edgeX x
    let l := sums.zipIdx.map (fun s => edgeAdd (a.edgeAt s.2) s.1 a.edgeX x m)
    ({ a with edge := l.zipIdx.map (fun r => (r.2, r.1.1)), edgeX := m, eSeed := 0 }, l.foldl (fun f r => f ||| r.2) 0)
  else ({ a with edge := sums.zipIdx.map (fun r => (r.2, r.1)), edgeX := x, eSeed := 0 }, 0)

/-- WSVEC: a line enters the west edge two cycles after issue and meets the tile that is active then; its column results reach the edge
accumulators (R172, R173, R215). -/
def ArrSt.wsVector (x : ArrSt) (q : PartSt) (a offset e : Nat) : Except Nat (ArrSt × Nat) :=
  match x.partLines q ((x.sreg a + offset) % 2 ^ 32) 1 with
  | .error c => .error c
  | .ok ls =>
    let y := x.swapTile (x.cyc + 2)
    let ops := y.lineOps false y.refW e (ls.headD [])
    let sums := (List.range 64).map (columnSum y ops.1)
    let r := y.edgeTake (sums.map (·.1)) (columnExp y.fmt y.frame y.refW y.weightRef)
    .ok (r.1.busy rkEdge 135, sums.foldl (fun m s => m ||| s.2) (ops.2 ||| r.2))

/-- WSVEC (R172). -/
def execWsvec (g : Fin 128) (a : Fin 16) (offset : Nat) (e : Fin 256) (s : State) : Res :=
  .next (s.slotOp g.val [a.val, rkExp false] (fun x q => x.wsVector q a.val offset e.val))

/-! Output-stationary: OSRUN, DRAIN -/

/-- One step of OSRUN: the products of a west line and a north line go to every cell. -/
def ArrSt.osStep (a : ArrSt) (j : Nat) (west north : List Nat) : Flagged ArrSt :=
  let w := a.lineOps false a.refW (a.expStep * j) west
  let n := a.lineOps true a.refN (a.expStep * j) north
  let cells := w.1.zipIdx.flatMap (fun r => n.1.zipIdx.map (fun c =>
    let k := r.2 * 64 + c.2
    (k, psAdd (a.cellSum k) (cellContrib a.fmt a.ccr a.frame r.1 c.1))))
  ({ a with psum := cells.map (fun c => (c.1, c.2.1)), pSeed := 0 }, cells.foldl (fun m c => m ||| c.2.2) (w.2 ||| n.2))

/-- OSRUN: K steps from lines Sa and Sb on; the last product is there after K + 126 cycles. -/
def ArrSt.osRun (x : ArrSt) (q : PartSt) (a b k : Nat) : Except Nat (ArrSt × Nat) :=
  match x.partLines q (x.sreg a) k, x.partLines q (x.sreg b) k with
  | .error c, _ => .error c
  | _, .error c => .error c
  | .ok ws, .ok ns =>
    let r := (ws.zip ns).zipIdx.foldl (fun (acc : Flagged ArrSt) l =>
      let t := acc.1.osStep l.2 l.1.1 l.1.2
      (t.1, acc.2 ||| t.2)) ({ x with psumX := columnExp x.fmt x.frame x.refW x.refN }, 0)
    .ok (r.1.busy rkOs (k + 128), r.2)

/-- OSRUN (R172). -/
def execOsrun (g : Fin 128) (a b : Fin 16) (k : Fin 128) (s : State) : Res :=
  .next (s.slotOp g.val [a.val, b.val, rkExp false, rkExp true] (fun x q => x.osRun q a.val b.val (k.val + 1)))

/-- The bytes of four lines that hold 64 sums. -/
def sumLines (l : List Int) : List (List Nat) :=
  let b := l.flatMap (fun v => leBytes 4 (u32 v))
  (List.range 4).map (fun i => slice b (64 * i) 64)

/-- DRAIN: 256 lines of results, row by row, then the cells are cleared (log entry 54). -/
def ArrSt.drainCells (x : ArrSt) (q : PartSt) (a offset : Nat) : Except Nat (ArrSt × Nat) :=
  let ls := (List.range 64).flatMap (fun r => sumLines ((List.range 64).map (fun c => (x.cellSum (r * 64 + c)).v)))
  match x.putLines q ((x.sreg a + offset) % 2 ^ 32) ls with
  | .error c => .error c
  | .ok y => .ok (({ y with psum := [], pSeed := 0 } : ArrSt).busy rkOs 64, 0)

/-- DRAIN (R172). -/
def execDrain (g : Fin 128) (a : Fin 16) (offset : Nat) (s : State) : Res :=
  .next (s.slotOp g.val [a.val, rkOs] (fun x q => x.drainCells q a.val offset))

/-! Edge accumulators and curve -/

/-- EDGEST: the 64 edge sums to four lines. -/
def ArrSt.storeEdge (x : ArrSt) (q : PartSt) (a offset : Nat) : Except Nat (ArrSt × Nat) :=
  match x.putLines q ((x.sreg a + offset) % 2 ^ 32) (sumLines ((List.range 64).map (fun j => (x.edgeAt j).v))) with
  | .error c => .error c
  | .ok y => .ok (y, 0)

/-- EDGEST (R235). -/
def execEdgest (g : Fin 128) (a : Fin 16) (offset : Nat) (s : State) : Res :=
  .next (s.slotOp g.val [a.val, rkEdge] (fun x q => x.storeEdge q a.val offset))

/-- EDGECLR: sums zero, saturated bits clear. -/
def execEdgeclr (g : Fin 128) (s : State) : Res :=
  .next (s.slotPure g.val [rkEdge] (fun x => { x with edge := [], eSeed := 0 }))

/-- LOADCURVE: entries 0 to 7 of a table into every CCR, in 8 cycles, after every product in flight (R171, R180). -/
def execLoadcurve (g : Fin 128) (table : Fin 4) (s : State) : Res :=
  .next (s.slotPure g.val [rkT table.val, rkEdge, rkOs] (fun x => { x.loadCurve table.val with cyc := x.cyc + 8 }))

end Sys2Proof.Machine
end

