-- ==== Sys2Proof/Machine/Vector.lean ====
section
/-! DEFINITION. The operations of the V slot: the vector unit and the lookup tables (Table 8.8, R178, R179, R218 to R224, R236). -/

namespace Sys2Proof.Machine

/-- Lane `l` of vector register `v`. -/
def ArrSt.lane (a : ArrSt) (v l : Nat) : Nat := smGet (fun _ => 0) a.vregs (v * 64 + l)
/-- The 64 lanes of a vector register. -/
def ArrSt.vec (a : ArrSt) (v : Nat) : List Nat := (List.range 64).map (a.lane v)
/-- Write a vector register. -/
def ArrSt.setVec (a : ArrSt) (v : Nat) (l : List Nat) : ArrSt :=
  { a with vregs := l.zipIdx.foldl (fun m x => smSet (fun _ => 0) m (v * 64 + x.2) (x.1 % 2 ^ 32)) a.vregs }

/-- Values and flags of a list of flagged lanes. -/
def joinFlags (l : List (Flagged Nat)) : Flagged (List Nat) := (l.map (·.1), l.foldl (fun m x => m ||| x.2) 0)

/-- A vector operation that gives register `d` new lanes after `lat` cycles. -/
def State.vecOp (s : State) (g : Nat) (reads : List Nat) (d lat : Nat) (f : ArrSt → Flagged (List Nat)) : State :=
  s.slotOp g reads (fun a _ => let v := f a; .ok ((a.setVec d v.1).busy (rkV d) lat, v.2))

/-- A lane-wise operation on two registers. -/
def State.vec2 (s : State) (g d a b lat : Nat) (f : Nat → Nat → Flagged Nat) : State :=
  s.vecOp g [rkV a, rkV b] d lat (fun x => joinFlags (List.zipWith f (x.vec a) (x.vec b)))

/-- A lane-wise operation on one register. -/
def State.vec1 (s : State) (g d a lat : Nat) (f : Nat → Flagged Nat) : State :=
  s.vecOp g [rkV a] d lat (fun x => joinFlags ((x.vec a).map f))

/-- VADD (R220). -/
def execVadd (g : Fin 128) (d a b : Fin 32) (s : State) : Res := .next (s.vec2 g.val d.val a.val b.val 2 fxAdd)
/-- VSUB (R220). -/
def execVsub (g : Fin 128) (d a b : Fin 32) (s : State) : Res := .next (s.vec2 g.val d.val a.val b.val 2 fxSub)
/-- VMIN, signed (R235). -/
def execVmin (g : Fin 128) (d a b : Fin 32) (s : State) : Res :=
  .next (s.vec2 g.val d.val a.val b.val 2 (fun x y => (u32 (min (s32 x) (s32 y)), 0)))
/-- VMAX, signed (R235). -/
def execVmax (g : Fin 128) (d a b : Fin 32) (s : State) : Res :=
  .next (s.vec2 g.val d.val a.val b.val 2 (fun x y => (u32 (max (s32 x) (s32 y)), 0)))

/-- A truth value as a lane: −1 or 0. -/
def laneBool (b : Bool) : Nat := if b then 4294967295 else 0

/-- VCMP, signed (R235). -/
def execVcmp (g : Fin 128) (d a b : Fin 32) (cond : Fin 6) (s : State) : Res :=
  .next (s.vec2 g.val d.val a.val b.val 2 (fun x y => (laneBool (condHolds cond.val (s32 x) (s32 y)), 0)))

/-- VSEL: lane of a where the mask is nonzero, otherwise of b. -/
def execVsel (g : Fin 128) (d a b m : Fin 32) (s : State) : Res :=
  .next (s.vecOp g.val [rkV a.val, rkV b.val, rkV m.val] d.val 2 (fun x =>
    ((List.range 64).map (fun l => if x.lane m.val l ≠ 0 then x.lane a.val l else x.lane b.val l), 0)))

/-- The four logic operations: and, or, xor, and-not. -/
def vlogicOp (op a b : Nat) : Nat :=
  match op with
  | 0 => a &&& b
  | 1 => a ||| b
  | 2 => a ^^^ b
  | _ => a &&& (b ^^^ 4294967295)

/-- VLOGIC (R235). -/
def execVlogic (g : Fin 128) (d a b : Fin 32) (op : Fin 4) (s : State) : Res :=
  .next (s.vec2 g.val d.val a.val b.val 2 (fun x y => (vlogicOp op.val x y, 0)))

/-- VSHL (R220). -/
def execVshl (g : Fin 128) (d a : Fin 32) (sh : Fin 32) (s : State) : Res := .next (s.vec1 g.val d.val a.val 2 (fun x => fxShl x sh.val))
/-- VSHR (R220). -/
def execVshr (g : Fin 128) (d a : Fin 32) (sh : Fin 32) (s : State) : Res := .next (s.vec1 g.val d.val a.val 2 (fun x => fxShr x sh.val))
/-- VMUL: MulShift (R220). -/
def execVmul (g : Fin 128) (d a b : Fin 32) (sh : Fin 32) (s : State) : Res :=
  .next (s.vec2 g.val d.val a.val b.val 4 (fun x y => mulShift x y sh.val))

/-- Saturated Vd + MulShift. -/
def macLane (sh d x y : Nat) : Flagged Nat :=
  let m := mulShift x y sh
  let r := fxAdd d m.1
  (r.1, m.2 ||| r.2)

/-- VMAC (R220, R235). -/
def execVmac (g : Fin 128) (d a b : Fin 32) (sh : Fin 32) (s : State) : Res :=
  .next (s.vecOp g.val [rkV d.val, rkV a.val, rkV b.val] d.val 4 (fun x =>
    joinFlags ((List.range 64).map (fun l => macLane sh.val (x.lane d.val l) (x.lane a.val l) (x.lane b.val l)))))

/-- VGLMUL (R218). -/
def execVglmul (g : Fin 128) (d a b : Fin 32) (fmt : Fin 3) (s : State) : Res :=
  .next (s.vec2 g.val d.val a.val b.val 2 (glMul fmt.val))

/-- VGLCMP (R218). -/
def execVglcmp (g : Fin 128) (d a b : Fin 32) (fmt : Fin 3) (cond : Fin 6) (s : State) : Res :=
  .next (s.vec2 g.val d.val a.val b.val 2 (fun x y => (laneBool (condHolds cond.val (glKey fmt.val x) (glKey fmt.val y)), 0)))

/-- VCVT of all 64 lanes as two blocks, with the parameters of R236 in Ss. -/
def ArrSt.convert (x : ArrSt) (a target source s : Nat) : Flagged (List Nat) :=
  let p := x.sreg s
  let n := if s = 0 then 0 else field p 12 8
  let e : Option Int := if s = 0 then none else some (toSigned 8 p)
  let big : Int := if s = 0 then 0 else toSigned 16 (p / 65536)
  let D := (List.range 8).map (fun i => x.tableAt x.curve i % 65536)
  let T := (List.range 8).map (fun i => x.tableAt x.curve (8 + i) % 65536)
  let lanes := (List.range 64).map (fun l => (x.lane a l, decide (source = 10) && (x.edgeAt l).sat))
  let lo := vcvtBlock target source n big e D T (lanes.take 32)
  let hi := vcvtBlock target source n big e D T (lanes.drop 32)
  (lo.1 ++ hi.1, lo.2 ||| hi.2)

/-- VCVT (R219 to R224, R236). -/
def execVcvt (g : Fin 128) (d a : Fin 32) (target : Fin 10) (source : Fin 11) (s' : Fin 16) (s : State) : Res :=
  .next (s.vecOp g.val ([rkV a.val, s'.val] ++ if source.val = 10 then [rkEdge] else []) d.val 4
    (fun x => x.convert a.val target.val source.val s'.val))

/-- One lane of a lookup: entry [31:20], or interpolated with [19:12] toward the next; a result between two integers is a free value
(R179, log entry 13). -/
def ArrSt.lookupLane (x : ArrSt) (t : Nat) (interp : Bool) (v : Nat) : Nat :=
  let i : Nat := v / 2 ^ 20 % 4096
  let f : Nat := v / 2 ^ 12 % 256
  let a := x.tableAt t i
  if interp then
    let b := x.tableAt t (min 4095 (i + 1))
    let p := (s32 b - s32 a) * f
    if p % 256 = 0 then u32 (s32 a + p / 256) else Config.interp a b f % 2 ^ 32
  else a

/-- VLUT: four cycles of its table, eight to its result. -/
def State.lookup (s : State) (g d a t : Nat) (interp : Bool) : State :=
  s.slotOp g [rkV a, rkT t, rkLook t] (fun x _ =>
    .ok (((x.setVec d ((x.vec a).map (x.lookupLane t interp))).busy (rkV d) 8).busy (rkLook t) 4, 0))

/-- VLUT (R179). -/
def execVlut (g : Fin 128) (d a : Fin 32) (table : Fin 4) (interp : Bool) (s : State) : Res :=
  .next (s.lookup g.val d.val a.val table.val interp)

/-- VRED: saturating sum, minimum or maximum, in every lane. -/
def reduceLanes (op : Nat) (l : List Nat) : Flagged Nat :=
  let v := l.map s32
  match op with
  | 0 => satFixed (sumI v)
  | 1 => (u32 (v.foldl min (v.headD 0)), 0)
  | _ => (u32 (v.foldl max (v.headD 0)), 0)

/-- VRED (R235). -/
def execVred (g : Fin 128) (d a : Fin 32) (op : Fin 3) (s : State) : Res :=
  .next (s.vecOp g.val [rkV a.val] d.val 7 (fun x => let r := reduceLanes op.val (x.vec a.val); (List.replicate 64 r.1, r.2)))

/-- VMOVS: Ss in every lane. -/
def execVmovs (g : Fin 128) (d : Fin 32) (s' : Fin 16) (s : State) : Res :=
  .next (s.vecOp g.val [s'.val] d.val 2 (fun x => (List.replicate 64 (x.sreg s'.val), 0)))

/-- VEXT: a lane, or its block exponent sign-extended, into Ss. -/
def execVext (g : Fin 128) (s' : Fin 16) (a : Fin 32) (lane : Fin 64) (expo : Bool) (s : State) : Res :=
  .next (s.slotPure g.val [rkV a.val] (fun x =>
    let v := x.lane a.val lane.val
    (x.setS s'.val (if expo then u32 (toSigned 8 (v / 256)) else v)).busy s'.val 2))

/-- VIDX: each lane its number. -/
def execVidx (g : Fin 128) (d : Fin 32) (s : State) : Res := .next (s.vecOp g.val [] d.val 2 (fun _ => (List.range 64, 0)))

end Sys2Proof.Machine
end

