-- ==== Sys2Proof/Machine/Store.lean ====
section
/-! DEFINITION. The operations of the M slot: store, exponent buffers, table loads, transfers (Table 8.9, R237, R239). -/

namespace Sys2Proof.Machine

/-- The line, or pair, that an M-slot operation addresses: Sa + offset. -/
def ArrSt.addr (x : ArrSt) (a offset : Nat) : Nat := (x.sreg a + offset) % 2 ^ 32

/-- An operation on lines read from the store. -/
def State.loadOp (s : State) (g : Nat) (a offset n : Nat) (reads : List Nat) (f : ArrSt → List Nat → ArrSt) : State :=
  s.slotOp g (a :: reads) (fun x q =>
    match x.partLines q (x.addr a offset) n with
    | .error c => .error c
    | .ok ls => .ok (f x ls.flatten, 0))

/-- VLD: four lines, 64 little-endian lanes. -/
def execVld (g : Fin 128) (v : Fin 32) (a : Fin 16) (offset : Nat) (s : State) : Res :=
  .next (s.loadOp g.val a.val offset 4 [] (fun x b => (x.setVec v.val ((List.range 64).map (fun l => leNat (slice b (4 * l) 4)))).busy (rkV v.val) 2))

/-- VST. -/
def execVst (g : Fin 128) (v : Fin 32) (a : Fin 16) (offset : Nat) (s : State) : Res :=
  .next (s.slotOp g.val [a.val, rkV v.val] (fun x q =>
    let b := (x.vec v.val).flatMap (leBytes 4)
    match x.putLines q (x.addr a.val offset) ((List.range 4).map (fun i => slice b (64 * i) 64)) with
    | .error c => .error c
    | .ok y => .ok (y, 0)))

/-- Lanes of one line: a byte each, or the nibbles of one half, high nibble first. -/
def unpackLine (sub : Nat) (b : List Nat) : List Nat :=
  if sub = 0 then fitTo 64 b
  else (slice b (32 * (sub - 1)) 32).flatMap (fun x => [x / 16, x % 16])

/-- VLD8. -/
def execVld8 (g : Fin 128) (v : Fin 32) (a : Fin 16) (offset : Nat) (sub : Fin 3) (s : State) : Res :=
  .next (s.loadOp g.val a.val offset 1 [] (fun x b => (x.setVec v.val (unpackLine sub.val b)).busy (rkV v.val) 2))

/-- The nibbles of 64 lanes as 32 bytes, high nibble first. -/
def packNibbles (l : List Nat) : List Nat := (List.range 32).map (fun i => listGet 0 l (2 * i) % 16 * 16 + listGet 0 l (2 * i + 1) % 16)

/-- VST8: the whole line, or the 32 bytes of one half. -/
def execVst8 (g : Fin 128) (v : Fin 32) (a : Fin 16) (offset : Nat) (sub : Fin 3) (s : State) : Res :=
  .next (s.slotOp g.val [a.val, rkV v.val] (fun x q =>
    let r := if sub.val = 0 then x.putLines q (x.addr a.val offset) [(x.vec v.val).map (· % 256)]
      else x.putBytes q (x.addr a.val offset) (32 * (sub.val - 1)) (packNibbles (x.vec v.val))
    match r with
    | .error c => .error c
    | .ok y => .ok (y, 0)))

/-- [15:8] of lanes 0 to 31 and of lanes 32 to 63 from the pair of bytes; the other bits stay. -/
def ArrSt.setExps (x : ArrSt) (v lo hi : Nat) : ArrSt :=
  x.setVec v ((x.vec v).zipIdx.map (fun e => e.1 / 65536 * 65536 + (if e.2 < 32 then lo else hi) * 256 + e.1 % 256))

/-- VLDX: pair p lies at store bytes 2p and 2p + 1. -/
def execVldx (g : Fin 128) (v : Fin 32) (a : Fin 16) (offset : Nat) (s : State) : Res :=
  .next (s.slotOp g.val [a.val, rkV v.val] (fun x q =>
    let p := x.addr a.val offset
    match x.partLines q (p / 32) 1 with
    | .error c => .error c
    | .ok ls =>
      let b := ls.flatten
      .ok ((x.setExps v.val (listGet 0 b (2 * (p % 32))) (listGet 0 b (2 * (p % 32) + 1))).busy (rkV v.val) 2, 0)))

/-- VSTX. -/
def execVstx (g : Fin 128) (v : Fin 32) (a : Fin 16) (offset : Nat) (s : State) : Res :=
  .next (s.slotOp g.val [a.val, rkV v.val] (fun x q =>
    let p := x.addr a.val offset
    match x.putBytes q (p / 32) (2 * (p % 32)) [x.lane v.val 0 / 256 % 256, x.lane v.val 32 / 256 % 256] with
    | .error c => .error c
    | .ok y => .ok (y, 0)))

/-- 64 entries of an exponent buffer from quarter `q`. -/
def ArrSt.setExpBuf (x : ArrSt) (north : Bool) (q : Nat) (b : List Nat) : ArrSt :=
  let put := fun (m : List (Nat × Nat)) => (fitTo 64 b).zipIdx.foldl (fun m e => smSet (fun _ => 0) m (64 * q + e.2) e.1) m
  if north then { x with expN := put x.expN } else { x with expW := put x.expW }

/-- EXPLD: edge sub[2] (0 west, 1 north), quarter sub[1:0]. -/
def execExpld (g : Fin 128) (a : Fin 16) (offset : Nat) (sub : Fin 8) (s : State) : Res :=
  let north := decide (4 ≤ sub.val)
  .next (s.loadOp g.val a.val offset 1 [] (fun x b => (x.setExpBuf north (sub.val % 4) b).busy (rkExp north) 2))

/-- TLOAD: 256 lines, after every lookup already issued on the table (R180). -/
def ArrSt.tload (x : ArrSt) (q : PartSt) (t a offset : Nat) : Except Nat (ArrSt × Nat) :=
  match x.partLines q (x.addr a offset) 256 with
  | .error c => .error c
  | .ok _ =>
    let line := q.base + x.addr a offset
    .ok ({ (x.loadTable t line).busy (rkT t) 64 with tableSrc := smPut x.tableSrc t line }, 0)

/-- TLOAD (R180). -/
def execTload (g : Fin 128) (table : Fin 4) (a : Fin 16) (offset : Nat) (s : State) : Res :=
  .next (s.slotOp g.val [a.val, rkLook table.val, rkT table.val] (fun x q => x.tload q table.val a.val offset))

/-- SLD: bytes 0 to 3 of the line into Sd. -/
def execSld (g : Fin 128) (d a : Fin 16) (offset : Nat) (s : State) : Res :=
  .next (s.loadOp g.val a.val offset 1 [] (fun x b => (x.setS d.val (leNat (b.take 4))).busy d.val 2))

/-- SST. -/
def execSst (g : Fin 128) (d a : Fin 16) (offset : Nat) (s : State) : Res :=
  .next (s.slotOp g.val [a.val, d.val] (fun x q =>
    match x.putBytes q (x.addr a.val offset) 0 (leBytes 4 (x.sreg d.val)) with
    | .error c => .error c
    | .ok y => .ok (y, 0)))

/-! Transfers: R183, R237, R239 -/

/-- The window that offset `off` of region 0x3 names, where a program of tag `tenant` may read it: number, step back, byte (R281, R284). -/
def State.windowAt (s : State) (tenant off : Nat) : Option (WindowDef × Nat × Nat) :=
  if bitOf off 39 ∧ field off 38 36 = 0 then
    match s.window (field off 35 24) with
    | some d => if tenant = 0 || decide (d.owner = tenant) || s.granted tenant d.channel then some (d, field off 23 16, off % 65536) else none
    | none => none
  else none

/-- A transfer as its descriptor line names it, with absolute places, or the code that stops the part; none where the kind or the length
is reserved. A read of a ring that is being deleted returns gaps (R279). -/
def State.xferOf (s : State) (r : PartRef) (q : PartSt) (b : List Nat) : Except Nat (Option Xfer) :=
  let kind := listGet 0 b 0
  let n := leNat (slice b 4 4)
  let remote := leNat (slice b 8 8)
  let loc := leNat (slice b 16 4)
  let flag := leNat (slice b 20 4)
  let p := s.prog r.handle
  let base : Xfer := { kind := kind, lines := n, remote := 0, dstArray := q.array, localLine := q.base + loc, flagArray := q.array
                       flagLine := q.base + flag, flagValue := leNat (slice b 24 8), handle := r.handle }
  if kind = 0 ∨ 4 < kind ∨ n = 0 ∨ 16384 < n then .ok none
  else if q.decl.storeLines < loc + n then .error 0x7A
  else if kind = 1 then
    match p.parts.find? (fun e => decide (e.copyB = q.copyB ∧ e.idx = listGet 0 b 1)) with
    | none => .error 0x7A
    | some e =>
      if e.decl.storeLines < remote + n ∨ e.decl.storeLines ≤ flag then .error 0x7A
      else .ok (some { base with remote := e.base + remote, dstArray := e.array, flagArray := e.array, flagLine := e.base + flag })
  else if q.decl.storeLines ≤ flag then .error 0x7A
  else if kind = 4 then
    match s.windowAt p.tenant remote with
    | none => .error 0x7A
    | some (d, j, _) =>
      if 65536 < remote % 65536 + 64 * n then .error 0x7A
      else if (s.ringDef d.channel).deleting then .ok (some { base with remote := remote })
      else .ok (some { base with remote := remote, anchor := s.anchorOf d j, ring := d.channel + 1 })
  else if remote % 64 ≠ 0 ∨ q.decl.stackBytes < remote + 64 * n then .error 0x7A
  else .ok (some { base with remote := q.stackBase + remote })

/-- XFER: with eight outstanding the ninth waits: it is not issued. -/
def State.xfer (s : State) (g a offset : Nat) : State :=
  match s.curPart g with
  | none => s
  | some (r, _) =>
    s.slotOp g [a] (fun x q =>
      match x.partLines q (x.addr a offset) 1 with
      | .error c => .error c
      | .ok ls =>
        if 8 ≤ x.xfers.length then .ok (x, 0)
        else
          match s.xferOf r q ls.flatten with
          | .error c => .error c
          | .ok none => .ok (x, 0)
          | .ok (some t) => .ok ({ x with xfers := x.xfers ++ [t] }, 0))

/-- XFER (R237). -/
def execXfer (g : Fin 128) (a : Fin 16) (offset : Nat) (s : State) : Res := .next (s.xfer g.val a.val offset)

/-- Write the 64-byte blocks of a stack from absolute byte `o` on. -/
def State.putStack (s : State) (d o : Nat) (b : List Nat) : State :=
  s.forEach (List.range (b.length / 64)) (fun s i => s.setStackBlock (stackKey d (o + 64 * i)) (slice b (64 * i) 64))

/-- The data of a transfer, where no line it reads is poisoned. -/
def State.xferData (s : State) (g : Nat) (t : Xfer) : Option (List Nat) :=
  if t.kind = 2 then some ((List.range t.lines).flatMap (fun i => s.stackBlockAt (stackKey (dieOf g) (t.remote + 64 * i))))
  else if t.kind = 4 then
    match s.window (field t.remote 35 24) with
    | some d => some (s.windowBytes d t.anchor (t.remote % 65536) (64 * t.lines))
    | none => none
  else
    let a := s.arr g
    if (List.range t.lines).any (fun i => smGet (fun _ => false) a.poison (t.localLine + i)) then none
    else some (a.lines t.localLine t.lines)

/-- The stack blocks that a transfer of array `g` reads hold an uncorrectable error. -/
def State.xferBad (s : State) (g : Nat) (t : Xfer) : Bool :=
  t.kind = 2 && (List.range t.lines).any (fun i => smGet (fun _ => false) s.pecan.stackBad (stackKey (dieOf g) (t.remote + 64 * i)))

/-- Transfer `i` of array `g` completes: its last byte arrives, and then its flag (R183). An error at its source ends it without one, and
one in a stack allocation stops the program (R288). -/
def State.xferDone (s : State) (g i : Nat) : State :=
  let a := s.arr g
  match a.xfers[i]? with
  | none => s
  | some t =>
    let s1 := s.setArr g { a with xfers := a.xfers.eraseIdx i }
    if s.xferBad g t then s1.stopNow t.handle 0x7B pgStopped
    else
    match s.xferData g t with
    | none => s1
    | some b =>
      let s2 :=
        if t.kind = 3 then s1.putStack (dieOf g) t.remote b
        else if t.kind = 1 then s1.setArr t.dstArray ((s1.arr t.dstArray).setLines t.remote b)
        else s1.setArr g ((s1.arr g).setLines t.localLine b)
      let f := s2.arr t.flagArray
      s2.setArr t.flagArray { f with
        store := smSet (fun _ => List.replicate 64 0) f.store t.flagLine (leBytes 8 t.flagValue ++ (f.line t.flagLine).drop 8) }

/-- XFER_COMPLETE (R183). -/
def execXferComplete (t : Nat) (g : Fin 128) (i : Nat) (s : State) : Res := .next ((s.at t).xferDone g.val i)

end Sys2Proof.Machine
end

