-- ==== Sys2Proof/Machine/Crypto.lean ====
section
/-! DEFINITION. The public cryptography that spec/08_array_programs.md and spec/20_security.md name: SHA-384 and the verification of
ECDSA signatures over P-384, as their standards define them. -/

namespace Sys2Proof.Machine

/-! SHA-384 -/

/-- Round constants of SHA-512. -/
def shaK : List Nat :=
  [0x428a2f98d728ae22, 0x7137449123ef65cd, 0xb5c0fbcfec4d3b2f, 0xe9b5dba58189dbbc,
   0x3956c25bf348b538, 0x59f111f1b605d019, 0x923f82a4af194f9b, 0xab1c5ed5da6d8118,
   0xd807aa98a3030242, 0x12835b0145706fbe, 0x243185be4ee4b28c, 0x550c7dc3d5ffb4e2,
   0x72be5d74f27b896f, 0x80deb1fe3b1696b1, 0x9bdc06a725c71235, 0xc19bf174cf692694] ++
  [0xe49b69c19ef14ad2, 0xefbe4786384f25e3, 0x0fc19dc68b8cd5b5, 0x240ca1cc77ac9c65,
   0x2de92c6f592b0275, 0x4a7484aa6ea6e483, 0x5cb0a9dcbd41fbd4, 0x76f988da831153b5,
   0x983e5152ee66dfab, 0xa831c66d2db43210, 0xb00327c898fb213f, 0xbf597fc7beef0ee4,
   0xc6e00bf33da88fc2, 0xd5a79147930aa725, 0x06ca6351e003826f, 0x142929670a0e6e70] ++
  [0x27b70a8546d22ffc, 0x2e1b21385c26c926, 0x4d2c6dfc5ac42aed, 0x53380d139d95b3df,
   0x650a73548baf63de, 0x766a0abb3c77b2a8, 0x81c2c92e47edaee6, 0x92722c851482353b,
   0xa2bfe8a14cf10364, 0xa81a664bbc423001, 0xc24b8b70d0f89791, 0xc76c51a30654be30,
   0xd192e819d6ef5218, 0xd69906245565a910, 0xf40e35855771202a, 0x106aa07032bbd1b8] ++
  [0x19a4c116b8d2d0c8, 0x1e376c085141ab53, 0x2748774cdf8eeb99, 0x34b0bcb5e19b48a8,
   0x391c0cb3c5c95a63, 0x4ed8aa4ae3418acb, 0x5b9cca4f7763e373, 0x682e6ff3d6b2b8a3,
   0x748f82ee5defb2fc, 0x78a5636f43172f60, 0x84c87814a1f0ab72, 0x8cc702081a6439ec,
   0x90befffa23631e28, 0xa4506cebde82bde9, 0xbef9a3f7b2c67915, 0xc67178f2e372532b] ++
  [0xca273eceea26619c, 0xd186b8c721c0c207, 0xeada7dd6cde0eb1e, 0xf57d4f7fee6ed178,
   0x06f067aa72176fba, 0x0a637dc5a2c898a6, 0x113f9804bef90dae, 0x1b710b35131c471b,
   0x28db77f523047d84, 0x32caab7b40c72493, 0x3c9ebe0a15c9bebc, 0x431d67c49c100d4c,
   0x4cc5d4becb3e42b6, 0x597f299cfc657e2a, 0x5fcb6fab3ad6faec, 0x6c44198c4a475817]

/-- Initial hash value of SHA-384. -/
def shaInit : List Nat :=
  [0xcbbb9d5dc1059ed8, 0x629a292a367cd507, 0x9159015a3070dd17, 0x152fecd8f70e5939,
   0x67332667ffc00b31, 0x8eb44a8768581511, 0xdb0c2e0d64f98fa7, 0x47b5481dbefa4fa4]

/-- Rotation right of a 64-bit word. -/
def ror64 (n x : Nat) : Nat := x / 2 ^ n + x * 2 ^ (64 - n) % 2 ^ 64

/-- The small sigmas of the message schedule. -/
def shaS0 (x : Nat) : Nat := ror64 1 x ^^^ ror64 8 x ^^^ (x / 2 ^ 7)
def shaS1 (x : Nat) : Nat := ror64 19 x ^^^ ror64 61 x ^^^ (x / 2 ^ 6)

/-- The message schedule: newest word first, `n` words more. -/
def shaSchedule : Nat → List Nat → List Nat
  | 0, w => w
  | n + 1, w => shaSchedule n (((shaS1 (listGet 0 w 1) + listGet 0 w 6 + shaS0 (listGet 0 w 14) + listGet 0 w 15) % 2 ^ 64) :: w)

/-- Working variables a to h. -/
structure ShaVars where
  a : Nat
  b : Nat
  c : Nat
  d : Nat
  e : Nat
  f : Nat
  g : Nat
  h : Nat

/-- One round with constant plus schedule word. -/
def shaRound (v : ShaVars) (kw : Nat) : ShaVars :=
  let s1 := ror64 14 v.e ^^^ ror64 18 v.e ^^^ ror64 41 v.e
  let ch := (v.e &&& v.f) ^^^ ((v.e ^^^ 0xFFFFFFFFFFFFFFFF) &&& v.g)
  let t1 := v.h + s1 + ch + kw
  let s0 := ror64 28 v.a ^^^ ror64 34 v.a ^^^ ror64 39 v.a
  let maj := (v.a &&& v.b) ^^^ (v.a &&& v.c) ^^^ (v.b &&& v.c)
  { a := (t1 + s0 + maj) % 2 ^ 64, b := v.a, c := v.b, d := v.c, e := (v.d + t1) % 2 ^ 64, f := v.e, g := v.f, h := v.g }

/-- One 128-byte block into the hash value. -/
def shaBlock (h : List Nat) (b : List Nat) : List Nat :=
  let w16 := (List.range 16).map (fun i => beNat (slice b (8 * i) 8))
  let w := (shaSchedule 64 w16.reverse).reverse
  let v := (shaK.zip w).foldl (fun v x => shaRound v (x.1 + x.2))
    { a := listGet 0 h 0, b := listGet 0 h 1, c := listGet 0 h 2, d := listGet 0 h 3
      e := listGet 0 h 4, f := listGet 0 h 5, g := listGet 0 h 6, h := listGet 0 h 7 }
  List.zipWith (fun x y => (x + y) % 2 ^ 64) h [v.a, v.b, v.c, v.d, v.e, v.f, v.g, v.h]

/-- The hash over `n` blocks. -/
def shaBlocks : Nat → List Nat → List Nat → List Nat
  | 0, h, _ => h
  | n + 1, h, b => shaBlocks n (shaBlock h (b.take 128)) (b.drop 128)

/-- SHA-384: 48 bytes. -/
def sha384 (m : List Nat) : List Nat :=
  let z := (239 - m.length % 128) % 128
  let p := m ++ [128] ++ List.replicate z 0 ++ beBytes 16 (8 * m.length)
  ((shaBlocks (p.length / 128) shaInit p).take 6).flatMap (beBytes 8)

/-! P-384 -/

/-- The field prime, the group order, b and the base point of P-384. -/
def ecP : Nat := 2 ^ 384 - 2 ^ 128 - 2 ^ 96 + 2 ^ 32 - 1
def ecN : Nat := 0xffffffffffffffffffffffffffffffffffffffffffffffffc7634d81f4372ddf581a0db248b0a77aecec196accc52973
def ecB : Nat := 0xb3312fa7e23ee7e4988e056be3f82d19181d9c6efe8141120314088f5013875ac656398d8a2ed19d2a85c8edd3ec2aef
def ecGx : Nat := 0xaa87ca22be8b05378eb1c71ef320ad746e1d3b628ba79b9859f741e082542a385502f25dbf55296c3a545e3872760ab7
def ecGy : Nat := 0x3617de4a96262c6f5d9e98bf9292dc29f8f41dbd289a147ce9da3113b5f0b8c00a60b1ce1d7e819d7a431d7c90ea0e5f

/-- b ^ e modulo m, by squaring over the bits of e; the count bounds them. -/
def powMod (m : Nat) : Nat → Nat → Nat → Nat
  | 0, _, _ => 1 % m
  | n + 1, b, e =>
    let h := powMod m n (b * b % m) (e / 2)
    if e % 2 = 1 then h * b % m else h

/-- Inverse modulo a prime below 2^384. -/
def invMod (m a : Nat) : Nat := powMod m 384 (a % m) (m - 2)

/-- A point in Jacobian coordinates; z = 0 is the point at infinity. -/
structure EcPoint where
  x : Nat
  y : Nat
  z : Nat

/-- Subtraction modulo p. -/
def subP (a b : Nat) : Nat := (a + ecP - b % ecP) % ecP

/-- Doubling. -/
def EcPoint.double (q : EcPoint) : EcPoint :=
  if q.z = 0 ∨ q.y = 0 then { x := 1, y := 1, z := 0 }
  else
    let yy := q.y * q.y % ecP
    let s := 4 * q.x * yy % ecP
    let zz := q.z * q.z % ecP
    let m := 3 * subP q.x zz * ((q.x + zz) % ecP) % ecP
    let x := subP (m * m) (2 * s)
    { x := x, y := subP (m * subP s x) (8 * yy * yy), z := 2 * q.y * q.z % ecP }

/-- Addition. -/
def EcPoint.add (p q : EcPoint) : EcPoint :=
  if p.z = 0 then q
  else if q.z = 0 then p
  else
    let z1 := p.z * p.z % ecP
    let z2 := q.z * q.z % ecP
    let u1 := p.x * z2 % ecP
    let u2 := q.x * z1 % ecP
    let s1 := p.y * q.z * z2 % ecP
    let s2 := q.y * p.z * z1 % ecP
    if u1 = u2 then (if s1 = s2 then p.double else { x := 1, y := 1, z := 0 })
    else
      let h := subP u2 u1
      let r := subP s2 s1
      let hh := h * h % ecP
      let hhh := h * hh % ecP
      let v := u1 * hh % ecP
      let x := subP (r * r) (hhh + 2 * v)
      { x := x, y := subP (r * subP v x) (s1 * hhh), z := p.z * q.z * h % ecP }

/-- k times a point; the count bounds the bits of k. -/
def EcPoint.mul : Nat → Nat → EcPoint → EcPoint
  | 0, _, _ => { x := 1, y := 1, z := 0 }
  | n + 1, k, q =>
    let h := EcPoint.mul n (k / 2) q.double
    if k % 2 = 1 then h.add q else h

/-- The affine x coordinate. -/
def EcPoint.affineX (q : EcPoint) : Nat := let i := invMod ecP q.z; q.x * (i * i % ecP) % ecP

/-- A public key of 96 bytes, x then y, big-endian, that lies on the curve. -/
def ecKeyOk (key : List Nat) : Bool :=
  let x := beNat (key.take 48)
  let y := beNat (key.drop 48)
  key.length = 96 && decide (x < ecP) && decide (y < ecP) && decide (y * y % ecP = (x * x * x + (ecP - 3) * x + ecB) % ecP)

/-- ECDSA P-384 verification of a 48-byte digest: signature r then s, 48 bytes each, big-endian. -/
def ecVerify (key digest sig : List Nat) : Bool :=
  let r := beNat (sig.take 48)
  let s := beNat ((sig.drop 48).take 48)
  if !ecKeyOk key || r = 0 || s = 0 || ecN ≤ r || ecN ≤ s then false
  else
    let w := invMod ecN s
    let g : EcPoint := { x := ecGx, y := ecGy, z := 1 }
    let q : EcPoint := { x := beNat (key.take 48), y := beNat (key.drop 48), z := 1 }
    let p := (EcPoint.mul 384 (beNat digest * w % ecN) g).add (EcPoint.mul 384 (r * w % ecN) q)
    p.z != 0 && p.affineX % ecN = r

end Sys2Proof.Machine
end

