-- ==== Sys2Proof/Machine/Verify.lean ====
section
/-! DEFINITION. Keys by KeyId, and the verification of an array program's image (spec/08_array_programs.md R227 to R241,
spec/20_security.md R550, R555). -/

namespace Sys2Proof.Machine

/-! Keys: R550 -/

/-- Public key `j` of Config.zheudKey: 96 bytes. -/
def zheudKey (j : Nat) : List Nat := (List.range 96).map (fun i => Config.zheudKey j i % 256)

/-- KeyId of a public key. -/
def keyId (key : List Nat) : List Nat := (sha384 key).take 16

/-- The key of a store that a KeyId names. -/
def findKey (l : List (Nat × List Nat)) (id : List Nat) : Option (List Nat) := (l.find? (fun e => keyId e.2 = id)).map (·.2)

/-- Author keys: slot 0 is Zheud's own. -/
def State.authorKeys (s : State) : List (Nat × List Nat) := (0, zheudKey 4) :: s.dict.authors

/-- The key that may countersign: an enrolled operator key; or the factory key, while Unenrolled or on an adopted image (Table 20.4). -/
def State.counterKey (s : State) (id : List Nat) (adopted : Bool) : Option (List Nat) :=
  match findKey s.dict.opKeys id with
  | some k => some k
  | none => if (s.dict.opKeys.isEmpty || adopted) && decide (id = keyId (zheudKey 3)) then some (zheudKey 3) else none

/-! The signature block of R232 -/

/-- Fields of the block that are not as R232 lays out; the offset of the first. -/
def sigMalformed (b : List Nat) : Option Nat :=
  let rec_ := fun o role => if listGet 0 b o ≠ role then some o
    else if (slice b (o + 1) 15).any (· != 0) then some (o + 1) else none
  if b.length ≠ 272 ∨ slice b 0 4 ≠ [0x54, 0x5A, 0x53, 0x47] then some 0
  else if listGet 0 b 4 ≠ 2 then some 4
  else if (slice b 5 11).any (· != 0) then some 5
  else
    match rec_ 16 1 with
    | some o => some o
    | none => rec_ 144 2

/-- KeyId and signature of the record at byte `o`. -/
def sigKeyId (b : List Nat) (o : Nat) : List Nat := slice b (o + 16) 16
def sigRS (b : List Nat) (o : Nat) : List Nat := slice b (o + 32) 96

/-- One signature: 0x64 where the key is not known, 0x65 where it does not verify, 0 where it does. -/
def checkSig (key : Option (List Nat)) (msg sig : List Nat) : Nat :=
  match key with
  | none => 0x64
  | some k => if ecVerify k (sha384 msg) sig then 0 else 0x65

/-! Sections: R227, R228 -/

/-- A section table entry (Table 8.2), with its number and bytes. -/
structure Sect where
  num : Nat
  type : Nat
  part : Nat
  index : Nat
  offset : Nat
  size : Nat
  target : Nat
  bytes : List Nat

/-- Entry `i` of an image. -/
def sectOf (b : List Nat) (i : Nat) : Sect :=
  let e := slice b (256 + 32 * i) 32
  let o := leNat (slice e 4 4)
  let n := leNat (slice e 8 4)
  { num := i
    type := listGet 0 e 0
    part := listGet 0 e 1
    index := listGet 0 e 2
    offset := o
    size := n
    target := leNat (slice e 12 4)
    bytes := slice b o n }

/-- Some byte is not zero. -/
def anyNonzero (b : List Nat) : Bool := b.any (· != 0)

/-- A refusal of verification: code, section, bundle or byte. -/
abbrev Refused := Option (Nat × Nat × Nat)

/-- The first refusal of a list of checks; a check that fails names the section and the byte. -/
def firstOf (code : Nat) : List (Bool × Nat × Nat) → Refused
  | [] => none
  | (ok, n, o) :: r => if ok then firstOf code r else some (code, n, o)

/-- The first refusal of a list. -/
def firstRefusal (l : List Refused) : Refused := (l.filterMap id).head?

/-- Size and target of a section as Table 8.3 has them. -/
def Sect.shapeOk (x : Sect) : Bool :=
  match x.type with
  | 1 => x.target = 0 && x.size % 16 = 0 && 16 ≤ x.size && x.size ≤ 65536
  | 2 => x.size % 64 = 0
  | 3 => x.size = 16384
  | 4 => x.target = 0 && x.size = 128
  | 5 => x.target = 0 && decide (x.size = 16 + 16 * (leNat (slice x.bytes 0 2) + leNat (slice x.bytes 2 2)))
  | 6 => x.target = 0 && x.size % 16 = 0 && 16 ≤ x.size && x.size ≤ 256
  | 7 => x.target % 64 = 0 && x.size % 64 = 0
  | 8 => x.target = 0
  | _ => false

/-- The ranges [a, a+n) and [b, b+m) do not meet. -/
def apart (a n b m : Nat) : Bool := n = 0 || m = 0 || decide (a + n ≤ b) || decide (b + m ≤ a)

/-- No two ranges of a list meet. -/
def allApart : List (Nat × Nat) → Bool
  | [] => true
  | (a, n) :: r => r.all (fun e => apart a n e.1 e.2) && allApart r

/-- Sections of part `p`. -/
def sectsOf (l : List Sect) (p : Nat) : List Sect := l.filter (fun x => x.part = p || x.part = 0xFF)

/-- The section of type `t` among a part's. -/
def sectType (l : List Sect) (t : Nat) : Option Sect := l.find? (fun x => x.type = t)

/-- Store lines that a section's constants or table fill, stack bytes of its stack data. -/
def Sect.range (x : Sect) : Nat × Nat := (x.target, if x.type = 7 then x.size else x.size / 64)

/-- Counts and places of one part's sections (R228). -/
def partLayout (lane : Nat) (l : List Sect) : Bool :=
  let n := fun t => countP (fun x : Sect => decide (x.type = t)) l
  let res := match sectType l 4 with
    | some x => x.bytes
    | none => []
  let stores := (l.filter (fun x => x.type = 2 || x.type = 3)).map Sect.range
  let stackRanges := (l.filter (fun x => x.type = 7)).map Sect.range
  n 1 = 1 && n 4 = 1 && decide (n 5 = (if lane = 1 then 1 else 0)) && n 6 ≤ 1 &&
    (List.range 4).all (fun t => decide (countP (fun x : Sect => x.type = 3 && x.index = t) l ≤ 1)) &&
    allApart stores && allApart stackRanges &&
    stores.all (fun e => decide (e.1 + e.2 ≤ leNat (slice res 0 4))) &&
    stackRanges.all (fun e => decide (e.1 + e.2 ≤ leNat (slice res 16 8)))

/-- Bytes of the image after the section table that no section covers are zero. -/
def gapsZero (b : List Nat) (l : List Sect) (lo hi : Nat) : Bool :=
  (List.range (hi - lo)).all (fun i => listGet 0 b (lo + i) = 0 || l.any (fun x => decide (x.offset ≤ lo + i ∧ lo + i < x.offset + x.size)))

/-- Stage 1 of Table 8.12: header, section table, layout and signature block; `size` bytes are staged. -/
def imageLayout (b : List Nat) (size : Nat) : Refused :=
  let f := fun o n => leNat (slice b o n)
  let img := f 8 4
  let n := f 12 2
  let parts := listGet 0 b 37
  let lane := listGet 0 b 36
  let hdr := firstOf 0x63 [
    (decide (slice b 0 4 = [0x54, 0x5A, 0x49, 0x31]), 0, 0),
    (decide (f 4 2 = 1), 0, 4),
    (decide (f 6 2 = 256), 0, 6),
    (decide (img ≤ 1073741824 ∧ img ≤ size ∧ 256 + 272 ≤ img ∧ (img - 272) % 64 = 0), 0, 8),
    (decide (1 ≤ n ∧ n ≤ 256 ∧ 256 + 32 * n ≤ img - 272), 0, 12),
    (!anyNonzero (slice b 14 2), 0, 14),
    (decide (lane = 1 ∨ lane = 2), 0, 36),
    (decide (1 ≤ parts ∧ parts ≤ 64), 0, 37),
    (!anyNonzero (slice b 38 218), 0, 38)]
  match hdr with
  | some e => some e
  | none =>
    let l := (List.range n).map (sectOf b)
    let tab := firstOf 0x63 (l.map (fun x =>
      (decide (x.part < parts ∨ x.part = 0xFF) && decide (x.index ≤ (if x.type = 3 then 3 else 0)) &&
        listGet 0 (slice b (256 + 32 * x.num) 32) 3 = 0 && !anyNonzero (slice b (256 + 32 * x.num + 16) 16) &&
        x.offset % 64 = 0 && decide (256 + 32 * n ≤ x.offset ∧ x.offset + x.size ≤ img - 272) && x.shapeOk,
        x.num, 256 + 32 * x.num)))
    match tab with
    | some e => some e
    | none =>
      match firstOf 0x63 [
        (allApart (l.map (fun x => (x.offset, x.size))), 0, 256),
        (gapsZero b l (256 + 32 * n) (img - 272), 0, 256 + 32 * n)] with
      | some e => some e
      | none =>
        match firstOf 0x63 ((List.range parts).map (fun p =>
          (partLayout lane (sectsOf l p), ((sectsOf l p).head?.map (·.num)).getD 0, 256))) with
        | some e => some e
        | none => (sigMalformed (slice b (img - 272) 272)).map (fun o => (0x63, 0, img - 272 + o))

/-- Stage 2: both signatures (R555; a .tzi image is never adopted). -/
def State.imageSigned (s : State) (b : List Nat) : Refused :=
  let o := leNat (slice b 8 4) - 272
  let g := slice b o 272
  let c0 := checkSig (findKey s.authorKeys (sigKeyId g 16)) (b.take o) (sigRS g 16)
  if c0 ≠ 0 then some (c0, 0, o + 16)
  else
    let c1 := checkSig (s.counterKey (sigKeyId g 144) false) (b.take o ++ slice g 16 128) (sigRS g 144)
    if c1 ≠ 0 then some (c1, 0, o + 144) else none

/-! Declarations: R229 to R231 -/

/-- The input descriptor at a place. -/
def inDesc (e : List Nat) : InDesc :=
  { kind := listGet 0 e 0, packing := listGet 0 e 1, count := leNat (slice e 2 2), first := leNat (slice e 4 4)
    dest0 := leNat (slice e 8 2), dest1 := leNat (slice e 10 2) }

/-- The output descriptor at a place. -/
def outDesc (e : List Nat) : OutDesc :=
  { kind := listGet 0 e 0, target := listGet 0 e 1, lines := leNat (slice e 2 2), src := leNat (slice e 4 4), signal := leNat (slice e 8 4) }

/-- The mailbox entry at a place. -/
def mboxDesc (e : List Nat) : MboxDesc :=
  { loc := listGet 0 e 0, access := listGet 0 e 1, lines := leNat (slice e 2 2), line := leNat (slice e 4 4), flag := leNat (slice e 8 4) }

/-- What a part's sections declare. -/
def partDecl (l : List Sect) : PartDecl :=
  let bytes := fun t => match sectType l t with
    | some x => x.bytes
    | none => []
  let r := bytes 4
  let i := bytes 5
  let m := bytes 6
  let nin := leNat (slice i 0 2)
  { storeLines := leNat (slice r 0 4)
    declared := leNat (slice r 4 4)
    tablesUsed := listGet 0 r 8
    curveAt := listGet 0 r 9
    affinity := listGet 0 r 10
    duplex := bitOf (listGet 0 r 11) 0
    runCycles := leNat (slice r 12 4)
    stackBytes := leNat (slice r 16 8)
    phaseCount := listGet 0 r 24
    points := slice r 25 8
    code := bytes 1
    consts := (l.filter (fun x => x.type = 2 || x.type = 3)).map (fun x => (x.target, x.bytes))
    tables := (l.filter (fun x => x.type = 3)).map (fun x => (x.index, x.target))
    stackData := (l.filter (fun x => x.type = 7)).map (fun x => (x.target, x.bytes))
    inputs := (List.range nin).map (fun k => inDesc (slice i (16 + 16 * k) 16))
    outputs := (List.range (leNat (slice i 2 2))).map (fun k => outDesc (slice i (16 + 16 * (nin + k)) 16))
    mboxes := (List.range (m.length / 16)).map (fun k => mboxDesc (slice m (16 * k) 16)) }

/-- Lines an input fills (R230). -/
def InDesc.lines (d : InDesc) : Nat :=
  let bytes := if d.kind = 1 then d.count * (if bitOf d.packing 0 then 8 else 4) else if d.kind = 2 then d.count * 8 else d.count * 64
  (bytes + 63) / 64

/-- An input descriptor in range (Table 8.5). -/
def InDesc.ok (d : InDesc) (lines : Nat) : Bool :=
  1 ≤ d.count && decide (d.count ≤ (if d.kind = 1 then 1024 else if d.kind = 2 then 64 else 16)) && 1 ≤ d.kind && d.kind ≤ 3 && d.packing ≤ 1 &&
    decide (d.dest0 + d.lines ≤ lines ∧ d.dest1 + d.lines ≤ lines)

/-- An output descriptor in range (Table 8.5). -/
def OutDesc.ok (d : OutDesc) (p : PartDecl) : Bool :=
  if d.kind = 1 then 1 ≤ d.lines && d.lines ≤ 16 && d.target ≤ 15 && decide (d.src + d.lines ≤ p.storeLines) && decide (d.signal / 2 ^ 18 % 2 ^ 13 = 0)
  else d.kind = 2 && p.mboxes.any (fun m => m.loc = d.target) && decide (d.signal / 2 ^ 18 % 2 ^ 13 = 0)

/-- A mailbox entry in range (R231). -/
def MboxDesc.ok (m : MboxDesc) (lane lines : Nat) : Bool :=
  m.loc ≤ 15 && m.access < 8 && !(bitOf m.access 2 && lane = 1) && 1 ≤ m.lines && m.lines ≤ 1024 && decide (m.line + m.lines ≤ lines) &&
    decide (m.flag < lines) && !decide (m.line ≤ m.flag ∧ m.flag < m.line + m.lines)

/-- No number twice. -/
def distinct : List Nat → Bool
  | [] => true
  | a :: r => !r.contains a && distinct r

/-- Stage 3 for one part: BudgetExceeded for the cycles of a fast-lane tick, DeclarationInvalid otherwise. -/
def declCheck (lane : Nat) (l : List Sect) : Refused :=
  let d := partDecl l
  let at_ := fun t => match sectType l t with
    | some x => (x.num, x.offset, x.bytes)
    | none => (0, 0, [])
  let (rn, ro, r) := at_ 4
  let (fn, fo, f) := at_ 5
  let (mn, mo, m) := at_ 6
  if lane = 1 ∧ 700 < d.declared then some (0x68, rn, ro + 4)
  else
    firstOf 0x66 ([
      (1 ≤ d.storeLines && decide (d.storeLines ≤ 64448), rn, ro),
      (if lane = 1 then decide (1 ≤ d.declared) else 1000 ≤ d.declared && decide (d.declared ≤ 1000000), rn, ro + 4),
      (decide (d.tablesUsed < 16), rn, ro + 8),
      (decide (d.curveAt / 4 % 32 = 0), rn, ro + 9),
      (decide (d.affinity ≤ 2), rn, ro + 10),
      (listGet 0 r 11 < 2 && !(d.duplex && lane = 2), rn, ro + 11),
      (lane = 2 || d.runCycles = 0, rn, ro + 12),
      (d.stackBytes % 64 = 0 && decide (d.stackBytes ≤ 17179869184), rn, ro + 16),
      (1 ≤ d.phaseCount && d.phaseCount ≤ 8, rn, ro + 24),
      (d.points.all (fun p => decide (p ≤ 7 ∨ p = 0xFF)), rn, ro + 25),
      (!anyNonzero (slice r 33 95), rn, ro + 33)] ++
      (if lane = 1 then [
        (decide (d.inputs.length ≤ 32), fn, fo),
        (decide (1 ≤ d.outputs.length ∧ d.outputs.length ≤ 16), fn, fo + 2),
        (!anyNonzero (slice f 4 12), fn, fo + 4)] ++
        d.inputs.zipIdx.map (fun x => (x.1.ok d.storeLines && !anyNonzero (slice f (16 + 16 * x.2 + 12) 4), fn, fo + 16 + 16 * x.2)) ++
        d.outputs.zipIdx.map (fun x => (x.1.ok d && !anyNonzero (slice f (16 + 16 * (d.inputs.length + x.2) + 12) 4), fn,
          fo + 16 + 16 * (d.inputs.length + x.2)))
      else []) ++
      d.mboxes.zipIdx.map (fun x => (x.1.ok lane d.storeLines && !anyNonzero (slice m (16 * x.2 + 12) 4), mn, mo + 16 * x.2)) ++
      [(distinct (d.mboxes.map (·.loc)), mn, mo)])

/-! Bundles: R233 to R238 -/

/-- Bits `hi` to `lo`. -/
def rng (hi lo : Nat) : Nat := 2 ^ (hi + 1) - 2 ^ lo

/-- The operand bits of a slot lie within `mask`. -/
def within (w mask : Nat) : Bool := decide (w % 2 ^ 26 &&& mask = w % 2 ^ 26)

/-- Opcode of a slot. -/
def opOf (w : Nat) : Nat := w / 2 ^ 26 % 64

/-- An S slot: opcode listed, reserved fields zero (Table 8.6). -/
def sSlotOk (w : Nat) : Bool :=
  match opOf w with
  | 0x00 => within w 0
  | 0x01 | 0x07 => within w (rng 25 18 + rng 15 0)
  | 0x02 | 0x03 | 0x04 | 0x05 | 0x06 => within w (rng 25 14)
  | 0x08 | 0x09 => within w (rng 25 18 + rng 4 0)
  | 0x0A => within w (rng 25 22 + rng 15 0)
  | 0x0B | 0x0D | 0x0E => within w (rng 21 18 + rng 11 0)
  | 0x0C | 0x10 => within w (rng 11 0)
  | 0x0F => within w (rng 21 14 + rng 11 0)
  | 0x11 => within w (rng 21 14)
  | 0x12 | 0x13 => within w 0
  | 0x14 => within w (rng 25 22 + rng 7 0)
  | 0x15 => within w (rng 2 0)
  | _ => false

/-- An A slot, with the range of F that R212 gives its format (Table 8.7). -/
def aSlotOk (w : Nat) : Bool :=
  match opOf w with
  | 0x00 => within w 0
  | 0x01 => within w (rng 25 16) && decide (field w 24 23 ≤ 2) &&
      decide (field w 22 17 ≤ (if field w 24 23 = 0 then 63 else if field w 24 23 = 1 then 31 else 15))
  | 0x02 => within w (rng 25 21)
  | 0x03 | 0x04 => true
  | 0x05 => within w (rng 25 11)
  | 0x06 | 0x07 => within w (rng 25 8)
  | 0x08 => within w 0
  | 0x09 => within w (rng 25 24)
  | _ => false

/-- A V slot (Table 8.8); reserved formats, conditions and reductions are refused. -/
def vSlotOk (w : Nat) : Bool :=
  match opOf w with
  | 0x00 => within w 0
  | 0x01 | 0x02 | 0x03 | 0x04 => within w (rng 25 11)
  | 0x05 => within w (rng 25 11 + rng 2 0) && decide (field w 2 0 ≤ 5)
  | 0x06 | 0x0A | 0x0B => within w (rng 25 11 + rng 4 0)
  | 0x07 => within w (rng 25 11 + rng 1 0)
  | 0x08 | 0x09 => within w (rng 25 16 + rng 4 0)
  | 0x0C => within w (rng 25 11 + rng 1 0) && decide (field w 1 0 ≤ 2)
  | 0x0D => within w (rng 25 11 + rng 4 0) && decide (field w 1 0 ≤ 2) && decide (field w 4 2 ≤ 5)
  | 0x0E => within w (rng 25 16 + rng 14 11 + rng 10 7 + rng 3 0) && decide (field w 14 11 ≤ 9) && decide (field w 3 0 ≤ 10)
  | 0x0F => within w (rng 25 16 + rng 2 0)
  | 0x10 => within w (rng 25 16 + rng 1 0) && decide (field w 1 0 ≤ 2)
  | 0x11 => within w (rng 25 21 + rng 10 7)
  | 0x12 => within w (rng 20 16 + rng 10 0)
  | 0x13 => within w (rng 25 21)
  | _ => false

/-- An M slot (Table 8.9). -/
def mSlotOk (w : Nat) : Bool :=
  match opOf w with
  | 0x00 => within w 0
  | 0x01 | 0x02 | 0x05 | 0x06 => within w (rng 25 3)
  | 0x03 | 0x04 => within w (rng 25 0) && decide (field w 2 0 ≤ 2)
  | 0x07 => within w (rng 20 0)
  | 0x08 => within w (rng 22 3)
  | 0x09 => within w (rng 20 3)
  | 0x0A | 0x0B => within w (rng 24 3)
  | _ => false

/-- Scalar registers that the S, V and M slots write. -/
def scalarWrites (sw vw mw : Nat) : List Nat :=
  let so := opOf sw
  (if (1 ≤ so && so ≤ 0x0A) || so = 0x14 then [field sw 25 22] else []) ++
  (if opOf vw = 0x12 then [field vw 10 7] else []) ++ (if opOf mw = 0x0A then [field mw 24 21] else [])

/-- Vector registers that the V and M slots write. -/
def vectorWrites (vw mw : Nat) : List Nat :=
  (if opOf vw = 0 || opOf vw = 0x12 then [] else [field vw 25 21]) ++
  (if opOf mw = 1 || opOf mw = 3 || opOf mw = 5 then [field mw 25 21] else [])

/-- Tables that the A, V and M slots name. -/
def tableNames (aw vw mw : Nat) : List Nat :=
  (if opOf aw = 9 then [field aw 25 24] else []) ++ (if opOf vw = 0x0F then [field vw 1 0] else []) ++
  (if opOf mw = 8 then [field mw 22 21] else [])

/-- One bundle: words M, V, A, S, with the loop bodies of its part (R238). -/
def bundleOk (lane n phases tables : Nat) (loops : List (Nat × Nat)) (pc mw vw aw sw : Nat) : Bool :=
  let so := opOf sw
  let target := field sw 11 0
  let branch := so = 0x0C || so = 0x0D || so = 0x0E || so = 0x0F
  let inside := fun (b : Nat × Nat) q => decide (b.1 ≤ q ∧ q ≤ b.2)
  sSlotOk sw && aSlotOk aw && vSlotOk vw && mSlotOk mw &&
    !(so = 0x12 && lane = 1) &&
    distinct (scalarWrites sw vw mw) && distinct (vectorWrites vw mw) &&
    !((branch || so = 0x0B) && decide (n ≤ target)) &&
    !(branch && loops.any (fun b => inside b pc != inside b target)) &&
    !(so = 0x0B && decide (4 ≤ countP (fun b => inside b pc) loops)) &&
    !(so = 0x15 && decide (phases ≤ field sw 2 0)) &&
    (tableNames aw vw mw).all (fun t => bitOf tables t)

/-- Stage 4 for one part: the first bundle that R238 refuses. -/
def codeCheck (lane : Nat) (l : List Sect) : Refused :=
  match sectType l 1 with
  | none => none
  | some x =>
    let d := partDecl l
    let n := x.size / 16
    let w := fun pc k => leNat (slice x.bytes (16 * pc + 4 * k) 4)
    let loops := (List.range n).filterMap (fun pc => if opOf (w pc 3) = 0x0B then some (pc + 1, field (w pc 3) 11 0) else none)
    match (List.range n).find? (fun pc => !bundleOk lane n d.phaseCount d.tablesUsed loops pc (w pc 0) (w pc 1) (w pc 2) (w pc 3)) with
    | some pc => some (0x67, x.num, pc)
    | none => none

/-- Verification of an image in the order of Table 8.12: a refusal, or lane, parts per copy, ProgramId and declarations. -/
def State.verifyImage (s : State) (b : List Nat) (size : Nat) : Except (Nat × Nat × Nat) (Nat × Nat × List Nat × List PartDecl) :=
  match imageLayout b size with
  | some e => .error e
  | none =>
    match s.imageSigned b with
    | some e => .error e
    | none =>
      let lane := listGet 0 b 36
      let parts := (List.range (listGet 0 b 37)).map (sectsOf ((List.range (leNat (slice b 12 2))).map (sectOf b)))
      match firstRefusal (parts.map (declCheck lane)) with
      | some e => .error e
      | none =>
        match firstRefusal (parts.map (codeCheck lane)) with
        | some e => .error e
        | none => .ok (lane, listGet 0 b 37, slice b 16 16, parts.map partDecl)

end Sys2Proof.Machine
end

