-- ==== Sys2Proof/Machine/Programs.lean ====
section
/-! DEFINITION. Meanings: staging slots, loading, program states, the fast and the slow lane (spec/08_array_programs.md R240 to R258). -/

namespace Sys2Proof.Machine

/-! Starting and ending a tick or slice: R234, R250, R256 to R258 -/

/-- What every tick or slice starts with: zero registers, but for S13, S14 and S15, and cells that hold free values (R174, R234). -/
def ArrSt.fresh (a : ArrSt) (r : PartRef) (pc count s15 s13 k : Nat) : ArrSt :=
  let a1 : ArrSt := { a with
    cur := some r, demand := false, sregs := [], vregs := [], expW := [], expN := [], loops := [], pc := pc, cyc := 0, ready := []
    waitf := none, os := Config.number k % 2 = 1, fmt := Config.number (k + 1) % 3, frame := Config.number (k + 2) % 64
    accAdd := Config.number (k + 3) % 2 = 1, refW := Config.integer (k + 4), refN := Config.integer (k + 5)
    weights := [], weightRef := Config.integer (k + 6), shadow := none, psum := [], psumX := Config.integer (k + 7), edge := []
    edgeX := Config.integer (k + 8), wSeed := k + 10, pSeed := k + 10, eSeed := k + 10, reservedFor := 0 }
  ((a1.setS 14 count).setS 15 s15).setS 13 s13

/-- A tick or slice of part `q` of handle `h` starts on its array. -/
def State.startPart (s : State) (h : Nat) (q : PartSt) (pc count s15 s13 : Nat) : State :=
  let k := s.freeCtr
  let s1 := { s with freeCtr := s.freeCtr + 10 }
  let r : PartRef := { handle := h, copyB := q.copyB, part := q.idx }
  let s2 := s1.setArr q.array ((s1.arr q.array).fresh r pc count s15 s13 k)
  s2.updPart r (fun q => { q with busy := true, ended := 0 })

/-- The array is free again; what the part leaves in tables and CCR is remembered for its next slice (R258). -/
def State.leaveArray (s : State) (g : Nat) (r : PartRef) (q : PartSt) (ended pc : Nat) : State :=
  let a := s.arr g
  let p := s.prog r.handle
  let srcs := a.tableSrc.filter (fun e => bitOf q.decl.tablesUsed e.1)
  let s1 := s.updPart r (fun q => { q with
    busy := false, ended := ended, pc := pc, slices := q.slices + 1
    srcs := if p.lane = 2 then srcs else q.srcs, ccr := if p.lane = 2 then a.ccr else q.ccr, curve := if p.lane = 2 then a.curve else q.curve })
  let s2 := s1.setArr g { s1.arr g with cur := none, loops := [], waitf := none }
  let p2 := s2.prog r.handle
  s2.setProg r.handle { p2 with maxCycles := max p2.maxCycles (a.cyc + 1) }

/-- No part of the program runs a tick or slice. -/
def ProgSt.quiet (p : ProgSt) : Bool := p.parts.all (fun q => !q.busy)

/-- Unload: everything is freed, and the forecaster's handle with it (R246, R294). -/
def State.unload (s : State) (h : Nat) : State := ((s.stopNow h 0 pgUnloading).freeProg h).unbindProg h

/-- A stop or an unload that waited for the end of the tick or slice (R246). -/
def State.stopDue (s : State) (h : Nat) : State :=
  let p := s.prog h
  if p.quiet then
    if p.stopPending = 3 then s.unload h
    else if p.stopPending = 2 then s.stopNow h 0x7E pgStopped else s
  else s

/-- Count a deadline miss, once per run (R257). -/
def ProgSt.miss (p : ProgSt) (r : Run) : ProgSt := if r.missed then p else { p with misses := (p.misses + 1) % 2 ^ 32 }

/-- The run's slice has ended on every array: the run goes on waiting, or completes and makes room for the next (R254, R256, R257). -/
def State.sliceEnd (s : State) (h : Nat) : State :=
  let p := s.prog h
  match p.run with
  | none => s
  | some r =>
    if !p.quiet then s
    else if p.parts.all (fun q => decide (q.ended = 1 ∧ q.slices ≠ 0)) then
      let late := 0 < p.deadline && decide (r.release + p.deadline * us < s.hall)
      let p1 := if late then p.miss r else p
      let next := p.nextRun.map (fun (e : Nat × Nat) => ({ release := e.1, waitSince := e.1, coalesced := e.2 } : Run))
      s.setProg h { p1 with
        run := next, nextRun := none, completions := (p.completions + 1) % 2 ^ 32, ticks := p.ticks + 1
        parts := p.parts.map (fun q => { q with slices := 0, pc := 0 }) }
    else s.setProg h { p with run := some { r with running := false, waitSince := s.hall } }

/-! Outputs: R251 -/

/-- Publish one output of part `q` on array `g`. -/
def State.publishOut (s : State) (g h : Nat) (q : PartSt) (d : OutDesc) : State :=
  let p := s.prog h
  if q.copyB && p.missing != 1 then s
  else if d.kind = 1 then s.publishPort d.target h p.startTime ((s.arr g).lines (q.base + d.src) d.lines)
  else
    match q.decl.mboxes.find? (fun m => m.loc = d.target) with
    | none => s
    | some m =>
      let a := s.arr g
      let line := a.line (q.base + m.flag)
      let v := (leNat (line.take 8) + 1) % 2 ^ 64
      let s1 := s.setArr g (a.setLine (q.base + m.flag) (leBytes 8 v ++ line.drop 8))
      if bitOf d.signal 31 then (s1.wordOp opForcedWrite v 0 p.tenant (d.signal % 2 ^ 18)).2 else s1

/-- END: outputs of a fast-lane part are published, the part's tick or run ends. -/
def State.endPart (s : State) (g : Nat) : State :=
  match s.curPart g with
  | none => s
  | some (r, q) =>
    let a := s.arr g
    if a.waitf.isSome ∨ q.decl.declared ≤ a.cyc then s
    else
      let h := r.handle
      if (s.prog h).lane = 1 then
        let s1 := s.forEach q.decl.outputs (fun s d => s.publishOut g h q d)
        let s2 := s1.leaveArray g r q 1 0
        let p := s2.prog h
        let s3 := if p.quiet then s2.setProg h { p with completions := (p.completions + 1) % 2 ^ 32, ticks := p.ticks + 1 } else s2
        (s3.stopDue h).rechoose g
      else (((s.leaveArray g r q 1 0).sliceEnd h).stopDue h).rechoose g

/-- END (R251). -/
def execSEnd (t : Nat) (g : Fin 128) (s : State) : Res := .next ((s.at t).endPart g.val)

/-- YIELD: a slow-lane slice ends; the next starts at the next bundle. -/
def State.yieldPart (s : State) (g : Nat) : State :=
  match s.curPart g with
  | none => s
  | some (r, q) =>
    let a := s.arr g
    if a.waitf.isSome ∨ q.decl.declared ≤ a.cyc ∨ (s.prog r.handle).lane ≠ 2 then s
    else (((s.leaveArray g r q 2 (a.pc + 1)).sliceEnd r.handle).stopDue r.handle).rechoose g

/-- YIELD (R255). -/
def execSYield (t : Nat) (g : Fin 128) (s : State) : Res := .next ((s.at t).yieldPart g.val)

/-! The fast lane: R249, R250, R253 -/

/-- The bytes of one input: samples, words or lines of the state vector (Table 8.5). Channels not granted to a tenant read as channels
without a sample, foreign words read free values. -/
def State.inputBytes (s : State) (tag : Nat) (d : InDesc) : List Nat :=
  if d.kind = 1 then
    (List.range d.count).flatMap (fun i =>
      let e := if tag = 0 || s.granted tag (d.first + i) then s.latestEntry (d.first + i) else (2 ^ 31, 0)
      leBytes 4 e.1 ++ if bitOf d.packing 0 then leBytes 4 e.2 else [])
  else if d.kind = 2 then
    (List.range d.count).flatMap (fun i =>
      let w := s.word (d.first + i)
      leBytes 8 (if w.alloc ∧ w.tenant = tag then w.data else Config.number (s.freeCtr + i) % 2 ^ 64))
  else (List.range d.count).flatMap (fun i => s.vectorLine (d.first + i))

/-- Take the inputs of tick `k` into the buffers of one part, each zero-filled to the end of its last line. -/
def State.takeInputs (s : State) (tag k : Nat) (q : PartSt) : State :=
  s.forEach q.decl.inputs (fun s d =>
    let b := s.inputBytes tag d
    let b1 := b ++ List.replicate (d.lines * 64 - b.length) 0
    let s1 := if d.kind = 2 then { s with freeCtr := s.freeCtr + d.count } else s
    s1.setArr q.array ((s1.arr q.array).setLines (q.base + if k % 2 = 0 then d.dest0 else d.dest1) b1))

/-- The inputs of Sage, the program bound, carry SageControl (R299, R309). -/
def State.sageNoted (s : State) (h : Nat) : State :=
  if h = s.fc.bound then { s with fc := { s.fc with sageAsked := bitOf (s.nat Obj.sageControl) 1 } } else s

/-- Sage's tick restores the shipped readout: SageControl bit 1 reads 0 (R309). -/
def State.sageRestored (s : State) (h : Nat) : State :=
  if h = s.fc.bound ∧ s.fc.sageAsked then
    ({ s with fc := { s.fc with sageAsked := false } } : State).setNat Obj.sageControl (s.nat Obj.sageControl % 2)
  else s

/-- Inputs of tick `k` for every part of a program. -/
def State.takeAll (s : State) (h k : Nat) : State :=
  let s1 := s.forEach (s.prog h).parts (fun s q => s.takeInputs (s.prog h).tenant k q)
  (s1.setProg h { s1.prog h with primed := true }).sageNoted h

/-- Start tick `k` of a program on all its arrays. -/
def State.startTick (s : State) (h k : Nat) : State :=
  let s1 := (s.setProg h { s.prog h with startTime := s.hall }).sageRestored h
  s1.forEach (s1.prog h).parts (fun s q =>
    let dest := match q.decl.inputs.head? with
      | some d => if k % 2 = 0 then d.dest0 else d.dest1
      | none => 0
    s.startPart h q 0 k dest (k % 2))

/-- Demand every array of a list: all can take work now. -/
def State.demandAll (s : State) (l : List Nat) : Bool × State :=
  l.foldl (fun (x : Bool × State) g => let r := x.2.demandArr g; (x.1 && r.1, r.2)) (true, s)

/-- One boundary of a running fast-lane program. -/
def State.tickProg (s : State) (h : Nat) : State :=
  let p := s.prog h
  if p.lane ≠ 1 ∨ p.state ≠ pgRunning ∨ s.hall / us % s.progPeriod h ≠ 0 then s
  else if !p.primed then s.takeAll h p.ticks
  else
    let d := s.demandAll (p.parts.map (·.array))
    if !p.quiet || !d.1 then
      let s1 := if p.quiet then d.2 else s
      let p1 := s1.prog h
      (s1.setProg h { p1 with skipped := (p1.skipped + 1) % 2 ^ 32 }).takeAll h (if p.quiet then p.ticks else p.ticks + 1)
    else (d.2.startTick h p.ticks).takeAll h (p.ticks + 1)

/-- A tick boundary: tick periods follow their dies' points, then every fast-lane program starts its tick (R187, R188, R249). -/
def State.fastTick (s : State) : State :=
  let s1 := s.forEach (List.range 8) (fun s d =>
    if s.hall / us % (max 1 (s.nat (Obj.fastTickPeriod d))) = 0 then s.setNat (Obj.fastTickPeriod d) (pointTick (s.nat (Obj.operatingPoint d))) else s)
  s1.forEach (s1.pecan.progs.map (·.1)) (fun s h => s.tickProg h)

/-- FAST_TICK (R249). -/
def execFastTick (t : Nat) (s : State) : Res := .next (s.at t).fastTick

/-- A part reaches its bound without END or YIELD: every part of its program stops with `reason` (R250, R255). -/
def State.overrun (s : State) (g lane reason : Nat) : State :=
  match s.curPart g with
  | none => s
  | some (r, q) =>
    let p := s.prog r.handle
    if p.lane ≠ lane then s
    else
      let s1 := s.setProg r.handle { p with maxCycles := max p.maxCycles q.decl.declared }
      if p.stopPending = 3 then s1.unload r.handle else s1.stopNow r.handle reason pgStopped

/-- TICK_OVERRUN (R250). -/
def execTickOverrun (t : Nat) (g : Fin 128) (s : State) : Res := .next ((s.at t).overrun g.val 1 0x78)

/-- SLICE_OVERRUN (R255). -/
def execSliceOverrun (t : Nat) (g : Fin 128) (s : State) : Res := .next ((s.at t).overrun g.val 2 0x79)

/-! The slow lane: R254 to R258 -/

/-- The period of a program with trigger 2 has passed. -/
def State.periodicDue (s : State) (h : Nat) : State :=
  let p := s.prog h
  if p.trigger = 2 ∧ p.state = pgRunning ∧ p.lastPeriodic + p.period * us ≤ s.hall then
    (s.setProg h { p with lastPeriodic := p.lastPeriodic + p.period * us }).triggerRun h
  else s

/-- PERIODIC_TRIGGER (R254). -/
def execPeriodicTrigger (t : Nat) (h : Fin 128) (s : State) : Res := .next ((s.at t).periodicDue h.val)

/-- Effective priority of a ready run, and its deadline miss when it reaches 16 (R256, R257). -/
def State.rankRun (s : State) (h : Nat) : State :=
  let p := s.prog h
  match p.run with
  | none => s
  | some r =>
    if r.running ∨ p.state ≠ pgRunning then s
    else if 0 < p.deadline ∧ r.release + p.deadline * us ≤ s.hall then
      s.setProg h { p.miss r with run := some { r with e := 16, missed := true } }
    else s.setProg h { p with run := some { r with e := min 15 (p.priority + (s.hall - r.waitSince) / us / max 1 (s.nat Obj.agingQuantum)) } }

/-- The run of handle `a` comes before that of `b` by the key of R256. -/
def State.runBefore (s : State) (a b : Nat) : Bool :=
  let p := s.prog a
  let q := s.prog b
  match p.run, q.run with
  | some x, some y =>
    let dl := fun (p : ProgSt) (r : Run) => if p.deadline = 0 then 2 ^ 80 else r.release + p.deadline * us
    x.e > y.e || (x.e = y.e && (dl p x < dl q y || (dl p x = dl q y && (x.release < y.release || (x.release = y.release && a < b)))))
  | _, _ => false

/-- Insert a handle by key. -/
def State.runInsert (s : State) (h : Nat) : List Nat → List Nat
  | [] => [h]
  | b :: r => if s.runBefore h b then h :: b :: r else b :: State.runInsert s h r

/-- Ready runs in key order. -/
def State.readyRuns (s : State) : List Nat :=
  (s.pecan.progs.map (·.1)).foldl (fun l h =>
    let p := s.prog h
    match p.run with
    | some r => if p.state = pgRunning ∧ p.lane = 2 ∧ r.running = false then s.runInsert h l else l
    | none => l) []

/-- Arrays of a program, each once. -/
def ProgSt.arrays (p : ProgSt) : List Nat := (p.parts.map (·.array)).eraseDups

/-- Reserve every array at a slice boundary or idle for the first ready run that has a part on it (R256). -/
def State.reserveArrays (s : State) (runs : List Nat) : State :=
  s.forEach (List.range 128) (fun s g =>
    let a := s.arr g
    if a.cur.isSome then s
    else
      let f := match runs.find? (fun h => (s.prog h).parts.any (fun q => q.array = g)) with
        | some h => h + 1
        | none => 0
      if a.reservedFor = f then s else s.setArr g { a with reservedFor := f })

/-- Load what an incoming slow-lane part needs of tables and CCR; the tables it does not declare are zeroed (R258). -/
def ArrSt.switchTo (a : ArrSt) (h : Nat) (q : PartSt) : ArrSt :=
  let key := partKey h q
  let a1 := (List.range 4).foldl (fun (a : ArrSt) t =>
    if bitOf q.decl.tablesUsed t then
      if smGet (fun _ => 0) a.tableOwner t = key then a
      else
        match q.srcs.find? (fun e => e.1 = t) with
        | some e => a.loadTable t e.2
        | none => a
    else a.zeroTable t) a
  { a1 with ccr := q.ccr, curve := q.curve, tableSrc := q.srcs, tableOwner := (List.range 4).map (fun t => (t, key)) }

/-- Start a slice of a run on all its arrays together: on each the first part that has not ended (R256). -/
def State.startSlice (s : State) (h : Nat) : State :=
  let p := s.prog h
  let todo := fun g => p.parts.find? (fun q => decide (q.array = g ∧ (q.ended ≠ 1 ∨ q.slices = 0)))
  let s1 := match p.run with
    | some r => s.setProg h { p with startTime := s.hall, run := some { r with running := true } }
    | none => s
  s1.forEach p.arrays (fun s g =>
    match todo g with
    | some q => (s.setArr g ((s.arr g).switchTo h q)).startPart h q q.pc p.ticks 0 0
    | none => s.setArr g { s.arr g with reservedFor := 0 })

/-- Start a run's slice if every array is reserved for it, idle and awake. -/
def State.tryRun (s : State) (h : Nat) : State :=
  let p := s.prog h
  if p.arrays.all (fun g => decide ((s.arr g).reservedFor = h + 1 ∧ (s.arr g).cur = none)) then
    let d := s.demandAll p.arrays
    if d.1 then d.2.startSlice h else d.2
  else s

/-- The scheduler's evaluation, once per microsecond of hall time (R256). -/
def State.schedule (s : State) : State :=
  let s1 := s.forEach (s.pecan.progs.map (·.1)) (fun s h => s.rankRun h)
  let runs := s1.readyRuns
  (s1.reserveArrays runs).forEach runs (fun s h => s.tryRun h)

/-- SCHEDULER_TICK (R256). -/
def execSchedulerTick (t : Nat) (s : State) : Res := .next (s.at t).schedule

/-! Staging slots: R240, R241, R248 -/

/-- The tag a role acts for: its own for a tenant, 0x00 for the operator. -/
def tagOf : Role → Nat
  | .tenant g => g
  | _ => 0

/-- A slot that holds another tenant's image: no access for this role (Table 8.20). -/
def SlotSt.foreign (x : SlotSt) (role : Role) : Bool :=
  match role with
  | .tenant g => x.state != 0 && x.tenant != g
  | _ => false

/-- Refusal of StagingFull: 0x08000022, with the code of Table 8.12 for a requester on the fabric in bits [39:32]. -/
def abStagingFull : Nat := abState + 0x62 * 2 ^ 32

/-- Give a slot's stack bytes back: the slot is Free, its written size stays. -/
def State.releaseSlot (s : State) (k : Nat) : State :=
  let x := s.slot k
  let s1 := if x.stack < 8 then s.otherSub x.stack x.size else s
  s1.setSlot k { size := x.size, result := x.result }

/-- SlotCommand 1: open. -/
def State.slotOpen (s : State) (role : Role) (k : Nat) : Nat × State :=
  let x := s.slot k
  let tag := tagOf role
  let all := sumN ((s.pecan.slots.filter (fun e => e.2.state != 0)).map (fun e => e.2.size))
  let past := match (if tag = 0 then none else s.slotOf tag) with
    | some t => decide (s.nat (Obj.stagingQuota t) < s.stagingOf tag + x.size)
    | none => false
  if x.state ≠ 0 ∨ x.size = 0 then (abState, s)
  else if 8589934592 < all + x.size ∨ past = true then (abStagingFull, s)
  else
    match s.bulkStack (List.range 8) x.size with
    | none => (abStagingFull, s)
    | some st => (abNone, (s.setSlot k { x with state := 1, tenant := tag, data := [], stack := st, progId := List.replicate 16 0 }).otherAdd st x.size)

/-- SlotCommand 2: verify. -/
def State.slotVerify (s : State) (k : Nat) : Nat × State :=
  let x := s.slot k
  if x.state = 1 then (abNone, s.setSlot k { x with state := 2 }) else (abState, s)

/-- SlotCommand 3: discard; refused while it is verified or read by a load (R248). -/
def State.slotDiscard (s : State) (k : Nat) : Nat × State :=
  let x := s.slot k
  if x.state = 2 ∨ x.state = 5 ∨ x.state = 0 then (abState, s) else (abNone, s.releaseSlot k)

/-- A write of SlotCommand. -/
def State.slotCommand (s : State) (role : Role) (k v : Nat) : Nat × State :=
  if (s.slot k).foreign role then (abRole, s)
  else if v = 1 then s.slotOpen role k
  else if v = 2 then s.slotVerify k
  else if v = 3 then s.slotDiscard k
  else (abValue, s)

/-- The bytes staged in a slot. -/
def SlotSt.bytes (x : SlotSt) : List Nat :=
  (List.range (x.size / 64)).flatMap (fun i => smGet (fun _ => List.replicate 64 0) x.data i)

/-- Verification of a slot ends (R241). -/
def State.slotVerified (s : State) (k : Nat) : State :=
  let x := s.slot k
  if x.state ≠ 2 then s
  else
    match s.verifyImage x.bytes x.size with
    | .error (c, n, o) => s.setSlot k { x with state := 4, result := [c, 0, n, 0] ++ leBytes 4 o }
    | .ok (lane, n, id, decls) =>
      s.setSlot k { x with state := 3, result := List.replicate 8 0, progId := id, lane := lane, partCount := n, decls := decls }

/-- SLOT_VERIFICATION_COMPLETE (R241). -/
def execSlotVerificationComplete (t : Nat) (k : Fin 16) (s : State) : Res := .next ((s.at t).slotVerified k.val)

/-! Loading: R242 to R244, R248 -/

/-- Set LoadResult. -/
def State.loadResult (s : State) (code h part array stage : Nat) : State :=
  s.setBlob Obj.loadResult ([code, h, part, array, stage] ++ List.replicate 11 0)

/-- Programs that the parts and mailboxes of a tag belong to. -/
def State.sumParts (s : State) (tag : Nat) (f : PartDecl → Nat) : Nat :=
  sumN ((s.progsOf tag).map (fun h => sumN ((s.prog h).parts.map (fun q => f q.decl))))

/-- A quota of Table 8.19 would be exceeded by a program of declarations `l`, every copy counted. -/
def State.overQuota (s : State) (tag lane : Nat) (l : List PartDecl) : Bool :=
  match (if tag = 0 then none else s.slotOf tag) with
  | none => false
  | some t =>
    let copies := if l.any (·.duplex) then 2 else 1
    let need := fun (f : PartDecl → Nat) => copies * sumN (l.map f) + s.sumParts tag f
    let parts := copies * l.length
    (lane = 1 && decide (s.nat (Obj.fastArrayQuota t) < s.nat (Obj.fastArraysInUse t) + parts)) ||
    (lane = 2 && decide (s.nat (Obj.slowPartQuota t) < s.nat (Obj.slowPartsInUse t) + parts)) ||
    decide (s.nat (Obj.storeLineQuota t) < need (·.storeLines)) || decide (s.nat (Obj.stackQuota t) < need (·.stackBytes)) ||
    decide (s.nat (Obj.mailboxQuota t) < need (fun d => d.mboxes.length))

/-- Lowest base of `n` mailboxes among the 1,024 of the module (R259). -/
def State.mailboxRoom (s : State) (n : Nat) : Option Nat :=
  let used := (s.pecan.progs.map (fun e => (e.2.mailboxBase, e.2.mailboxes.length))).filter (fun e => e.2 != 0)
  (List.range 1025).find? (fun b => decide (b + n ≤ 1024) && used.all (fun e => apart b n e.1 e.2))

/-- Lowest free handle. -/
def State.freeHandle (s : State) : Option Nat := (List.range 128).find? (fun h => (s.prog h).state = pgFree)

/-- Fields of a LoadRequest that are out of range or reserved (Table 8.13). -/
def State.badRequest (s : State) (b : List Nat) (x : SlotSt) : Bool :=
  let tag := listGet 0 b 1
  let trig := listGet 0 b 2
  let dl := leNat (slice b 12 4)
  let per := leNat (slice b 4 4)
  let slow := decide (x.lane = 2)
  decide (4 < trig) || (!slow && trig != 0) || decide (15 < listGet 0 b 3) || (trig = 2 && !(10 ≤ per && decide (per ≤ 10000000))) ||
  decide (100000000 < dl) || (trig = 3 && !(match s.domSlot (leNat (slice b 8 2)) with
    | some i => (s.dom i).tenant = tag
    | none => false)) ||
  (trig = 4 && !(match x.decls[listGet 0 b 11]? with
    | some d => d.mboxes.any (fun m => m.loc = listGet 0 b 10)
    | none => false)) ||
  decide (1 < listGet 0 b 16) || anyNonzero (slice b 17 47)

/-- A LoadRequest has been accepted: permission, quotas, placement; then the copy runs until LOAD_COMPLETE. -/
def State.beginLoad (s : State) (role : Role) (b : List Nat) : State :=
  let k := listGet 0 b 0
  let x := s.slot k
  let tag := listGet 0 b 1
  let allowed := match role with
    | .tenant g => g = tag && x.tenant = g
    | _ => true
  let kinds := x.decls.any (fun d => d.inputs.any (fun i => i.kind = 3) || d.outputs.any (fun o => o.kind = 1))
  if tag ≠ 0 ∧ s.tenantOpen tag = false then s.loadResult 0x69 255 255 255 1
  else if !allowed || (tag != 0 && kinds) then s.loadResult 0x6A 255 255 255 1
  else if s.overQuota tag x.lane x.decls then s.loadResult 0x6B 255 255 255 2
  else
    let dup := x.decls.any (·.duplex)
    let nbox := (if dup then 2 else 1) * sumN (x.decls.map (fun d => d.mboxes.length))
    match s.freeHandle, s.mailboxRoom nbox with
    | some h, some base =>
      let s1 := s.setProg h {
        state := pgLoading, tenant := tag, lane := x.lane, partCount := x.partCount, duplex := dup, progId := x.progId
        trigger := listGet 0 b 2, period := leNat (slice b 4 4), domain := leNat (slice b 8 2), mailbox := leNat (slice b 10 2)
        deadline := leNat (slice b 12 4), priority := listGet 0 b 3, startAfter := bitOf (listGet 0 b 16) 0, decls := x.decls
        mailboxBase := base, imageBytes := x.size }
      match s1.placeProg h with
      | .error (c, part, g) =>
        ({ s with pecan := { s.pecan with progs := smErase s.pecan.progs h } }).loadResult c 255 part g 3
      | .ok s2 =>
        let s3 := (s2.setSlot k { s2.slot k with state := 5 }).loadResult 0x60 h 255 255 4
        let s4 := (s3.demandAll ((s3.prog h).parts.map (·.array))).2
        ({ s4 with pecan := { s4.pecan with load := some { slot := k, handle := h, req := b } } }).progAccount tag
    | _, _ => s.loadResult 0x6B 255 255 255 2

/-- A write of LoadRequest. -/
def State.loadRequest (s : State) (role : Role) (b : List Nat) : Nat × State :=
  let k := listGet 0 b 0
  let bad := s.mode = .off || s.mode = .ship || s.mode = .boot || s.mode = .seed || s.mode = .safe
  if b.length ≠ 64 then (abLength, s)
  else if bad || s.pecan.load.isSome then (abState, s)
  else if 15 < k then (abValue, s)
  else if (s.slot k).state ≠ 3 then (abState, s)
  else if s.badRequest b (s.slot k) then (abValue, s)
  else (abNone, s.beginLoad role b)

/-- The load ends without a program: its reservations are released, its slot stays Verified (R243, R248). -/
def State.loadFail (s : State) (l : LoadSt) (code part g : Nat) : State :=
  let tag := (s.prog l.handle).tenant
  let s1 := s.unreserve l.handle
  let s2 := { s1 with pecan := { s1.pecan with progs := smErase s1.pecan.progs l.handle, load := none } }
  (((s2.setSlot l.slot { s2.slot l.slot with state := 3 }).loadResult code 255 part g 4).progAccount tag).runReplacements

/-- The two stacks that take copies of a retained image, one in each healthy half (Table 9.2). -/
def State.imageStacks (s : State) (n : Nat) : List Nat :=
  [0, 1].filterMap (fun h => if s.healthy h then s.bulkStack ((List.range 4).map (· + 4 * h)) n else none)

/-- A program's first start from Loaded: its ticks and runs begin. -/
def State.runProg (s : State) (h : Nat) : State :=
  let p := s.prog h
  (s.setProg h { p with
    state := pgRunning, stopReason := 0, primed := false, ticks := 0, lastPeriodic := s.hall, retry := false
    parts := p.parts.map (fun q => { q with slices := 0, pc := 0, ended := 1 }) }).rechooseProg h

/-- LOAD_COMPLETE: every part is written, or the load is refused for an array or a half lost meanwhile. Arrays that still wake keep it
waiting. -/
def State.loadComplete (s : State) : State :=
  match s.pecan.load with
  | none => s
  | some l =>
    let p := s.prog l.handle
    match p.parts.find? (fun q => !s.inService q.array || !s.healthy (q.array / 64)) with
    | some q => s.loadFail l (if s.healthy (q.array / 64) then 0x6D else 0x70) (q.idx + if q.copyB then 64 else 0) q.array
    | none =>
      if p.parts.any (fun q => decide (2 ≤ (s.arr q.array).power ∨ 2 ≤ (s.arr q.array).entering)) then s
      else
        let h := l.handle
        let s1 := s.writeParts h (fun _ => true)
        let st := s1.imageStacks p.imageBytes
        let s2 := s1.forEach st (fun s k => s.otherAdd k p.imageBytes)
        let p2 := s2.prog h
        let s3 := s2.setProg h { p2 with state := pgLoaded, images := st, placements := 1 }
        let s4 := s3.forEach (p2.parts.map (·.array)) (fun s g => s.setArr g { s.arr g with demand := false })
        let s5 := ({ s4 with pecan := { s4.pecan with load := none } }).releaseSlot l.slot
        let s6 := ((s5.loadResult 0 h 255 255 (if p.startAfter then 5 else 4)).progAccount p.tenant).rechooseProg h
        (if p.startAfter then s6.runProg h else s6).runReplacements

/-- LOAD_COMPLETE (R243). -/
def execLoadComplete (t : Nat) (s : State) : Res := .next (s.at t).loadComplete

/-! Program commands: R246, R254 -/

/-- ProgramCommand 1: start. -/
def State.progStart (s : State) (h : Nat) : Nat × State :=
  let p := s.prog h
  if p.state = pgLoaded then (abNone, s.runProg h)
  else if p.state = pgStopped ∧ p.parts ≠ [] then
    if p.images.isEmpty then (abNone, s.setProg h { p with stopReason := 0x7B })
    else (abNone, (s.writeParts h (fun _ => true)).runProg h)
  else (abState, s)

/-- ProgramCommand 2: stop, at the end of the tick or slice in progress. -/
def State.progStop (s : State) (h : Nat) : Nat × State :=
  let p := s.prog h
  if p.state ≠ pgRunning then (abState, s)
  else if p.quiet then (abNone, s.stopNow h 0x7E pgStopped)
  else (abNone, s.setProg h { p with stopPending := max p.stopPending 2 })

/-- ProgramCommand 3: unload, at the end of the tick or slice in progress. -/
def State.progUnload (s : State) (h : Nat) : Nat × State :=
  let p := s.prog h
  if p.state = pgFree ∨ p.state = pgLoading ∨ p.state = pgUnloading then (abState, s)
  else if p.quiet then (abNone, s.unload h)
  else (abNone, s.setProg h { p with state := pgUnloading, stopPending := 3 })

/-- ProgramCommand 4: run now, for a program with trigger 1. -/
def State.progRun (s : State) (h : Nat) : Nat × State :=
  let p := s.prog h
  if p.state = pgRunning ∧ p.lane = 2 ∧ p.trigger = 1 then (abNone, s.triggerRun h) else (abState, s)

/-- A write of ProgramCommand. -/
def State.progCommand (s : State) (h v : Nat) : Nat × State :=
  if v = 1 then s.progStart h
  else if v = 2 then s.progStop h
  else if v = 3 then s.progUnload h
  else if v = 4 then s.progRun h
  else (abValue, s)

end Sys2Proof.Machine
end

