-- ==== Sys2Proof/Machine/Pool.lean ====
section
/-! DEFINITION. Meanings: word operations, watches, arrivals and releases, tenants and their resources, barrier domains, the pacer
(spec/05_sync_objects.md). A command of an opcode runs one request whose fabric checks have passed. -/

namespace Sys2Proof.Machine

/-- The synchronisation service is offered (Table 1.6); in Standby the fabric is up and words are served. -/
def State.syncService (s : State) : Bool := s.mode = .standby || s.mode = .ready || s.mode = .shaping || s.mode = .hold

/-- Word that a region 0x0 request names. -/
def frameWord (f : Frame) : Nat := addrOffset f.addr / 8

/-- Answer a VC0 request with the fields of the word it names (R85). -/
def State.syncWord (s : State) (f : Frame) (result w : Nat) : State :=
  let p := s.word w
  s.syncResponse f result p.data p.full p.gen

/-! Word operations: R131, R132 -/

/-- One of the six operations: checks, effect, watches, SyncResponse. -/
def State.syncOp (s : State) (op : Nat) (f : Frame) : State :=
  let w := frameWord f
  if !s.syncService then s.syncWord f rsStateRefused w
  else if f.payload.length ≠ (if op = opCompareSwap then 8 else 0) then s.syncWord f rsLengthInvalid w
  else
    let r := s.wordOp op f.operand (leNat (f.payload.take 8)) f.tenant w
    r.2.syncResponse f r.1.1 r.1.2.1 r.1.2.2.1 r.1.2.2.2

/-- WRITE_IF_EMPTY_FILL (R132). -/
def execWriteIfEmptyFill (t : Nat) (f : Frame) (s : State) : Res := .next ((s.at t).syncOp opWriteIfEmptyFill f)
/-- CONSUME (R132). -/
def execConsume (t : Nat) (f : Frame) (s : State) : Res := .next ((s.at t).syncOp opConsume f)
/-- READ_LEAVE_FULL (R132). -/
def execReadLeaveFull (t : Nat) (f : Frame) (s : State) : Res := .next ((s.at t).syncOp opReadLeaveFull f)
/-- FORCED_WRITE (R132). -/
def execForcedWrite (t : Nat) (f : Frame) (s : State) : Res := .next ((s.at t).syncOp opForcedWrite f)
/-- FETCH_ADD (R132). -/
def execFetchAdd (t : Nat) (f : Frame) (s : State) : Res := .next ((s.at t).syncOp opFetchAdd f)
/-- COMPARE_SWAP (R132). -/
def execCompareSwap (t : Nat) (f : Frame) (s : State) : Res := .next ((s.at t).syncOp opCompareSwap f)

/-! Watches: R143 to R149 -/

/-- The descriptor that a WatchRegister payload lays out (Table 5.9). -/
def watchOf (b : List Nat) (tenant : Nat) : WDesc :=
  { alloc := true, tenant := tenant, armed := true
    word := leNat (slice b 0 4)
    cond := listGet 0 b 4
    persistent := bitOf (listGet 0 b 5) 7
    ref := leNat (slice b 6 2)
    threshold := leNat (slice b 8 8)
    shelf := listGet 0 b 16
    ep := leNat (slice b 18 2)
    cookie := leNat (slice b 20 4) }

/-- The 32 bytes that a Read of region 0x1 returns for descriptor `v` (R143). -/
def State.watchBytes (s : State) (v : Nat) : List Nat :=
  let d := s.desc v
  leBytes 4 d.word ++ [d.cond, if d.persistent then 128 else 0] ++ leBytes 2 d.ref ++ leBytes 8 d.threshold ++ [d.shelf, 0] ++ leBytes 2 d.ep ++
    leBytes 4 d.cookie ++ [if d.armed then 1 else 0, 0, 0, 0] ++ leBytes 4 d.fire

/-- NotifyEndpoint is a participant of the tenant, or a tray endpoint; of another shelf only the range can be told (R149). -/
def State.notifyOk (s : State) (tenant : Nat) (d : WDesc) : Bool :=
  (0x2000 ≤ d.ep && d.ep < 0x2024) ||
  (if d.shelf = s.own then s.pool.doms.any (fun e => e.2.tenant = tenant && e.2.state != 0 && (e.2.binds d.ep).isSome)
   else decide (d.ep < 0x1000))

/-- Reserved fields and condition of a WatchRegister payload. -/
def watchFields (b : List Nat) : Bool :=
  decide (leNat (slice b 0 4) < 262144) && 1 ≤ listGet 0 b 4 && listGet 0 b 4 ≤ 7 && decide (listGet 0 b 5 % 128 = 0) && listGet 0 b 17 = 0 &&
    !anyNonzero (slice b 24 8)

/-- Rows of Table 5.2 that concern a descriptor: held in a live die, allocated, the requester's. -/
def State.watchRows (s : State) (v tenant : Nat) : Option Nat :=
  if s.watchLost (v / dieDescs) then some rsTargetLost
  else if !(s.desc v).alloc then some syWordNotAllocated
  else if tenant ≠ tagService ∧ (s.desc v).tenant ≠ tenant then some rsTenantDenied
  else none

/-- The refusal of a WatchRegister, if any. -/
def State.watchRefused (s : State) (v : Nat) (f : Frame) : Option Nat :=
  let d := watchOf f.payload f.tenant
  if !s.syncService then some rsStateRefused
  else if f.payload.length ≠ 32 then some rsLengthInvalid
  else if addrOffset f.addr % 32 ≠ 0 then some rsOffsetOutOfRange
  else
    match s.watchRows v f.tenant with
    | some c => some c
    | none =>
      if (s.desc v).armed then some syWatchInUse
      else if !watchFields f.payload || !s.notifyOk (s.desc v).tenant d then some syWatchInvalid
      else
        match s.wordCheck opWatchRegister d.word f.tenant with
        | some c => some (if c = syWordNotAllocated ∨ c = rsTenantDenied then syWatchInvalid else c)
        | none => if 4096 ≤ (s.watchesOf d.word).length then some syCapacityExhausted else none

/-- WatchRegister: the descriptor is armed and evaluated at once. -/
def State.watchRegister (s : State) (f : Frame) : State :=
  let v := addrOffset f.addr / 32
  match s.watchRefused v f with
  | some c => s.syncResponse f c 0 false 0
  | none =>
    let d := watchOf f.payload (s.desc v).tenant
    let s1 := (s.setDesc v d).syncWord f rsOk d.word
    if watchTrue d (s1.word d.word) then s1.fireWatch v (s1.word d.word) else s1

/-- WATCH_REGISTER (R149). -/
def execWatchRegister (t : Nat) (f : Frame) (s : State) : Res := .next ((s.at t).watchRegister f)

/-- WatchCancel: an armed descriptor is freed and its unsent message dropped (R148). -/
def State.watchCancel (s : State) (f : Frame) : State :=
  let v := addrOffset f.addr / 32
  if !s.syncService then s.syncResponse f rsStateRefused 0 false 0
  else if f.payload ≠ [] then s.syncResponse f rsLengthInvalid 0 false 0
  else if addrOffset f.addr % 32 ≠ 0 then s.syncResponse f rsOffsetOutOfRange 0 false 0
  else
    match s.watchRows v f.tenant with
    | some c => s.syncResponse f c 0 false 0
    | none => if (s.desc v).armed then (s.disarm v).syncWord f rsOk (s.desc v).word else s.syncResponse f syWatchNotArmed 0 false 0

/-- WATCH_CANCEL (R148). -/
def execWatchCancel (t : Nat) (f : Frame) (s : State) : Res := .next ((s.at t).watchCancel f)

/-! Arrive: R151, R153, R155 -/

/-- A tray node has completed: its shelf node counts it, or is it (R150, R151). -/
def State.trayComplete (s : State) (i : Nat) (n : TrayNode) : State :=
  let d := s.dom i
  let s1 := s.setDom i { d with
    trays := d.trays.map (fun x => if x.link = n.link then { x with arrived := [] } else x) }
  if n.word = d.shelfNode then s1.shelfComplete i
  else
    let s2 := s1.nodeReset n.word
    let c := (s2.word d.shelfNode).data + 1
    let s3 := s2.setDom i { s2.dom i with shelfArrived := n.link :: (s2.dom i).shelfArrived }
    if d.shelfTarget ≤ c then s3.shelfComplete i else s3.nodeCount d.shelfNode c

/-- A hall node of this shelf has completed: it resets and reports upward. -/
def State.hallComplete (s : State) (i : Nat) (h : HallNode) (episode : Nat) : State :=
  let d := s.dom i
  ((s.setDom i { d with halls := d.halls.map (fun x => if x.level = h.level then { x with arrived := [] } else x) }).nodeReset h.word).reportUp
    i episode 5 h.level

/-- The node that an Arrive's source may arrive at: its tray node; for a module, a hall node with that shelf's node among its children. -/
inductive Node where
  | tray (n : TrayNode)
  | hall (h : HallNode)
  deriving DecidableEq, Repr

/-- The node of domain `d` at word `w` that the source of a frame is bound to. -/
def State.nodeFor (s : State) (d : Dom) (f : Frame) (w : Nat) : Option Node :=
  if f.srcEp = 0x1000 then
    if f.srcShelf = s.own then none
    else (d.halls.find? (fun h => decide (h.word = w) && h.children.contains f.srcShelf)).map Node.hall
  else if f.srcShelf ≠ s.own then none
  else (d.trays.find? (fun n => decide (n.word = w ∧ n.first ≤ f.srcEp ∧ f.srcEp < n.first + n.count))).map Node.tray

/-- The refusal of an Arrive, or the domain's slot and the node (R155, after rows 2 to 6 of Table 5.2). -/
def State.arriveCheck (s : State) (f : Frame) : Except Nat (Nat × Node) :=
  let w := frameWord f
  if !s.syncService then .error rsStateRefused
  else if f.payload ≠ [] then .error rsLengthInvalid
  else
    match s.wordCheck opArrive w f.tenant with
    | some c => .error c
    | none =>
      match s.domSlot (f.operand / 2 ^ 48) with
      | none => .error syDomainNotOpen
      | some i =>
        let d := s.dom i
        let ahead := (f.operand / 2 ^ 32 + 65536 - (s.word w).gen) % 65536
        if d.state = 4 then .error syDomainBroken
        else if d.state = 5 then .error syDomainClosed
        else if d.state ≠ 3 then .error syDomainNotOpen
        else
          match s.nodeFor d f w with
          | none => .error syNotBound
          | some n =>
            let there := match n with
              | .tray x => x.arrived.contains f.srcEp
              | .hall h => h.arrived.contains f.srcShelf
            if ahead ≠ 0 then .error (if ahead ≤ 32767 then syEpisodeAhead else syEpisodeStale)
            else if there then .error syDuplicateArrival
            else .ok (i, n)

/-- An accepted arrival at a tray node: the participant waits, its running account ends (R456). -/
def State.arriveTray (s : State) (i : Nat) (n : TrayNode) (ep : Nat) : State :=
  let d := s.dom i
  let s1 := s.setDom i { d with
    trays := d.trays.map (fun x => if x.link = n.link then { x with arrived := ep :: x.arrived } else x)
    waiting := ep :: d.waiting }
  let s2 := { s1 with pow := { s1.pow with running := smErase s1.pow.running ep } }
  let c := (s2.word n.word).data + 1
  if n.count ≤ c then s2.trayComplete i n else s2.nodeCount n.word c

/-- An accepted arrival at a hall node. -/
def State.arriveHall (s : State) (i : Nat) (h : HallNode) (shelf episode : Nat) : State :=
  let d := s.dom i
  let c := (s.word h.word).data + 1
  if h.children.length ≤ c then s.hallComplete i h episode
  else
    (s.setDom i { d with halls := d.halls.map (fun x => if x.level = h.level then { x with arrived := shelf :: x.arrived } else x) }).nodeCount
      h.word c

/-- Arrive: the count before it and the generation after it are answered, then the tree goes on. -/
def State.arrive (s : State) (f : Frame) : State :=
  let w := frameWord f
  match s.arriveCheck f with
  | .error c => s.syncWord f c w
  | .ok (i, n) =>
    let p := s.word w
    let target := match n with
      | .tray x => x.count
      | .hall h => h.children.length
    let done := decide (target ≤ p.data + 1)
    let s1 := s.syncResponse f rsOk p.data p.full (if done then (p.gen + 1) % 65536 else p.gen)
    match n with
    | .tray x => s1.arriveTray i x f.srcEp
    | .hall h => s1.arriveHall i h f.srcShelf p.gen

/-- ARRIVE (R155). -/
def execArrive (t : Nat) (f : Frame) (s : State) : Res := .next ((s.at t).arrive f)

/-! Release: R152 -/

/-- A Release from the parent of a hall node of this shelf: it goes on to the children and to the shelf's own participants. -/
def State.releaseIn (s : State) (f : Frame) : State :=
  match s.domSlot (f.operand / 2 ^ 48) with
  | none => s
  | some i =>
    let d := s.dom i
    let top := if d.halls.isEmpty then 0 else (d.halls.map (·.level)).foldl max 0
    if d.state = 3 ∧ d.hallRelease = some (f.operand / 2 ^ 32 % 65536) ∧ s.parentOf d top = some f.srcShelf ∧ f.srcEp = 0x1000 then
      s.releaseDown i (f.operand / 2 ^ 32 % 65536)
    else s

/-- RELEASE (R152). -/
def execRelease (t : Nat) (f : Frame) (s : State) : Res := .next ((s.at t).releaseIn f)

/-! Background scan: R128, R494 -/

/-- One word with an uncorrectable error is poisoned and reported as a fault of its pool block. -/
def State.poisonWord (s : State) (w : Nat) : State :=
  let p := s.word w
  if !p.alloc || p.poisoned || s.poolLost (w / dieWords) then s
  else (s.setWord w { p with poisoned := true }).raise (97 * (w / dieWords) + blPool) clStorage 2 w lvBlock

/-- One descriptor with an uncorrectable error: a fault of the watch table, which goes to its safe state. -/
def State.badDescriptor (s : State) (v : Nat) : State :=
  if !(s.desc v).alloc || s.watchLost (v / dieDescs) then s
  else s.raise (97 * (v / dieDescs) + blWatch) clStorage 2 v lvBlock true

/-- POOL_SCAN (R494): single-bit errors are corrected in place. -/
def execPoolScan (t : Nat) (single bad badDesc : List Nat) (s : State) : Res :=
  let corrected := single.filter (fun w => !bad.contains w)
  .next ((((s.at t).forEach corrected (fun s w => s.setWord w (s.word w))).forEach bad State.poisonWord).forEach badDesc State.badDescriptor)

/-! Tenants: R134, R135, R138 to R140 -/

/-- Open a slot. -/
def State.tenantOpenCmd (s : State) (k : Nat) : Nat × State :=
  let tag := s.nat (Obj.tenantTag k)
  let taken := fun (q : Nat → Nat) => sumN ((List.range 64).map (fun t => if s.nat (Obj.tenantState t) ≠ 0 ∨ t = k then s.nat (q t) else 0))
  let full := 262144 < taken Obj.wordQuota || 65536 < taken Obj.watchQuota || 4096 < taken Obj.participantQuota
  if s.nat (Obj.tenantState k) ≠ 0 ∨ tag = 0 ∨ tag = tagService ∨ (s.slotOf tag).isSome ∨ full = true then (abState, s)
  else
    match (match s.wordGap 0 1 with
      | some w => some w
      | none => s.wordGap 1 1) with
    | none => (abState, s)
    | some w =>
      let s1 := s.allocWords w 1 tag 2
      let s2 := (((s1.setNat (Obj.tenantState k) 1).setNat (Obj.eventWord k) w).setNat (Obj.lastEvent k) 0).setNat (Obj.accountStart k) s.hall
      let s3 := s2.forEach [Obj.moduleEnergy k, Obj.rackEnergyShare k, Obj.storageDischargeShare k, Obj.storageChargeShare k,
        Obj.exceptionsAttributed k] (fun s o => s.setNat o 0)
      (abNone, { s3 with pow := { s3.pow with opened := if s3.pow.opened.contains k then s3.pow.opened else k :: s3.pow.opened } })

/-- Domains of a tag that are not Free. -/
def State.domsOf (s : State) (tag : Nat) : List Nat := s.domsWhere (fun d => d.tenant = tag)

/-- The steps of R139 once no domain of the tenant is left: watches, descriptors, endpoints, words; the slot is Closed or Quarantined. -/
def State.tenantFinish (s : State) (k : Nat) : State :=
  let tag := s.nat (Obj.tenantTag k)
  let r := s.freeTenant tag
  let s1 := if r.1 = 0 then r.2 else (r.2.count (Obj.leftoverWords k) r.1).tenantEvent tag 6 r.1
  let w := s1.nat (Obj.eventWord k)
  let s2 := (s1.disarmWord w).setWord w {}
  s2.setNat (Obj.tenantState k) (if s2.pool.words.any (fun e => e.2.quarantined && e.2.tenant = tag) then 3 else 0)

/-- What comes before the steps of R139: programs, a load in progress, rings and windows (Table 8.15, R279). -/
def State.tenantLeave (s : State) (k : Nat) : State :=
  let tag := s.nat (Obj.tenantTag k)
  let s0 := match s.pecan.load with
    | some l => if (s.prog l.handle).tenant = tag then s.loadFail l 0x69 255 255 else s
    | none => s
  let s1 := s0.forEach (s0.progsOf tag) (fun s h => (s.stopNow h 0x7F pgUnloading).unload h)
  s1.histCloseTenant k tag

/-- Command 2: close. -/
def State.tenantCloseCmd (s : State) (k : Nat) : Nat × State :=
  if s.nat (Obj.tenantState k) ≠ 1 ∨ s.domsOf (s.nat (Obj.tenantTag k)) ≠ [] then (abState, s)
  else (abNone, (s.tenantLeave k).tenantFinish k)

/-- Close one domain of a tenant that is force closed: on its home everywhere, elsewhere on this shelf (R139, R160). -/
def State.forceDomain (s : State) (i : Nat) : State :=
  let d := s.dom i
  if d.state = 1 ∨ d.state = 2 then s.memberAbort i
  else if d.state = 5 then s
  else if d.home = s.own then (s.domainClose d.id).2
  else s.memberClose i true

/-- Command 3: force close; the slot is Closing while tray words still refuse Arrives (R139, R160). -/
def State.tenantForceCmd (s : State) (k : Nat) : Nat × State :=
  if s.nat (Obj.tenantState k) ≠ 1 then (abState, s)
  else
    let s1 := s.tenantLeave k
    let tag := s1.nat (Obj.tenantTag k)
    let s2 := (s1.forEach (s1.domsOf tag) State.forceDomain).refreshStep
    if s2.domsOf tag = [] then (abNone, s2.tenantFinish k) else (abNone, s2.setNat (Obj.tenantState k) 2)

/-- Command 4, by the service role: quarantined words are emptied and freed. -/
def State.clearQuarantineCmd (s : State) (k : Nat) : Nat × State :=
  let tag := s.nat (Obj.tenantTag k)
  if s.nat (Obj.tenantState k) ≠ 3 then (abState, s)
  else
    let l := (s.pool.words.filter (fun e => e.2.quarantined && e.2.tenant = tag)).map (·.1)
    (abNone, ((s.forEach l (fun s w => s.setWord w {})).setNat (Obj.leftoverWords k) 0).setNat (Obj.tenantState k) 0)

/-- A write of TenantCommand. -/
def State.tenantCommand (s : State) (role : Role) (k v : Nat) : Nat × State :=
  if v = 4 ∧ role ≠ .service then (abRole, s)
  else if v = 1 then s.tenantOpenCmd k
  else if v = 2 then s.tenantCloseCmd k
  else if v = 3 then s.tenantForceCmd k
  else if v = 4 then s.clearQuarantineCmd k
  else (abValue, s)

/-! AllocRequest: R136, R138, R142 -/

/-- The result of an allocation request. -/
def State.allocDone (s : State) (k op code base n : Nat) : State :=
  s.setBlob (Obj.allocResult k) ([op, code, 0, 0] ++ leBytes 4 base ++ leBytes 4 n ++ [0, 0, 0, 0])

/-- Op 1: words. -/
def State.allocWordsOp (s : State) (k : Nat) (b : List Nat) : State :=
  let tag := s.nat (Obj.tenantTag k)
  let n := leNat (slice b 4 4)
  if s.nat (Obj.wordQuota k) < (s.wordsOf tag).length + n then s.allocDone k 1 syQuotaExceeded 0 0
  else
    match (placementDies (listGet 0 b 1) (leNat (slice b 12 4))).filterMap (fun h => s.wordGap h n) with
    | [] => s.allocDone k 1 syCapacityExhausted 0 0
    | w :: _ => (s.allocWords w n tag 0).allocDone k 1 rsOk w n

/-- The refusal of freeing words: one that is not the tenant's, that is managed, or that is quarantined. -/
def State.freeRefused (s : State) (tag base n : Nat) : Option Nat :=
  ((List.range n).filterMap (fun i =>
    let p := s.word (base + i)
    if !p.alloc || p.tenant != tag then some syWordNotAllocated
    else if p.managed != 0 then some syManagedWord
    else if p.quarantined then some syWordQuarantined else none)).head?

/-- Op 2: free words. -/
def State.freeWordsOp (s : State) (k : Nat) (b : List Nat) : State :=
  let tag := s.nat (Obj.tenantTag k)
  let n := leNat (slice b 4 4)
  let base := leNat (slice b 8 4)
  match s.freeRefused tag base n with
  | some c => s.allocDone k 2 c base 0
  | none =>
    let r := s.freeWords ((List.range n).map (base + ·))
    if r.1 = 0 then r.2.allocDone k 2 rsOk base 0
    else ((r.2.count (Obj.leftoverWords k) r.1).tenantEvent tag 6 r.1).allocDone k 2 syLeftoverWords base r.1

/-- Op 3: declare a queue. -/
def State.declareQueueOp (s : State) (k : Nat) (b : List Nat) : State :=
  let tag := s.nat (Obj.tenantTag k)
  let h := leNat (slice b 8 4)
  let t := leNat (slice b 12 4)
  let n := leNat (slice b 16 4)
  let mine := fun w => let p := s.word w; p.alloc && decide (p.tenant = tag) && p.managed = 0 && !p.quarantined && !s.wordLost w
  let q := (s.word h).data
  let r := (s.word t).data
  if !mine h || !mine t then s.allocDone k 3 syWordNotAllocated h 0
  else if h = t ∨ h / dieWords ≠ t / dieWords ∨ (s.queueOf h).isSome ∨ (s.queueOf t).isSome ∨ ¬(r ≤ q ∧ q ≤ r + n) then
    s.allocDone k 3 syWatchInvalid h 0
  else ({ s with pool := { s.pool with queues := { head := h, tail := t, n := n } :: s.pool.queues } }).allocDone k 3 rsOk h 0

/-- Op 4: remove a queue's bounds. -/
def State.undeclareQueueOp (s : State) (k : Nat) (b : List Nat) : State :=
  let tag := s.nat (Obj.tenantTag k)
  let h := leNat (slice b 8 4)
  match s.pool.queues.find? (fun q => q.head = h) with
  | some q =>
    if (s.word h).tenant = tag then
      ({ s with pool := { s.pool with queues := s.pool.queues.filter (· != q) } }).allocDone k 4 rsOk h 0
    else s.allocDone k 4 syWordNotAllocated h 0
  | none => s.allocDone k 4 syWordNotAllocated h 0

/-- Op 5: descriptors. -/
def State.allocDescsOp (s : State) (k : Nat) (b : List Nat) : State :=
  let tag := s.nat (Obj.tenantTag k)
  let n := leNat (slice b 4 4)
  if s.nat (Obj.watchQuota k) < (s.descsOf tag).length + n then s.allocDone k 5 syQuotaExceeded 0 0
  else
    match (placementDies (listGet 0 b 1) (leNat (slice b 12 4))).filterMap (fun h => s.descGap h n) with
    | [] => s.allocDone k 5 syCapacityExhausted 0 0
    | v :: _ => (s.allocDescs v n tag).allocDone k 5 rsOk v n

/-- Op 6: free descriptors. -/
def State.freeDescsOp (s : State) (k : Nat) (b : List Nat) : State :=
  let tag := s.nat (Obj.tenantTag k)
  let n := leNat (slice b 4 4)
  let base := leNat (slice b 8 4)
  let l := (List.range n).map (base + ·)
  if l.any (fun v => !(s.desc v).alloc || (s.desc v).tenant != tag) then s.allocDone k 6 syWordNotAllocated base 0
  else (s.forEach l (fun s v => (s.disarm v).setDesc v {})).allocDone k 6 rsOk base 0

/-- The abort of a malformed request, 0 for a good one (Table 5.7). -/
def allocBad (b : List Nat) : Nat :=
  let op := listGet 0 b 0
  let n := leNat (slice b 4 4)
  let buf := leNat (slice b 16 4)
  let counts := decide (op = 1 ∨ op = 2 ∨ op = 5 ∨ op = 6)
  if b.length ≠ 32 then abLength
  else if anyNonzero (slice b 2 2) || anyNonzero (slice b 20 12) || op = 0 || 6 < op || 3 < listGet 0 b 1 then abValue
  else if (counts ∧ 65536 < n) ∨ (op = 3 ∧ 2147483648 < buf) then abHigh
  else if (counts ∧ n = 0) ∨ (op = 3 ∧ buf = 0) then abLow
  else abNone

/-- A write of AllocRequest executes the request. -/
def State.allocRequest (s : State) (k : Nat) (b : List Nat) : Nat × State :=
  let op := listGet 0 b 0
  if allocBad b ≠ 0 then (allocBad b, s)
  else if s.nat (Obj.tenantState k) ≠ 1 then (abNone, s.allocDone k op syTenantNotOpen 0 0)
  else
    (abNone, match op with
      | 1 => s.allocWordsOp k b
      | 2 => s.freeWordsOp k b
      | 3 => s.declareQueueOp k b
      | 4 => s.undeclareQueueOp k b
      | 5 => s.allocDescsOp k b
      | _ => s.freeDescsOp k b)

/-! WordSet: R141 -/

/-- A tree word that has been set: the node completes where its data is its target count. -/
def State.treeSet (s : State) (w : Nat) : State :=
  let c := (s.word w).data
  match s.pool.doms.find? (fun e => e.2.state = 3 && e.2.treeWords.contains w) with
  | none => s
  | some (i, d) =>
    match d.trays.find? (fun n => n.word = w) with
    | some n => if n.count ≤ c then s.trayComplete i n else s
    | none =>
      if w = d.shelfNode then (if d.shelfTarget ≤ c then s.shelfComplete i else s)
      else
        match d.halls.find? (fun h => h.word = w) with
        | some h => if h.children.length ≤ c then s.hallComplete i h (s.word w).gen else s
        | none => s

/-- A write of WordSet. -/
def State.wordSet (s : State) (b : List Nat) : Nat × State :=
  let w := leNat (slice b 0 4)
  let p := s.word w
  let full := bitOf (listGet 0 b 4) 0
  let gen := leNat (slice b 6 2)
  if b.length ≠ 16 then (abLength, s)
  else if 1 < listGet 0 b 4 ∨ listGet 0 b 5 ≠ 0 then (abValue, s)
  else if 262144 ≤ w then (abHigh, s)
  else if !p.alloc || s.wordLost w || (p.managed != 0 && (full != p.full || gen != p.gen)) then (abState, s)
  else
    let s1 := s.putWord w { p with data := leNat (slice b 8 8), full := full, gen := gen, poisoned := false }
    let s2 := s1.event (97 * (w / dieWords) + blPool) 12 w
    (abNone, if p.managed = 1 then s2.treeSet w else s2)

/-! Domain notices and times: R157, R160, R161 -/

/-- A DomainPeer value from the fabric service of shelf `shelf`: the answer of Table 4.6 or 5.5, and the state. -/
def State.domainPeer (s : State) (shelf : Nat) (b : List Nat) : Nat × State :=
  let stage := listGet 0 b 0
  let home := listGet 0 b 1
  let body := b.drop 8
  if b.length < 8 then (rsLengthInvalid, s)
  else if stage = 0 ∨ 6 < stage ∨ anyNonzero (slice b 4 4) then (0x41, s)
  else if stage < 6 ∧ home ≠ shelf then (rsRoleDenied, s)
  else if stage = 1 then
    match descCheck s.own body with
    | some c => (c, s)
    | none => s.memberStage 1 home (descId body) body
  else
    let r := s.memberStage stage home (leNat (slice b 2 2)) body
    (r.1, r.2.refreshStep)

/-- A notice of one stage; the answer goes out as the result of the write. -/
def State.notice (s : State) (stage shelf : Nat) (b : List Nat) : State :=
  if listGet 0 b 0 = stage then let r := s.domainPeer shelf b; r.2.emit (.answer r.1 Obj.domainPeer) else s.emit (.answer 0x41 Obj.domainPeer)

/-- DOMAIN_PREPARE (R157). -/
def execDomainPrepare (t shelf : Nat) (val : List Nat) (s : State) : Res := .next ((s.at t).notice 1 shelf val)
/-- DOMAIN_COMMIT (R157). -/
def execDomainCommit (t shelf : Nat) (val : List Nat) (s : State) : Res := .next ((s.at t).notice 2 shelf val)
/-- DOMAIN_OPEN (R157). -/
def execDomainOpen (t shelf : Nat) (val : List Nat) (s : State) : Res := .next ((s.at t).notice 3 shelf val)
/-- DOMAIN_ABORT (R157). -/
def execDomainAbort (t shelf : Nat) (val : List Nat) (s : State) : Res := .next ((s.at t).notice 4 shelf val)
/-- DOMAIN_CLOSE_NOTICE (R160). -/
def execDomainCloseNotice (t shelf : Nat) (val : List Nat) (s : State) : Res := .next ((s.at t).notice 5 shelf val)
/-- DOMAIN_BROKEN_NOTICE (R161). -/
def execDomainBrokenNotice (t shelf : Nat) (val : List Nat) (s : State) : Res := .next ((s.at t).notice 6 shelf val)

/-- A member that has not answered within 10 ms fails the creation; the lowest shelf is named. -/
def State.peerTimeout (s : State) : State :=
  match s.pool.create with
  | none => s
  | some c =>
    if c.failed.isNone ∧ c.since + 10 * ms ≤ s.now then
      match c.members.find? (fun m => !c.answered.contains m) with
      | some m => (s.createFail syPeerTimeout m).refreshStep
      | none => s
    else s

/-- PEER_TIMEOUT (R157). -/
def execPeerTimeout (t : Nat) (s : State) : Res := .next (s.at t).peerTimeout

/-- PREPARE_EXPIRY (R157): 100 ms after its preparation a slot that is still Prepared releases its reservation. -/
def execPrepareExpiry (t : Nat) (x : Fin 128) (s : State) : Res :=
  let s1 := s.at t
  let d := s1.dom x.val
  .next (if d.state = 1 ∧ d.prepSince + 100 * ms ≤ s1.now then s1.memberAbort x.val else s1)

/-- One second after a close the tray words are freed; a tenant that was being force closed goes on to its end. -/
def State.trayFree (s : State) (i : Nat) : State :=
  let d := s.dom i
  match d.closedAt with
  | none => s
  | some c =>
    if d.state = 5 ∧ c + sec ≤ s.now then
      let s1 := s.domainFree i
      match s1.slotOf d.tenant with
      | some k => if s1.nat (Obj.tenantState k) = 2 ∧ s1.domsOf d.tenant = [] then s1.tenantFinish k else s1
      | none => s1
    else s

/-- TRAY_NODE_FREE (R160). -/
def execTrayNodeFree (t : Nat) (x : Fin 128) (s : State) : Res := .next ((s.at t).trayFree x.val)

/-! The pacer: R163, R165 -/

/-- An interval tick of the pacer, counted from the first pending completion. -/
def State.waveTick (s : State) : State :=
  let i := s.nat Obj.waveInterval * us
  if s.pool.pending.isEmpty ∨ s.now ≤ s.pool.tickFrom ∨ (s.now - s.pool.tickFrom) % max 1 i ≠ 0 then s else s.runWaves

/-- WAVE_INTERVAL (R165). -/
def execWaveInterval (t : Nat) (s : State) : Res := .next (s.at t).waveTick

/-- The learned weight of one participant (R163). -/
def learnWeight (w : Nat) (r : Rat) : Nat := min 65535 (max 1 (ratRound ((w : Rat) * (1 + (r - 1) / 8))).toNat)

/-- Weights of a link's released participants follow the measured tray power. -/
def State.weightUpdate (s : State) (link : Nat) (before after : Int) : State :=
  let l := smGet (fun _ => {}) s.pool.learn link
  let eps := l.eps.eraseDups
  if s.nat Obj.weightLearning ≠ 1 ∨ eps = [] ∨ s.now < l.lastAt + 40 * us then s
  else
    let r0 : Rat := ((after - before : Int) : Rat) / (s.weightSum eps : Rat)
    let r := if r0 < 1 / 4 then 1 / 4 else if 4 < r0 then 4 else r0
    let s1 := s.forEach eps (fun s e => s.setWeight e (learnWeight (s.weight e) r))
    { s1 with pool := { s1.pool with learn := smErase s1.pool.learn link } }

/-- WEIGHT_UPDATE (R163). -/
def execWeightUpdate (t : Nat) (link : Fin 36) (meanBefore meanAfter : Int) (s : State) : Res :=
  .next ((s.at t).weightUpdate link.val meanBefore meanAfter)

end Sys2Proof.Machine
end

