-- ==== Sys2Proof/Machine/History.lean ====
section
/-! DEFINITION. The meanings of spec/09_history_memory.md and of the forecast commands of spec/10_forecasting.md: ring slots,
channel and window requests, stack failures, the patrol scrub, bindings, publications and bins. -/

namespace Sys2Proof.Machine

/-! Rings and requests: R272, R276, R279, R285 -/

/-- RING_SLOT_ADVANCE (R272). -/
def execRingSlotAdvance (t : Nat) (ch : Nat) (s : State) : Res := .next ((s.at t).advanceRing ch)

/-- No answer yet: a delete waits for the reads that began before it (R279). -/
abbrev abWaits : Nat := 2 ^ 48

/-- A write to ChannelRequest: 0 with the result written, or why the write is refused (R276). -/
def State.channelRequest (s : State) (role : Role) (b : List Nat) : Nat × State :=
  if b.length ≠ 32 then (abLength, s)
  else if !s.channelRole role b then (abRole, s)
  else if s.histBusy then (abState, s)
  else if !reqRingReserved b && listGet 0 b 0 != 1 then (abNone, s.channelDone (listGet 0 b 0) hsParameterInvalid (leNat (slice b 2 2)))
  else
    match listGet 0 b 0 with
    | 1 => (abNone, s.channelDefine b)
    | 2 => let s1 := s.channelDelete b; (if s1.histBusy then abWaits else abNone, s1)
    | 3 => (abNone, s.channelQuery b)
    | 4 => (abNone, s.channelGrants b)
    | op => (abNone, s.channelDone op hsParameterInvalid (leNat (slice b 2 2)))

/-- A write to WindowRequest (R285). -/
def State.windowRequest (s : State) (role : Role) (b : List Nat) : Nat × State :=
  if b.length ≠ 32 then (abLength, s)
  else if !s.windowRole role b then (abRole, s)
  else if s.histBusy then (abState, s)
  else if !reqWindowReserved b && listGet 0 b 0 != 1 then
    (abNone, s.windowDone (listGet 0 b 0) hsParameterInvalid (leNat (slice b 2 2)) 0)
  else
    match listGet 0 b 0 with
    | 1 => (abNone, s.windowDefine b)
    | 2 => (abNone, s.windowFree b)
    | 3 => (abNone, s.windowQuery b)
    | op => (abNone, s.windowDone op hsParameterInvalid (leNat (slice b 2 2)) 0)

/-- The last read of a ring being deleted has ended: it is freed and its request answered. -/
def State.deleteComplete (s : State) (c : Nat) : State :=
  if (s.ringDef c).deleting ∧ !s.ringRead c then
    ((s.removeRing c).channelDone 2 0 c).answerKey Obj.channelRequest abNone
  else s

/-- RING_DELETE_COMPLETE (R279). -/
def execRingDeleteComplete (t : Nat) (ch : Nat) (s : State) : Res := .next ((s.at t).deleteComplete ch)

/-! Stacks: R287 to R289 -/

/-- Class, code and detail with which a stack's failure is entered. -/
def stackCause : StackFail → Nat × Nat
  | .training => (clStorage, 2)
  | .sixteenErrors => (clStorage, 2)
  | .channel => (clCommunication, 5)
  | .powerGood => (clPower, 9)
  | .thermal => (clThermal, 8)

/-- A stack is found failed. -/
def State.stackFails (s : State) (k : Nat) (f : StackFail) : State := s.stackFault k (stackCause f).1 (stackCause f).2 k

/-- STACK_FAILURE (R289). -/
def execStackFailure (t : Nat) (k : Fin 8) (cause : StackFail) (s : State) : Res := .next ((s.at t).stackFails k.val cause)

/-- One row shows a corrected error in scrub pass `n`: a row that did so in an earlier pass is recorded. -/
def markRow (n row : Nat) (l : List RowMark) : Nat × List RowMark :=
  match l.find? (fun m => m.row = row) with
  | none => (0, l ++ [{ row := row, pass := n }])
  | some m =>
    if m.recorded || m.pass = n then (0, l)
    else (1, l.map (fun x => if x.row = row then { x with recorded := true } else x))

/-- Rows with corrected errors of the present pass (R287). -/
def State.markRows (s : State) (k : Nat) (rows : List Nat) : State :=
  let n := s.nat (Obj.scrubPasses k)
  let r := rows.foldl (fun (a : Nat × List RowMark) row => let m := markRow n row a.2; (a.1 + m.1, m.2))
    ((0, smGet (fun _ => []) s.hist.rows k) : Nat × List RowMark)
  ({ s with hist := { s.hist with rows := smSet (fun _ => []) s.hist.rows k r.2 } }).setNat (Obj.rowsToRepair k)
    (min 65535 (s.nat (Obj.rowsToRepair k) + r.1))

/-- The samples that share a 32-byte burst with position `p` become gaps (R287, R288). -/
def RingDef.loseBurst (r : RingDef) (l p : Nat) : RingDef :=
  let n := 32 / r.width
  (List.range n).foldl (fun r i => r.put l (p / n * n + i) gapVal) r

/-- What an uncorrectable error in stack `k` does, by the use of the block it falls in (R288). A block with another copy is rewritten
from it; one of a part's allocation waits for the XFER that reads it. -/
def State.badBlock (s : State) (k : Nat) (b : BadBlock) : State :=
  match b with
  | .ring c l p _ =>
    let r := s.ringDef c
    if r.live && r.mirrorAt = 255 then s.setRingDef c (r.loseBurst l p) else s
  | .part o => { s with pecan := { s.pecan with stackBad := smSet (fun _ => false) s.pecan.stackBad (stackKey k o) true } }
  | .slot n => let x := s.slot n; if x.state = 0 then s else s.setSlot n { x with state := 4 }
  | .image h =>
    let p := s.prog h
    if p.images.length ≤ 1 then
      (s.forEach p.images (fun s k => s.otherSub k p.imageBytes)).setProg h { p with images := [] }
    else s

/-- An uncorrectable error of stack `k`: the 16th in 1 s fails the stack (R289). -/
def State.stackError (s : State) (k : Nat) (b : BadBlock) : State :=
  let l := recentSec (smGet (fun _ => []) s.hist.errTimes k) s.now
  let s1 := ({ s with hist := { s.hist with errTimes := smSet (fun _ => []) s.hist.errTimes k l } }).count (Obj.uncorrectableErrors k)
  let s2 := s1.badBlock k b
  if 16 ≤ l.length then s2.stackFails k .sixteenErrors else s2

/-- One stretch of the patrol scrub of a stack in service: corrected errors with their rows, an uncorrectable error, the end of
the pass. -/
def State.patrol (s : State) (k corrected : Nat) (rows : List Nat) (bad : Option BadBlock) (passEnd : Bool) : State :=
  if s.stackOk k then
    let s1 := (s.count (Obj.correctedErrors2710 k) corrected).markRows k rows
    let s2 := match bad with
      | some b => s1.stackError k b
      | none => s1
    if passEnd then s2.count (Obj.scrubPasses k) else s2
  else s

/-- PATROL_SCRUB (R287). -/
def execPatrolScrub (t : Nat) (k : Fin 8) (corrected : Nat) (rows : List Nat) (bad : Option BadBlock) (passEnd : Bool) (s : State) : Res :=
  .next ((s.at t).patrol k.val corrected rows bad passEnd)

/-! Forecasting: R296, R300 -/

/-- PORT_PUBLICATION (R296). -/
def execPortPublication (t : Nat) (port : Fin 16) (h : Fin 128) (stamp : Nat) (bytes : List Nat) (s : State) : Res :=
  .next ((s.at t).publishPort port.val h.val stamp bytes)

/-- The bin of 250 µs of T that has just ended is evaluated. -/
def State.binEnd (s : State) : State :=
  let t := s.histT
  if t % 250 = 0 ∧ 250 ≤ t then s.evaluateBin (t - 250) else s

/-- BIN_EVALUATION (R300). -/
def execBinEvaluation (t : Nat) (s : State) : Res := .next (s.at t).binEnd

end Sys2Proof.Machine
end

