-- ==== Sys2Proof/Machine/Rings.lean ====
section
/-! DEFINITION. The meanings of spec/13_stack_monitoring.md: measurement cycles, commands and responses on the stack rings, breaks,
enumeration, stack measurement faults, reconnection, balancing. -/

namespace Sys2Proof.Machine

/-- A ring takes part in the module's work: some state in which slices are read. -/
def State.ringsRun (s : State) : Bool := s.mode != .off && s.mode != .ship

/-! Measurement cycle: R388 to R390 -/

/-- The values of a readout that never comes are withdrawn, with those that waited for it (R392). -/
def State.readFailed (s : State) (k a : Nat) : State := (s.dropRead k a).withdraw k a 16

/-- Readouts of the last cycle that have not been made are given up. -/
def State.dropReadouts (s : State) (k : Nat) : State :=
  let r := s.ring k
  let gone := (match r.out with | some c => [c] | none => []) ++ r.queue
  let as_ := (gone.filter (fun c => c.op = rgReadCells)).map (·.addr)
  let keep : Option RCmd := match r.out with
    | some c => if c.op = rgReadCells then none else some c
    | none => none
  let s1 := s.setRing k { r with out := keep, queue := r.queue.filter (fun c => c.op != rgReadCells) }
  s1.forEach as_ (fun s a => s.readFailed k a)

/-- Measure leaves on ring `k`, and the readouts follow (R388). -/
def State.sendMeasure (s : State) (k delay length : Nat) : State :=
  let s1 := s.dropReadouts k
  let r := s1.ring k
  let id := (r.measId + 1) % 256
  let ow := decide (s1.nat Obj.openWireEnable = 1)
  let start := s1.now + 72 * us + delay * 50
  let n := r.nextCounter
  let body := [id, if ow then 1 else 0] ++ beBytes 2 delay ++ beBytes 2 length ++ [0, 0, 0]
  let m : Meas := { id := id, start := start, stop := start + length * 50, openWire := ow }
  let s2 := s1.setRing k { r with counter := n, measId := id, prevMeas := r.meas, meas := m, cycleAt := some s1.now }
  let s3 := s2.forEach (s2.ringPorts k) (fun s b =>
    s.ringSend k { op := rgMeasure, addr := 0xFF, payload := body, fromB := b, counter := n, tries := 1, sentAt := s.now })
  s3.forEach (s3.operatedSlices k) (fun s a => s.ringTo k a rgReadCells [id])

/-- Rings on which a cycle is due now: R388. -/
def State.measureDue (s : State) (k : Nat) : Bool :=
  s.ringWorked k && match (s.ring k).cycleAt with
    | none => true
    | some t => decide (t + s.nat Obj.measurementInterval * ms ≤ s.now)

/-- A measurement cycle starts; `delay` and `length` are what the module computes from its PR sequence (R389), in 50 ns. -/
def State.measureCycle (s : State) (delay length : Nat) : State :=
  let l := s.operated.filter s.measureDue
  if s.ringsRun ∧ !l.isEmpty ∧ 2000 ≤ delay ∧ delay ≤ 20000 ∧ 200 ≤ length ∧ length ≤ 65535 then
    (s.forEach l (fun s k => s.sendMeasure k delay length)).count Obj.measurementCycles
  else s

/-- MEASUREMENT_CYCLE (R388). -/
def execMeasurementCycle (t : Nat) (delay length : Nat) (s : State) : Res := .next ((s.at t).measureCycle delay length)

/-! Commands: R386 -/

/-- RING_COMMAND_ISSUE (R386). -/
def execRingCommandIssue (t : Nat) (k : Fin 2) (s : State) : Res :=
  let s1 := s.at t
  .next (if s1.ringsRun then s1.ringIssue k.val else s1)

/-- A frame's shape and CRC are right (R382, R383). -/
def ringFrameOk (b : List Nat) : Bool :=
  decide (7 ≤ b.length) && b.length = listGet 0 b 4 + 7 && decide (listGet 0 b 4 ≤ 64) &&
    beNat (slice b (b.length - 2) 2) = crc16 (b.take (b.length - 2))

/-- A received frame carries a nonzero reserved field, in its header or its payload (R8, Tables 13.2 to 13.5, R396). -/
def ringReserved (b : List Nat) : Bool :=
  let p := slice b 5 (listGet 0 b 4)
  let op := listGet 0 b 3
  let ack := decide (4 ≤ listGet 0 p (p.length - 3))
  let inside :=
    if listGet 0 b 0 / 64 = 2 then
      if op = rgReadCells then
        [34, 36, 38, 40].any (fun i => decide (16 ≤ listGet 0 p i)) || decide (2 ≤ listGet 0 p 42) || decide (8 ≤ listGet 0 p 45)
      else if op = rgReadStatus then decide (4 ≤ listGet 0 p 11)
      else false
    else if op = rgEnumerate then anyNonzero (slice p 1 3)
    else if op = rgConfigure then anyNonzero (slice p 3 5) || ack
    else if op = rgMeasure then decide (2 ≤ listGet 0 p 1) || ack
    else ack
  listGet 0 b 0 % 32 != 0 || inside

/-- The outstanding command is sent again with its counter (R384, R386). -/
def State.ringRetry (s : State) (k : Nat) (c : RCmd) : State :=
  let c1 := { c with tries := c.tries + 1, sentAt := s.now }
  ((s.setRing k { s.ring k with out := some c1 }).count (Obj.retransmissions2B10 (k + 1))).ringSend k c1

/-- Cells of string `k` are fresh again: the stack measurement fault no longer stands, and the second of R395 begins. -/
def State.measRecover (s : State) (k : Nat) : State :=
  let r := s.ring k
  if r.measFault ∧ s.staleCell k = none then s.setRing k { r with measFault := false, releasedSince := s.now + 1 } else s

/-- What a response with Status Ok does, by opcode (Table 13.3). -/
def State.ringAccept (s : State) (k : Nat) (c : RCmd) (p : List Nat) : State :=
  let a := c.addr
  let x := sliceIdx k a
  if c.op = rgReadCells then (s.cellsRead k a (fitTo 46 p)).measRecover k
  else if c.op = rgReadStatus then
    let s1 := (s.setBlob (Obj.temperatures x) (slice p 1 6)).setNat (Obj.balanceMask x) (beNat (slice p 7 2))
    s1.setRing k { s1.ring k with statusAt := smSet (fun _ => 0) (s1.ring k).statusAt a (s1.now + 1) }
  else if c.op = rgReadIdentity then
    (s.setBlob (Obj.sliceIdentity x) (slice p 1 13)).setNat (Obj.sliceState x) (if listGet 0 p 3 = 1 then 1 else 3)
  else s

/-- Result code of a response with Status Ok (R387). -/
def ringCode (c : RCmd) (p : List Nat) : Nat := if c.op = rgReadIdentity ∧ listGet 0 p 3 ≠ 1 then rrVersionMismatch else 0

/-- A response frame arrives: reserved fields (R8), CRC, address, Counter and Opcode are checked before its results are kept. -/
def State.ringResponse (s : State) (k : Nat) (b : List Nat) : State :=
  let r := s.ring k
  if !ringFrameOk b then
    let s1 := s.count (Obj.crcErrors (k + 1))
    match r.out with
    | some c => s1.setRing k { r with out := some { c with sawCrc := true } }
    | none => s1
  else if ringReserved b then s.setRing k { r with discards := r.discards + 1 }
  else if listGet 0 b 0 / 64 ≠ 2 then s
  else
    let wrong := (s.count (Obj.counterMismatches (k + 1)))
    match r.out with
    | none => wrong
    | some c =>
      if c.isBroadcast ∨ listGet 0 b 1 ≠ c.addr ∨ listGet 0 b 2 ≠ c.counter ∨ listGet 0 b 3 ≠ c.op then
        wrong.setRing k { r with out := some { c with sawMismatch := true } }
      else
        let p := slice b 5 (listGet 0 b 4)
        let st := listGet 0 p 0
        let s1 := s.ringDone k
        if st ≠ 0 then
          let s2 := s1.ringResult k c c.addr rrSliceRefused st
          if c.op = rgReadCells then s2.readFailed k c.addr else s2
        else (s1.ringAccept k c p).ringResult k c c.addr (ringCode c p) 0

/-- RING_RESPONSE (R386, R387, R390 to R394). -/
def execRingResponse (t : Nat) (k : Fin 2) (bytes : List Nat) (s : State) : Res := .next ((s.at t).ringResponse k.val bytes)

/-! Enumeration: R381, R387, R398 -/

/-- Queued commands go to the port that now works their slice: a broadcast waits once for each port (Table 13.1). -/
def State.ringRoute (s : State) (k : Nat) : State :=
  let r := s.ring k
  let m := s.ringMode k
  let q := r.queue.flatMap (fun c =>
    if c.op = rgEnumerate then [c]
    else if c.addr = 0xFF then
      if c.fromB ∧ m ≠ rmSingleB then [] else (s.ringPorts k).map (fun b => { c with fromB := b })
    else [{ c with fromB := m = rmSingleB || (m = rmSplit && decide (r.reachA < c.addr)) }])
  s.setRing k { r with queue := q }

/-- The ring is worked in mode `m` with what the enumeration reached. -/
def State.ringEnter (s : State) (k m ra rb : Nat) : State :=
  let s1 := ((s.setReach k ra rb).setRingMode k m).setNat (Obj.breakAfter (k + 1)) (if m = rmSplit then ra else 0)
  (s1.ringRoute k).ringLearn k

/-- More slices answer than are configured: the ring is never operated again until the next Boot (R3, R387). -/
def State.ringMismatch (s : State) (k : Nat) (fromB : Bool) : State :=
  let b := 97 * (if fromB then 1 else 0) + blRing1 + k
  let s1 := s.setRing k { s.ring k with queue := [], out := none, enumerating := false }
  let s2 := s1.raise b clConfig 11 (k + 1) lvBlock
  (s2.setRingMode k rmConfigMismatch).setNat (Obj.blockState b) 5

/-- An enumeration from a port returns with `m` slices, at port A or B; with none where nothing came back. -/
def State.enumReturn (s : State) (k : Nat) (fromB atB : Bool) (m : Nat) : State :=
  let n := s.slicesOf k
  let r := s.ring k
  let only := !s.operated.contains k
  if only then
    if m = 0 then (s.setRing k { r with enumerating := false, queue := [] }).setRingMode k rmNotOperated else s.ringMismatch k fromB
  else if n < m then s.ringMismatch k fromB
  else if fromB != atB then s.ringEnter k rmClosed m 0
  else if !fromB then
    if s.portOk k true then (s.setRing k { r with reachA := m }).ringEnumerate k true else s.ringEnter k rmSingleA m 0
  else if s.portOk k false then
    if n < r.reachA + m then s.ringMismatch k true else s.ringEnter k rmSplit r.reachA m
  else s.ringEnter k rmSingleB 0 m

/-! Broadcasts: R396, R397 -/

/-- Operated slices that a broadcast from a port reaches. -/
def State.reachedBy (s : State) (k : Nat) (fromB : Bool) : List Nat :=
  let r := s.ring k
  (s.operatedSlices k).filter (fun a =>
    if s.ringMode k = rmSplit then (if fromB then decide (r.reachA < a) else decide (a ≤ r.reachA)) else true)

/-- A broadcast is resolved: each reached slice's result; a ring told to sleep is asleep (Table 14.3). -/
def State.broadcastDone (s : State) (k : Nat) (c : RCmd) (acks : Nat) : State :=
  let s1 := (s.ringDone k).ringResults k c (s.reachedBy k c.fromB) (fun a => if bitOf acks (a - 1) then 0 else rrNotAcknowledged)
  if c.op = rgSleep ∧ (s1.ring k).queue.all (fun x => x.op != rgSleep) then
    (s1.setRing k { s1.ring k with asleep := true }).shipAdvance
  else s1

/-- A frame of the module's own returns to a port: Enumerate with its hop count, a broadcast with its AckMap. -/
def State.frameReturn (s : State) (k : Nat) (atB : Bool) (b : List Nat) : State :=
  let r := s.ring k
  if !ringFrameOk b then
    let s1 := s.count (Obj.crcErrors (k + 1))
    match r.out with
    | some c => s1.setRing k { r with out := some { c with sawCrc := true } }
    | none => s1
  else if ringReserved b then s.setRing k { r with discards := r.discards + 1 }
  else
    match r.out with
    | none => s
    | some c =>
      let p := slice b 5 (listGet 0 b 4)
      let mine := c.isBroadcast && listGet 0 b 0 = 64 + (if c.fromB then 32 else 0) && listGet 0 b 1 = c.addr &&
        listGet 0 b 2 = c.counter && listGet 0 b 3 = c.op
      if !mine then s
      else if c.op = rgEnumerate then (s.ringDone k).enumReturn k c.fromB atB (listGet 0 p 0 - 1)
      else if atB != (c.fromB || s.ringMode k = rmClosed) then s
      else
        let acks := beNat (slice p (p.length - 3) 3)
        if (s.reachedBy k c.fromB).all (fun a => bitOf acks (a - 1)) ∨ 3 ≤ c.tries then s.broadcastDone k c acks
        else s.ringRetry k c

/-- RING_FRAME_RETURN (R387, R397). -/
def execRingFrameReturn (t : Nat) (k : Fin 2) (atB : Bool) (bytes : List Nat) (s : State) : Res :=
  .next ((s.at t).frameReturn k.val atB bytes)

/-- Time the module waits for a command's answer: 400 µs after its last bit, or a broadcast's way round and 20 µs. -/
def State.ringPatience (s : State) (k : Nat) (c : RCmd) : Nat :=
  ringFrameTime c.payload.length + if c.isBroadcast then (s.slicesOf k + 1) * us + 20 * us else 400 * us

/-- No answer: up to two retransmissions, then the result of Table 13.6. -/
def State.ringTimeout (s : State) (k : Nat) : State :=
  match (s.ring k).out with
  | none => s
  | some c =>
    if s.now < c.sentAt + s.ringPatience k c then s
    else if c.tries < 3 then (if s.ringFits k c then s.ringRetry k c else s)
    else if c.op = rgEnumerate then (s.ringDone k).enumReturn k c.fromB c.fromB 0
    else if c.isBroadcast then s.broadcastDone k c 0
    else
      let code := if c.sawMismatch then rrCounterMismatch else if c.sawCrc then rrCrcError else rrNoResponse
      let s1 := (s.ringDone k).ringResult k c c.addr code 0
      if c.op = rgReadCells then s1.readFailed k c.addr else s1

/-- RESPONSE_TIMEOUT (R386, R397). -/
def execResponseTimeout (t : Nat) (k : Fin 2) (s : State) : Res := .next ((s.at t).ringTimeout k.val)

/-! Breaks: R398 to R400 -/

/-- What was on the ring goes back to the front of the queue, to be sent from the other end (R400). -/
def State.ringAbort (s : State) (k : Nat) : State :=
  let r := s.ring k
  match r.out with
  | some c => s.setRing k { r with out := none, queue := if c.op = rgEnumerate then r.queue else { c with tries := 0 } :: r.queue }
  | none => s

/-- A break: a Closed ring is entered as broken; the ring is enumerated again from its ports. -/
def State.ringBroken (s : State) (k : Nat) : State :=
  if !s.ringWorked k then s
  else if s.ringMode k = rmClosed then
    let s1 := (s.count (Obj.ringBreaks (k + 1))).raise (s.block (blRing1 + k)) clCommunication 5 (k + 1) lvBlock
    (s1.ringAbort k).ringRestart k
  else (s.ringAbort k).ringRestart k

/-- RING_BREAK (R398). -/
def execRingBreak (t : Nat) (k : Fin 2) (s : State) : Res := .next ((s.at t).ringBroken k.val)

/-- Every hop has been alive for 1 s: Closed again. -/
def State.ringClosed (s : State) (k : Nat) : State :=
  if s.ringMode k = rmSplit ∧ s.portOk k false ∧ s.portOk k true then
    let s1 := (((s.ringAbort k).setReach k (s.slicesOf k) 0).setRingMode k rmClosed).setNat (Obj.breakAfter (k + 1)) 0
    s1.ringRoute k
  else s

/-- RING_CLOSE (R398). -/
def execRingClose (t : Nat) (k : Fin 2) (s : State) : Res := .next ((s.at t).ringClosed k.val)

/-- A port sends a link pulse where it carries no traffic (R380). -/
def State.linkPulse (s : State) (k : Nat) (atB : Bool) : State :=
  let r := s.ring k
  if s.ringsRun ∧ s.portOk k atB ∧ !r.asleep ∧ r.busyUntil ≤ s.now then
    (s.setRing k (if atB then { r with pulseB := s.now } else { r with pulseA := s.now })).emit (.linkPulse k atB)
  else s

/-- LINK_PULSE (R380). -/
def execLinkPulse (t : Nat) (k : Fin 2) (atB : Bool) (s : State) : Res := .next ((s.at t).linkPulse k.val atB)

/-- A slice has answered with address 0: the ring is enumerated at the next gap between frames (R400). -/
def State.reenumerate (s : State) (k : Nat) : State :=
  if s.ringWorked k ∧ !(s.ring k).enumerating then s.ringEnumerate k (s.ringMode k = rmSingleB) else s

/-- SLICE_REENUMERATE (R400). -/
def execSliceReenumerate (t : Nat) (k : Fin 2) (s : State) : Res := .next ((s.at t).reenumerate k.val)

/-! Stack measurement fault: R395 -/

/-- A configured cell has no released value within CellValueTimeout. -/
def State.stackMeasFault (s : State) (k : Nat) : State :=
  match s.staleCell k with
  | none => s
  | some c =>
    let r := s.ring k
    if !s.operated.contains k ∨ r.measFault ∨ !s.ringsRun then s
    else
      let s0 := s.setRing k { r with measFault := true, releasedSince := 0 }
      let s1 := if s0.stack.cal.string = k + 1 then s0.calEnd 5 else s0
      let s2 := (s1.count (Obj.measurementFaults (k + 1))).raise (s1.block (blRing1 + k)) clSense 5 c lvBlock
      if s2.fidelityModes then (s2.openFor k true 0).updateShares.refreshClamps else s2

/-- STACK_MEASUREMENT_FAULT (R395). -/
def execStackMeasurementFault (t : Nat) (k : Fin 2) (s : State) : Res := .next ((s.at t).stackMeasFault k.val)

/-- The string is connected again: a second of released values, at most once per 60 s, in Ready or Shaping. -/
def State.reconnect (s : State) (k : Nat) : State :=
  let r := s.ring k
  let due := decide (r.releasedSince ≠ 0) && decide (r.releasedSince - 1 + sec ≤ s.now) &&
    (decide (r.lastAttempt = 0) || decide (r.lastAttempt - 1 + 60 * sec ≤ s.now))
  if (s.mode = .ready ∨ s.mode = .shaping) ∧ s.operated.contains k ∧ (s.str k).conn = .opened ∧ due ∧ s.staleCell k = none then
    let s1 := s.setRing k { r with lastAttempt := s.now + 1 }
    let c := s1.startConnect k
    if c.1 = 0 then c.2 else c.2.connectResult k c.1
  else s

/-- STRING_RECONNECT (R395). -/
def execStringReconnect (t : Nat) (k : Fin 2) (s : State) : Res := .next ((s.at t).reconnect k.val)

/-! Balancing: R401, R402 -/

/-- Every BalanceInterval: each operated string chooses the cells to bleed; nothing outside the modes of R401. -/
def State.balanceDue (s : State) : State :=
  if s.fidelityModes ∨ s.mode = .standby ∨ s.mode = .seed then
    s.forEach s.operated (fun s k => if s.ringWorked k then s.balanceString k else s)
  else s

/-- BALANCE_INTERVAL (R402). -/
def execBalanceInterval (t : Nat) (s : State) : Res := .next (s.at t).balanceDue

end Sys2Proof.Machine
end

