-- ==== Sys2Proof/Machine/Estimate.lean ====
section
/-! DEFINITION. The meanings of spec/14_storage_estimation.md: the estimator's update of one cell, trips, limits, reported values,
comparison, persistent and lifetime records, calibration. -/

namespace Sys2Proof.Machine

/-! One released value: R406 to R408, R412 to R416, R423 -/

/-- What the estimator takes from one released value: voltage V, current A, mean current since the last window's centre A, temperature
0.1 °C and rate C (R406). -/
structure EstIn where
  v : Rat
  i : Rat
  ibar : Rat
  t : Rat
  r : Rat
  deriving DecidableEq, Repr

/-- Mean of a sum in mA, as A. -/
def meanA (sum : Int) (n : Nat) : Rat := if n = 0 then 0 else f32 ((sum : Rat) / ((1000 * n : Nat) : Rat))

/-- Inputs of the estimator for the value of cell `cell` in result `rd`. -/
def State.estInputs (s : State) (k cell : Nat) (rd : CellRead) : EstIn :=
  { v := f32 ((listGet 0 rd.cells (cell % 16) : Nat) / (10000 : Rat)), i := meanA rd.meas.iSum rd.meas.iN,
    ibar := meanA rd.meas.barSum rd.meas.barN, t := tempOr25 (s.cellTemp k cell), r := s.rate k }

/-- The string is at rest: its current small for RestTime, or the string open (R415). -/
def State.atRest (s : State) (k : Nat) : Bool :=
  let e := s.estStr k
  let c := (s.str k).conn
  c = .opened || c = .lockedOut || (e.restSince != 0 && decide (e.restSince - 1 + s.nat Obj.restTime * sec ≤ s.now))

/-- The cell's count brought to the window's centre: string charge, and the charge its balancing switch bled (R408). -/
def State.countTo (s : State) (k cell : Nat) (e : EstCell) (rd : CellRead) : EstCell :=
  let cap := s.cellCap k cell
  let c := rd.meas.centre
  let x := e.socAt rd.meas.qCentre cap
  let bleeding := bitOf (s.nat (Obj.balanceMask (sliceIdx k (cell / 16 + 1)))) (cell % 16)
  let span : Nat := if e.balMark = 0 then 0 else (c - (e.balMark - 1)) / us
  let dq : Rat := (200 * listGet 0 rd.cells (cell % 16) * s.nat Obj.balanceDuty * span : Nat) / (2900000 : Rat)
  { e with soc := if bleeding then fSub x (socDrop dq cap) else x, qMark := rd.meas.qCentre, balMark := c + 1 }

/-- The impedance fit and the polarisation state (R412 to R414). -/
def State.fitCell (s : State) (o : Ocv) (e : EstCell) (x : EstIn) (rd : CellRead) : EstCell :=
  let e0 := if e.theta.isEmpty then s.fitStart e else e
  let next := decide (e0.lastId ≠ 0) && decide (e0.lastId % 256 = rd.id)
  let step := f32 ((s.nat Obj.stepMin : Rat) / 1000)
  let d := fSub x.i e0.iPrev
  let excites := next && decide (step ≤ (if d < 0 then -d else d)) && decide (rd.meas.iMax - rd.meas.iMin < s.num Obj.stepMin)
  let z := fSub x.v (o.at e0.soc x.t x.r)
  let left := if !next then 0 else if excites then s.nat Obj.excitationSpan + 1 else e0.left
  let e1 := if excites then { e0 with events := e0.events + 1 } else e0
  let e2 := if 0 < left then s.fitUpdate e1 [e0.zPrev, x.i, e0.iPrev, x.ibar] z else e1
  let e3 := if excites then s.fitJudge { e2 with rsHist := e2.rs :: e2.rsHist.take 15 }
    else if e2.converged && !fitBounds e2 then s.fitStart e2 else e2
  let pol := fAdd (fMul (e3.theta.getD 0 0) e3.pol) (fMul (-(e3.theta.getD 3 0)) x.ibar)
  { e3 with left := left - 1, pol := pol, zPrev := z, iPrev := x.i, lastId := rd.id + 1 }

/-- The pull toward the table (R415), or the first value of a cell that no record restored (R416); with the ocvest it used. -/
def State.pullSoc (s : State) (k : Nat) (o : Ocv) (e : EstCell) (x : EstIn) : EstCell × Option Rat :=
  let rest := s.atRest k
  let ocvest : Option Rat :=
    if rest then some (fAdd x.v e.pol)
    else if e.converged then some (fAdd (fAdd x.v (fMul e.rs x.i)) e.pol) else none
  if !e.known then ({ e with soc := o.inverse (fAdd x.v e.pol) x.t x.r, known := true }, ocvest)
  else
    match ocvest with
    | none => (e, none)
    | some w =>
      let flat := decide (o.slope e.soc x.t x.r < (s.nat Obj.flatSlope : Rat))
      let gain : Rat := if flat then 0 else f32 ((s.nat (if rest then Obj.gainRest else Obj.gainLoad) : Rat) / 65536)
      ({ e with soc := fAdd e.soc (fMul gain (fSub (o.inverse w x.t x.r) e.soc)) }, some w)

/-- A cell trips: its string opens and is locked out, and the cell and the value that tripped, in 0.1 mV or 0.1 °C, are recorded (R423). -/
def State.cellTrip (s : State) (k cell v : Nat) : State :=
  let was := (s.str k).conn
  if was = .lockedOut then s
  else
    let s1 := s.dropString k true 10
    let s2 := s1.event (s1.block (blRing1 + k)) 8 (cell + 65536 * (v % 65536))
    if was = .precharging then s2.goConnect else s2

/-- Extremes of a released value and of the cell's temperature (R428). -/
def State.cellExtremes (s : State) (k cell v : Nat) : State :=
  let mv := divRound v 10
  let s1 := (s.extreme (Obj.voltageExtremes (k + 1)) false mv cell).extreme (Obj.voltageExtremes (k + 1)) true mv cell
  match s.cellTempOwn k cell with
  | some t => (s1.extreme (Obj.temperatureExtremes (k + 1)) false t cell).extreme (Obj.temperatureExtremes (k + 1)) true t cell
  | none => s1

/-- A calibration's endpoint phase takes one ocvest; a cell that lost convergence ends it (R425 to R427). -/
def State.calSample (s : State) (k cell : Nat) (conv : Bool) (w : Option Rat) : State :=
  let c := s.stack.cal
  if c.string ≠ k + 1 then s
  else if !conv then s.calEnd 4
  else
    match w with
    | some v =>
      if (c.phase = 2 ∨ c.phase = 4) ∧ c.heldSince.isNone then
        { s with stack := { s.stack with cal := { c with sums := smModify (fun _ => ((0 : Rat), 0)) c.sums cell (fun p => (p.1 + v, p.2 + 1)) } } }
      else s
    | none => s

/-- The estimator takes the oldest released value that waits under `key` for cell `cell` of string `k`. -/
def State.estTake (s : State) (k cell key : Nat) : State :=
  match s.stack.pendingEst.find? (fun e => e.1 = key) with
  | none => s
  | some (_, rd) =>
    let s1 := { s with stack := { s.stack with pendingEst := s.stack.pendingEst.eraseP (fun e => e.1 = key) } }
    let v := listGet 0 rd.cells (cell % 16)
    let x := s1.estInputs k cell rd
    let e0 := s1.countTo k cell (s1.estCell key) rd
    let s2 := match s1.ocv with
      | none => s1.setEstCell key e0
      | some o =>
        let e1 := s1.fitCell o e0 x rd
        let r := s1.pullSoc k o e1 x
        (s1.setEstCell key r.1).calSample k cell r.1.converged r.2
    let s3 := s2.cellExtremes k cell v
    let hot := match s3.cellTempOwn k cell with
      | some t => decide (s3.num Obj.cellTempTrip ≤ t)
      | none => false
    if v < 10 * s3.nat Obj.cellVoltageTripMin ∨ 10 * s3.nat Obj.cellVoltageTripMax < v then s3.cellTrip k cell v
    else if hot then s3.cellTrip k cell (toPattern 16 ((s3.cellTempOwn k cell).getD 0))
    else s3

/-- The same for the cell's own key. -/
def State.estUpdate (s : State) (k cell : Nat) : State := s.estTake k cell (288 * k + cell)

/-- ESTIMATOR_UPDATE (R415). -/
def execEstimatorUpdate (t : Nat) (k : Fin 2) (cell : Fin 288) (s : State) : Res := .next ((s.at t).estUpdate k.val cell.val)

/-- LIMIT_UPDATE (R420). -/
def execLimitUpdate (t : Nat) (s : State) : Res :=
  let s1 := s.at t
  .next (if s1.ringsRun then s1.limitUpdate else s1)

/-! Reported value and comparison: R407, R419 -/

/-- The reported value of string `k` moves as ReportMode selects. -/
def State.reportSoc (s : State) (k : Nat) : State :=
  let e := s.estStr k
  let est := e.soc * 10000
  let step : Rat := (s.nat Obj.reportRate : Rat) / 600
  let mean : Rat := if e.repN = 0 then 0 else (e.repSum : Rat) / (e.repN : Nat)
  let r : Rat :=
    if s.nat Obj.reportMode = 0 then
      (if e.reported + step < est then e.reported + step else if est < e.reported - step then e.reported - step else est)
    else if (s.nat Obj.dischargeThreshold : Rat) < mean then (if e.reported < est then e.reported else est)
    else est
  (s.setEstStr k { e with reported := r, repSum := 0, repN := 0 }).setNat (Obj.socReported (k + 1)) (ratRound r).toNat

/-- SOC_REPORT_UPDATE (R419). -/
def execSocReportUpdate (t : Nat) (s : State) : Res :=
  let s1 := s.at t
  .next (if s1.ringsRun then s1.forEach s1.operated State.reportSoc else s1)

/-- The two estimators are compared; on a difference the shadow copies the authority's state, which is the one the model holds. -/
def State.estCompare (s : State) (differ : Bool) : State :=
  if s.shadowing ∧ differ then s.count Obj.estimatorMismatches else s

/-- ESTIMATOR_COMPARE (R407). -/
def execEstimatorCompare (t : Nat) (differ : Bool) (s : State) : Res := .next ((s.at t).estCompare differ)

/-! Records: R428, R429 -/

/-- The write of every 600 s of powered time. -/
def State.persistDue (s : State) : State :=
  if s.ringsRun ∧ s.stack.lastPersist + 600 ≤ s.powered then s.persist else s

/-- PERSISTENT_STATE_WRITE (R429). -/
def execPersistentStateWrite (t : Nat) (s : State) : Res := .next (s.at t).persistDue

/-- LIFETIME_UPDATE (R428). -/
def execLifetimeUpdate (t : Nat) (k : Fin 2) (s : State) : Res :=
  let s1 := s.at t
  .next (if s1.connected k.val then s1.lifetimeSecond k.val else s1)

/-- A write to LifetimeClear (R429). -/
def State.lifetimeClear (s : State) (k v : Nat) : Nat × State :=
  if v ≠ 0xA5 then (abValue, s)
  else
    let n := k + 1
    let s1 := s.forEach [Obj.connectedSeconds n, Obj.dischargedThroughput n, Obj.chargedThroughput n, Obj.equivalentCycles n]
      (fun s key => s.setNum key (objDefault key))
    let s2 := s1.forEach [Obj.voltageExtremes n, Obj.currentExtremes n, Obj.temperatureExtremes n, Obj.socHistogram n,
      Obj.temperatureHistogram n, Obj.rateHistogram n, Obj.calibrationHistory n] (fun s key => s.setBlob key (blobDefault key))
    (abNone, (s2.setEstStr k { s2.estStr k with disRest := 0, chgRest := 0 }).persist)

/-- A write to OcvTable (R409). -/
def State.ocvWrite (s : State) (b : List Nat) : Nat × State :=
  if ocvCheck b = 0 then (abNone, s.setBlob Obj.ocvTable b) else (abValue, s)

/-! Calibration: R424 to R427 -/

/-- A calibration phase begins. -/
def State.calPhase (s : State) (n : Nat) : State :=
  { s with stack := { s.stack with cal := { s.stack.cal with
      phase := n, phaseSince := s.now, heldTime := 0, sums := [], centred := false } } }

/-- A write to CalibrationRequest: 0 aborts, 1 or 2 starts (R424). -/
def State.calRequest (s : State) (v : Nat) : Nat × State :=
  if v = 0 then (abNone, s.calEnd 1)
  else if 2 < v then (abHigh, s)
  else if !s.operated.contains (v - 1) then (abValue, s)
  else
    let k := v - 1
    let bad := (s.mode != .ready && s.mode != .shaping) || s.stack.cal.string != 0 || decide ((s.str k).conn = .lockedOut) ||
      (List.range (s.cellCount k)).any (fun i => !(s.estCell (288 * k + i)).converged)
    if bad then (abState, s)
    else
      let s1 := (s.balanceStop k).setNat Obj.calibrationResult 0
      (abNone, ({ s1 with stack := { s1.stack with cal := { string := v, began := s1.now } } } : State).calPhase 1)

/-- Each cell's end of an endpoint phase: the inverse of its mean ocvest; none where a cell has fewer than half of the windows. -/
def State.calAverage (s : State) (k : Nat) : Option (List (Nat × Rat)) :=
  let c := s.stack.cal
  let windows := s.nat Obj.endpointAverage * 1000 / max 1 (s.nat Obj.measurementInterval)
  let l := (List.range (s.cellCount k)).map (fun i => (i, smGet (fun _ => ((0 : Rat), 0)) c.sums i))
  match s.ocv with
  | none => none
  | some o =>
    if l.any (fun e => decide (2 * e.2.2 < windows) || e.2.2 = 0) then none
    else some (l.map (fun e => (e.1, o.inverse (f32 (e.2.1 / (e.2.2 : Nat))) (tempOr25 (s.cellTemp k e.1)) (s.rate k))))

/-- Apply (R426): the capacities that the counted discharge gives, or code 7. -/
def State.calApply (s : State) (k : Nat) : State :=
  let c := s.stack.cal
  let q : Rat := ((c.q4 - c.q2 : Int) : Rat) / 3600000000
  let cn := s.nat Obj.capacityNominal
  let rows := (List.range (s.cellCount k)).map (fun i =>
    let f := smGet (fun _ => (0 : Rat)) c.sFull i
    let e := smGet (fun _ => (0 : Rat)) c.sEmpty i
    let d := fSub f e
    (d, e, if d = 0 then 0 else fDiv (f32 q) d))
  let ok := rows.all (fun r => decide ((4 : Rat) / 5 ≤ r.1) && decide ((cn : Rat) / 2 ≤ r.2.2) && decide (r.2.2 ≤ (cn : Rat) * 6 / 5))
  if !ok then s.calEnd 7
  else
    let key := Obj.cellCapacity (k + 1)
    let caps := (List.range 288).map (fun i => match rows[i]? with
      | some r => (ratRound r.2.2).toNat
      | none => s.cellCap k i)
    let s1 := s.setBlob key (caps.flatMap (leBytes 4))
    let s2 := s1.forEach rows.zipIdx (fun s r =>
      let n := 288 * k + r.2
      s.setEstCell n { s.estCell n with soc := r.1.2.1, qMark := c.q4, balMark := 0, known := true })
    let mean := sumN (caps.take rows.length) / max 1 rows.length
    let hist := Obj.calibrationHistory (k + 1)
    let s3 := s2.setBlob hist (fitTo 64 (leBytes 4 s2.powered ++ leBytes 4 mean ++ s2.blob hist))
    s3.calEnd 0

/-- The end of the phase that runs, where its condition of Table 14.1 holds. -/
def State.calPhaseEnd (s : State) : State :=
  let c := s.stack.cal
  let k := c.string - 1
  if c.string = 0 ∨ c.heldSince.isSome then s
  else
    match c.phase with
    | 1 => match s.cellVMax k with
      | some v => if 10 * s.nat Obj.calibrationFullVoltage ≤ v then s.calPhase 2 else s
      | none => s
    | 3 => match s.cellVMin k with
      | some v => if v ≤ 10 * s.nat Obj.calibrationEmptyVoltage then s.calPhase 4 else s
      | none => s
    | _ =>
      if s.calElapsed < s.nat Obj.endpointAverage * sec then s
      else
        match s.calAverage k with
        | none => s.calEnd 5
        | some l =>
          if c.phase = 2 then ({ s with stack := { s.stack with cal := { c with sFull := l } } } : State).calPhase 3
          else ({ s with stack := { s.stack with cal := { c with sEmpty := l, phase := 5 } } } : State).calApply k

/-- CALIBRATION_PHASE_END (R425, R426). -/
def execCalibrationPhaseEnd (t : Nat) (s : State) : Res := .next (s.at t).calPhaseEnd

/-- CalibrationTimeout has passed since the request. -/
def State.calLate (s : State) : State :=
  let c := s.stack.cal
  if c.string ≠ 0 ∧ c.began + s.nat Obj.calibrationTimeout * sec ≤ s.now then s.calEnd 6 else s

/-- CALIBRATION_TIMEOUT (R427). -/
def execCalibrationTimeout (t : Nat) (s : State) : Res := .next (s.at t).calLate

end Sys2Proof.Machine
end

