-- ==== Sys2Proof/Machine/Dict.lean ====
section
/-! DEFINITION. The dictionary server: what an access may reach, what a value may be, and what an object reads
(spec/19_object_dictionary.md R525 to R530). -/

namespace Sys2Proof.Machine

/-! Roles: R528 -/

/-- Refusal of row 4 of Table 19.4: abort code of row 3, fabric result TenantDenied in bits [39:32]. -/
abbrev abTenant : Nat := abRole + 0x04 * 2 ^ 32

/-- What the Roles column gives a role: 0 nothing, 1 read, 2 read and write. -/
def ObjRow.access (r : ObjRow) : Role → Nat
  | .operator => r.op
  | .tenant _ => r.tn
  | .service => r.sv
  | .vendor => r.vd
  | .agent => r.ma

/-- Role and SensorType are read-only for on-die channels (Table 16.7). -/
def onDieFixed (idx sub : Nat) : Bool := 0x2E60 ≤ idx && idx ≤ 0x2E7F && (sub = 1 || sub = 2)

/-- The tag that a tenant record carries (row 4 of Table 19.4); none where the object is no tenant record. -/
def State.recordTag (s : State) (idx sub : Nat) : Option Nat :=
  let page := idx / 64
  if page = 0x2300 / 64 ∨ page = 0x2580 / 64 ∨ page = 0x2780 / 64 ∨ page = 0x2D80 / 64 ∨ page = 0x3140 / 64 then
    some (s.nat (Obj.tenantTag (idx % 64)))
  else if 0x2240 ≤ idx ∧ idx ≤ 0x22BF then some (s.dom (idx - 0x2240)).tenant
  else if 0x2520 ≤ idx ∧ idx ≤ 0x252F ∧ 4 ≤ sub then
    let x := s.slot (idx - 0x2520)
    if x.state = 0 then none else some x.tenant
  else if 0x2600 ≤ idx ∧ idx ≤ 0x267F then some (s.prog (idx - 0x2600)).tenant
  else none

/-- Rows 1 to 5 of Table 19.4. -/
def State.accessRefused (s : State) (role : Role) (idx sub : Nat) (write : Bool) : Nat :=
  if !((rowsOf idx).any (fun r => decide (r.idxLo ≤ idx ∧ idx ≤ r.idxHi))) then abNoObject
  else
    match descOf idx sub with
    | none => abNoSub
    | some r =>
      let a := r.access role
      let foreign := match role, s.recordTag idx sub with
        | .tenant g, some tag => tag != g
        | _, _ => false
      if a = 0 then abRole
      else if foreign then abTenant
      else if write && (a = 1 || onDieFixed idx sub) then abReadOnly
      else abNone

/-- Values reserved to the service role by their Meaning (R528): row 3. -/
def serviceOnly (idx sub : Nat) (v : Int) : Bool :=
  (idx = 0x3000 && sub = 2 && v = 6) || (0x2300 ≤ idx && idx ≤ 0x233F && sub = 3 && v = 4)

/-! Values: rows 6 to 9 of Table 19.4 -/

/-- The number that bytes hold in a numeric type. -/
def ObjType.value (ty : ObjType) (b : List Nat) : Int :=
  match ty with
  | .num bits true => toSigned bits (leNat b)
  | _ => (leNat b : Nat)

/-- The bytes of a number in a numeric type. -/
def ObjType.encode (ty : ObjType) (v : Int) : List Nat :=
  match ty with
  | .num bits _ => leBytes (bits / 8) (toPattern bits v)
  | _ => []

/-- A length of the type (row 6). -/
def ObjType.lengthOk (ty : ObjType) (n : Nat) : Bool :=
  match ty with
  | .num bits _ => n = bits / 8
  | .oct k => n = k
  | .dom m => n ≤ m

/-- Present value of a bound's object, or the value that the same access writes to it (R529). -/
def State.boundNum (s : State) (ov : List (Nat × Int)) (k : Nat) : Int :=
  match ov.find? (fun e => e.1 = k) with
  | some e => e.2
  | none => s.num k

/-- A bound of a range (R10). -/
def State.bound (s : State) (ov : List (Nat × Int)) (idx : Nat) : Bound → Int
  | .c v => v
  | .o sub off => s.boundNum ov (idx * 256 + sub) + off
  | .k i sub off => s.boundNum ov (i * 256 + sub) + off
  | .k2 i sub => max (s.boundNum ov (i * 256 + sub)) (s.boundNum ov ((i + 1) * 256 + sub))

/-- Codes that a trace channel may take (R347). -/
def traceCode (v : Nat) : Bool :=
  let h := v / 256
  let l := v % 256
  v = 0 || (1 ≤ h && h ≤ 4 && l < 64) || (h = 5 && l < 48) || (h = 6 && l < 4) || (h = 7 && l < 54) || v = 0x0800 || v = 0x0801

/-- Codes of a Sources field (Table 11.10). -/
def sourceCode (v : Nat) : Bool := v ≤ 8 || (16 ≤ v && v ≤ 78)

/-- What the Meaning of an object asks beyond its descriptor: 0, or the code. -/
def State.meaningRefused (s : State) (ov : List (Nat × Int)) (idx sub : Nat) (v : Int) (b : List Nat) : Nat :=
  let bad := fun (p : Bool) => if p then abValue else abNone
  let n := v.toNat
  match idx, sub with
  | 0x2100, 2 => bad ([0x0800, 0x86DD, 0x8100, 0x88A4, 0x88A8, 0x9100].contains n)
  | 0x2100, 4 => bad (decide (16 < n % 16 + n / 16 % 16 + n / 256 % 16 + n / 4096))
  | 0x2203, 1 => if b.length ≠ 8192 then abLength
    else if (List.range 4096).any (fun i => leNat (slice b (2 * i) 2) = 0) then abLow else abNone
  | 0x2A00, 0x11 => bad (!s.isS2 && n != 0)
  | 0x2B00, 2 => bad (!s.isS2 && n != 0)
  | 0x2B00, 8 => if v < 3 * s.boundNum ov Obj.measurementInterval then abLow else abNone
  | 0x2B00, 3 => if s.boundNum ov Obj.cellValueTimeout < 3 * v then abHigh else abNone
  | 0x2930, 3 => bad (decide (4 < n / 256) || decide (7 < n % 256))
  | 0x2931, 1 | 0x2932, 1 | 0x2933, 1 | 0x2934, 1 | 0x2935, 1 | 0x2936, 1 | 0x2937, 1 | 0x2938, 1 => bad (!traceCode n)
  | 0x2C01, 5 => if v < s.boundNum ov Obj.cellVoltageMin then abLow else abNone
  | _, _ =>
    if 0x2940 ≤ idx ∧ idx ≤ 0x297F then
      let i := idx - 0x2940
      if sub = 1 then bad (decide (i < 49) && n != (if i = 0 then 2 else 1))
      else if sub = 2 then bad (decide (49 ≤ i) && !(sourceCode (n % 256) && sourceCode (n / 256)))
      else if sub = 0x0B then bad (decide (2 ^ 35 ≤ n))
      else abNone
    else if 0x2520 ≤ idx ∧ idx ≤ 0x252F ∧ sub = 3 then bad (n % 64 != 0)
    else if 0x2D20 ≤ idx ∧ idx ≤ 0x2D2F ∧ sub = 0x0A then
      if v < s.boundNum ov (idx * 256 + 9) + 5000 then abLow else abNone
    else if (idx = 0x2C21 ∨ idx = 0x2C22) ∧ sub = 2 then
      if b.length ≠ 1152 then abLength
      else
        let l := (List.range 288).map (fun i => leNat (slice b (4 * i) 4))
        if l.any (fun c => decide (500000 < c)) then abHigh else if l.any (fun c => decide (c < 1000)) then abLow else abNone
    else if 0x2E40 ≤ idx ∧ idx ≤ 0x2E7F then
      let c := idx - 0x2E40
      let warn := s.boundNum ov (Obj.warnLimit c)
      let shut := s.boundNum ov (Obj.shutdownLimit c)
      if sub = 1 then bad (decide (c < 32) && n = 3)
      else if sub = 2 then (if 2 < v then abHigh else abNone)
      else if sub = 6 then (if v = 0x7FFF then abNone else if shut < v then abHigh else if v < warn ∧ warn ≠ 0x7FFF then abLow else abNone)
      else if sub = 7 then (if 32 ≤ c ∧ (roleLimits (chanRole c)).2.2 < v then abHigh else abNone)
      else if sub = 9 then bad ([n % 256, n / 256].any (fun m => m != 0xFF && decide (64 ≤ m)))
      else abNone
    else abNone

/-- Rows 6 to 9: what is wrong with the bytes written to an object, its bounds taken with the values `ov` of the same access. -/
def State.valueRefused (s : State) (ov : List (Nat × Int)) (idx sub : Nat) (b : List Nat) : Nat :=
  match descOf idx sub with
  | none => abNoSub
  | some r =>
    if !r.ty.lengthOk b.length then abLength
    else
      let v := r.ty.value b
      let c := match r.rule with
        | .any => abNone
        | .range lo hi => if s.bound ov idx hi < v then abHigh else if v < s.bound ov idx lo then abLow else abNone
        | .enum l => if l.contains v then abNone else abValue
        | .mask m => if v.toNat &&& m = v.toNat then abNone else abValue
      let c1 := s.meaningRefused ov idx sub v b
      if c1 = abValue ∨ c1 = abLength then c1 else if c ≠ abNone then c else c1

/-! State rules: row 10 of Table 19.4 -/

/-- The object belongs to a service that Seed does not offer (Table 18.5). -/
def seedHidden (idx : Nat) : Bool := (0x2100 ≤ idx && idx ≤ 0x28FF) || 0x6000 ≤ idx

/-- Records of string 2, which an S1 does not operate (R530). -/
def stringTwo (idx : Nat) : Bool := [0x2A22, 0x2B12, 0x2C12, 0x2C22, 0x2C42].contains idx

/-- Objects that accept writes in PREOP only (R531). -/
def preopOnly (idx : Nat) : Bool :=
  (0x1600 ≤ idx && idx ≤ 0x1601) || (0x1A00 ≤ idx && idx ≤ 0x1A03) || (0x1C12 ≤ idx && idx ≤ 0x1C33)

/-- Coefficients, Shifts and clamps of an instance. -/
def coefSub (sub : Nat) : Bool := 4 ≤ sub && sub ≤ 0x0D

/-- Objects written in Standby only: R126, Table 12.7, R377, R405, Table 16.7. -/
def standbyOnly (idx sub : Nat) : Bool :=
  (idx = 0x2100 && sub ≤ 4) || (0x2A40 ≤ idx && idx ≤ 0x2A75) ||
  (idx = 0x2A00 && (sub = 0x0F || sub = 0x10 || sub = 0x11 || sub = 4)) ||
  (idx = 0x2B00 && (sub = 1 || sub = 2)) || (0x2E40 ≤ idx && idx ≤ 0x2E7F && sub = 1)

/-- Limit and calibration objects, which no write reaches while a calibration runs (R434, R436). -/
def calLocked (idx sub : Nat) : Bool :=
  (idx = 0x2C00 && sub ≤ 0x0E) || (idx = 0x2C01 && 4 ≤ sub) || ((idx = 0x2C21 || idx = 0x2C22) && sub = 2)

/-- Tenant quotas and tags, written only while their slot is Closed (R134, R263, Table 9.14). -/
def quotaObj (idx sub : Nat) : Bool :=
  (0x2300 ≤ idx && idx ≤ 0x233F && (sub = 1 || sub = 4 || sub = 6 || sub = 8)) ||
  (0x2580 ≤ idx && idx ≤ 0x25BF && sub ≤ 6) || (0x2780 ≤ idx && idx ≤ 0x27BF && (sub = 1 || sub = 3))

/-- A write that its object's own rules refuse in the present state. -/
def State.stateRefused (s : State) (idx sub : Nat) (v : Int) : Bool :=
  (s.mode = .seed && seedHidden idx) ||
  (!s.isS2 && stringTwo idx) ||
  (preopOnly idx && s.dict.esc != .preop) ||
  (standbyOnly idx sub && s.mode != .standby) ||
  (calLocked idx sub && s.stack.cal.string != 0) ||
  (quotaObj idx sub && s.nat (Obj.tenantState (idx % 64)) != 0) ||
  (0x2300 ≤ idx && idx ≤ 0x233F && sub = 1 &&
    (List.range 64).any (fun t => t != idx % 64 && s.nat (Obj.tenantState t) != 0 && decide (s.num (Obj.tenantTag t) = v))) ||
  (0x2940 ≤ idx && idx ≤ 0x2970 && sub ≤ 0x0D && (s.mode = .shaping || s.mode = .hold)) ||
  (0x2942 ≤ idx && idx ≤ 0x2970 && coefSub sub && s.nat Obj.phaseTuning = 0) ||
  (((idx = 0x2930 && 3 ≤ sub) || (0x2931 ≤ idx && idx ≤ 0x2938 && sub = 1)) &&
    (s.eng.trace.state = 1 || s.eng.trace.state = 2 || s.eng.trace.state = 3)) ||
  (0x2520 ≤ idx && idx ≤ 0x252F && sub = 3 && (s.slot (idx - 0x2520)).state != 0)

/-! The stored configuration: R532, R533, R546 -/

/-- Keys of the stored set in ascending order of index and subindex. -/
def storedKeys : List Nat :=
  allRows.flatMap (fun g => (List.range (g.2.1 + 1 - g.1)).flatMap (fun i =>
    let idx := g.1 + i
    g.2.2.flatMap (fun r =>
      if r.stored && decide (r.idxLo ≤ idx ∧ idx ≤ r.idxHi) then
        ((List.range (r.subHi + 1 - r.subLo)).map (fun j => idx * 256 + r.subLo + j)).filter (fun k => !onDieFixed idx (k % 256))
      else [])))

/-- The bytes held for an object. -/
def State.heldBytes (s : State) (k : Nat) : List Nat :=
  match descOf (k / 256) (k % 256) with
  | some r => match r.ty with
    | .num _ _ => r.ty.encode (s.num k)
    | _ => s.blob k
  | none => []

/-- One step of the CRC-32 of IEEE 802.3 (PRESUMED: the spec names no polynomial, log entry 55). -/
def crc32Step (c : Nat) : Nat := if c % 2 = 1 then (c / 2) ^^^ 0xEDB88320 else c / 2

/-- CRC-32 of bytes. -/
def crc32 (l : List Nat) : Nat :=
  (l.foldl (fun c b => (List.range 8).foldl (fun c _ => crc32Step c) (c ^^^ (b % 256))) 0xFFFFFFFF) ^^^ 0xFFFFFFFF

/-- Bytes up to a multiple of `n`. -/
def padTo (n : Nat) (l : List Nat) : List Nat := fitTo ((l.length + n - 1) / n * n) l

/-- The records of a CONFIG file (R546). -/
def configRecords (l : List (Nat × List Nat)) : List Nat :=
  l.flatMap (fun e => leBytes 2 (e.1 / 256) ++ [e.1 % 256, 0] ++ leBytes 4 e.2.length ++ padTo 4 e.2)

/-- The newer stored copy. -/
def State.storedNow (s : State) : Option StoredCfg :=
  match s.dict.storedA, s.dict.storedB with
  | some a, some b => some (if b.seq ≤ a.seq then a else b)
  | some a, none => some a
  | none, b => b

/-! Hall time: R118, R119 -/

/-- The reachable shelf with the lowest number (R118). -/
def State.timeRoot (s : State) : Nat :=
  ((List.range (s.nat Obj.shelfNumber)).find? (fun p => (s.route p 0).isSome)).getD (s.nat Obj.shelfNumber)

/-- This module is the time root. -/
def State.isRoot (s : State) : Bool := s.timeRoot = s.nat Obj.shelfNumber

/-- HallTimeState: 0 free-running, 1 acquiring, 2 locked, 3 root. -/
def State.hallTimeNow (s : State) : Nat :=
  if !s.fabricOn 0 && !s.fabricOn 1 then 0 else if s.isRoot then 3 else if s.fab.htLocked then 2 else 1

/-! What objects read -/

/-- 1 for true. -/
def bit (b : Bool) (i : Nat) : Nat := if b then 2 ^ i else 0

/-- CoverageInForce (R495). -/
def State.coverageNow (s : State) : Nat :=
  let d := s.nat Obj.openWireEnable = 1 && s.pecan.halted.all (fun e => !e.2)
  let h := s.healthy 0 || s.healthy 1
  let r := !s.pow.outside
  let z := s.boot.zheudFirmware
  bit (d && h && r && z) 0 + bit r 1 + bit d 2 + bit z 3 + bit h 4

/-- ErrorRegister (Table 19.6). -/
def State.errorRegister (s : State) : Nat := bit (decide (s.unackOf 0 + s.unackOf 1 ≠ 0)) 7 + bit (s.mode = .safe) 0

/-- RectifierState (Table 11.6). -/
def State.rectState (s : State) (r : Nat) : Nat :=
  if !bitOf (s.nat Obj.rectifiersFitted) r then 0
  else if (s.rect r).fault then 3 else if (s.rect r).answering then 1 else 2

/-- ContactorState (Table 12.6). -/
def State.contactorState (s : State) (k : Nat) : Nat :=
  let t := s.str k
  bit t.negDrive 0 + bit t.posDrive 1 + bit t.preDrive 2 + bit t.negFb 3 + bit t.posFb 4 + bit t.preFb 5

/-- SessionState (Table 20.12). -/
def State.sessionState (s : State) : Nat :=
  bit (s.dict.lockUntil != 0) 8 +
    sumN ((List.range 4).map (fun k => (smGet (fun _ => {}) s.dict.sessions k : Session).level * 4 ^ k))

/-- Version of an active image; `none` is the image the module was shipped with (log entry 15). -/
def activeVersion (kind : Nat) : Option Image → Nat
  | some x => x.version
  | none => Config.shippedVersion kind % 2 ^ 32

/-- RollbackIndex of an active image. -/
def activeRollback (kind : Nat) : Option Image → Nat
  | some x => x.rollback
  | none => Config.shippedRollback kind % 64

/-- Version of a pending image, 0 where there is none. -/
def pendingVersion : Option Image → Nat
  | some x => x.version
  | none => 0

/-- Bit g of the arrays that a program's parts are on, arrays `lo` to `lo` + 63. -/
def ProgSt.arrayMap (p : ProgSt) (lo : Nat) : Nat :=
  (List.range 64).foldl (fun m i => m + bit (p.parts.any (fun q => q.array = lo + i)) i) 0

/-- Numeric objects that the typed state holds. -/
def State.liveNum (s : State) (idx sub : Nat) : Option Nat :=
  match idx, sub with
  | 0x1001, 0 => some s.errorRegister
  | 0x1010, 1 => some (if s.dict.storing.isSome then 0 else 1)
  | 0x1018, 2 => some (if s.isS2 then 0x08120002 else 0x08120001)
  | 0x1018, 4 => some (Config.fuseNum Obj.serialNumber)
  | 0x2000, 4 => some (Config.fuseNum Obj.manufactureDate)
  | 0x2000, 5 => some (if s.boot.verifiedA then activeVersion 1 s.dict.imagesA.mainActive else 0)
  | 0x2000, 6 => some (if s.boot.verifiedB then activeVersion 1 s.dict.imagesB.mainActive else 0)
  | 0x2000, 7 => some (activeVersion 2 s.dict.imagesA.seedActive)
  | 0x2010, 1 => some (s.halfState 0)
  | 0x2010, 2 => some (s.halfState 1)
  | 0x2010, 3 => some s.hold.channels
  | 0x2020, 1 => some (if s.escB then 2 else 1)
  | 0x10F0, 1 => some (match s.storedNow with | some c => crc32 (configRecords c.recs) | none => 0)
  | 0x2100, 8 => some s.hallTimeNow
  | 0x2100, 9 => some s.timeRoot
  | 0x2100, 0x0B => some s.hall
  | 0x2200, 1 => some s.poolWordsNow
  | 0x2200, 2 => some s.poolWordsFreeNow
  | 0x2200, 3 => some (countP (fun e => e.2.quarantined) s.pool.words)
  | 0x2200, 4 => some s.watchesFreeNow
  | 0x2200, 5 => some (countP (fun e => e.2.state != 0) s.pool.doms)
  | 0x2201, 3 => some s.pool.pending.length
  | 0x2400, 7 => some s.arraysAvailableNow
  | 0x2500, 1 => some (countP (fun e => e.2.state != pgFree) s.pecan.progs)
  | 0x2930, 2 => some s.eng.trace.state
  | 0x2A00, 0x12 => some ((List.range 48).foldl (fun m n => m + bit (s.phase n).active n) 0)
  | 0x2A00, 0x13 => some ((List.range 48).foldl (fun m n => m + bit (s.phase n).faulted n) 0)
  | 0x2A00, 0x17 => some s.conv.mux
  | 0x2A21, 1 => some (s.contactorState 0)
  | 0x2A22, 1 => some (s.contactorState 1)
  | 0x2A21, 2 => some (s.str 0).conn.code
  | 0x2A22, 2 => some (s.str 1).conn.code
  | 0x2C01, 1 => some s.stack.cal.string
  | 0x2C01, 2 => some s.stack.cal.phase
  | 0x2C11, 9 => some (countP (fun i => (s.estCell i).converged) (List.range (s.cellCount 0)))
  | 0x2C12, 9 => some (countP (fun i => (s.estCell (288 + i)).converged) (List.range (s.cellCount 1)))
  | 0x2F00, 1 => some s.phaseNow
  | 0x2F00, 2 => some s.coverageNow
  | 0x2F00, 3 => some (s.unackOf 0)
  | 0x2F00, 4 => some (s.unackOf 1)
  | 0x2F10, 1 => some s.holder
  | 0x2F10, 2 => some (if s.hold.transferTo != 0 then 1 else 0)
  | 0x2F10, 4 => some (bit s.hold.latchA 0 + bit s.hold.latchB 1)
  | 0x3000, 1 => some s.mode.code
  | 0x3000, 3 => some s.bootStageNow
  | 0x3000, 4 => some s.failsInWindow.length
  | 0x3000, 9 => some (s.powered % 2 ^ 32)
  | 0x3100, 1 => some (if s.dict.opKeys.isEmpty then 0 else 1)
  | 0x3100, 5 => some (max s.dict.fusesA s.dict.fusesB)
  | 0x3104, 4 => some s.sessionState
  | _, _ =>
    if 0x2300 ≤ idx ∧ idx ≤ 0x233F then
      let t := idx - 0x2300
      let open_ := s.nat (Obj.tenantState t) != 0
      if sub = 5 then some (if open_ then (s.wordsOf (s.nat (Obj.tenantTag t))).length else 0)
      else if sub = 7 then some (if open_ then (s.descsOf (s.nat (Obj.tenantTag t))).length else 0)
      else none
    else if 0x2240 ≤ idx ∧ idx ≤ 0x22BF then
      let d := s.dom (idx - 0x2240)
      match sub with
      | 1 => some d.id
      | 2 => some d.state
      | 3 => some d.tenant
      | 4 => some d.home
      | 5 => some d.total
      | 6 => some (if d.state = 0 then 0 else (s.word d.shelfNode).gen)
      | 7 | 8 => none
      | _ => match d.trays.find? (fun n => n.link + 9 = sub) with
        | some n => some (n.word * 2 ^ 32 + n.first * 65536 + n.count)
        | none => some 0
    else if 0x2480 ≤ idx ∧ idx ≤ 0x24FF then
      let g := idx - 0x2480
      if sub = 1 then some (s.arr g).power
      else if sub = 2 then some (bit (s.fastOn g) 0 + bit ((s.partsOn g).any (fun e => (s.prog e.1).lane = 2)) 1)
      else if 3 ≤ sub ∧ sub ≤ 6 then some ((s.accountArr g).nat (idx * 256 + sub))
      else none
    else if 0x2520 ≤ idx ∧ idx ≤ 0x252F then
      let x := s.slot (idx - 0x2520)
      if sub = 1 then some x.state else if sub = 2 then some x.tenant else if sub = 3 then some x.size else none
    else if 0x2600 ≤ idx ∧ idx ≤ 0x267F then
      let p := s.prog (idx - 0x2600)
      match sub with
      | 1 => some p.state
      | 2 => some p.tenant
      | 3 => some p.lane
      | 4 => some p.partCount
      | 5 => some (p.arrayMap 0)
      | 6 => some (p.arrayMap 64)
      | 7 => some (p.decls.foldl (fun m d => max m d.declared) 0)
      | 8 => some p.maxCycles
      | 9 => some (p.completions % 2 ^ 32)
      | 0x0A => some (p.skipped % 2 ^ 32)
      | 0x0B => some (p.misses % 2 ^ 32)
      | 0x0C => some p.stopReason
      | 0x0D => some p.priority
      | 0x0E => some (match p.run with | some r => r.e | none => 0)
      | 0x10 => some p.mailboxBase
      | 0x11 => some (p.placements % 2 ^ 32)
      | 0x13 => some (p.coalesced % 2 ^ 32)
      | _ => none
    else if 0x2920 ≤ idx ∧ idx ≤ 0x292B ∧ sub = 1 then some (s.rectState (idx - 0x2920))
    else none

/-- Bytes of a text, padded with 0x00. -/
def text (n : Nat) (l : List Nat) : List Nat := fitTo n l

/-- A fused byte string of `n` bytes. -/
def fused (key n : Nat) : List Nat := (List.range n).map (fun i => Config.fuseByte key i % 256)

/-- PartNumber: "DV-8120-S1" or "DV-8120-S2". -/
def State.partNumber (s : State) : List Nat :=
  text 16 [0x44, 0x56, 0x2D, 0x38, 0x31, 0x32, 0x30, 0x2D, 0x53, if s.isS2 then 0x32 else 0x31]

/-- Bits to bytes, bit 0 first. -/
def bitBytes (n : Nat) (f : Nat → Bool) : List Nat :=
  (List.range n).map (fun i => (List.range 8).foldl (fun v j => v + bit (f (8 * i + j)) j) 0)

/-- KeyIds of the slots `lo` to `lo + n - 1` of a store; zeros where a slot is empty. -/
def keyIds (l : List (Nat × List Nat)) (n : Nat) : List Nat :=
  (List.range n).flatMap (fun i => match l.find? (fun e => e.1 = i) with
    | some e => keyId e.2
    | none => List.replicate 16 0)

/-- Cell impedance of string `k`: Rs and Rp in nΩ, tau in µs. -/
def State.impedanceBytes (s : State) (k : Nat) : List Nat :=
  (List.range 288).flatMap (fun i =>
    let e := s.estCell (288 * k + i)
    let n := fun (r : Rat) (m : Nat) => leBytes 4 (clampI 0 0xFFFFFFFF (ratRound (r * m))).toNat
    n e.rs 1000000000 ++ n e.rp 1000000000 ++ n e.tau 1000000)

/-- Cell states of charge of string `k`, 0.01 %. -/
def State.cellSocBytes (s : State) (k : Nat) : List Nat :=
  (List.range 288).flatMap (fun i =>
    leBytes 2 (clampI 0 10000 (ratRound ((s.estCell (288 * k + i)).socAt (s.estStr k).q (s.cellCap k i) * 10000))).toNat)

/-- A failed start's entry of FailedStartLog (R502). -/
def failEntry (e : Nat × Nat × Nat × Nat) : List Nat := leBytes 4 e.1 ++ [e.2.1 % 256, e.2.2.1 % 256] ++ leBytes 2 e.2.2.2

/-- Byte strings that the typed state holds. -/
def State.liveBytes (s : State) (idx sub : Nat) : Option (List Nat) :=
  match idx, sub with
  | 0x1008, 0 | 0x2000, 1 => some s.partNumber
  | 0x1009, 0 => some (fused Obj.hardwareVersion 16)
  | 0x100A, 0 => some ((List.range 16).map (fun i =>
      Config.versionText (activeVersion 1 (if s.escB then s.dict.imagesB.mainActive else s.dict.imagesA.mainActive)) i % 256))
  | 0x2000, 3 => some (fused Obj.moduleSerial 16)
  | 0x2000, 8 => some (fused Obj.dieIdentities 160)
  | 0x2420, 1 => some ((refCurve 0).flatMap (leBytes 4))
  | 0x2420, 2 => some ((refCurve 1).flatMap (leBytes 4))
  | 0x2420, 3 => some ((refCurve 2).flatMap (leBytes 4))
  | 0x2800, 0x14 => some (fitTo 64 (smGet (fun _ => {}) s.fc.ports 3 : PortSt).bytes)
  | 0x2800, 0x15 => some (fitTo 576 (smGet (fun _ => {}) s.fc.ports 1 : PortSt).bytes)
  | 0x2800, 0x16 => some (fitTo 448 (smGet (fun _ => {}) s.fc.ports 2 : PortSt).bytes)
  | 0x2B11, 0x0A => some (s.cellsValidBytes 0)
  | 0x2B12, 0x0A => some (s.cellsValidBytes 1)
  | 0x2C21, 1 => some (s.cellSocBytes 0)
  | 0x2C22, 1 => some (s.cellSocBytes 1)
  | 0x2C21, 2 => some ((List.range 288).flatMap (fun i => leBytes 4 (s.cellCap 0 i)))
  | 0x2C22, 2 => some ((List.range 288).flatMap (fun i => leBytes 4 (s.cellCap 1 i)))
  | 0x2C21, 3 => some (s.impedanceBytes 0)
  | 0x2C22, 3 => some (s.impedanceBytes 1)
  | 0x2C21, 4 => some (bitBytes 36 (fun i => (s.estCell i).converged))
  | 0x2C22, 4 => some (bitBytes 36 (fun i => (s.estCell (288 + i)).converged))
  | 0x2203, 1 => some ((List.range 4096).flatMap (fun e => leBytes 2 (s.weight e)))
  | 0x3000, 5 => some (fitTo 64 ((s.boot.failLog.take 8).flatMap failEntry))
  | 0x3100, 2 => some (keyIds s.dict.opKeys 8)
  | 0x3100, 7 => some ((List.range 4).flatMap (fun j => keyId (zheudKey j)))
  | 0x3100, 8 => some (keyId (zheudKey 5))
  | 0x3100, 9 => some (leBytes 4 (pendingVersion s.dict.imagesA.mainPending) ++ leBytes 4 (pendingVersion s.dict.imagesB.mainPending) ++
      [activeRollback 1 s.dict.imagesA.mainActive, activeRollback 1 s.dict.imagesB.mainActive, activeRollback 2 s.dict.imagesA.seedActive,
       activeRollback 2 s.dict.imagesB.seedActive, s.dict.lastVerify, 0, 0, 0])
  | 0x3101, 2 => some (keyIds s.authorKeys 16)
  | 0x3103, 2 => some (zheudKey 5)
  | _, _ =>
    if 0x2520 ≤ idx ∧ idx ≤ 0x252F then
      let x := s.slot (idx - 0x2520)
      if sub = 5 then some x.result else if sub = 6 then some x.progId else none
    else if 0x2600 ≤ idx ∧ idx ≤ 0x267F ∧ sub = 0x12 then some (fitTo 16 (s.prog (idx - 0x2600)).progId)
    else if 0x2931 ≤ idx ∧ idx ≤ 0x2938 ∧ sub = 2 then some (s.traceBytes (idx - 0x2931))
    else if 0x2940 ≤ idx ∧ idx ≤ 0x297F ∧ sub = 0x0F then
      let i := s.inst (idx - 0x2940)
      some ([i.e1, i.e2, i.e3, i.u1, i.u2, i.u3].flatMap (fun v => leBytes 4 (toPattern 32 v)))
    else if 0x2D10 ≤ idx ∧ idx ≤ 0x2D17 ∧ sub = 5 then some ((List.range 8).map (fun p => Config.fusedCode (idx - 0x2D10) p % 256))
    else if 0x2F20 ≤ idx ∧ idx ≤ 0x2FE1 ∧ sub = 5 then some (s.queueBytes (idx - 0x2F20))
    else none

/-- Stored numeric value of an object, or what the typed state holds. -/
def State.readNum (s : State) (idx sub : Nat) : Int :=
  if s.mode = .seed ∧ seedHidden idx then objDefault (idx * 256 + sub)
  else match s.liveNum idx sub with
    | some v => v
    | none => s.num (idx * 256 + sub)

/-- A DOMAIN whose write executes a request reads zeros (R528); a histogram has its whole length. -/
def domainBytes (r : ObjRow) (idx m : Nat) (b : List Nat) : List Nat :=
  if r.cmd then List.replicate m 0 else if idx = 0x2C41 ∨ idx = 0x2C42 then fitTo m b else b

/-- The bytes an existing object reads (R528). -/
def State.readObj (s : State) (idx sub : Nat) : List Nat :=
  match descOf idx sub with
  | none => []
  | some r =>
    match r.ty with
    | .num _ _ => r.ty.encode (s.readNum idx sub)
    | ty =>
      let k := idx * 256 + sub
      let b := if s.mode = .seed && seedHidden idx then blobDefault k
        else match s.liveBytes idx sub with
          | some b => b
          | none => s.blob k
      match ty with
      | .dom m => domainBytes r idx m b
      | _ => b

/-- A read access: abort code, and the value (R526, R528). -/
def State.dictRead (s : State) (role : Role) (idx sub : Nat) : Nat × List Nat :=
  let c := s.accessRefused role idx sub false
  if c ≠ abNone then (c, []) else (abNone, s.readObj idx sub)

/-! LastWrite: R525 -/

/-- Code of a path in LastWrite (Table 19.16). A broadcast comes through region 0x4 of each shelf (R543). -/
def pathCode : Path → Nat
  | .coe => 1
  | .mirror | .broadcast => 2
  | .process => 3
  | .config => 4

/-- A write has been applied: WriteSequence and LastWrite. -/
def State.noteWrite (s : State) (path : Path) (idx sub : Nat) : State :=
  let s1 := s.count Obj.writeSequence
  s1.setBlob Obj.lastWrite (leBytes 4 (s1.nat Obj.writeSequence) ++ leBytes 2 idx ++ [sub, pathCode path] ++ leBytes 8 (s1.hall % 2 ^ 64))

end Sys2Proof.Machine
end

