-- ==== Sys2Proof/Machine/Security.lean ====
section
/-! DEFINITION. Keys, firmware images, rollback, admission, sessions and the TAP: what their writes do (spec/20_security.md R550 to R566). -/

namespace Sys2Proof.Machine

/-! Images: R554 to R556 -/

/-- Bytes of an image before its signature block. -/
def imageBody (b : List Nat) : List Nat := b.take (b.length - 272)

/-- The signature block. -/
def imageSig (b : List Nat) : List Nat := slice b (b.length - 272) 272

/-- The image that bytes are. -/
def imageOf (b : List Nat) : Image :=
  { kind := listGet 0 b 4, rollback := listGet 0 b 5, ordering := listGet 0 b 6, version := leNat (slice b 8 4), bytes := b }

/-- Check 1 of Table 20.4. -/
def imageHeader (kind : Nat) (b : List Nat) : Nat :=
  let k := listGet 0 b 4
  if b.length < 336 ∨ 67108864 < b.length ∨ slice b 0 4 ≠ [0x5A, 0x46, 0x57, 0x31] ∨ (k ≠ 1 ∧ k ≠ 2) ∨ 63 < listGet 0 b 5 ∨
      3 < listGet 0 b 6 ∨ listGet 0 b 7 ≠ 0 ∨ leNat (slice b 12 4) ≠ b.length ∨ anyNonzero (slice b 16 48) ∨
      (sigMalformed (imageSig b)).isSome then 0x63
  else if k ≠ kind then 0x82
  else 0

/-- Verification of a main or Seed image in the order of Table 20.4: 0, or the code of the first check that fails. -/
def State.imageCheck (s : State) (kind : Nat) (b : List Nat) : Nat :=
  let h := imageHeader kind b
  let g := imageSig b
  let m := imageBody b
  if h ≠ 0 then h
  else
    let c0 := checkSig (if sigKeyId g 16 = keyId (zheudKey 0) then some (zheudKey 0) else none) m (sigRS g 16)
    let c1 := checkSig (s.counterKey (sigKeyId g 144) (s.dict.adopted.contains (sha384 b))) (m ++ slice g 16 128) (sigRS g 144)
    if c0 ≠ 0 then c0
    else if c1 ≠ 0 then c1
    else if listGet 0 b 5 < max s.dict.fusesA s.dict.fusesB then 0x80
    else if !bitOf (listGet 0 b 6) (s.nat Obj.orderingCode - 1) then 0x81
    else 0

/-- Record a verification's outcome (R555, ImageState byte 12). -/
def State.noteVerify (s : State) (code : Nat) : State :=
  let s1 := { s with dict := { s.dict with lastVerify := code } }
  if code = 0 then s1 else s1.count Obj.verificationFailures

/-- Slots of a half. -/
def State.images (s : State) (h : Nat) : ImageSlots := if h = 0 then s.dict.imagesA else s.dict.imagesB

/-- Replace them. -/
def State.setImages (s : State) (h : Nat) (v : ImageSlots) : State :=
  if h = 0 then { s with dict := { s.dict with imagesA := v } } else { s with dict := { s.dict with imagesB := v } }

/-- Every image that a slot of either half holds. -/
def State.allImages (s : State) : List Image :=
  [s.dict.imagesA, s.dict.imagesB].flatMap (fun x => [x.mainActive, x.mainPending, x.seedActive, x.seedPending].filterMap id)

/-- Adopted digests whose image occupies no slot any longer are dropped (R553). -/
def State.pruneAdopted (s : State) : State :=
  let l := s.allImages.map (fun x => sha384 x.bytes)
  { s with dict := { s.dict with adopted := s.dict.adopted.filter l.contains } }

/-- Hexadecimal digit in ASCII. -/
def hexDigit (v : Nat) : Nat := if v < 10 then 0x30 + v else 0x37 + v

/-- A refusal code in hexadecimal, as the text of a FoE error (R545). -/
def hexText (n v : Nat) : List Nat := (List.range n).map (fun i => hexDigit (v / 16 ^ (n - 1 - i) % 16))

/-- An image written by FoE: verified in full, then put into the pending slot of its kind in both halves (R545, R556). -/
def State.firmwareWrite (s : State) (kind : Nat) (role : Role) (password : Nat) (b : List Nat) : State :=
  if password ≠ 0 ∨ (role ≠ .operator ∧ role ≠ .service) then s.emit (.foe 0x8002 [])
  else if s.mode ≠ .standby ∧ s.mode ≠ .seed then s.emit (.foe 0x8004 [])
  else
    let c := s.imageCheck kind b
    let s1 := s.noteVerify c
    if c ≠ 0 then s1.emit (.foe 0x800B (hexText 2 c))
    else
      let s2 := s1.forEach ((List.range 2).filter (fun h => !s1.halfGone h)) (fun s h =>
        let x := s.images h
        s.setImages h (if kind = 1 then { x with mainPending := some (imageOf b) } else { x with seedPending := some (imageOf b) }))
      s2.pruneAdopted.emit (.foe 0 [])

/-! Operator keys: R552, R553 -/

/-- A record of R232 with role `r` at byte `o` that signs `msg` with a key of `key`. -/
def recordOk (b : List Nat) (o r : Nat) (msg : List Nat) (key : List Nat → Option (List Nat)) : Bool :=
  listGet 0 b o = r && !anyNonzero (slice b (o + 1) 15) && checkSig (key (sigKeyId b o)) msg (sigRS b o) = 0

/-- KeyId that countersigned an image. -/
def counterSigner (x : Image) : List Nat := sigKeyId (imageSig x.bytes) 144

/-- Images that the factory key countersigned become adopted (R553). -/
def State.adopt (s : State) : State :=
  let l := (s.allImages.filter (fun x => counterSigner x = keyId (zheudKey 3))).map (fun x => sha384 x.bytes)
  { s with dict := { s.dict with adopted := l.eraseDups } }

/-- Level of the session on a target, 0 for none. -/
def State.sessionLevel (s : State) (k : Nat) : Nat := (smGet (fun _ => {}) s.dict.sessions k : Session).level

/-- The key in an operator slot. -/
def State.opKey (s : State) (slot : Nat) : Option (List Nat) := (s.dict.opKeys.find? (fun e => e.1 = slot)).map (·.2)

/-- Fields and signature of a key update record, over the mailbox or not. -/
def State.keyRecordOk (s : State) (coe : Bool) (b : List Nat) : Bool :=
  let op := listGet 0 b 4
  let first := coe && s.dict.opKeys.isEmpty && op = 1 && !anyNonzero (slice b 112 128)
  slice b 0 4 = [0x5A, 0x4B, 0x55, 0x50] && 1 ≤ op && op ≤ 3 && listGet 0 b 5 < 8 && !anyNonzero (slice b 6 2) &&
    !anyNonzero (slice b 12 4) && (op = 1 || !anyNonzero (slice b 16 96)) && decide (s.nat Obj.keyUpdateSequence < leNat (slice b 8 4)) &&
    (first || recordOk b 112 2 (b.take 112) (findKey s.dict.opKeys))

/-- Present state refuses a key update; a store reset needs the vendor session of the EtherCAT port, 1 or 2, that the write came over. -/
def State.keyStateRefused (s : State) (port : Nat) (b : List Nat) : Bool :=
  let slot := listGet 0 b 5
  (s.mode != .standby && s.mode != .seed) ||
  match listGet 0 b 4 with
  | 1 => (s.opKey slot).isSome
  | 2 => match s.opKey slot with
    | none => true
    | some k => s.dict.opKeys.length ≤ 1 ||
        ([s.dict.imagesA, s.dict.imagesB].flatMap (fun x => [x.mainActive, x.seedActive].filterMap id)).any (fun x => counterSigner x = keyId k)
  | _ => !((port = 1 || port = 2) && s.sessionLevel port = 2)

/-- A write of KeyUpdate that came over `path`, on `port` where it came over EtherCAT. -/
def State.keyUpdate (s : State) (path : Path) (port : Nat) (b : List Nat) : Nat × State :=
  if b.length ≠ 240 then (abLength, s)
  else if !s.keyRecordOk (path = .coe) b then (abValue, s)
  else if s.keyStateRefused (if path = .coe then port else 3) b then (abState, s)
  else
    let slot := listGet 0 b 5
    let s1 := s.setNat Obj.keyUpdateSequence (leNat (slice b 8 4))
    (abNone, match listGet 0 b 4 with
      | 1 =>
        let s2 := if s1.dict.opKeys.isEmpty then s1.adopt else s1
        { s2 with dict := { s2.dict with opKeys := smPut s2.dict.opKeys slot (slice b 16 96) } }
      | 2 => { s1 with dict := { s1.dict with opKeys := smErase s1.dict.opKeys slot } }
      | _ => ({ s1 with dict := { s1.dict with opKeys := [], adopted := [] } }).setBlob Obj.admissionTicket (List.replicate 168 0))

/-! Rollback: R557 -/

/-- A write of RollbackCommit: fuses of Hazel A, then of Hazel B. -/
def State.rollbackCommit (s : State) (v : Nat) : Nat × State :=
  let low := [s.dict.imagesA, s.dict.imagesB].any (fun x =>
    decide (activeRollback 1 x.mainActive < v) || decide (activeRollback 2 x.seedActive < v))
  if 63 < v then (abHigh, s)
  else if v ≤ max s.dict.fusesA s.dict.fusesB then (abLow, s)
  else if s.mode ≠ .standby ∨ s.halfGone 0 ∨ s.halfGone 1 ∨ s.boot.stageA = 0 ∨ s.boot.stageB = 0 ∨ low then (abState, s)
  else (abNone, { s with dict := { s.dict with fusesA := max s.dict.fusesA v, fusesB := max s.dict.fusesB v } })

/-! Author keys: Table 20.12 -/

/-- A write of AuthorCertificate. -/
def State.authorAdd (s : State) (b : List Nat) : Nat × State :=
  if b.length ≠ 224 then (abLength, s)
  else if !recordOk b 96 1 (b.take 96) (fun id => if id = keyId (zheudKey 1) then some (zheudKey 1) else none) then (abValue, s)
  else
    match (List.range 15).find? (fun i => s.dict.authors.all (fun e => e.1 != i + 1)) with
    | some i => (abNone, { s with dict := { s.dict with authors := smPut s.dict.authors (i + 1) (b.take 96) } })
    | none => (abState, s)

/-- A write of AuthorKeyRemove. -/
def State.authorRemove (s : State) (id : List Nat) : Nat × State :=
  if s.dict.authors.any (fun e => keyId e.2 = id) && id ≠ keyId (zheudKey 4) then
    (abNone, { s with dict := { s.dict with authors := s.dict.authors.filter (fun e => keyId e.2 != id) } })
  else (abValue, s)

/-! Admission: R561 -/

/-- Next `n` random bytes. -/
def State.randomBytes (s : State) (n : Nat) : List Nat × State :=
  let d := s.draw
  ((List.range n).map (fun i => Config.randomByte d.1 i % 256), d.2)

/-- The digest that an admission response signs. -/
def admitDigest (challenge : List Nat) (domain shelf lane : Nat) : List Nat := sha384 (challenge ++ leBytes 2 domain ++ [shelf % 256, lane % 256])

/-- Replace the admission record of hall link `k`. -/
def State.setAdmit (s : State) (k : Nat) (a : Admit) : State :=
  { s with dict := { s.dict with admits := smSet (fun _ => {}) s.dict.admits k a } }

/-- A peer's ticket holds for the peer of link `k` with device key `devKey` (step 2). -/
def State.ticketOk (s : State) (k : Nat) (ticket devKey : List Nat) : Bool :=
  ticket.length = 168 && devKey.length = 96 && slice ticket 0 4 = [0x5A, 0x41, 0x44, 0x4D] && listGet 0 ticket 4 = 1 &&
    listGet 0 ticket 5 = s.nat (Obj.peerShelf (36 + k)) && leNat (slice ticket 6 2) = s.nat Obj.hallDomainId &&
    slice ticket 8 48 = sha384 devKey && checkSig (findKey s.dict.opKeys (slice ticket 56 16)) (ticket.take 72) (slice ticket 72 96) = 0

/-- An admission attempt on hall link `k`: the peer's ticket, device key and answer to the challenge drawn here. -/
def State.admitTry (s : State) (k : Nat) (ticket devKey sig : List Nat) : State :=
  let a : Admit := smGet (fun _ => {}) s.dict.admits k
  let lane := 36 + k
  if !s.laneUp lane || a.admitted || !(a.failedAt = 0 || decide (a.failedAt - 1 + sec ≤ s.now)) then s
  else
    let fail := fun (s : State) (ch : List Nat) => (s.setAdmit k { a with challenge := ch, failedAt := s.now + 1 }).count Obj.admissionFailures
    if !s.ticketOk k ticket devKey then fail s []
    else
      let r := s.randomBytes 48
      let peerLane := linkPeerLane (s.nat Obj.hallDimensions) (s.nat Obj.shelfNumber) k
      if ecVerify devKey (admitDigest r.1 (s.nat Obj.hallDomainId) (s.nat (Obj.peerShelf lane)) peerLane) sig then
        let s1 := r.2.setAdmit k { a with admitted := true, failedAt := 0, challenge := r.1 }
        (s1.setNat Obj.admittedHallLinks (setBit (s1.nat Obj.admittedHallLinks) k true)).routesChanged
      else fail r.2 r.1

/-- The peer of hall link `k` writes AdmissionChallenge: the device key signs the answer. -/
def State.admitChallenge (s : State) (k : Nat) (b : List Nat) : State :=
  let d := admitDigest b (s.nat Obj.hallDomainId) (s.nat Obj.shelfNumber) (36 + k)
  (s.setBlob Obj.admissionChallenge b).setBlob Obj.admissionResponse ((List.range 96).map (fun i => Config.deviceSign d i % 256))

/-! Sessions: R562 to R565 -/

/-- A write of SessionSetup. -/
def State.sessionSetup (s : State) (v : Nat) : Nat × State :=
  let level := v / 16
  let target := v % 16
  if level < 1 ∨ 2 < level ∨ 3 < target ∨ (target = 3 ∧ level = 2) then (abValue, s)
  else if s.dict.lockUntil ≠ 0 ∨ s.sessionLevel target ≠ 0 then (abState, s)
  else
    let r := s.randomBytes 32
    let c := [0x5A, 0x43, 0x48, 0x4C, level, target, 0, 0] ++ fused Obj.moduleSerial 16 ++ leBytes 4 (s.nat Obj.bootCount) ++ [0, 0, 0, 0] ++ r.1
    (abNone, ({ r.2 with dict := { r.2.dict with challenge := c, challengeAt := s.now } } : State).setBlob Obj.challenge c)

/-- The response to the outstanding challenge verifies. -/
def State.responseOk (s : State) (b : List Nat) : Bool :=
  let c := s.dict.challenge
  if listGet 0 c 4 = 1 then b.length = 128 && recordOk b 0 2 c (findKey s.dict.opKeys)
  else b.length = 256 && recordOk b 0 1 c (fun id => if id = keyId (zheudKey 2) then some (zheudKey 2) else none) &&
    recordOk b 128 2 c (findKey s.dict.opKeys)

/-- A response has failed: UnlockFailures, and the lockout at the third within 1 h. -/
def State.unlockFail (s : State) : State :=
  let p := s.powered
  let l := p :: s.dict.failures.filter (fun f => decide (p < f + 3600))
  let s1 := s.count Obj.unlockFailures
  { s1 with dict := { s1.dict with
      failures := l.take 3, challenge := []
      lockUntil := if 3 ≤ l.length then p + 3600 else s1.dict.lockUntil } }

/-- A write of SessionResponse: each challenge serves one attempt. -/
def State.sessionResponse (s : State) (b : List Nat) : Nat × State :=
  let c := s.dict.challenge
  if b.length ≠ 128 ∧ b.length ≠ 256 then (abLength, s)
  else if c.isEmpty ∨ s.dict.challengeAt + 600 * sec < s.now ∨ s.sessionLevel (listGet 0 c 5) ≠ 0 then (abState, s)
  else if s.responseOk b then
    (abNone, { s with dict := { s.dict with
      challenge := [], sessions := smPut s.dict.sessions (listGet 0 c 5) { level := listGet 0 c 4, openedAt := s.now } } })
  else (abValue, s.unlockFail)

/-- A write of SessionLock: bit k ends the session of target k. -/
def State.sessionLock (s : State) (v : Nat) : State := s.forEach ((List.range 4).filter (bitOf v)) State.endSession

/-- The limit of a target's session has passed. -/
def State.sessionExpire (s : State) (k : Nat) : State :=
  let x : Session := smGet (fun _ => {}) s.dict.sessions k
  if x.level ≠ 0 ∧ x.openedAt + s.nat Obj.sessionLimit * sec ≤ s.now then s.endSession k else s

/-- The lockout ends (R563). -/
def State.lockoutEnd (s : State) : State :=
  if s.dict.lockUntil ≠ 0 ∧ s.dict.lockUntil ≤ s.powered then { s with dict := { s.dict with lockUntil := 0, failures := [] } } else s

/-- Boundary-scan instructions are accepted (R564). -/
def State.scanAllowed (s : State) : Bool :=
  s.sessionLevel 0 = 2 && s.pins.gden = 0 && !(s.str 0).anyFb && !(s.str 1).anyFb

/-- The TAP is powered. -/
def State.tapOn (s : State) : Bool := s.mode != .off && s.mode != .ship

/-- The bypass register is selected and shifts out a 0. -/
def State.tapBypass (s : State) : State :=
  ({ s with dict := { s.dict with tap := .bypass } } : State).emit (.tap [0])

/-- A boundary-scan instruction: what the boundary register captured goes out, `bits` go in. -/
def State.tapScan (s : State) (i : TapInstr) (bits : List Nat) : State :=
  let d := s.draw
  ({ d.2 with dict := { d.2.dict with tap := i, bsr := bits } } : State).emit (.tap (Config.boundary d.1))

/-! Meanings that are no dictionary write -/

/-- FWMAIN (R545, R554 to R556). -/
def execFwmain (t : Nat) (role : Role) (password : Nat) (bytes : List Nat) (s : State) : Res := .next ((s.at t).firmwareWrite 1 role password bytes)

/-- FWSEED (R545, R554 to R556). -/
def execFwseed (t : Nat) (role : Role) (password : Nat) (bytes : List Nat) (s : State) : Res := .next ((s.at t).firmwareWrite 2 role password bytes)

/-- PROTECTED_REGISTER_WRITE: a write from any source but the ROM code is discarded and faulted (R558). -/
def execProtectedRegisterWrite (t : Nat) (h : Half) (reg : Fin 7) (s : State) : Res :=
  let s1 := s.at t
  .next (if s1.running && !s1.halfGone (halfIdx h) then s1.raise (97 * halfIdx h + blBoot) clConfig 11 reg.val lvHalf else s1)

/-- ADMISSION_RETRY (R561). -/
def execAdmissionRetry (t : Nat) (k : Fin 16) (ticket devKey : List Nat) (sig : List Nat) (s : State) : Res :=
  .next ((s.at t).admitTry k.val ticket devKey sig)

/-- SESSION_LIMIT (R565). -/
def execSessionLimit (t : Nat) (k : Fin 4) (s : State) : Res := .next ((s.at t).sessionExpire k.val)

/-- UNLOCK_LOCKOUT_END (R563). -/
def execUnlockLockoutEnd (t : Nat) (s : State) : Res := .next (s.at t).lockoutEnd

/-- IDCODE (R562). -/
def execIdcode (t : Nat) (s : State) : Res :=
  let s1 := s.at t
  .next (if s1.tapOn then
    ({ s1 with dict := { s1.dict with tap := .idcode } } : State).emit (.tap ((List.range 32).map (fun i => bit (bitOf Config.idcode i) 0)))
  else s1)

/-- BYPASS: every instruction code that the TAP does not accept selects the bypass register (R562, R564). -/
def execBypass (t : Nat) (instr : TapInstr) (s : State) : Res :=
  let s1 := s.at t
  let accepted := decide (instr = .idcode ∨ ((instr = .samplePreload ∨ instr = .extest) ∧ s1.scanAllowed))
  .next (if s1.tapOn && !decide accepted then s1.tapBypass else s1)

/-- SAMPLE_PRELOAD (R564). -/
def execSamplePreload (t : Nat) (bits : List Nat) (s : State) : Res :=
  let s1 := s.at t
  .next (if !s1.tapOn then s1 else if s1.scanAllowed then s1.tapScan .samplePreload bits else s1.tapBypass)

/-- EXTEST (R564). -/
def execExtest (t : Nat) (bits : List Nat) (s : State) : Res :=
  let s1 := s.at t
  .next (if !s1.tapOn then s1 else if s1.scanAllowed then s1.tapScan .extest bits else s1.tapBypass)

end Sys2Proof.Machine
end

