-- ==== Sys2Proof/Machine/DictWrite.lean ====
section
/-! DEFINITION. One write through the dictionary server: the checks of Table 19.4 in their order, the effect of the object's own rule, and the
answer (spec/19_object_dictionary.md R524 to R543). -/

namespace Sys2Proof.Machine

/-! Mappings: R537, R538 -/

/-- Entries in force of the mapping object of a PDO. -/
def State.pdoEntries (s : State) (p : Nat) : List Nat := (List.range (s.nat (p * 256))).map (fun j => s.nat (p * 256 + j + 1))

/-- PDOs assigned in a direction. -/
def State.assigned (s : State) (out : Bool) : List Nat :=
  let k := if out then 0x1C12 else 0x1C13
  ((List.range (s.nat (k * 256))).map (fun j => s.nat (k * 256 + j + 1))).filter (· != 0)

/-- PDOs of a direction. -/
def pdosOf (out : Bool) : List Nat := if out then [0x1600, 0x1601] else [0x1A00, 0x1A01, 0x1A02, 0x1A03]

/-- Bytes of the entries. -/
def pdoBytes (l : List Nat) : Nat := sumN (l.map (fun e => e % 256 / 8))

/-- An entry maps a whole object of the direction's record. -/
def entryOk (out : Bool) (e : Nat) : Bool :=
  let idx := e / 65536
  let sub := e / 256 % 256
  idx = (if out then 0x7000 else 0x6000) && (descOf idx sub).isSome && e % 256 = objBits idx sub

/-- What is wrong with a mapping or assignment after the write of `idx`:`sub` (R538): 0, or the abort code. -/
def State.pdoRefused (s : State) (idx sub : Nat) : Nat :=
  let out := idx = 0x1600 || idx = 0x1601 || idx = 0x1C12
  let v := s.nat (idx * 256 + sub)
  let maps := decide (idx < 0x1C00)
  let all := ((if maps then pdosOf out else s.assigned out).flatMap s.pdoEntries).filter (· != 0)
  let asg := s.assigned out
  if maps ∧ sub ≠ 0 ∧ v ≠ 0 ∧ !entryOk out v then 0x06040041
  else if !maps ∧ sub ≠ 0 ∧ v ≠ 0 ∧ !(pdosOf out).contains v then abValue
  else if (if out then 64 else 256) < pdoBytes (asg.flatMap s.pdoEntries) then 0x06040042
  else if !distinct all || !distinct asg then 0x06040043
  else abNone

/-! Plain values -/

/-- Store a value where it is kept. -/
def State.storeValue (s : State) (idx sub : Nat) (b : List Nat) : State :=
  let k := idx * 256 + sub
  match descOf idx sub with
  | none => s
  | some r =>
    let v := r.ty.value b
    if 0x2520 ≤ idx ∧ idx ≤ 0x252F ∧ sub = 3 then s.setSlot (idx - 0x2520) { s.slot (idx - 0x2520) with size := v.toNat }
    else if 0x2600 ≤ idx ∧ idx ≤ 0x267F ∧ sub = 0x0D then s.setProg (idx - 0x2600) { s.prog (idx - 0x2600) with priority := v.toNat }
    else if idx = 0x2203 ∧ sub = 1 then s.forEach (List.range 4096) (fun s e => s.setWeight e (leNat (slice b (2 * e) 2)))
    else match r.ty with
      | .num _ _ => s.setNum k v
      | _ => s.setBlob k b

/-- Configure goes to the slices again (R401). -/
def State.reconfigure (s : State) (k : Nat) : State :=
  if s.ringWorked k then s.ringAll k rgConfigure (beBytes 2 (s.nat Obj.openWireThreshold) ++ [s.nat Obj.balanceDuty, 0, 0, 0, 0, 0]) else s

/-- What follows a new value at once, by the rules of its object. -/
def State.afterStore (s : State) (idx sub : Nat) : State :=
  match idx, sub with
  | 0x2A00, 8 => if s.nat Obj.shedEnable = 0 then s.forEach s.operated State.readdShed else s
  | 0x2910, 6 | 0x2910, 7 => s.refreshClamps
  | 0x2B00, 1 => s.ringRestart 0
  | 0x2B00, 2 => if s.isS2 then s.ringRestart 1 else s
  | 0x2B00, 6 | 0x2B00, 0x0E => s.forEach s.operated State.reconfigure
  | 0x2800, 3 => s.refreshStep
  | 0x2100, 4 => s.hallRoles
  | _, _ =>
    if 0x2E40 ≤ idx ∧ idx ≤ 0x2E7F ∧ sub = 1 then
      let c := idx - 0x2E40
      if s.nat (Obj.sensorType c) = 0 then
        let s1 := (s.setChan c {}).setNat Obj.brokenChannels (setBit (s.nat Obj.brokenChannels) c false)
        (s1.setNat (Obj.channelStatus c) 6).setNum (Obj.temperature c) (-32768)
      else s.setChan c {}
    else s

/-! Stores and restores: R532 -/

/-- A store of the present values of the stored set begins; it is answered when both halves hold it. -/
def State.storeBegin (s : State) (foe : Bool) : State :=
  let seq := match s.storedNow with
    | some c => c.seq + 1
    | none => 1
  { s with dict := { s.dict with
    storing := some { seq := seq, ordering := s.nat Obj.orderingCode, recs := storedKeys.map (fun k => (k, s.heldBytes k)) }
    storeFoe := foe } }

/-- RestoreDefaults erases the stored configuration. -/
def State.eraseStored (s : State) : State := { s with dict := { s.dict with storedA := none, storedB := none } }

/-! Other objects -/

/-- A write of AuthorityTransferRequest (R51). -/
def State.transferRequest (s : State) (v : Nat) : Nat × State :=
  let h := s.holder
  if v ≠ 1 then (abValue, s)
  else if (s.mode ≠ .ready ∧ s.mode ≠ .shaping) ∨ h = 0 ∨ !s.healthy (2 - h) ∨ s.hold.transferTo ≠ 0 then (abState, s)
  else (abNone, { s with hold := { s.hold with transferTo := 3 - h } })

/-- A write of HallTimeSet: only on the root, with no tenant open in the hall domain (R121). -/
def State.hallSet (s : State) (v : Nat) (tenantElsewhere : Bool) : Nat × State :=
  if s.hallTimeNow ≠ 3 ∨ s.anyTenantOpen ∨ tenantElsewhere then (abState, s)
  else (abNone, { s with fab := { s.fab with htOffset := (v : Int) - s.now } })

/-- The effect of a write that has passed the checks of rows 1 to 9. -/
def State.dictEffect (s : State) (path : Path) (port : Nat) (role : Role) (idx sub : Nat) (v : Int) (b : List Nat) : Nat × State :=
  let n := v.toNat
  if s.stateRefused idx sub v then (abState, s)
  else
    match idx, sub with
    | 0x3000, 2 => s.request role n
    | 0x2F10, 2 => s.transferRequest n
    | 0x2F00, 9 => s.ackAll n
    | 0x1010, 1 => if s.dict.storing.isSome then (abState, s) else (abWaits, s.storeBegin false)
    | 0x1011, 1 => if s.dict.storing.isSome then (abState, s) else (abNone, s.eraseStored)
    | 0x2100, 0x0B => s.hallSet n false
    | 0x2202, 1 => s.wordSet b
    | 0x2210, 1 => let r := s.domainCreate b; (r.1, r.2.refreshStep)
    | 0x2210, 3 => let r := s.domainClose n; (r.1, r.2.refreshStep)
    | 0x2211, 1 => (abRole, s)
    | 0x2510, 1 => s.loadRequest role b
    | 0x2701, 1 => s.channelRequest role b
    | 0x2702, 1 => s.windowRequest role b
    | 0x2800, 1 => s.bindForecaster n
    | 0x2930, 1 => s.traceControl n
    | 0x2A00, 0x14 => s.phaseClear n
    | 0x2A21, 0x0D => s.lockoutClear 0 n
    | 0x2A22, 0x0D => s.lockoutClear 1 n
    | 0x2C01, 1 => s.calRequest n
    | 0x2C02, 1 => s.ocvWrite b
    | 0x2C41, 0x0C => s.lifetimeClear 0 n
    | 0x2C42, 0x0C => s.lifetimeClear 1 n
    | 0x3100, 3 => s.keyUpdate path port b
    | 0x3100, 6 => s.rollbackCommit n
    | 0x3101, 1 => s.authorAdd b
    | 0x3101, 3 => s.authorRemove b
    | 0x3103, 3 => (abRole, s)
    | 0x3104, 1 => s.sessionSetup n
    | 0x3104, 3 => s.sessionResponse b
    | 0x3104, 6 => (abNone, s.sessionLock n)
    | _, _ =>
      if 0x2300 ≤ idx ∧ idx ≤ 0x233F ∧ sub = 3 then s.tenantCommand role (idx - 0x2300) n
      else if 0x2300 ≤ idx ∧ idx ≤ 0x233F ∧ sub = 0x0A then s.allocRequest (idx - 0x2300) b
      else if 0x2480 ≤ idx ∧ idx ≤ 0x24FF ∧ sub = 0x0C then s.arrayCmd (idx - 0x2480) n
      else if 0x2520 ≤ idx ∧ idx ≤ 0x252F ∧ sub = 4 then s.slotCommand role (idx - 0x2520) n
      else if 0x2600 ≤ idx ∧ idx ≤ 0x267F ∧ sub = 0x0F then s.progCommand (idx - 0x2600) n
      else if 0x2940 ≤ idx ∧ idx ≤ 0x297F ∧ sub = 0x0E then s.commitInst (idx - 0x2940) n
      else if 0x2D20 ≤ idx ∧ idx ≤ 0x2D2F ∧ sub = 0x0E then s.railClear (idx - 0x2D20) n
      else if 0x2F20 ≤ idx ∧ idx ≤ 0x2FE1 ∧ sub = 7 then s.ackWrite (idx - 0x2F20) n
      else if 0x2F20 ≤ idx ∧ idx ≤ 0x2FE1 ∧ sub = 9 then s.blockCommand (idx - 0x2F20) n
      else
        let s1 := s.storeValue idx sub b
        let c := if preopOnly idx ∧ idx < 0x1C32 then s1.pdoRefused idx sub else abNone
        if c ≠ abNone then (c, s) else (abNone, s1.afterStore idx sub)

/-- The first refusal of rows 1 to 9 of Table 19.4 for one write, with the values `ov` of the same access. -/
def State.writeRefused (s : State) (role : Role) (ov : List (Nat × Int)) (idx sub : Nat) (b : List Nat) : Nat :=
  let a := s.accessRefused role idx sub true
  match descOf idx sub with
  | none => a
  | some r =>
    if a = abNoObject ∨ a = abNoSub ∨ a = abRole ∨ a = abTenant then a
    else if r.ty.lengthOk b.length ∧ role ≠ .service ∧ serviceOnly idx sub (r.ty.value b) then abRole
    else if a ≠ abNone then a
    else s.valueRefused ov idx sub b

/-- One write: its code (0 applied; abWaits accepted, answered later), and the state after it. -/
def State.dictWrite (s : State) (path : Path) (port : Nat) (role : Role) (idx sub : Nat) (b : List Nat) : Nat × State :=
  let c := s.writeRefused role [] idx sub b
  if c ≠ abNone then (c, s.count Obj.refusedWrites)
  else
    let v := match descOf idx sub with
      | some r => r.ty.value b
      | none => 0
    let r := s.dictEffect path port role idx sub v b
    if r.1 = abNone then (abNone, r.2.noteWrite path idx sub)
    else if r.1 = abWaits then (abWaits, if idx = 0x1010 then r.2 else r.2.noteWrite path idx sub)
    else (r.1, r.2.count Obj.refusedWrites)

/-- The path a role's access takes where its command does not say: tenants and agents reach the server by region 0x4 only (R524). -/
def rolePath : Role → Path
  | .tenant _ | .agent => .mirror
  | _ => .coe

/-- The server takes accesses: past stage 1 of Boot, and over the mailbox not while the ESC is in BOOT (R498, R521). -/
def State.served (s : State) (path : Path) : Bool := s.running && !(path = .coe && s.dict.esc = .boot)

/-- A write and its answer. -/
def State.regWrite (s : State) (path : Path) (port : Nat) (role : Role) (idx sub : Nat) (b : List Nat) : State :=
  if !s.served path then s
  else
    let r := s.dictWrite path port role idx sub b
    if r.1 = abWaits then r.2 else r.2.emit (.answer (r.1 % 2 ^ 32) (idx * 256 + sub))

/-- A write of a number by its object's own path. -/
def State.cmdWrite (s : State) (role : Role) (key v : Nat) : State :=
  s.regWrite (rolePath role) 1 role (key / 256) (key % 256) (leBytes (objBits (key / 256) (key % 256) / 8) v)

/-- A write of bytes by its object's own path. -/
def State.reqWrite (s : State) (role : Role) (key : Nat) (b : List Nat) : State := s.regWrite (rolePath role) 1 role (key / 256) (key % 256) b

/-- A broadcast write of R543 on this shelf: a refusal keeps the old value and counts; nothing is answered. -/
def State.broadcastWrite (s : State) (role : Role) (idx sub : Nat) (b : List Nat) : State :=
  if !s.served .broadcast then s
  else
    let barred := match descOf idx sub with
      | some r => r.cmd || (0x1000 ≤ idx && idx ≤ 0x1FFF) || (match r.ty with | .dom _ => true | .oct n => decide (8 < n) | _ => false)
      | none => true
    if barred then s.count Obj.broadcastRefusals
    else
      let r := s.dictWrite .broadcast 0 role idx sub b
      if r.1 = abNone then r.2 else r.2.count Obj.broadcastRefusals

/-! Several values at once: R529 -/

/-- Present numeric values of a set of writes, by key. -/
def overlayOf (l : List (Nat × Nat × List Nat)) : List (Nat × Int) :=
  l.filterMap (fun e => (descOf e.1 e.2.1).map (fun r => (e.1 * 256 + e.2.1, r.ty.value e.2.2)))

/-- The first write of a set that is refused, checked against the new values of the others: its code, index and subindex. -/
def State.setRefused (s : State) (role : Role) (l : List (Nat × Nat × List Nat)) : Option (Nat × Nat × Nat) :=
  let ov := overlayOf l
  let judge := fun (e : Nat × Nat × List Nat) =>
    let c := s.writeRefused role ov e.1 e.2.1 e.2.2
    if c ≠ abNone then c
    else
      let v := match descOf e.1 e.2.1 with
        | some r => r.ty.value e.2.2
        | none => 0
      if s.stateRefused e.1 e.2.1 v then abState else abNone
  (l.find? (fun e => judge e != abNone)).map (fun e => (judge e, e.1, e.2.1))

/-- Apply a set of writes, in order. -/
def State.applySet (s : State) (l : List (Nat × Nat × List Nat)) : State :=
  let s1 := s.forEach l (fun s e => s.storeValue e.1 e.2.1 e.2.2)
  s1.forEach l (fun s e => s.afterStore e.1 e.2.1)

/-- A complete access write: all of it, or nothing. -/
def State.completeWrite (s : State) (role : Role) (idx : Nat) (vals : List (Nat × List Nat)) : State :=
  let l := vals.map (fun e => (idx, e.1, e.2))
  let fail := fun (c sub : Nat) => (s.count Obj.refusedWrites).emit (.answer (c % 2 ^ 32) (idx * 256 + sub))
  if !s.served .coe then s
  else if (rowsOf idx).any (fun r => decide (r.idxLo ≤ idx ∧ idx ≤ r.idxHi) && r.cmd) then fail abRole 0
  else if (rowsOf idx).all (fun r => !decide (r.idxLo ≤ idx ∧ idx ≤ r.idxHi)) then fail abNoObject 0
  else
    match s.setRefused role l with
    | some e => fail e.1 e.2.2
    | none =>
      let s1 := s.applySet l
      let bad := if preopOnly idx ∧ idx < 0x1C32 then vals.find? (fun e => s1.pdoRefused idx e.1 != abNone) else none
      match bad with
      | some e => fail (s1.pdoRefused idx e.1) e.1
      | none => (s1.noteWrite .coe idx 0).emit (.answer abNone (idx * 256))

end Sys2Proof.Machine
end

