-- ==== Sys2Proof/Machine/Registers.lean ====
section
/-! DEFINITION. Meanings: every command that is a write of a dictionary object (spec/01 to spec/20). Each goes through the one write of
DictWrite.lean; byte 0 of a request, or the number of a command, is the row's own. -/

namespace Sys2Proof.Machine

/-- A request record with its operation byte. -/
def withByte (i v : Nat) (l : List Nat) : List Nat := l.set i v

/-! Requests: Table 1.8 -/

/-- ENERGISE (R24, R508). -/
def execEnergise (t : Nat) (role : Role) (s : State) : Res := .next ((s.at t).cmdWrite role Obj.moduleRequest 1)
/-- SHAPE (R24). -/
def execShape (t : Nat) (role : Role) (s : State) : Res := .next ((s.at t).cmdWrite role Obj.moduleRequest 2)
/-- UNSHAPE (R24). -/
def execUnshape (t : Nat) (role : Role) (s : State) : Res := .next ((s.at t).cmdWrite role Obj.moduleRequest 3)
/-- DE_ENERGISE (R24, R25, R511). -/
def execDeEnergise (t : Nat) (role : Role) (s : State) : Res := .next ((s.at t).cmdWrite role Obj.moduleRequest 4)
/-- SHIP (R24, R430). -/
def execShip (t : Nat) (role : Role) (s : State) : Res := .next ((s.at t).cmdWrite role Obj.moduleRequest 5)
/-- RESTART_FROM_SEED_OR_SAFE (R24, R504, R516). -/
def execRestartFromSeedOrSafe (t : Nat) (role : Role) (s : State) : Res := .next ((s.at t).cmdWrite role Obj.moduleRequest 6)

/-! Any object -/

/-- REGISTER_WRITE: a write of one object by a path (R526, R528); a broadcast is R543's. -/
def execRegisterWrite (t : Nat) (path : Path) (role : Role) (idx sub : Nat) (val : List Nat) (s : State) : Res :=
  let s1 := s.at t
  .next (if path = .broadcast then s1.broadcastWrite role idx sub val else s1.regWrite path 1 role idx sub val)

/-- COMPLETE_ACCESS_WRITE (R529). -/
def execCompleteAccessWrite (t : Nat) (role : Role) (idx : Nat) (vals : List (Nat × List Nat)) (s : State) : Res :=
  .next ((s.at t).completeWrite role idx vals)

/-! Control engine, converter, authority -/

/-- INSTANCE_COMMIT (R317). -/
def execInstanceCommit (t : Nat) (role : Role) (i : Fin 64) (s : State) : Res := .next ((s.at t).cmdWrite role (Obj.commit i.val) 1)
/-- TRACE_STOP (R347). -/
def execTraceStop (t : Nat) (role : Role) (s : State) : Res := .next ((s.at t).cmdWrite role Obj.traceControl 0)
/-- TRACE_ARM_SINGLE (R347). -/
def execTraceArmSingle (t : Nat) (role : Role) (s : State) : Res := .next ((s.at t).cmdWrite role Obj.traceControl 1)
/-- TRACE_ARM_NORMAL (R347). -/
def execTraceArmNormal (t : Nat) (role : Role) (s : State) : Res := .next ((s.at t).cmdWrite role Obj.traceControl 2)
/-- TRACE_FORCE_TRIGGER (R347). -/
def execTraceForceTrigger (t : Nat) (role : Role) (s : State) : Res := .next ((s.at t).cmdWrite role Obj.traceControl 3)
/-- PHASE_CLEAR (R366). -/
def execPhaseClear (t : Nat) (role : Role) (n : Nat) (s : State) : Res := .next ((s.at t).cmdWrite role Obj.phaseClear n)
/-- LOCKOUT_CLEAR (R373). -/
def execLockoutClear (t : Nat) (role : Role) (x : Fin 2) (v : Nat) (s : State) : Res := .next ((s.at t).cmdWrite role (Obj.lockoutClear (x.val + 1)) v)
/-- AUTHORITY_TRANSFER_REQUEST (R51). -/
def execAuthorityTransferRequest (t : Nat) (role : Role) (v : Nat) (s : State) : Res :=
  .next ((s.at t).cmdWrite role Obj.authorityTransferRequest v)

/-- A write of HallTimeSet while a tenant may be open elsewhere in the hall domain. -/
def State.hallTimeWrite (s : State) (role : Role) (v : Nat) (elsewhere : Bool) : State :=
  if elsewhere ∧ s.served (rolePath role) then
    let c := s.writeRefused role [] 0x2100 0x0B (leBytes 8 v)
    (s.count Obj.refusedWrites).emit (.answer ((if c ≠ abNone then c else abState) % 2 ^ 32) Obj.hallTimeSet)
  else s.cmdWrite role Obj.hallTimeSet v

/-- HALL_TIME_SET (R121). -/
def execHallTimeSet (t : Nat) (role : Role) (v : Nat) (hallTenantOpen : Bool) (s : State) : Res :=
  .next ((s.at t).hallTimeWrite role v hallTenantOpen)

/-! Tenants, words, domains: spec/05_sync_objects.md -/

/-- TENANT_OPEN (R135). -/
def execTenantOpen (t : Nat) (role : Role) (k : Fin 64) (s : State) : Res := .next ((s.at t).cmdWrite role (Obj.tenantCommand k.val) 1)
/-- TENANT_CLOSE (R139). -/
def execTenantClose (t : Nat) (role : Role) (k : Fin 64) (s : State) : Res := .next ((s.at t).cmdWrite role (Obj.tenantCommand k.val) 2)
/-- TENANT_FORCE_CLOSE (R139). -/
def execTenantForceClose (t : Nat) (role : Role) (k : Fin 64) (s : State) : Res := .next ((s.at t).cmdWrite role (Obj.tenantCommand k.val) 3)
/-- CLEAR_QUARANTINE (R139, R528). -/
def execClearQuarantine (t : Nat) (role : Role) (k : Fin 64) (s : State) : Res := .next ((s.at t).cmdWrite role (Obj.tenantCommand k.val) 4)

/-- ALLOCATE_WORDS (R136). -/
def execAllocateWords (t : Nat) (role : Role) (k : Fin 64) (req : List Nat) (s : State) : Res :=
  .next ((s.at t).reqWrite role (Obj.allocRequest k.val) (withByte 0 1 req))
/-- FREE_WORDS (R138). -/
def execFreeWords (t : Nat) (role : Role) (k : Fin 64) (req : List Nat) (s : State) : Res :=
  .next ((s.at t).reqWrite role (Obj.allocRequest k.val) (withByte 0 2 req))
/-- DECLARE_QUEUE (R142). -/
def execDeclareQueue (t : Nat) (role : Role) (k : Fin 64) (req : List Nat) (s : State) : Res :=
  .next ((s.at t).reqWrite role (Obj.allocRequest k.val) (withByte 0 3 req))
/-- UNDECLARE_QUEUE (R142). -/
def execUndeclareQueue (t : Nat) (role : Role) (k : Fin 64) (req : List Nat) (s : State) : Res :=
  .next ((s.at t).reqWrite role (Obj.allocRequest k.val) (withByte 0 4 req))
/-- ALLOCATE_DESCRIPTORS (R136). -/
def execAllocateDescriptors (t : Nat) (role : Role) (k : Fin 64) (req : List Nat) (s : State) : Res :=
  .next ((s.at t).reqWrite role (Obj.allocRequest k.val) (withByte 0 5 req))
/-- FREE_DESCRIPTORS (R138). -/
def execFreeDescriptors (t : Nat) (role : Role) (k : Fin 64) (req : List Nat) (s : State) : Res :=
  .next ((s.at t).reqWrite role (Obj.allocRequest k.val) (withByte 0 6 req))

/-- WORD_SET (R141). -/
def execWordSet (t : Nat) (role : Role) (val : List Nat) (s : State) : Res := .next ((s.at t).reqWrite role Obj.wordSet val)
/-- DOMAIN_CREATE (R156, R157). -/
def execDomainCreate (t : Nat) (role : Role) (desc : List Nat) (s : State) : Res := .next ((s.at t).reqWrite role Obj.domainCreate desc)
/-- DOMAIN_CLOSE (R160). -/
def execDomainClose (t : Nat) (role : Role) (id : Nat) (s : State) : Res := .next ((s.at t).cmdWrite role Obj.domainClose id)

/-! Arrays, slots, programs: spec/06_pecan_arrays.md, spec/08_array_programs.md -/

/-- ARRAY_RETURN_TO_SERVICE (R580). -/
def execArrayReturnToService (t : Nat) (role : Role) (g : Fin 128) (s : State) : Res := .next ((s.at t).cmdWrite role (Obj.arrayCommand g.val) 1)
/-- ARRAY_OUT_OF_SERVICE (Table 6.16). -/
def execArrayOutOfService (t : Nat) (role : Role) (g : Fin 128) (s : State) : Res := .next ((s.at t).cmdWrite role (Obj.arrayCommand g.val) 2)
/-- SLOT_OPEN (R240). -/
def execSlotOpen (t : Nat) (role : Role) (k : Fin 16) (s : State) : Res := .next ((s.at t).cmdWrite role (Obj.slotCommand k.val) 1)
/-- SLOT_VERIFY (R241). -/
def execSlotVerify (t : Nat) (role : Role) (k : Fin 16) (s : State) : Res := .next ((s.at t).cmdWrite role (Obj.slotCommand k.val) 2)
/-- SLOT_DISCARD (R248). -/
def execSlotDiscard (t : Nat) (role : Role) (k : Fin 16) (s : State) : Res := .next ((s.at t).cmdWrite role (Obj.slotCommand k.val) 3)
/-- LOAD_REQUEST (R242). -/
def execLoadRequest (t : Nat) (role : Role) (req : List Nat) (s : State) : Res := .next ((s.at t).reqWrite role Obj.loadRequest req)
/-- PROGRAM_START (R245). -/
def execProgramStart (t : Nat) (role : Role) (h : Fin 128) (s : State) : Res := .next ((s.at t).cmdWrite role (Obj.programCommand h.val) 1)
/-- PROGRAM_STOP (R246). -/
def execProgramStop (t : Nat) (role : Role) (h : Fin 128) (s : State) : Res := .next ((s.at t).cmdWrite role (Obj.programCommand h.val) 2)
/-- PROGRAM_UNLOAD (R246). -/
def execProgramUnload (t : Nat) (role : Role) (h : Fin 128) (s : State) : Res := .next ((s.at t).cmdWrite role (Obj.programCommand h.val) 3)
/-- PROGRAM_RUN_NOW (R254). -/
def execProgramRunNow (t : Nat) (role : Role) (h : Fin 128) (s : State) : Res := .next ((s.at t).cmdWrite role (Obj.programCommand h.val) 4)

/-! History and forecasting: spec/09_history_memory.md, spec/10_forecasting.md -/

/-- CHANNEL_DEFINE (R276). -/
def execChannelDefine (t : Nat) (role : Role) (req : List Nat) (s : State) : Res := .next ((s.at t).reqWrite role Obj.channelRequest (withByte 0 1 req))
/-- CHANNEL_DELETE (R276, R279). -/
def execChannelDelete (t : Nat) (role : Role) (req : List Nat) (s : State) : Res := .next ((s.at t).reqWrite role Obj.channelRequest (withByte 0 2 req))
/-- CHANNEL_QUERY (R276). -/
def execChannelQuery (t : Nat) (role : Role) (req : List Nat) (s : State) : Res := .next ((s.at t).reqWrite role Obj.channelRequest (withByte 0 3 req))
/-- CHANNEL_SET_GRANTS (R276). -/
def execChannelSetGrants (t : Nat) (role : Role) (req : List Nat) (s : State) : Res :=
  .next ((s.at t).reqWrite role Obj.channelRequest (withByte 0 4 req))
/-- WINDOW_DEFINE (R285). -/
def execWindowDefine (t : Nat) (role : Role) (req : List Nat) (s : State) : Res := .next ((s.at t).reqWrite role Obj.windowRequest (withByte 0 1 req))
/-- WINDOW_FREE (R285). -/
def execWindowFree (t : Nat) (role : Role) (req : List Nat) (s : State) : Res := .next ((s.at t).reqWrite role Obj.windowRequest (withByte 0 2 req))
/-- WINDOW_QUERY (R285). -/
def execWindowQuery (t : Nat) (role : Role) (req : List Nat) (s : State) : Res := .next ((s.at t).reqWrite role Obj.windowRequest (withByte 0 3 req))
/-- FORECASTER_BIND (R294). -/
def execForecasterBind (t : Nat) (role : Role) (h : Nat) (s : State) : Res := .next ((s.at t).cmdWrite role Obj.forecasterHandle h)

/-! Storage, rails, faults -/

/-- CALIBRATION_START (R424). -/
def execCalibrationStart (t : Nat) (role : Role) (v : Nat) (s : State) : Res := .next ((s.at t).cmdWrite role Obj.calibrationRequest v)
/-- CALIBRATION_ABORT (R424). -/
def execCalibrationAbort (t : Nat) (role : Role) (s : State) : Res := .next ((s.at t).cmdWrite role Obj.calibrationRequest 0)
/-- OCV_TABLE_WRITE (R409). -/
def execOcvTableWrite (t : Nat) (role : Role) (bytes : List Nat) (s : State) : Res := .next ((s.at t).reqWrite role Obj.ocvTable bytes)
/-- LIFETIME_CLEAR (R429). -/
def execLifetimeClear (t : Nat) (role : Role) (k : Fin 2) (v : Nat) (s : State) : Res := .next ((s.at t).cmdWrite role (Obj.lifetimeClear (k.val + 1)) v)
/-- RAIL_CLEAR (R444). -/
def execRailClear (t : Nat) (role : Role) (r : Fin 16) (v : Nat) (s : State) : Res := .next ((s.at t).cmdWrite role (Obj.railClear r.val) v)
/-- BLOCK_ACKNOWLEDGE (R482). -/
def execBlockAcknowledge (t : Nat) (role : Role) (b : Fin 194) (v : Nat) (s : State) : Res := .next ((s.at t).cmdWrite role (Obj.acknowledge b.val) v)
/-- ACKNOWLEDGE_ALL (R482). -/
def execAcknowledgeAll (t : Nat) (role : Role) (v : Nat) (s : State) : Res := .next ((s.at t).cmdWrite role Obj.acknowledgeAll2F00 v)
/-- BLOCK_RETURN_TO_SERVICE (R486, R580). -/
def execBlockReturnToService (t : Nat) (role : Role) (b : Fin 194) (v : Nat) (s : State) : Res :=
  .next ((s.at t).cmdWrite role (Obj.blockCommand b.val) v)

/-! Dictionary service and security: spec/19_object_dictionary.md, spec/20_security.md -/

/-- STORE_PARAMETERS (R532). -/
def execStoreParameters (t : Nat) (role : Role) (v : Nat) (s : State) : Res := .next ((s.at t).cmdWrite role Obj.storeParameters v)
/-- RESTORE_DEFAULTS (R532). -/
def execRestoreDefaults (t : Nat) (role : Role) (v : Nat) (s : State) : Res := .next ((s.at t).cmdWrite role Obj.restoreDefaults v)

/-- A key update with its operation, over `path`. -/
def State.keyWrite (s : State) (role : Role) (path : Path) (port op : Nat) (rec : List Nat) : State :=
  s.regWrite path port role 0x3100 3 (withByte 4 op rec)

/-- KEY_ENROL (R552, R553). -/
def execKeyEnrol (t : Nat) (role : Role) (path : Path) (rec : List Nat) (s : State) : Res := .next ((s.at t).keyWrite role path 1 1 rec)
/-- KEY_REVOKE (R552). -/
def execKeyRevoke (t : Nat) (role : Role) (path : Path) (rec : List Nat) (s : State) : Res := .next ((s.at t).keyWrite role path 1 2 rec)
/-- KEY_STORE_RESET (R552). -/
def execKeyStoreReset (t : Nat) (role : Role) (path : Path) (port : Fin 4) (rec : List Nat) (s : State) : Res :=
  .next ((s.at t).keyWrite role path port.val 3 rec)
/-- ROLLBACK_COMMIT (R557). -/
def execRollbackCommit (t : Nat) (role : Role) (v : Nat) (s : State) : Res := .next ((s.at t).cmdWrite role Obj.rollbackCommit v)
/-- AUTHOR_CERTIFICATE (Table 20.12). -/
def execAuthorCertificate (t : Nat) (role : Role) (bytes : List Nat) (s : State) : Res := .next ((s.at t).reqWrite role Obj.authorCertificate bytes)
/-- AUTHOR_KEY_REMOVE (Table 20.12). -/
def execAuthorKeyRemove (t : Nat) (role : Role) (keyId : List Nat) (s : State) : Res := .next ((s.at t).reqWrite role Obj.authorKeyRemove keyId)
/-- SESSION_SETUP (R563). -/
def execSessionSetup (t : Nat) (role : Role) (v : Nat) (s : State) : Res := .next ((s.at t).cmdWrite role Obj.sessionSetup v)
/-- SESSION_RESPONSE (R563). -/
def execSessionResponse (t : Nat) (role : Role) (bytes : List Nat) (s : State) : Res := .next ((s.at t).reqWrite role Obj.sessionResponse bytes)
/-- SESSION_LOCK (R565). -/
def execSessionLock (t : Nat) (role : Role) (v : Nat) (s : State) : Res := .next ((s.at t).cmdWrite role Obj.sessionLock v)

/-- A peer writes AdmissionChallenge over hall link `k` that is up (R561). -/
def State.challengeWrite (s : State) (k : Nat) (b : List Nat) : Nat × State :=
  let c := s.writeRefused .agent [] 0x3103 3 b
  if c ≠ abNone then (c, s.count Obj.refusedWrites)
  else (abNone, (s.admitChallenge k b).noteWrite .mirror 0x3103 3)

/-- ADMISSION_CHALLENGE (R561). -/
def execAdmissionChallenge (t : Nat) (k : Fin 16) (bytes : List Nat) (s : State) : Res :=
  let s1 := s.at t
  .next (if s1.served .mirror && s1.laneUp (36 + k.val) then
    let r := s1.challengeWrite k.val bytes
    r.2.emit (.answer (r.1 % 2 ^ 32) Obj.admissionChallenge)
  else s1)

end Sys2Proof.Machine
end

