-- ==== Sys2Proof/Machine/Ecat.lean ====
section
/-! DEFINITION. Meanings: EtherCAT states, process data, the store, and the files of FoE (spec/19_object_dictionary.md). -/

namespace Sys2Proof.Machine

/-! EtherCAT states: R521, R522 -/

/-- Order of the states that Table 19.2 bounds. -/
def escRank : EscState → Nat
  | .init => 0
  | .preop => 1
  | .safeop => 2
  | .op => 3
  | .boot => 4

/-- States that the module state permits (Table 19.2). -/
def State.escPermitted (s : State) (e : EscState) : Bool :=
  match e with
  | .boot => s.mode = .standby || s.mode = .seed
  | _ => decide (escRank e ≤ (match s.mode with
    | .off | .ship => 0
    | .boot | .seed => 1
    | _ => 3))

/-- A requested state: taken where the table permits it, else refused with AL status code 0x0011. -/
def State.escRequest (s : State) (e : EscState) : State :=
  if !s.running then s
  else if s.escPermitted e then { s with dict := { s.dict with esc := e, alStatus := 0 } }
  else ({ s with dict := { s.dict with alStatus := 0x0011 } } : State).emit (.alStatus 0x0011)

/-- ESC_STATE_REQUEST (R521). -/
def execEscStateRequest (t : Nat) (req : EscState) (s : State) : Res := .next ((s.at t).escRequest req)

/-- Block of the EtherCAT controller that owns the ports. -/
def State.escBlock (s : State) : Nat := (if s.escB then 97 else 0) + blEsc

/-- The watchdog of SM2 expires in OP: SAFEOP; every value applied stays (R522). -/
def State.watchdog (s : State) : State :=
  if s.dict.esc = .op then
    (({ s with dict := { s.dict with esc := .safeop, alStatus := 0x001B } } : State).emit (.alStatus 0x001B)).event s.escBlock 5 0
  else s

/-- SM_WATCHDOG (R522). -/
def execSmWatchdog (t : Nat) (s : State) : Res := .next (s.at t).watchdog

/-! SDO information: R523 -/

/-- Every object with what a role may do: bit 0 read, bit 1 write. -/
def accessList (role : Role) : List (Nat × Nat) :=
  allRows.flatMap (fun g => (List.range (g.2.1 + 1 - g.1)).flatMap (fun i =>
    let idx := g.1 + i
    g.2.2.flatMap (fun r =>
      if decide (r.idxLo ≤ idx ∧ idx ≤ r.idxHi) then
        (List.range (r.subHi + 1 - r.subLo)).map (fun j =>
          let a := r.access role
          (idx * 256 + r.subLo + j, if a = 0 then 0 else if a = 1 || onDieFixed idx (r.subLo + j) then 1 else 3))
      else [])))

/-- SDO_INFORMATION (R523). -/
def execSdoInformation (t : Nat) (role : Role) (s : State) : Res :=
  let s1 := s.at t
  .next (if s1.served .coe then s1.emit (.sdoInfo (accessList role)) else s1)

/-! Process data: R536, R537, R539 -/

/-- Sources of the inputs 2 to 17 hex: subindex of 0x6000, object it copies (Table 19.8). -/
def inputSources : List (Nat × Nat) :=
  [(0x02, Obj.moduleState3000), (0x03, Obj.authorityHolder2F10), (0x04, Obj.coverageInForce2F00), (0x05, Obj.thermalState2E00),
   (0x06, Obj.lastFidelityException2900), (0x07, Obj.forecasterState2800), (0x08, Obj.discreteInputs2011), (0x09, Obj.busVoltage2910),
   (0x0A, Obj.commandedInput2911), (0x0B, Obj.converterPowerRef2910), (0x0E, Obj.fidelityExceptionCount2900), (0x0F, Obj.socEstimate 1),
   (0x10, Obj.socEstimate 2), (0x11, Obj.energyAboveWindow 1), (0x12, Obj.energyAboveWindow 2), (0x13, Obj.effectiveConfidence2800),
   (0x14, Obj.packagePowerEstimate2D00), (0x15, Obj.halfAUnacknowledged2F00), (0x16, Obj.halfBUnacknowledged2F00), (0x17, Obj.activePhases2A00)]

/-- All inputs take the values of one control tick (R536). -/
def State.refreshInputs (s : State) : State :=
  let s1 := s.forEach (inputSources.map (fun e => (e.1, s.readNum (e.2 / 256) (e.2 % 256)))) (fun s e => s.setNum (0x600000 + e.1) e.2)
  let latest := (smGet (fun _ => ((0 : Int), 0)) s.hist.latest 0x0031).1
  ((s1.setNat Obj.sampleTime s.hall).setNum Obj.shelfInput latest).setNum Obj.rackLoad s.eng.rack

/-- The object that an output writes (Table 19.9). -/
def outputTarget (sub : Nat) : Option (Nat × Nat) :=
  match sub with
  | 2 => some (0x2900, 1)
  | 3 => some (0x2900, 2)
  | 4 => some (0x2910, 3)
  | 5 => some (0x2D00, 6)
  | 6 => some (0x2D00, 3)
  | 7 => some (0x2F00, 9)
  | 8 => some (0x2800, 3)
  | _ => none

/-- Values of the mapped outputs in a buffer, by subindex of 0x7000 in ascending order. -/
def decodeOutputs (entries b : List Nat) : List (Nat × List Nat) :=
  let r := entries.foldl (fun (a : List (Nat × List Nat) × Nat) e =>
    let n := e % 256 / 8
    (a.1 ++ [(e / 256 % 256, slice b a.2 n)], a.2 + n)) ([], 0)
  (List.range 9).flatMap (fun sub => r.1.filter (fun e => e.1 = sub))

/-- Set the outcome of the last set judged. -/
def State.outputStatus (s : State) (seq sub code : Nat) : State :=
  ({ s with dict := { s.dict with seqJudged := seq } } : State).setNat Obj.outputStatus (seq * 65536 + sub * 256 + code)

/-- Judge and apply a set whose OutputSequence is new: all of it, or nothing (R539). -/
def State.judgeOutputs (s : State) (seq : Nat) (vals : List (Nat × List Nat)) : State :=
  let sets := vals.filterMap (fun e => match outputTarget e.1 with
    | some (idx, sub) =>
      if e.1 = 7 then (if leNat e.2 = 1 then some (e.1, idx, sub, e.2) else none)
      else if s.num (idx * 256 + sub) = (leNat e.2 : Nat) then none else some (e.1, idx, sub, e.2)
    | none => none)
  let l := sets.map (fun e => (e.2.1, e.2.2.1, e.2.2.2))
  match s.setRefused .operator l with
  | some e =>
    let sub := (sets.find? (fun x => x.2.1 = e.2.1 && x.2.2.1 = e.2.2)).map (·.1)
    (s.count Obj.refusedWrites).outputStatus seq (sub.getD 0) (mirrorCode e.1)
  | none =>
    if l.isEmpty then s.outputStatus seq 0 0
    else
      let s1 := s.applySet (l.filter (fun e => e.1 != 0x2F00))
      let s2 := if l.any (fun e => e.1 = 0x2F00) then (s1.ackAll 1).2 else s1
      (s2.noteWrite .process 0x7000 0).outputStatus seq 0 0

/-- The 100 µs boundary: inputs are refreshed; in OP a set with a new OutputSequence is judged. `b` is the output buffer, empty where no
frame has filled it. -/
def State.processData (s : State) (b : List Nat) : State :=
  if !s.served .process || s.mode = .seed then s
  else
    let s1 := s.refreshInputs
    let entries := (s1.assigned true).flatMap s1.pdoEntries
    if s1.dict.esc = .op ∧ !b.isEmpty ∧ b.length = pdoBytes entries then
      let vals := decodeOutputs entries b
      let s2 := s1.forEach vals (fun s e => s.setNat (0x700000 + e.1) (leNat e.2))
      match vals.find? (fun e => e.1 = 1) with
      | some e => if leNat e.2 ≠ s2.dict.seqJudged then s2.judgeOutputs (leNat e.2) vals else s2
      | none => s2
    else s1

/-- PROCESS_DATA_REFRESH (R536, R539). -/
def execProcessDataRefresh (t : Nat) (outputs : List Nat) (s : State) : Res := .next ((s.at t).processData outputs)

/-! Stores: R532 -/

/-- Both halves hold the new copy: it replaces the older one, and the write is answered. -/
def State.storeDone (s : State) : State :=
  match s.dict.storing with
  | none => s
  | some c =>
    let d := s.dict
    let older : Bool := match d.storedA, d.storedB with
      | none, _ => true
      | some _, none => false
      | some a, some b => decide (a.seq ≤ b.seq)
    let path : Path := if d.waiting.any (fun w => w.1 = Obj.storeParameters) then .mirror else .coe
    let s1 : State := { s with dict := { d with
      storedA := if older then some c else d.storedA
      storedB := if older then d.storedB else some c
      storing := none, storeFoe := false } }
    let s2 := s1.count Obj.storeCount
    if d.storeFoe then s2.emit (.foe 0 []) else (s2.noteWrite path 0x1010 1).answerKey Obj.storeParameters abNone

/-- STORE_COMPLETE (R532). -/
def execStoreComplete (t : Nat) (s : State) : Res := .next (s.at t).storeDone

/-! FoE: R545, R546 -/

/-- Standby to Safe. -/
def State.standbyToSafe (s : State) : Bool :=
  s.mode = .standby || s.mode = .ready || s.mode = .shaping || s.mode = .hold || s.mode = .safe

/-- The roles of a file are the operator and the service role. -/
def foeRole : Role → Bool
  | .operator | .service => true
  | _ => false

/-- 64-byte blocks of staged bytes from byte 0. -/
def State.stageBytes (s : State) (k : Nat) (b : List Nat) : State :=
  let x := s.slot k
  let data := (List.range ((b.length + 63) / 64)).foldl (fun m i => smSet (fun _ => List.replicate 64 0) m i (slice b (64 * i) 64)) x.data
  s.setSlot k { x with data := data }

/-- A file SLOT00 to SLOT15 is written: staged from byte 0, and verified (R240). -/
def State.foeSlot (s : State) (password k : Nat) (b : List Nat) : State :=
  if password ≠ 0 then s.emit (.foe 0x8002 [])
  else if s.dict.esc = .boot then s.emit (.foe 0x8001 [])
  else if !s.standbyToSafe then s.emit (.foe 0x8004 [])
  else if (s.slot k).state ≠ 1 then s.emit (.foe 0x8004 (hexText 2 0x61))
  else if (s.slot k).size < b.length then s.emit (.foe 0x8003 [])
  else ((s.stageBytes k b).slotVerify k).2.emit (.foe 0 [])

/-- FOE_SLOT_WRITE (R240, R545). -/
def execFoeSlotWrite (t : Nat) (password : Nat) (k : Fin 16) (bytes : List Nat) (s : State) : Res := .next ((s.at t).foeSlot password k.val bytes)

/-- A CONFIG file (R546). -/
def configFile (c : StoredCfg) : List Nat :=
  let r := configRecords c.recs
  [0x5A, 0x43, 0x46, 0x47, 1, c.ordering, 0, 0] ++ leBytes 4 c.recs.length ++ leBytes 4 (crc32 r) ++ r

/-- The file CONFIG is read. -/
def State.configRead (s : State) (role : Role) (password : Nat) : State :=
  if password ≠ 0 ∨ !foeRole role then s.emit (.foe 0x8002 [])
  else if s.dict.esc = .boot then s.emit (.foe 0x8001 [])
  else if !s.standbyToSafe ∧ s.mode ≠ .seed then s.emit (.foe 0x8004 [])
  else match s.storedNow with
    | some c => s.emit (.foeData (configFile c))
    | none => s.emit (.foe 0x8001 [])

/-- CONFIG_READ (R545, R546). -/
def execConfigRead (t : Nat) (role : Role) (password : Nat) (s : State) : Res := .next ((s.at t).configRead role password)

/-- Records of a CONFIG file: index, subindex, value; a record that is not laid out as R546 gives ends the list with `false`. -/
def parseRecords : Nat → List Nat → List (Nat × Nat × List Nat) × Bool
  | 0, b => ([], b.isEmpty)
  | n + 1, b =>
    if b.length < 8 then ([], false)
    else
      let len := leNat (slice b 4 4)
      let pad := (len + 3) / 4 * 4
      let e := (leNat (slice b 0 2), listGet 0 b 2, slice b 8 len)
      if listGet 0 b 3 ≠ 0 ∨ b.length < 8 + pad ∨ anyNonzero (slice b (8 + len) (pad - len)) then ([e], false)
      else
        let r := parseRecords n (b.drop (8 + pad))
        (e :: r.1, r.2)

/-- The header of a CONFIG file holds for this module. -/
def State.configHeader (s : State) (b : List Nat) : Bool :=
  decide (16 ≤ b.length) && slice b 0 4 = [0x5A, 0x43, 0x46, 0x47] && listGet 0 b 4 = 1 && listGet 0 b 5 = s.nat Obj.orderingCode &&
    !anyNonzero (slice b 6 2) && leNat (slice b 12 4) = crc32 (b.drop 16)

/-- The first record that is refused: not of the stored set, or refused by rows 6 to 9 of Table 19.4 against the new values. -/
def State.configRefused (s : State) (l : List (Nat × Nat × List Nat)) : Option (Nat × Nat) :=
  let ov := overlayOf l
  let keys := storedKeys
  (l.find? (fun e => !keys.contains (e.1 * 256 + e.2.1) || s.valueRefused ov e.1 e.2.1 e.2.2 != abNone)).map (fun e => (e.1, e.2.1))

/-- The file CONFIG is written: checked in full, applied in one execution of the write queue, then stored. -/
def State.configWrite (s : State) (role : Role) (password : Nat) (b : List Nat) : State :=
  if password ≠ 0 ∨ !foeRole role then s.emit (.foe 0x8002 [])
  else if s.dict.esc = .boot then s.emit (.foe 0x8001 [])
  else if s.mode ≠ .standby ∨ s.dict.storing.isSome then s.emit (.foe 0x8004 [])
  else if !s.configHeader b then (s.count Obj.refusedWrites).emit (.foe 0x800B [])
  else
    let r := parseRecords (leNat (slice b 8 4)) (b.drop 16)
    let bad := match s.configRefused r.1 with
      | some e => some e
      | none => if r.2 then none else r.1.getLast?.map (fun (e : Nat × Nat × List Nat) => (e.1, e.2.1))
    match bad with
    | some e => (s.count Obj.refusedWrites).emit (.foe 0x800B (hexText 4 e.1 ++ hexText 2 e.2))
    | none =>
      if r.2 then ((s.applySet r.1).noteWrite .config 0 0).storeBegin true
      else (s.count Obj.refusedWrites).emit (.foe 0x800B [])

/-- CONFIG_WRITE (R545, R546). -/
def execConfigWrite (t : Nat) (role : Role) (password : Nat) (bytes : List Nat) (s : State) : Res := .next ((s.at t).configWrite role password bytes)

end Sys2Proof.Machine
end

