-- ==== Sys2Proof/Machine/Boot.lean ====
section
/-! DEFINITION. Meaning of BOOT_STAGE_COMPLETE: the stages of Table 18.1, image verification at stage 2, the stored configuration, and the
entry to Standby (spec/18_startup_and_shutdown.md R498 to R507, spec/19_object_dictionary.md R534, spec/20_security.md R553 to R557). -/

namespace Sys2Proof.Machine

/-! Stage 1 -/

/-- The Hazel ROM runs: ALIVE toggles from now on, and the half's Hazel blocks operate (R68, R498). -/
def State.romRuns (s : State) (h : Nat) : State :=
  let p := s.pins
  let s1 : State := if h = 0 then { s with pins := { p with aliveOnA := true, edgeA := s.now, ticksA := 0 } }
    else { s with pins := { p with aliveOnB := true, edgeB := s.now, ticksB := 0 } }
  s1.blocksOn ((List.range 11).map (· + 97 * h))

/-- Stage 1 ends: Seed where three failures stand in the window (R504), else stage 2; in half A, fabric core 24 comes on. -/
def State.stage1Done (s : State) (h : Nat) : State :=
  let s1 := s.romRuns h
  if 3 ≤ s1.failsInWindow.length then s1.enterSeed
  else
    let s2 := s1.setStage h 2
    if h = 0 then s2.domainOn 24 else s2

/-! Stage 2: R554 to R557 -/

/-- The half takes no part in this Boot. -/
def State.bootOut (s : State) (h : Nat) : Bool := s.stageOf h = 0 || s.lost h || s.reacted h

/-- An active main image holds: `ok` for what the ROM read, and Table 20.4 for an image that the state holds. -/
def State.activeHolds (s : State) (h : Nat) (ok : Bool) : Bool :=
  ok && match (s.images h).mainActive with
    | some x => s.imageCheck 1 x.bytes = 0
    | none => decide (max s.dict.fusesA s.dict.fusesB ≤ activeRollback 1 none)

/-- The pending image of a kind in a half. -/
def State.pendingOf (s : State) (h kind : Nat) : Option Image := if kind = 1 then (s.images h).mainPending else (s.images h).seedPending

/-- It verifies. -/
def State.pendingOk (s : State) (h kind : Nat) : Bool :=
  match s.pendingOf h kind with
  | some x => s.imageCheck kind x.bytes = 0
  | none => false

/-- The pending image of a kind becomes active in a half. -/
def State.takePending (s : State) (kind h : Nat) : State :=
  let x := s.images h
  s.setImages h (if kind = 1 then { x with mainActive := x.mainPending, mainPending := none } else { x with seedActive := x.seedPending, seedPending := none })

/-- Both Hazels judge their pending images of a kind: active in both or in neither, and in one where the other half is not usable. -/
def State.judgePending (s : State) (kind : Nat) : State :=
  let part := (List.range 2).filter (fun h => !s.bootOut h)
  if part.all (fun h => (s.pendingOf h kind).isNone) then s
  else
    let s1 := s.forEach part (fun s h => match s.pendingOf h kind with
      | some x => s.noteVerify (s.imageCheck kind x.bytes)
      | none => s)
    if part.all (fun h => s.pendingOk h kind) then (s1.forEach part (State.takePending · kind)).pruneAdopted
    else s1.forEach part (fun s h => s.event (97 * h + blBoot) 11 0)

/-- A Hazel with fewer rollback fuses blown is matched to the other (R557). -/
def State.matchFuses (s : State) : State :=
  let m := max s.dict.fusesA s.dict.fusesB
  { s with dict := { s.dict with fusesA := if s.bootOut 0 then s.dict.fusesA else m, fusesB := if s.bootOut 1 then s.dict.fusesB else m } }

/-- A half is not usable: HalfState 4, and the other half takes its lanes, buses and ports (R499). -/
def State.halfUnusable (s : State) (h : Nat) : State := (s.setStage h 0).halfTakeover h

/-- Stage 2 ends with the half's image verified or rejected. -/
def State.stage2Done (s : State) (h : Nat) (ok : Bool) : State :=
  let o := 1 - h
  let s0 := if s.bootOut o ∨ 2 < s.stageOf o then (s.matchFuses.judgePending 1).judgePending 2 else s
  let v := s0.activeHolds h ok
  let s1 : State := if h = 0 then { s0 with boot := { s0.boot with verifiedA := v } } else { s0 with boot := { s0.boot with verifiedB := v } }
  if v then
    if s1.boot.thermalLatch then s1.thermalShutdown 255 else s1.stage3 h
  else
    let s2 := (s1.noteVerify (match (s1.images h).mainActive with
      | some x => let c := s1.imageCheck 1 x.bytes; if c = 0 then 0x65 else c
      | none => if ok then 0x80 else 0x65)).halfUnusable h
    if s2.bootOut o then s2.bootFail 1 3 0 else s2

/-! Stages 4 to 6 -/

/-- Domains of a half that are still coming on. -/
def State.domainsComing (s : State) (h : Nat) : Bool :=
  (List.range 28).any (fun d => domHalf d = h && (s.domState d = 2 || s.pow.want.contains d))

/-- Both Hazels run: the cross-link channels that train are up (Table 18.2). -/
def State.trainChannels (s : State) : State :=
  if 5 ≤ s.stageOf 0 ∧ 5 ≤ s.stageOf 1 ∧ !s.bootOut 0 ∧ !s.bootOut 1 then
    let up := fun (l : Nat) => !s.blockSafe 0 l && !s.blockSafe 1 l
    let v := bit (up blSupervisor) 0 + bit (up blFabricPort && s.fabricOn 0 && s.fabricOn 1) 1 +
      bit (s.pecan.linkDown.all (fun e => e.1 != 3) && s.domState 3 = 1 && s.domState 4 = 1) 2
    { s with hold := { s.hold with channels := v } }
  else s

/-- The half's trained stacks are in service. -/
def State.stacksUp (s : State) (h : Nat) : State :=
  s.forEach ((List.range 4).map (· + 4 * h)) (fun s k => if s.nat (Obj.stackState k) = 1 then s.setNat (Obj.stackState k) 2 else s)

/-- The newer stored copy is applied, object by object, each checked against rows 6 to 9 of Table 19.4 (R534). -/
def State.applyStored (s : State) : State :=
  let b := (if s.escB then 97 else 0) + blBoot
  match s.storedNow with
  | none => s
  | some c =>
    if c.ordering ≠ s.nat Obj.orderingCode then (s.event b 11 0).setNat Obj.storedConfigState 3
    else
      let l := c.recs.map (fun e => (e.1 / 256, e.1 % 256, e.2))
      let ov := overlayOf l
      let good := fun (e : Nat × Nat × List Nat) => s.valueRefused ov e.1 e.2.1 e.2.2 = abNone
      let s1 := s.forEach l (fun s e => if good e then s.storeValue e.1 e.2.1 e.2.2 else s.event b 11 (e.1 * 65536 + e.2.1 * 256))
      let s2 := s1.forEach (List.range 64) (fun s i => s.setInst i (s.staged i))
      s2.setNat Obj.storedConfigState (if l.all (fun e => decide (good e)) then 1 else 2)

/-- The first half reaches stage 6: stored configuration, persistent state, and the rings; an S1 probes the ring of string 2 (R3, R387, R416). -/
def State.stage6Enter (s : State) (h : Nat) : State :=
  let first := decide (s.stageOf (1 - h) < 6)
  let s1 := s.setStage h 6
  if first then
    let s2 := s1.applyStored.restorePersist.hallRoles
    (s2.forEach [0, 1] State.ringRestart).refreshClamps
  else s1

/-- The built-in tests of Table 18.2 that put a block in its safe state fail in the blocks listed: a class 2 fault, code 4, of each (R343, R498). -/
def State.testsFail (s : State) (h : Nat) (l : List (Fin 97)) : State :=
  s.forEach l (fun s k => s.raise (97 * h + k.val) clComputation 4 0 lvBlock true)

/-- Stage 5 ends: `ok` is the test of fuses and key store; the half is usable where its image verified and it is healthy (R499). -/
def State.stage5Done (s : State) (h : Nat) (ok : Bool) (failed : List (Fin 97)) : State :=
  let o := 1 - h
  let s0 := s.testsFail h failed
  let s1 := if ok then s0 else s0.raise (97 * h + blBoot) clComputation 4 0 lvBlock true
  let s2 := (s1.stacksUp h).trainChannels
  let usable := ok && (if h = 0 then s2.boot.verifiedA else s2.boot.verifiedB) && s2.healthyNoSup h
  if s2.mode ≠ .boot then s2
  else if usable then s2.stage6Enter h
  else
    let s3 := s2.halfUnusable h
    if s3.bootOut o then s3.bootFail 2 3 (s3.boot.firstFail.getD 0) else s3

/-- A ring is still being enumerated. -/
def State.ringsBusy (s : State) : Bool := [0, 1].any (fun k => s.ringMode k = rmEnumerating || (s.ring k).enumerating)

/-- Every half has gone through: default rings, wake latch, Standby (Table 18.1, R499). -/
def State.bootEnd (s : State) : State :=
  if s.mode = .boot ∧ [0, 1].all (fun h => s.bootOut h || s.stageOf h = 7) ∧ [0, 1].any (fun h => !s.bootOut h) then
    let s1 := s.defineDefaults
    ({ s1 with pins := { s1.pins with wakeLatch := false } } : State).standDown
  else s

/-- Stage 6 ends once the rings have been enumerated. -/
def State.stage6Done (s : State) (h : Nat) : State := if s.ringsBusy then s else (s.setStage h 7).bootEnd

/-- The present stage of half `h` ends. -/
def State.stageDone (s : State) (h : Nat) (ok : Bool) (failed : List (Fin 97)) : State :=
  if s.mode ≠ .boot ∨ s.boot.inReset ∨ s.boot.restartAt.isSome ∨ s.bootOut h then s
  else
    match s.stageOf h with
    | 1 => s.stage1Done h
    | 2 => s.stage2Done h ok
    | 3 => if s.pins.coolantSeated then s.stage4 h else s
    | 4 => if s.domainsComing h then s else s.setStage h 5
    | 5 => s.stage5Done h ok failed
    | 6 => s.stage6Done h
    | _ => s.bootEnd

/-- BOOT_STAGE_COMPLETE (R498 to R507). -/
def execBootStageComplete (t : Nat) (h : Half) (ok : Bool) (failed : List (Fin 97)) (s : State) : Res := .next ((s.at t).stageDone (halfIdx h) ok failed)

end Sys2Proof.Machine
end

