-- ==== Sys2Proof/Machine/Region.lean ====
section
/-! DEFINITION. What a Read or a Write does in each region of the global address space: spec/04_brucel_fabric.md R110 to R113 with
the chapters Table 4.10 names. A refusal is a code of Table 4.6 or of the region. -/

namespace Sys2Proof.Machine

/-- The role of a request (Table 20.7): a module agent's endpoint takes none. -/
def frameRole (f : Frame) : Role :=
  if 0x1000 ≤ f.srcEp ∧ f.srcEp ≤ 0x1003 then .agent
  else if f.tenant = 0 then .operator
  else if f.tenant = tagService then .service
  else .tenant f.tenant

/-- A Read of region 0x0: the data bits of consecutive words, each checked as a Read (R111, R131). -/
def State.readWords (s : State) (f : Frame) (n : Nat) : Nat × List Nat :=
  let w0 := frameWord f
  let ws := (List.range (n / 8)).map (· + w0)
  if !s.syncService then (rsStateRefused, [])
  else if 262144 < w0 + n / 8 then (rsOffsetOutOfRange, [])
  else
    match ws.filterMap (fun w => s.wordCheck opRead w f.tenant) with
    | c :: _ => (c, [])
    | [] => (rsOk, ws.flatMap (fun w => leBytes 8 (s.word w).data))

/-- A Read of region 0x1: whole or part descriptors (R111, R143). -/
def State.readWatches (s : State) (f : Frame) (n : Nat) : Nat × List Nat :=
  let o := addrOffset f.addr
  let v0 := o / 32
  let v1 := (o + n + 31) / 32
  let vs := (List.range (v1 - v0)).map (· + v0)
  if !s.syncService then (rsStateRefused, [])
  else if 65536 < v1 then (rsOffsetOutOfRange, [])
  else
    match vs.filterMap (fun v => s.watchRows v f.tenant) with
    | c :: _ => (c, [])
    | [] => (rsOk, slice (vs.flatMap s.watchBytes) (o - 32 * v0) n)

/-- The history service runs: the fabric is up. -/
def State.histService (s : State) : Bool := s.mode != .off && s.mode != .ship && s.mode != .boot && s.mode != .seed

/-- A requester may read channel `c`'s samples: the operator, or a tenant it is granted to (R269, R284). -/
def State.mayReadChan (s : State) (f : Frame) (c : Nat) : Bool :=
  match frameRole f with
  | .operator => true
  | .tenant g => s.granted g c
  | _ => false

/-- A Read of region 0x2 (R269, R271). -/
def State.readLatest (s : State) (f : Frame) (n : Nat) : Nat × List Nat :=
  let c0 := addrOffset f.addr / 8
  let cs := (List.range (n / 8)).map (· + c0)
  if !s.histService then (rsStateRefused, [])
  else if 65536 < c0 + n / 8 then (rsOffsetOutOfRange, [])
  else if cs.any (fun c => !s.mayReadChan f c) then (rsTenantDenied, [])
  else (rsOk, cs.flatMap (fun c => leBytes 4 (s.latestEntry c).1 ++ leBytes 4 (s.latestEntry c).2))

/-- A ring that a fabric Read meets (R279, Table 9.10). -/
def RingDef.readRefused (r : RingDef) : Option Nat :=
  if r.deleting || !(r.live || r.state = 4) then some hsChannelNotDefined
  else if r.state = 4 then some hsRingLost
  else none

/-- A Read of region 0x3 in the window view (R281, R283). -/
def State.readWindow (s : State) (f : Frame) (n : Nat) : Nat × List Nat :=
  let off := addrOffset f.addr
  if field off 38 36 ≠ 0 ∨ 65536 < off % 65536 + n then (rsOffsetOutOfRange, [])
  else
    match s.window (field off 35 24) with
    | none => (rsOffsetOutOfRange, [])
    | some d =>
      let owner := match frameRole f with
        | .operator => true
        | .tenant g => decide (d.owner = g)
        | _ => false
      if !(owner || s.mayReadChan f d.channel) then (rsTenantDenied, [])
      else
        match (s.ringDef d.channel).readRefused with
        | some c => (c, [])
        | none => (rsOk, s.windowBytes d (s.anchorOf d (field off 23 16)) (off % 65536) n)

/-- A Read of region 0x3 in the raw view (R280). -/
def State.readRaw (s : State) (f : Frame) (n : Nat) : Nat × List Nat :=
  let off := addrOffset f.addr
  match s.rawRing off with
  | none => (rsOffsetOutOfRange, [])
  | some (c, r) =>
    if !s.mayReadChan f c then (rsTenantDenied, [])
    else
      match r.readRefused with
      | some e => (e, [])
      | none =>
        match (r.advance s.histT).rawBytes (off - r.base) n with
        | some b => (rsOk, b)
        | none => (rsOffsetOutOfRange, [])

/-- A Read of region 0x3 (R280 to R284). -/
def State.readHistory (s : State) (f : Frame) (n : Nat) : Nat × List Nat :=
  if !s.histService then (rsStateRefused, [])
  else if bitOf (addrOffset f.addr) 39 then s.readWindow f n
  else s.readRaw f n

/-! Region 0x4: R540 to R542 -/

/-- Index, subindex and first byte that an offset of region 0x4 names, and the byte limit of its view (R540). -/
def mirrorPlace (off : Nat) : Nat × Nat × Nat × Nat :=
  if bitOf off 39 then (field off 38 24, field off 23 16, off % 65536, 65536)
  else (off / 65536, off / 256 % 256, off % 256, 256)

/-- Count a region 0x4 request (Table 19.16). -/
def State.mirrorCount (s : State) : State := s.count Obj.mirrorRequests

/-- Reading the last value of a channel's trace counts as it does over CoE (R347). -/
def State.traceSeen (s : State) (idx sub : Nat) (last : Bool) : State :=
  if 0x2931 ≤ idx ∧ idx ≤ 0x2938 ∧ sub = 2 ∧ last then s.traceRead (idx - 0x2931) else s

/-- A Read of region 0x4. -/
def State.readMirror (s : State) (f : Frame) (n : Nat) : (Nat × List Nat) × State :=
  let s1 := s.mirrorCount
  let p := mirrorPlace (addrOffset f.addr)
  let idx := p.1
  let sub := p.2.1
  if !s.served .mirror then ((rsStateRefused, []), s1)
  else if 0x7FFF < idx then ((rsOffsetOutOfRange, []), s1)
  else
    let r := s.dictRead (frameRole f) idx sub
    if r.1 ≠ abNone then ((mirrorCode r.1, []), s1)
    else
      let v := padTo 8 r.2
      if p.2.2.2 < r.2.length ∨ v.length < p.2.2.1 + n then ((rsOffsetOutOfRange, []), s1)
      else ((rsOk, slice v p.2.2.1 n), s1.traceSeen idx sub (decide (v.length ≤ p.2.2.1 + n)))

/-- The value of an object that a transfer of `b` carries, its padding taken off, or the code that refuses it (R541). -/
def mirrorValue (idx sub : Nat) (b : List Nat) : Except Nat (List Nat) :=
  let cut := fun (n : Nat) => if anyNonzero (b.drop n) then Except.error 0x41 else Except.ok (b.take n)
  match descOf idx sub with
  | none => .error rsOffsetOutOfRange
  | some r => match r.ty with
    | .num bits _ => if b.length = (bits / 8 + 7) / 8 * 8 then cut (bits / 8) else .error rsLengthInvalid
    | .oct k => if b.length = (k + 7) / 8 * 8 then cut k else .error rsLengthInvalid
    | .dom m =>
      let e := if idx = 0x2C02 then
          let nt := listGet 0 b 1
          let nr := listGet 0 b 2
          8 + 2 * nt + 2 * nr + 42 * nt * nr
        else b.length
      if (m + 7) / 8 * 8 < b.length then .error rsLengthInvalid
      else if e ≤ b.length ∧ b.length < e + 8 then cut e
      else .ok b

/-- What a whole Write transfer to region 0x4 does: its payloads from byte 0 of one value, and its answer's code; `abWaits` where the
answer comes later (R541, R542). Frames: offset in the region and payload, in sequence order. -/
def State.writeMirror (s : State) (lane : Nat) (f : Frame) (parts : List (Nat × List Nat)) : Nat × State :=
  let s1 := s.mirrorCount
  let lo := parts.foldl (fun a x => min a x.1) (addrOffset f.addr)
  let p := mirrorPlace lo
  let idx := p.1
  let sub := p.2.1
  let total := sumN (parts.map (fun x => x.2.length))
  let bytes := (List.range ((total + 7) / 8)).flatMap (fun i =>
    match parts.find? (fun x => decide (x.1 ≤ lo + 8 * i ∧ lo + 8 * i < x.1 + x.2.length)) with
    | some x => slice x.2 (lo + 8 * i - x.1) 8
    | none => [])
  if !s.served .mirror then (rsStateRefused, s1)
  else if 0x7FFF < idx then (rsOffsetOutOfRange, s1)
  else
    let role := frameRole f
    let a := s.accessRefused role idx sub true
    let peer := decide (role = .agent ∧ f.srcEp = 0x1000)
    if peer ∧ idx = 0x2211 ∧ sub = 1 then
      if p.2.2.1 ≠ 0 ∨ bytes.length ≠ total then (rsLengthInvalid, s1) else s1.domainPeer f.srcShelf bytes
    else if peer ∧ idx = 0x3103 ∧ sub = 3 then
      if p.2.2.1 ≠ 0 ∨ bytes.length ≠ 48 then (rsLengthInvalid, s1)
      else
        let r := s1.challengeWrite (lane - 36) bytes
        (mirrorCode r.1, r.2)
    else if a ≠ abNone then (mirrorCode a, s1.count Obj.refusedWrites)
    else if p.2.2.2 < total then (rsOffsetOutOfRange, s1.count Obj.refusedWrites)
    else if p.2.2.1 ≠ 0 ∨ bytes.length ≠ total then (rsLengthInvalid, s1.count Obj.refusedWrites)
    else
      match mirrorValue idx sub bytes with
      | .error c => (c, s1.count Obj.refusedWrites)
      | .ok v =>
        let r := s1.dictWrite .mirror 0 role idx sub v
        if r.1 = abWaits then (abWaits, r.2) else (mirrorCode r.1, r.2)

/-! Regions 0x2, 0x5 and 0x6: writes -/

/-- The refusal of one entry of a region 0x2 Write (R269). -/
def State.sampleRefused (s : State) (f : Frame) (c : Nat) : Option Nat :=
  if 0x10000 ≤ c then some rsOffsetOutOfRange
  else if chanTray c then
    if f.tenant = 0 ∧ f.srcShelf = s.own ∧ f.srcEp = 0x2000 + c then none else some rsTenantDenied
  else if chanFree c then
    let r := s.ringDef c
    if r.state = 0 ∨ r.deleting then some hsChannelNotDefined
    else if r.owner = f.tenant ∧ frameRole f ≠ .agent then none
    else some rsTenantDenied
  else some hsChannelNotWritable

/-- A whole Write transfer to region 0x2: every entry, or none (R269, R270). -/
def State.writeLatest (s : State) (f : Frame) (parts : List (Nat × List Nat)) : Nat × State :=
  let es := parts.flatMap (fun x => (List.range (x.2.length / 8)).map (fun i =>
    (x.1 / 8 + i, leNat (slice x.2 (8 * i) 4), leNat (slice x.2 (8 * i + 4) 4))))
  if !s.histService then (rsStateRefused, s)
  else
    match es.filterMap (fun e => s.sampleRefused f e.1) with
    | c :: _ => (c, s)
    | [] => (rsOk, s.forEach es (fun s e => s.fabricSample e.1 e.2.1 e.2.2))

/-- The mailbox that an offset of region 0x5 names, or the refusal of an access to `n` bytes there (R259, R260). -/
def State.mailboxAt (s : State) (f : Frame) (off n : Nat) (write : Bool) : Except Nat (Nat × PartSt × MboxDesc) :=
  match s.mailbox (off / 65536) with
  | none => .error rsOffsetOutOfRange
  | some (h, q, m) =>
    let p := s.prog h
    let may := match frameRole f with
      | .operator | .service => true
      | .tenant g => decide (p.tenant = g)
      | _ => false
    if 64 * m.lines < off % 65536 + n then .error rsOffsetOutOfRange
    else if !may then .error rsTenantDenied
    else if !bitOf m.access (if write then 1 else 0) then .error rsOpcodeNotPermitted
    else if p.state ≠ pgLoaded ∧ p.state ≠ pgRunning ∧ p.state ≠ pgStopped then .error rsStateRefused
    else .ok (h, q, m)

/-- Write bytes into an array's store from byte `b` of line `l` on, each 8-byte word in one write (R260). -/
def ArrSt.writeWords (a : ArrSt) (l b : Nat) (v : List Nat) : ArrSt :=
  (List.range (v.length / 8)).foldl (fun (a : ArrSt) i =>
    let at_ := b + 8 * i
    let old := a.line (l + at_ / 64)
    let new := old.take (at_ % 64) ++ slice v (8 * i) 8 ++ old.drop (at_ % 64 + 8)
    { a with store := smSet (fun _ => List.replicate 64 0) a.store (l + at_ / 64) new }) a

/-- The bytes that a fabric Read takes from a store; those of a poisoned line are free values. -/
def ArrSt.readWords (a : ArrSt) (l b n draw : Nat) : List Nat :=
  (List.range n).map (fun i =>
    let at_ := b + i
    if smGet (fun _ => false) a.poison (l + at_ / 64) then Config.randomByte draw i % 256
    else listGet 0 (a.line (l + at_ / 64)) (at_ % 64))

/-- A Read of region 0x5. -/
def State.readMailbox (s : State) (f : Frame) (n : Nat) : (Nat × List Nat) × State :=
  let off := addrOffset f.addr
  match s.mailboxAt f off n false with
  | .error c => ((c, []), s)
  | .ok (_, q, m) =>
    let d := s.draw
    ((rsOk, (s.arr q.array).readWords (q.base + m.line) (off % 65536) n d.1), d.2)

/-- One frame of a Write to region 0x5 is written as it is held (R105, R260). -/
def State.writeMailbox (s : State) (f : Frame) : Nat × State :=
  let off := addrOffset f.addr
  match s.mailboxAt f off f.payload.length true with
  | .error c => (c, s)
  | .ok (_, q, m) => (rsOk, s.setArr q.array ((s.arr q.array).writeWords (q.base + m.line) (off % 65536) f.payload))

/-- After the Last frame of a mailbox Write: the flag line counts (R260). -/
def State.mailboxFlag (s : State) (f : Frame) : State :=
  match s.mailbox (addrOffset f.addr / 65536) with
  | none => s
  | some (_, q, m) =>
    let a := s.arr q.array
    let line := a.line (q.base + m.flag)
    s.setArr q.array (a.writeWords (q.base + m.flag) 0 (leBytes 8 ((leNat (line.take 8) + 1) % 2 ^ 64)))

/-- After the signal of a mailbox Write: trigger 4 of the slow lane (R254, R260). -/
def State.mailboxTrigger (s : State) (f : Frame) : State :=
  match s.mailbox (addrOffset f.addr / 65536) with
  | none => s
  | some (h, q, m) =>
    let p := s.prog h
    if bitOf m.access 2 ∧ p.trigger = 4 ∧ p.mailbox = m.loc + 256 * q.idx then s.triggerRun h else s

/-- The staging slot that an offset of region 0x6 names, or the refusal of an access to `n` bytes there (R241). -/
def State.stagingAt (s : State) (f : Frame) (off n : Nat) (write : Bool) : Except Nat (Nat × SlotSt) :=
  let k := off / 2 ^ 32
  let x := s.slot k
  let role := frameRole f
  let may := match role with
    | .operator => true
    | .tenant g => decide (x.tenant = g)
    | _ => false
  if 15 < k ∨ x.size < off % 2 ^ 32 + n then .error rsOffsetOutOfRange
  else if !(x.state = 0 || may) then .error rsTenantDenied
  else if (if write then x.state ≠ 1 else (x.state ≠ 1 ∧ x.state ≠ 3 ∧ x.state ≠ 4)) then .error 0x61
  else .ok (k, x)

/-- A Read of region 0x6. -/
def State.readStaging (s : State) (f : Frame) (n : Nat) : Nat × List Nat :=
  let off := addrOffset f.addr
  match s.stagingAt f off n false with
  | .error c => (c, [])
  | .ok (_, x) =>
    let o := off % 2 ^ 32
    let b0 := o / 64
    let b1 := (o + n + 63) / 64
    (rsOk, slice ((List.range (b1 - b0)).flatMap (fun i => smGet (fun _ => List.replicate 64 0) x.data (b0 + i))) (o - 64 * b0) n)

/-- One frame of a Write to region 0x6 is written as it is held (R105). -/
def State.writeStaging (s : State) (f : Frame) : Nat × State :=
  let off := addrOffset f.addr
  match s.stagingAt f off f.payload.length true with
  | .error c => (c, s)
  | .ok (k, x) =>
    let o := off % 2 ^ 32
    let data := (List.range (f.payload.length / 8)).foldl (fun (m : List (Nat × List Nat)) i =>
      let at_ := o + 8 * i
      let old := smGet (fun _ => List.replicate 64 0) m (at_ / 64)
      smSet (fun _ => List.replicate 64 0) m (at_ / 64) (old.take (at_ % 64) ++ slice f.payload (8 * i) 8 ++ old.drop (at_ % 64 + 8))) x.data
    (rsOk, s.setSlot k { x with data := data })

/-- A Read that has passed the fabric's checks, at its region. -/
def State.regionRead (s : State) (f : Frame) : (Nat × List Nat) × State :=
  let n := f.operand
  match addrRegion f.addr with
  | 0 => (s.readWords f n, s)
  | 1 => (s.readWatches f n, s)
  | 2 => (s.readLatest f n, s)
  | 3 => (s.readHistory f n, s)
  | 4 => s.readMirror f n
  | 5 => s.readMailbox f n
  | _ => (s.readStaging f n, s)

end Sys2Proof.Machine
end

