-- ==== Sys2Proof/Machine/Fabric.lean ====
section
/-! DEFINITION. Meanings: links, virtual channels, flows, transfers, return frames, broadcasts and hall time
(spec/04_brucel_fabric.md). -/

namespace Sys2Proof.Machine

/-! Frames as bytes: R82 to R87 -/

/-- The opcodes of Table 4.4. -/
def knownOp (op : Nat) : Bool := isLinkOp op || isFlowOp op || isRequest op || isReturn op

/-- The header and payload of a frame, from the destination address on (Table 4.2, R85). -/
def parseFrame (b : List Nat) : Frame :=
  let h := b.drop 14
  let w := beNat (slice h 12 4)
  let op := listGet 0 h 1
  let fl := listGet 0 h 2
  let sync := decide (op = opSyncResponse)
  { vc := field (listGet 0 h 0) 3 2, age := listGet 0 h 0 % 4, op := op
    first := bitOf fl 7, last := bitOf fl 6, signal := bitOf fl 5, respReq := bitOf fl 4, retx := bitOf fl 3
    tenant := listGet 0 h 3, srcShelf := listGet 0 h 4, srcEp := beNat (slice h 5 2), result := listGet 0 h 7
    seq := beNat (slice h 8 2), tid := beNat (slice h 10 2)
    signalOp := if sync then 0 else field w 19 18
    signalWord := if sync then 0 else w % 2 ^ 18
    full := decide sync && bitOf w 16
    gen := if sync then w % 65536 else 0
    addr := beNat (slice h 16 8), operand := beNat (slice h 24 8), payload := slice h 32 (w / 2 ^ 20) }

/-- A reserved field of the frame is not zero (R8, Tables 4.2, 4.3, 4.4, 4.7, 5.12). -/
def frameReserved (b : List Nat) : Bool :=
  let h := b.drop 14
  let f := parseFrame b
  let w := beNat (slice h 12 4)
  let routed := isReturn f.op || isFlowOp f.op
  decide (listGet 0 h 2 % 8 ≠ 0) ||
  (!isReturn f.op && f.result != 0) ||
  (if f.op = opSyncResponse then w / 2 ^ 20 != 0 || field w 19 17 != 0
   else !(f.op = opWrite && f.last && f.signal) && decide (w % 2 ^ 20 ≠ 0)) ||
  (routed && (decide (2 ^ 52 ≤ f.addr) || field f.addr 27 24 != 0 || (f.op != opReadResponse && f.addr % 2 ^ 24 != 0))) ||
  (isLinkOp f.op && f.addr != 0) ||
  (if f.op = opAck then decide (2 ^ 48 ≤ f.operand)
   else if f.op = opFlowReset ∨ f.op = opReadResponse ∨ f.op = opWriteResponse then decide (2 ^ 16 ≤ f.operand)
   else if f.op = opRead then decide (2 ^ 25 ≤ f.operand)
   else if f.op = opArrive then f.operand % 2 ^ 32 != 0
   else false)

/-- The envelope holds (R83): EtherType of the lane, no tag, Version 1, length. The FCS is judged with it. -/
def envelopeOk (ether : Nat) (b : List Nat) : Bool :=
  decide (64 ≤ b.length) && beNat (slice b 12 2) = ether && listGet 0 b 14 / 16 = 1 &&
    decide (b.length = max 64 (50 + beNat (slice b 26 4) / 2 ^ 20))

/-! Credits: R93 -/

/-- Send a LinkCredit with what has been freed. -/
def State.sendCredit (s : State) (n : Nat) : State :=
  let l := s.lane n
  let q := l.freed
  (s.setLane n { l with reported := q, unreportedSince := none, lastCredit := s.now }).enqueue n
    { op := opLinkCredit, srcShelf := s.own, srcEp := 0x1000
      operand := q.v0 % 65536 * 2 ^ 48 + q.v1 % 65536 * 2 ^ 32 + q.v2 % 65536 * 2 ^ 16 + q.v3 % 65536 }

/-- Blocks of a received frame are freed; 8 unreported on a channel send a LinkCredit. -/
def State.freeBlocks (s : State) (n vc blocks : Nat) : State :=
  let l := s.lane n
  let q := l.freed.set vc ((l.freed.get vc + blocks) % 65536)
  let s1 := s.setLane n { l with freed := q, unreportedSince := match l.unreportedSince with
    | some t => some t
    | none => some s.now }
  if [0, 1, 2, 3].any (fun c => decide (8 ≤ (q.get c + 65536 - l.reported.get c) % 65536)) then s1.sendCredit n else s1

/-- LINK_CREDIT (R93). -/
def State.linkCredit (s : State) (n : Nat) (f : Frame) : State :=
  if s.laneUp n then
    s.setLane n { s.lane n with returned := { v0 := f.operand / 2 ^ 48 % 65536, v1 := f.operand / 2 ^ 32 % 65536
                                              v2 := f.operand / 2 ^ 16 % 65536, v3 := f.operand % 65536 } }
  else s

/-- LINK_CREDIT (R93). -/
def execLinkCredit (t : Nat) (lane : Fin 52) (f : Frame) (s : State) : Res := .next ((s.at t).linkCredit lane.val f)

/-- 500 ns after a block was freed, or 10 µs after the last LinkCredit, one goes. -/
def State.creditTimer (s : State) (n : Nat) : State :=
  let l := s.lane n
  let due := match l.unreportedSince with
    | some t => decide (t + 500 ≤ s.now)
    | none => false
  if s.laneUp n && (due || decide (l.lastCredit + 10 * us ≤ s.now)) then s.sendCredit n else s

/-- CREDIT_RETURN_TIMER (R93). -/
def execCreditReturnTimer (t : Nat) (lane : Fin 52) (s : State) : Res := .next ((s.at t).creditTimer lane.val)

/-! Bring-up: R91, R92 -/

/-- The LinkInit payload of lane `n` (Table 4.8). -/
def State.initPayload (s : State) (n : Nat) : List Nat :=
  let l := s.lane n
  [1, if l.peerSeen then 1 else 0, 0, l.shelf % 256] ++ beBytes 2 n ++ beBytes 2 l.domain ++
    beBytes 2 64 ++ beBytes 2 128 ++ beBytes 2 128 ++ beBytes 2 512 ++ beBytes 2 1024 ++ beBytes 2 l.dims ++ List.replicate 12 0

/-- Send LinkInit. -/
def State.sendInit (s : State) (n : Nat) : State :=
  (s.setLane n { s.lane n with lastInit := s.now }).enqueue n { op := opLinkInit, srcShelf := s.own, srcEp := 0x1000, payload := s.initPayload n }

/-- The lane's PCS locks: Init begins, with the identity that the bring-up uses (R91, R126). -/
def State.pcsLock (s : State) (n : Nat) : State :=
  if s.laneState n = 1 ∧ !(s.lane n).cageRefused then
    let s1 := (s.setLaneState n 2 0).setLane n { cageRefused := false, pcs := true, lastInit := s.now
                                                 ether := s.nat Obj.etherType, shelf := s.nat Obj.shelfNumber
                                                 domain := s.nat Obj.hallDomainId, dims := s.nat Obj.hallDimensions }
    s1.sendInit n
  else s

/-- PCS_LOCK (R91). -/
def execPcsLock (t : Nat) (lane : Fin 52) (s : State) : Res := .next ((s.at t).pcsLock lane.val)

/-- Every 10 µs from PCS lock until Up, LinkInit goes. -/
def State.initTimer (s : State) (n : Nat) : State :=
  let l := s.lane n
  if l.pcs && (s.laneState n = 2 || s.laneState n = 4) && decide (l.lastInit + 10 * us ≤ s.now) then s.sendInit n else s

/-- LINK_INIT_TIMER (R91). -/
def execLinkInitTimer (t : Nat) (lane : Fin 52) (s : State) : Res := .next ((s.at t).initTimer lane.val)

/-- The lane is Up once a LinkInit with PeerSeen has come and one has been sent (R91). -/
def State.laneTryUp (s : State) (n : Nat) : State :=
  let l := s.lane n
  if s.laneState n = 2 && l.gotSeen && l.sentSeen then
    let s1 := (s.setLaneState n 3 0).setLane n { l with lastCredit := s.now, vc0Run := 0 }
    if isHall n then s1.setAdmit (n - 36) { upAt := s.now } else s1
  else s

/-- The reason that refuses a lane, 0 none (R92, in the order of its numbers). -/
def State.initReason (s : State) (n : Nat) (b : List Nat) : Nat :=
  let l := s.lane n
  let role := listGet 0 b 0
  let shelf := listGet 0 b 3
  let cr := fun (i : Nat) => beNat (slice b (8 + 2 * i) 2)
  let pay := beNat (slice b 16 2)
  let miscabled : Bool := match baseLink l.dims (n - 36) with
    | none => true
    | some i => decide (shelf ≠ linkPeer l.dims l.shelf i ∨ beNat (slice b 4 2) ≠ linkPeerLane l.dims l.shelf (n - 36))
  if role ≠ 1 ∧ role ≠ 2 then 1
  else if role ≠ (if isHall n then 1 else 2) then 2
  else if isHall n ∧ beNat (slice b 6 2) ≠ l.domain then 3
  else if isHall n ∧ beNat (slice b 18 2) ≠ l.dims then 4
  else if isHall n ∧ shelf = l.shelf then 5
  else if (isHall n && miscabled) = true then 6
  else if l.cageRefused then 7
  else if cr 0 < 4 ∨ cr 1 < 17 ∨ cr 2 < 17 ∨ cr 3 < 17 ∨ ¬(pay = 256 ∨ pay = 512 ∨ pay = 1024) then 8
  else 0

/-- A LinkInit arrives (R91, R92). -/
def State.linkInit (s : State) (n : Nat) (f : Frame) : State :=
  let b := f.payload
  if !(s.lane n).pcs || s.laneState n < 2 || s.laneState n = 5 then s
  else if b.length ≠ 32 ∨ listGet 0 b 1 / 2 ≠ 0 ∨ listGet 0 b 2 ≠ 0 ∨ anyNonzero (slice b 20 12) then s.countDiscard n
  else
    let s0 := if s.laneUp n then
        let l := s.lane n
        let d := s.laneDrop n 2 0
        d.setLane n { d.lane n with pcs := true, ether := l.ether, shelf := l.shelf, domain := l.domain, dims := l.dims, peerMac := l.peerMac }
      else s
    let r := s0.initReason n b
    let l := s0.lane n
    let cr := fun (i : Nat) => beNat (slice b (8 + 2 * i) 2)
    if r ≠ 0 then
      let was := s0.nat (Obj.linkState n)
      let s1 := (s0.setLaneState n 4 r).setLane n { l with peerSeen := true, gotSeen := false }
      if was = r * 256 + 4 then s1 else s1.raise (s1.laneBlock n) clConfig r n lvBlock
    else
      let s1 := (s0.setLaneState n 2 0).setLane n { l with
        peerSeen := true, gotSeen := l.gotSeen || bitOf (listGet 0 b 1) 0
        adv := { v0 := cr 0, v1 := cr 1, v2 := cr 2, v3 := cr 3 }, maxPayload := beNat (slice b 16 2) }
      let s2 := if isHall n then s1.setNat (Obj.peerShelf n) (listGet 0 b 3) else s1
      s2.laneTryUp n

/-- LINK_INIT (R91, R92). -/
def execLinkInit (t : Nat) (lane : Fin 52) (f : Frame) (s : State) : Res := .next ((s.at t).linkInit lane.val f)

/-- RS-FEC codewords corrected, and found uncorrectable, on a lane since the last report (R127). -/
def State.codewords (s : State) (n corrected uncorrectable : Nat) : State :=
  (s.count64 (Obj.correctedCodewords n) corrected).count64 (Obj.uncorrectableCodewords n) uncorrectable

/-- The lane loses PCS alignment, or reports 8 uncorrectable codewords within 10 µs: Training (R127). -/
def State.laneFails (s : State) (n : Nat) : State :=
  let st := s.laneState n
  if st = 3 then (s.laneDrop n 1 0).raise (s.laneBlock n) clCommunication 2 n lvBlock
  else if (st = 2 ∨ st = 4) ∧ (s.lane n).pcs then s.laneDrop n 1 0
  else s

/-- LANE_DOWN (R127). -/
def execLaneDown (t : Nat) (lane : Fin 52) (corrected uncorrectable : Nat) (s : State) : Res :=
  .next (((s.at t).codewords lane.val corrected uncorrectable).laneFails lane.val)

/-! Hall time: R118, R119, R121 -/

/-- A TimeSync is answered with its own t1, and t2; t3 goes in when the answer leaves (Table 4.4). -/
def State.timeSync (s : State) (n : Nat) (f : Frame) : State :=
  if s.laneUp n then
    s.enqueue n { op := opTimeSyncReply, srcShelf := s.own, srcEp := 0x1000, operand := s.hall % 2 ^ 64
                  payload := beBytes 8 f.operand ++ beBytes 8 s.hall }
  else s

/-- TIME_SYNC (R121). -/
def execTimeSync (t : Nat) (lane : Fin 52) (f : Frame) (s : State) : Res := .next ((s.at t).timeSync lane.val f)

/-- Lane of the first hop toward the time root (R118). -/
def State.parentLane (s : State) : Option Nat :=
  match s.firstHop s.timeRoot with
  | none => none
  | some i => (s.usableLinks i).head?.map (· + 36)

/-- Every 125 µs a module that is not the root sends TimeSync to its parent. -/
def State.timeExchange (s : State) : State :=
  if s.isRoot || decide (s.now < s.fab.lastSync + 125 * us) then s
  else
    match s.parentLane with
    | none => s
    | some n =>
      (({ s with fab := { s.fab with lastSync := s.now, syncT1 := none } } : State)).enqueue n
        { op := opTimeSync, srcShelf := s.own, srcEp := 0x1000, operand := s.hall % 2 ^ 64 }

/-- TIME_SYNC_EXCHANGE (R118). -/
def execTimeSyncExchange (t : Nat) (s : State) : Res := .next (s.at t).timeExchange

/-- Hall time goes by `d` in one step; the step is recorded (R119). -/
def State.timeStep (s : State) (d : Int) : State :=
  (({ s with fab := { s.fab with htOffset := s.fab.htOffset + d } } : State)).event (s.block blPool) 12 0

/-- A TimeSyncReply from the parent: the offset, and what it does to hall time (R118, R119). -/
def State.timeReply (s : State) (n : Nat) (f : Frame) : State :=
  match s.fab.syncT1 with
  | none => s
  | some t1 =>
    if s.isRoot || decide (s.parentLane ≠ some n) || decide (f.payload.length ≠ 16) || decide (beNat (f.payload.take 8) ≠ t1) then s
    else
      let t2 : Int := beNat (slice f.payload 8 8)
      let off : Int := ((t2 - (t1 : Int)) - ((f.operand : Int) - (s.hall : Int))) / 2
      let s1 := ({ s with fab := { s.fab with syncT1 := none } } : State).setNum Obj.hallTimeParentOffset (clampI int32Min int32Max off)
      let first := !s.fab.htLocked
      let s2 := ({ s1 with fab := { s1.fab with htLocked := true } } : State)
      if (first && (decide (0 ≤ off) || !s.anyTenantOpen)) || decide ((ms : Int) < off) then (if off = 0 then s2 else s2.timeStep off)
      else { s2 with fab := { s2.fab with htOffset := s2.fab.htOffset + clampI (-12) 12 off } }

/-- TIME_SYNC_REPLY (R119). -/
def execTimeSyncReply (t : Nat) (lane : Fin 52) (f : Frame) (s : State) : Res := .next ((s.at t).timeReply lane.val f)

/-! Transmission: R95, R96, R99 -/

/-- A frame competes: credits cover it, its flow has room, and no earlier frame of its flow is queued (R93, R95, R99). -/
def State.competes (s : State) (n : Nat) (q : QFrame) : Bool :=
  let l := s.lane n
  let avail := (l.adv.get q.frame.vc + (l.returned.get q.frame.vc + 65536 - l.consumed.get q.frame.vc) % 65536) % 65536
  isLinkOp q.frame.op ||
  (decide (frameBlocks q.frame ≤ avail) &&
    match q.flow with
    | none => true
    | some k => decide ((s.flow k).unacked.length < 256) &&
        s.fab.lanes.all (fun e => e.2.txq.all (fun r => decide (r.flow ≠ some k ∨ q.ord ≤ r.ord))))

/-- The least level that a list of queued frames has. -/
def leastLevel (l : List QFrame) : Option Nat := leastBy (fun v => [v]) (l.map frameLevel)

/-- What the transmitter picks (R95, R96). -/
def State.pick (s : State) (n : Nat) : Option QFrame :=
  let c := (s.lane n).txq.filter (s.competes n)
  let others := c.filter (fun q => decide (3 ≤ frameLevel q))
  let c1 := if 16 ≤ (s.lane n).vc0Run ∧ !others.isEmpty then c.filter (fun q => decide (frameLevel q ≠ 2)) else c
  match leastLevel c1 with
  | none => none
  | some v => c1.find? (fun q => frameLevel q = v)

/-- The frame leaves: it is numbered and kept, its blocks are consumed, and times of its kind go in (R82, R93, R95, R97, R99, R118). -/
def State.transmit (s : State) (n : Nat) (q : QFrame) : State :=
  let l := s.lane n
  let fl : FlowSt := match q.flow with
    | some k => s.flow k
    | none => {}
  let f0 : Frame := { q.frame with age := q.promo, seq := if q.flow.isSome then fl.next else q.frame.seq }
  let f : Frame := if f0.op = opTimeSync ∨ f0.op = opTimeSyncReply then { f0 with operand := s.hall % 2 ^ 64 } else f0
  let link := isLinkOp f.op
  let lvl := frameLevel q
  let l1 : LaneSt := { l with
    txq := l.txq.erase q
    consumed := if link then l.consumed else l.consumed.set f.vc ((l.consumed.get f.vc + frameBlocks f) % 65536)
    vc0Run := if lvl = 2 then l.vc0Run + 1 else if lvl < 2 then l.vc0Run else 0
    sentSeen := l.sentSeen || (f.op = opLinkInit && listGet 0 f.payload 1 = 1) }
  let s1 := s.setLane n l1
  let s2 := match q.flow with
    | some k =>
      let u : Unacked := { frame := f, lane := n, sentAt := s.now }
      s1.setFlow k { fl with next := (fl.next + 1) % 65536, unacked := fl.unacked ++ [u] }
    | none => s1
  let s3 := if f.op = opTimeSync then { s2 with fab := { s2.fab with syncT1 := some (s.hall % 2 ^ 64) } } else s2
  let s4 := if f.retx then s3.count (Obj.retransmissions2110 n) else s3
  let src := (s.readNum 0x2100 5).toNat + n
  (s4.emit (.brucel n ((l.peerMac).getD (2 ^ 48 - 1)) src l.ether f)).laneTryUp n

/-- The lane can send: it picks a frame and sends it. -/
def State.transmitSelect (s : State) (n : Nat) : State :=
  if (s.lane n).pcs then
    match s.pick n with
    | some q => s.transmit n q
    | none => s
  else s

/-- TRANSMIT_SELECT (R95, R96). -/
def execTransmitSelect (t : Nat) (lane : Fin 52) (s : State) : Res := .next ((s.at t).transmitSelect lane.val)

/-- A queued frame is promoted once it has waited 50 µs, and a VC3 frame again after 100 µs (R95). -/
def State.promote (s : State) (n i : Nat) : State :=
  let l := s.lane n
  match l.txq[i]? with
  | none => s
  | some q =>
    let wait := s.now - q.at_
    let due := !isLinkOp q.frame.op && !isFlowOp q.frame.op &&
      ((q.frame.vc = 2 && q.promo = 0 && decide (50 * us ≤ wait)) ||
       (q.frame.vc = 3 && ((q.promo = 0 && decide (50 * us ≤ wait)) || (q.promo = 1 && decide (100 * us ≤ wait)))))
    if due then (s.setLane n { l with txq := l.txq.set i { q with promo := q.promo + 1 } }).count (Obj.agedPromotions n) else s

/-- FRAME_PROMOTION (R95). -/
def execFramePromotion (t : Nat) (lane : Fin 52) (i : Nat) (s : State) : Res := .next ((s.at t).promote lane.val i)

/-! Acknowledgement and retransmission: R100 to R102 -/

/-- Send frame `u` of a flow again (R101). -/
def State.retransmit (s : State) (key : Nat) (u : Unacked) : State :=
  let fl := s.flow key
  match s.nodeLane (flowNode key) fl.lane with
  | none => s.setFlow key { fl with unacked := fl.unacked.map (fun v => if v.frame.seq = u.frame.seq then { v with sentAt := s.now } else v) }
  | some n =>
    let s1 := s.setFlow key { fl with lane := n, unacked := fl.unacked.map (fun v =>
      if v.frame.seq = u.frame.seq then { v with sentAt := s.now, lane := n, tries := v.tries + 1 } else v) }
    s1.enqueue n { u.frame with retx := true }

/-- The flow fails because a frame has been sent again 8 times in vain: retries exhausted (R101, R102, Table 17.4). -/
def State.flowExhausted (s : State) (key : Nat) : State :=
  let node := flowNode key
  let blk := if node < 64 then s.laneBlock node else 97 * ((node - 64) % 2) + blPool
  (s.flowFail key).raise blk clCommunication 6 (if node < 64 then node else node - 64) lvBlock

/-- An Ack of the flow `key` arrives (R100, R101, R102). -/
def State.ackIn (s : State) (key : Nat) (f : Frame) : State :=
  let fl := s.flow key
  let cum := f.operand % 65536
  let past := fun (q : Nat) => decide ((cum + 65536 - q) % 65536 < 32768)
  let held := fun (q : Nat) =>
    let d := (q + 65536 - cum) % 65536
    decide (2 ≤ d) && decide (d ≤ 33) && bitOf (f.operand / 65536) (d - 2)
  let left := fl.unacked.filter (fun u => !past u.frame.seq)
  let rst := match fl.resetting with
    | some (q, at_) => if past ((q + 65535) % 65536) then none else some (q, at_)
    | none => none
  let s1 := s.setFlow key { fl with unacked := left, resetting := rst }
  let again := left.filter (fun u => !held u.frame.seq && decide (u.tries < 8) &&
    left.any (fun v => held v.frame.seq && decide (0 < (v.frame.seq + 65536 - u.frame.seq) % 65536 ∧ (v.frame.seq + 65536 - u.frame.seq) % 65536 < 32768) &&
      (u.tries = 0 || decide (u.sentAt < v.sentAt))))
  s1.forEach again (fun s u => s.retransmit key u)

/-- The flow whose Ack or FlowReset this is: of the tray link it came on, or of the shelf it names as its source (R97). -/
def flowOf (n : Nat) (f : Frame) : Nat :=
  if isHall n then flowKey (shelfNodeKey f.srcShelf) f.vc else flowKey (trayNode n) f.vc

/-- ACK (R101). -/
def execAck (t : Nat) (lane : Fin 52) (f : Frame) (s : State) : Res := .next ((s.at t).ackIn (flowOf lane.val f) f)

/-- The delayed Ack of a flow goes (R100). -/
def State.ackTimer (s : State) (key : Nat) : State :=
  match (s.flow key).ackDue with
  | some d => if d ≤ s.now then s.sendAck key else s
  | none => s

/-- ACK_TIMER (R100). -/
def execAckTimer (t : Nat) (flow : Nat) (s : State) : Res := .next ((s.at t).ackTimer flow)

/-- A FlowReset of flow `key` arrives (R102). -/
def State.flowResetIn (s : State) (key : Nat) (f : Frame) : State :=
  ((s.setFlow key (flowRxEnd (s.flow key) ((f.operand + 65535) % 65536))).count Obj.flowResets).sendAck key

/-- FLOW_RESET (R102). -/
def execFlowReset (t : Nat) (lane : Fin 52) (f : Frame) (s : State) : Res := .next ((s.at t).flowResetIn (flowOf lane.val f) f)

/-- Retry timeout of a flow in ns. -/
def State.retryTimeout (s : State) (key : Nat) : Nat :=
  us * s.nat (if flowNode key < 64 then Obj.retryTimeoutTray else Obj.retryTimeoutHall)

/-- The retry timeout of frame `seq` of a flow, and of the flow's FlowReset (R101, R102). -/
def State.retryDue (s : State) (key seq : Nat) : State :=
  let limit := s.retryTimeout key
  let s1 := match (s.flow key).resetting with
    | some (_, at_) => if at_ + limit ≤ s.now then s.sendFlowReset key else s
    | none => s
  match (s1.flow key).unacked.find? (fun u => u.frame.seq = seq) with
  | none => s1
  | some u =>
    if s1.now < u.sentAt + limit then s1
    else if 8 ≤ u.tries then s1.flowExhausted key
    else s1.retransmit key u

/-- RETRY_TIMEOUT (R101). -/
def execRetryTimeout (t : Nat) (flow : Nat) (seq : Nat) (s : State) : Res := .next ((s.at t).retryDue flow seq)

/-- A hall flow whose route has been down for 1 ms fails (R102). -/
def State.routeTimeout (s : State) (key : Nat) : State :=
  match (s.flow key).downSince with
  | some d => if 64 ≤ flowNode key ∧ d + ms ≤ s.now then s.flowFail key else s
  | none => s

/-- ROUTE_DOWN_TIMEOUT (R102). -/
def execRouteDownTimeout (t : Nat) (flow : Nat) (s : State) : Res := .next ((s.at t).routeTimeout flow)

/-! Return frames: R90 -/

/-- A frame that goes on to another shelf without ending here: by its route, spread by sequence number over a link and its duplicate (R97,
R116). -/
def State.onward (s : State) (dst : Nat) (f : Frame) : Option State :=
  match s.route dst 0 with
  | none => none
  | some m => some (s.enqueue (if f.seq % 2 = 1 then (s.route dst m).getD m else m) f)

/-- The TransferId of the requester's own transfer goes back into the answer of a transfer that this module re-sent (R108). -/
def State.ownTid (s : State) (f : Frame) : Frame × State :=
  let tid := if f.op = opReadResponse then f.operand % 65536 else f.tid
  if f.op = opReadResponse ∨ f.op = opWriteResponse ∨ f.op = opSyncResponse then
    match s.fab.resent.find? (fun r => r.tid = tid ∧ r.ep = field f.addr 43 28) with
    | none => (f, s)
    | some r =>
      let g : Frame := if f.op = opReadResponse then { f with operand := r.origTid }
        else if f.op = opSyncResponse ∨ f.result = rsSignalRejected then { f with tid := r.origTid }
        else { f with tid := r.origTid, operand := r.origTid }
      (g, if f.op = opReadResponse ∧ !f.last then s else { s with fab := { s.fab with resent := s.fab.resent.erase r } })
  else (f, s)

/-- A return frame goes to the tray link bound to its endpoint, to the agent it names, or on toward its shelf. -/
def State.returnFrame (s : State) (f : Frame) : State :=
  let shelf := field f.addr 51 44
  let ep := field f.addr 43 28
  if shelf ≠ s.own then (s.onward shelf f).getD s
  else
    match s.trayOf ep with
    | some n =>
      let r := s.ownTid f
      r.2.sendFlow (flowKey (trayNode n) f.vc) r.1
    | none =>
      if ep = 0x1000 ∧ f.op = opRelease then s.releaseIn f
      else if ep = 0x1000 ∧ f.op = opWriteResponse then s.peerAnswer f.tid f.srcShelf f.result
      else s

/-- RETURN_FRAME (R90). -/
def execReturnFrame (t : Nat) (f : Frame) (s : State) : Res := .next ((s.at t).returnFrame f)

/-! Checks of a request: R87, R110, R113, R559 -/

/-- The endpoint belongs to tray link `n`: its own node, or a participant bound to it (R113). -/
def State.epOnLink (s : State) (n ep : Nat) : Bool := ep = 0x2000 + n || (decide (ep < 0x1000) && s.trayOf ep = some n)

/-- The Tenant field is admitted from the endpoint (R113, Table 20.7). -/
def State.tenantAdmitted (s : State) (n ep tag : Nat) : Bool :=
  if ep < 0x1000 then s.pool.doms.any (fun e => e.2.tenant = tag && tag != 0 && (e.2.binds ep).isSome)
  else if tag = 0 then bitOf (s.nat Obj.operatorTrayLinks) n
  else if tag = tagService then bitOf (s.nat Obj.serviceTrayLinks) n && s.sessionLevel 3 = 1
  else
    match s.slotOf tag with
    | some t => bitOf (s.nat (Obj.managerTrayLinks t)) n
    | none => false

/-- Endpoints of Table 4.5. -/
def knownEp (ep : Nat) : Bool := decide (ep ≤ 0x1003) || (decide (0x2000 ≤ ep) && decide (ep ≤ 0x2023))

/-- Target region of a broadcast address. -/
def bcTarget (a : Nat) : Nat := field a 39 36

/-- Channel and region permitted for a request's opcode (Table 4.4). -/
def opPermitted (f : Frame) : Bool :=
  let r := addrRegion f.addr
  let bulk := decide (1 ≤ f.vc)
  if f.op = opRead then bulk && decide (r ≤ 6)
  else if f.op = opWrite then bulk && (r = 2 || r = 4 || r = 5 || r = 6 || (r = 15 && bcTarget f.addr = 4))
  else if f.op = opWatchRegister ∨ f.op = opWatchCancel then f.vc = 0 && r = 1
  else if f.op = opForcedWrite then f.vc = 0 && (r = 0 || (r = 15 && bcTarget f.addr = 0))
  else f.vc = 0 && r = 0

/-- The object of a broadcast Write may not be broadcast (R543): a command, a DOMAIN, an object of 0x1000 to 0x1FFF, or one of more than 8
bytes. -/
def bcBarred (a : Nat) : Bool :=
  let p := mirrorPlace (a % 2 ^ 36)
  match descOf p.1 p.2.1 with
  | none => false
  | some r => r.cmd || (0x1000 ≤ p.1 && p.1 ≤ 0x1FFF) || (match r.ty with
    | .dom _ => true
    | .oct n => decide (8 < n)
    | .num _ _ => false)

/-- The first check of R87, R110, R113 and R117 that a request fails on lane `n`, or 0. -/
def State.frameCheck (s : State) (n : Nat) (f : Frame) : Nat :=
  let r := addrRegion f.addr
  let single := f.first && f.last
  if !isHall n && (f.srcShelf != s.own || !s.epOnLink n f.srcEp) then rsSourceInvalid
  else if !knownEp f.srcEp then rsSourceInvalid
  else if !isHall n && !s.tenantAdmitted n f.srcEp f.tenant then rsTenantDenied
  else if 2 ^ 52 ≤ f.addr ∨ (7 ≤ r ∧ r ≤ 14) ∨ (r = 15 ∧ addrShelf f.addr ≠ 0) then rsAddressReserved
  else if !opPermitted f then rsOpcodeNotPermitted
  else if f.addr % 8 ≠ 0 then rsMisaligned
  else if f.op = opRead ∧ (f.operand < 8 ∨ 2 ^ 24 < f.operand ∨ f.operand % 8 ≠ 0 ∨ f.payload ≠ []) then rsLengthInvalid
  else if f.op = opWrite ∧ (f.payload.length % 8 ≠ 0 ∨ 1024 < f.payload.length) then rsLengthInvalid
  else if (f.op ≠ opWrite ∨ r = 15) ∧ !single then rsTransferInvalid
  else if r = 15 ∧ (f.respReq ∨ f.signal) then rsOpcodeNotPermitted
  else if r = 15 ∧ frameRole f ≠ .operator ∧ frameRole f ≠ .agent then rsRoleDenied
  else if f.op = opWrite ∧ r = 15 ∧ bcBarred f.addr then rsOpcodeNotPermitted
  else if r ≤ 1 ∧ 2 ^ 21 ≤ addrOffset f.addr then rsOffsetOutOfRange
  else 0

/-! Broadcast: R117, R543 -/

/-- A broadcast acts on this shelf; a ForcedWrite answers only where `answer` (its origin). -/
def State.broadcastHere (s : State) (f : Frame) (answer : Bool) : State :=
  let off := f.addr % 2 ^ 36
  if bcTarget f.addr = 0 then
    let g : Frame := { f with addr := s.own * 2 ^ 44 + off }
    if answer then s.syncOp opForcedWrite g
    else if !s.syncService || g.payload != [] || decide (2 ^ 21 ≤ off) then s
    else (s.wordOp opForcedWrite g.operand 0 g.tenant (off / 8)).2
  else
    let p := mirrorPlace off
    if p.2.2.1 ≠ 0 then s.count Obj.broadcastRefusals
    else
      match mirrorValue p.1 p.2.1 f.payload with
      | .error _ => s.count Obj.broadcastRefusals
      | .ok v => s.broadcastWrite (frameRole f) p.1 p.2.1 v

/-- One copy of a broadcast to each neighbour in the dimensions `ds` picks; a neighbour that no link reaches is a miss (R117). -/
def State.broadcastCopies (s : State) (f : Frame) (ds : Nat → Bool) : State :=
  let dims := s.nat Obj.hallDimensions
  s.forEach ((List.range (dimSum dims)).filter (fun i => ds (linkDim dims i))) (fun s i =>
    if (s.usableLinks i).isEmpty then { s with fab := { s.fab with broadcastMisses := s.fab.broadcastMisses + 1 } }
    else
      let r := s.newTid
      r.2.sendFlow (flowKey (shelfNodeKey (linkPeer dims s.own i)) f.vc) { f with tid := r.1, retx := false })

/-- A broadcast arrives on hall lane `n`: it acts here and goes on in the dimensions above the link's (R117). -/
def State.broadcastIn (s : State) (n : Nat) (f : Frame) : State :=
  let dims := s.nat Obj.hallDimensions
  if !isHall n then s
  else
    match baseLink dims (n - 36) with
    | none => s
    | some b =>
      if s.frameCheck n f ≠ 0 then s.countDiscard n
      else (s.broadcastHere f false).broadcastCopies f (fun e => decide (linkDim dims b < e))

/-- BROADCAST_RECEIVE (R117). -/
def execBroadcastReceive (t : Nat) (lane : Fin 52) (f : Frame) (s : State) : Res := .next ((s.at t).broadcastIn lane.val f)

/-! Transfers: R104 to R109 -/

/-- A VC0 request at this shelf. -/
def State.vc0Request (s : State) (f : Frame) : State :=
  if f.op = opArrive then s.arrive f
  else if f.op = opWatchRegister then s.watchRegister f
  else if f.op = opWatchCancel then s.watchCancel f
  else s.syncOp f.op f

/-- A Read at this shelf: answered with data or a refusal (R111). -/
def State.readHere (s : State) (f : Frame) : State :=
  let r := s.regionRead f
  r.2.readResponse f r.1.1 r.1.2

/-- A data frame of a Write at this shelf: mailboxes and slots take it as it is held; samples and dictionary values wait for the Last
frame (R105, R269, R541). -/
def State.writeFrame (s : State) (f : Frame) (x : XferIn) : Nat × XferIn × State :=
  let r := addrRegion f.addr
  if r = 5 then
    let w := s.writeMailbox f
    (w.1, x, w.2)
  else if r = 6 then
    let w := s.writeStaging f
    (w.1, x, w.2)
  else (0, { x with parts := x.parts ++ [(addrOffset f.addr, f.payload)] }, s)

/-- The signal of a Write, after all its data: what the answer says, and the state (R106, R107). -/
def State.signal (s : State) (f : Frame) : (Nat × Nat) × State :=
  if !f.signal then ((rsOk, 0), s)
  else if f.signalOp = 0 then
    ((rsTransferInvalid, 0), if f.respReq then s else { s with fab := { s.fab with signalOpZero := s.fab.signalOpZero + 1 } })
  else
    let op := if f.signalOp = 1 then opFetchAdd else if f.signalOp = 2 then opWriteIfEmptyFill else opForcedWrite
    let r := if s.syncService then s.wordOp op f.operand 0 f.tenant f.signalWord else ((rsStateRefused, 0, false, 0), s)
    if r.1.1 = rsOk then ((rsOk, 0), r.2)
    else ((rsSignalRejected, r.1.1), if f.respReq then r.2 else { r.2 with fab := { r.2.fab with signalFailures := r.2.fab.signalFailures + 1 } })

/-- The Last frame of a Write has been written: what is done once per transfer, the signal, the answer (R106, R109). -/
def State.writeEnd (s : State) (n : Nat) (f : Frame) (x : XferIn) : State :=
  let r := addrRegion f.addr
  let d := if r = 2 then s.writeLatest f x.parts
    else if r = 4 then s.writeMirror n f x.parts
    else if r = 5 then (rsOk, s.mailboxFlag f)
    else (rsOk, s)
  if d.1 ≠ rsOk ∧ d.1 ≠ abWaits then d.2.writeResponse n f d.1 0
  else
    let g := d.2.signal f
    let s1 := if r = 5 then g.2.mailboxTrigger f else g.2
    if d.1 = abWaits then
      let key := (mirrorPlace (x.parts.foldl (fun a y => min a y.1) (addrOffset f.addr)))
      if f.respReq then { s1 with dict := { s1.dict with waiting := s1.dict.waiting ++ [(key.1 * 256 + key.2.1, n, f)] } } else s1
    else if g.1.1 = rsTransferInvalid ∧ !f.respReq then s1
    else s1.writeResponse n f g.1.1 g.1.2

/-- A frame of a transfer for another shelf goes on a hall flow under the transfer's own TransferId; the requester is kept where it is
answered (R97, R108). -/
def State.resend (s : State) (f : Frame) (tid : Nat) : State :=
  let s1 := if f.last ∧ isAnswered f then
      { s with fab := { s.fab with resent := { tid := tid, origTid := f.tid, shelf := f.srcShelf, ep := f.srcEp, tenant := f.tenant } :: s.fab.resent } }
    else s
  s1.sendFlow (flowKey (shelfNodeKey (addrShelf f.addr)) f.vc) { f with tid := tid, retx := false, seq := 0 }

/-- One frame of a request transfer, in sequence order, that came in on lane `n`: the transfer after it, none once it has ended. -/
def State.xferFrame (s : State) (n : Nat) (cur : Option XferIn) (f : Frame) : Option XferIn × State :=
  match (if f.first then some ({ head := f } : XferIn) else cur) with
  | none => (none, if f.last then s.refuseRequest n f rsTransferInvalid else s.countDiscard n)
  | some x =>
    let lo := addrOffset f.addr
    let len := f.payload.length
    let broken := decide (0 < x.frames) &&
      (f.tid != x.head.tid || f.op != x.head.op || addrShelf f.addr != addrShelf x.head.addr || addrRegion f.addr != addrRegion x.head.addr ||
       f.vc != x.head.vc || decide (16384 ≤ x.frames) || x.ranges.any (fun r => decide (lo < r.1 + r.2 ∧ r.1 < lo + len)))
    let remote := decide (addrShelf f.addr ≠ s.own ∧ addrRegion f.addr ≠ 15)
    let c0 := if x.refused ≠ 0 then x.refused else if broken then rsTransferInvalid else s.frameCheck n f
    let c := if c0 = 0 ∧ remote ∧ (s.route (addrShelf f.addr) 0).isNone then rsRouteDown else c0
    let x1 : XferIn := { x with frames := x.frames + 1, ranges := (lo, len) :: x.ranges, refused := c }
    if c ≠ 0 then (if f.last then (none, s.refuseRequest n f c) else (some x1, s))
    else if remote then
      let r := if x.frames = 0 then s.newTid else (x.tid, s)
      (if f.last then none else some { x1 with tid := r.1 }, r.2.resend f r.1)
    else if f.op = opRead then (none, s.readHere f)
    else if addrRegion f.addr = 15 then
      let s1 := (s.broadcastHere f true).broadcastCopies f (fun _ => true)
      (none, s1)
    else if f.op ≠ opWrite then (none, s.vc0Request f)
    else
      let w := s.writeFrame f x1
      if w.1 ≠ 0 then (if f.last then (none, w.2.2.refuseRequest n f w.1) else (some { x1 with refused := w.1 }, w.2.2))
      else if f.last then (none, w.2.2.writeEnd n f w.2.1)
      else (some w.2.1, w.2.2)

/-- READ (R111): one Read request. -/
def execRead (t : Nat) (lane : Fin 52) (f : Frame) (s : State) : Res := .next ((s.at t).xferFrame lane.val none { f with op := opRead }).2

/-- The frames of one Write transfer in sequence order. -/
def State.writeTransfer (s : State) (n : Nat) (fs : List Frame) : State :=
  (fs.foldl (fun (a : Option XferIn × State) f => a.2.xferFrame n a.1 { f with op := opWrite }) (none, s)).2

/-- WRITE (R106). -/
def execWrite (t : Nat) (lane : Fin 52) (fs : List Frame) (s : State) : Res := .next ((s.at t).writeTransfer lane.val fs)

/-! Reception: R83, R87, R98 -/

/-- An accepted frame of flow `key`, in sequence order, executes (R105). -/
def State.takeFrame (s : State) (n key : Nat) (f : Frame) : State :=
  if isReturn f.op then s.returnFrame f
  else if isHall n ∧ addrRegion f.addr = 15 then s.broadcastIn n f
  else
    let r := s.xferFrame n (s.flow key).cur f
    r.2.setFlow key { r.2.flow key with cur := r.1 }

/-- A frame of a flow that ends here meets the receive window (R98, R100). -/
def State.windowIn (s : State) (n key : Nat) (f : Frame) : State :=
  let r := flowArrive (s.flow key) f
  if r.1 = 0 then s.sendAck key
  else if r.1 = 1 then (s.countDiscard n).sendAck key
  else if r.1 = 2 then s
  else
    let d := flowDrain 257 r.2
    let due := match d.2.ackDue with
      | some t => some t
      | none => some (s.now + 2 * us)
    let s1 := s.setFlow key { d.2 with ackDue := if d.1.isEmpty then d.2.ackDue else due }
    let s2 := if d.1.isEmpty ∨ 32 ≤ d.2.sinceAck then s1.sendAck key else s1
    s2.forEach d.1 (fun s g => s.takeFrame n key g)

/-- What an unadmitted hall link carries besides link and flow frames (R561): requests of admission, and answers to this module's own. -/
def admissionFrame (f : Frame) : Bool :=
  let p := mirrorPlace (addrOffset f.addr)
  if isReturn f.op then 0x1000 ≤ field f.addr 43 28 && field f.addr 43 28 ≤ 0x1003
  else f.srcEp = 0x1000 && addrRegion f.addr = 4 && p.1 = 0x3103 &&
    ((f.op = opRead && (p.2.1 = 1 || p.2.1 = 2 || p.2.1 = 4)) || (f.op = opWrite && p.2.1 = 3))

/-- A valid frame that is no link frame, on an Up lane. -/
def State.rxRouted (s : State) (n : Nat) (f : Frame) : State :=
  let dstRet := field f.addr 51 44
  if isFlowOp f.op then
    if isHall n then
      if dstRet = s.own then (if f.op = opAck then s.ackIn (flowOf n f) f else s.flowResetIn (flowOf n f) f) else (s.onward dstRet f).getD s
    else if dstRet ≠ s.own ∨ field f.addr 43 28 ≠ 0x1000 then s.countDiscard n
    else if f.op = opAck then s.ackIn (flowOf n f) f
    else s.flowResetIn (flowOf n f) f
  else if !isHall n then
    if isReturn f.op then s.countDiscard n else s.windowIn n (flowKey (trayNode n) f.vc) f
  else if !bitOf (s.nat Obj.admittedHallLinks) (n - 36) && !admissionFrame f then s.countDiscard n
  else if isRequest f.op ∧ addrRegion f.addr = 15 then s.windowIn n (flowKey (shelfNodeKey (s.nat (Obj.peerShelf n))) f.vc) f
  else
    let dst := if isReturn f.op then dstRet else addrShelf f.addr
    if dst = s.own then s.windowIn n (flowKey (shelfNodeKey f.srcShelf) f.vc) f
    else
      match s.onward dst f with
      | some s1 => s1
      | none => if isRequest f.op ∧ f.last then s.refuseRequest n f rsRouteDown else s.countDiscard n

/-- A frame arrives on a lane: envelope, reserved fields and opcode are judged, its blocks are freed, and it goes where its kind says. -/
def State.rxFrame (s : State) (n : Nat) (fcsOk : Bool) (b : List Nat) : State :=
  let l := s.lane n
  if !l.pcs then s
  else if !fcsOk then (s.countDiscard n).count (Obj.fcsErrors n)
  else if !envelopeOk l.ether b then s.countDiscard n
  else
    let f := parseFrame b
    let s1 := s.setLane n { l with peerMac := some (beNat (slice b 6 6)) }
    let s2 := if isLinkOp f.op || !s.laneUp n then s1 else s1.freeBlocks n f.vc (frameBlocks f)
    if !knownOp f.op || frameReserved b then s2.countDiscard n
    else if f.op = opLinkInit then s2.linkInit n f
    else if !s.laneUp n then s2
    else if f.op = opLinkCredit then s2.linkCredit n f
    else if f.op = opTimeSync then s2.timeSync n f
    else if f.op = opTimeSyncReply then s2.timeReply n f
    else s2.rxRouted n f

/-- FLOW_FRAME_RECEIVE (R83, R87, R98, R105). -/
def execFlowFrameReceive (t : Nat) (lane : Fin 52) (corrected uncorrectable : Nat) (fcsOk : Bool) (bytes : List Nat) (s : State) : Res :=
  .next (((s.at t).codewords lane.val corrected uncorrectable).rxFrame lane.val fcsOk bytes)

end Sys2Proof.Machine
end

