-- ==== Sys2Proof/Machine/Dispatch.lean ====
section
/-! DEFINITION. The dispatch: one arm per command. -/

namespace Sys2Proof.Machine

/-- The command's effect on everything but the queue. -/
def exec (i : Instr) (s : State) : Host.Outcome State Fault Refusal :=
  match i with
  | .energise t role => Sys2Proof.Machine.execEnergise t role s
  | .shape t role => Sys2Proof.Machine.execShape t role s
  | .unshape t role => Sys2Proof.Machine.execUnshape t role s
  | .deEnergise t role => Sys2Proof.Machine.execDeEnergise t role s
  | .ship t role => Sys2Proof.Machine.execShip t role s
  | .restartFromSeedOrSafe t role => Sys2Proof.Machine.execRestartFromSeedOrSafe t role s
  | .registerWrite t path role idx sub val => Sys2Proof.Machine.execRegisterWrite t path role idx sub val s
  | .completeAccessWrite t role idx vals => Sys2Proof.Machine.execCompleteAccessWrite t role idx vals s
  | .controlTick t inp => Sys2Proof.Machine.execControlTick t inp s
  | .stringShareUpdate t => Sys2Proof.Machine.execStringShareUpdate t s
  | .setpointFrame t differ => Sys2Proof.Machine.execSetpointFrame t differ s
  | .setpointFrameError t bus => Sys2Proof.Machine.execSetpointFrameError t bus s
  | .rectifierReport t bus fdBase id bytes => Sys2Proof.Machine.execRectifierReport t bus fdBase id bytes s
  | .reportDeadline t r => Sys2Proof.Machine.execReportDeadline t r s
  | .canBusOff t bus => Sys2Proof.Machine.execCanBusOff t bus s
  | .handoverInjection t => Sys2Proof.Machine.execHandoverInjection t s
  | .releaseFeedforward t w => Sys2Proof.Machine.execReleaseFeedforward t w s
  | .instanceCommit t role j => Sys2Proof.Machine.execInstanceCommit t role j s
  | .instanceSwap t j => Sys2Proof.Machine.execInstanceSwap t j s
  | .traceStop t role => Sys2Proof.Machine.execTraceStop t role s
  | .traceArmSingle t role => Sys2Proof.Machine.execTraceArmSingle t role s
  | .traceArmNormal t role => Sys2Proof.Machine.execTraceArmNormal t role s
  | .traceForceTrigger t role => Sys2Proof.Machine.execTraceForceTrigger t role s
  | .traceSample t => Sys2Proof.Machine.execTraceSample t s
  | .traceRearm t c => Sys2Proof.Machine.execTraceRearm t c s
  | .clampHeldAssert t => Sys2Proof.Machine.execClampHeldAssert t s
  | .reserveEnd t => Sys2Proof.Machine.execReserveEnd t s
  | .pwmHalfPeriod t n valley => Sys2Proof.Machine.execPwmHalfPeriod t n valley s
  | .cycleByCycleLimit t n positive => Sys2Proof.Machine.execCycleByCycleLimit t n positive s
  | .persistentCurrentLimit t n => Sys2Proof.Machine.execPersistentCurrentLimit t n s
  | .stringOverCurrent t x => Sys2Proof.Machine.execStringOverCurrent t x s
  | .busOverVoltage t ch => Sys2Proof.Machine.execBusOverVoltage t ch s
  | .busUnderVoltage t => Sys2Proof.Machine.execBusUnderVoltage t s
  | .gateDriverFault t b => Sys2Proof.Machine.execGateDriverFault t b s
  | .streamFault t c => Sys2Proof.Machine.execStreamFault t c s
  | .phaseShed t x => Sys2Proof.Machine.execPhaseShed t x s
  | .muxHoldExpiry t => Sys2Proof.Machine.execMuxHoldExpiry t s
  | .muxChangeover t => Sys2Proof.Machine.execMuxChangeover t s
  | .contactorFeedbackChange t x k closed => Sys2Proof.Machine.execContactorFeedbackChange t x k closed s
  | .closeTimeout t x => Sys2Proof.Machine.execCloseTimeout t x s
  | .prechargeCheck1 t x => Sys2Proof.Machine.execPrechargeCheck1 t x s
  | .prechargeCheck2 t x => Sys2Proof.Machine.execPrechargeCheck2 t x s
  | .prechargeTimeout t x => Sys2Proof.Machine.execPrechargeTimeout t x s
  | .breakWaitTimeout t x => Sys2Proof.Machine.execBreakWaitTimeout t x s
  | .openTimeout t x => Sys2Proof.Machine.execOpenTimeout t x s
  | .phaseClear t role n => Sys2Proof.Machine.execPhaseClear t role n s
  | .lockoutClear t role x v => Sys2Proof.Machine.execLockoutClear t role x v s
  | .feedPresent t f => Sys2Proof.Machine.execFeedPresent t f s
  | .feedsRemoved t => Sys2Proof.Machine.execFeedsRemoved t s
  | .oneFeedLost t f => Sys2Proof.Machine.execOneFeedLost t f s
  | .supplyLossContactorRelease t => Sys2Proof.Machine.execSupplyLossContactorRelease t s
  | .safePoint t => Sys2Proof.Machine.execSafePoint t s
  | .shelfReset t => Sys2Proof.Machine.execShelfReset t s
  | .shelfResetRelease t => Sys2Proof.Machine.execShelfResetRelease t s
  | .protectorTrip t => Sys2Proof.Machine.execProtectorTrip t s
  | .coolantSeated t => Sys2Proof.Machine.execCoolantSeated t s
  | .coolantInterlockLost t => Sys2Proof.Machine.execCoolantInterlockLost t s
  | .supplyAlert t => Sys2Proof.Machine.execSupplyAlert t s
  | .alertHoldEnd t => Sys2Proof.Machine.execAlertHoldEnd t s
  | .wakeLatchSet t => Sys2Proof.Machine.execWakeLatchSet t s
  | .discreteInputUpdate t gdLow protLow => Sys2Proof.Machine.execDiscreteInputUpdate t gdLow protLow s
  | .cageAssemblyRead t cage optical active milliwatts => Sys2Proof.Machine.execCageAssemblyRead t cage optical active milliwatts s
  | .aliveToggle t h => Sys2Proof.Machine.execAliveToggle t h s
  | .otherHalfAliveTimeout t h => Sys2Proof.Machine.execOtherHalfAliveTimeout t h s
  | .halfLevelReport t h => Sys2Proof.Machine.execHalfLevelReport t h s
  | .crossLinkSilence t => Sys2Proof.Machine.execCrossLinkSilence t s
  | .oscillatorLost t h => Sys2Proof.Machine.execOscillatorLost t h s
  | .authorityTransferRequest t role v => Sys2Proof.Machine.execAuthorityTransferRequest t role v s
  | .eligibilityExchange t => Sys2Proof.Machine.execEligibilityExchange t s
  | .winnerLatchSet t => Sys2Proof.Machine.execWinnerLatchSet t s
  | .fallbackLatchSet t => Sys2Proof.Machine.execFallbackLatchSet t s
  | .holdTimeout t => Sys2Proof.Machine.execHoldTimeout t s
  | .crossLinkDown t c => Sys2Proof.Machine.execCrossLinkDown t c s
  | .channelRestored t c => Sys2Proof.Machine.execChannelRestored t c s
  | .domainOnRequest t d => Sys2Proof.Machine.execDomainOnRequest t d s
  | .domainOffRequest t d fault => Sys2Proof.Machine.execDomainOffRequest t d fault s
  | .powerGoodTimeout t d => Sys2Proof.Machine.execPowerGoodTimeout t d s
  | .pcsLock t lane => Sys2Proof.Machine.execPcsLock t lane s
  | .linkInitTimer t lane => Sys2Proof.Machine.execLinkInitTimer t lane s
  | .linkInit t lane f => Sys2Proof.Machine.execLinkInit t lane f s
  | .linkCredit t lane f => Sys2Proof.Machine.execLinkCredit t lane f s
  | .creditReturnTimer t lane => Sys2Proof.Machine.execCreditReturnTimer t lane s
  | .timeSync t lane f => Sys2Proof.Machine.execTimeSync t lane f s
  | .timeSyncExchange t => Sys2Proof.Machine.execTimeSyncExchange t s
  | .timeSyncReply t lane f => Sys2Proof.Machine.execTimeSyncReply t lane f s
  | .hallTimeSet t role v hallTenantOpen => Sys2Proof.Machine.execHallTimeSet t role v hallTenantOpen s
  | .flowFrameReceive t lane corrected uncorrectable fcsOk bytes => Sys2Proof.Machine.execFlowFrameReceive t lane corrected uncorrectable fcsOk bytes s
  | .ack t lane f => Sys2Proof.Machine.execAck t lane f s
  | .ackTimer t flow => Sys2Proof.Machine.execAckTimer t flow s
  | .flowReset t lane f => Sys2Proof.Machine.execFlowReset t lane f s
  | .retryTimeout t flow seq => Sys2Proof.Machine.execRetryTimeout t flow seq s
  | .routeDownTimeout t flow => Sys2Proof.Machine.execRouteDownTimeout t flow s
  | .laneDown t lane corrected uncorrectable => Sys2Proof.Machine.execLaneDown t lane corrected uncorrectable s
  | .transmitSelect t lane => Sys2Proof.Machine.execTransmitSelect t lane s
  | .framePromotion t lane j => Sys2Proof.Machine.execFramePromotion t lane j s
  | .read t lane f => Sys2Proof.Machine.execRead t lane f s
  | .write t lane fs => Sys2Proof.Machine.execWrite t lane fs s
  | .returnFrame t f => Sys2Proof.Machine.execReturnFrame t f s
  | .broadcastReceive t lane f => Sys2Proof.Machine.execBroadcastReceive t lane f s
  | .writeIfEmptyFill t f => Sys2Proof.Machine.execWriteIfEmptyFill t f s
  | .consume t f => Sys2Proof.Machine.execConsume t f s
  | .readLeaveFull t f => Sys2Proof.Machine.execReadLeaveFull t f s
  | .forcedWrite t f => Sys2Proof.Machine.execForcedWrite t f s
  | .fetchAdd t f => Sys2Proof.Machine.execFetchAdd t f s
  | .compareSwap t f => Sys2Proof.Machine.execCompareSwap t f s
  | .arrive t f => Sys2Proof.Machine.execArrive t f s
  | .release t f => Sys2Proof.Machine.execRelease t f s
  | .watchRegister t f => Sys2Proof.Machine.execWatchRegister t f s
  | .watchCancel t f => Sys2Proof.Machine.execWatchCancel t f s
  | .poolScan t single bad badDesc => Sys2Proof.Machine.execPoolScan t single bad badDesc s
  | .tenantOpen t role k => Sys2Proof.Machine.execTenantOpen t role k s
  | .tenantClose t role k => Sys2Proof.Machine.execTenantClose t role k s
  | .tenantForceClose t role k => Sys2Proof.Machine.execTenantForceClose t role k s
  | .clearQuarantine t role k => Sys2Proof.Machine.execClearQuarantine t role k s
  | .allocateWords t role k req => Sys2Proof.Machine.execAllocateWords t role k req s
  | .freeWords t role k req => Sys2Proof.Machine.execFreeWords t role k req s
  | .declareQueue t role k req => Sys2Proof.Machine.execDeclareQueue t role k req s
  | .undeclareQueue t role k req => Sys2Proof.Machine.execUndeclareQueue t role k req s
  | .allocateDescriptors t role k req => Sys2Proof.Machine.execAllocateDescriptors t role k req s
  | .freeDescriptors t role k req => Sys2Proof.Machine.execFreeDescriptors t role k req s
  | .wordSet t role val => Sys2Proof.Machine.execWordSet t role val s
  | .domainCreate t role desc => Sys2Proof.Machine.execDomainCreate t role desc s
  | .domainPrepare t shelf val => Sys2Proof.Machine.execDomainPrepare t shelf val s
  | .domainCommit t shelf val => Sys2Proof.Machine.execDomainCommit t shelf val s
  | .domainOpen t shelf val => Sys2Proof.Machine.execDomainOpen t shelf val s
  | .domainAbort t shelf val => Sys2Proof.Machine.execDomainAbort t shelf val s
  | .domainCloseNotice t shelf val => Sys2Proof.Machine.execDomainCloseNotice t shelf val s
  | .domainBrokenNotice t shelf val => Sys2Proof.Machine.execDomainBrokenNotice t shelf val s
  | .peerTimeout t => Sys2Proof.Machine.execPeerTimeout t s
  | .prepareExpiry t x => Sys2Proof.Machine.execPrepareExpiry t x s
  | .domainClose t role id => Sys2Proof.Machine.execDomainClose t role id s
  | .trayNodeFree t x => Sys2Proof.Machine.execTrayNodeFree t x s
  | .waveInterval t => Sys2Proof.Machine.execWaveInterval t s
  | .weightUpdate t link meanBefore meanAfter => Sys2Proof.Machine.execWeightUpdate t link meanBefore meanAfter s
  | .arrayWakeStart t g => Sys2Proof.Machine.execArrayWakeStart t g s
  | .arrayWakeDone t g pass => Sys2Proof.Machine.execArrayWakeDone t g pass s
  | .arraySelfTest t g pass => Sys2Proof.Machine.execArraySelfTest t g pass s
  | .arrayFault t g cause => Sys2Proof.Machine.execArrayFault t g cause s
  | .arrayReturnToService t role g => Sys2Proof.Machine.execArrayReturnToService t role g s
  | .arrayOutOfService t role g => Sys2Proof.Machine.execArrayOutOfService t role g s
  | .dieLinkDown t d => Sys2Proof.Machine.execDieLinkDown t d s
  | .dieLinkRetrain t d up => Sys2Proof.Machine.execDieLinkRetrain t d up s
  | .dieLinkRestored t d => Sys2Proof.Machine.execDieLinkRestored t d s
  | .sNop g slot => Sys2Proof.Machine.execSNop g slot s
  | .sAddi g d a imm => Sys2Proof.Machine.execSAddi g d a imm s
  | .sAdd g d a b => Sys2Proof.Machine.execSAdd g d a b s
  | .sSub g d a b => Sys2Proof.Machine.execSSub g d a b s
  | .sAnd g d a b => Sys2Proof.Machine.execSAnd g d a b s
  | .sOr g d a b => Sys2Proof.Machine.execSOr g d a b s
  | .sXor g d a b => Sys2Proof.Machine.execSXor g d a b s
  | .sAndi g d a imm => Sys2Proof.Machine.execSAndi g d a imm s
  | .sShl g d a amount => Sys2Proof.Machine.execSShl g d a amount s
  | .sShr g d a amount => Sys2Proof.Machine.execSShr g d a amount s
  | .sMovhi g d imm => Sys2Proof.Machine.execSMovhi g d imm s
  | .sLoop g a target => Sys2Proof.Machine.execSLoop g a target s
  | .sBr g target => Sys2Proof.Machine.execSBr g target s
  | .sBrz g a target => Sys2Proof.Machine.execSBrz g a target s
  | .sBrnz g a target => Sys2Proof.Machine.execSBrnz g a target s
  | .sBrlt g a b target => Sys2Proof.Machine.execSBrlt g a b target s
  | .sSkip g n => Sys2Proof.Machine.execSSkip g n s
  | .sWaitf g a b => Sys2Proof.Machine.execSWaitf g a b s
  | .sWaitfSatisfied g => Sys2Proof.Machine.execSWaitfSatisfied g s
  | .sYield t g => Sys2Proof.Machine.execSYield t g s
  | .sEnd t g => Sys2Proof.Machine.execSEnd t g s
  | .sRdsys g d sel => Sys2Proof.Machine.execSRdsys g d sel s
  | .sPhase g n => Sys2Proof.Machine.execSPhase g n s
  | .setmode g os fmt f add => Sys2Proof.Machine.execSetmode g os fmt f add s
  | .setref g north r => Sys2Proof.Machine.execSetref g north r s
  | .tileload g a offset e => Sys2Proof.Machine.execTileload g a offset e s
  | .wsvec g a offset e => Sys2Proof.Machine.execWsvec g a offset e s
  | .osrun g a b k => Sys2Proof.Machine.execOsrun g a b k s
  | .drain g a offset => Sys2Proof.Machine.execDrain g a offset s
  | .edgest g a offset => Sys2Proof.Machine.execEdgest g a offset s
  | .edgeclr g => Sys2Proof.Machine.execEdgeclr g s
  | .loadcurve g table => Sys2Proof.Machine.execLoadcurve g table s
  | .vadd g d a b => Sys2Proof.Machine.execVadd g d a b s
  | .vsub g d a b => Sys2Proof.Machine.execVsub g d a b s
  | .vmin g d a b => Sys2Proof.Machine.execVmin g d a b s
  | .vmax g d a b => Sys2Proof.Machine.execVmax g d a b s
  | .vcmp g d a b cond => Sys2Proof.Machine.execVcmp g d a b cond s
  | .vsel g d a b m => Sys2Proof.Machine.execVsel g d a b m s
  | .vlogic g d a b op => Sys2Proof.Machine.execVlogic g d a b op s
  | .vshl g d a sh => Sys2Proof.Machine.execVshl g d a sh s
  | .vshr g d a sh => Sys2Proof.Machine.execVshr g d a sh s
  | .vmul g d a b sh => Sys2Proof.Machine.execVmul g d a b sh s
  | .vmac g d a b sh => Sys2Proof.Machine.execVmac g d a b sh s
  | .vglmul g d a b fmt => Sys2Proof.Machine.execVglmul g d a b fmt s
  | .vglcmp g d a b fmt cond => Sys2Proof.Machine.execVglcmp g d a b fmt cond s
  | .vcvt g d a target source x => Sys2Proof.Machine.execVcvt g d a target source x s
  | .vlut g d a table interp => Sys2Proof.Machine.execVlut g d a table interp s
  | .vred g d a op => Sys2Proof.Machine.execVred g d a op s
  | .vmovs g d x => Sys2Proof.Machine.execVmovs g d x s
  | .vext g x a lane expo => Sys2Proof.Machine.execVext g x a lane expo s
  | .vidx g d => Sys2Proof.Machine.execVidx g d s
  | .vld g v a offset => Sys2Proof.Machine.execVld g v a offset s
  | .vst g v a offset => Sys2Proof.Machine.execVst g v a offset s
  | .vld8 g v a offset sub => Sys2Proof.Machine.execVld8 g v a offset sub s
  | .vst8 g v a offset sub => Sys2Proof.Machine.execVst8 g v a offset sub s
  | .vldx g v a offset => Sys2Proof.Machine.execVldx g v a offset s
  | .vstx g v a offset => Sys2Proof.Machine.execVstx g v a offset s
  | .expld g a offset sub => Sys2Proof.Machine.execExpld g a offset sub s
  | .tload g table a offset => Sys2Proof.Machine.execTload g table a offset s
  | .xfer g a offset => Sys2Proof.Machine.execXfer g a offset s
  | .xferComplete t g j => Sys2Proof.Machine.execXferComplete t g j s
  | .sld g d a offset => Sys2Proof.Machine.execSld g d a offset s
  | .sst g d a offset => Sys2Proof.Machine.execSst g d a offset s
  | .slotOpen t role k => Sys2Proof.Machine.execSlotOpen t role k s
  | .slotVerify t role k => Sys2Proof.Machine.execSlotVerify t role k s
  | .slotVerificationComplete t k => Sys2Proof.Machine.execSlotVerificationComplete t k s
  | .slotDiscard t role k => Sys2Proof.Machine.execSlotDiscard t role k s
  | .loadRequest t role req => Sys2Proof.Machine.execLoadRequest t role req s
  | .loadComplete t => Sys2Proof.Machine.execLoadComplete t s
  | .programStart t role h => Sys2Proof.Machine.execProgramStart t role h s
  | .programStop t role h => Sys2Proof.Machine.execProgramStop t role h s
  | .programUnload t role h => Sys2Proof.Machine.execProgramUnload t role h s
  | .programRunNow t role h => Sys2Proof.Machine.execProgramRunNow t role h s
  | .fastTick t => Sys2Proof.Machine.execFastTick t s
  | .tickOverrun t g => Sys2Proof.Machine.execTickOverrun t g s
  | .sliceOverrun t g => Sys2Proof.Machine.execSliceOverrun t g s
  | .periodicTrigger t h => Sys2Proof.Machine.execPeriodicTrigger t h s
  | .schedulerTick t => Sys2Proof.Machine.execSchedulerTick t s
  | .ringSlotAdvance t ch => Sys2Proof.Machine.execRingSlotAdvance t ch s
  | .channelDefine t role req => Sys2Proof.Machine.execChannelDefine t role req s
  | .channelDelete t role req => Sys2Proof.Machine.execChannelDelete t role req s
  | .ringDeleteComplete t ch => Sys2Proof.Machine.execRingDeleteComplete t ch s
  | .channelQuery t role req => Sys2Proof.Machine.execChannelQuery t role req s
  | .channelSetGrants t role req => Sys2Proof.Machine.execChannelSetGrants t role req s
  | .windowDefine t role req => Sys2Proof.Machine.execWindowDefine t role req s
  | .windowFree t role req => Sys2Proof.Machine.execWindowFree t role req s
  | .windowQuery t role req => Sys2Proof.Machine.execWindowQuery t role req s
  | .stackFailure t k cause => Sys2Proof.Machine.execStackFailure t k cause s
  | .patrolScrub t k corrected rows bad passEnd => Sys2Proof.Machine.execPatrolScrub t k corrected rows bad passEnd s
  | .forecasterBind t role h => Sys2Proof.Machine.execForecasterBind t role h s
  | .portPublication t port h stamp bytes => Sys2Proof.Machine.execPortPublication t port h stamp bytes s
  | .binEvaluation t => Sys2Proof.Machine.execBinEvaluation t s
  | .measurementCycle t delay length => Sys2Proof.Machine.execMeasurementCycle t delay length s
  | .ringCommandIssue t k => Sys2Proof.Machine.execRingCommandIssue t k s
  | .ringResponse t k bytes => Sys2Proof.Machine.execRingResponse t k bytes s
  | .ringFrameReturn t k atB bytes => Sys2Proof.Machine.execRingFrameReturn t k atB bytes s
  | .responseTimeout t k => Sys2Proof.Machine.execResponseTimeout t k s
  | .ringBreak t k => Sys2Proof.Machine.execRingBreak t k s
  | .ringClose t k => Sys2Proof.Machine.execRingClose t k s
  | .linkPulse t k atB => Sys2Proof.Machine.execLinkPulse t k atB s
  | .sliceReenumerate t k => Sys2Proof.Machine.execSliceReenumerate t k s
  | .stackMeasurementFault t k => Sys2Proof.Machine.execStackMeasurementFault t k s
  | .stringReconnect t k => Sys2Proof.Machine.execStringReconnect t k s
  | .balanceInterval t => Sys2Proof.Machine.execBalanceInterval t s
  | .estimatorUpdate t k cell => Sys2Proof.Machine.execEstimatorUpdate t k cell s
  | .limitUpdate t => Sys2Proof.Machine.execLimitUpdate t s
  | .socReportUpdate t => Sys2Proof.Machine.execSocReportUpdate t s
  | .estimatorCompare t differ => Sys2Proof.Machine.execEstimatorCompare t differ s
  | .persistentStateWrite t => Sys2Proof.Machine.execPersistentStateWrite t s
  | .lifetimeUpdate t k => Sys2Proof.Machine.execLifetimeUpdate t k s
  | .calibrationStart t role v => Sys2Proof.Machine.execCalibrationStart t role v s
  | .calibrationAbort t role => Sys2Proof.Machine.execCalibrationAbort t role s
  | .calibrationPhaseEnd t => Sys2Proof.Machine.execCalibrationPhaseEnd t s
  | .calibrationTimeout t => Sys2Proof.Machine.execCalibrationTimeout t s
  | .ocvTableWrite t role bytes => Sys2Proof.Machine.execOcvTableWrite t role bytes s
  | .lifetimeClear t role k v => Sys2Proof.Machine.execLifetimeClear t role k v s
  | .railHiccup t r => Sys2Proof.Machine.execRailHiccup t r s
  | .railRetry t r => Sys2Proof.Machine.execRailRetry t r s
  | .railOverVoltage t r => Sys2Proof.Machine.execRailOverVoltage t r s
  | .railPowerGood t r => Sys2Proof.Machine.execRailPowerGood t r s
  | .railTargetReached t r => Sys2Proof.Machine.execRailTargetReached t r s
  | .railPhaseShed t r => Sys2Proof.Machine.execRailPhaseShed t r s
  | .railPhaseAdd t r => Sys2Proof.Machine.execRailPhaseAdd t r s
  | .railClear t role r v => Sys2Proof.Machine.execRailClear t role r v s
  | .pointEvaluation t railMilliamps => Sys2Proof.Machine.execPointEvaluation t railMilliamps s
  | .pointEarlyRise t d => Sys2Proof.Machine.execPointEarlyRise t d s
  | .pointHoldExpiry t d => Sys2Proof.Machine.execPointHoldExpiry t d s
  | .powerLimitCheck t => Sys2Proof.Machine.execPowerLimitCheck t s
  | .railCalibration t r millivolts milliamps milliwatts => Sys2Proof.Machine.execRailCalibration t r millivolts milliamps milliwatts s
  | .energyInterval t => Sys2Proof.Machine.execEnergyInterval t s
  | .railRecoveryEnd t d => Sys2Proof.Machine.execRailRecoveryEnd t d s
  | .housekeepingReading t c r => Sys2Proof.Machine.execHousekeepingReading t c r s
  | .throttleRelax t d => Sys2Proof.Machine.execThrottleRelax t d s
  | .blockAcknowledge t role b v => Sys2Proof.Machine.execBlockAcknowledge t role b v s
  | .acknowledgeAll t role v => Sys2Proof.Machine.execAcknowledgeAll t role v s
  | .blockReturnToService t role b v => Sys2Proof.Machine.execBlockReturnToService t role b v s
  | .blockTestComplete t b pass => Sys2Proof.Machine.execBlockTestComplete t b pass s
  | .interruptTestPulse t b echoed => Sys2Proof.Machine.execInterruptTestPulse t b echoed s
  | .recoveryWindowEnd t => Sys2Proof.Machine.execRecoveryWindowEnd t s
  | .bootStageComplete t h ok failed => Sys2Proof.Machine.execBootStageComplete t h ok failed s
  | .bootTimeout t => Sys2Proof.Machine.execBootTimeout t s
  | .bootRestart t => Sys2Proof.Machine.execBootRestart t s
  | .rectifierAnswerTimeout t => Sys2Proof.Machine.execRectifierAnswerTimeout t s
  | .softStartComplete t => Sys2Proof.Machine.execSoftStartComplete t s
  | .softStartTimeout t => Sys2Proof.Machine.execSoftStartTimeout t s
  | .deenergiseTimeout t => Sys2Proof.Machine.execDeenergiseTimeout t s
  | .escStateRequest t req => Sys2Proof.Machine.execEscStateRequest t req s
  | .smWatchdog t => Sys2Proof.Machine.execSmWatchdog t s
  | .sdoInformation t role => Sys2Proof.Machine.execSdoInformation t role s
  | .processDataRefresh t outputs => Sys2Proof.Machine.execProcessDataRefresh t outputs s
  | .storeParameters t role v => Sys2Proof.Machine.execStoreParameters t role v s
  | .storeComplete t => Sys2Proof.Machine.execStoreComplete t s
  | .restoreDefaults t role v => Sys2Proof.Machine.execRestoreDefaults t role v s
  | .foeSlotWrite t password k bytes => Sys2Proof.Machine.execFoeSlotWrite t password k bytes s
  | .fwmain t role password bytes => Sys2Proof.Machine.execFwmain t role password bytes s
  | .fwseed t role password bytes => Sys2Proof.Machine.execFwseed t role password bytes s
  | .configRead t role password => Sys2Proof.Machine.execConfigRead t role password s
  | .configWrite t role password bytes => Sys2Proof.Machine.execConfigWrite t role password bytes s
  | .keyEnrol t role path rec => Sys2Proof.Machine.execKeyEnrol t role path rec s
  | .keyRevoke t role path rec => Sys2Proof.Machine.execKeyRevoke t role path rec s
  | .keyStoreReset t role path port rec => Sys2Proof.Machine.execKeyStoreReset t role path port rec s
  | .rollbackCommit t role v => Sys2Proof.Machine.execRollbackCommit t role v s
  | .authorCertificate t role bytes => Sys2Proof.Machine.execAuthorCertificate t role bytes s
  | .authorKeyRemove t role keyId => Sys2Proof.Machine.execAuthorKeyRemove t role keyId s
  | .protectedRegisterWrite t h reg => Sys2Proof.Machine.execProtectedRegisterWrite t h reg s
  | .admissionRetry t k ticket devKey sig => Sys2Proof.Machine.execAdmissionRetry t k ticket devKey sig s
  | .admissionChallenge t k bytes => Sys2Proof.Machine.execAdmissionChallenge t k bytes s
  | .sessionSetup t role v => Sys2Proof.Machine.execSessionSetup t role v s
  | .sessionResponse t role bytes => Sys2Proof.Machine.execSessionResponse t role bytes s
  | .sessionLock t role v => Sys2Proof.Machine.execSessionLock t role v s
  | .sessionLimit t k => Sys2Proof.Machine.execSessionLimit t k s
  | .unlockLockoutEnd t => Sys2Proof.Machine.execUnlockLockoutEnd t s
  | .idcode t => Sys2Proof.Machine.execIdcode t s
  | .bypass t instr => Sys2Proof.Machine.execBypass t instr s
  | .samplePreload t bits => Sys2Proof.Machine.execSamplePreload t bits s
  | .extest t bits => Sys2Proof.Machine.execExtest t bits s
  | .supplyLossRestart t => Sys2Proof.Machine.execSupplyLossRestart t s
  | .ibcAlertRise t => Sys2Proof.Machine.execIbcAlertRise t s
  | .busOffRecovery t bus => Sys2Proof.Machine.execBusOffRecovery t bus s
  | .domainOutOfRegulation t d => Sys2Proof.Machine.execDomainOutOfRegulation t d s
  | .arrayStoreScrub t g bundle line errors => Sys2Proof.Machine.execArrayStoreScrub t g bundle line errors s
  | .lookupTableCompare t g upset => Sys2Proof.Machine.execLookupTableCompare t g upset s
  | .debugReset t => Sys2Proof.Machine.execDebugReset t s
  | .dieHalt t d => Sys2Proof.Machine.execDieHalt t d s
  | .powerStateEntryComplete t g => Sys2Proof.Machine.execPowerStateEntryComplete t g s
  | .railOutsideWindow t r => Sys2Proof.Machine.execRailOutsideWindow t r s

end Sys2Proof.Machine
end

