-- ==== Sys2Proof/Safety.lean ====
section
/-! DEFINITION. What counts as a safe run, in the terms that claims use. -/

namespace Sys2Proof.Machine

/-- The step goes on: neither a fault nor a refusal of the model. -/
def State.goesOn (s : State) : Prop := ∃ t, step s = .next t

/-- `n` steps from `s` reach `t`. -/
inductive Steps : Nat → State → State → Prop where
  | done (s : State) : Steps 0 s s
  | more {n : Nat} {s t u : State} : step s = .next t → Steps n t u → Steps (n + 1) s u

/-- At most one half holds authority (R49). -/
def State.oneAuthority (s : State) : Prop := ¬(s.hold.latchA = true ∧ s.hold.latchB = true)

/-- The object store is in its canonical form. -/
def State.canon (s : State) : Prop := smWf objDefault s.objs = true ∧ smWf blobDefault s.blobs = true

/-- `t` is reached from `s` with the queue as it was, time no earlier, everything sent still sent, the draws counted on, the canonical
form of the object store kept, and at most one half in authority where that was so. -/
structure Kept (s t : State) : Prop where
  pending : t.pending = s.pending
  now : s.now ≤ t.now
  out : ∃ l, t.out = l ++ s.out
  free : s.freeCtr ≤ t.freeCtr
  canon : s.canon → t.canon
  authority : s.oneAuthority → t.oneAuthority

/-- A meaning answers a next state that keeps what Kept says. -/
def Answers (s : State) (r : Res) : Prop := ∃ t, r = .next t ∧ Kept s t

/-! What the statements about array operations name: R233 to R235 -/

/-- An array at cycle `c`. -/
def ArrSt.atCycle (a : ArrSt) (c : Nat) : ArrSt := { a with cyc := c }

/-- The cycle at which array `a` has read the registers of readiness keys `reads`. -/
def ArrSt.readyFor (a : ArrSt) (reads : List Nat) : Nat := reads.foldl (fun m k => max m (smGet (fun _ => 0) a.ready k)) a.cyc

/-- Part `q` of run `r` may issue an operation on array `g` that reads the registers of readiness keys `reads`: no WAITF waits, and the
registers become ready inside the part's declared bound. `x` is the array at that cycle. -/
def State.issues (s : State) (g : Nat) (reads : List Nat) (r : PartRef) (q : PartSt) (x : ArrSt) : Prop :=
  s.curPart g = some (r, q) ∧ (s.arr g).waitf = none ∧ (s.arr g).cyc < q.decl.declared ∧
  x = (s.arr g).atCycle ((s.arr g).readyFor reads) ∧ x.cyc < q.decl.declared

/-- The sequencer at the next bundle, `n` cycles later. -/
def ArrSt.nextBundle (x : ArrSt) (n : Nat) : ArrSt :=
  { x with loops := (nextPc x.loops x.pc).1, pc := (nextPc x.loops x.pc).2, cyc := x.cyc + n }

/-- A scalar operation done: its result in Sd, which is ready one cycle later, and the part at its next bundle. -/
def ArrSt.scalarDone (x : ArrSt) (d v : Nat) : ArrSt :=
  { x with
    sregs := if d = 0 then x.sregs else smSet (fun _ => 0) x.sregs d (v % 2 ^ 32)
    ready := smSet (fun _ => 0) x.ready d (x.cyc + 1)
    loops := (nextPc x.loops x.pc).1, pc := (nextPc x.loops x.pc).2, cyc := x.cyc + 1 }

/-- The `n` store lines of part `q` from its line `rel` on lie in the part and none is poisoned (R239, R197). -/
def ArrSt.sound (x : ArrSt) (q : PartSt) (rel n : Nat) : Prop :=
  rel + n ≤ q.decl.storeLines ∧ ∀ i, i < n → smGet (fun _ => false) x.poison (q.base + rel + i) = false

/-- Line `rel + i` of part `q`. -/
def ArrSt.own (x : ArrSt) (q : PartSt) (rel i : Nat) : List Nat := x.line (q.base + rel + i)

/-- Bytes `b` on of line `rel` of part `q` replaced by `v`, the others kept. -/
def ArrSt.withBytes (x : ArrSt) (q : PartSt) (rel b : Nat) (v : List Nat) : ArrSt :=
  let l := (x.line (q.base + rel)).take b ++ v ++ (x.line (q.base + rel)).drop (b + v.length)
  { x with store := smSet (fun _ => List.replicate 64 0) x.store (q.base + rel) l }

/-- Whole lines `ls` written from line `rel` of part `q` on. -/
def ArrSt.withLines (x : ArrSt) (q : PartSt) (rel : Nat) (ls : List (List Nat)) : ArrSt :=
  ls.zipIdx.foldl (fun a e => a.setLine (q.base + rel + e.2) e.1) x

/-- A vector operation done: lane `l` of Vd holds `f l`, and Vd is ready `lat` cycles later. -/
def ArrSt.vecDone (x : ArrSt) (d lat : Nat) (f : Nat → Nat) : ArrSt :=
  { x.setVec d ((List.range 64).map f) with ready := smSet (fun _ => 0) x.ready (16 + d) (x.cyc + lat) }

/-- The flags that 64 lanes raise. -/
def lanesFlags (f : Nat → Flagged Nat) : Nat := (List.range 64).foldl (fun m l => m ||| (f l).2) 0

/-! What the statements about dictionary commands name: R524 to R528 -/

/-- The bytes of the number `v` at the width of object `key`. -/
def numBytes (key v : Nat) : List Nat := leBytes (objBits (key / 256) (key % 256) / 8) v

/-- A write of bytes `b` to object `key` by `role` over `path` reaches the object's own rule: the server takes accesses, rows 1 to 9 of
Table 19.4 find nothing, and no state bars the object. -/
def State.acceptsOver (s : State) (path : Path) (role : Role) (key : Nat) (b : List Nat) : Prop :=
  s.served path = true ∧ s.writeRefused role [] (key / 256) (key % 256) b = 0 ∧
    (match descOf (key / 256) (key % 256) with
    | some r => s.stateRefused (key / 256) (key % 256) (r.ty.value b)
    | none => false) = false

/-- The same over the role's own path. -/
def State.accepts (s : State) (role : Role) (key : Nat) (b : List Nat) : Prop := s.acceptsOver (rolePath role) role key b

/-- The write over `path` is applied: it is counted, recorded as the last write, and answered with code 0. -/
def State.appliedOver (s : State) (path : Path) (key : Nat) : State :=
  (s.noteWrite path (key / 256) (key % 256)).emit (.answer 0 key)

/-- The same over the role's own path. -/
def State.applied (s : State) (role : Role) (key : Nat) : State := s.appliedOver (rolePath role) key

/-- The write is refused with `code`: it is counted as refused and answered. -/
def State.declined (s : State) (key code : Nat) : State := (s.count Obj.refusedWrites).emit (.answer code key)

end Sys2Proof.Machine
end

