-- ==== Sys2Proof/Certificates/Slice0/Obligations.lean ====
section
/-! DEFINITION. The statements for the provers. Each docstring names the rules of spec/ that the statement formalises, or says that a
clause is the model's own choice and names its log entry. -/

open Sys2Proof Sys2Proof.Machine

/-- R234, R235, R220: the scalar operations of the S slot, each with its result, its latency and everything it leaves alone (the whole state but the array, and in the array all but Sd, its readiness and the sequencer). -/
def Obligations.ScalarOperationsWriteTheirRegister : Prop :=
  ∀ (s : State) (g : Fin 128) (d a b : Fin 16) (imm : Nat) (amount : Fin 32) (r : PartRef) (q : PartSt) (x : ArrSt),
    (s.issues g.val [a.val, b.val] r q x →
      exec (.sAdd g d a b) s = .next (s.setArr g.val (x.scalarDone d.val (u32 (s32 (x.sreg a.val) + s32 (x.sreg b.val))))) ∧
      exec (.sSub g d a b) s = .next (s.setArr g.val (x.scalarDone d.val (u32 (s32 (x.sreg a.val) - s32 (x.sreg b.val))))) ∧
      exec (.sAnd g d a b) s = .next (s.setArr g.val (x.scalarDone d.val (x.sreg a.val &&& x.sreg b.val))) ∧
      exec (.sOr g d a b) s = .next (s.setArr g.val (x.scalarDone d.val (x.sreg a.val ||| x.sreg b.val))) ∧
      exec (.sXor g d a b) s = .next (s.setArr g.val (x.scalarDone d.val (x.sreg a.val ^^^ x.sreg b.val)))) ∧
    (s.issues g.val [a.val] r q x →
      exec (.sAddi g d a imm) s = .next (s.setArr g.val (x.scalarDone d.val (u32 (s32 (x.sreg a.val) + toSigned 16 imm)))) ∧
      exec (.sAndi g d a imm) s = .next (s.setArr g.val (x.scalarDone d.val (x.sreg a.val &&& imm % 65536))) ∧
      exec (.sShl g d a amount) s = .next (s.setArr g.val (x.scalarDone d.val (x.sreg a.val * 2 ^ amount.val % 2 ^ 32))) ∧
      exec (.sShr g d a amount) s =
        .next ((s.setArr g.val (x.scalarDone d.val (fxShr (x.sreg a.val) amount.val).1)).raiseFlags g.val r (fxShr (x.sreg a.val) amount.val).2)) ∧
    (s.issues g.val [d.val] r q x →
      exec (.sMovhi g d imm) s = .next (s.setArr g.val (x.scalarDone d.val (imm % 65536 * 65536 + x.sreg d.val % 65536))))

/-- R234: the register file of an array. -/
def Obligations.RegistersReadBackWhatWasWritten : Prop :=
  (∀ (a : ArrSt) (i v j : Nat), (a.setS i v).sreg j = if j = 0 then 0 else if j = i then v % 2 ^ 32 else a.sreg j) ∧
  ∀ (a : ArrSt) (d w l : Nat) (v : List Nat), v.length = 64 → l < 64 →
    (a.setVec d v).lane w l = if w = d then v.getD l 0 % 2 ^ 32 else a.lane w l

/-- R233, R235: the control operations of the S slot, with the whole state after each. -/
def Obligations.SequencerOperationsMoveTheBundle : Prop :=
  ∀ (s : State) (g : Fin 128) (a b : Fin 16) (slot : Fin 4) (target n : Nat) (r : PartRef) (q : PartSt) (x : ArrSt),
    (s.issues g.val [] r q x →
      exec (.sNop g slot) s = .next (s.setArr g.val (if slot.val = 0 then x.nextBundle 1 else x)) ∧
      exec (.sBr g target) s = .next (s.setArr g.val { x with pc := target, cyc := x.cyc + 2 }) ∧
      exec (.sSkip g n) s = .next (s.setArr g.val (x.nextBundle (1 + n % 4096)))) ∧
    (s.issues g.val [a.val] r q x →
      exec (.sLoop g a target) s = .next (s.setArr g.val
        (if x.sreg a.val = 0 then { x with pc := target + 1, cyc := x.cyc + 1 }
         else { x with loops := { first := x.pc + 1, last := target, left := x.sreg a.val } :: x.loops, pc := x.pc + 1, cyc := x.cyc + 1 })) ∧
      exec (.sBrz g a target) s = .next (s.setArr g.val
        (if x.sreg a.val = 0 then { x with pc := target, cyc := x.cyc + 2 } else x.nextBundle 1)) ∧
      exec (.sBrnz g a target) s = .next (s.setArr g.val
        (if x.sreg a.val = 0 then x.nextBundle 1 else { x with pc := target, cyc := x.cyc + 2 }))) ∧
    (s.issues g.val [a.val, b.val] r q x →
      exec (.sBrlt g a b target) s = .next (s.setArr g.val
        (if s32 (x.sreg a.val) < s32 (x.sreg b.val) then { x with pc := target, cyc := x.cyc + 2 } else x.nextBundle 1)))

/-- R235, LOOP: the loop stack. -/
def Obligations.LoopsRepeatTheirBody : Prop :=
  ∀ (f : LoopFrame) (rest : List LoopFrame) (pc : Nat),
    (f.last = pc → 1 < f.left → nextPc (f :: rest) pc = ({ f with left := f.left - 1 } :: rest, f.first)) ∧
    (f.last = pc → f.left ≤ 1 → (∀ e ∈ rest, e.last ≠ pc) → nextPc (f :: rest) pc = (rest, pc + 1)) ∧
    (f.last ≠ pc → nextPc (f :: rest) pc = (f :: rest, pc + 1))

/-- R235 (WAITF, RDSYS, PHASE), Table 8.10. The value of a selector that Table 8.10 does not list is free: the model's choice, log entry 16. -/
def Obligations.FlagWaitsAndSystemValues : Prop :=
  ∀ (s : State) (g : Fin 128) (d a b : Fin 16) (n : Fin 8) (sel : Nat) (r : PartRef) (q : PartSt) (x : ArrSt),
    (s.issues g.val [a.val, b.val] r q x → x.sound q (x.sreg a.val) 1 →
      exec (.sWaitf g a b) s = .next (s.setArr g.val
        (if x.sreg b.val ≤ leNat ((x.own q (x.sreg a.val) 0).take 8) then x.nextBundle 1
         else { x with waitf := some (q.base + x.sreg a.val, x.sreg b.val) }))) ∧
    (∀ (line level : Nat), s.curPart g.val = some (r, q) → (s.arr g.val).waitf = some (line, level) →
      level ≤ leNat (((s.arr g.val).line line).take 8) →
      exec (.sWaitfSatisfied g) s = .next (s.setArr g.val (({ s.arr g.val with waitf := none } : ArrSt).nextBundle 1))) ∧
    (s.issues g.val (if sel = 9 ∨ sel = 10 ∨ sel = 11 then [68] else []) r q x →
      (sel ≤ 13 → exec (.sRdsys g d sel) s = .next (s.setArr g.val (x.scalarDone d.val (s.sysValue g.val sel r q)))) ∧
      (13 < sel → exec (.sRdsys g d sel) s =
        .next (({ s with freeCtr := s.freeCtr + 1 } : State).setArr g.val (x.scalarDone d.val (Config.number s.freeCtr % 2 ^ 32))))) ∧
    (s.sysValue g.val 0 r q = q.flags ∧ s.sysValue g.val 1 r q = (s.prog r.handle).ticks % 2 ^ 32 ∧
      s.sysValue g.val 2 r q = (s.prog r.handle).startTime % 2 ^ 32 ∧ s.sysValue g.val 3 r q = (s.prog r.handle).startTime / 2 ^ 32 % 2 ^ 32 ∧
      s.sysValue g.val 4 r q = q.idx ∧ s.sysValue g.val 5 r q = (s.prog r.handle).placements ∧
      s.sysValue g.val 7 r q = s.nat (Obj.operatingPoint (dieOf g.val)) ∧ s.sysValue g.val 12 r q = q.slices ∧
      s.sysValue g.val 13 r q = if q.copyB then 1 else 0) ∧
    (s.issues g.val [] r q x →
      exec (.sPhase g n) s = .next ((s.updPart r (fun e => { e with phase := n.val })).setArr g.val (x.nextBundle 1)))

/-- R246, R251, R255, R257, R258: the ends of a tick and of a slice, in the order the rules give. -/
def Obligations.TickAndSliceEndFreeTheArray : Prop :=
  ∀ (t : Nat) (s : State) (g : Fin 128) (r : PartRef) (q : PartSt),
    let u := s.at t
    u.curPart g.val = some (r, q) → (u.arr g.val).waitf = none → (u.arr g.val).cyc < q.decl.declared →
    ((u.prog r.handle).lane = 1 →
      let w := (u.forEach q.decl.outputs (fun s o => s.publishOut g.val r.handle q o)).leaveArray g.val r q 1 0
      let p := w.prog r.handle
      exec (.sEnd t g) s = .next
        (((if (w.prog r.handle).quiet then
            w.setProg r.handle { p with completions := (p.completions + 1) % 2 ^ 32, ticks := p.ticks + 1 }
          else w).stopDue r.handle).rechoose g.val)) ∧
    ((u.prog r.handle).lane = 2 →
      exec (.sEnd t g) s = .next ((((u.leaveArray g.val r q 1 0).sliceEnd r.handle).stopDue r.handle).rechoose g.val) ∧
      exec (.sYield t g) s =
        .next ((((u.leaveArray g.val r q 2 ((u.arr g.val).pc + 1)).sliceEnd r.handle).stopDue r.handle).rechoose g.val)) ∧
    ((u.leaveArray g.val r q 1 0).arr g.val).cur = none

/-- R171, R172, R173, R180, R211, Table 8.7: the A slot operations that hold no arithmetic of the cells, with the whole state after each. -/
def Obligations.EdgeOperationsRunTheArray : Prop :=
  ∀ (s : State) (g : Fin 128) (os add north : Bool) (fmt : Fin 3) (f : Fin 64) (a : Fin 16) (offset : Nat) (e : Fin 256) (table : Fin 4)
    (r : PartRef) (q : PartSt) (x : ArrSt),
    let line := (x.sreg a.val + offset) % 2 ^ 32
    (s.issues g.val [] r q x →
      exec (.setmode g os fmt f add) s = .next (s.setArr g.val { x with os := os, fmt := fmt.val, frame := f.val, accAdd := add })) ∧
    (s.issues g.val [a.val] r q x →
      exec (.setref g north a) s = .next (s.setArr g.val
        (if north then { x with refN := s32 (x.sreg a.val) } else { x with refW := s32 (x.sreg a.val) }))) ∧
    (s.issues g.val [68] r q x → exec (.edgeclr g) s = .next (s.setArr g.val { x with edge := [], eSeed := 0 })) ∧
    (s.issues g.val [64 + table.val, 68, 69] r q x →
      exec (.loadcurve g table) s = .next (s.setArr g.val
        { x with ccr := (List.range 8).map (fun i => x.tableAt table.val i % 65536), curve := table.val, cyc := x.cyc + 8 })) ∧
    (s.issues g.val [a.val, 71] r q x → x.sound q line 64 →
      let rows := (List.range 64).map (fun i => x.lineOps true x.refN (e.val + x.expStep * i) (x.own q line i))
      let cells := rows.zipIdx.flatMap (fun w => w.1.1.zipIdx.map (fun c => (w.2 * 64 + c.2, c.1)))
      exec (.tileload g a offset e) s = .next
        ((s.setArr g.val { x.swapTile x.cyc with shadow := some { completeAt := x.cyc + 66, ref := x.refN, cells := cells } }).raiseFlags g.val r
          (rows.foldl (fun m w => m ||| w.2) 0))) ∧
    (s.issues g.val [a.val, 68] r q x → line + 4 ≤ q.decl.storeLines →
      exec (.edgest g a offset) s = .next (s.setArr g.val
        (x.withLines q line (sumLines ((List.range 64).map (fun j => (x.edgeAt j).v)))))) ∧
    (s.issues g.val [a.val, 69] r q x → line + 256 ≤ q.decl.storeLines →
      let rows := (List.range 64).flatMap (fun i => sumLines ((List.range 64).map (fun c => (x.cellSum (i * 64 + c)).v)))
      exec (.drain g a offset) s = .next (s.setArr g.val
        { x.withLines q line rows with psum := [], pSeed := 0, ready := smSet (fun _ => 0) x.ready 69 (x.cyc + 64) }))

/-- R172, R173, R214, R215, R216, Table 8.7: the two operations that run the cells. -/
def Obligations.VectorsMeetTheTileAndRunsFillTheCells : Prop :=
  ∀ (s : State) (g : Fin 128) (a b : Fin 16) (offset : Nat) (e : Fin 256) (k : Fin 128) (r : PartRef) (q : PartSt) (x : ArrSt),
    let line := (x.sreg a.val + offset) % 2 ^ 32
    (s.issues g.val [a.val, 70] r q x → x.sound q line 1 →
      let y := x.swapTile (x.cyc + 2)
      let ops := y.lineOps false y.refW e.val (x.own q line 0)
      let sums := (List.range 64).map (columnSum y ops.1)
      let z := y.edgeTake (sums.map (·.1)) (columnExp y.fmt y.frame y.refW y.weightRef)
      exec (.wsvec g a offset e) s = .next
        ((s.setArr g.val { z.1 with ready := smSet (fun _ => 0) z.1.ready 68 (z.1.cyc + 135) }).raiseFlags g.val r
          (sums.foldl (fun m c => m ||| c.2) (ops.2 ||| z.2)))) ∧
    (s.issues g.val [a.val, b.val, 70, 71] r q x → x.sound q (x.sreg a.val) (k.val + 1) → x.sound q (x.sreg b.val) (k.val + 1) →
      let z := (List.range (k.val + 1)).foldl (fun (acc : Flagged ArrSt) i =>
        ((acc.1.osStep i (x.own q (x.sreg a.val) i) (x.own q (x.sreg b.val) i)).1,
          acc.2 ||| (acc.1.osStep i (x.own q (x.sreg a.val) i) (x.own q (x.sreg b.val) i)).2))
        ({ x with psumX := columnExp x.fmt x.frame x.refW x.refN }, 0)
      exec (.osrun g a b k) s = .next
        ((s.setArr g.val { z.1 with ready := smSet (fun _ => 0) z.1.ready 69 (z.1.cyc + (k.val + 1 + 128)) }).raiseFlags g.val r z.2))

/-- R218, R220, R235, Table 8.8: the lane-wise operations. -/
def Obligations.VectorOperationsWriteEveryLane : Prop :=
  ∀ (s : State) (g : Fin 128) (d a b m : Fin 32) (cond : Fin 6) (op : Fin 4) (fmt : Fin 3) (r : PartRef) (q : PartSt) (x : ArrSt),
    let A := x.lane a.val
    let B := x.lane b.val
    let done := fun (lat : Nat) (f : Nat → Flagged Nat) =>
      Host.Outcome.next (φ := Fault) (ρ := Refusal)
        ((s.setArr g.val (x.vecDone d.val lat (fun l => (f l).1))).raiseFlags g.val r (lanesFlags f))
    (s.issues g.val [16 + a.val, 16 + b.val] r q x →
      exec (.vadd g d a b) s = done 2 (fun l => satFixed (s32 (A l) + s32 (B l))) ∧
      exec (.vsub g d a b) s = done 2 (fun l => satFixed (s32 (A l) - s32 (B l))) ∧
      exec (.vmin g d a b) s = done 2 (fun l => (u32 (min (s32 (A l)) (s32 (B l))), 0)) ∧
      exec (.vmax g d a b) s = done 2 (fun l => (u32 (max (s32 (A l)) (s32 (B l))), 0)) ∧
      exec (.vcmp g d a b cond) s = done 2 (fun l => (if condHolds cond.val (s32 (A l)) (s32 (B l)) then 4294967295 else 0, 0)) ∧
      exec (.vlogic g d a b op) s = done 2 (fun l => (vlogicOp op.val (A l) (B l), 0)) ∧
      exec (.vmul g d a b m) s = done 4 (fun l => mulShift (A l) (B l) m.val) ∧
      exec (.vglmul g d a b fmt) s = done 2 (fun l => glMul fmt.val (A l) (B l)) ∧
      exec (.vglcmp g d a b fmt cond) s =
        done 2 (fun l => (if condHolds cond.val (glKey fmt.val (A l)) (glKey fmt.val (B l)) then 4294967295 else 0, 0))) ∧
    (s.issues g.val [16 + a.val] r q x →
      exec (.vshl g d a m) s = done 2 (fun l => satFixed (s32 (A l) * (2 ^ m.val : Nat))) ∧
      exec (.vshr g d a m) s = done 2 (fun l => fxShr (A l) m.val)) ∧
    (s.issues g.val [16 + a.val, 16 + b.val, 16 + m.val] r q x →
      exec (.vsel g d a b m) s = done 2 (fun l => (if x.lane m.val l ≠ 0 then A l else B l, 0))) ∧
    (s.issues g.val [16 + d.val, 16 + a.val, 16 + b.val] r q x →
      exec (.vmac g d a b m) s = done 4 (fun l =>
        ((fxAdd (x.lane d.val l) (mulShift (A l) (B l) m.val).1).1,
          (mulShift (A l) (B l) m.val).2 ||| (fxAdd (x.lane d.val l) (mulShift (A l) (B l) m.val).1).2)))

/-- R179, R219 to R224, R235, R236, Table 8.8. A lookup whose exact result lies between two integers gives a free value: the model's choice, log entry 13. -/
def Obligations.VectorsConvertLookUpReduceAndMove : Prop :=
  ∀ (s : State) (g : Fin 128) (d a : Fin 32) (c : Fin 16) (lane : Fin 64) (target : Fin 10) (source : Fin 11) (table : Fin 4) (interp expo : Bool)
    (op : Fin 3) (r : PartRef) (q : PartSt) (x : ArrSt),
    let done := fun (lat : Nat) (f : Nat → Nat) (flags : Nat) =>
      Host.Outcome.next (φ := Fault) (ρ := Refusal) ((s.setArr g.val (x.vecDone d.val lat f)).raiseFlags g.val r flags)
    (s.issues g.val ([16 + a.val, c.val] ++ if source.val = 10 then [68] else []) r q x →
      exec (.vcvt g d a target source c) s =
        done 4 (fun l => (x.convert a.val target.val source.val c.val).1.getD l 0) (x.convert a.val target.val source.val c.val).2) ∧
    (s.issues g.val [16 + a.val, 64 + table.val, 72 + table.val] r q x →
      let busy := smSet (fun _ => 0) (smSet (fun _ => 0) x.ready (16 + d.val) (x.cyc + 8)) (72 + table.val) (x.cyc + 4)
      exec (.vlut g d a table interp) s = .next (s.setArr g.val
        { x.vecDone d.val 8 (fun l => x.lookupLane table.val interp (x.lane a.val l)) with ready := busy })) ∧
    (s.issues g.val [16 + a.val] r q x →
      exec (.vred g d a op) s = done 7 (fun _ => (reduceLanes op.val (x.vec a.val)).1) (reduceLanes op.val (x.vec a.val)).2 ∧
      exec (.vext g c a lane expo) s = .next (s.setArr g.val
        { x.setS c.val (if expo then u32 (toSigned 8 (x.lane a.val lane.val / 256)) else x.lane a.val lane.val) with ready := smSet (fun _ => 0) x.ready c.val (x.cyc + 2) })) ∧
    (s.issues g.val [c.val] r q x → exec (.vmovs g d c) s = done 2 (fun _ => x.sreg c.val) 0) ∧
    (s.issues g.val [] r q x → exec (.vidx g d) s = done 2 (fun l => l) 0)

/-- R180, R197, R235, R239, Table 8.9: the loads of the M slot. -/
def Obligations.StoreLoadsFillRegisters : Prop :=
  ∀ (s : State) (g : Fin 128) (v : Fin 32) (d a : Fin 16) (offset : Nat) (sub3 : Fin 3) (sub8 : Fin 8) (table : Fin 4)
    (r : PartRef) (q : PartSt) (x : ArrSt),
    let p := (x.sreg a.val + offset) % 2 ^ 32
    let done := fun (y : ArrSt) (k lat : Nat) =>
      Host.Outcome.next (φ := Fault) (ρ := Refusal) (s.setArr g.val { y with ready := smSet (fun _ => 0) y.ready k (y.cyc + lat) })
    (s.issues g.val [a.val] r q x →
      (x.sound q p 4 → exec (.vld g v a offset) s =
        done (x.setVec v.val ((List.range 64).map (fun l =>
          leNat (slice (x.own q p 0 ++ x.own q p 1 ++ x.own q p 2 ++ x.own q p 3) (4 * l) 4)))) (16 + v.val) 2) ∧
      (x.sound q p 1 →
        exec (.vld8 g v a offset sub3) s = done (x.setVec v.val
          (if sub3.val = 0 then fitTo 64 (x.own q p 0)
           else (slice (x.own q p 0) (32 * (sub3.val - 1)) 32).flatMap (fun y => [y / 16, y % 16]))) (16 + v.val) 2 ∧
        exec (.expld g a offset sub8) s =
          done (x.setExpBuf (decide (4 ≤ sub8.val)) (sub8.val % 4) (x.own q p 0)) (if 4 ≤ sub8.val then 71 else 70) 2 ∧
        exec (.sld g d a offset) s = done (x.setS d.val (leNat ((x.own q p 0).take 4))) d.val 2)) ∧
    (s.issues g.val [a.val, 16 + v.val] r q x → x.sound q (p / 32) 1 →
      exec (.vldx g v a offset) s = done (x.setExps v.val (listGet 0 (x.own q (p / 32) 0) (2 * (p % 32)))
        (listGet 0 (x.own q (p / 32) 0) (2 * (p % 32) + 1))) (16 + v.val) 2) ∧
    (s.issues g.val [a.val, 72 + table.val, 64 + table.val] r q x → x.sound q p 256 →
      let y := x.loadTable table.val (q.base + p)
      let busy := smSet (fun _ => 0) y.ready (64 + table.val) (y.cyc + 64)
      exec (.tload g table a offset) s = .next (s.setArr g.val
        { y with ready := busy, tableSrc := smPut x.tableSrc table.val (q.base + p) }))

/-- R197, R235, R239, Table 8.9: the stores of the M slot; the lines written are computed by the address of the operation itself. -/
def Obligations.StoresWriteTheirLinesOnly : Prop :=
  ∀ (s : State) (g : Fin 128) (v : Fin 32) (d a : Fin 16) (offset : Nat) (sub3 : Fin 3) (r : PartRef) (q : PartSt) (x : ArrSt),
    let p := (x.sreg a.val + offset) % 2 ^ 32
    (s.issues g.val [a.val, 16 + v.val] r q x →
      (p + 4 ≤ q.decl.storeLines → exec (.vst g v a offset) s = .next (s.setArr g.val (x.withLines q p
        ((List.range 4).map (fun i => slice ((x.vec v.val).flatMap (leBytes 4)) (64 * i) 64))))) ∧
      (p < q.decl.storeLines → exec (.vst8 g v a offset sub3) s = .next (s.setArr g.val
        (if sub3.val = 0 then x.withLines q p [(x.vec v.val).map (· % 256)]
         else x.withBytes q p (32 * (sub3.val - 1)) (packNibbles (x.vec v.val))))) ∧
      (p / 32 < q.decl.storeLines → exec (.vstx g v a offset) s = .next (s.setArr g.val
        (x.withBytes q (p / 32) (2 * (p % 32)) [x.lane v.val 0 / 256 % 256, x.lane v.val 32 / 256 % 256])))) ∧
    (s.issues g.val [a.val, d.val] r q x → p < q.decl.storeLines →
      exec (.sst g d a offset) s = .next (s.setArr g.val (x.withBytes q p 0 (leBytes 4 (x.sreg d.val))))) ∧
    (∀ (rel b : Nat) (w : List Nat) (l : Nat), l ≠ q.base + rel → (x.withBytes q rel b w).line l = x.line l) ∧
    (∀ (rel : Nat) (ls : List (List Nat)) (l : Nat), (l < q.base + rel ∨ q.base + rel + ls.length ≤ l) → (x.withLines q rel ls).line l = x.line l)

/-- R239 and Table 8.12 (0x7A BoundsViolation): all its cases, the first for every operation that addresses the store, the other three through the transfer descriptor. -/
def Obligations.AccessOutsideThePartStopsTheProgram : Prop :=
  ∀ (s : State) (g : Fin 128) (v : Fin 32) (d a b : Fin 16) (offset : Nat) (e : Fin 256) (k : Fin 128) (sub3 : Fin 3) (sub8 : Fin 8) (table : Fin 4)
    (r : PartRef) (q : PartSt) (x : ArrSt),
    let p := (x.sreg a.val + offset) % 2 ^ 32
    let stop := Host.Outcome.next (φ := Fault) (ρ := Refusal) ((s.setArr g.val x).stopNow r.handle 0x7A pgStopped)
    let out := fun (line n : Nat) => q.decl.storeLines < line + n
    (s.issues g.val [a.val] r q x →
      (out p 4 → exec (.vld g v a offset) s = stop) ∧ (out p 1 → exec (.vld8 g v a offset sub3) s = stop) ∧
      (out p 1 → exec (.expld g a offset sub8) s = stop) ∧ (out p 1 → exec (.sld g d a offset) s = stop) ∧
      (out p 1 → exec (.xfer g a offset) s = stop) ∧
      (x.sound q p 1 → x.xfers.length < 8 → s.xferOf r q (x.own q p 0) = .error 0x7A → exec (.xfer g a offset) s = stop)) ∧
    (s.issues g.val [a.val, 16 + v.val] r q x →
      (out p 4 → exec (.vst g v a offset) s = stop) ∧ (out p 1 → exec (.vst8 g v a offset sub3) s = stop) ∧
      (out (p / 32) 1 → exec (.vldx g v a offset) s = stop) ∧ (out (p / 32) 1 → exec (.vstx g v a offset) s = stop)) ∧
    (s.issues g.val [a.val, d.val] r q x → out p 1 → exec (.sst g d a offset) s = stop) ∧
    (s.issues g.val [a.val, 72 + table.val, 64 + table.val] r q x → out p 256 → exec (.tload g table a offset) s = stop) ∧
    (s.issues g.val [a.val, 71] r q x → out p 64 → exec (.tileload g a offset e) s = stop) ∧
    (s.issues g.val [a.val, 70] r q x → out p 1 → exec (.wsvec g a offset e) s = stop) ∧
    (s.issues g.val [a.val, b.val, 70, 71] r q x → (out (x.sreg a.val) (k.val + 1) → exec (.osrun g a b k) s = stop)) ∧
    (s.issues g.val [a.val, 69] r q x → out p 256 → exec (.drain g a offset) s = stop) ∧
    (s.issues g.val [a.val, 68] r q x → out p 4 → exec (.edgest g a offset) s = stop) ∧
    (s.issues g.val [a.val, b.val] r q x → out (x.sreg a.val) 1 → exec (.sWaitf g a b) s = stop) ∧
    (∀ (y : List Nat), let n := leNat (slice y 4 4)
      let kind := listGet 0 y 0
      1 ≤ kind → kind ≤ 4 → 1 ≤ n → n ≤ 16384 →
      (q.decl.storeLines < leNat (slice y 16 4) + n → s.xferOf r q y = .error 0x7A) ∧
      (kind = 1 → (∀ w ∈ (s.prog r.handle).parts, ¬(w.copyB = q.copyB ∧ w.idx = listGet 0 y 1)) → s.xferOf r q y = .error 0x7A) ∧
      ((kind = 2 ∨ kind = 3) → q.decl.stackBytes < leNat (slice y 8 8) + 64 * n → s.xferOf r q y = .error 0x7A) ∧
      (kind = 4 → s.windowAt (s.prog r.handle).tenant (leNat (slice y 8 8)) = none → s.xferOf r q y = .error 0x7A))

/-- R183, R237, Table 8.11. -/
def Obligations.TransfersStartAndDeliver : Prop :=
  ∀ (t : Nat) (s : State) (g : Fin 128) (a : Fin 16) (offset i : Nat) (r : PartRef) (q : PartSt) (x : ArrSt) (f : Xfer) (b : List Nat),
    (s.issues g.val [a.val] r q x → x.sound q ((x.sreg a.val + offset) % 2 ^ 32) 1 →
      (x.xfers.length < 8 → s.xferOf r q (x.own q ((x.sreg a.val + offset) % 2 ^ 32) 0) = .ok (some f) →
        exec (.xfer g a offset) s = .next (s.setArr g.val { x with xfers := x.xfers ++ [f] })) ∧
      (8 ≤ x.xfers.length → exec (.xfer g a offset) s = .next (s.setArr g.val x))) ∧
    (let u := s.at t
     let w := u.setArr g.val { u.arr g.val with xfers := (u.arr g.val).xfers.eraseIdx i }
     let line := fun (z : State) => leBytes 8 f.flagValue ++ ((z.arr f.flagArray).line f.flagLine).drop 8
     let store := fun (z : State) => smSet (fun _ => List.replicate 64 0) (z.arr f.flagArray).store f.flagLine (line z)
     let flagged := fun (z : State) => z.setArr f.flagArray { z.arr f.flagArray with store := store z }
     ((u.arr g.val).xfers[i]? = some f → u.xferBad g.val f = true → exec (.xferComplete t g i) s = .next (w.stopNow f.handle 0x7B pgStopped)) ∧
     ((u.arr g.val).xfers[i]? = some f → u.xferBad g.val f = false → u.xferData g.val f = some b →
      exec (.xferComplete t g i) s = .next (flagged
        (if f.kind = 3 then w.putStack (dieOf g.val) f.remote b
         else if f.kind = 1 then w.setArr f.dstArray ((w.arr f.dstArray).setLines f.remote b)
         else w.setArr g.val ((w.arr g.val).setLines f.localLine b)))))

/-- R56, R367, R505, R513, R514, R578, Table 18.9. The block of the event is the rail controller of half A (R56). -/
def Obligations.FeedsAndTheSupplyLossShutDown : Prop :=
  ∀ (t t0 sp : Nat) (f : Half) (s : State),
    let u := s.at t
    let p := match f with
      | .a => { u.pins with feedA := true }
      | .b => { u.pins with feedB := true }
    let q := match f with
      | .a => { u.pins with feedA := false }
      | .b => { u.pins with feedB := false }
    (u.mode ≠ .off → exec (.feedPresent t f) s = .next { u with pins := p }) ∧
    (u.mode = .off → u.boot.safePoint = none →
      exec (.feedPresent t f) s = .next { u with pins := p, boot := { u.boot with feedReturned := true } }) ∧
    (u.mode = .off → u.boot.safePoint = some sp → u.boot.feedReturned = false →
      exec (.feedPresent t f) s = .next (({ u with pins := p, boot := { u.boot with poweredMark := u.now } } : State).reset_ 1)) ∧
    (u.pins.feedA = true → u.pins.feedB = true →
      (u.running = true → exec (.oneFeedLost t f) s = .next (({ u with pins := q } : State).event blRail 9 (halfIdx f + 1))) ∧
      (u.running = false → exec (.oneFeedLost t f) s = .next { u with pins := q }) ∧
      (({ u with pins := q } : State).event blRail 9 (halfIdx f + 1)).mode = u.mode) ∧
    (u.mode = .off ∨ u.mode = .ship →
      exec (.feedsRemoved t) s = .next { u with pins := { u.pins with feedA := false, feedB := false } }) ∧
    (u.mode ≠ .off → u.mode ≠ .ship → ∃ v, exec (.feedsRemoved t) s = .next v ∧ v.mode = .off ∧ v.conv.uvArmed = false ∧
      v.hold.phase = 0 ∧ v.hold.transferTo = 0 ∧ v.boot.supplyLoss = some v.now ∧ v.boot.safePoint = none ∧ v.boot.feedReturned = false ∧
      v.boot.failStep = 0 ∧ v.boot.shutStep = 0 ∧ v.dict.esc = .init) ∧
    (u.boot.supplyLoss = some t0 → u.boot.safePoint = none →
      (t0 + ms ≤ u.now → ∃ v, exec (.supplyLossContactorRelease t) s = .next v ∧ v = { u with conv := v.conv } ∧
        ∀ k, (v.str k).negDrive = false ∧ (v.str k).posDrive = false ∧ (v.str k).preDrive = false ∧ (v.str k).step = 0 ∧
          (v.str k).openStep = 0 ∧ (v.str k).idle = true ∧
          (v.str k).conn = if (u.str k).conn = .lockedOut then .lockedOut else .opened) ∧
      (u.now < t0 + ms → exec (.supplyLossContactorRelease t) s = .next u) ∧
      ∃ v, exec (.safePoint t) s = .next v ∧ v.boot.safePoint = some u.now ∧ v.boot.poweredMark = u.now ∧
        v.pins = { u.pins with aliveOnA := false, aliveOnB := false } ∧ v.mode = u.mode ∧ v.conv = u.conv ∧ v.dict = u.dict ∧
        v.nat Obj.poweredTime = u.powered % 2 ^ 32 ∧
        v.blob Obj.shutdownRecord = [2, if u.boot.feedReturned then 1 else 0, 0, 0] ++ leBytes 8 ((t0 : Int) + u.fab.htOffset).toNat ++
          leBytes 4 ((u.now - t0) / ms)) ∧
    (u.mode = .off → u.boot.safePoint = some sp → u.boot.feedReturned = true → sp + 100 * ms ≤ u.now →
      exec (.supplyLossRestart t) s = .next (u.reset_ 5)) ∧
    (u.mode = .off → u.boot.safePoint = some sp → u.now < sp + 100 * ms → exec (.supplyLossRestart t) s = .next u)

/-- R73, R516, R549, Table 18.11. That the fields listed start empty is the model's choice where the spec gives no reset value (log entry 5). -/
def Obligations.ResetsStartBootAndLoseVolatileState : Prop :=
  ∀ (t : Nat) (s : State),
    let u := s.at t
    let after := fun (cause : Nat) (hold : Bool) (v : State) =>
      v.mode = .boot ∧ v.boot.inReset = hold ∧ v.boot.stageA = 1 ∧ v.boot.stageB = 1 ∧ v.boot.since = u.now ∧ v.boot.failLog = u.boot.failLog ∧
      v.hold.latchA = false ∧ v.hold.latchB = false ∧ v.pins.gden = 0 ∧ v.pins.aliveOnA = false ∧ v.pins.aliveOnB = false ∧
      v.pins.feedA = u.pins.feedA ∧ v.pins.feedB = u.pins.feedB ∧
      v.pool = {} ∧ v.pecan = {} ∧ v.hist = {} ∧ v.pow = {} ∧ v.flt.queues = [] ∧ v.flt.unack = [] ∧ v.fab.lanes = [] ∧
      v.pending = u.pending ∧ v.out = u.out ∧ v.now = u.now ∧
      v.nat Obj.resetCause = cause ∧ v.nat Obj.bootCount = (u.nat Obj.bootCount + 1) % 2 ^ 32 ∧
      v.nat Obj.poweredTime = u.powered % 2 ^ 32 ∧ v.blob Obj.shutdownRecord = u.blob Obj.shutdownRecord
    (u.mode ≠ .off → u.mode ≠ .ship → ∃ v, exec (.shelfReset t) s = .next v ∧ after 2 true v) ∧
    (u.mode = .off ∨ u.mode = .ship → exec (.shelfReset t) s = .next u) ∧
    (u.boot.inReset = true →
      exec (.shelfResetRelease t) s = .next { u with boot := { u.boot with inReset := false, since := u.now } }) ∧
    (u.boot.inReset = false → exec (.shelfResetRelease t) s = .next u) ∧
    ((smGet (fun _ => {}) u.dict.sessions 0 : Session).level ≠ 0 → u.running = true →
      ∃ v, exec (.debugReset t) s = .next v ∧ after 6 false v) ∧
    ((smGet (fun _ => {}) u.dict.sessions 0 : Session).level = 0 → exec (.debugReset t) s = .next u)

/-- R31, R32, R67, R71, R75, R77, R92, R433, Tables 3.6 and 3.7. That a wake from Ship is reset cause 1 and that the refusal of an assembly is entered in its first lane's block are the model's choices (log entry 56). -/
def Obligations.PinsAndCagesAreReported : Prop :=
  ∀ (t mw : Nat) (gd : Fin 64) (prot optical active : Bool) (cage : Fin 2) (s : State),
    let u := s.at t
    (u.running = true → exec (.protectorTrip t) s = .next
      (({ u with pins := { u.pins with protTripLow := true } } : State).raise (u.block blBoot) 10 8 0 lvModule)) ∧
    (u.mode ≠ .boot → u.mode ≠ .standby → u.boot.stageA ≠ 3 → u.boot.stageB ≠ 3 →
      exec (.coolantSeated t) s = .next { u with pins := { u.pins with coolantSeated := true } }) ∧
    (u.mode = .ready ∨ u.mode = .shaping ∨ u.mode = .hold → exec (.coolantInterlockLost t) s = .next
      (({ u with pins := { u.pins with coolantSeated := false } } : State).raise (u.block blBoot) 10 8 0 lvModule)) ∧
    (u.mode ≠ .ship → u.boot.shipStep = 0 →
      exec (.wakeLatchSet t) s = .next { u with pins := { u.pins with wakeLatch := true } }) ∧
    (u.mode = .ship → ∃ v, exec (.wakeLatchSet t) s = .next v ∧ v.mode = .boot ∧ v.pins.relayOpen = false ∧ v.pins.wakeLatch = true ∧
      v.nat Obj.resetCause = 1 ∧ v.nat Obj.shipCount = (u.nat Obj.shipCount + 1) % 2 ^ 32) ∧
    (u.running = true → ∃ v, exec (.discreteInputUpdate t gd prot) s = .next v ∧ v = { u with pins := v.pins, objs := v.objs } ∧
      v.pins = { u.pins with gdFaultLow := u.pins.gdFaultLow &&& gd.val, protTripLow := u.pins.protTripLow && prot } ∧
      v.nat Obj.discreteInputs2011 = v.discreteNow ∧ (∀ k, k ≠ Obj.discreteInputs2011 → v.nat k = u.nat k)) ∧
    (u.running = false → exec (.discreteInputUpdate t gd prot) s = .next u) ∧
    ∃ v, exec (.cageAssemblyRead t cage optical active mw) s = .next v ∧
      let ok := optical = false ∧ mw ≤ 3500
      let lanes := (List.range 8).map (fun i => 36 + 8 * cage.val + i)
      let w := ({ u with pins := if cage = 0 then { u.pins with cage0 := if ok then 1 else 2 } else { u.pins with cage1 := if ok then 1 else 2 } } : State).forEach
        lanes (fun s n => s.setLane n { s.lane n with cageRefused := decide ¬ok })
      (ok → v = w.forEach lanes (fun s n => if s.laneState n = 0 ∨ (s.laneState n = 4 ∧ (s.lane n).pcs = false) then s.laneStart n else s)) ∧
      let d := w.forEach lanes (fun s n => if s.laneState n = 5 then s else s.laneDrop n 4 7)
      (¬ok → v = d.raise (d.laneBlock (36 + 8 * cage.val)) 9 7 cage.val lvBlock)

/-- R37, R43, R68, R486, R488 to R490, Tables 17.5 and 17.6. The code of tick starvation and the code of cross-link silence are the model's choices (log entry 57). -/
def Obligations.HalvesAreWatchedAndLost : Prop :=
  ∀ (t : Nat) (h : Half) (c : Fin 3) (s : State),
    let u := s.at t
    let i := halfIdx h
    let timed := u.mode ≠ .boot ∧ u.mode ≠ .seed ∧ u.mode ≠ .off ∧ u.mode ≠ .ship
    (u.aliveOn i = true → (8 ≤ u.aliveTicks i ∨ ¬timed) → exec (.aliveToggle t h) s = .next { u with pins := match h with
      | .a => { u.pins with aliveA := !u.pins.aliveA, edgeA := u.now, ticksA := 0 }
      | .b => { u.pins with aliveB := !u.pins.aliveB, edgeB := u.now, ticksB := 0 } }) ∧
    (u.aliveOn i = true → u.aliveTicks i < 8 → timed → exec (.aliveToggle t h) s = .next (u.raise (97 * i + 1) 2 5 0 lvHalf)) ∧
    (u.aliveOn i = false → exec (.aliveToggle t h) s = .next u) ∧
    (u.running = true → u.aliveOn i = true → u.aliveEdge i + 15 * us ≤ u.now → u.halfGone (1 - i) = false →
      exec (.otherHalfAliveTimeout t h) s = .next (u.halfLost i)) ∧
    (u.now < u.aliveEdge i + 15 * us → exec (.otherHalfAliveTimeout t h) s = .next u) ∧
    (u.reacted i = true → u.lost i = false → u.hold.channels ≠ 0 → u.halfGone (1 - i) = false →
      exec (.halfLevelReport t h) s = .next (u.halfLost i)) ∧
    (u.running = true → u.mode ≠ .boot → u.mode ≠ .seed → u.hold.channels = 0 → u.halfGone 0 = false → u.halfGone 1 = false →
      u.hold.silentSince + 30 * us ≤ u.now → u.aliveOn 0 = true → u.now < u.aliveEdge 0 + 15 * us →
      exec (.crossLinkSilence t) s = .next (u.raise (97 + 10) 3 5 0 lvHalf)) ∧
    (u.hold.channels ≠ 0 → exec (.crossLinkSilence t) s = .next u) ∧
    (u.running = true → exec (.oscillatorLost t h) s = .next
      (({ u with pins := match h with
        | .a => { u.pins with oscA := false }
        | .b => { u.pins with oscB := false } } : State).raise (97 * i) 5 9 0 lvHalf)) ∧
    (bitOf u.hold.channels c.val = true → c.val < 2 → ∃ v, exec (.crossLinkDown t c) s = .next v ∧
      v = (u.raise (u.block (if c.val = 0 then 10 else 20)) 3 6 c.val lvBlock true).channelDown c.val ∧ bitOf v.hold.channels c.val = false) ∧
    (bitOf u.hold.channels c.val = false → exec (.crossLinkDown t c) s = .next u) ∧
    (bitOf u.hold.channels c.val = false → c.val < 2 → u.lost 0 = false → u.lost 1 = false → u.reacted 0 = false → u.reacted 1 = false →
      ∃ v, exec (.channelRestored t c) s = .next v ∧ bitOf v.hold.channels c.val = true ∧ v.mode = u.mode ∧ v.pins = u.pins) ∧
    (u.flt.recoveryUntil ≤ u.now → exec (.recoveryWindowEnd t) s = .next { u with flt := { u.flt with recoveryUntil := 0 } }) ∧
    (u.now < u.flt.recoveryUntil → exec (.recoveryWindowEnd t) s = .next u)

/-- R49, R491 steps 2, 3, 5 and 6, R492. The SafeCause of a Hold that ends in Safe is the model's choice (log entry 45). -/
def Obligations.HoldElectsAtMostOneHalf : Prop :=
  ∀ (t : Nat) (s : State),
    let u := s.at t
    (u.mode = .hold → u.hold.phase = 1 → u.hold.tH + 10 * us ≤ u.now → exec (.eligibilityExchange t) s = .next { u with hold := { u.hold with
      phase := 2, eligA := u.healthy 0, eligB := u.healthy 1, cntA := u.unackOf 0, cntB := u.unackOf 1 } }) ∧
    (u.now < u.hold.tH + 10 * us → exec (.eligibilityExchange t) s = .next u) ∧
    (u.mode = .hold → u.hold.phase = 2 → u.hold.tH + 20 * us ≤ u.now →
      let w : State := { u with hold := { u.hold with phase := 3 } }
      let a := u.hold.eligA = true ∧ u.halfGone 0 = false
      let b := u.hold.eligB = true ∧ u.halfGone 1 = false ∧ (u.supUp = true ∨ u.lost 0 = true ∨ u.lost 1 = true)
      (a → (b → u.hold.cntA ≤ u.hold.cntB) → exec (.winnerLatchSet t) s = .next (w.setLatch 0)) ∧
      (b → (a → u.hold.cntB < u.hold.cntA) →
        exec (.winnerLatchSet t) s = .next (w.setLatch 1)) ∧
      (¬a → ¬b → exec (.winnerLatchSet t) s = .next w)) ∧
    (u.mode = .hold → u.hold.phase = 3 → u.hold.tH + 30 * us ≤ u.now → u.holder = 0 →
      let w : State := { u with hold := { u.hold with phase := 4 } }
      (w.holdWinner = some 0 → u.hold.eligB = true → u.supUp = true → u.halfGone 1 = false →
        exec (.fallbackLatchSet t) s = .next (w.setLatch 1)) ∧
      (w.holdWinner = some 1 → u.hold.eligA = true → u.halfGone 0 = false → exec (.fallbackLatchSet t) s = .next (w.setLatch 0)) ∧
      (w.holdWinner = none → exec (.fallbackLatchSet t) s = .next w)) ∧
    (u.mode = .hold → u.hold.tH + 50 * us ≤ u.now → u.holder = 0 → ∃ v, exec (.holdTimeout t) s = .next v ∧ v = u.holdSafe ∧ v.mode ≠ .hold) ∧
    (u.now < u.hold.tH + 50 * us → exec (.holdTimeout t) s = .next u) ∧
    (∀ (w : State), w.hold.latchB = false → (w.setLatch 0).hold.latchA = true ∧ (w.setLatch 0).hold.latchB = false ∧
      (w.setLatch 0).mode = w.mode) ∧
    (∀ (w : State), w.hold.latchA = false → (w.setLatch 1).hold.latchB = true ∧ (w.setLatch 1).hold.latchA = false)

/-- R31, R39 to R41, R445, R489, R501, R503, R508 to R511, Tables 15.3, 17.6, 18.6 and 18.8. -/
def Obligations.PowerDomainsAndLateStarts : Prop :=
  ∀ (t : Nat) (d : Fin 32) (fault : Bool) (s : State),
    let u := s.at t
    let x := d.val
    let b := u.boot
    let spent := b.stage3Time + if b.stageA = 3 ∨ b.stageB = 3 then u.now - b.stage3Since else 0
    (u.running = true → u.reqNow x ≠ 3 → (u.pins.coolantSeated = true ∨ x = 24) → u.halfGone (domHalf x) = false →
      u.blockSafe (domHalf x) 6 = false → ¬(u.mode = .safe ∧ b.thermalLatch = true) →
      exec (.domainOnRequest t d) s = .next ((u.keepReq x 1).domainOn x)) ∧
    (u.reqNow x = 3 → exec (.domainOnRequest t d) s = .next u) ∧
    (u.pins.coolantSeated = false → x ≠ 24 → exec (.domainOnRequest t d) s = .next u) ∧
    (u.running = true → (fault = true ∨ u.reqNow x ≠ 1) →
      exec (.domainOffRequest t d fault) s = .next ((u.keepReq x (if fault then 3 else 2)).domainOff x fault)) ∧
    (u.reqNow x = 1 → exec (.domainOffRequest t d false) s = .next u) ∧
    (u.domState x = 2 → exec (.powerGoodTimeout t d) s = .next
      (if ∀ e ∈ railDoms (domRail x), (u.leftOff x).domState e ≠ 1 ∧ (u.leftOff x).domState e ≠ 2 then (u.leftOff x).stopRail (domRail x) else u.leftOff x)) ∧
    (u.domState x ≠ 2 → exec (.powerGoodTimeout t d) s = .next u) ∧
    (x < 24 → u.domState x = 1 → exec (.domainOutOfRegulation t d) s = .next ((u.raise (97 * domHalf x + 6) 5 9 x lvBlock).domainOff x true)) ∧
    (24 ≤ x → x < 28 → u.domState x = 1 → exec (.domainOutOfRegulation t d) s = .next (u.raise (97 * domHalf x + 6) 5 9 x lvHalf)) ∧
    (28 ≤ x → u.running = true → exec (.domainOutOfRegulation t d) s = .next (u.raise (97 * (x % 2) + 6) 5 9 x lvHalf)) ∧
    (x < 28 → u.domState x ≠ 1 → exec (.domainOutOfRegulation t d) s = .next u) ∧
    (u.mode = .boot → b.inReset = false → b.restartAt = none → b.since + spent + 30 * sec ≤ u.now → exec (.bootTimeout t) s = .next
      (u.bootFail 3 ((if b.stageA = 7 then 0 else 1) + if b.stageB = 7 then 0 else 2) u.bootStageNow)) ∧
    (u.now < b.since + spent + 30 * sec → exec (.bootTimeout t) s = .next u) ∧
    (∀ r, u.mode = .boot → b.restartAt = some r → (r ≤ u.now → exec (.bootRestart t) s = .next ((u.reset_ 4).domainOn 24)) ∧
      (u.now < r → exec (.bootRestart t) s = .next u)) ∧
    (u.energising = true → u.nat Obj.energiseStep = 2 → b.stepSince + 10 * ms ≤ u.now → u.notAnswering ≠ 0 →
      exec (.rectifierAnswerTimeout t) s = .next (u.failEnergise 4 u.notAnswering)) ∧
    (u.energising = true → u.nat Obj.energiseStep = 3 → b.stepSince + u.nat Obj.busSoftStartTimeout * ms ≤ u.now →
      exec (.softStartTimeout t) s = .next (u.failEnergise 5 (u.nat Obj.busVoltage2910 / 1000))) ∧
    (u.busDown = false → b.shutStep = 4 → b.shutSince + u.nat Obj.deenergiseTimeout * ms ≤ u.now →
      exec (.deenergiseTimeout t) s = .next ((u.shutRecord 1 2 b.shutBegan).raise (u.block 2) 6 5 (u.nat Obj.busVoltage2910 / 1000) lvModule)) ∧
    (u.busDown = false → b.shutStep ≠ 4 → b.failStep = 2 → b.failSince + u.nat Obj.deenergiseTimeout * ms ≤ u.now →
      exec (.deenergiseTimeout t) s = .next (u.raise (u.block 2) 6 5 (u.nat Obj.busVoltage2910 / 1000) lvModule)) ∧
    (u.busDown = true → exec (.deenergiseTimeout t) s = .next u)

/-- R31, R68, R498, R499, R504, R553 to R557, Tables 18.1 to 18.4. -/
def Obligations.BootGoesThroughItsStages : Prop :=
  ∀ (t : Nat) (h : Half) (ok : Bool) (failed : List (Fin 97)) (s : State),
    let u := s.at t
    let i := halfIdx h
    let o := 1 - i
    (u.mode ≠ .boot ∨ u.boot.inReset = true ∨ u.boot.restartAt.isSome = true ∨ u.bootOut i = true →
      exec (.bootStageComplete t h ok failed) s = .next u) ∧
    (u.mode = .boot → u.boot.inReset = false → u.boot.restartAt = none → u.bootOut i = false →
      (u.stageOf i = 1 → 3 ≤ (u.romRuns i).failsInWindow.length →
        ∃ v, exec (.bootStageComplete t h ok failed) s = .next v ∧ v = (u.romRuns i).enterSeed ∧ v.mode = .seed) ∧
      (u.stageOf i = 1 → (u.romRuns i).failsInWindow.length < 3 → exec (.bootStageComplete t h ok failed) s = .next
        (match h with
        | .a => ((u.romRuns 0).setStage 0 2).domainOn 24
        | .b => (u.romRuns 1).setStage 1 2)) ∧
      (u.stageOf i = 2 → (u.bootOut o = false ∧ u.stageOf o ≤ 2) →
        let w : State := { u with boot := match h with
          | .a => { u.boot with verifiedA := u.activeHolds i ok }
          | .b => { u.boot with verifiedB := u.activeHolds i ok } }
        (u.activeHolds i ok = true → u.boot.thermalLatch = false → exec (.bootStageComplete t h ok failed) s = .next (w.stage3 i)) ∧
        (u.activeHolds i ok = true → u.boot.thermalLatch = true → exec (.bootStageComplete t h ok failed) s = .next (w.thermalShutdown 255))) ∧
      (u.stageOf i = 3 → exec (.bootStageComplete t h ok failed) s = .next (if u.pins.coolantSeated = true then u.stage4 i else u)) ∧
      (u.stageOf i = 4 → exec (.bootStageComplete t h ok failed) s = .next (if u.domainsComing i = true then u else u.setStage i 5)) ∧
      (u.stageOf i = 5 → ok = true →
        let w := ((failed.foldl (fun x k => x.raise (97 * i + k.val) 2 4 0 lvBlock true) u).stacksUp i).trainChannels
        w.mode = .boot → (match h with | .a => w.boot.verifiedA | .b => w.boot.verifiedB) = true → w.healthyNoSup i = true →
        exec (.bootStageComplete t h true failed) s = .next (w.stage6Enter i)) ∧
      (u.stageOf i = 5 →
        let v := (((failed.foldl (fun x k => x.raise (97 * i + k.val) 2 4 0 lvBlock true) u).raise (97 * i) 2 4 0 lvBlock true).stacksUp i).trainChannels
        let x := v.halfUnusable i
        exec (.bootStageComplete t h false failed) s = .next
          (if v.mode ≠ .boot then v else if x.bootOut o = true then x.bootFail 2 3 (x.boot.firstFail.getD 0) else x)) ∧
      (u.stageOf i = 6 → exec (.bootStageComplete t h ok failed) s = .next (if u.ringsBusy = true then u else (u.setStage i 7).bootEnd))) ∧
    (u.mode = .boot → (∀ k, k < 2 → u.bootOut k = true ∨ u.stageOf k = 7) → (∃ k, k < 2 ∧ u.bootOut k = false) →
      u.bootEnd = ({ u.defineDefaults with pins := { u.defineDefaults.pins with wakeLatch := false } } : State).standDown ∧
      u.bootEnd.mode = .standby ∧ u.bootEnd.hold.latchA = false ∧ u.bootEnd.hold.latchB = false ∧ u.bootEnd.pins.gden = 0)

/-- R325, R336, R350 to R353, R358, R359, R365, R366, R374. -/
def Obligations.PwmPeriodsClampsAndShares : Prop :=
  ∀ (t t0 m : Nat) (n : Fin 48) (k : Fin 2) (s : State),
    let u := s.at t
    let p := u.phase n.val
    let load := fun (i : Nat) (cr : Nat) (cp : Bool) => u.setPhase n.val { p with
      period := i, pr := u.prAt i, cmp := p.cmpNew, counts := u.pwmCounts p.cmpNew (u.prAt i), cut := false, cutRun := cr, cutPeriod := cp }
    let since := if k = 0 then u.conv.shedSince1 else u.conv.shedSince2
    let due := u.conv.clampHeld = false ∧ (5 ≤ u.conv.clampRun1 ∨ 5 ≤ u.conv.clampRun2)
    (u.counting = true → exec (.pwmHalfPeriod t n false) s = .next (load p.period p.cutRun p.cutPeriod)) ∧
    (u.counting = true → exec (.pwmHalfPeriod t n true) s =
      .next ((load (p.period + 1) (if p.cutPeriod then p.cutRun + 1 else 0) false).pwmValley n.val)) ∧
    (u.counting = false → ∀ valley, exec (.pwmHalfPeriod t n valley) s = .next u) ∧
    (∀ (w : State), (w.phase n.val).active = true → (w.phase n.val).shedNext = true →
      ((w.pwmValley n.val).phase n.val).active = false ∧ ((w.pwmValley n.val).phase n.val).shed = true) ∧
    (∀ d pr, d ≤ 16384 → pr ≤ 8000 → u.pwmCounts d pr ≤ pr ∧
      (u.nat Obj.minPulse = 0 → u.pwmCounts d pr = (d * pr + 8192) / 16384)) ∧
    (due → exec (.clampHeldAssert t) s = .next ((({ u with conv := { u.conv with clampHeld := true } } : State).setNat Obj.clampHeld 1).reserveInput)) ∧
    (¬due → exec (.clampHeldAssert t) s = .next u) ∧
    (u.eng.reserveClear = some t0 → t0 + 10 * ms ≤ u.now →
      exec (.reserveEnd t) s = .next { u with eng := { u.eng with reserve := false, reserveClear := none } }) ∧
    (u.eng.reserveClear = some t0 → u.now < t0 + 10 * ms → exec (.reserveEnd t) s = .next u) ∧
    (∃ v, exec (.stringShareUpdate t) s = .next v ∧ v = u.updateShares.refreshClamps ∧
      (u.isS2 = false → v.eng.w1 = 32768 ∧ v.eng.w2 = 0) ∧ (u.isS2 = true → v.eng.w1 + v.eng.w2 = 32768) ∧
      v = { u with eng := { u.eng with w1 := v.eng.w1, w2 := v.eng.w2 }, objs := v.objs, conv := v.conv }) ∧
    (since = some t0 → u.shedCondition k.val = true → t0 + u.nat Obj.shedDelay2A00 * us ≤ u.now → u.longestActive k.val = some m →
      let w := (u.setPhase m { u.phase m with shedNext := true }).count Obj.phaseSheds
      exec (.phaseShed t k) s = .next { w with conv :=
        if k = 0 then { w.conv with shedSince1 := some u.now } else { w.conv with shedSince2 := some u.now } }) ∧
    (since = none → exec (.phaseShed t k) s = .next u) ∧
    (u.hold.latchA = false → u.hold.latchB = false → u.hold.noneSince + 600 ≤ u.now →
      exec (.muxHoldExpiry t) s = .next { u with conv := { u.conv with mux := 0 } }) ∧
    (u.hold.latchA = true ∨ u.hold.latchB = true → exec (.muxHoldExpiry t) s = .next u) ∧
    exec (.muxChangeover t) s = .next { u with conv := { u.conv with mux :=
      match u.hold.latchA, u.hold.latchB with
      | true, true => 0
      | true, false => 1
      | false, true => 2
      | false, false => u.conv.mux } }

/-- R363, R364, R366, R372, Table 12.1, Table 17.5. -/
def Obligations.ConverterProtectionsAct : Prop :=
  ∀ (t : Nat) (n : Fin 48) (k ch : Fin 2) (b : Fin 6) (c : Fin 54) (positive : Bool) (s : State),
    let u := s.at t
    let p := u.phase n.val
    let idle : State := u.gdenOff
    let marked : State := ({ u with conv := { u.conv with streamFault := setBit u.conv.streamFault c.val true } } : State).count (Obj.streamFaults c.val)
    let gd : State := { u with pins := { u.pins with gdFaultLow := setBit u.pins.gdFaultLow b.val true } }
    (u.pwmLive = true → p.active = true → p.cut = false → exec (.cycleByCycleLimit t n positive) s = .next
      (((u.setPhase n.val { p with cut := true, cutPeriod := true, cutHigh := !positive }).count Obj.cbcEvents).event
        (u.block 2) 8 n.val)) ∧
    (u.pwmLive = true → p.active = true → 7 ≤ p.cutRun → p.cutPeriod = true → ∃ v, exec (.persistentCurrentLimit t n) s = .next v ∧
      v = ((u.faultPhase n.val).refreshClamps).raise (u.block 2) 6 8 n.val lvBlock ∧
      ((u.faultPhase n.val).phase n.val).faulted = true ∧ ((u.faultPhase n.val).phase n.val).active = false) ∧
    (p.active = false → exec (.cycleByCycleLimit t n positive) s = .next u ∧ exec (.persistentCurrentLimit t n) s = .next u) ∧
    (u.pwmLive = true → (u.str k.val).conn ≠ .precharging →
      let w := u.dropString k.val false 9
      exec (.stringOverCurrent t k) s = .next (w.raise (w.block 2) 6 8 (k.val + 1) lvBlock)) ∧
    (u.pwmLive = true → bitOf u.conv.streamFault (52 + ch.val) = false →
      exec (.busOverVoltage t ch) s = .next (idle.raise (u.block 2) 6 8 (52 + ch.val) lvModule)) ∧
    (u.pwmLive = true → u.conv.uvArmed = true → ¬(bitOf u.conv.streamFault 52 = true ∧ bitOf u.conv.streamFault 53 = true) → u.mode ≠ .standby →
      exec (.busUnderVoltage t) s = .next (idle.raise (u.block 2) 6 8 0 lvModule)) ∧
    (u.conv.uvArmed = false → exec (.busUnderVoltage t) s = .next u) ∧
    (u.pwmLive = false → exec (.gateDriverFault t b) s = .next gd ∧ exec (.stringOverCurrent t k) s = .next u ∧
      exec (.busOverVoltage t ch) s = .next u) ∧
    (u.pwmLive = true →
      let w : State := { gd with pins := { gd.pins with gden := setBit gd.pins.gden b.val false } }
      let x := (w.forEach ((List.range 8).map (8 * b.val + ·)) State.faultPhase).refreshClamps
      exec (.gateDriverFault t b) s = .next (x.raise (x.block 2) 6 7 b.val lvBlock)) ∧
    (u.counting = true → bitOf u.conv.streamFault c.val = false → u.pwmLive = false → exec (.streamFault t c) s = .next marked) ∧
    (u.counting = true → bitOf u.conv.streamFault c.val = false → u.pwmLive = true → c.val < 48 →
      exec (.streamFault t c) s = .next (((marked.faultPhase c.val).refreshClamps).raise (u.block 3) 4 7 c.val lvBlock)) ∧
    (u.counting = true → u.pwmLive = true → 52 ≤ c.val → bitOf u.conv.streamFault c.val = false → exec (.streamFault t c) s = .next
      (if bitOf marked.conv.streamFault 52 = true ∧ bitOf marked.conv.streamFault 53 = true then marked.gdenOff.raise (u.block 3) 4 7 c.val lvModule
       else marked.raise (u.block 3) 4 7 c.val lvBlock)) ∧
    (bitOf u.conv.streamFault c.val = true → exec (.streamFault t c) s = .next u)

/-- R368 to R373. -/
def Obligations.ContactorsConnectAndOpenStrings : Prop :=
  ∀ (t : Nat) (k : Fin 2) (c : Contactor) (s : State),
    let u := s.at t
    let i := k.val
    let x := u.str i
    let drive := match c with | .neg => x.negDrive | .pos => x.posDrive | .pre => x.preDrive
    let read := fun (closed : Bool) => u.setStr i (match c with
      | .neg => { x with negFb := closed }
      | .pos => { x with posFb := closed }
      | .pre => { x with preFb := closed })
    let late := fun (since : Nat) => since + u.nat (Obj.openTimeout (i + 1)) * ms ≤ u.now
    (drive = true → x.conn = .precharging → c = .neg → x.step = 2 → exec (.contactorFeedbackChange t k c true) s = .next
      (((read true).setStr i { x with negFb := true, step := 3, stepSince := u.now }).driveClosed i .pre)) ∧
    (drive = true → x.conn = .precharging → c = .pos → x.step = 5 →
      let w := ((read true).connectDone i).goConnect
      exec (.contactorFeedbackChange t k c true) s = .next (if (w.str i).conn = .connected then w.joinString i else w)) ∧
    (drive = true → x.conn = .precharging → c = .pre → x.step = 3 → exec (.contactorFeedbackChange t k c true) s = .next
      ((read true).setStr i { x with preFb := true, step := 4, preSince := u.now })) ∧
    (drive = false → x.conn = .opening → exec (.contactorFeedbackChange t k c true) s = .next (read true)) ∧
    (drive = false → x.conn ≠ .opening → exec (.contactorFeedbackChange t k c true) s = .next ((read true).weld i)) ∧
    (x.conn = .opening → exec (.contactorFeedbackChange t k c false) s = .next (((read false).advanceOpening i).wayDown)) ∧
    (x.conn ≠ .opening → exec (.contactorFeedbackChange t k c false) s = .next (read false)) ∧
    (x.step = 2 ∨ x.step = 3 ∨ x.step = 5 → x.stepSince + u.nat (Obj.closeTimeout (i + 1)) * ms ≤ u.now →
      exec (.closeTimeout t k) s = .next (u.connectFault i 1)) ∧
    (x.step ≠ 2 → x.step ≠ 3 → x.step ≠ 5 → exec (.closeTimeout t k) s = .next u) ∧
    (x.step = 4 → x.check1Done = false → x.preSince + u.nat (Obj.prechargeCheckTime1 (i + 1)) * ms ≤ u.now →
      exec (.prechargeCheck1 t k) s = .next
        (let w := u.setStr i { x with check1Done := true }
         if u.vConvAtLeast i (u.nat (Obj.prechargeLevel1 (i + 1))) (u.vStackNow i) = true then w.tickMatch i else w.connectFault i 2)) ∧
    (x.step = 4 → x.check2Done = false → x.preSince + u.nat (Obj.prechargeCheckTime2 (i + 1)) * ms ≤ u.now →
      exec (.prechargeCheck2 t k) s = .next
        (let w := u.setStr i { x with check2Done := true }
         if u.vConvAtLeast i (u.nat (Obj.prechargeLevel2 (i + 1))) (u.vStackNow i) = true then w.tickMatch i else w.connectFault i 4)) ∧
    (x.step = 4 → x.preSince + u.nat (Obj.prechargeTimeout (i + 1)) * ms ≤ u.now → exec (.prechargeTimeout t k) s = .next
      (if ((u.tickMatch i).str i).step = 4 then (u.tickMatch i).connectFault i 5 else u.tickMatch i)) ∧
    (x.step ≠ 4 → exec (.prechargeCheck1 t k) s = .next u ∧ exec (.prechargeCheck2 t k) s = .next u ∧ exec (.prechargeTimeout t k) s = .next u) ∧
    (x.openStep = 1 → x.openSince + 20 * ms ≤ u.now → exec (.breakWaitTimeout t k) s = .next
      ((((if u.nat (Obj.contactorBreakCurrent (i + 1)) < (u.num (Obj.value (48 + i))).natAbs then u.count (Obj.operationsUnderLoad (i + 1)) else u).setStr i
        { x with openStep := 2, openSince := u.now, posDrive := false, preDrive := false }).advanceOpening i).wayDown)) ∧
    (x.openStep ≠ 1 → exec (.breakWaitTimeout t k) s = .next u) ∧
    ((x.openStep = 2 ∧ (x.posFb = true ∨ x.preFb = true) ∧ late x.openSince) ∨ (x.openStep = 3 ∧ x.negFb = true ∧ late x.openSince) ∨
        (x.conn = .connected ∧ x.preDrive = false ∧ x.preFb = true ∧ late x.stepSince) →
      exec (.openTimeout t k) s = .next (u.weld i)) ∧
    (x.negFb = false → x.posFb = false → x.preFb = false → exec (.openTimeout t k) s = .next u)

/-- R315, R317, R320, R321, R323, R324, R51, Table 11.2. -/
def Obligations.ControlTickRunsTheLoop : Prop :=
  ∀ (t w : Nat) (inp : TickIn) (i : Fin 64) (s : State),
    let u := s.at t
    let due := fun (e : Nat × Int) => decide (e.1 / 2 + u.nat Obj.rectifierLag * us ≤ u.now)
    let base := u.eng.hoBase + sumI ((u.eng.handovers.filter due).map (·.2))
    (u.counting = true →
      let a := u.transferTick.computeTick inp
      let b := (a.energyTick.forEach a.operated State.chargeTick).judgeChange.judgeRatings u.eng.rack
      let c := ((b.forEach b.operated State.shedTick).softTick).forEach b.operated State.contactorTick
      exec (.controlTick t inp) s = .next ((c.wayDown.compareTick inp).latchTick inp.readA inp.readB)) ∧
    (u.counting = false → exec (.controlTick t inp) s = .next u) ∧
    (∀ (c h : Inst) (ref fb : Int), c.omin ≤ c.omax →
      let e := sat32 (ref - fb)
      let term := fun (k x : Int) (j : Nat) =>
        (k * x + if c.shifts / 2 ^ (5 * j) % 32 = 0 then 0 else 2 ^ (c.shifts / 2 ^ (5 * j) % 32 - 1)) / 2 ^ (c.shifts / 2 ^ (5 * j) % 32)
      let acc := term c.b0 e 0 + term c.b1 h.e1 1 + term c.b2 h.e2 2 + term c.a1 h.u1 4 + term c.a2 h.u2 5 +
        if c.kind = 2 then term c.b3 h.e3 3 + term c.a3 h.u3 6 else 0
      (c.compute h ref fb).1 = { h with e0 := e, e1 := e, e2 := h.e1, e3 := h.e2, u1 := clampI c.omin c.omax (sat32 acc), u2 := h.u1, u3 := h.u2 } ∧
      c.omin ≤ (c.compute h ref fb).1.u1 ∧ (c.compute h ref fb).1.u1 ≤ c.omax ∧
      ((c.compute h ref fb).2 = true ↔ clampI c.omin c.omax (sat32 acc) ≠ acc)) ∧
    (-(u.clampNow false : Int) ≤ u.loopTick.num Obj.converterPowerRef2910 ∧ u.loopTick.num Obj.converterPowerRef2910 ≤ (u.clampNow true : Int)) ∧
    exec (.handoverInjection t) s = .next { u with eng := { u.eng with
      handovers := u.eng.handovers.filter (fun e => !due e), hoBase := base, hoPend := u.eng.hoPend - (watts base - watts u.eng.hoBase) } } ∧
    (u.mode = .ready ∨ u.mode = .shaping → ∃ v, exec (.releaseFeedforward t w) s = .next v ∧ v.eng = { u.eng with relPend := u.eng.relPend + w } ∧
      v = { u with eng := v.eng, conv := v.conv } ∧ v.conv = { u.conv with phases := v.conv.phases }) ∧
    (u.mode ≠ .ready → u.mode ≠ .shaping → exec (.releaseFeedforward t w) s = .next u) ∧
    (∀ e, u.eng.commits.find? (fun e => e.1 = i.val) = some e →
      (e.2 + 2 * us ≤ u.now →
        let x : State := { u with eng := { u.eng with commits := u.eng.commits.filter (fun e => e.1 != i.val) } }
        exec (.instanceSwap t i) s = .next ((x.setInst i.val (x.staged i.val)).setNat (Obj.commit i.val) 0)) ∧
      (u.now < e.2 + 2 * us → exec (.instanceSwap t i) s = .next u))

/-- R328, R329, R331, R332, R335, R509. That bus-off has no reaction but its recovery is the model's reading (log entry 51); the soft start's request law is free (log entry 50). -/
def Obligations.SetpointFramesKeepTheRampLimit : Prop :=
  ∀ (t t0 id : Nat) (b : Fin 2) (r : Fin 12) (differ fd : Bool) (bytes : List Nat) (s : State),
    let u := s.at t
    let w := if differ = true ∧ u.shadowing = true then u.mismatch else u
    let after := fun (x : State) => if x.showCmd.boot.shutStep = 2 ∧ x.showCmd.cmdZero = true then x.showCmd.shutOpen.wayDown else x.showCmd.wayDown
    let x := u.bus b.val
    let shown := if b.val = 0 then Obj.limiterStateA else Obj.limiterStateB
    ((u.counting && u.framing) = true →
      (u.mode = .safe → exec (.setpointFrame t differ) s = .next (after w.safeFrame)) ∧
      (u.energising = true → exec (.setpointFrame t differ) s = .next (after w.startFrame)) ∧
      (u.mode = .standby → u.energising = false → exec (.setpointFrame t differ) s = .next (after w.failFrame)) ∧
      (u.mode = .ready ∨ u.mode = .shaping → exec (.setpointFrame t differ) s = .next (after w.planFrame))) ∧
    ((u.counting && u.framing) = false → exec (.setpointFrame t differ) s = .next u) ∧
    (∀ (l v imax pPrev m0 m1 i : Nat), 0 < v →
      (limTry (limStep l) v imax pPrev m1 i).isSome = true ∨ (limTry (limStep l) v imax pPrev m0 i).isSome = true →
      let o := limVal l v imax pPrev m0 m1 i
      o.p = popMask o.mask * o.i * v ∧ pPrev ≤ o.p + l * 250000 ∧ o.p ≤ pPrev + l * 250000 ∧ o.i ≤ imax ∧
      (o.mask = m1 ∨ (o.mask = m0 ∧ o.deferred = true)) ∧ (o.clamped = true ↔ o.i ≠ i)) ∧
    (x.sent = true → ∃ v, exec (.setpointFrameError t b) s = .next v ∧
      v.bus b.val = { x with pPrev := x.pOld, maskPrev := x.maskOld, sent := false, zeroSent := x.zeroSent && x.pOld = 0 } ∧
      v.nat shown = x.pOld ∧ v.nat Obj.setpointFramesLost = (u.nat Obj.setpointFramesLost + 1) % 2 ^ 32 ∧ v = { u with eng := v.eng, objs := v.objs }) ∧
    (x.sent = false → exec (.setpointFrameError t b) s = .next u) ∧
    (u.counting = true → (fd = false ∨ bytes.length ≠ 8 ∨ id < 0x100 ∨ 0x10C ≤ id ∨ (id - 0x100) / 6 ≠ b.val ∨ listGet 0 bytes 1 % 16 ≠ 0) →
      exec (.rectifierReport t b fd id bytes) s = .next (u.count Obj.canFramesIgnored)) ∧
    (u.counting = true → fd = true → bytes.length = 8 → id = 0x100 + r.val → r.val / 6 = b.val → listGet 0 bytes 1 % 16 = 0 →
      (u.rect r.val).owed = true → u.now ≤ x.sof + 85600 →
      let y := u.rect r.val
      let p := divRound ((beNat (slice bytes 2 2) * beNat (slice bytes 4 4) : Nat) : Int) 100000
      let z := (u.setRect r.val { y with power := p, status := listGet 0 bytes 1, fault := bitOf (listGet 0 bytes 1) 7, missed := false }).setBlob (Obj.rectifierReport r.val) bytes
      exec (.rectifierReport t b fd id bytes) s =
        .next ((z.publish (0x24 + r.val) p).judgeReport r.val (decide (listGet 0 bytes 0 = y.owedCounter) && !bitOf (listGet 0 bytes 1) 7))) ∧
    ((u.rect r.val).owed = true → (u.bus (r.val / 6)).sof + 85600 ≤ u.now →
      exec (.reportDeadline t r) s = .next (((u.setRect r.val { u.rect r.val with missed := true }).count (Obj.missedReports r.val)).judgeReport r.val false)) ∧
    ((u.rect r.val).owed = false → exec (.reportDeadline t r) s = .next u) ∧
    (x.busOff = false → exec (.canBusOff t b) s = .next
      (((u.setBus b.val { x with busOff := true }).count Obj.busOffEvents).raise (97 * x.owner + 9) 3 6 b.val lvBlock)) ∧
    exec (.busOffRecovery t b) s = .next (u.setBus b.val { x with busOff := false }) ∧
    (u.boot.softSince = some t0 → u.energising = true → u.nat Obj.energiseStep = 3 → t0 + 10 * ms ≤ u.now →
      let z := u.setNat Obj.energiseStep 4
      exec (.softStartComplete t) s =
        .next (({ z with conv := { z.conv with uvArmed := true }, boot := { z.boot with stepSince := z.now } } : State).goConnect)) ∧
    (u.boot.softSince = none → exec (.softStartComplete t) s = .next u)

/-- R24, R25, R430, R504, R508, R511, R516, Table 1.8. -/
def Obligations.ModuleRequestsChangeTheMode : Prop :=
  ∀ (t : Nat) (role : Role) (s : State),
    let u := s.at t
    let k := Obj.moduleRequest
    let ok := fun (v : Nat) => u.accepts role k (numBytes k v)
    let free := u.nat k = 0
    let no := Host.Outcome.next (φ := Fault) (ρ := Refusal) (u.declined k 0x08000022)
    let shared := u.domsWhere (fun d => d.state = 3)
    (ok 1 → u.mode = .standby → free → u.energiseRefused = false → exec (.energise t role) s = .next (u.energiseBegin.applied role k)) ∧
    (ok 1 → (u.mode ≠ .standby ∨ ¬free ∨ u.energiseRefused = true) → exec (.energise t role) s = no) ∧
    (ok 2 → u.mode = .ready → free → exec (.shape t role) s = .next (({ u with mode := .shaping } : State).applied role k)) ∧
    (ok 2 → (u.mode ≠ .ready ∨ ¬free) → exec (.shape t role) s = no) ∧
    (ok 3 → u.mode = .shaping → free → exec (.unshape t role) s = .next ((({ u with mode := .ready } : State).flushPending).applied role k)) ∧
    (ok 3 → (u.mode ≠ .shaping ∨ ¬free) → exec (.unshape t role) s = no) ∧
    (ok 4 → (u.mode = .ready ∨ u.mode = .shaping) → free → (role = .service ∨ shared = []) →
      exec (.deEnergise t role) s = .next (u.shutBegin.applied role k)) ∧
    (ok 4 → ((u.mode ≠ .ready ∧ u.mode ≠ .shaping) ∨ ¬free ∨ (role ≠ .service ∧ shared ≠ [])) → exec (.deEnergise t role) s = no) ∧
    (ok 5 → u.mode = .standby → free → u.stack.cal.string = 0 → u.pins.wakeLatch = false → (role = .service ∨ u.socShort = false) →
      exec (.ship t role) s = .next (u.shipBegin.applied role k)) ∧
    (ok 5 → (u.mode ≠ .standby ∨ u.pins.wakeLatch = true) → exec (.ship t role) s = no) ∧
    (ok 6 → (u.mode = .seed ∨ (u.mode = .safe ∧ u.busDown = true ∧ u.boot.thermalLatch = false)) →
      exec (.restartFromSeedOrSafe t role) s = .next ((u.reset_ 3).applied role k)) ∧
    (ok 6 → u.mode ≠ .seed → (u.mode ≠ .safe ∨ u.busDown = false ∨ u.boot.thermalLatch = true) → exec (.restartFromSeedOrSafe t role) s = no)

/-- R51, R317, R347, R366, R373. That the re-arm needs every one of the eight channels to be read is the model's reading (log entry 58). -/
def Obligations.EngineCommandsAndTrace : Prop :=
  ∀ (t n : Nat) (role : Role) (i : Fin 64) (k : Fin 2) (c : Fin 8) (s : State),
    let u := s.at t
    let q := u.eng.trace
    let tc := Obj.traceControl
    let lc := Obj.lockoutClear (k.val + 1)
    let at_ := Obj.authorityTransferRequest
    let vs := (List.range 8).map (fun c => u.traceValue (u.nat (Obj.channelSource c)))
    let x := u.str k.val
    let p := u.phase n
    (u.accepts role (Obj.commit i.val) (numBytes (Obj.commit i.val) 1) → exec (.instanceCommit t role i) s = .next
      (({ u.setNat (Obj.commit i.val) 1 with eng := { u.eng with commits := (i.val, u.now) :: u.eng.commits.filter (fun e => e.1 != i.val) } } : State).applied
        role (Obj.commit i.val))) ∧
    (u.accepts role tc (numBytes tc 0) →
      exec (.traceStop t role) s = .next (({ u.setNat tc 0 with eng := { u.eng with trace := { q with state := 0 } } } : State).applied role tc)) ∧
    (u.accepts role tc (numBytes tc 1) → exec (.traceArmSingle t role) s = .next (((u.setNat tc 1).traceArm false).applied role tc)) ∧
    (u.accepts role tc (numBytes tc 2) → exec (.traceArmNormal t role) s = .next (((u.setNat tc 2).traceArm true).applied role tc)) ∧
    (u.accepts role tc (numBytes tc 3) → exec (.traceForceTrigger t role) s = .next
      (({ u.setNat tc 3 with eng := { u.eng with trace := { q with forced := q.forced || q.state = 2 } } } : State).applied role tc)) ∧
    (u.accepts role Obj.phaseClear (numBytes Obj.phaseClear n) → n < 48 → bitOf u.pins.gdFaultLow (n / 8) = false → bitOf u.conv.streamFault n = false →
      p.faulted = true → u.mode = .standby →
      exec (.phaseClear t role n) s = .next (((u.setPhase n { p with faulted := false, readd := false }).refreshClamps).applied role Obj.phaseClear)) ∧
    (u.accepts role Obj.phaseClear (numBytes Obj.phaseClear n) → n < 48 → (bitOf u.pins.gdFaultLow (n / 8) = true ∨ bitOf u.conv.streamFault n = true) →
      exec (.phaseClear t role n) s = .next (u.declined Obj.phaseClear 0x08000022)) ∧
    (u.accepts role lc (numBytes lc 1) → x.conn = .lockedOut → x.negFb = false → x.posFb = false → x.preFb = false →
      exec (.lockoutClear t role k 1) s = .next ((u.setStr k.val { x with conn := .opened, lockCause := 0, failCause := 0 }).applied role lc)) ∧
    (u.accepts role lc (numBytes lc 1) → (x.conn ≠ .lockedOut ∨ x.negFb = true ∨ x.posFb = true ∨ x.preFb = true) →
      exec (.lockoutClear t role k 1) s = .next (u.declined lc 0x08000022)) ∧
    (u.accepts role at_ (numBytes at_ 1) → (u.mode = .ready ∨ u.mode = .shaping) → u.holder ≠ 0 → u.healthy (2 - u.holder) = true → u.hold.transferTo = 0 →
      exec (.authorityTransferRequest t role 1) s = .next (({ u with hold := { u.hold with transferTo := 3 - u.holder } } : State).applied role at_)) ∧
    (u.accepts role at_ (numBytes at_ 1) → (u.mode ≠ .ready ∧ u.mode ≠ .shaping ∨ u.holder = 0 ∨ u.healthy (2 - u.holder) = false) →
      exec (.authorityTransferRequest t role 1) s = .next (u.declined at_ 0x08000022)) ∧
    (q.state = 1 → exec (.traceSample t) s = .next { u with eng := { u.eng with trace := { q with
      last := vs.getD (u.nat Obj.triggerSource % 256 % 8) 0, mark := u.traceMark, event := false, data := (q.data.zip vs).map (fun e => e.1 ++ [e.2])
      count := q.count + 1, state := if u.nat Obj.preTrigger ≤ q.count + 1 then 2 else 1 } } }) ∧
    (q.state = 0 → exec (.traceSample t) s = .next u) ∧
    (q.state = 4 → (setBit q.readMask c.val true = 255 ∧ q.normal = true → exec (.traceRearm t c) s = .next (u.traceArm true)) ∧
      (¬(setBit q.readMask c.val true = 255 ∧ q.normal = true) →
        exec (.traceRearm t c) s = .next { u with eng := { u.eng with trace := { q with readMask := setBit q.readMask c.val true } } })) ∧
    (q.state ≠ 4 → exec (.traceRearm t c) s = .next u)

/-- R444, R482, R486, R487, R580, Tables 17.2, 17.5 and 17.5a. -/
def Obligations.FaultsAreAcknowledgedAndBlocksTested : Prop :=
  ∀ (t : Nat) (role : Role) (b : Fin 194) (r : Fin 16) (pass echoed : Bool) (s : State),
    let u := s.at t
    let x := b.val
    let ka := Obj.acknowledge x
    let kb := Obj.blockCommand x
    let kr := Obj.railClear r.val
    let one := fun (k : Nat) => u.accepts role k (numBytes k 1)
    let idle := ∀ d ∈ railDoms r.val, u.domState d ≠ 1 ∧ u.domState d ≠ 2
    (one ka → exec (.blockAcknowledge t role b 1) s = .next ((u.ackBlock x).applied role ka)) ∧
    (∀ (w : State), (w.ackBlock x).nat (Obj.unacknowledged x) = 0 ∧ (∀ c, c < 16 → (w.ackBlock x).unackCls x c = 0) ∧
      (∀ e ∈ (w.ackBlock x).queue x, e.unack = false) ∧ (∀ y, y ≠ x → (w.ackBlock x).queue y = w.queue y) ∧
      w.ackBlock x = { w with flt := (w.ackBlock x).flt, objs := (w.ackBlock x).objs }) ∧
    (one Obj.acknowledgeAll2F00 → exec (.acknowledgeAll t role 1) s = .next
      ((u.forEach ((List.range 194).filter (fun b => u.nat (Obj.unacknowledged b) ≠ 0)) State.ackBlock).applied role Obj.acknowledgeAll2F00)) ∧
    (one kb → commandNamed x = true → u.nat (Obj.blockState x) = 2 → (commandIdle x = false ∨ u.mode = .standby ∨ u.mode = .ready) →
      let w := (u.setNat (Obj.blockState x) 4).setNat kb 1
      exec (.blockReturnToService t role b 1) s =
        .next (({ w with flt := { w.flt with tests := smPut w.flt.tests x (w.now + 1) } } : State).applied role kb)) ∧
    (one kb → (commandNamed x = false ∨ u.nat (Obj.blockState x) ≠ 2) →
      exec (.blockReturnToService t role b 1) s = .next (u.declined kb 0x08000022)) ∧
    (one kr → u.mode = .standby → idle → (u.nat (Obj.railState r.val) = 4 ∨ u.nat (Obj.railState r.val) = 5) →
      exec (.railClear t role r 1) s = .next
        (((u.setNat (Obj.railState r.val) 0).setRail r.val { u.rail r.val with hiccups := [], retryAt := none }).applied role kr)) ∧
    (one kr → u.mode ≠ .standby → exec (.railClear t role r 1) s = .next (u.declined kr 0x08000022)) ∧
    (u.nat (Obj.blockState x) ≠ 4 → exec (.blockTestComplete t b pass) s = .next u) ∧
    (u.nat (Obj.blockState x) = 4 →
      let w := u.setNat (Obj.blockState x) 1
      let f := (u.setNat (Obj.blockState x) 2).raise x 2 4 0 lvBlock
      let ended := fun (y : State) => ({ y with flt := { y.flt with tests := smErase y.flt.tests x } } : State).setNat kb 0
      exec (.blockTestComplete t b true) s = .next (((ended w).openRecovery sec).blockReturn (x / 97) (x % 97)) ∧
      exec (.blockTestComplete t b false) s = .next (ended f)) ∧
    ((echoed = true ∨ u.nat (Obj.blockState x) ≠ 1) → exec (.interruptTestPulse t b echoed) s = .next u) ∧
    (u.nat (Obj.blockState x) = 1 → exec (.interruptTestPulse t b false) s = .next (u.raise x 8 10 0 lvBlock true))

/-- R523, R526, R528, R529, R532, R536, Table 19.4. -/
def Obligations.DictionaryWritesApplyWholeOrNotAtAll : Prop :=
  ∀ (t idx sub : Nat) (path : Path) (role : Role) (b : List Nat) (vals : List (Nat × List Nat)) (c : StoredCfg) (s : State),
    let u := s.at t
    let key := idx * 256 + sub
    let l := vals.map (fun e => (idx, e.1, e.2))
    let rows := (rowsOf idx).filter (fun r => decide (r.idxLo ≤ idx ∧ idx ≤ r.idxHi))
    (path ≠ .broadcast → u.served path = true → u.writeRefused role [] idx sub b ≠ 0 →
      exec (.registerWrite t path role idx sub b) s = .next (u.declined key (u.writeRefused role [] idx sub b % 2 ^ 32))) ∧
    (path ≠ .broadcast → u.served path = true → u.writeRefused role [] 0x2900 1 b = 0 → u.stateRefused 0x2900 1 (leNat b) = false →
      exec (.registerWrite t path role 0x2900 1 b) s = .next (((u.setNat Obj.rampLimit2900 (leNat b)).noteWrite path 0x2900 1).emit (.answer 0 Obj.rampLimit2900))) ∧
    (∀ (w : State),
      (w.noteWrite path idx sub).nat Obj.writeSequence = (w.nat Obj.writeSequence + 1) % 2 ^ 32 ∧
      (w.noteWrite path idx sub).blob Obj.lastWrite =
        leBytes 4 ((w.nat Obj.writeSequence + 1) % 2 ^ 32) ++ leBytes 2 idx ++ [sub, pathCode path] ++ leBytes 8 (w.hall % 2 ^ 64)) ∧
    (u.served path = false → exec (.registerWrite t path role idx sub b) s = .next u) ∧
    (u.served .broadcast = true → ∃ v, exec (.registerWrite t .broadcast role idx sub b) s = .next v ∧ v = u.broadcastWrite role idx sub b) ∧
    (u.served .coe = true → rows ≠ [] → (∀ r ∈ rows, r.cmd = false) → preopOnly idx = false → u.setRefused role l = none →
      exec (.completeAccessWrite t role idx vals) s = .next (((u.applySet l).noteWrite .coe idx 0).emit (.answer 0 (idx * 256)))) ∧
    (∀ e, u.served .coe = true → rows ≠ [] → (∀ r ∈ rows, r.cmd = false) → u.setRefused role l = some e →
      exec (.completeAccessWrite t role idx vals) s = .next (u.declined (idx * 256 + e.2.2) (e.1 % 2 ^ 32))) ∧
    (∀ n, u.accepts role Obj.storeParameters (numBytes Obj.storeParameters n) →
      (u.dict.storing = none → exec (.storeParameters t role n) s = .next (u.storeBegin false)) ∧
      (u.dict.storing = some c → exec (.storeParameters t role n) s = .next (u.declined Obj.storeParameters 0x08000022))) ∧
    (∀ n, u.accepts role Obj.restoreDefaults (numBytes Obj.restoreDefaults n) → u.dict.storing = none → exec (.restoreDefaults t role n) s = .next
      (({ u with dict := { u.dict with storedA := none, storedB := none } } : State).applied role Obj.restoreDefaults)) ∧
    (u.dict.storing = some c → ∃ v, exec (.storeComplete t) s = .next v ∧ v.dict.storing = none ∧ v.dict.storeFoe = false ∧
      (v.dict.storedA = some c ∨ v.dict.storedB = some c) ∧
      (∀ a b, u.dict.storedA = some a → u.dict.storedB = some b →
        (a.seq ≤ b.seq → v.dict.storedA = some c ∧ v.dict.storedB = some b) ∧ (b.seq < a.seq → v.dict.storedA = some a ∧ v.dict.storedB = some c))) ∧
    (u.dict.storing = none → exec (.storeComplete t) s = .next u) ∧
    (u.served .coe = true → exec (.sdoInformation t role) s = .next (u.emit (.sdoInfo (accessList role)))) ∧
    (u.served .process = true → u.mode ≠ .seed → u.dict.esc ≠ .op → ∃ v, exec (.processDataRefresh t b) s = .next v ∧
      v = { u with objs := v.objs } ∧ v.nat Obj.sampleTime = u.hall ∧ v.num Obj.rackLoad = u.eng.rack ∧
      ∀ e ∈ inputSources, v.num (0x600000 + e.1) = u.readNum (e.2 / 256) (e.2 % 256)) ∧
    (u.mode = .seed → exec (.processDataRefresh t b) s = .next u)

/-- R240, R521, R522, R545, R546, Tables 19.2 and 19.13. -/
def Obligations.EtherCatStatesAndFiles : Prop :=
  ∀ (t pw : Nat) (req : EscState) (k : Fin 16) (role : Role) (b : List Nat) (c : StoredCfg) (s : State),
    let u := s.at t
    let foe := fun (n : Nat) => Host.Outcome.next (φ := Fault) (ρ := Refusal) (u.emit (.foe n []))
    let r := parseRecords (leNat (slice b 8 4)) (b.drop 16)
    (u.running = true → u.escPermitted req = true →
      exec (.escStateRequest t req) s = .next { u with dict := { u.dict with esc := req, alStatus := 0 } }) ∧
    (u.running = true → u.escPermitted req = false → ∃ v, exec (.escStateRequest t req) s = .next v ∧ v.dict.esc = u.dict.esc ∧
      v = ({ u with dict := { u.dict with alStatus := 0x0011 } } : State).emit (.alStatus 0x0011)) ∧
    (u.running = false → exec (.escStateRequest t req) s = .next u) ∧
    (u.mode = .ready → u.escPermitted .op = true ∧ u.escPermitted .boot = false) ∧
    (u.mode = .seed → u.escPermitted .boot = true ∧ u.escPermitted .preop = true ∧ u.escPermitted .safeop = false) ∧
    (u.dict.esc = .op → exec (.smWatchdog t) s = .next
      ((({ u with dict := { u.dict with esc := .safeop, alStatus := 0x001B } } : State).emit (.alStatus 0x001B)).event u.escBlock 5 0)) ∧
    (u.dict.esc ≠ .op → exec (.smWatchdog t) s = .next u) ∧
    (pw ≠ 0 → exec (.foeSlotWrite t pw k b) s = foe 0x8002 ∧ exec (.configRead t role pw) s = foe 0x8002 ∧ exec (.configWrite t role pw b) s = foe 0x8002) ∧
    (u.dict.esc = .boot → exec (.foeSlotWrite t 0 k b) s = foe 0x8001) ∧
    (u.dict.esc ≠ .boot → u.standbyToSafe = false → exec (.foeSlotWrite t 0 k b) s = foe 0x8004) ∧
    (u.dict.esc ≠ .boot → u.standbyToSafe = true → (u.slot k.val).state ≠ 1 →
      exec (.foeSlotWrite t 0 k b) s = .next (u.emit (.foe 0x8004 (hexText 2 0x61)))) ∧
    (u.dict.esc ≠ .boot → u.standbyToSafe = true → (u.slot k.val).state = 1 →
      ((u.slot k.val).size < b.length → exec (.foeSlotWrite t 0 k b) s = foe 0x8003) ∧
      (b.length ≤ (u.slot k.val).size →
        exec (.foeSlotWrite t 0 k b) s = .next (((u.stageBytes k.val b).slotVerify k.val).2.emit (.foe 0 [])))) ∧
    (foeRole role = true → u.dict.esc ≠ .boot → (u.standbyToSafe = true ∨ u.mode = .seed) →
      (u.storedNow = some c → exec (.configRead t role 0) s = .next (u.emit (.foeData (configFile c)))) ∧
      (u.storedNow = none → exec (.configRead t role 0) s = foe 0x8001)) ∧
    (foeRole role = true → u.dict.esc ≠ .boot → (u.mode ≠ .standby ∨ u.dict.storing.isSome = true) → exec (.configWrite t role 0 b) s = foe 0x8004) ∧
    (foeRole role = true → u.dict.esc ≠ .boot → u.mode = .standby → u.dict.storing = none →
      (u.configHeader b = false → exec (.configWrite t role 0 b) s = .next ((u.count Obj.refusedWrites).emit (.foe 0x800B []))) ∧
      (u.configHeader b = true → r.2 = true → u.configRefused r.1 = none →
        exec (.configWrite t role 0 b) s = .next (((u.applySet r.1).noteWrite .config 0 0).storeBegin true)) ∧
      (∀ e, u.configHeader b = true → u.configRefused r.1 = some e →
        exec (.configWrite t role 0 b) s = .next ((u.count Obj.refusedWrites).emit (.foe 0x800B (hexText 4 e.1 ++ hexText 2 e.2)))))

/-- R406 to R408, R415, R419, R420, R423, R428, R429. -/
def Obligations.EstimatorTakesReleasedValues : Prop :=
  ∀ (t : Nat) (k : Fin 2) (cell : Fin 288) (rd : CellRead) (differ : Bool) (s : State),
    let u := s.at t
    let key := 288 * k.val + cell.val
    let w : State := { u with stack := { u.stack with pendingEst := u.stack.pendingEst.eraseP (fun e => e.1 = key) } }
    let e0 := w.countTo k.val cell.val (w.estCell key) rd
    let v := listGet 0 rd.cells (cell.val % 16)
    let x := w.estInputs k.val cell.val rd
    let fitted := match w.ocv with
      | none => w.setEstCell key e0
      | some o =>
        let r := w.pullSoc k.val o (w.fitCell o e0 x rd) x
        (w.setEstCell key r.1).calSample k.val cell.val r.1.converged r.2
    let y := fitted.cellExtremes k.val cell.val v
    let bad := v < 10 * y.nat Obj.cellVoltageTripMin ∨ 10 * y.nat Obj.cellVoltageTripMax < v
    (u.stack.pendingEst.find? (fun e => e.1 = key) = some (key, rd) →
      (bad → exec (.estimatorUpdate t k cell) s = .next (y.cellTrip k.val cell.val v)) ∧
      (¬bad → y.cellTempOwn k.val cell.val = none → exec (.estimatorUpdate t k cell) s = .next y) ∧
      (∀ c, ¬bad → y.cellTempOwn k.val cell.val = some c → exec (.estimatorUpdate t k cell) s =
        .next (if y.num Obj.cellTempTrip ≤ c then y.cellTrip k.val cell.val (toPattern 16 c) else y))) ∧
    (u.stack.pendingEst.find? (fun e => e.1 = key) = none → exec (.estimatorUpdate t k cell) s = .next u) ∧
    (u.ringsRun = true → exec (.limitUpdate t) s = .next u.limitUpdate ∧ exec (.socReportUpdate t) s = .next (u.forEach u.operated State.reportSoc)) ∧
    (u.ringsRun = false → exec (.limitUpdate t) s = .next u ∧ exec (.socReportUpdate t) s = .next u) ∧
    (u.nat Obj.reportMode = 0 →
      let step : Rat := (u.nat Obj.reportRate : Rat) / 600
      let r := u.reportSoc k.val
      (u.estStr k.val).reported - step ≤ (r.estStr k.val).reported ∧ (r.estStr k.val).reported ≤ (u.estStr k.val).reported + step ∧
      (r.estStr k.val).repN = 0 ∧ r.nat (Obj.socReported (k.val + 1)) = (ratRound (r.estStr k.val).reported).toNat ∧
      r = { u with stack := r.stack, objs := r.objs }) ∧
    (u.shadowing = true → exec (.estimatorCompare t true) s = .next (u.count Obj.estimatorMismatches)) ∧
    ((u.shadowing = false ∨ differ = false) → exec (.estimatorCompare t differ) s = .next u) ∧
    (u.ringsRun = true → u.stack.lastPersist + 600 ≤ u.powered → exec (.persistentStateWrite t) s = .next u.persist) ∧
    (u.powered < u.stack.lastPersist + 600 → exec (.persistentStateWrite t) s = .next u) ∧
    (u.connected k.val = true → exec (.lifetimeUpdate t k) s = .next (u.lifetimeSecond k.val)) ∧
    (u.connected k.val = false → exec (.lifetimeUpdate t k) s = .next u)

/-- R409, R424 to R427, R429, Table 14.1. -/
def Obligations.CalibrationRunsAndRecordsAreCleared : Prop :=
  ∀ (t n v : Nat) (role : Role) (k : Fin 2) (b : List Nat) (s : State),
    let u := s.at t
    let rq := Obj.calibrationRequest
    let lt := Obj.lifetimeClear (k.val + 1)
    let c := u.stack.cal
    let i := k.val + 1
    let may := (u.mode = .ready ∨ u.mode = .shaping) ∧ c.string = 0 ∧ (u.str k.val).conn ≠ .lockedOut ∧
      ∀ j, j < u.cellCount k.val → (u.estCell (288 * k.val + j)).converged = true
    let w := (u.balanceStop k.val).setNat Obj.calibrationResult 0
    let cleared := (u.forEach [Obj.connectedSeconds i, Obj.dischargedThroughput i, Obj.chargedThroughput i, Obj.equivalentCycles i]
        (fun s key => s.setNum key (objDefault key))).forEach
      [Obj.voltageExtremes i, Obj.currentExtremes i, Obj.temperatureExtremes i, Obj.socHistogram i, Obj.temperatureHistogram i, Obj.rateHistogram i,
        Obj.calibrationHistory i] (fun s key => s.setBlob key (blobDefault key))
    (u.accepts role rq (numBytes rq i) → u.operated.contains k.val = true → may → exec (.calibrationStart t role i) s = .next
      ((({ w with stack := { w.stack with cal := { string := i, began := w.now } } } : State).calPhase 1).applied role rq)) ∧
    (u.accepts role rq (numBytes rq i) → u.operated.contains k.val = true → ¬may →
      exec (.calibrationStart t role i) s = .next (u.declined rq 0x08000022)) ∧
    (u.accepts role rq (numBytes rq 0) → exec (.calibrationAbort t role) s = .next ((u.calEnd 1).applied role rq)) ∧
    (u.accepts role Obj.ocvTable b →
      (ocvCheck b = 0 → exec (.ocvTableWrite t role b) s = .next ((u.setBlob Obj.ocvTable b).applied role Obj.ocvTable)) ∧
      (ocvCheck b ≠ 0 → exec (.ocvTableWrite t role b) s = .next (u.declined Obj.ocvTable 0x06090030))) ∧
    (u.accepts role lt (numBytes lt 0xA5) → exec (.lifetimeClear t role k 0xA5) s = .next
      (((cleared.setEstStr k.val { cleared.estStr k.val with disRest := 0, chgRest := 0 }).persist).applied role lt)) ∧
    (u.served .coe = true → n < 256 → n ≠ 0xA5 → exec (.lifetimeClear t .service k n) s = .next (u.declined lt 0x06090030)) ∧
    (c.string ≠ 0 → c.heldSince = none →
      (c.phase = 1 → u.cellVMax (c.string - 1) = some v → exec (.calibrationPhaseEnd t) s = .next
        (if 10 * u.nat Obj.calibrationFullVoltage ≤ v then u.calPhase 2 else u)) ∧
      (c.phase = 3 → u.cellVMin (c.string - 1) = some v → exec (.calibrationPhaseEnd t) s = .next
        (if v ≤ 10 * u.nat Obj.calibrationEmptyVoltage then u.calPhase 4 else u)) ∧
      ((c.phase = 2 ∨ c.phase = 4) → u.nat Obj.endpointAverage * sec ≤ u.calElapsed → u.calAverage (c.string - 1) = none →
        exec (.calibrationPhaseEnd t) s = .next (u.calEnd 5)) ∧
      (∀ l, c.phase = 2 → u.nat Obj.endpointAverage * sec ≤ u.calElapsed → u.calAverage (c.string - 1) = some l →
        exec (.calibrationPhaseEnd t) s = .next (({ u with stack := { u.stack with cal := { c with sFull := l } } } : State).calPhase 3)) ∧
      (∀ l, c.phase = 4 → u.nat Obj.endpointAverage * sec ≤ u.calElapsed → u.calAverage (c.string - 1) = some l →
        exec (.calibrationPhaseEnd t) s =
          .next (({ u with stack := { u.stack with cal := { c with sEmpty := l, phase := 5 } } } : State).calApply (c.string - 1))) ∧
      (c.began + u.nat Obj.calibrationTimeout * sec ≤ u.now → exec (.calibrationTimeout t) s = .next (u.calEnd 6))) ∧
    (c.string = 0 → exec (.calibrationPhaseEnd t) s = .next u ∧ exec (.calibrationTimeout t) s = .next u)

/-- R545, R552, R553, R555 to R558, Table 20.12. -/
def Obligations.KeysImagesAndFusesChangeOnlyBySignature : Prop :=
  ∀ (t v : Nat) (role : Role) (path : Path) (port : Fin 4) (h : Half) (reg : Fin 7) (b : List Nat) (s : State),
    let u := s.at t
    let ku := Obj.keyUpdate
    let ac := Obj.authorCertificate
    let ar := Obj.authorKeyRemove
    let rc := Obj.rollbackCommit
    let b1 := withByte 4 1 b
    let b2 := withByte 4 2 b
    let b3 := withByte 4 3 b
    let seq := fun (x : List Nat) => u.setNat Obj.keyUpdateSequence (leNat (slice x 8 4))
    let coe := decide (path = .coe)
    (u.acceptsOver path role ku b1 → b.length = 240 → u.keyRecordOk coe b1 = true → u.keyStateRefused (if path = .coe then 1 else 3) b1 = false →
      let w := if u.dict.opKeys.isEmpty then (seq b1).adopt else seq b1
      exec (.keyEnrol t role path b) s = .next
        (({ w with dict := { w.dict with opKeys := smPut w.dict.opKeys (listGet 0 b1 5) (slice b1 16 96) } } : State).appliedOver path ku)) ∧
    (u.acceptsOver path role ku b2 → b.length = 240 → u.keyRecordOk coe b2 = true → u.keyStateRefused (if path = .coe then 1 else 3) b2 = false →
      exec (.keyRevoke t role path b) s = .next
        (({ seq b2 with dict := { u.dict with opKeys := smErase u.dict.opKeys (listGet 0 b2 5) } } : State).appliedOver path ku)) ∧
    (u.acceptsOver path role ku b3 → b.length = 240 → u.keyRecordOk coe b3 = true → u.keyStateRefused (if path = .coe then port.val else 3) b3 = false →
      exec (.keyStoreReset t role path port b) s = .next
        ((({ seq b3 with dict := { u.dict with opKeys := [], adopted := [] } } : State).setBlob Obj.admissionTicket (List.replicate 168 0)).appliedOver path ku)) ∧
    (u.acceptsOver path role ku b1 → b.length = 240 → u.keyRecordOk coe b1 = false → exec (.keyEnrol t role path b) s = .next (u.declined ku 0x06090030)) ∧
    (u.accepts role rc (numBytes rc v) → v ≤ 63 → max u.dict.fusesA u.dict.fusesB < v → u.mode = .standby → u.halfGone 0 = false → u.halfGone 1 = false →
      u.boot.stageA ≠ 0 → u.boot.stageB ≠ 0 →
      (∀ x ∈ [u.dict.imagesA, u.dict.imagesB], v ≤ activeRollback 1 x.mainActive ∧ v ≤ activeRollback 2 x.seedActive) →
      exec (.rollbackCommit t role v) s = .next (({ u with dict := { u.dict with fusesA := v, fusesB := v } } : State).applied role rc)) ∧
    (u.accepts role rc (numBytes rc v) → v ≤ max u.dict.fusesA u.dict.fusesB → v ≤ 63 → exec (.rollbackCommit t role v) s = .next (u.declined rc 0x06090032)) ∧
    (∀ i, u.accepts role ac b → b.length = 224 →
      recordOk b 96 1 (b.take 96) (fun id => if id = keyId (zheudKey 1) then some (zheudKey 1) else none) = true →
      (List.range 15).find? (fun i => u.dict.authors.all (fun e => e.1 != i + 1)) = some i →
      exec (.authorCertificate t role b) s =
        .next (({ u with dict := { u.dict with authors := smPut u.dict.authors (i + 1) (b.take 96) } } : State).applied role ac)) ∧
    (u.accepts role ar b → (∃ e ∈ u.dict.authors, keyId e.2 = b) → b ≠ keyId (zheudKey 4) → exec (.authorKeyRemove t role b) s =
      .next (({ u with dict := { u.dict with authors := u.dict.authors.filter (fun e => keyId e.2 != b) } } : State).applied role ar)) ∧
    ((role = .operator ∨ role = .service) → (u.mode = .standby ∨ u.mode = .seed) →
      let slots := fun (w : State) (f : ImageSlots → ImageSlots) =>
        (w.forEach ((List.range 2).filter (fun h => !w.halfGone h)) (fun s h => s.setImages h (f (s.images h)))).pruneAdopted.emit (.foe 0 [])
      (u.imageCheck 1 b = 0 → exec (.fwmain t role 0 b) s = .next (slots (u.noteVerify 0) (fun x => { x with mainPending := some (imageOf b) }))) ∧
      (u.imageCheck 2 b = 0 → exec (.fwseed t role 0 b) s = .next (slots (u.noteVerify 0) (fun x => { x with seedPending := some (imageOf b) }))) ∧
      (u.imageCheck 1 b ≠ 0 → exec (.fwmain t role 0 b) s =
        .next ((u.noteVerify (u.imageCheck 1 b)).emit (.foe 0x800B (hexText 2 (u.imageCheck 1 b)))))) ∧
    (u.running = true → u.halfGone (halfIdx h) = false → exec (.protectedRegisterWrite t h reg) s = .next (u.raise (97 * halfIdx h) 9 11 reg.val lvHalf))

/-- R561 to R565. Random bytes, signatures of the device and captured boundary bits are free values (log entries 14 and 15). -/
def Obligations.SessionsAdmissionAndTheTap : Prop :=
  ∀ (t v : Nat) (role : Role) (k : Fin 16) (tg : Fin 4) (b ticket dev sig bits : List Nat) (s : State),
    let u := s.at t
    let ss := Obj.sessionSetup
    let sr := Obj.sessionResponse
    let sl := Obj.sessionLock
    let c := u.dict.challenge
    let x := (smGet (fun _ => {}) u.dict.sessions tg.val : Session)
    let a := (smGet (fun _ => {}) u.dict.admits k.val : Admit)
    (u.accepts role ss (numBytes ss v) → (v / 16 = 1 ∨ (v / 16 = 2 ∧ v % 16 ≠ 3)) → v % 16 ≤ 3 → u.dict.lockUntil = 0 → u.sessionLevel (v % 16) = 0 →
      ∃ w : State, exec (.sessionSetup t role v) s = .next (w.applied role ss) ∧ w.freeCtr = u.freeCtr + 1 ∧ w.dict.challengeAt = u.now ∧
        w.dict.challenge = [0x5A, 0x43, 0x48, 0x4C, v / 16, v % 16, 0, 0] ++ fused Obj.moduleSerial 16 ++ leBytes 4 (u.nat Obj.bootCount) ++
          [0, 0, 0, 0] ++ (List.range 32).map (fun i => Config.randomByte u.freeCtr i % 256) ∧
        w.blob Obj.challenge = w.dict.challenge ∧ w.dict = { u.dict with challenge := w.dict.challenge, challengeAt := u.now }) ∧
    (u.accepts role ss (numBytes ss v) → (v / 16 = 1 ∨ (v / 16 = 2 ∧ v % 16 ≠ 3)) → v % 16 ≤ 3 → (u.dict.lockUntil ≠ 0 ∨ u.sessionLevel (v % 16) ≠ 0) →
      exec (.sessionSetup t role v) s = .next (u.declined ss 0x08000022)) ∧
    (u.accepts role sr b → (b.length = 128 ∨ b.length = 256) → c ≠ [] → u.now ≤ u.dict.challengeAt + 600 * sec → u.sessionLevel (listGet 0 c 5) = 0 →
      (u.responseOk b = true → exec (.sessionResponse t role b) s = .next (({ u with dict := { u.dict with
        challenge := [], sessions := smPut u.dict.sessions (listGet 0 c 5) { level := listGet 0 c 4, openedAt := u.now } } } : State).applied role sr)) ∧
      (u.responseOk b = false → exec (.sessionResponse t role b) s = .next (u.unlockFail.declined sr 0x06090030))) ∧
    (u.accepts role sl (numBytes sl v) → v < 256 →
      exec (.sessionLock t role v) s = .next ((u.forEach ((List.range 4).filter (bitOf v)) State.endSession).applied role sl)) ∧
    ((u.endSession tg.val).sessionLevel tg.val = 0) ∧
    (x.level ≠ 0 → x.openedAt + u.nat Obj.sessionLimit * sec ≤ u.now → exec (.sessionLimit t tg) s = .next (u.endSession tg.val)) ∧
    (x.level = 0 → exec (.sessionLimit t tg) s = .next u) ∧
    (u.dict.lockUntil ≠ 0 → u.dict.lockUntil ≤ u.powered → exec (.unlockLockoutEnd t) s = .next { u with dict := { u.dict with lockUntil := 0, failures := [] } }) ∧
    (u.served .mirror = true → u.laneUp (36 + k.val) = true → u.writeRefused .agent [] 0x3103 3 b = 0 → exec (.admissionChallenge t k b) s = .next
      (((u.admitChallenge k.val b).noteWrite .mirror 0x3103 3).emit (.answer 0 Obj.admissionChallenge))) ∧
    (u.laneUp (36 + k.val) = false → exec (.admissionChallenge t k b) s = .next u ∧ exec (.admissionRetry t k ticket dev sig) s = .next u) ∧
    (u.laneUp (36 + k.val) = true → a.admitted = false → a.failedAt = 0 →
      (u.ticketOk k.val ticket dev = false → exec (.admissionRetry t k ticket dev sig) s =
        .next ((u.setAdmit k.val { a with challenge := [], failedAt := u.now + 1 }).count Obj.admissionFailures)) ∧
      (u.ticketOk k.val ticket dev = true →
        let r := u.randomBytes 48
        let peer := linkPeerLane (u.nat Obj.hallDimensions) (u.nat Obj.shelfNumber) k.val
        ecVerify dev (admitDigest r.1 (u.nat Obj.hallDomainId) (u.nat (Obj.peerShelf (36 + k.val))) peer) sig = true →
        let w := r.2.setAdmit k.val { a with admitted := true, failedAt := 0, challenge := r.1 }
        exec (.admissionRetry t k ticket dev sig) s =
          .next ((w.setNat Obj.admittedHallLinks (setBit (w.nat Obj.admittedHallLinks) k.val true)).routesChanged))) ∧
    (u.tapOn = true →
      exec (.idcode t) s =
        .next (({ u with dict := { u.dict with tap := .idcode } } : State).emit (.tap ((List.range 32).map (fun i => bit (bitOf Config.idcode i) 0)))) ∧
      (u.scanAllowed = true →
        let d : State := { u with freeCtr := u.freeCtr + 1 }
        exec (.samplePreload t bits) s =
          .next (({ d with dict := { d.dict with tap := .samplePreload, bsr := bits } } : State).emit (.tap (Config.boundary u.freeCtr))) ∧
        exec (.extest t bits) s = .next (({ d with dict := { d.dict with tap := .extest, bsr := bits } } : State).emit (.tap (Config.boundary u.freeCtr)))) ∧
      (u.scanAllowed = false → exec (.samplePreload t bits) s = .next u.tapBypass ∧ exec (.extest t bits) s = .next u.tapBypass ∧
        exec (.bypass t .extest) s = .next u.tapBypass) ∧
      exec (.bypass t .bypass) s = .next u.tapBypass ∧ u.tapBypass = ({ u with dict := { u.dict with tap := .bypass } } : State).emit (.tap [0]))

/-- R276, R279, R285, R294, Tables 9.4 and 9.8. -/
def Obligations.HistoryRequestsAnswerTheirResult : Prop :=
  ∀ (t h : Nat) (role : Role) (b : List Nat) (s : State),
    let u := s.at t
    let kc := Obj.channelRequest
    let kw := Obj.windowRequest
    let kf := Obj.forecasterHandle
    let op := fun (n : Nat) => withByte 0 n b
    let may := fun (n : Nat) => u.accepts role kc (op n) ∧ b.length = 32 ∧ u.channelRole role (op n) = true
    let mayW := fun (n : Nat) => u.accepts role kw (op n) ∧ b.length = 32 ∧ u.windowRole role (op n) = true
    let c := leNat (slice b 2 2)
    let r := u.ringDef c
    (u.histBusy = false →
      (may 1 → exec (.channelDefine t role b) s = .next ((u.channelDefine (op 1)).applied role kc)) ∧
      (may 2 → u.channelBad c = none → r.state ≠ 0 → u.ringRead c = false →
        (((u.removeRing c).channelDone 2 0 c).histBusy = false) →
        exec (.channelDelete t role b) s = .next (((u.removeRing c).channelDone 2 0 c).applied role kc)) ∧
      (may 2 → u.channelBad c = none → r.state ≠ 0 → u.ringRead c = true →
        ∃ v, exec (.channelDelete t role b) s = .next v ∧ v.out = u.out ∧ (v.ringDef c).deleting = true) ∧
      (may 3 → exec (.channelQuery t role b) s =
        .next (((u.advanceRing c).channelDone 3 (if chanKnown c = true then 0 else hsChannelNotWritable) c).applied role kc)) ∧
      (may 4 → u.channelBad c = none →
        exec (.channelSetGrants t role b) s = .next (((u.setRingDef c { r with grants := leNat (slice b 24 8) }).channelDone 4 0 c).applied role kc)) ∧
      (mayW 1 → exec (.windowDefine t role b) s = .next ((u.windowDefine (op 1)).applied role kw)) ∧
      (∀ d, mayW 2 → u.window c = some d → exec (.windowFree t role b) s = .next (((u.dropWindow c).windowDone 2 0 c (u.windowSize d)).applied role kw)) ∧
      (∀ d, mayW 3 → u.window c = some d → exec (.windowQuery t role b) s = .next ((u.windowDone 3 0 c (u.windowSize d)).applied role kw)) ∧
      (mayW 3 → u.window c = none → exec (.windowQuery t role b) s = .next ((u.windowDone 3 hsParameterInvalid c 0).applied role kw))) ∧
    (u.histBusy = true → (may 1 → exec (.channelDefine t role b) s = .next (u.declined kc 0x08000022)) ∧
      (mayW 1 → exec (.windowDefine t role b) s = .next (u.declined kw 0x08000022))) ∧
    (chanKnown c = true → reqRingReserved (op 1) = true → (reqRing (op 1)).ok = true → (reqRing (op 1)).levels ≠ 0 → (chanFree c = true ∨ (reqRing (op 1)).owner = 0) →
      r.state ≠ 0 → b.length = 32 → u.channelDefine (op 1) = u.channelDone 1 hsChannelInUse c) ∧
    (chanFree c = true → chanKnown c = true → reqRingReserved (op 1) = true → (reqRing (op 1)).levels = 0 → (reqRing (op 1)).owner = 0 → r.state = 0 →
      b.length = 32 → u.channelDefine (op 1) = (u.setRingDef c { owner := 0, state := 1, grants := r.grants }).channelDone 1 0 c) ∧
    (∀ d, u.window c = some d → (u.dropWindow c).window c = none) ∧
    (u.accepts role kf (numBytes kf 255) → exec (.forecasterBind t role 255) s = .next (((u.setNat kf 255).dropFcWindows).applied role kf)) ∧
    (u.accepts role kf (numBytes kf h) → h < 255 → u.bindable h = false → exec (.forecasterBind t role h) s = .next (u.declined kf 0x08000022)) ∧
    (u.accepts role kf (numBytes kf h) → h < 255 → u.bindable h = true → exec (.forecasterBind t role h) s = .next
      ((if u.nat Obj.forecastWindowBase = 0xFFFF then ((u.setNat kf h).refreshStep).defineFcWindows else u.setNat kf h).applied role kf))

/-- R272, R273, R279, R287 to R289, R296, R300. The class and code of a stack failure for training and for 16 errors are the model's choice (log entry 59). -/
def Obligations.RingsStacksAndPublications : Prop :=
  ∀ (t c n h stamp : Nat) (k : Fin 8) (port : Fin 16) (p : Fin 128) (f : StackFail) (bytes : List Nat) (s : State),
    let u := s.at t
    let r := u.ringDef c
    let a := u.port port.val
    (r.live = true → exec (.ringSlotAdvance t c) s = .next (u.setRingDef c (r.advance u.histT))) ∧
    (r.live = false → exec (.ringSlotAdvance t c) s = .next u) ∧
    (∀ (q : RingDef), q.n0 ≠ 0 → (q.advance h).head = max q.head (h / q.period) ∧
      q.advanceOne.head = q.head + 1 ∧ (q.late ≠ 0 → q.head + 1 < q.late → q.advanceOne.atPos 0 ((q.head + 1) % q.n0) = gapVal)) ∧
    (r.deleting = true → u.ringRead c = false →
      exec (.ringDeleteComplete t c) s = .next (((u.removeRing c).channelDone 2 0 c).answerKey Obj.channelRequest 0)) ∧
    (r.deleting = false → exec (.ringDeleteComplete t c) s = .next u) ∧
    (u.nat (Obj.stackState k.val) = 1 ∨ u.nat (Obj.stackState k.val) = 2 → exec (.stackFailure t k f) s = .next (u.raise (stackBlock k.val)
      (match f with | .training | .sixteenErrors => 1 | .channel => 3 | .powerGood => 5 | .thermal => 7)
      (match f with | .training | .sixteenErrors => 2 | .channel => 5 | .powerGood => 9 | .thermal => 8) k.val lvBlock true)) ∧
    (u.nat (Obj.stackState k.val) = 3 → exec (.stackFailure t k f) s = .next u) ∧
    (u.nat (Obj.stackState k.val) = 2 →
      let w := (u.count (Obj.correctedErrors2710 k.val) n).markRows k.val []
      exec (.patrolScrub t k n [] none false) s = .next w ∧ exec (.patrolScrub t k n [] none true) s = .next (w.count (Obj.scrubPasses k.val)) ∧
      w.nat (Obj.correctedErrors2710 k.val) = (u.nat (Obj.correctedErrors2710 k.val) + n) % 2 ^ 32 ∧
      (∀ b, exec (.patrolScrub t k n [] (some b) false) s = .next (w.stackError k.val b))) ∧
    (u.nat (Obj.stackState k.val) ≠ 2 → ∀ rows bad e, exec (.patrolScrub t k n rows bad e) s = .next u) ∧
    (∀ l q o, r.live = true → r.mirrorAt = 255 → u.badBlock k.val (.ring c l q o) = u.setRingDef c (r.loseBurst l q)) ∧
    (port.val < 4 → u.fc.bound = p.val → pubOk port.val bytes = true → exec (.portPublication t port p stamp bytes) s = .next
      (u.setPort port.val { a with nextBytes := bytes, nextStamp := stamp, nextValid := true })) ∧
    (port.val < 4 → (u.fc.bound ≠ p.val ∨ pubOk port.val bytes = false) →
      exec (.portPublication t port p stamp bytes) s = .next (u.count Obj.rejectedPublications)) ∧
    (6 ≤ port.val → exec (.portPublication t port p stamp bytes) s = .next (u.count Obj.rejectedPortPublications)) ∧
    (u.histT % 250 ≠ 0 → exec (.binEvaluation t) s = .next u) ∧
    (u.histT % 250 = 0 → 250 ≤ u.histT → ∃ v, exec (.binEvaluation t) s = .next v ∧ v = u.evaluateBin (u.histT - 250) ∧
      ((u.mode ≠ .ready ∧ u.mode ≠ .shaping) → v = { u with fc := { u.fc with binSum := 0, binCount := 0 } }))

/-- R191 to R198, R201, R580, Table 6.16. That ArrayCommand 2 enters no fault is the model's choice (log entry 52). -/
def Obligations.ArraysWakeTestAndFault : Prop :=
  ∀ (t cause line e v : Nat) (role : Role) (g : Fin 128) (pass : Bool) (s : State),
    let u := s.at t
    let i := g.val
    let a := u.arr i
    let kc := Obj.arrayCommand i
    let live := a.power ≠ 5 ∧ a.power ≠ 6 ∧ u.nat (Obj.dieState (dieOf i)) = 1
    let cls := if cause = 2 ∨ cause = 3 then 2 else if cause = 8 then 3 else if cause = 9 then 5 else 1
    (live → 1 ≤ cause → cause ≤ 9 → exec (.arrayFault t g cause) s = .next
      ((u.setNat (Obj.lastFault i) cause).raise (arrayBlock i) cls cause i lvBlock true)) ∧
    (a.power = 5 ∨ a.power = 6 → exec (.arrayFault t g cause) s = .next u) ∧
    (∀ w, a.wakeAt = some w → w ≤ u.now → 1 ≤ a.power → a.power ≤ 3 → a.entering = 0 → exec (.arrayWakeStart t g) s = .next (u.startWake i)) ∧
    (a.wakeAt = none → exec (.arrayWakeStart t g) s = .next u) ∧
    (a.power = 4 → a.wakeDone ≤ u.now → a.wakeFrom ≤ 1 → a.demand = true → exec (.arrayWakeDone t g pass) s = .next (u.setPower i 0)) ∧
    (a.power = 4 → a.wakeDone ≤ u.now → 2 ≤ a.wakeFrom → a.demand = true →
      let w := (u.wakeContents i).setPower i 0
      exec (.arrayWakeDone t g true) s = .next (w.setArr i { w.arr i with lastSelfTest := w.now }) ∧
      exec (.arrayWakeDone t g false) s = .next ((u.wakeContents i).arrayFault i 3)) ∧
    (a.power ≠ 4 → exec (.arrayWakeDone t g pass) s = .next u) ∧
    (a.wakeFrom = 2 → u.wakeContents i = u.setArr i { a with tables := a.savedTables, ccr := a.savedCcr }) ∧
    (a.entering ≠ 0 → a.entryDone ≤ u.now → a.power ≤ 3 → a.demand = false → a.wakeAt = none → ∃ w, exec (.powerStateEntryComplete t g) s = .next w ∧
      (w.arr i).power = a.entering ∧ (w.arr i).entering = 0 ∧ (a.entering = 3 → (w.arr i).store = []) ∧
      (a.entering = 2 → (w.arr i).savedTables = a.tables ∧ (w.arr i).store = a.store)) ∧
    (a.entering = 0 → exec (.powerStateEntryComplete t g) s = .next u) ∧
    (a.testSince = none → a.power = 0 → u.nat (Obj.dieState (dieOf i)) = 1 →
      exec (.arraySelfTest t g true) s = .next (u.setArr i { a with lastSelfTest := u.now }) ∧
      exec (.arraySelfTest t g false) s = .next ((u.setNat (Obj.lastFault i) 3).raise (arrayBlock i) 2 3 i lvBlock true)) ∧
    (∀ w, a.testSince = some w → exec (.arraySelfTest t g pass) s = .next (u.arrayTestDone i pass)) ∧
    (live → a.power ≠ 3 → exec (.arrayStoreScrub t g false line 1) s = .next (u.count (Obj.correctedErrors2480 i)) ∧
      exec (.arrayStoreScrub t g false line 0) s = .next u ∧
      exec (.arrayStoreScrub t g true line 2) s = .next ((u.count (Obj.uncorrectedErrors i)).arrayFault i 7) ∧
      (line < 65536 → exec (.arrayStoreScrub t g false line 2) s = .next (u.lineBad i line))) ∧
    (a.power = 0 ∨ a.power = 1 →
      let b := { a with tables := smPut a.tables (e % 16384) (v % 2 ^ 32) }
      exec (.lookupTableCompare t g (some (e, v))) s = .next
        (if ∀ x ∈ b.tableSrc, b.tableMatches x.1 x.2 = true then u.setArr i b else (u.setArr i b).arrayFault i 6)) ∧
    (u.accepts role kc (numBytes kc 1) → a.power = 5 → u.lost (i / 64) = false → u.reacted (i / 64) = false → u.nat (Obj.dieState (dieOf i)) = 1 →
      exec (.arrayReturnToService t role g) s = .next
        ((((u.setArr i { a with testSince := some u.now }).setNat kc 1).setNat (Obj.blockState (arrayBlock i)) 4).applied role kc)) ∧
    (u.accepts role kc (numBytes kc 1) → a.power ≠ 5 → exec (.arrayReturnToService t role g) s = .next (u.declined kc 0x08000022)) ∧
    (u.accepts role kc (numBytes kc 2) → a.power ≠ 5 → a.power ≠ 6 → exec (.arrayOutOfService t role g) s = .next
      ((((u.arrayOut i 5).setNat (Obj.blockState (arrayBlock i)) 2).runReplacements).applied role kc))

/-- R185, R446 to R452, R564. -/
def Obligations.DieLinksPointsAndHalts : Prop :=
  ∀ (t c te : Nat) (d : Fin 8) (l : Fin 7) (up : Bool) (amps : List Nat) (e : Nat × Nat) (s : State),
    let u := s.at t
    let i := l.val
    let q := u.diePt d.val
    let off := u.mode = .off ∨ u.mode = .ship ∨ u.boot.inReset = true
    (u.nat (Obj.eastLinkState i) = 1 → exec (.dieLinkDown t l) s = .next ((u.count (Obj.eastLinkRetries i) 8).dieLinkFault i)) ∧
    (u.nat (Obj.eastLinkState i) ≠ 1 → exec (.dieLinkDown t l) s = .next u) ∧
    (∀ (w : State), (∀ x ∈ w.pecan.linkDown, x.1 ≠ i) → w.dieLinkFault i =
      ((w.raise (exchangeBlock i) 3 6 i lvBlock).raise (exchangeBlock (i + 1)) 3 6 i lvBlock).dieLinkDown i) ∧
    (u.pecan.linkDown.find? (fun e => e.1 = i) = some e →
      (e.2 - 1 + sec ≤ u.now → ∃ v, exec (.dieLinkRetrain t l up) s = .next v ∧ v = { u with pecan := { u.pecan with linkDown := v.pecan.linkDown, linkUp := v.pecan.linkUp } } ∧
        v.pecan.linkDown = smPut u.pecan.linkDown i (u.now + 1) ∧ (up = false → ∀ x ∈ v.pecan.linkUp, x.1 ≠ i) ∧
        (up = true → ∃ x ∈ v.pecan.linkUp, x.1 = i)) ∧
      (u.now < e.2 - 1 + sec → exec (.dieLinkRetrain t l up) s = .next u)) ∧
    (u.pecan.linkUp.find? (fun e => e.1 = i) = some e →
      (e.2 - 1 + sec ≤ u.now → exec (.dieLinkRestored t l) s = .next (u.dieLinkBack i)) ∧ (u.now < e.2 - 1 + sec → exec (.dieLinkRestored t l) s = .next u)) ∧
    (u.pecan.linkUp.find? (fun e => e.1 = i) = none → exec (.dieLinkRestored t l) s = .next u) ∧
    (off → exec (.pointEvaluation t amps) s = .next u) ∧
    (¬off →
      let w : State := { u with pow := { u.pow with lastPoint := u.now } }
      exec (.pointEvaluation t amps) s = .next ((w.forEach (List.range 8) (fun s d =>
        ((s.throttleTimes d (u.now / 1000 - u.pow.lastPoint / 1000)).railThrottle d (listGet 0 amps d)).evalDie d)).estimate)) ∧
    (∀ (w : State), (∀ f ∈ w.floors d.val, f = none) → w.computedPoint d.val = max (w.nat (Obj.requestedPoint d.val)) (w.nat Obj.fastestPoint2D00)) ∧
    (∀ (w : State) f, some f ∈ w.floors d.val → f ≤ w.computedPoint d.val) ∧
    (u.nextRise d.val = some (te, c) →
      let r := ((u.floors d.val).filterMap id).foldl max (max c (u.nat Obj.fastestPoint2D00))
      (u.nat (Obj.dieState d.val) = 1 → r < q.target → te ≤ u.now + u.riseTime d.val r + u.nat Obj.wakeMargin * 1000 →
        exec (.pointEarlyRise t d) s = .next ((u.setDiePt d.val { q with slowSince := 0 }).changePoint d.val r)) ∧
      (u.now + u.riseTime d.val r + u.nat Obj.wakeMargin * 1000 < te → exec (.pointEarlyRise t d) s = .next u)) ∧
    (u.nextRise d.val = none → exec (.pointEarlyRise t d) s = .next u) ∧
    (q.slowSince ≠ 0 → q.slowSince - 1 + u.nat Obj.pointHoldTime * 1000 ≤ u.now → q.target < u.computedPoint d.val → u.nat (Obj.dieState d.val) = 1 →
      exec (.pointHoldExpiry t d) s = .next ((u.setDiePt d.val { q with slowSince := 0 }).changePoint d.val (u.computedPoint d.val))) ∧
    (q.slowSince = 0 → exec (.pointHoldExpiry t d) s = .next u) ∧
    ((smGet (fun _ => {}) u.dict.sessions 0 : Session).level ≠ 0 →
      exec (.dieHalt t d) s = .next { u with pecan := { u.pecan with halted := smPut u.pecan.halted d.val true } }) ∧
    ((smGet (fun _ => {}) u.dict.sessions 0 : Session).level = 0 → exec (.dieHalt t d) s = .next u)

/-- R240 to R248, R254, Tables 8.12, 8.13 and 8.20. -/
def Obligations.SlotsAndProgramsObeyTheirCommands : Prop :=
  ∀ (t st : Nat) (role : Role) (k : Fin 16) (h : Fin 128) (b : List Nat) (s : State),
    let u := s.at t
    let ks := Obj.slotCommand k.val
    let kp := Obj.programCommand h.val
    let kl := Obj.loadRequest
    let x := u.slot k.val
    let p := u.prog h.val
    let mine := x.foreign role = false
    let okS := fun (n : Nat) => u.accepts role ks (numBytes ks n) ∧ mine
    let okP := fun (n : Nat) => u.accepts role kp (numBytes kp n)
    let all := sumN ((u.pecan.slots.filter (fun e => e.2.state != 0)).map (fun e => e.2.size))
    let noP := Host.Outcome.next (φ := Fault) (ρ := Refusal) (u.declined kp 0x08000022)
    (okS 1 → x.state = 0 → x.size ≠ 0 → all + x.size ≤ 8589934592 → (tagOf role = 0 ∨ u.slotOf (tagOf role) = none) →
      u.bulkStack (List.range 8) x.size = some st → exec (.slotOpen t role k) s = .next
        (((u.setSlot k.val { x with state := 1, tenant := tagOf role, data := [], stack := st, progId := List.replicate 16 0 }).otherAdd st x.size).applied role ks)) ∧
    (okS 1 → x.state ≠ 0 → exec (.slotOpen t role k) s = .next (u.declined ks 0x08000022)) ∧
    (okS 2 → x.state = 1 → exec (.slotVerify t role k) s = .next ((u.setSlot k.val { x with state := 2 }).applied role ks)) ∧
    (okS 2 → x.state ≠ 1 → exec (.slotVerify t role k) s = .next (u.declined ks 0x08000022)) ∧
    (okS 3 → (x.state = 1 ∨ x.state = 3 ∨ x.state = 4) → exec (.slotDiscard t role k) s = .next ((u.releaseSlot k.val).applied role ks)) ∧
    (okS 3 → (x.state = 2 ∨ x.state = 5) → exec (.slotDiscard t role k) s = .next (u.declined ks 0x08000022)) ∧
    (x.state = 2 →
      (∀ c n o, u.verifyImage x.bytes x.size = .error (c, n, o) →
        exec (.slotVerificationComplete t k) s = .next (u.setSlot k.val { x with state := 4, result := [c, 0, n, 0] ++ leBytes 4 o })) ∧
      (∀ lane n id decls, u.verifyImage x.bytes x.size = .ok (lane, n, id, decls) →
        exec (.slotVerificationComplete t k) s = .next (u.setSlot k.val
          { x with state := 3, result := List.replicate 8 0, progId := id, lane := lane, partCount := n, decls := decls }))) ∧
    (x.state ≠ 2 → exec (.slotVerificationComplete t k) s = .next u) ∧
    (u.accepts role kl b → b.length = 64 → (u.mode = .standby ∨ u.mode = .ready ∨ u.mode = .shaping ∨ u.mode = .hold) → u.pecan.load = none →
      listGet 0 b 0 = k.val → x.state = 3 → u.badRequest b x = false → exec (.loadRequest t role b) s = .next ((u.beginLoad role b).applied role kl)) ∧
    (u.accepts role kl b → b.length = 64 → (u.mode = .safe ∨ u.pecan.load.isSome = true) → exec (.loadRequest t role b) s = .next (u.declined kl 0x08000022)) ∧
    (u.pecan.load = none → exec (.loadComplete t) s = .next u) ∧
    (∀ l q, u.pecan.load = some l → (u.prog l.handle).parts.find? (fun q => !u.inService q.array || !u.healthy (q.array / 64)) = some q →
      exec (.loadComplete t) s = .next
        (u.loadFail l (if u.healthy (q.array / 64) = true then 0x6D else 0x70) (q.idx + if q.copyB = true then 64 else 0) q.array)) ∧
    (okP 1 → p.state = pgLoaded → exec (.programStart t role h) s = .next ((u.runProg h.val).applied role kp)) ∧
    (okP 1 → p.state ≠ pgLoaded → p.state ≠ pgStopped → exec (.programStart t role h) s = noP) ∧
    (okP 2 → p.state = pgRunning → (p.quiet = true → exec (.programStop t role h) s = .next ((u.stopNow h.val 0x7E pgStopped).applied role kp)) ∧
      (p.quiet = false → exec (.programStop t role h) s = .next ((u.setProg h.val { p with stopPending := max p.stopPending 2 }).applied role kp))) ∧
    (okP 2 → p.state ≠ pgRunning → exec (.programStop t role h) s = noP) ∧
    (okP 3 → (p.state = pgLoaded ∨ p.state = pgRunning ∨ p.state = pgStopped) →
      (p.quiet = true → exec (.programUnload t role h) s = .next ((u.unload h.val).applied role kp)) ∧
      (p.quiet = false → exec (.programUnload t role h) s = .next ((u.setProg h.val { p with state := pgUnloading, stopPending := 3 }).applied role kp))) ∧
    (okP 4 → p.state = pgRunning → p.lane = 2 → p.trigger = 1 → exec (.programRunNow t role h) s = .next ((u.triggerRun h.val).applied role kp)) ∧
    (okP 4 → p.trigger ≠ 1 → exec (.programRunNow t role h) s = noP)

/-- R187, R188, R234, R249, R250, R254 to R256. Accumulators and mode at the start of a tick are free values (log entry 16). -/
def Obligations.TicksSlicesAndTheScheduler : Prop :=
  ∀ (t : Nat) (g h : Fin 128) (r : PartRef) (q : PartSt) (s : State),
    let u := s.at t
    let p := u.prog h.val
    let at_ := u.hall / us
    let x := u.prog r.handle
    (exec (.fastTick t) s = .next
      (let w := u.forEach (List.range 8) (fun s d => if s.hall / us % (max 1 (s.nat (Obj.fastTickPeriod d))) = 0 then
          s.setNat (Obj.fastTickPeriod d) (pointTick (s.nat (Obj.operatingPoint d))) else s)
       w.forEach (w.pecan.progs.map (·.1)) State.tickProg)) ∧
    ((p.lane ≠ 1 ∨ p.state ≠ pgRunning ∨ at_ % u.progPeriod h.val ≠ 0) → u.tickProg h.val = u) ∧
    (p.lane = 1 → p.state = pgRunning → at_ % u.progPeriod h.val = 0 →
      let d := u.demandAll (p.parts.map (·.array))
      (p.primed = false → u.tickProg h.val = u.takeAll h.val p.ticks) ∧
      (p.primed = true → p.quiet = true → d.1 = true → u.tickProg h.val = (d.2.startTick h.val p.ticks).takeAll h.val (p.ticks + 1)) ∧
      (p.primed = true → p.quiet = false →
        u.tickProg h.val = (u.setProg h.val { p with skipped := (p.skipped + 1) % 2 ^ 32 }).takeAll h.val (p.ticks + 1))) ∧
    (u.curPart g.val = some (r, q) →
      let w := u.setProg r.handle { x with maxCycles := max x.maxCycles q.decl.declared }
      (x.lane = 1 → x.stopPending ≠ 3 → exec (.tickOverrun t g) s = .next (w.stopNow r.handle 0x78 pgStopped)) ∧
      (x.lane = 1 → x.stopPending = 3 → exec (.tickOverrun t g) s = .next (w.unload r.handle)) ∧
      (x.lane = 2 → x.stopPending ≠ 3 → exec (.sliceOverrun t g) s = .next (w.stopNow r.handle 0x79 pgStopped)) ∧
      (x.lane = 2 → exec (.tickOverrun t g) s = .next u) ∧ (x.lane = 1 → exec (.sliceOverrun t g) s = .next u)) ∧
    (u.curPart g.val = none → exec (.tickOverrun t g) s = .next u ∧ exec (.sliceOverrun t g) s = .next u) ∧
    (p.trigger = 2 → p.state = pgRunning → p.lastPeriodic + p.period * us ≤ u.hall →
      exec (.periodicTrigger t h) s = .next ((u.setProg h.val { p with lastPeriodic := p.lastPeriodic + p.period * us }).triggerRun h.val)) ∧
    (p.trigger ≠ 2 → exec (.periodicTrigger t h) s = .next u) ∧
    (exec (.schedulerTick t) s = .next
      (let w := u.forEach (u.pecan.progs.map (·.1)) State.rankRun
       (w.reserveArrays w.readyRuns).forEach w.readyRuns State.tryRun)) ∧
    (∀ (a : ArrSt) (pc n s15 s13 k : Nat) (d : Nat), d < 16 → n < 2 ^ 32 → s15 < 2 ^ 32 → s13 < 2 ^ 32 →
      (a.fresh r pc n s15 s13 k).sreg d = (if d = 14 then n else if d = 15 then s15 else if d = 13 then s13 else 0) ∧
      (a.fresh r pc n s15 s13 k).vregs = [] ∧ (a.fresh r pc n s15 s13 k).store = a.store ∧ (a.fresh r pc n s15 s13 k).pc = pc ∧
      (a.fresh r pc n s15 s13 k).cyc = 0)

/-- R440 to R444, R449, R454, R494, Tables 15.3 and 15.7. -/
def Obligations.RailsStartTripAndAreCalibrated : Prop :=
  ∀ (t mv ma mw : Nat) (r : Fin 16) (s : State),
    let u := s.at t
    let i := r.val
    let st := u.nat (Obj.railState i)
    let n := u.nat (Obj.activePhaseCount i)
    let q := u.rail i
    let late := u.now :: q.hiccups.filter (fun t => decide (u.now ≤ t + sec))
    let waiting := (railDoms i).filter (fun d => u.domState d = 2)
    let fault := fun (w : State) => w.raise (97 * (i / 8) + 6) 5 9 i (if 6 ≤ i % 8 then lvHalf else lvBlock)
    let d := railDie i
    let p := (u.diePt d).target
    (st = 1 → exec (.railPowerGood t r) s = .next (u.railUp i)) ∧
    (st ≠ 1 → exec (.railPowerGood t r) s = .next u) ∧
    (st = 2 → railLeast i < n → exec (.railPhaseShed t r) s = .next (u.setNat (Obj.activePhaseCount i) (n - 1))) ∧
    (st = 2 → n < railPhases i → exec (.railPhaseAdd t r) s = .next (u.setNat (Obj.activePhaseCount i) (n + 1))) ∧
    (st ≠ 2 → exec (.railPhaseShed t r) s = .next u ∧ exec (.railPhaseAdd t r) s = .next u ∧ exec (.railTargetReached t r) s = .next u ∧
      exec (.railOutsideWindow t r) s = .next u) ∧
    (st = 2 → n ≤ railLeast i → exec (.railPhaseShed t r) s = .next u) ∧
    (st = 2 → railPhases i ≤ n → exec (.railPhaseAdd t r) s = .next u) ∧
    (st = 1 ∨ st = 2 →
      (late.length < 3 →
        let w := ((u.count (Obj.hiccupEvents i)).railTrip i 3).railAbandon i
        exec (.railHiccup t r) s = .next (fault (w.setRail i { w.rail i with hiccups := late, retryAt := some (w.now + 20 * ms) }))) ∧
      (3 ≤ late.length →
        let w := ((u.count (Obj.hiccupEvents i)).railTrip i 5).railAbandon i
        exec (.railHiccup t r) s = .next (fault ((w.setRail i { w.rail i with hiccups := late, retryAt := none }).forEach waiting State.leftOff)))) ∧
    (st ≠ 1 → st ≠ 2 → exec (.railHiccup t r) s = .next u) ∧
    (∀ at_, q.retryAt = some at_ → st = 3 → (at_ ≤ u.now → exec (.railRetry t r) s = .next (u.startRail i)) ∧ (u.now < at_ → exec (.railRetry t r) s = .next u)) ∧
    (st ≠ 4 → st ≠ 0 →
      let w := ((u.count (Obj.ovEvents i)).railTrip i 4).railAbandon i
      exec (.railOverVoltage t r) s = .next (fault ((w.setRail i { w.rail i with retryAt := none }).forEach waiting State.leftOff))) ∧
    (st = 4 ∨ st = 0 → exec (.railOverVoltage t r) s = .next u) ∧
    (st = 2 → d < 8 → p ≠ u.nat (Obj.operatingPoint d) → exec (.railTargetReached t r) s = .next
      ((u.setNat (Obj.operatingPoint d) p).setNat (Obj.clockFrequency d) (pointKHz p))) ∧
    (st = 2 → exec (.railOutsideWindow t r) s = .next (u.raise (97 * (i / 8) + 6) 5 8 i lvBlock)) ∧
    (∃ v, exec (.railCalibration t r mv ma mw) s = .next v ∧ (v.rail i).measured = mw ∧
      (v.rail i).factor = factorStep q.factor mw (if q.estN = 0 then 0 else q.estSum / q.estN) ∧ (v.rail i).estSum = 0 ∧ (v.rail i).estN = 0) ∧
    (∀ (k : Rat) (m e : Nat), e ≠ 0 → 1 / 2 ≤ factorStep k m e ∧ factorStep k m e ≤ 2 ∧
      (1 / 2 ≤ k + ((m : Rat) / e - k) / 8 → k + ((m : Rat) / e - k) / 8 ≤ 2 → factorStep k m e = k + ((m : Rat) / e - k) / 8))

/-- R450 to R452, R455, R456, R464, R470. Rounding of the estimate, the carry of fractions and the owners' shares are the model's choices (log entry 60). -/
def Obligations.AlertsLimitsTemperaturesAndEnergy : Prop :=
  ∀ (t : Nat) (d : Fin 8) (c : Fin 64) (r : Reading) (s : State),
    let u := s.at t
    let p := u.pow
    let q := u.diePt d.val
    let low := u.now + 1 - p.alertLow + p.alertRest
    let avg := sumN p.estHist / p.estHist.length
    let awake := u.mode ≠ .off ∧ u.mode ≠ .ship ∧ u.boot.inReset = false
    (u.pins.ibcAlertLow = false →
      let a := if p.alertOn then u else u.count Obj.alertEvents
      exec (.supplyAlert t) s = .next (({ a with pins := { a.pins with ibcAlertLow := true }
                                                 pow := { a.pow with alertOn := true, alertLow := a.now + 1, holdUntil := 0 } } : State).forEach
        (List.range 8) (fun s d => (s.changePoint d 7).applyPoint d))) ∧
    (u.pins.ibcAlertLow = true → exec (.supplyAlert t) s = .next u ∧ ∃ v, exec (.ibcAlertRise t) s = .next v ∧ v.pins.ibcAlertLow = false ∧
      v.pow.alertLow = 0 ∧ v.pow.alertRest = low % 1000 ∧ v.pow.holdUntil = u.now + u.nat Obj.alertHoldTime * 1000 ∧
      v.nat Obj.alertTime = (u.nat Obj.alertTime + low / 1000) % 2 ^ 64 ∧ v = { u with objs := v.objs, pins := v.pins, pow := v.pow }) ∧
    (u.pins.ibcAlertLow = false → exec (.ibcAlertRise t) s = .next u) ∧
    (p.alertOn = true → u.pins.ibcAlertLow = false → p.holdUntil ≤ u.now →
      exec (.alertHoldEnd t) s = .next (({ u with pow := { p with alertOn := false } } : State).applyPoints)) ∧
    (p.alertOn = false → exec (.alertHoldEnd t) s = .next u) ∧
    (q.recoveryUntil ≠ 0 → q.recoveryUntil ≤ u.now →
      exec (.railRecoveryEnd t d) s = .next ((u.setDiePt d.val { q with recoveryUntil := 0 }).applyPoint d.val)) ∧
    (q.recoveryUntil = 0 → exec (.railRecoveryEnd t d) s = .next u) ∧
    (p.estHist ≠ [] → u.nat Obj.packagePowerLimit2D00 < avg → exec (.powerLimitCheck t) s = .next
      (({ u with pow := { p with limitFloor := min 7 ((if p.limitOn then p.limitFloor else u.fastestDie) + 1), limitOn := true } } : State).applyPoints)) ∧
    (p.estHist = [] → exec (.powerLimitCheck t) s = .next u) ∧
    (¬awake → exec (.housekeepingReading t c r) s = .next u) ∧
    (awake → c.val ≠ u.lastChan → (u.chanUnused c.val = true ∨ u.chanLost c.val = true ∨ u.readingFits c.val r = false) →
      exec (.housekeepingReading t c r) s = .next (u.setNat Obj.thermalState2E00 u.thermalStateNow)) ∧
    (awake → c.val ≠ (u.readChan c.val r).lastChan → u.chanUnused c.val = false → u.chanLost c.val = false → u.readingFits c.val r = true →
      exec (.housekeepingReading t c r) s = .next ((u.readChan c.val r).setNat Obj.thermalState2E00 (u.readChan c.val r).thermalStateNow)) ∧
    (q.thermalOn = true → u.throttled d.val = false → max q.lastThrottle q.lastRelax + u.nat Obj.throttleRelax * 1000 ≤ u.now →
      let f := q.thermalFloor - 1
      let w := (u.setDiePt d.val { q with thermalFloor := f, thermalOn := decide (f ≠ 0), lastRelax := u.now }).applyPoint d.val
      exec (.throttleRelax t d) s = .next (w.setNat Obj.thermalState2E00 w.thermalStateNow)) ∧
    (q.thermalOn = false → exec (.throttleRelax t d) s = .next u) ∧
    ∃ v, exec (.energyInterval t) s = .next v ∧ v.pow.rackSum = 0 ∧ v.pow.disSum = 0 ∧ v.pow.chgSum = 0 ∧ v.pow.wSum = [] ∧ v.pow.opened = [] ∧
      v.pow.ticks = 0 ∧ v.pow.rackRest = (p.rackSum.toNat + p.rackRest) % 1000 ∧ v.pow.disRest = (p.disSum.toNat + p.disRest) % 1000 ∧
      v.pow.chgRest = (p.chgSum.toNat + p.chgRest) % 1000 ∧ v.pow.pkgAcc = p.pkgAcc % 100000 ∧ v.mode = u.mode ∧ v.pool = u.pool ∧ v.out = u.out

/-- R384. The frame on the wire also keeps the ring busy for its time (R386). -/
def Obligations.RingCommandsTakeOneCounterEach : Prop :=
  (∀ (r : RingSt), (r.counter < 255 → r.nextCounter = r.counter + 1) ∧ (255 ≤ r.counter → r.nextCounter = 1) ∧ 1 ≤ r.nextCounter ∧
    r.nextCounter ≤ 255) ∧
  ∀ (t : Nat) (k : Fin 2) (c : RCmd) (q : List RCmd) (s : State),
    let u := s.at t
    let r := u.ring k.val
    let go := fun (c : RCmd) => (u.ringWorked k.val = true ∨ c.op = rgEnumerate) ∧ r.busyUntil ≤ u.now ∧ u.ringFits k.val c = true ∧ u.ringReady k.val c = true
    let busy := fun (c : RCmd) => u.now + ringFrameTime c.payload.length + (u.slicesOf k.val + 1) * us + 4 * us
    let sent := fun (c : RCmd) (r : RingSt) =>
      (u.setRing k.val { r with out := some c, busyUntil := busy c }).emit (.ringFrame k.val c.fromB c.bytes)
    (u.ringsRun = true → r.out = none → r.queue = c :: q → go c → c.op ≠ rgEnumerate →
      exec (.ringCommandIssue t k) s = .next
        (sent { c with counter := r.nextCounter, tries := 1, sentAt := u.now } { r with queue := q, counter := r.nextCounter })) ∧
    (u.ringsRun = true → r.out = none → r.queue = c :: q → go c → c.op = rgEnumerate →
      exec (.ringCommandIssue t k) s = .next (sent { c with counter := 0, tries := 1, sentAt := u.now } { r with queue := q })) ∧
    ((u.ringsRun = false ∨ r.out ≠ none ∨ r.queue = [] ∨ u.now < r.busyUntil) → exec (.ringCommandIssue t k) s = .next u) ∧
    (r.out = some c → c.sentAt + u.ringPatience k.val c ≤ u.now → c.tries < 3 → u.ringFits k.val c = true →
      exec (.responseTimeout t k) s = .next
        ((({ sent { c with tries := c.tries + 1, sentAt := u.now } r with out := u.out } : State).count (Obj.retransmissions2B10 (k.val + 1))).emit
          (.ringFrame k.val c.fromB c.bytes))) ∧
    (∀ (w : State) (delay length : Nat), ((w.sendMeasure k.val delay length).ring k.val).counter = (w.ring k.val).nextCounter) ∧
    (∀ (f : RingSt), (u.setRing k.val f).ring (1 - k.val) = u.ring (1 - k.val))

/-- R380, R386 to R388, R390, R397, Tables 13.3, 13.4 and 13.6. The delay and the length are operands: what the module computes from its PR sequence (R389). -/
def Obligations.MeasurementsAndResponsesOnTheRings : Prop :=
  ∀ (t delay length : Nat) (k : Fin 2) (atB : Bool) (b : List Nat) (c : RCmd) (s : State),
    let u := s.at t
    let r := u.ring k.val
    let due := u.operated.filter u.measureDue
    let p := slice b 5 (listGet 0 b 4)
    let h := fun (i : Nat) => listGet 0 b i
    let crc := u.count (Obj.crcErrors (k.val + 1))
    let wrong := u.count (Obj.counterMismatches (k.val + 1))
    let hit := c.isBroadcast = false ∧ h 1 = c.addr ∧ h 2 = c.counter ∧ h 3 = c.op
    let acks := beNat (slice p (p.length - 3) 3)
    let mine := c.isBroadcast = true ∧ h 0 = 64 + (if c.fromB then 32 else 0) ∧ h 1 = c.addr ∧ h 2 = c.counter ∧ h 3 = c.op
    let late := r.out = some c ∧ c.sentAt + u.ringPatience k.val c ≤ u.now ∧ 3 ≤ c.tries
    let quiet := u.ringsRun = true ∧ u.portOk k.val atB = true ∧ r.asleep = false ∧ r.busyUntil ≤ u.now
    (u.ringsRun = true → due ≠ [] → 2000 ≤ delay → delay ≤ 20000 → 200 ≤ length → length ≤ 65535 →
      exec (.measurementCycle t delay length) s = .next ((u.forEach due (fun s k => s.sendMeasure k delay length)).count Obj.measurementCycles)) ∧
    ((u.ringsRun = false ∨ due = [] ∨ delay < 2000 ∨ 65535 < length) → exec (.measurementCycle t delay length) s = .next u) ∧
    (∀ (w : State),
      let m := (w.sendMeasure k.val delay length).ring k.val
      m.measId = ((w.ring k.val).measId + 1) % 256 ∧ m.cycleAt = some w.now ∧ m.prevMeas = (w.ring k.val).meas ∧
      m.meas.id = m.measId ∧ m.meas.start = w.now + 72000 + delay * 50 ∧ m.meas.stop = m.meas.start + length * 50) ∧
    (ringFrameOk b = false → r.out = none → exec (.ringResponse t k b) s = .next crc) ∧
    (ringFrameOk b = false → r.out = some c →
      exec (.ringResponse t k b) s = .next (crc.setRing k.val { r with out := some { c with sawCrc := true } }) ∧
      exec (.ringFrameReturn t k atB b) s = .next (crc.setRing k.val { r with out := some { c with sawCrc := true } })) ∧
    (ringFrameOk b = true → ringReserved b = false → h 0 / 64 = 2 → r.out = some c → ¬hit →
      exec (.ringResponse t k b) s = .next (wrong.setRing k.val { r with out := some { c with sawMismatch := true } })) ∧
    (ringFrameOk b = true → ringReserved b = false → h 0 / 64 = 2 → r.out = some c → hit → listGet 0 p 0 = 0 →
      exec (.ringResponse t k b) s = .next (((u.ringDone k.val).ringAccept k.val c p).ringResult k.val c c.addr (ringCode c p) 0)) ∧
    (ringFrameOk b = true → ringReserved b = false → h 0 / 64 = 2 → r.out = some c → hit → listGet 0 p 0 ≠ 0 → c.op ≠ rgReadCells →
      exec (.ringResponse t k b) s = .next ((u.ringDone k.val).ringResult k.val c c.addr 0x95 (listGet 0 p 0))) ∧
    (late → c.op ≠ rgEnumerate → c.op ≠ rgReadCells → c.isBroadcast = false → exec (.responseTimeout t k) s = .next
      ((u.ringDone k.val).ringResult k.val c c.addr (if c.sawMismatch then 0x92 else if c.sawCrc then 0x91 else 0x90) 0)) ∧
    (late → c.op ≠ rgEnumerate → c.isBroadcast = true → exec (.responseTimeout t k) s = .next (u.broadcastDone k.val c 0)) ∧
    (ringFrameOk b = true → ringReserved b = false → r.out = some c → mine → c.op ≠ rgEnumerate → atB = (c.fromB || decide (u.ringMode k.val = rmClosed)) →
      (((u.reachedBy k.val c.fromB).all (fun a => bitOf acks (a - 1)) = true ∨ 3 ≤ c.tries) →
        exec (.ringFrameReturn t k atB b) s = .next (u.broadcastDone k.val c acks)) ∧
      ((u.reachedBy k.val c.fromB).all (fun a => bitOf acks (a - 1)) = false → c.tries < 3 →
        exec (.ringFrameReturn t k atB b) s = .next (u.ringRetry k.val c))) ∧
    (ringFrameOk b = true → ringReserved b = false → r.out = some c → mine → c.op = rgEnumerate →
      exec (.ringFrameReturn t k atB b) s = .next ((u.ringDone k.val).enumReturn k.val c.fromB atB (listGet 0 p 0 - 1))) ∧
    (quiet → exec (.linkPulse t k atB) s = .next
      ((u.setRing k.val (if atB then { r with pulseB := u.now } else { r with pulseA := u.now })).emit (.linkPulse k.val atB))) ∧
    (¬quiet → exec (.linkPulse t k atB) s = .next u)

/-- R387, R395, R398 to R402. Breaks are counted in Closed mode only: the model's reading (log entry 59 gives the class and code of the fault). -/
def Obligations.RingsBreakCloseReconnectAndBalance : Prop :=
  ∀ (t : Nat) (k : Fin 2) (s : State),
    let u := s.at t
    let r := u.ring k.val
    let worked := u.ringWorked k.val = true
    let closed := u.ringMode k.val = rmClosed
    let both := u.ringMode k.val = rmSplit ∧ u.portOk k.val false = true ∧ u.portOk k.val true = true
    let f := ((u.setRing k.val { r with measFault := true, releasedSince := 0 }).count (Obj.measurementFaults (k.val + 1)))
    let conn := (u.mode = .ready ∨ u.mode = .shaping) ∧ u.operated.contains k.val = true ∧ (u.str k.val).conn = .opened ∧ u.staleCell k.val = none
    let due := r.releasedSince ≠ 0 ∧ r.releasedSince - 1 + sec ≤ u.now ∧ (r.lastAttempt = 0 ∨ r.lastAttempt - 1 + 60 * sec ≤ u.now)
    let tried := (u.setRing k.val { r with lastAttempt := u.now + 1 }).startConnect k.val
    let runs := u.fidelityModes = true ∨ u.mode = .standby ∨ u.mode = .seed
    (worked → closed → exec (.ringBreak t k) s = .next
      ((((u.count (Obj.ringBreaks (k.val + 1))).raise (u.block (blRing1 + k.val)) clCommunication 5 (k.val + 1) lvBlock).ringAbort k.val).ringRestart k.val)) ∧
    (worked → ¬closed → exec (.ringBreak t k) s = .next ((u.ringAbort k.val).ringRestart k.val)) ∧
    (¬worked → exec (.ringBreak t k) s = .next u) ∧
    (∀ (w : State) (p : Bool), w.portOk k.val p = true → (w.portOk k.val false = true → p = false) →
      let e : RCmd := { op := rgEnumerate, addr := 0, payload := [1, 0, 0, 0], fromB := p }
      w.ringRestart k.val = (w.setRingMode k.val rmEnumerating).setRing k.val
        { w.ring k.val with enumerating := true, queue := e :: (w.ring k.val).queue }) ∧
    (both → ∃ v, exec (.ringClose t k) s = .next v ∧ v.ringMode k.val = rmClosed ∧ v.nat (Obj.breakAfter (k.val + 1)) = 0 ∧
      (v.ring k.val).reachA = u.slicesOf k.val ∧ (v.ring k.val).out = none ∧ v = { u with objs := v.objs, stack := v.stack }) ∧
    (¬both → exec (.ringClose t k) s = .next u) ∧
    (worked → r.enumerating = false → exec (.sliceReenumerate t k) s = .next (u.ringEnumerate k.val (u.ringMode k.val = rmSingleB))) ∧
    (¬worked → exec (.sliceReenumerate t k) s = .next u) ∧
    (∀ (w : State) (n : Nat) (p q : Bool), w.operated.contains k.val = true → w.slicesOf k.val < n →
      let v := w.enumReturn k.val p q n
      v = w.ringMismatch k.val p ∧ v.ringMode k.val = rmConfigMismatch ∧ (v.ring k.val).queue = [] ∧ v.ringWorked k.val = false) ∧
    (u.staleCell k.val = none → exec (.stackMeasurementFault t k) s = .next u) ∧
    (r.measFault = true → exec (.stackMeasurementFault t k) s = .next u) ∧
    (∀ (c : Nat), u.staleCell k.val = some c → u.operated.contains k.val = true → r.measFault = false → u.ringsRun = true → u.stack.cal.string ≠ k.val + 1 →
      let v := f.raise (f.block (blRing1 + k.val)) clSense 5 c lvBlock
      exec (.stackMeasurementFault t k) s = .next (if v.fidelityModes then (v.openFor k.val true 0).updateShares.refreshClamps else v)) ∧
    (conn → due → exec (.stringReconnect t k) s = .next (if tried.1 = 0 then tried.2 else tried.2.connectResult k.val tried.1)) ∧
    ((¬conn ∨ ¬due) → exec (.stringReconnect t k) s = .next u) ∧
    (runs → exec (.balanceInterval t) s = .next (u.forEach u.operated (fun s k => if s.ringWorked k then s.balanceString k else s))) ∧
    (¬runs → exec (.balanceInterval t) s = .next u) ∧
    (∀ (w : State) (a : Nat) (l : List (Option Rat)) (m : Rat), (w.nat Obj.balanceTempLimit : Int) * 10 ≤ w.sliceHottest (sliceIdx k.val a) →
      w.balanceWant k.val a l m = 0)

/-- R132, Table 5.3. -/
def Obligations.WordOperationsFollowTheirTable : Prop :=
  ∀ (t : Nat) (f : Frame) (s : State),
    let u := s.at t
    let w := frameWord f
    let p := u.word w
    let go := fun (op : Nat) => u.syncService = true ∧ f.payload.length = (if op = 0x25 then 8 else 0) ∧ u.wordCheck op w f.tenant = none ∧
      u.queueCheck op w f.tenant f.operand = none
    let done := fun (q : PWord) => Host.Outcome.next (φ := Fault) (ρ := Refusal) ((u.putWord w q).syncResponse f 0 p.data q.full q.gen)
    let no := fun (c : Nat) => Host.Outcome.next (φ := Fault) (ρ := Refusal) (u.syncResponse f c p.data p.full p.gen)
    (go 0x20 → exec (.writeIfEmptyFill t f) s = if p.full then no 0x41 else done { p with data := f.operand, full := true }) ∧
    (go 0x21 → exec (.consume t f) s = if p.full then done { p with data := 0, full := false, gen := (p.gen + 1) % 65536 } else no 0x40) ∧
    (go 0x22 → exec (.readLeaveFull t f) s = if p.full then done p else no 0x40) ∧
    (go 0x23 → exec (.forcedWrite t f) s = done { p with data := f.operand, full := true, gen := (p.gen + 1) % 65536 }) ∧
    (go 0x24 → exec (.fetchAdd t f) s = done { p with data := (p.data + f.operand) % 2 ^ 64 }) ∧
    (go 0x25 → exec (.compareSwap t f) s =
      if p.data = f.operand then done { p with data := leNat (f.payload.take 8) } else no 0x42) ∧
    (∀ (c : Nat), u.syncService = true → f.payload = [] → u.wordCheck 0x24 w f.tenant = some c → exec (.fetchAdd t f) s = no c) ∧
    (∀ (c : Nat), u.syncService = true → f.payload = [] → u.wordCheck 0x24 w f.tenant = none → u.queueCheck 0x24 w f.tenant f.operand = some c →
      exec (.fetchAdd t f) s = no c) ∧
    (u.syncService = false → exec (.consume t f) s = no 0x0B) ∧
    (∀ (v : State) (q : PWord) (x : Nat), (v.putWord w q).word x = if x = w then q else v.word x) ∧
    (∀ (v : State) (r d g : Nat) (b : Bool), v.syncResponse f r d b g = v.sendReturn f.srcShelf f.srcEp 0
      { op := opSyncResponse, tenant := f.tenant, result := r, tid := f.tid, full := b, gen := g, addr := routeAddr f.srcShelf f.srcEp 0
        operand := d, srcShelf := v.nat Obj.shelfNumber, srcEp := 0x1000 })

/-- R128, R131, R143 to R145, R148, R149, R494, Tables 5.2, 5.9 to 5.11a. -/
def Obligations.WatchesRegisterFireAndCancel : Prop :=
  ∀ (t x : Nat) (f : Frame) (single : List Nat) (s : State),
    let u := s.at t
    let v := addrOffset f.addr / 32
    let e := u.desc v
    let d := watchOf f.payload e.tenant
    let a := (u.setDesc v d).syncWord f 0 d.word
    let q := u.word x
    (∀ (c : Nat), u.watchRefused v f = some c → exec (.watchRegister t f) s = .next (u.syncResponse f c 0 false 0)) ∧
    (u.watchRefused v f = none →
      exec (.watchRegister t f) s = .next (if watchTrue d (a.word d.word) then a.fireWatch v (a.word d.word) else a)) ∧
    (u.syncService = true → f.payload.length = 32 → addrOffset f.addr % 32 = 0 → u.watchRows v f.tenant = none → e.armed = true →
      u.watchRefused v f = some 0x50) ∧
    (∀ (g : WDesc) (w : PWord), g.cond = 1 → watchTrue g w = w.full) ∧
    (∀ (g : WDesc) (w : PWord), g.cond = 2 → watchTrue g w = !w.full) ∧
    (∀ (g : WDesc) (w : PWord), g.cond = 3 → (watchTrue g w = true ↔ g.threshold ≤ w.data)) ∧
    (∀ (g : WDesc) (w : PWord), g.cond = 4 → (watchTrue g w = true ↔ toSigned 64 g.threshold ≤ toSigned 64 w.data)) ∧
    (∀ (g : WDesc) (w : PWord), g.cond = 5 → (watchTrue g w = true ↔ w.data = g.threshold)) ∧
    (∀ (g : WDesc) (w : PWord), g.cond = 6 → (watchTrue g w = true ↔ w.gen ≠ g.ref)) ∧
    (∀ (g : WDesc) (w : PWord), g.cond = 7 → (watchTrue g w = true ↔ (w.gen + 65536 - g.ref) % 65536 < 32768)) ∧
    (∀ (y : State) (w : PWord) (k : Nat), ((y.fireWatch k w).desc k).armed = (y.desc k).persistent) ∧
    (∀ (y : State) (w : PWord) (k : Nat), (y.fireWatch k w).pool.words = y.pool.words) ∧
    (∀ (y : State) (w : Nat) (p : PWord), p.data = (y.word w).data → p.full = (y.word w).full → p.gen = (y.word w).gen →
      y.putWord w p = y.setWord w p) ∧
    (u.syncService = true → f.payload = [] → addrOffset f.addr % 32 = 0 → u.watchRows v f.tenant = none →
      exec (.watchCancel t f) s = .next (if e.armed then (u.disarm v).syncWord f 0 e.word else u.syncResponse f 0x51 0 false 0)) ∧
    (∀ (c : Nat), u.syncService = true → f.payload = [] → addrOffset f.addr % 32 = 0 → u.watchRows v f.tenant = some c →
      exec (.watchCancel t f) s = .next (u.syncResponse f c 0 false 0)) ∧
    (∃ y, exec (.poolScan t single [] []) s = .next y ∧ (∀ w, y.word w = u.word w) ∧ y = { u with pool := { u.pool with words := y.pool.words } }) ∧
    (q.alloc = true → q.poisoned = false → u.poolLost (x / 131072) = false → exec (.poolScan t [] [x] []) s = .next
      ((u.setWord x { q with poisoned := true }).raise (97 * (x / 131072) + 16) 1 2 x lvBlock)) ∧
    ((u.desc x).alloc = true → u.watchLost (x / 32768) = false →
      exec (.poolScan t [] [] [x]) s = .next (u.raise (97 * (x / 32768) + 17) 1 2 x lvBlock true))

/-- R150 to R152, R155, R163, R165, Tables 5.2 and 5.12. -/
def Obligations.ArrivalsCountAndReleasesAreReleased : Prop :=
  ∀ (t : Nat) (f : Frame) (link : Fin 36) (before after : Int) (s : State),
    let u := s.at t
    let w := frameWord f
    let p := u.word w
    let pre := u.syncService = true ∧ f.payload = [] ∧ u.wordCheck opArrive w f.tenant = none
    let slot := u.domSlot (f.operand / 2 ^ 48)
    let ahead := (f.operand / 2 ^ 32 + 65536 - p.gen) % 65536
    let no := fun (c : Nat) => Host.Outcome.next (φ := Fault) (ρ := Refusal) (u.syncResponse f c p.data p.full p.gen)
    let ep := f.operand / 2 ^ 32 % 65536
    let iv := u.nat Obj.waveInterval * 1000
    let tick := u.pool.pending ≠ [] ∧ u.pool.tickFrom < u.now ∧ (u.now - u.pool.tickFrom) % max 1 iv = 0
    let lr := smGet (fun _ => {}) u.pool.learn link.val
    let eps := lr.eps.eraseDups
    let r0 : Rat := ((after - before : Int) : Rat) / (u.weightSum eps : Rat)
    let ratio : Rat := max (1 / 4) (min 4 r0)
    let learns := u.nat Obj.weightLearning = 1 ∧ eps ≠ [] ∧ lr.lastAt + 40000 ≤ u.now
    (pre → slot = none → exec (.arrive t f) s = no 0x4C) ∧
    (∀ (i : Nat), slot = some i → pre →
      let d := u.dom i
      (d.state = 4 → exec (.arrive t f) s = no 0x4E) ∧
      (d.state = 5 → exec (.arrive t f) s = no 0x4D) ∧
      ((d.state = 1 ∨ d.state = 2) → exec (.arrive t f) s = no 0x4C) ∧
      (d.state = 3 → u.nodeFor d f w = none → exec (.arrive t f) s = no 0x52) ∧
      (d.state = 3 → u.nodeFor d f w ≠ none → 1 ≤ ahead → ahead ≤ 32767 → exec (.arrive t f) s = no 0x4A) ∧
      (d.state = 3 → u.nodeFor d f w ≠ none → 32768 ≤ ahead → exec (.arrive t f) s = no 0x49) ∧
      (∀ (n : TrayNode), d.state = 3 → u.nodeFor d f w = some (.tray n) → ahead = 0 → n.arrived.contains f.srcEp = true →
        exec (.arrive t f) s = no 0x4B) ∧
      (∀ (n : TrayNode), d.state = 3 → u.nodeFor d f w = some (.tray n) → ahead = 0 → n.arrived.contains f.srcEp = false →
        exec (.arrive t f) s = .next ((u.syncResponse f 0 p.data p.full (if n.count ≤ p.data + 1 then (p.gen + 1) % 65536 else p.gen)).arriveTray i n
          f.srcEp)) ∧
      (∀ (n : HallNode), d.state = 3 → u.nodeFor d f w = some (.hall n) → ahead = 0 → n.arrived.contains f.srcShelf = false →
        exec (.arrive t f) s = .next ((u.syncResponse f 0 p.data p.full
          (if n.children.length ≤ p.data + 1 then (p.gen + 1) % 65536 else p.gen)).arriveHall i n f.srcShelf p.gen))) ∧
    (∀ (y : State) (i e : Nat) (n : TrayNode), (y.word n.word).data + 1 < n.count →
      let z := y.arriveTray i n e
      (z.word n.word).data = (y.word n.word).data + 1 ∧ (z.word n.word).gen = (y.word n.word).gen ∧ ∀ x, x ≠ n.word → z.word x = y.word x) ∧
    (∀ (y : State) (x : Nat), ((y.nodeReset x).word x).data = 0 ∧ ((y.nodeReset x).word x).gen = ((y.word x).gen + 1) % 65536 ∧
      ∀ z, z ≠ x → (y.nodeReset x).word z = y.word z) ∧
    (slot = none → exec (.release t f) s = .next u) ∧
    (∀ (i : Nat), slot = some i →
      let d := u.dom i
      let top := if d.halls.isEmpty then 0 else (d.halls.map (·.level)).foldl max 0
      let mine := d.state = 3 ∧ d.hallRelease = some ep ∧ u.parentOf d top = some f.srcShelf ∧ f.srcEp = 0x1000
      (mine → exec (.release t f) s = .next (u.releaseDown i ep)) ∧ (¬mine → exec (.release t f) s = .next u)) ∧
    (tick → exec (.waveInterval t) s = .next u.runWaves) ∧ (¬tick → exec (.waveInterval t) s = .next u) ∧
    (learns → exec (.weightUpdate t link before after) s = .next
      (let v := u.forEach eps (fun s e => s.setWeight e (learnWeight (s.weight e) ratio))
       { v with pool := { v.pool with learn := smErase v.pool.learn link.val } })) ∧
    (¬learns → exec (.weightUpdate t link before after) s = .next u) ∧
    (∀ (x : Nat) (r : Rat), 1 ≤ learnWeight x r ∧ learnWeight x r ≤ 65535)

/-- R129, R134 to R136, R138, R139, R141, R142, Tables 5.6 and 5.7. -/
def Obligations.TenantsOpenCloseAndHoldResources : Prop :=
  ∀ (t : Nat) (role : Role) (k : Fin 64) (req val : List Nat) (s : State),
    let u := s.at t
    let kc := Obj.tenantCommand k.val
    let ka := Obj.allocRequest k.val
    let kw := Obj.wordSet
    let st := u.nat (Obj.tenantState k.val)
    let tag := u.nat (Obj.tenantTag k.val)
    let cmd := fun (v : Nat) => u.accepts role kc (numBytes kc v)
    let b := fun (op : Nat) => withByte 0 op req
    let okb := fun (op : Nat) => u.accepts role ka (b op) ∧ allocBad (b op) = 0
    let run := fun (v : State) => Host.Outcome.next (φ := Fault) (ρ := Refusal) (v.applied role ka)
    let shut := fun (op : Nat) => run (u.allocDone k.val op 0x57 0 0)
    let w := leNat (slice val 0 4)
    let p := u.word w
    let full := bitOf (listGet 0 val 4) 0
    let gen := leNat (slice val 6 2)
    (cmd 1 → (u.tenantOpenCmd k.val).1 = 0 → exec (.tenantOpen t role k) s = .next ((u.tenantOpenCmd k.val).2.applied role kc)) ∧
    (cmd 1 → (st ≠ 0 ∨ tag = 0 ∨ tag = 255 ∨ (u.slotOf tag).isSome = true) → exec (.tenantOpen t role k) s = .next (u.declined kc 0x08000022)) ∧
    (cmd 2 → st = 1 → u.domsOf tag = [] → exec (.tenantClose t role k) s = .next (((u.tenantLeave k.val).tenantFinish k.val).applied role kc)) ∧
    (cmd 2 → (st ≠ 1 ∨ u.domsOf tag ≠ []) → exec (.tenantClose t role k) s = .next (u.declined kc 0x08000022)) ∧
    (cmd 3 → st = 1 → exec (.tenantForceClose t role k) s = .next ((u.tenantForceCmd k.val).2.applied role kc)) ∧
    (cmd 3 → st ≠ 1 → exec (.tenantForceClose t role k) s = .next (u.declined kc 0x08000022)) ∧
    (u.served .coe = true → exec (.clearQuarantine t .operator k) s = .next (u.declined kc 0x06010000)) ∧
    (cmd 4 → role = .service → st = 3 →
      let l := (u.pool.words.filter (fun e => e.2.quarantined && e.2.tenant = tag)).map (·.1)
      exec (.clearQuarantine t role k) s = .next
        ((((u.forEach l (fun s w => s.setWord w {})).setNat (Obj.leftoverWords k.val) 0).setNat (Obj.tenantState k.val) 0).applied role kc)) ∧
    (cmd 4 → role = .service → st ≠ 3 → exec (.clearQuarantine t role k) s = .next (u.declined kc 0x08000022)) ∧
    (okb 1 → exec (.allocateWords t role k req) s = if st = 1 then run (u.allocWordsOp k.val (b 1)) else shut 1) ∧
    (okb 2 → exec (.freeWords t role k req) s = if st = 1 then run (u.freeWordsOp k.val (b 2)) else shut 2) ∧
    (okb 3 → exec (.declareQueue t role k req) s = if st = 1 then run (u.declareQueueOp k.val (b 3)) else shut 3) ∧
    (okb 4 → exec (.undeclareQueue t role k req) s = if st = 1 then run (u.undeclareQueueOp k.val (b 4)) else shut 4) ∧
    (okb 5 → exec (.allocateDescriptors t role k req) s = if st = 1 then run (u.allocDescsOp k.val (b 5)) else shut 5) ∧
    (okb 6 → exec (.freeDescriptors t role k req) s = if st = 1 then run (u.freeDescsOp k.val (b 6)) else shut 6) ∧
    (∀ (v : State) (x : List Nat), v.nat (Obj.wordQuota k.val) < (v.wordsOf (v.nat (Obj.tenantTag k.val))).length + leNat (slice x 4 4) →
      v.allocWordsOp k.val x = v.allocDone k.val 1 0x53 0 0) ∧
    (∀ (v : State) (base n g m x : Nat), (v.allocWords base n g m).word x =
      if base ≤ x ∧ x < base + n then { alloc := true, tenant := g, managed := m } else v.word x) ∧
    (∀ (v : State) (x : List Nat) (c : Nat), v.freeRefused (v.nat (Obj.tenantTag k.val)) (leNat (slice x 8 4)) (leNat (slice x 4 4)) = some c →
      v.freeWordsOp k.val x = v.allocDone k.val 2 c (leNat (slice x 8 4)) 0) ∧
    (∀ (v : State) (x : Nat), (v.word x).quarantined = false → v.wordLost x = false → wordClean (v.word x) = false →
      (v.freeWord x).1 = 1 ∧ ((v.freeWord x).2.word x).quarantined = true ∧ ((v.freeWord x).2.word x).data = (v.word x).data) ∧
    (u.accepts role kw val → val.length = 16 → listGet 0 val 4 ≤ 1 → listGet 0 val 5 = 0 → w < 262144 → p.alloc = true → u.wordLost w = false →
      p.managed = 0 → exec (.wordSet t role val) s = .next
        ((((u.putWord w { p with data := leNat (slice val 8 8), full := full, gen := gen, poisoned := false }).event
          (97 * (w / 131072) + 16) 12 w).applied role kw))) ∧
    (u.accepts role kw val → val.length = 16 → listGet 0 val 4 ≤ 1 → listGet 0 val 5 = 0 → w < 262144 →
      (p.alloc = false ∨ u.wordLost w = true ∨ (p.managed ≠ 0 ∧ (full ≠ p.full ∨ gen ≠ p.gen))) →
      exec (.wordSet t role val) s = .next (u.declined kw 0x08000022))

/-- R139, R156 to R158, R160, R161. -/
def Obligations.DomainsAreCreatedAndClosedInStages : Prop :=
  ∀ (t shelf id : Nat) (role : Role) (x : Fin 128) (b : List Nat) (s : State),
    let u := s.at t
    let kc := Obj.domainCreate
    let kx := Obj.domainClose
    let own := u.own
    let c : Creation := { desc := b, id := descId b, tenant := descTenant b, members := (descShelves b).map (·.1) }
    let s1 := (u.setCreate (some c)).createStage c 2
    let r := s1.memberStage 1 own (descId b) b
    let nid := leNat (slice b 2 2)
    let told := fun (n : Nat) => listGet 0 b 0 = n ∧ 8 ≤ b.length ∧ anyNonzero (slice b 4 4) = false ∧ (n < 6 → listGet 0 b 1 = shelf)
    let ans := fun (n : Nat) (v : State) => Host.Outcome.next (φ := Fault) (ρ := Refusal) (v.refreshStep.emit (.answer n Obj.domainPeer))
    let d := u.dom x.val
    (u.accepts role kc b → u.createBusy = true → exec (.domainCreate t role b) s = .next
      ((u.setDomainResult (descId b) 0x5B own 1).refreshStep.declined kc 0x08000022)) ∧
    (∀ (e : Nat), u.accepts role kc b → u.createBusy = false → descCheck own b = some e → exec (.domainCreate t role b) s = .next
      ((u.setDomainResult (descId b) e own 1).refreshStep.applied role kc)) ∧
    (u.accepts role kc b → u.createBusy = false → descCheck own b = none → exec (.domainCreate t role b) s = .next
      ((if r.1 = 0 then State.createAnswer 4 r.2 own else r.2.createFail r.1 own).refreshStep.applied role kc)) ∧
    (∀ (i : Nat), u.accepts role kx (numBytes kx id) → id < 65536 → u.domSlot id = some i → (u.dom i).home = own →
      ((u.dom i).state = 3 ∨ (u.dom i).state = 4) → exec (.domainClose t role id) s = .next
        ((((u.forEach ((u.dom i).members.filter (· != own)) (fun s m =>
          if (s.route m 0).isSome then (s.sendNotice m 5 s.own id []).2 else s)).memberClose i true).refreshStep).applied role kx)) ∧
    (u.accepts role kx (numBytes kx id) → id < 65536 → u.domSlot id = none → exec (.domainClose t role id) s = .next
      (u.refreshStep.declined kx 0x08000022)) ∧
    (listGet 0 b 0 = 1 → 8 ≤ b.length → anyNonzero (slice b 4 4) = false → listGet 0 b 1 ≠ shelf →
      exec (.domainPrepare t shelf b) s = .next (u.emit (.answer 0x05 Obj.domainPeer))) ∧
    (told 1 → descCheck own (b.drop 8) = none →
      let q := u.memberStage 1 shelf (descId (b.drop 8)) (b.drop 8)
      exec (.domainPrepare t shelf b) s = .next (q.2.emit (.answer q.1 Obj.domainPeer))) ∧
    (∀ (i : Nat), u.domSlot nid = some i →
      (told 2 → exec (.domainCommit t shelf b) s = if (u.dom i).state = 1 then ans 0 (u.memberCommit i) else ans 0x0B u) ∧
      (told 3 → exec (.domainOpen t shelf b) s = if (u.dom i).state = 2 then ans 0 (u.memberOpen i) else ans 0x0B u) ∧
      (told 4 → exec (.domainAbort t shelf b) s = ans 0 (if (u.dom i).state = 1 ∨ (u.dom i).state = 2 then u.memberAbort i else u)) ∧
      (told 5 → ((u.dom i).state = 3 ∨ (u.dom i).state = 4) → exec (.domainCloseNotice t shelf b) s = ans 0 (u.memberClose i (decide (shelf = own)))) ∧
      (told 6 → exec (.domainBrokenNotice t shelf b) s = ans 0 (u.breakDomain i false))) ∧
    (u.domSlot nid = none → (told 2 → exec (.domainCommit t shelf b) s = ans 0x0B u) ∧ (told 3 → exec (.domainOpen t shelf b) s = ans 0x0B u) ∧
      (told 4 → exec (.domainAbort t shelf b) s = ans 0 u)) ∧
    (∀ (y : State) (i : Nat), ((y.memberCommit i).dom i).state = 2 ∧ ((y.memberOpen i).dom i).state = 3 ∧ (y.memberAbort i).dom i = {} ∧
      ((y.memberClose i true).dom i).state = 5 ∧ (((y.dom i).state = 3 ∨ (y.dom i).state = 2) → ((y.breakDomain i false).dom i).state = 4)) ∧
    (∀ (e : Creation) (m : Nat), u.pool.create = some e → e.failed = none → e.since + 10000000 ≤ u.now →
      e.members.find? (fun y => !e.answered.contains y) = some m → exec (.peerTimeout t) s = .next (u.createFail 0x58 m).refreshStep) ∧
    (u.pool.create = none → exec (.peerTimeout t) s = .next u) ∧
    (d.state = 1 → d.prepSince + 100000000 ≤ u.now → exec (.prepareExpiry t x) s = .next (u.memberAbort x.val)) ∧
    ((d.state ≠ 1 ∨ u.now < d.prepSince + 100000000) → exec (.prepareExpiry t x) s = .next u) ∧
    (∀ (y : Nat), d.closedAt = some y → d.state = 5 → y + 1000000000 ≤ u.now → u.slotOf d.tenant = none →
      exec (.trayNodeFree t x) s = .next (u.domainFree x.val)) ∧
    ((d.closedAt = none ∨ d.state ≠ 5) → exec (.trayNodeFree t x) s = .next u)

/-- R91 to R93, R95, R96, R127, Tables 4.8 and 4.15. -/
def Obligations.LinksComeUpAndSendWithinCredits : Prop :=
  ∀ (t i : Nat) (n : Fin 52) (f : Frame) (cor unc : Nat) (s : State),
    let u := s.at t
    let k := n.val
    let l := u.lane k
    let st := u.laneState k
    let b := f.payload
    let cr := fun (i : Nat) => beNat (slice b (8 + 2 * i) 2)
    let shaped := l.pcs = true ∧ b.length = 32 ∧ listGet 0 b 1 / 2 = 0 ∧ listGet 0 b 2 = 0 ∧ anyNonzero (slice b 20 12) = false
    let r := u.initReason k b
    let met := (u.setLaneState k 2 0).setLane k { l with
      peerSeen := true, gotSeen := l.gotSeen || bitOf (listGet 0 b 1) 0, adv := { v0 := cr 0, v1 := cr 1, v2 := cr 2, v3 := cr 3 }
      maxPayload := beNat (slice b 16 2) }
    let c := u.codewords k cor unc
    let due := (∃ x, l.unreportedSince = some x ∧ x + 500 ≤ u.now) ∨ l.lastCredit + 10000 ≤ u.now
    (st = 1 → l.cageRefused = false → exec (.pcsLock t n) s = .next
      (((u.setLaneState k 2 0).setLane k { pcs := true, lastInit := u.now, ether := u.nat Obj.etherType, shelf := u.nat Obj.shelfNumber
                                           domain := u.nat Obj.hallDomainId, dims := u.nat Obj.hallDimensions }).sendInit k)) ∧
    (st ≠ 1 → exec (.pcsLock t n) s = .next u) ∧
    (l.pcs = true → (st = 2 ∨ st = 4) → l.lastInit + 10000 ≤ u.now → exec (.linkInitTimer t n) s = .next (u.sendInit k)) ∧
    ((l.pcs = false ∨ u.now < l.lastInit + 10000) → exec (.linkInitTimer t n) s = .next u) ∧
    (shaped → (st = 2 ∨ st = 4) → r ≠ 0 → u.nat (Obj.linkState k) ≠ r * 256 + 4 →
      let v := (u.setLaneState k 4 r).setLane k { l with peerSeen := true, gotSeen := false }
      exec (.linkInit t n f) s = .next (v.raise (v.laneBlock k) clConfig r k lvBlock)) ∧
    (shaped → (st = 2 ∨ st = 4) → r = 0 →
      exec (.linkInit t n f) s = .next ((if isHall k then met.setNat (Obj.peerShelf k) (listGet 0 b 3) else met).laneTryUp k)) ∧
    (l.pcs = false → exec (.linkInit t n f) s = .next u) ∧
    (∀ (y : State), y.laneState k = 2 → (y.lane k).gotSeen = true → (y.lane k).sentSeen = true → (y.laneTryUp k).laneState k = 3) ∧
    (∀ (y : State), ((y.lane k).gotSeen = false ∨ (y.lane k).sentSeen = false) → y.laneTryUp k = y) ∧
    (st = 3 → exec (.linkCredit t n f) s = .next (u.setLane k { l with returned :=
      { v0 := f.operand / 2 ^ 48 % 65536, v1 := f.operand / 2 ^ 32 % 65536, v2 := f.operand / 2 ^ 16 % 65536, v3 := f.operand % 65536 } })) ∧
    (st ≠ 3 → exec (.linkCredit t n f) s = .next u) ∧
    (st = 3 → due → exec (.creditReturnTimer t n) s = .next (u.sendCredit k)) ∧
    ((st ≠ 3 ∨ ¬due) → exec (.creditReturnTimer t n) s = .next u) ∧
    (c.laneState k = 3 → exec (.laneDown t n cor unc) s = .next ((c.laneDrop k 1 0).raise (c.laneBlock k) clCommunication 2 k lvBlock)) ∧
    (c.laneState k < 2 → exec (.laneDown t n cor unc) s = .next c) ∧
    (∀ (q : QFrame), l.pcs = true → u.pick k = some q → exec (.transmitSelect t n) s = .next (u.transmit k q)) ∧
    ((l.pcs = false ∨ u.pick k = none) → exec (.transmitSelect t n) s = .next u) ∧
    (∀ (y : State) (q : QFrame), y.pick k = some q → q ∈ (y.lane k).txq ∧ y.competes k q = true ∧
      ((y.lane k).vc0Run < 16 → ∀ z ∈ (y.lane k).txq, y.competes k z = true → frameLevel q ≤ frameLevel z)) ∧
    (∀ (y : State) (q : QFrame), isLinkOp q.frame.op = false →
      ((y.transmit k q).lane k).consumed =
        (y.lane k).consumed.set q.frame.vc (((y.lane k).consumed.get q.frame.vc + frameBlocks q.frame) % 65536)) ∧
    (∀ (q : QFrame), l.txq[i]? = some q →
      let wait := u.now - q.at_
      let ripe := isLinkOp q.frame.op = false ∧ isFlowOp q.frame.op = false ∧
        ((q.frame.vc = 2 ∧ q.promo = 0 ∧ 50000 ≤ wait) ∨ (q.frame.vc = 3 ∧ q.promo = 0 ∧ 50000 ≤ wait) ∨
         (q.frame.vc = 3 ∧ q.promo = 1 ∧ 100000 ≤ wait))
      (ripe → exec (.framePromotion t n i) s = .next
        ((u.setLane k { l with txq := l.txq.set i { q with promo := q.promo + 1 } }).count (Obj.agedPromotions k))) ∧
      (¬ripe → exec (.framePromotion t n i) s = .next u))

/-- R118, R119, R121. The slew of at most 12 ns an exchange is 100 ppm of 125 us, rounded down, and the half offset rounds down: the model's choices (log entry 65). -/
def Obligations.HallTimeFollowsItsRoot : Prop :=
  ∀ (t v : Nat) (n : Fin 52) (f : Frame) (role : Role) (x : Bool) (s : State),
    let u := s.at t
    let k := n.val
    let key := Obj.hallTimeSet
    let hall := u.hall
    let idle := u.isRoot = true ∨ u.now < u.fab.lastSync + 125000
    (u.laneUp k = true → exec (.timeSync t n f) s = .next (u.enqueue k
      { op := opTimeSyncReply, srcShelf := u.own, srcEp := 0x1000, operand := hall % 2 ^ 64, payload := beBytes 8 f.operand ++ beBytes 8 hall })) ∧
    (u.laneUp k = false → exec (.timeSync t n f) s = .next u) ∧
    (idle → exec (.timeSyncExchange t) s = .next u) ∧
    (∀ (m : Nat), ¬idle → u.parentLane = some m → exec (.timeSyncExchange t) s = .next
      (({ u with fab := { u.fab with lastSync := u.now, syncT1 := none } } : State).enqueue m
        { op := opTimeSync, srcShelf := u.own, srcEp := 0x1000, operand := hall % 2 ^ 64 })) ∧
    (∀ (t1 : Nat), u.fab.syncT1 = some t1 →
      let fits := u.isRoot = false ∧ u.parentLane = some k ∧ f.payload.length = 16 ∧ beNat (f.payload.take 8) = t1
      let off : Int := (((beNat (slice f.payload 8 8) : Int) - t1) - ((f.operand : Int) - (hall : Int))) / 2
      let lock := ({ u with fab := { u.fab with syncT1 := none } } : State).setNum Obj.hallTimeParentOffset (clampI int32Min int32Max off)
      let w := ({ lock with fab := { lock.fab with htLocked := true } } : State)
      let first := u.fab.htLocked = false
      (fits → ((first ∧ (0 ≤ off ∨ u.anyTenantOpen = false)) ∨ 1000000 < off) → off ≠ 0 → exec (.timeSyncReply t n f) s = .next (w.timeStep off)) ∧
      (fits → ¬first → off ≤ 1000000 → exec (.timeSyncReply t n f) s = .next
        { w with fab := { w.fab with htOffset := u.fab.htOffset + max (-12) (min 12 off) } }) ∧
      (¬fits → exec (.timeSyncReply t n f) s = .next u)) ∧
    (u.fab.syncT1 = none → exec (.timeSyncReply t n f) s = .next u) ∧
    (∀ (y : State) (d : Int), (y.timeStep d).fab.htOffset = y.fab.htOffset + d) ∧
    (u.accepts role key (numBytes key v) → v < 2 ^ 63 → u.hallTimeNow = 3 → u.anyTenantOpen = false →
      exec (.hallTimeSet t role v false) s = .next (({ u with fab := { u.fab with htOffset := (v : Int) - u.now } } : State).applied role key) ∧
      (({ u with fab := { u.fab with htOffset := (v : Int) - u.now } } : State).applied role key).hall = v) ∧
    (u.accepts role key (numBytes key v) → (u.hallTimeNow ≠ 3 ∨ u.anyTenantOpen = true ∨ x = true) →
      exec (.hallTimeSet t role v x) s = .next (u.declined key 0x08000022))

/-- R83, R98, R100 to R102. -/
def Obligations.FlowsDeliverInOrderOrFail : Prop :=
  ∀ (t flow seq cor unc : Nat) (n : Fin 52) (f : Frame) (ok : Bool) (b : List Nat) (s : State),
    let u := s.at t
    let k := n.val
    let c := u.codewords k cor unc
    let fk := flowOf k f
    let fl := u.flow fk
    let x := u.flow flow
    let limit := 1000 * u.nat (if flowNode flow < 64 then Obj.retryTimeoutTray else Obj.retryTimeoutHall)
    (∀ (g : FlowSt),
      let d := (f.seq + 65536 - g.cum) % 65536
      ((d = 0 ∨ 32768 ≤ d) → flowArrive g f = (0, g)) ∧
      (256 < d → d < 32768 → flowArrive g f = (1, g)) ∧
      (1 ≤ d → d ≤ 256 → (∃ h ∈ g.held, h.seq = f.seq) → flowArrive g f = (2, g)) ∧
      (1 ≤ d → d ≤ 256 → (∀ h ∈ g.held, h.seq ≠ f.seq) → flowArrive g f = (3, { g with held := g.held ++ [f] }))) ∧
    (∀ (m : Nat) (g : FlowSt),
      let r := flowDrain m g
      r.2.cum % 65536 = (g.cum + r.1.length) % 65536 ∧ (∀ (j : Nat) (e : Frame), r.1[j]? = some e → e.seq = (g.cum + 1 + j) % 65536 ∧ e ∈ g.held) ∧
      (∀ e ∈ r.2.held, e ∈ g.held) ∧ r.2.unacked = g.unacked ∧ r.2.next = g.next) ∧
    ((c.lane k).pcs = true → exec (.flowFrameReceive t n cor unc false b) s = .next ((c.countDiscard k).count (Obj.fcsErrors k))) ∧
    ((c.lane k).pcs = true → envelopeOk (c.lane k).ether b = false → exec (.flowFrameReceive t n cor unc true b) s = .next (c.countDiscard k)) ∧
    ((c.lane k).pcs = false → exec (.flowFrameReceive t n cor unc ok b) s = .next c) ∧
    (∃ v, exec (.ack t n f) s = .next v ∧ (∀ e ∈ (v.flow fk).unacked, ∃ g ∈ fl.unacked, g.frame = e.frame) ∧
      (∀ e ∈ (v.flow fk).unacked, 32768 ≤ (f.operand % 65536 + 65536 - e.frame.seq) % 65536) ∧ (v.flow fk).cum = fl.cum ∧ v.pool = u.pool) ∧
    (∀ (d : Nat), x.ackDue = some d → d ≤ u.now → exec (.ackTimer t flow) s = .next (u.sendAck flow)) ∧
    (∀ (d : Nat), x.ackDue = some d → u.now < d → exec (.ackTimer t flow) s = .next u) ∧
    (x.ackDue = none → exec (.ackTimer t flow) s = .next u) ∧
    (exec (.flowReset t n f) s = .next
      (((u.setFlow fk { fl with cum := (f.operand + 65535) % 65536, held := [], sinceAck := 0, ackDue := none, cur := none }).count Obj.flowResets).sendAck fk)) ∧
    (∀ (e : Unacked), x.resetting = none → x.unacked.find? (fun e => e.frame.seq = seq) = some e →
      (u.now < e.sentAt + limit → exec (.retryTimeout t flow seq) s = .next u) ∧
      (e.sentAt + limit ≤ u.now → e.tries < 8 → exec (.retryTimeout t flow seq) s = .next (u.retransmit flow e)) ∧
      (e.sentAt + limit ≤ u.now → 8 ≤ e.tries → exec (.retryTimeout t flow seq) s = .next (u.flowExhausted flow))) ∧
    (∀ (d : Nat), x.downSince = some d → 64 ≤ flowNode flow → d + 1000000 ≤ u.now → exec (.routeDownTimeout t flow) s = .next (u.flowFail flow)) ∧
    (x.downSince = none → exec (.routeDownTimeout t flow) s = .next u)

/-- R87, R89, R90, R104, R106, R108, R109, R111, R113, R116, R117, Tables 4.4, 4.6, 4.7 and 4.10. The order of the checks is the model's (log entry 61). -/
def Obligations.RequestsAreCheckedAndAnswered : Prop :=
  ∀ (t : Nat) (n : Fin 52) (f : Frame) (s : State),
    let u := s.at t
    let k := n.val
    let rd : Frame := { f with op := opRead }
    let wr : Frame := { f with op := opWrite }
    let here := addrShelf f.addr = u.own ∨ addrRegion f.addr = 15
    let data := u.regionRead rd
    let end_ := field f.addr 43 28
    let mine := field f.addr 51 44 = u.own
    let dims := u.nat Obj.hallDimensions
    (f.first = true → u.frameCheck k rd ≠ 0 → f.last = true → exec (.read t n f) s = .next (u.refuseRequest k rd (u.frameCheck k rd))) ∧
    (f.first = true → u.frameCheck k rd = 0 → here → addrRegion f.addr ≠ 15 →
      exec (.read t n f) s = .next (data.2.readResponse rd data.1.1 data.1.2)) ∧
    (f.first = true → f.last = true → u.frameCheck k rd = 0 → ¬here → (u.route (addrShelf f.addr) 0).isSome = true →
      exec (.read t n f) s = .next (u.newTid.2.resend rd u.newTid.1)) ∧
    (f.first = true → f.last = true → u.frameCheck k rd = 0 → ¬here → (u.route (addrShelf f.addr) 0).isNone = true →
      exec (.read t n f) s = .next (u.refuseRequest k rd rsRouteDown)) ∧
    (∀ (y : State) (g : Frame), isHall k = false → (g.srcShelf ≠ y.own ∨ y.epOnLink k g.srcEp = false) → y.frameCheck k g = rsSourceInvalid) ∧
    (∀ (y : State) (g : Frame), g.op = opRead → y.frameCheck k g = 0 →
      1 ≤ g.vc ∧ addrRegion g.addr ≤ 6 ∧ g.addr % 8 = 0 ∧ 8 ≤ g.operand ∧ g.operand ≤ 2 ^ 24 ∧ g.operand % 8 = 0 ∧ g.first = true ∧ g.last = true) ∧
    (exec (.write t n []) s = .next u) ∧
    (f.first = false → f.last = true → exec (.write t n [f]) s = .next (u.refuseRequest k wr rsTransferInvalid)) ∧
    (f.first = false → f.last = false → exec (.write t n [f]) s = .next (u.countDiscard k)) ∧
    (f.first = true → f.last = true → u.frameCheck k wr ≠ 0 → exec (.write t n [f]) s = .next (u.refuseRequest k wr (u.frameCheck k wr))) ∧
    (f.first = true → f.last = true → u.frameCheck k wr = 0 → ¬here → (u.route (addrShelf f.addr) 0).isSome = true →
      exec (.write t n [f]) s = .next (u.newTid.2.resend wr u.newTid.1)) ∧
    (f.first = true → f.last = true → u.frameCheck k wr = 0 → here → addrRegion f.addr = 15 →
      exec (.write t n [f]) s = .next ((u.broadcastHere wr true).broadcastCopies wr (fun _ => true))) ∧
    (f.first = true → f.last = true → u.frameCheck k wr = 0 → here → addrRegion f.addr = 4 →
      exec (.write t n [f]) s = .next (u.writeEnd k wr
        { head := wr, ranges := [(addrOffset f.addr, f.payload.length)], parts := [(addrOffset f.addr, f.payload)], frames := 1 })) ∧
    (∀ (y : State) (g : Frame), g.signal = true → 1 ≤ g.signalOp → y.syncService = true →
      let op := if g.signalOp = 1 then opFetchAdd else if g.signalOp = 2 then opWriteIfEmptyFill else opForcedWrite
      (y.signal g).1 = (if (y.wordOp op g.operand 0 g.tenant g.signalWord).1.1 = 0 then (0, 0)
        else (rsSignalRejected, (y.wordOp op g.operand 0 g.tenant g.signalWord).1.1)) ∧
      (y.signal g).2.pool = (y.wordOp op g.operand 0 g.tenant g.signalWord).2.pool) ∧
    (¬mine → exec (.returnFrame t f) s = .next ((u.onward (field f.addr 51 44) f).getD u)) ∧
    (∀ (m : Nat), mine → u.trayOf end_ = some m →
      exec (.returnFrame t f) s = .next ((u.ownTid f).2.sendFlow (flowKey (trayNode m) f.vc) (u.ownTid f).1)) ∧
    (mine → u.trayOf end_ = none → end_ = 0x1000 → f.op = opRelease → exec (.returnFrame t f) s = .next (u.releaseIn f)) ∧
    (mine → u.trayOf end_ = none → end_ = 0x1000 → f.op = opWriteResponse →
      exec (.returnFrame t f) s = .next (u.peerAnswer f.tid f.srcShelf f.result)) ∧
    (mine → u.trayOf end_ = none → end_ ≠ 0x1000 → exec (.returnFrame t f) s = .next u) ∧
    (isHall k = false → exec (.broadcastReceive t n f) s = .next u) ∧
    (∀ (l : Nat), isHall k = true → baseLink dims (k - 36) = some l →
      (u.frameCheck k f ≠ 0 → exec (.broadcastReceive t n f) s = .next (u.countDiscard k)) ∧
      (u.frameCheck k f = 0 → exec (.broadcastReceive t n f) s = .next
        ((u.broadcastHere f false).broadcastCopies f (fun e => decide (linkDim dims l < e)))))

/-- The queue is the model's own: commands wait first in, first out, and idling on an empty queue is its choice (log entry 1). -/
def Obligations.AStepRunsTheFrontCommand : Prop :=
  ∀ (c d : Instr) (q : List Instr) (s t : State),
    step { s with pending := c :: q } = exec c { s with pending := q } ∧
    step { s with pending := [] } = .next { s with pending := [] } ∧
    (exec c { s with pending := d :: q } = .next { t with pending := d :: q } →
      step { s with pending := c :: d :: q } = .next { t with pending := d :: q } ∧ step { t with pending := d :: q } = exec d { t with pending := q })

/-- R22, R49, R126, R498 and the Default columns of the object tables. That the model begins at stage 1 of the Boot after a power-up is its choice (log entry 3). -/
def Obligations.ResetIsTheStartOfBoot : Prop :=
  let s := State.reset
  s.mode = .boot ∧ s.boot.stageA = 1 ∧ s.boot.stageB = 1 ∧ s.pending = [] ∧ s.now = 0 ∧ s.out = [] ∧ s.canon ∧ s.oneAuthority ∧
  s.hold.latchA = false ∧ s.hold.latchB = false ∧ s.nat Obj.etherType = 0x88B5 ∧ s.nat Obj.hallDomainId = 0 ∧ s.nat Obj.retryTimeoutTray = 10 ∧
  s.nat Obj.retryTimeoutHall = 20 ∧ s.nat Obj.waveInterval = 10 ∧ s.nat Obj.measurementInterval = 10 ∧ s.nat Obj.cellValueTimeout = 100 ∧
  s.nat Obj.wakeMargin = 1000 ∧ s.nat Obj.pointHoldTime = 1000

/-- R49, R51: at most one half holds authority at any time; over every command of the table and every state, reachable or not. -/
def Obligations.EveryStepKeepsTheInvariant : Prop :=
  ∀ (s t : State), step s = .next t →
    t.pending = s.pending.tail ∧ s.now ≤ t.now ∧ (∃ l, t.out = l ++ s.out) ∧ s.freeCtr ≤ t.freeCtr ∧ (s.canon → t.canon) ∧
    (s.oneAuthority → t.oneAuthority)

/-- R22: the module is always in one of its states; the table's steps are whole and indivisible, and none of them stops the module. -/
def Obligations.NoCommandStopsTheBlock : Prop :=
  (∀ (s : State), s.goesOn) ∧ (∀ (c : Instr) (s : State), ∃ t, exec c s = .next t) ∧
  ∀ (n : Nat) (s : State), ∃ t, Steps n s t ∧ t.pending = s.pending.drop n

/-- spec/opcode_table.json lists commands without encodings (log entry 2). -/
def Obligations.NoWordSpellsACommand : Prop :=
  ∀ (nbits w : Nat) (s : State), decodeTableWord nbits w = none ∧ s.withFetchWord nbits w = s
end

