-- ==== Sys2Proof/Laws/Dict.lean ====
section
/-! SUPPORT. One write through the dictionary server, said once: what an accepted write answers, by what its object's rule answers. -/

namespace Sys2Proof.Machine

/-- An accepted write whose rule applies it. -/
theorem State.regWrite_applied {s u : State} {path : Path} {port : Nat} {role : Role} {key : Nat} {b : List Nat} {r : ObjRow}
    (h : s.acceptsOver path role key b) (hd : descOf (key / 256) (key % 256) = some r)
    (he : s.dictEffect path port role (key / 256) (key % 256) (r.ty.value b) b = (0, u)) :
    s.regWrite path port role (key / 256) (key % 256) b = u.appliedOver path key := by
  have hk : key / 256 * 256 + key % 256 = key := by omega
  unfold State.regWrite State.dictWrite State.appliedOver
  simp [h.1, h.2.1, hd, he, abNone, abWaits, hk]

/-- An accepted write that its rule refuses. -/
theorem State.regWrite_declined {s u : State} {path : Path} {port : Nat} {role : Role} {key : Nat} {b : List Nat} {r : ObjRow} {c : Nat}
    (h : s.acceptsOver path role key b) (hd : descOf (key / 256) (key % 256) = some r)
    (he : s.dictEffect path port role (key / 256) (key % 256) (r.ty.value b) b = (c, u)) (h0 : c ≠ 0) (hw : c ≠ abWaits) :
    s.regWrite path port role (key / 256) (key % 256) b = u.declined key (c % 2 ^ 32) := by
  have hk : key / 256 * 256 + key % 256 = key := by omega
  unfold State.regWrite State.dictWrite State.declined
  simp [h.1, h.2.1, hd, he, abNone, h0, hw, hk]

/-- An accepted write over the role's own path, applied. -/
theorem State.reqWrite_applied {s u : State} {role : Role} {key : Nat} {b : List Nat} {r : ObjRow} (h : s.accepts role key b)
    (hd : descOf (key / 256) (key % 256) = some r)
    (he : s.dictEffect (rolePath role) 1 role (key / 256) (key % 256) (r.ty.value b) b = (0, u)) :
    s.reqWrite role key b = u.applied role key := State.regWrite_applied h hd he

/-- An accepted write over the role's own path, refused by its rule. -/
theorem State.reqWrite_declined {s u : State} {role : Role} {key : Nat} {b : List Nat} {r : ObjRow} {c : Nat} (h : s.accepts role key b)
    (hd : descOf (key / 256) (key % 256) = some r)
    (he : s.dictEffect (rolePath role) 1 role (key / 256) (key % 256) (r.ty.value b) b = (c, u)) (h0 : c ≠ 0) (hw : c ≠ abWaits) :
    s.reqWrite role key b = u.declined key (c % 2 ^ 32) := State.regWrite_declined h hd he h0 hw

/-- A number is written as its bytes. -/
theorem State.cmdWrite_eq (s : State) (role : Role) (key v : Nat) : s.cmdWrite role key v = s.reqWrite role key (numBytes key v) := rfl

/-- A write to a path that is not served does nothing. -/
theorem State.regWrite_unserved {s : State} {path : Path} (h : s.served path = false) (port : Nat) (role : Role) (idx sub : Nat) (b : List Nat) :
    s.regWrite path port role idx sub b = s := by
  unfold State.regWrite
  simp [h]

end Sys2Proof.Machine
end

