-- ==== Sys2Proof/Laws/Sparse.lean ====
section
/-! SUPPORT. The laws of the sparse maps: a read after a write, and the canonical form that every write keeps. -/

namespace Sys2Proof.Machine

/-! A read after a write -/

@[simp] theorem smGet_smPut_same {α : Type} (d : Nat → α) (q : Nat) (v : α) : ∀ m, smGet d (smPut m q v) q = v
  | [] => by simp [smPut, smGet]
  | (k, w) :: r => by
    unfold smPut
    split
    · simp [smGet]
    · split
      · simp [smGet]
      · rename_i _ h
        rw [smGet, if_neg (fun e => h e.symm)]
        exact smGet_smPut_same d q v r

theorem smGet_smPut_ne {α : Type} (d : Nat → α) {q p : Nat} (v : α) (h : p ≠ q) : ∀ m, smGet d (smPut m q v) p = smGet d m p
  | [] => by simp [smPut, smGet, h.symm]
  | (k, w) :: r => by
    unfold smPut
    split
    · rw [smGet, if_neg (fun e => h e.symm)]
    · split
      · rename_i _ e
        subst e
        rw [smGet, if_neg (fun e => h e.symm), smGet, if_neg (fun e => h e.symm)]
      · rw [smGet, smGet, smGet_smPut_ne d v h r]

@[simp] theorem smGet_smErase_same {α : Type} (d : Nat → α) (q : Nat) : ∀ m, smGet d (smErase m q) q = d q
  | [] => rfl
  | (k, w) :: r => by
    have ih := smGet_smErase_same d q r
    unfold smErase at ih ⊢
    rw [List.filter_cons]
    split
    · rename_i hk
      rw [smGet, if_neg (by simpa using hk)]
      exact ih
    · exact ih

theorem smGet_smErase_ne {α : Type} (d : Nat → α) {q p : Nat} (h : p ≠ q) : ∀ m, smGet d (smErase m q) p = smGet d m p
  | [] => rfl
  | (k, w) :: r => by
    have ih := smGet_smErase_ne d h r
    unfold smErase at ih ⊢
    rw [List.filter_cons]
    split
    · rw [smGet, smGet, ih]
    · rename_i hk
      have e : k = q := by simpa using hk
      rw [smGet, if_neg (fun x => h (x.symm.trans e)), ih]

@[simp] theorem smGet_smSet_same {α : Type} [DecidableEq α] (d : Nat → α) (m : List (Nat × α)) (q : Nat) (v : α) :
    smGet d (smSet d m q v) q = v := by
  unfold smSet
  split
  · rename_i h; rw [smGet_smErase_same, h]
  · exact smGet_smPut_same d q v m

theorem smGet_smSet_ne {α : Type} [DecidableEq α] (d : Nat → α) (m : List (Nat × α)) {q p : Nat} (v : α) (h : p ≠ q) :
    smGet d (smSet d m q v) p = smGet d m p := by
  unfold smSet
  split
  · exact smGet_smErase_ne d h m
  · exact smGet_smPut_ne d v h m

theorem smGet_smSet {α : Type} [DecidableEq α] (d : Nat → α) (m : List (Nat × α)) (q p : Nat) (v : α) :
    smGet d (smSet d m q v) p = if p = q then v else smGet d m p := by
  split
  · rename_i h; subst h; exact smGet_smSet_same d m p v
  · rename_i h; exact smGet_smSet_ne d m v h

/-! The canonical form -/

theorem smPut_wfFrom {α : Type} [DecidableEq α] (d : Nat → α) (q : Nat) (v : α) (hv : v ≠ d q) :
    ∀ (m : List (Nat × α)) (lo : Nat), lo ≤ q → smWfFrom d lo m = true → smWfFrom d lo (smPut m q v) = true
  | [], lo, hl, _ => by simp [smPut, smWfFrom, hl, hv]
  | (k, w) :: r, lo, hl, h => by
    simp only [smWfFrom, Bool.and_eq_true, decide_eq_true_eq] at h
    obtain ⟨⟨h1, h2⟩, h3⟩ := h
    unfold smPut
    split
    · rename_i hq
      simp only [smWfFrom, Bool.and_eq_true, decide_eq_true_eq]
      exact ⟨⟨hl, hv⟩, ⟨by omega, h2⟩, h3⟩
    · split
      · rename_i hq
        subst hq
        simp only [smWfFrom, Bool.and_eq_true, decide_eq_true_eq]
        exact ⟨⟨hl, hv⟩, h3⟩
      · simp only [smWfFrom, Bool.and_eq_true, decide_eq_true_eq]
        exact ⟨⟨h1, h2⟩, smPut_wfFrom d q v hv r (k + 1) (by omega) h3⟩

theorem smWfFrom_mono {α : Type} [DecidableEq α] (d : Nat → α) (m : List (Nat × α)) {lo hi : Nat} (hl : lo ≤ hi)
    (h : smWfFrom d hi m = true) : smWfFrom d lo m = true := by
  cases m with
  | nil => rfl
  | cons e r =>
    simp only [smWfFrom, Bool.and_eq_true, decide_eq_true_eq] at h ⊢
    exact ⟨⟨by omega, h.1.2⟩, h.2⟩

theorem smFilter_wfFrom {α : Type} [DecidableEq α] (d : Nat → α) (p : Nat × α → Bool) :
    ∀ (m : List (Nat × α)) (lo : Nat), smWfFrom d lo m = true → smWfFrom d lo (m.filter p) = true
  | [], _, _ => rfl
  | (k, w) :: r, lo, h => by
    simp only [smWfFrom, Bool.and_eq_true, decide_eq_true_eq] at h
    have ih := smFilter_wfFrom d p r (k + 1) h.2
    rw [List.filter_cons]
    split
    · simp only [smWfFrom, Bool.and_eq_true, decide_eq_true_eq]
      exact ⟨h.1, ih⟩
    · exact smWfFrom_mono d _ (by omega) ih

theorem smSet_wf {α : Type} [DecidableEq α] (d : Nat → α) (m : List (Nat × α)) (q : Nat) (v : α) (h : smWf d m = true) :
    smWf d (smSet d m q v) = true := by
  unfold smSet
  split
  · exact smFilter_wfFrom d _ m 0 h
  · rename_i hv; exact smPut_wfFrom d q v hv m 0 (Nat.zero_le _) h

end Sys2Proof.Machine
end

