-- ==== Sys2Proof/Laws/Kept.lean ====
section
/-! SUPPORT. What no operation of the model breaks: the queue of waiting commands stays, time does not run back, what was sent
stays sent, and the object store keeps its canonical form. -/

namespace Sys2Proof.Machine

theorem Kept.refl (s : State) : Kept s s := ⟨rfl, Nat.le_refl _, ⟨[], rfl⟩, Nat.le_refl _, id, id⟩

theorem Kept.mk' {s t : State} (h : Kept s t) {a b d e f g i j k l m n o p} :
    Kept s (State.mk t.pending t.now t.objs t.blobs a b t.hold d e f g i j k l m n o p t.freeCtr t.out) :=
  ⟨h.pending, h.now, h.out, h.free, h.canon, h.authority⟩

theorem Kept.mkHold {s t : State} {a b c d e f g i j k l m n o p} (h : Kept s t) (ha : c.latchA = t.hold.latchA)
    (hb : c.latchB = t.hold.latchB) :
    Kept s (State.mk t.pending t.now t.objs t.blobs a b c d e f g i j k l m n o p t.freeCtr t.out) :=
  ⟨h.pending, h.now, h.out, h.free, h.canon, fun x => by
    have y := h.authority x
    unfold State.oneAuthority at y ⊢
    rw [ha, hb]; exact y⟩

theorem Kept.cut {s₀ x : State} {p : Prop} (hx : Kept s₀ x) (k : Kept s₀ x → p) : p := k hx

theorem Kept.snd {α : Type} {s t : State} (a : α) (h : Kept s t) : Kept s (a, t).2 := h

theorem Kept.ite {s₀ a b : State} {c : Prop} [Decidable c] (ha : Kept s₀ a) (hb : Kept s₀ b) : Kept s₀ (if c then a else b) := by
  split <;> assumption

theorem Kept.ite2 {α : Type} {s₀ : State} {a b : α × State} {c : Prop} [Decidable c] (ha : Kept s₀ a.2) (hb : Kept s₀ b.2) :
    Kept s₀ (if c then a else b).2 := by
  split <;> assumption

theorem Kept.ofSnd {α : Type} {s₀ t : State} {a : α} {e : α × State} (he : e = (a, t)) (h : Kept s₀ e.2) : Kept s₀ t := by
  rw [he] at h; exact h

theorem Kept.ofSnd2 {α β : Type} {s₀ t : State} {a : α} {b : β} {e : α × β × State} (he : e = (a, b, t)) (h : Kept s₀ e.2.2) :
    Kept s₀ t := by
  rw [he] at h; exact h

theorem foldl_kept {α : Type} {s₀ s : State} (f : State → α → State) (l : List α) (h : Kept s₀ s)
    (hf : ∀ s a, Kept s₀ s → Kept s₀ (f s a)) : Kept s₀ (l.foldl f s) := by
  induction l generalizing s with
  | nil => exact h
  | cons a l ih => exact ih (hf s a h)

theorem foldl_kept2 {α β : Type} {s₀ : State} (f : β × State → α → β × State) (l : List α) (p : β × State) (h : Kept s₀ p.2)
    (hf : ∀ p a, Kept s₀ p.2 → Kept s₀ (f p a).2) : Kept s₀ (l.foldl f p).2 := by
  induction l generalizing p with
  | nil => exact h
  | cons a l ih => exact ih (f p a) (hf p a h)

theorem State.setNum_kept {s₀ : State} (s : State) (k : Nat) (v : Int) (h : Kept s₀ s) : Kept s₀ (s.setNum k v) :=
  ⟨h.pending, h.now, h.out, h.free, fun hc => ⟨smSet_wf _ _ _ _ (h.canon hc).1, (h.canon hc).2⟩, h.authority⟩

theorem State.setBlob_kept {s₀ : State} (s : State) (k : Nat) (v : List Nat) (h : Kept s₀ s) : Kept s₀ (s.setBlob k v) :=
  ⟨h.pending, h.now, h.out, h.free, fun hc => ⟨(h.canon hc).1, smSet_wf _ _ _ _ (h.canon hc).2⟩, h.authority⟩

theorem State.at_kept {s₀ : State} (s : State) (t : Nat) (h : Kept s₀ s) : Kept s₀ (s.at t) :=
  ⟨h.pending, Nat.le_trans h.now (Nat.le_max_left _ _), h.out, h.free, h.canon, h.authority⟩

theorem State.emit_kept {s₀ : State} (s : State) (o : Output) (h : Kept s₀ s) : Kept s₀ (s.emit o) :=
  ⟨h.pending, h.now, h.out.elim (fun l hl => ⟨o :: l, by simp [State.emit, hl]⟩), h.free, h.canon, h.authority⟩

theorem State.freeCtr_kept {s₀ s : State} (h : Kept s₀ s) (n : Nat) : Kept s₀ { s with freeCtr := s.freeCtr + n } :=
  ⟨h.pending, h.now, h.out, Nat.le_trans h.free (Nat.le_add_right _ _), h.canon, h.authority⟩

theorem State.draw_kept {s₀ : State} (s : State) (h : Kept s₀ s) : Kept s₀ s.draw.2 := State.freeCtr_kept h 1

theorem State.forEach_kept {α : Type} {s₀ : State} (s : State) (l : List α) (f : State → α → State) (h : Kept s₀ s)
    (hf : ∀ s a, Kept s₀ s → Kept s₀ (f s a)) : Kept s₀ (s.forEach l f) := foldl_kept f l h hf

end Sys2Proof.Machine
end

