-- ==== Sys2Proof/Laws/KeptOps.lean ====
section
/-! SUPPORT. What every operation of Machine/Ops.lean keeps: see Kept in Laws/Kept.lean. -/

namespace Sys2Proof.Machine


theorem State.setNat_kept {s₀ : State} (s : State) (k v : Nat) (hk : Kept s₀ s) :
    Kept s₀ (State.setNat s k v) := by
  unfold State.setNat
  repeat' first
    | with_reducible assumption
    | with_reducible apply State.setNum_kept

theorem State.count_kept {s₀ : State} (s : State) (k : Nat) (n : Nat) (hk : Kept s₀ s) :
    Kept s₀ (State.count s k n) := by
  unfold State.count
  repeat' first
    | with_reducible assumption
    | with_reducible apply State.setNat_kept

theorem State.count64_kept {s₀ : State} (s : State) (k : Nat) (n : Nat) (hk : Kept s₀ s) :
    Kept s₀ (State.count64 s k n) := by
  unfold State.count64
  repeat' first
    | with_reducible assumption
    | with_reducible apply State.setNat_kept






theorem State.setStr_kept {s₀ : State} (s : State) (k : Nat) (v : StringSt) (hk : Kept s₀ s) :
    Kept s₀ (State.setStr s k v) := by
  unfold State.setStr
  repeat' first
    | (extract_lets +onlyGivenNames x; clear_value x)
    | with_reducible apply Kept.ite
    | (with_reducible apply Kept.mk'; first | with_reducible assumption | (with_reducible apply Kept.mk'; with_reducible assumption))

theorem State.setPhase_kept {s₀ : State} (s : State) (n : Nat) (p : PhaseSt) (hk : Kept s₀ s) :
    Kept s₀ (State.setPhase s n p) := by
  unfold State.setPhase
  repeat' first
    | (extract_lets +onlyGivenNames x; clear_value x)
    | (with_reducible apply Kept.mk'; first | with_reducible assumption | (with_reducible apply Kept.mk'; with_reducible assumption))

theorem State.setRing_kept {s₀ : State} (s : State) (k : Nat) (r : RingSt) (hk : Kept s₀ s) :
    Kept s₀ (State.setRing s k r) := by
  unfold State.setRing
  repeat' first
    | (extract_lets +onlyGivenNames x; clear_value x)
    | with_reducible apply Kept.ite
    | (with_reducible apply Kept.mk'; first | with_reducible assumption | (with_reducible apply Kept.mk'; with_reducible assumption))

theorem State.setEstStr_kept {s₀ : State} (s : State) (k : Nat) (e : EstString) (hk : Kept s₀ s) :
    Kept s₀ (State.setEstStr s k e) := by
  unfold State.setEstStr
  repeat' first
    | (extract_lets +onlyGivenNames x; clear_value x)
    | with_reducible apply Kept.ite
    | (with_reducible apply Kept.mk'; first | with_reducible assumption | (with_reducible apply Kept.mk'; with_reducible assumption))

theorem State.setBus_kept {s₀ : State} (s : State) (b : Nat) (v : BusSt) (hk : Kept s₀ s) :
    Kept s₀ (State.setBus s b v) := by
  unfold State.setBus
  repeat' first
    | (extract_lets +onlyGivenNames x; clear_value x)
    | with_reducible apply Kept.ite
    | (with_reducible apply Kept.mk'; first | with_reducible assumption | (with_reducible apply Kept.mk'; with_reducible assumption))

end Sys2Proof.Machine
end

