-- ==== Sys2Proof/Laws/KeptFabricOps.lean ====
section
/-! SUPPORT. What every operation of Machine/FabricOps.lean keeps: see Kept in Laws/Kept.lean. -/

namespace Sys2Proof.Machine

theorem State.setLane_kept {s₀ : State} (s : State) (n : Nat) (l : LaneSt) (hk : Kept s₀ s) :
    Kept s₀ (State.setLane s n l) := by
  unfold State.setLane
  repeat' first
    | (extract_lets +onlyGivenNames x; clear_value x)
    | (with_reducible apply Kept.mk'; first | with_reducible assumption | (with_reducible apply Kept.mk'; with_reducible assumption))

theorem State.setLaneState_kept {s₀ : State} (s : State) (n st reason : Nat) (hk : Kept s₀ s) :
    Kept s₀ (State.setLaneState s n st reason) := by
  unfold State.setLaneState
  repeat' first
    | with_reducible assumption
    | with_reducible apply State.setNat_kept

theorem State.countDiscard_kept {s₀ : State} (s : State) (n : Nat) (hk : Kept s₀ s) :
    Kept s₀ (State.countDiscard s n) := by
  unfold State.countDiscard
  repeat' first
    | with_reducible assumption
    | with_reducible apply State.count_kept

theorem State.enqueue_kept {s₀ : State} (s : State) (n : Nat) (f : Frame) (hk : Kept s₀ s) :
    Kept s₀ (State.enqueue s n f) := by
  unfold State.enqueue
  repeat' first
    | with_reducible assumption
    | (extract_lets +onlyGivenNames x; clear_value x)
    | with_reducible apply Kept.ite
    | with_reducible apply State.setLane_kept

theorem State.setFlow_kept {s₀ : State} (s : State) (k : Nat) (f : FlowSt) (hk : Kept s₀ s) :
    Kept s₀ (State.setFlow s k f) := by
  unfold State.setFlow
  repeat' first
    | (extract_lets +onlyGivenNames x; clear_value x)
    | (with_reducible apply Kept.mk'; first | with_reducible assumption | (with_reducible apply Kept.mk'; with_reducible assumption))

theorem State.sendFlow_kept {s₀ : State} (s : State) (key : Nat) (f : Frame) (watch : Option Nat) (hk : Kept s₀ s) :
    Kept s₀ (State.sendFlow s key f watch) := by
  unfold State.sendFlow
  repeat' first
    | with_reducible assumption
    | (extract_lets +onlyGivenNames x; (have f : Prop := x); clear f; unfold x; clear x)
    | (extract_lets +onlyGivenNames x; clear_value x)
    | with_reducible apply State.setFlow_kept
    | with_reducible apply State.setLane_kept
    | split

theorem State.sendWaiting_kept {s₀ : State} (s : State) (key : Nat) (hk : Kept s₀ s) :
    Kept s₀ (State.sendWaiting s key) := by
  unfold State.sendWaiting
  repeat' first
    | with_reducible assumption
    | intro _
    | (extract_lets +onlyGivenNames x; clear_value x)
    | with_reducible apply State.sendFlow_kept
    | with_reducible apply State.setFlow_kept
    | with_reducible apply foldl_kept

theorem State.newTid_kept {s₀ : State} (s : State) (hk : Kept s₀ s) :
    Kept s₀ (State.newTid s).2 := by
  unfold State.newTid
  repeat' first
    | (extract_lets +onlyGivenNames x; clear_value x)
    | (with_reducible apply Kept.mk'; first | with_reducible assumption | (with_reducible apply Kept.mk'; with_reducible assumption))

theorem State.sendAck_kept {s₀ : State} (s : State) (key : Nat) (hk : Kept s₀ s) :
    Kept s₀ (State.sendAck s key) := by
  unfold State.sendAck
  repeat' first
    | with_reducible assumption
    | (extract_lets +onlyGivenNames x; refine Kept.cut (s₀ := s₀) (x := x) ?_ (fun hx => ?_); unfold x; clear x; rotate_left; clear_value x; rotate_right)
    | (extract_lets +onlyGivenNames x; clear_value x)
    | with_reducible apply State.enqueue_kept
    | with_reducible apply State.setFlow_kept
    | split

theorem State.sendFlowReset_kept {s₀ : State} (s : State) (key : Nat) (hk : Kept s₀ s) :
    Kept s₀ (State.sendFlowReset s key) := by
  unfold State.sendFlowReset
  repeat' first
    | with_reducible assumption
    | (extract_lets +onlyGivenNames x; clear_value x)
    | with_reducible apply State.enqueue_kept
    | with_reducible apply State.setFlow_kept
    | split

theorem State.endTrayFlows_kept {s₀ : State} (s : State) (n : Nat) (hk : Kept s₀ s) :
    Kept s₀ (State.endTrayFlows s n) := by
  unfold State.endTrayFlows
  repeat' first
    | with_reducible assumption
    | intro _
    | with_reducible apply State.forEach_kept
    | with_reducible apply State.setFlow_kept

theorem State.sendReturn_kept {s₀ : State} (s : State) (shelf ep vc : Nat) (f : Frame) (watch : Option Nat) (hk : Kept s₀ s) :
    Kept s₀ (State.sendReturn s shelf ep vc f watch) := by
  unfold State.sendReturn
  repeat' first
    | with_reducible assumption
    | with_reducible apply Kept.ite
    | with_reducible apply State.sendFlow_kept
    | split

theorem State.syncResponse_kept {s₀ : State} (s : State) (req : Frame) (result data : Nat) (full : Bool) (gen : Nat) (hk : Kept s₀ s) :
    Kept s₀ (State.syncResponse s req result data full gen) := by
  unfold State.syncResponse
  repeat' first
    | with_reducible assumption
    | with_reducible apply State.sendReturn_kept

theorem State.writeResponse_kept {s₀ : State} (s : State) (lane : Nat) (req : Frame) (result detail : Nat) (hk : Kept s₀ s) :
    Kept s₀ (State.writeResponse s lane req result detail) := by
  unfold State.writeResponse
  repeat' first
    | with_reducible assumption
    | with_reducible apply Kept.ite
    | with_reducible apply State.countDiscard_kept
    | with_reducible apply State.sendReturn_kept

theorem State.readResponse_kept {s₀ : State} (s : State) (req : Frame) (result : Nat) (data : List Nat) (hk : Kept s₀ s) :
    Kept s₀ (State.readResponse s req result data) := by
  unfold State.readResponse
  repeat' first
    | with_reducible assumption
    | intro _
    | with_reducible apply State.newTid_kept
    | with_reducible apply State.sendReturn_kept
    | with_reducible apply foldl_kept

theorem State.refuseRequest_kept {s₀ : State} (s : State) (lane : Nat) (req : Frame) (result : Nat) (hk : Kept s₀ s) :
    Kept s₀ (State.refuseRequest s lane req result) := by
  unfold State.refuseRequest
  repeat' first
    | with_reducible assumption
    | with_reducible apply Kept.ite
    | with_reducible apply State.readResponse_kept
    | with_reducible apply State.syncResponse_kept
    | with_reducible apply State.writeResponse_kept

theorem State.answerKey_kept {s₀ : State} (s : State) (key code : Nat) (hk : Kept s₀ s) :
    Kept s₀ (State.answerKey s key code) := by
  unfold State.answerKey
  repeat' first
    | with_reducible assumption
    | (extract_lets +onlyGivenNames x; clear_value x)
    | with_reducible apply State.emit_kept
    | with_reducible apply State.writeResponse_kept
    | (with_reducible apply Kept.mk'; first | with_reducible assumption | (with_reducible apply Kept.mk'; with_reducible assumption) | with_reducible apply State.emit_kept | with_reducible apply State.writeResponse_kept)
    | split

end Sys2Proof.Machine
end

