-- ==== Sys2Proof/Laws/KeptPoolOps.lean ====
section
/-! SUPPORT. What every operation of Machine/PoolOps.lean keeps: see Kept in Laws/Kept.lean. -/

namespace Sys2Proof.Machine

theorem State.setWord_kept {s₀ : State} (s : State) (w : Nat) (v : PWord) (hk : Kept s₀ s) :
    Kept s₀ (State.setWord s w v) := by
  unfold State.setWord
  repeat' first
    | (extract_lets +onlyGivenNames x; clear_value x)
    | (with_reducible apply Kept.mk'; first | with_reducible assumption | (with_reducible apply Kept.mk'; with_reducible assumption))

theorem State.setDesc_kept {s₀ : State} (s : State) (v : Nat) (d : WDesc) (hk : Kept s₀ s) :
    Kept s₀ (State.setDesc s v d) := by
  unfold State.setDesc
  repeat' first
    | (extract_lets +onlyGivenNames x; clear_value x)
    | (with_reducible apply Kept.mk'; first | with_reducible assumption | (with_reducible apply Kept.mk'; with_reducible assumption))

theorem State.replaceWatch_kept {s₀ : State} (s : State) (v : Nat) (f : Frame) (hk : Kept s₀ s) :
    Kept s₀ (State.replaceWatch s v f) := by
  unfold State.replaceWatch
  repeat' first
    | (extract_lets +onlyGivenNames x; clear_value x)
    | (with_reducible apply Kept.mk'; first | with_reducible assumption | (with_reducible apply Kept.mk'; with_reducible assumption))

theorem State.dropWatch_kept {s₀ : State} (s : State) (v : Nat) (hk : Kept s₀ s) :
    Kept s₀ (State.dropWatch s v) := by
  unfold State.dropWatch
  repeat' first
    | (extract_lets +onlyGivenNames x; clear_value x)
    | (with_reducible apply Kept.mk'; first | with_reducible assumption | (with_reducible apply Kept.mk'; with_reducible assumption))

theorem State.fireWatch_kept {s₀ : State} (s : State) (v : Nat) (w : PWord) (hk : Kept s₀ s) :
    Kept s₀ (State.fireWatch s v w) := by
  unfold State.fireWatch
  repeat' first
    | with_reducible assumption
    | (extract_lets +onlyGivenNames x; clear_value x)
    | with_reducible apply Kept.ite
    | with_reducible apply State.count_kept
    | with_reducible apply State.replaceWatch_kept
    | with_reducible apply State.sendReturn_kept
    | with_reducible apply State.setDesc_kept

theorem State.evalWatches_kept {s₀ : State} (s : State) (w : Nat) (old new : PWord) (hk : Kept s₀ s) :
    Kept s₀ (State.evalWatches s w old new) := by
  unfold State.evalWatches
  repeat' first
    | with_reducible assumption
    | intro _
    | (extract_lets +onlyGivenNames x; clear_value x)
    | with_reducible apply Kept.ite
    | with_reducible apply State.fireWatch_kept
    | with_reducible apply foldl_kept

theorem State.putWord_kept {s₀ : State} (s : State) (w : Nat) (new : PWord) (hk : Kept s₀ s) :
    Kept s₀ (State.putWord s w new) := by
  unfold State.putWord
  repeat' first
    | with_reducible assumption
    | (extract_lets +onlyGivenNames x; refine Kept.cut (s₀ := s₀) (x := x) ?_ (fun hx => ?_); unfold x; clear x; rotate_left; clear_value x; rotate_right)
    | (extract_lets +onlyGivenNames x; clear_value x)
    | with_reducible apply Kept.ite
    | with_reducible apply State.evalWatches_kept
    | with_reducible apply State.setWord_kept

theorem State.disarm_kept {s₀ : State} (s : State) (v : Nat) (hk : Kept s₀ s) :
    Kept s₀ (State.disarm s v) := by
  unfold State.disarm
  repeat' first
    | with_reducible assumption
    | (extract_lets +onlyGivenNames x; clear_value x)
    | with_reducible apply State.dropWatch_kept
    | with_reducible apply State.setDesc_kept

theorem State.disarmWord_kept {s₀ : State} (s : State) (w : Nat) (hk : Kept s₀ s) :
    Kept s₀ (State.disarmWord s w) := by
  unfold State.disarmWord
  repeat' first
    | with_reducible assumption
    | intro _
    | with_reducible apply State.disarm_kept
    | with_reducible apply foldl_kept

theorem State.bumpWord_kept {s₀ : State} (s : State) (w : Nat) (hk : Kept s₀ s) :
    Kept s₀ (State.bumpWord s w) := by
  unfold State.bumpWord
  repeat' first
    | with_reducible assumption
    | (extract_lets +onlyGivenNames x; clear_value x)
    | with_reducible apply Kept.ite
    | with_reducible apply State.putWord_kept

theorem State.tenantEvent_kept {s₀ : State} (s : State) (tag code detail : Nat) (hk : Kept s₀ s) :
    Kept s₀ (State.tenantEvent s tag code detail) := by
  unfold State.tenantEvent
  repeat' first
    | with_reducible assumption
    | with_reducible apply State.bumpWord_kept
    | with_reducible apply State.setNat_kept
    | split

theorem State.wordOp_kept {s₀ : State} (s : State) (op operand new tenant w : Nat) (hk : Kept s₀ s) :
    Kept s₀ (State.wordOp s op operand new tenant w).2 := by
  unfold State.wordOp
  repeat' first
    | with_reducible assumption
    | (extract_lets +onlyGivenNames x; clear_value x)
    | with_reducible apply State.putWord_kept
    | split

theorem State.allocWords_kept {s₀ : State} (s : State) (base n tag managed : Nat) (hk : Kept s₀ s) :
    Kept s₀ (State.allocWords s base n tag managed) := by
  unfold State.allocWords
  repeat' first
    | with_reducible assumption
    | intro _
    | with_reducible apply State.forEach_kept
    | with_reducible apply State.setWord_kept

theorem State.allocDescs_kept {s₀ : State} (s : State) (base n tag : Nat) (hk : Kept s₀ s) :
    Kept s₀ (State.allocDescs s base n tag) := by
  unfold State.allocDescs
  repeat' first
    | with_reducible assumption
    | intro _
    | with_reducible apply State.forEach_kept
    | with_reducible apply State.setDesc_kept

theorem State.freeWord_kept {s₀ : State} (s : State) (w : Nat) (hk : Kept s₀ s) :
    Kept s₀ (State.freeWord s w).2 := by
  unfold State.freeWord
  repeat' first
    | with_reducible assumption
    | (extract_lets +onlyGivenNames x; refine Kept.cut (s₀ := s₀) (x := x) ?_ (fun hx => ?_); unfold x; clear x; rotate_left; clear_value x; rotate_right)
    | (extract_lets +onlyGivenNames x; clear_value x)
    | with_reducible apply Kept.ite2
    | with_reducible apply State.disarmWord_kept
    | with_reducible apply State.setWord_kept
    | (with_reducible apply Kept.mk'; first | with_reducible assumption | (with_reducible apply Kept.mk'; with_reducible assumption) | with_reducible apply State.disarmWord_kept | with_reducible apply State.setWord_kept)

theorem State.freeWords_kept {s₀ : State} (s : State) (l : List Nat) (hk : Kept s₀ s) :
    Kept s₀ (State.freeWords s l).2 := by
  unfold State.freeWords
  repeat' first
    | with_reducible assumption
    | intro _
    | (extract_lets +onlyGivenNames x; refine Kept.cut (s₀ := s₀) (x := x.2) ?_ (fun hx => ?_); unfold x; clear x; rotate_left; clear_value x; rotate_right)
    | with_reducible apply State.freeWord_kept
    | with_reducible apply foldl_kept2

end Sys2Proof.Machine
end

