-- ==== Sys2Proof/Laws/KeptFaultOps.lean ====
section
/-! SUPPORT. What every operation of Machine/FaultOps.lean keeps: see Kept in Laws/Kept.lean. -/

namespace Sys2Proof.Machine

theorem State.setQueue_kept {s₀ : State} (s : State) (b : Nat) (l : List HEntry) (hk : Kept s₀ s) :
    Kept s₀ (State.setQueue s b l) := by
  unfold State.setQueue
  repeat' first
    | (extract_lets +onlyGivenNames x; clear_value x)
    | (with_reducible apply Kept.mk'; first | with_reducible assumption | (with_reducible apply Kept.mk'; with_reducible assumption))

theorem State.pushEntry_kept {s₀ : State} (s : State) (b : Nat) (e : HEntry) (hk : Kept s₀ s) :
    Kept s₀ (State.pushEntry s b e) := by
  unfold State.pushEntry
  repeat' first
    | with_reducible assumption
    | (extract_lets +onlyGivenNames x; refine Kept.cut (s₀ := s₀) (x := x) ?_ (fun hx => ?_); unfold x; clear x; rotate_left; clear_value x; rotate_right)
    | (extract_lets +onlyGivenNames x; clear_value x)
    | with_reducible apply Kept.ite
    | with_reducible apply State.count_kept
    | with_reducible apply State.setQueue_kept

theorem State.interrupt_kept {s₀ : State} (s : State) (b cls code level : Nat) (hk : Kept s₀ s) :
    Kept s₀ (State.interrupt s b cls code level) := by
  unfold State.interrupt
  repeat' first
    | with_reducible assumption
    | (extract_lets +onlyGivenNames x; refine Kept.cut (s₀ := s₀) (x := x) ?_ (fun hx => ?_); unfold x; clear x; rotate_left; clear_value x; rotate_right)
    | (extract_lets +onlyGivenNames x; clear_value x)
    | with_reducible apply Kept.ite
    | with_reducible apply State.bumpWord_kept
    | with_reducible apply State.count_kept
    | with_reducible apply State.emit_kept
    | (with_reducible apply Kept.mk'; first | with_reducible assumption | (with_reducible apply Kept.mk'; with_reducible assumption) | with_reducible apply State.bumpWord_kept | with_reducible apply State.count_kept | with_reducible apply State.emit_kept)

theorem State.event_kept {s₀ : State} (s : State) (b code detail : Nat) (hk : Kept s₀ s) :
    Kept s₀ (State.event s b code detail) := by
  unfold State.event
  repeat' first
    | with_reducible assumption
    | with_reducible apply State.interrupt_kept
    | with_reducible apply State.pushEntry_kept

theorem State.recordFault_kept {s₀ : State} (s : State) (b cls code detail native : Nat) (hk : Kept s₀ s) :
    Kept s₀ (State.recordFault s b cls code detail native).2 := by
  unfold State.recordFault
  repeat' first
    | with_reducible assumption
    | (extract_lets +onlyGivenNames x; (have f : Prop := x); clear f; unfold x; clear x)
    | (extract_lets +onlyGivenNames x; refine Kept.cut (s₀ := s₀) (x := x) ?_ (fun hx => ?_); unfold x; clear x; rotate_left; clear_value x; rotate_right)
    | (extract_lets +onlyGivenNames x; clear_value x)
    | with_reducible apply Kept.ite
    | with_reducible apply State.count_kept
    | with_reducible apply State.interrupt_kept
    | with_reducible apply State.pushEntry_kept
    | with_reducible apply State.setNat_kept
    | (with_reducible apply Kept.mk'; first | with_reducible assumption | (with_reducible apply Kept.mk'; with_reducible assumption) | with_reducible apply State.count_kept | with_reducible apply State.interrupt_kept | with_reducible apply State.pushEntry_kept | with_reducible apply State.setNat_kept)

theorem State.ackBlock_kept {s₀ : State} (s : State) (b : Nat) (hk : Kept s₀ s) :
    Kept s₀ (State.ackBlock s b) := by
  unfold State.ackBlock
  repeat' first
    | with_reducible assumption
    | (extract_lets +onlyGivenNames x; refine Kept.cut (s₀ := s₀) (x := x) ?_ (fun hx => ?_); unfold x; clear x; rotate_left; clear_value x; rotate_right)
    | (extract_lets +onlyGivenNames x; clear_value x)
    | with_reducible apply State.setNat_kept
    | with_reducible apply State.setQueue_kept
    | (with_reducible apply Kept.mk'; first | with_reducible assumption | (with_reducible apply Kept.mk'; with_reducible assumption) | with_reducible apply State.setNat_kept | with_reducible apply State.setQueue_kept)

theorem State.exception_kept {s₀ : State} (s : State) (cause : Nat) (hk : Kept s₀ s) :
    Kept s₀ (State.exception s cause) := by
  unfold State.exception
  repeat' first
    | with_reducible assumption
    | intro _
    | (extract_lets +onlyGivenNames x; clear_value x)
    | with_reducible apply Kept.ite
    | with_reducible apply State.count_kept
    | with_reducible apply State.event_kept
    | with_reducible apply State.forEach_kept
    | with_reducible apply State.setNat_kept

theorem State.openRecovery_kept {s₀ : State} (s : State) (d : Nat) (hk : Kept s₀ s) :
    Kept s₀ (State.openRecovery s d) := by
  unfold State.openRecovery
  repeat' first
    | (extract_lets +onlyGivenNames x; clear_value x)
    | (with_reducible apply Kept.mk'; first | with_reducible assumption | (with_reducible apply Kept.mk'; with_reducible assumption))

end Sys2Proof.Machine
end

