-- ==== Sys2Proof/Laws/KeptEngineOps.lean ====
section
/-! SUPPORT. What every operation of Machine/EngineOps.lean keeps: see Kept in Laws/Kept.lean. -/

namespace Sys2Proof.Machine

theorem State.setInst_kept {s₀ : State} (s : State) (i : Nat) (v : Inst) (hk : Kept s₀ s) :
    Kept s₀ (State.setInst s i v) := by
  unfold State.setInst
  repeat' first
    | (extract_lets +onlyGivenNames x; clear_value x)
    | (with_reducible apply Kept.mk'; first | with_reducible assumption | (with_reducible apply Kept.mk'; with_reducible assumption))

theorem State.writeCompare_kept {s₀ : State} (s : State) (n : Nat) (d : Int) (hk : Kept s₀ s) :
    Kept s₀ (State.writeCompare s n d) := by
  unfold State.writeCompare
  repeat' first
    | with_reducible assumption
    | (extract_lets +onlyGivenNames x; clear_value x)
    | with_reducible apply State.setPhase_kept

theorem State.releaseFF_kept {s₀ : State} (s : State) (w : Nat) (hk : Kept s₀ s) :
    Kept s₀ (State.releaseFF s w) := by
  unfold State.releaseFF
  repeat' first
    | with_reducible assumption
    | intro _
    | (extract_lets +onlyGivenNames x; refine Kept.cut (s₀ := s₀) (x := x) ?_ (fun hx => ?_); unfold x; clear x; rotate_left; clear_value x; rotate_right)
    | (extract_lets +onlyGivenNames x; clear_value x)
    | with_reducible apply Kept.ite
    | with_reducible apply State.forEach_kept
    | with_reducible apply State.writeCompare_kept
    | (with_reducible apply Kept.mk'; first | with_reducible assumption | (with_reducible apply Kept.mk'; with_reducible assumption) | with_reducible apply State.forEach_kept | with_reducible apply State.writeCompare_kept)

end Sys2Proof.Machine
end

