-- ==== Sys2Proof/Laws/KeptProgOps.lean ====
section
/-! SUPPORT. What every operation of Machine/ProgOps.lean keeps: see Kept in Laws/Kept.lean. -/

namespace Sys2Proof.Machine

theorem State.setArr_kept {s₀ : State} (s : State) (g : Nat) (a : ArrSt) (hk : Kept s₀ s) :
    Kept s₀ (State.setArr s g a) := by
  unfold State.setArr
  repeat' first
    | (extract_lets +onlyGivenNames x; clear_value x)
    | (with_reducible apply Kept.mk'; first | with_reducible assumption | (with_reducible apply Kept.mk'; with_reducible assumption))

theorem State.setProg_kept {s₀ : State} (s : State) (h : Nat) (p : ProgSt) (hk : Kept s₀ s) :
    Kept s₀ (State.setProg s h p) := by
  unfold State.setProg
  repeat' first
    | (extract_lets +onlyGivenNames x; clear_value x)
    | (with_reducible apply Kept.mk'; first | with_reducible assumption | (with_reducible apply Kept.mk'; with_reducible assumption))

theorem State.setSlot_kept {s₀ : State} (s : State) (k : Nat) (v : SlotSt) (hk : Kept s₀ s) :
    Kept s₀ (State.setSlot s k v) := by
  unfold State.setSlot
  repeat' first
    | (extract_lets +onlyGivenNames x; clear_value x)
    | (with_reducible apply Kept.mk'; first | with_reducible assumption | (with_reducible apply Kept.mk'; with_reducible assumption))

theorem State.triggerRun_kept {s₀ : State} (s : State) (h : Nat) (hk : Kept s₀ s) :
    Kept s₀ (State.triggerRun s h) := by
  unfold State.triggerRun
  repeat' first
    | with_reducible assumption
    | (extract_lets +onlyGivenNames x; clear_value x)
    | with_reducible apply Kept.ite
    | with_reducible apply State.setProg_kept
    | split

theorem State.triggerDomain_kept {s₀ : State} (s : State) (id tenant : Nat) (hk : Kept s₀ s) :
    Kept s₀ (State.triggerDomain s id tenant) := by
  unfold State.triggerDomain
  repeat' first
    | with_reducible assumption
    | intro _
    | with_reducible apply State.triggerRun_kept
    | with_reducible apply foldl_kept

end Sys2Proof.Machine
end

