-- ==== Sys2Proof/Laws/KeptBarrierOps.lean ====
section
/-! SUPPORT. What every operation of Machine/BarrierOps.lean keeps: see Kept in Laws/Kept.lean. -/

namespace Sys2Proof.Machine

theorem State.setDom_kept {s₀ : State} (s : State) (i : Nat) (d : Dom) (hk : Kept s₀ s) :
    Kept s₀ (State.setDom s i d) := by
  unfold State.setDom
  repeat' first
    | (extract_lets +onlyGivenNames x; clear_value x)
    | (with_reducible apply Kept.mk'; first | with_reducible assumption | (with_reducible apply Kept.mk'; with_reducible assumption))

theorem State.setWeight_kept {s₀ : State} (s : State) (ep w : Nat) (hk : Kept s₀ s) :
    Kept s₀ (State.setWeight s ep w) := by
  unfold State.setWeight
  repeat' first
    | (extract_lets +onlyGivenNames x; clear_value x)
    | (with_reducible apply Kept.mk'; first | with_reducible assumption | (with_reducible apply Kept.mk'; with_reducible assumption))

theorem State.sendReleases_kept {s₀ : State} (s : State) (d : Dom) (eps : List Nat) (result episode wave : Nat) (hk : Kept s₀ s) :
    Kept s₀ (State.sendReleases s d eps result episode wave) := by
  unfold State.sendReleases
  repeat' first
    | with_reducible assumption
    | intro _
    | (extract_lets +onlyGivenNames x; clear_value x)
    | with_reducible apply State.forEach_kept
    | with_reducible apply State.sendFlow_kept

theorem State.sendHallRelease_kept {s₀ : State} (s : State) (d : Dom) (shelf episode : Nat) (hk : Kept s₀ s) :
    Kept s₀ (State.sendHallRelease s d shelf episode) := by
  unfold State.sendHallRelease
  repeat' first
    | with_reducible assumption
    | with_reducible apply State.sendFlow_kept

theorem State.releaseWave_kept {s₀ : State} (s : State) (slot : Nat) (eps : List Nat) (episode wave : Nat) (hk : Kept s₀ s) :
    Kept s₀ (State.releaseWave s slot eps episode wave) := by
  unfold State.releaseWave
  repeat' first
    | with_reducible assumption
    | (extract_lets +onlyGivenNames x; refine Kept.cut (s₀ := s₀) (x := x) ?_ (fun hx => ?_); unfold x; clear x; rotate_left; clear_value x; rotate_right)
    | (extract_lets +onlyGivenNames x; clear_value x)
    | with_reducible apply State.releaseFF_kept
    | with_reducible apply State.sendReleases_kept
    | (with_reducible apply Kept.mk'; first | with_reducible assumption | (with_reducible apply Kept.mk'; with_reducible assumption) | with_reducible apply State.count_kept | with_reducible apply State.releaseFF_kept | with_reducible apply State.sendReleases_kept)

theorem State.pacedEnd_kept {s₀ : State} (s : State) (r : Rel) (hk : Kept s₀ s) :
    Kept s₀ (State.pacedEnd s r) := by
  unfold State.pacedEnd
  repeat' first
    | with_reducible assumption
    | (extract_lets +onlyGivenNames x; refine Kept.cut (s₀ := s₀) (x := x) ?_ (fun hx => ?_); unfold x; clear x; rotate_left; clear_value x; rotate_right)
    | with_reducible apply State.count64_kept
    | with_reducible apply State.count_kept
    | with_reducible apply State.setNat_kept
    | split

theorem State.waveOne_kept {s₀ : State} (s : State) (h : Int) (heLess : Bool) (r : Rel) (hk : Kept s₀ s) :
    Kept s₀ (State.waveOne s h heLess r).2.2 := by
  unfold State.waveOne
  repeat' first
    | with_reducible assumption
    | (extract_lets +onlyGivenNames x; refine Kept.cut (s₀ := s₀) (x := x) ?_ (fun hx => ?_); unfold x; clear x; rotate_left; clear_value x; rotate_right)
    | (extract_lets +onlyGivenNames x; clear_value x)
    | with_reducible apply Kept.ite
    | with_reducible apply State.count_kept
    | with_reducible apply State.exception_kept
    | with_reducible apply State.pacedEnd_kept
    | with_reducible apply State.releaseWave_kept
    | with_reducible apply State.setDom_kept
    | with_reducible apply State.tenantEvent_kept
    | split

theorem State.runWaves_kept {s₀ : State} (s : State) (hk : Kept s₀ s) : Kept s₀ (State.runWaves s) := by
  have key : ∀ (f : Int → State → Rel → Int × Option Rel × State), (∀ h s r, Kept s₀ s → Kept s₀ (f h s r).2.2) →
      ∀ (l : List Rel) (p : Int × List Rel × State), Kept s₀ p.2.2 → Kept s₀ (l.foldl (fun (a : Int × List Rel × State) r =>
        ((f a.1 a.2.2 r).1, a.2.1 ++ (f a.1 a.2.2 r).2.1.toList, (f a.1 a.2.2 r).2.2)) p).2.2 := by
    intro f hf l
    induction l with
    | nil => exact fun p h => h
    | cons r l ih => exact fun p h => ih _ (hf _ _ _ h)
  have h2 := key (fun h t r => t.waveOne h (decide (s.headTerms.2 < s.headTerms.1)) r) (fun h s r hs => State.waveOne_kept s h _ r hs)
    s.pool.pending (s.headroom, [], s) hk
  exact ⟨h2.pending, h2.now, h2.out, h2.free, h2.canon, h2.authority⟩

theorem State.flushPending_kept {s₀ : State} (s : State) (hk : Kept s₀ s) :
    Kept s₀ (State.flushPending s) := by
  unfold State.flushPending
  repeat' first
    | with_reducible assumption
    | intro _
    | (extract_lets +onlyGivenNames x; refine Kept.cut (s₀ := s₀) (x := x) ?_ (fun hx => ?_); unfold x; clear x; rotate_left; clear_value x; rotate_right)
    | (extract_lets +onlyGivenNames x; clear_value x)
    | with_reducible apply State.pacedEnd_kept
    | with_reducible apply State.releaseWave_kept
    | with_reducible apply foldl_kept
    | (with_reducible apply Kept.mk'; first | with_reducible assumption | (with_reducible apply Kept.mk'; with_reducible assumption) | with_reducible apply State.pacedEnd_kept | with_reducible apply State.releaseWave_kept)

theorem State.pacerComplete_kept {s₀ : State} (s : State) (slot episode : Nat) (hk : Kept s₀ s) :
    Kept s₀ (State.pacerComplete s slot episode) := by
  unfold State.pacerComplete
  repeat' first
    | with_reducible assumption
    | (extract_lets +onlyGivenNames x; refine Kept.cut (s₀ := s₀) (x := x) ?_ (fun hx => ?_); unfold x; clear x; rotate_left; clear_value x; rotate_right)
    | (extract_lets +onlyGivenNames x; clear_value x)
    | with_reducible apply Kept.ite
    | with_reducible apply State.releaseWave_kept
    | with_reducible apply State.runWaves_kept
    | with_reducible apply State.setDom_kept
    | with_reducible apply State.setNat_kept
    | (with_reducible apply Kept.mk'; first | with_reducible assumption | (with_reducible apply Kept.mk'; with_reducible assumption) | with_reducible apply State.releaseWave_kept | with_reducible apply State.runWaves_kept | with_reducible apply State.setDom_kept | with_reducible apply State.setNat_kept)

theorem State.releaseDown_kept {s₀ : State} (s : State) (slot episode : Nat) (hk : Kept s₀ s) :
    Kept s₀ (State.releaseDown s slot episode) := by
  unfold State.releaseDown
  repeat' first
    | with_reducible assumption
    | intro _
    | (extract_lets +onlyGivenNames x; clear_value x)
    | with_reducible apply State.forEach_kept
    | with_reducible apply State.pacerComplete_kept
    | with_reducible apply State.sendHallRelease_kept

theorem State.nodeCount_kept {s₀ : State} (s : State) (w n : Nat) (hk : Kept s₀ s) :
    Kept s₀ (State.nodeCount s w n) := by
  unfold State.nodeCount
  repeat' first
    | with_reducible assumption
    | (extract_lets +onlyGivenNames x; clear_value x)
    | with_reducible apply State.putWord_kept

theorem State.nodeReset_kept {s₀ : State} (s : State) (w : Nat) (hk : Kept s₀ s) :
    Kept s₀ (State.nodeReset s w) := by
  unfold State.nodeReset
  repeat' first
    | with_reducible assumption
    | (extract_lets +onlyGivenNames x; clear_value x)
    | with_reducible apply State.putWord_kept

theorem State.sendHallArrive_kept {s₀ : State} (s : State) (d : Dom) (parent episode : Nat) (hk : Kept s₀ s) :
    Kept s₀ (State.sendHallArrive s d parent episode) := by
  unfold State.sendHallArrive
  repeat' first
    | with_reducible assumption
    | (extract_lets +onlyGivenNames x; refine Kept.cut (s₀ := s₀) (x := x.2) ?_ (fun hx => ?_); unfold x; clear x; rotate_left; clear_value x; rotate_right)
    | with_reducible apply State.draw_kept
    | with_reducible apply State.sendFlow_kept

theorem State.reportUp_kept {s₀ : State} (s : State) (slot episode n l : Nat) (hk : Kept s₀ s) :
    Kept s₀ (State.reportUp s slot episode n l) := by
  induction n generalizing s l with
  | zero => exact hk
  | succ n ih =>
  unfold State.reportUp
  repeat' first
    | with_reducible assumption
    | intro _
    | (extract_lets +onlyGivenNames x; refine Kept.cut (s₀ := s₀) (x := x) ?_ (fun hx => ?_); unfold x; clear x; rotate_left; clear_value x; rotate_right)
    | (extract_lets +onlyGivenNames x; refine Kept.cut (s₀ := s₀) (x := x.2) ?_ (fun hx => ?_); unfold x; clear x; rotate_left; clear_value x; rotate_right)
    | (extract_lets +onlyGivenNames x; clear_value x)
    | with_reducible apply Kept.ite
    | with_reducible apply Kept.ite2
    | with_reducible apply ih
    | with_reducible apply State.nodeReset_kept
    | with_reducible apply State.nodeCount_kept
    | with_reducible apply State.setDom_kept
    | with_reducible apply State.sendHallArrive_kept
    | with_reducible apply State.releaseDown_kept
    | (with_reducible apply Kept.mk'; with_reducible assumption)
    | (with_reducible refine Kept.snd _ ?_; with_reducible assumption)
    | split

theorem State.shelfComplete_kept {s₀ : State} (s : State) (slot : Nat) (hk : Kept s₀ s) :
    Kept s₀ (State.shelfComplete s slot) := by
  unfold State.shelfComplete
  repeat' first
    | with_reducible assumption
    | (extract_lets +onlyGivenNames x; refine Kept.cut (s₀ := s₀) (x := x) ?_ (fun hx => ?_); unfold x; clear x; rotate_left; clear_value x; rotate_right)
    | (extract_lets +onlyGivenNames x; clear_value x)
    | with_reducible apply State.nodeReset_kept
    | with_reducible apply State.reportUp_kept
    | with_reducible apply State.setDom_kept
    | with_reducible apply State.setNat_kept
    | with_reducible apply State.triggerDomain_kept
    | (with_reducible apply Kept.mk'; first | with_reducible assumption | (with_reducible apply Kept.mk'; with_reducible assumption) | with_reducible apply State.event_kept | with_reducible apply State.nodeReset_kept | with_reducible apply State.reportUp_kept | with_reducible apply State.setDom_kept | with_reducible apply State.setNat_kept | with_reducible apply State.triggerDomain_kept)

end Sys2Proof.Machine
end

