-- ==== Sys2Proof/Laws/KeptDomainOps.lean ====
section
/-! SUPPORT. What every operation of Machine/DomainOps.lean keeps: see Kept in Laws/Kept.lean. -/

namespace Sys2Proof.Machine

theorem State.sendWrite_kept {s₀ : State} (s : State) (shelf addr : Nat) (data : List Nat) (hk : Kept s₀ s) :
    Kept s₀ (State.sendWrite s shelf addr data).2 := by
  unfold State.sendWrite
  repeat' first
    | with_reducible assumption
    | intro _
    | (extract_lets +onlyGivenNames x; refine Kept.cut (s₀ := s₀) (x := x.2) ?_ (fun hx => ?_); unfold x; clear x; rotate_left; clear_value x; rotate_right)
    | (extract_lets +onlyGivenNames x; clear_value x)
    | with_reducible apply State.newTid_kept
    | with_reducible apply State.sendFlow_kept
    | with_reducible apply foldl_kept

theorem State.sendNotice_kept {s₀ : State} (s : State) (shelf stage home id : Nat) (body : List Nat) (hk : Kept s₀ s) :
    Kept s₀ (State.sendNotice s shelf stage home id body).2 := by
  unfold State.sendNotice
  repeat' first
    | with_reducible assumption
    | with_reducible apply State.sendWrite_kept

theorem State.reserveWord_kept {s₀ : State} (s : State) (w tag : Nat) (hk : Kept s₀ s) :
    Kept s₀ (State.reserveWord s w tag) := by
  unfold State.reserveWord
  repeat' first
    | with_reducible assumption
    | with_reducible apply State.setWord_kept

theorem optFold_kept {α β : Type} {s₀ : State} (f : Option (β × State) → α → Option (β × State)) (l : List α)
    (hf : ∀ a x t, (∀ p, a = some p → Kept s₀ p.2) → f a x = some t → Kept s₀ t.2) :
    ∀ (a : Option (β × State)) (t : β × State), (∀ p, a = some p → Kept s₀ p.2) → l.foldl f a = some t → Kept s₀ t.2 := by
  induction l with
  | nil => exact fun a t h e => h t e
  | cons x l ih => exact fun a t h e => ih (f a x) t (fun p hp => hf a x p h hp) e

theorem State.reserveTree_ok {s₀ s : State} {tag : Nat} {lv members : List Nat} {trays : List TrayNode}
    {a : List TrayNode} {b : Nat} {c : List HallNode} {t : State} (hk : Kept s₀ s)
    (he : s.reserveTree tag lv members trays = some (a, b, c, t)) : Kept s₀ t := by
  unfold State.reserveTree at he
  simp only at he
  split at he
  · cases he
  rename_i tl s1 h1
  have k1 : Kept s₀ s1 := by
    refine optFold_kept _ trays ?_ (some ([], s)) (tl, s1) (fun p hp => by cases hp; exact hk) h1
    intro a x t ha hx
    split at hx
    · cases hx
    split at hx
    · cases hx
    · cases hx; exact State.reserveWord_kept _ _ _ (ha _ rfl)
  split at he
  · cases he
  rename_i w0 s2 h2
  have k2 : Kept s₀ s2 := by
    split at h2
    · cases h2; exact k1
    · rw [Option.map_eq_some_iff] at h2
      obtain ⟨w, _, hw⟩ := h2
      cases hw; exact State.reserveWord_kept _ _ _ k1
  split at he
  · cases he
  rename_i hs s3 h3
  have k3 : Kept s₀ s3 := by
    refine optFold_kept _ _ ?_ (some ([], s2)) (hs, s3) (fun p hp => by cases hp; exact k2) h3
    intro a x t ha hx
    split at hx
    · cases hx
    split at hx
    · cases hx
    · cases hx; exact State.reserveWord_kept _ _ _ (ha _ rfl)
  cases he
  exact k3

theorem State.memberPrepare_kept {s₀ : State} (s : State) (home : Nat) (b : List Nat) (hk : Kept s₀ s) :
    Kept s₀ (State.memberPrepare s home b).2 := by
  unfold State.memberPrepare
  repeat' first
    | with_reducible assumption
    | (extract_lets +onlyGivenNames x; clear_value x)
    | with_reducible apply Kept.ite2
    | with_reducible apply State.setDom_kept
    | (refine State.reserveTree_ok ?_ (by with_reducible assumption))
    | split

theorem State.memberCommit_kept {s₀ : State} (s : State) (i : Nat) (hk : Kept s₀ s) :
    Kept s₀ (State.memberCommit s i) := by
  unfold State.memberCommit
  repeat' first
    | with_reducible assumption
    | intro _
    | (extract_lets +onlyGivenNames x; refine Kept.cut (s₀ := s₀) (x := x) ?_ (fun hx => ?_); unfold x; clear x; rotate_left; clear_value x; rotate_right)
    | (extract_lets +onlyGivenNames x; clear_value x)
    | with_reducible apply State.forEach_kept
    | with_reducible apply State.setDom_kept
    | with_reducible apply State.setWeight_kept
    | with_reducible apply State.setWord_kept
    | (with_reducible apply Kept.mk'; first | with_reducible assumption | (with_reducible apply Kept.mk'; with_reducible assumption) | with_reducible apply State.forEach_kept | with_reducible apply State.setDom_kept | with_reducible apply State.setWeight_kept | with_reducible apply State.setWord_kept)

theorem State.memberOpen_kept {s₀ : State} (s : State) (i : Nat) (hk : Kept s₀ s) :
    Kept s₀ (State.memberOpen s i) := by
  unfold State.memberOpen
  repeat' first
    | with_reducible assumption
    | (extract_lets +onlyGivenNames x; clear_value x)
    | with_reducible apply State.setDom_kept
    | with_reducible apply State.tenantEvent_kept

theorem State.freeTree_kept {s₀ : State} (s : State) (ws : List Nat) (hk : Kept s₀ s) :
    Kept s₀ (State.freeTree s ws) := by
  unfold State.freeTree
  repeat' first
    | with_reducible assumption
    | intro _
    | with_reducible apply State.disarmWord_kept
    | with_reducible apply State.forEach_kept
    | with_reducible apply State.setWord_kept

theorem State.memberAbort_kept {s₀ : State} (s : State) (i : Nat) (hk : Kept s₀ s) :
    Kept s₀ (State.memberAbort s i) := by
  unfold State.memberAbort
  repeat' first
    | with_reducible assumption
    | with_reducible apply State.freeTree_kept
    | with_reducible apply State.setDom_kept

theorem State.dropPending_kept {s₀ : State} (s : State) (i : Nat) (hk : Kept s₀ s) :
    Kept s₀ (State.dropPending s i) := by
  unfold State.dropPending
  repeat' first
    | (extract_lets +onlyGivenNames x; clear_value x)
    | (with_reducible apply Kept.mk'; first | with_reducible assumption | (with_reducible apply Kept.mk'; with_reducible assumption))

theorem State.memberClose_kept {s₀ : State} (s : State) (i : Nat) (requester : Bool) (hk : Kept s₀ s) :
    Kept s₀ (State.memberClose s i requester) := by
  unfold State.memberClose
  repeat' first
    | with_reducible assumption
    | (extract_lets +onlyGivenNames x; refine Kept.cut (s₀ := s₀) (x := x) ?_ (fun hx => ?_); unfold x; clear x; rotate_left; clear_value x; rotate_right)
    | (extract_lets +onlyGivenNames x; clear_value x)
    | with_reducible apply Kept.ite
    | with_reducible apply State.dropPending_kept
    | with_reducible apply State.freeTree_kept
    | with_reducible apply State.sendReleases_kept
    | with_reducible apply State.setDom_kept
    | with_reducible apply State.tenantEvent_kept

theorem State.domainFree_kept {s₀ : State} (s : State) (i : Nat) (hk : Kept s₀ s) :
    Kept s₀ (State.domainFree s i) := by
  unfold State.domainFree
  repeat' first
    | with_reducible assumption
    | with_reducible apply State.freeTree_kept
    | with_reducible apply State.setDom_kept

theorem State.breakDomain_kept {s₀ : State} (s : State) (i : Nat) (quiet : Bool) (hk : Kept s₀ s) :
    Kept s₀ (State.breakDomain s i quiet) := by
  unfold State.breakDomain
  repeat' first
    | with_reducible assumption
    | intro _
    | (extract_lets +onlyGivenNames x; refine Kept.cut (s₀ := s₀) (x := x) ?_ (fun hx => ?_); unfold x; clear x; rotate_left; clear_value x; rotate_right)
    | (extract_lets +onlyGivenNames x; clear_value x)
    | with_reducible apply Kept.ite
    | with_reducible apply State.dropPending_kept
    | with_reducible apply State.forEach_kept
    | with_reducible apply State.sendNotice_kept
    | with_reducible apply State.sendReleases_kept
    | with_reducible apply State.setDom_kept
    | with_reducible apply State.tenantEvent_kept

theorem State.breakToward_kept {s₀ : State} (s : State) (p : Nat) (hk : Kept s₀ s) :
    Kept s₀ (State.breakToward s p) := by
  unfold State.breakToward
  repeat' first
    | with_reducible assumption
    | intro _
    | with_reducible apply State.breakDomain_kept
    | with_reducible apply State.forEach_kept

theorem State.breakOnDie_kept {s₀ : State} (s : State) (h : Nat) (hk : Kept s₀ s) :
    Kept s₀ (State.breakOnDie s h) := by
  unfold State.breakOnDie
  repeat' first
    | with_reducible assumption
    | intro _
    | with_reducible apply State.breakDomain_kept
    | with_reducible apply State.forEach_kept

theorem State.breakAllQuiet_kept {s₀ : State} (s : State) (hk : Kept s₀ s) :
    Kept s₀ (State.breakAllQuiet s) := by
  unfold State.breakAllQuiet
  repeat' first
    | with_reducible assumption
    | intro _
    | with_reducible apply State.breakDomain_kept
    | with_reducible apply State.forEach_kept

theorem State.reportLost_kept {s₀ : State} (s : State) (h : Nat) (words descs : Bool) (hk : Kept s₀ s) :
    Kept s₀ (State.reportLost s h words descs) := by
  unfold State.reportLost
  repeat' first
    | with_reducible assumption
    | intro _
    | (extract_lets +onlyGivenNames x; refine Kept.cut (s₀ := s₀) (x := x) ?_ (fun hx => ?_); unfold x; clear x; rotate_left; clear_value x; rotate_right)
    | (extract_lets +onlyGivenNames x; clear_value x)
    | with_reducible apply Kept.ite
    | with_reducible apply State.forEach_kept
    | with_reducible apply State.tenantEvent_kept

theorem State.loseDescs_kept {s₀ : State} (s : State) (h : Nat) (hk : Kept s₀ s) :
    Kept s₀ (State.loseDescs s h) := by
  unfold State.loseDescs
  repeat' first
    | with_reducible assumption
    | intro _
    | with_reducible apply State.disarm_kept
    | with_reducible apply foldl_kept

theorem State.setDomainResult_kept {s₀ : State} (s : State) (id result shelf stage : Nat) (hk : Kept s₀ s) :
    Kept s₀ (State.setDomainResult s id result shelf stage) := by
  unfold State.setDomainResult
  repeat' first
    | with_reducible assumption
    | with_reducible apply State.setBlob_kept

theorem State.setCreate_kept {s₀ : State} (s : State) (c : Option Creation) (hk : Kept s₀ s) :
    Kept s₀ (State.setCreate s c) := by
  unfold State.setCreate
  repeat' first
    | (extract_lets +onlyGivenNames x; clear_value x)
    | (with_reducible apply Kept.mk'; first | with_reducible assumption | (with_reducible apply Kept.mk'; with_reducible assumption))

theorem State.memberStage_kept {s₀ : State} (s : State) (stage home id : Nat) (body : List Nat) (hk : Kept s₀ s) :
    Kept s₀ (State.memberStage s stage home id body).2 := by
  unfold State.memberStage
  repeat' first
    | with_reducible assumption
    | (extract_lets +onlyGivenNames x; clear_value x)
    | with_reducible apply Kept.ite
    | with_reducible apply Kept.ite2
    | with_reducible apply State.breakDomain_kept
    | with_reducible apply State.memberAbort_kept
    | with_reducible apply State.memberClose_kept
    | with_reducible apply State.memberCommit_kept
    | with_reducible apply State.memberOpen_kept
    | with_reducible apply State.memberPrepare_kept
    | split

theorem State.createFail_kept {s₀ : State} (s : State) (result shelf : Nat) (hk : Kept s₀ s) :
    Kept s₀ (State.createFail s result shelf) := by
  unfold State.createFail
  repeat' first
    | with_reducible assumption
    | intro _
    | (extract_lets +onlyGivenNames x; refine Kept.cut (s₀ := s₀) (x := x) ?_ (fun hx => ?_); unfold x; clear x; rotate_left; clear_value x; rotate_right)
    | with_reducible apply Kept.ite
    | with_reducible apply State.forEach_kept
    | with_reducible apply State.memberStage_kept
    | with_reducible apply State.sendNotice_kept
    | with_reducible apply State.setCreate_kept
    | with_reducible apply State.setDomainResult_kept
    | split

theorem State.createStage_kept {s₀ : State} (s : State) (c : Creation) (stage : Nat) (hk : Kept s₀ s) :
    Kept s₀ (State.createStage s c stage) := by
  unfold State.createStage
  repeat' first
    | with_reducible assumption
    | intro _
    | (extract_lets +onlyGivenNames x; refine Kept.cut (s₀ := s₀) (x := x.2) ?_ (fun hx => ?_); unfold x; clear x; rotate_left; clear_value x; rotate_right)
    | (extract_lets +onlyGivenNames x; clear_value x)
    | with_reducible apply State.sendNotice_kept
    | with_reducible apply State.setCreate_kept
    | with_reducible apply foldl_kept2

theorem State.createAnswer_kept {s₀ : State} (n : Nat) (s : State) (m : Nat) (hk : Kept s₀ s) :
    Kept s₀ (State.createAnswer n s m) := by
  induction n generalizing s m with
  | zero => exact hk
  | succ n ih =>
  unfold State.createAnswer
  repeat' first
    | with_reducible assumption
    | intro _
    | (extract_lets +onlyGivenNames x; refine Kept.cut (s₀ := s₀) (x := x) ?_ (fun hx => ?_); unfold x; clear x; rotate_left; clear_value x; rotate_right)
    | (extract_lets +onlyGivenNames x; refine Kept.cut (s₀ := s₀) (x := x.2) ?_ (fun hx => ?_); unfold x; clear x; rotate_left; clear_value x; rotate_right)
    | (extract_lets +onlyGivenNames x; clear_value x)
    | with_reducible apply Kept.ite
    | with_reducible apply Kept.ite2
    | with_reducible apply ih
    | with_reducible apply State.setCreate_kept
    | with_reducible apply State.setDomainResult_kept
    | with_reducible apply State.createStage_kept
    | with_reducible apply State.memberStage_kept
    | with_reducible apply State.createFail_kept
    | (with_reducible apply Kept.mk'; with_reducible assumption)
    | (with_reducible refine Kept.snd _ ?_; with_reducible assumption)
    | split

theorem State.domainCreate_kept {s₀ : State} (s : State) (b : List Nat) (hk : Kept s₀ s) :
    Kept s₀ (State.domainCreate s b).2 := by
  unfold State.domainCreate
  repeat' first
    | with_reducible assumption
    | (extract_lets +onlyGivenNames x; refine Kept.cut (s₀ := s₀) (x := x) ?_ (fun hx => ?_); unfold x; clear x; rotate_left; clear_value x; rotate_right)
    | (extract_lets +onlyGivenNames x; refine Kept.cut (s₀ := s₀) (x := x.2) ?_ (fun hx => ?_); unfold x; clear x; rotate_left; clear_value x; rotate_right)
    | (extract_lets +onlyGivenNames x; clear_value x)
    | with_reducible apply Kept.ite
    | with_reducible apply Kept.ite2
    | with_reducible apply State.createAnswer_kept
    | with_reducible apply State.createFail_kept
    | with_reducible apply State.createStage_kept
    | with_reducible apply State.memberStage_kept
    | with_reducible apply State.setCreate_kept
    | with_reducible apply State.setDomainResult_kept
    | split

theorem State.peerAnswer_kept {s₀ : State} (s : State) (tid shelf result : Nat) (hk : Kept s₀ s) :
    Kept s₀ (State.peerAnswer s tid shelf result) := by
  unfold State.peerAnswer
  repeat' first
    | with_reducible assumption
    | with_reducible apply Kept.ite
    | with_reducible apply State.createAnswer_kept
    | with_reducible apply State.createFail_kept
    | with_reducible apply State.sendNotice_kept
    | split

theorem State.domainClose_kept {s₀ : State} (s : State) (id : Nat) (hk : Kept s₀ s) :
    Kept s₀ (State.domainClose s id).2 := by
  unfold State.domainClose
  repeat' first
    | with_reducible assumption
    | intro _
    | (extract_lets +onlyGivenNames x; refine Kept.cut (s₀ := s₀) (x := x) ?_ (fun hx => ?_); unfold x; clear x; rotate_left; clear_value x; rotate_right)
    | (extract_lets +onlyGivenNames x; clear_value x)
    | with_reducible apply Kept.ite
    | with_reducible apply Kept.ite2
    | with_reducible apply State.forEach_kept
    | with_reducible apply State.memberClose_kept
    | with_reducible apply State.sendNotice_kept
    | split

theorem State.freeTenant_kept {s₀ : State} (s : State) (tag : Nat) (hk : Kept s₀ s) :
    Kept s₀ (State.freeTenant s tag).2 := by
  unfold State.freeTenant
  repeat' first
    | with_reducible assumption
    | intro _
    | (extract_lets +onlyGivenNames x; refine Kept.cut (s₀ := s₀) (x := x) ?_ (fun hx => ?_); unfold x; clear x; rotate_left; clear_value x; rotate_right)
    | (extract_lets +onlyGivenNames x; clear_value x)
    | with_reducible apply State.disarm_kept
    | with_reducible apply State.forEach_kept
    | with_reducible apply State.freeWords_kept
    | with_reducible apply State.setDesc_kept
    | (with_reducible apply Kept.mk'; first | with_reducible assumption | (with_reducible apply Kept.mk'; with_reducible assumption) | with_reducible apply State.disarm_kept | with_reducible apply State.forEach_kept | with_reducible apply State.freeWords_kept | with_reducible apply State.setDesc_kept)

end Sys2Proof.Machine
end

