-- ==== Sys2Proof/Laws/KeptHistOps.lean ====
section
/-! SUPPORT. What every operation of Machine/HistOps.lean keeps: see Kept in Laws/Kept.lean. -/

namespace Sys2Proof.Machine

theorem State.setRingDef_kept {s₀ : State} (s : State) (c : Nat) (r : RingDef) (hk : Kept s₀ s) :
    Kept s₀ (State.setRingDef s c r) := by
  unfold State.setRingDef
  repeat' first
    | (extract_lets +onlyGivenNames x; clear_value x)
    | (with_reducible apply Kept.mk'; first | with_reducible assumption | (with_reducible apply Kept.mk'; with_reducible assumption))

theorem State.advanceRing_kept {s₀ : State} (s : State) (c : Nat) (hk : Kept s₀ s) :
    Kept s₀ (State.advanceRing s c) := by
  unfold State.advanceRing
  repeat' first
    | with_reducible assumption
    | (extract_lets +onlyGivenNames x; clear_value x)
    | with_reducible apply Kept.ite
    | with_reducible apply State.setRingDef_kept

theorem State.sample_kept {s₀ : State} (s : State) (c : Nat) (v : Int) (t : Nat) (hk : Kept s₀ s) :
    Kept s₀ (State.sample s c v t) := by
  unfold State.sample
  repeat' first
    | with_reducible assumption
    | (extract_lets +onlyGivenNames x; refine Kept.cut (s₀ := s₀) (x := x) ?_ (fun hx => ?_); unfold x; clear x; rotate_left; clear_value x; rotate_right)
    | (extract_lets +onlyGivenNames x; clear_value x)
    | with_reducible apply Kept.ite
    | with_reducible apply State.setRingDef_kept
    | (with_reducible apply Kept.mk'; first | with_reducible assumption | (with_reducible apply Kept.mk'; with_reducible assumption) | with_reducible apply State.setRingDef_kept)

theorem State.publish_kept {s₀ : State} (s : State) (c : Nat) (v : Int) (hk : Kept s₀ s) :
    Kept s₀ (State.publish s c v) := by
  unfold State.publish
  repeat' first
    | with_reducible assumption
    | with_reducible apply State.sample_kept

theorem State.fabricSample_kept {s₀ : State} (s : State) (c v tag : Nat) (hk : Kept s₀ s) :
    Kept s₀ (State.fabricSample s c v tag) := by
  unfold State.fabricSample
  repeat' first
    | with_reducible assumption
    | with_reducible apply State.count_kept
    | with_reducible apply State.sample_kept
    | split

theorem State.stackAccount_kept {s₀ : State} (s : State) (k : Nat) (hk : Kept s₀ s) :
    Kept s₀ (State.stackAccount s k) := by
  unfold State.stackAccount
  repeat' first
    | with_reducible assumption
    | with_reducible apply Kept.ite
    | with_reducible apply State.setNat_kept

theorem State.defineRing_ok {s₀ s t : State} {c : Nat} {r : RingDef} {boot : Bool} (hk : Kept s₀ s)
    (he : s.defineRing c r boot = .ok t) : Kept s₀ t := by
  unfold State.defineRing at he
  simp only at he
  repeat' split at he
  all_goals first
    | (cases he; done)
    | (cases he; repeat' first
        | with_reducible assumption
        | with_reducible apply State.stackAccount_kept
        | with_reducible apply State.setNat_kept
        | with_reducible apply State.setRingDef_kept
        | split)

theorem State.removeRing_kept {s₀ : State} (s : State) (c : Nat) (hk : Kept s₀ s) :
    Kept s₀ (State.removeRing s c) := by
  unfold State.removeRing
  repeat' first
    | with_reducible assumption
    | (extract_lets +onlyGivenNames x; refine Kept.cut (s₀ := s₀) (x := x) ?_ (fun hx => ?_); unfold x; clear x; rotate_left; clear_value x; rotate_right)
    | (extract_lets +onlyGivenNames x; clear_value x)
    | with_reducible apply Kept.ite
    | with_reducible apply State.setNat_kept
    | with_reducible apply State.stackAccount_kept
    | (with_reducible apply Kept.mk'; first | with_reducible assumption | (with_reducible apply Kept.mk'; with_reducible assumption) | with_reducible apply State.setNat_kept | with_reducible apply State.stackAccount_kept)
    | split

theorem State.channelDone_kept {s₀ : State} (s : State) (op code c : Nat) (hk : Kept s₀ s) :
    Kept s₀ (State.channelDone s op code c) := by
  unfold State.channelDone
  repeat' first
    | with_reducible assumption
    | with_reducible apply State.setBlob_kept

theorem State.channelDefine_kept {s₀ : State} (s : State) (b : List Nat) (hk : Kept s₀ s) :
    Kept s₀ (State.channelDefine s b) := by
  unfold State.channelDefine
  repeat' first
    | with_reducible assumption
    | (extract_lets +onlyGivenNames x; refine Kept.cut (s₀ := s₀) (x := x) ?_ (fun hx => ?_); unfold x; clear x; rotate_left; clear_value x; rotate_right)
    | (extract_lets +onlyGivenNames x; (have f := fun a => x a); clear f; unfold x; clear x; dsimp -zeta -failIfUnchanged only)
    | (extract_lets +onlyGivenNames x; clear_value x)
    | with_reducible apply Kept.ite
    | with_reducible apply State.channelDone_kept
    | with_reducible apply State.setNat_kept
    | with_reducible apply State.setRingDef_kept
    | (refine State.defineRing_ok ?_ (by with_reducible assumption))
    | split

theorem State.channelDelete_kept {s₀ : State} (s : State) (b : List Nat) (hk : Kept s₀ s) :
    Kept s₀ (State.channelDelete s b) := by
  unfold State.channelDelete
  repeat' first
    | with_reducible assumption
    | (extract_lets +onlyGivenNames x; clear_value x)
    | with_reducible apply Kept.ite
    | with_reducible apply State.channelDone_kept
    | with_reducible apply State.removeRing_kept
    | with_reducible apply State.setRingDef_kept

theorem State.channelQuery_kept {s₀ : State} (s : State) (b : List Nat) (hk : Kept s₀ s) :
    Kept s₀ (State.channelQuery s b) := by
  unfold State.channelQuery
  repeat' first
    | with_reducible assumption
    | (extract_lets +onlyGivenNames x; clear_value x)
    | with_reducible apply State.advanceRing_kept
    | with_reducible apply State.channelDone_kept

theorem State.channelGrants_kept {s₀ : State} (s : State) (b : List Nat) (hk : Kept s₀ s) :
    Kept s₀ (State.channelGrants s b) := by
  unfold State.channelGrants
  repeat' first
    | with_reducible assumption
    | (extract_lets +onlyGivenNames x; clear_value x)
    | with_reducible apply State.channelDone_kept
    | with_reducible apply State.setRingDef_kept
    | split

theorem State.windowDone_kept {s₀ : State} (s : State) (op code w bytes : Nat) (hk : Kept s₀ s) :
    Kept s₀ (State.windowDone s op code w bytes) := by
  unfold State.windowDone
  repeat' first
    | with_reducible assumption
    | with_reducible apply State.setBlob_kept

theorem State.windowDefine_kept {s₀ : State} (s : State) (b : List Nat) (hk : Kept s₀ s) :
    Kept s₀ (State.windowDefine s b) := by
  unfold State.windowDefine
  repeat' first
    | with_reducible assumption
    | (extract_lets +onlyGivenNames x; (have f : Prop := x); clear f; unfold x; clear x)
    | (extract_lets +onlyGivenNames x; refine Kept.cut (s₀ := s₀) (x := x) ?_ (fun hx => ?_); unfold x; clear x; rotate_left; clear_value x; rotate_right)
    | (extract_lets +onlyGivenNames x; (have f := fun a => x a); clear f; unfold x; clear x; dsimp -zeta -failIfUnchanged only)
    | (extract_lets +onlyGivenNames x; clear_value x)
    | with_reducible apply Kept.ite
    | with_reducible apply State.setNat_kept
    | with_reducible apply State.windowDone_kept
    | (with_reducible apply Kept.mk'; first | with_reducible assumption | (with_reducible apply Kept.mk'; with_reducible assumption) | with_reducible apply State.setNat_kept | with_reducible apply State.windowDone_kept)
    | split

theorem State.dropWindow_kept {s₀ : State} (s : State) (w : Nat) (hk : Kept s₀ s) :
    Kept s₀ (State.dropWindow s w) := by
  unfold State.dropWindow
  repeat' first
    | with_reducible assumption
    | (extract_lets +onlyGivenNames x; refine Kept.cut (s₀ := s₀) (x := x) ?_ (fun hx => ?_); unfold x; clear x; rotate_left; clear_value x; rotate_right)
    | (extract_lets +onlyGivenNames x; clear_value x)
    | with_reducible apply State.setNat_kept
    | (with_reducible apply Kept.mk'; first | with_reducible assumption | (with_reducible apply Kept.mk'; with_reducible assumption) | with_reducible apply State.setNat_kept)
    | split

theorem State.windowFree_kept {s₀ : State} (s : State) (b : List Nat) (hk : Kept s₀ s) :
    Kept s₀ (State.windowFree s b) := by
  unfold State.windowFree
  repeat' first
    | with_reducible assumption
    | (extract_lets +onlyGivenNames x; clear_value x)
    | with_reducible apply State.dropWindow_kept
    | with_reducible apply State.windowDone_kept
    | split

theorem State.windowQuery_kept {s₀ : State} (s : State) (b : List Nat) (hk : Kept s₀ s) :
    Kept s₀ (State.windowQuery s b) := by
  unfold State.windowQuery
  repeat' first
    | with_reducible assumption
    | (extract_lets +onlyGivenNames x; clear_value x)
    | with_reducible apply State.windowDone_kept
    | split

theorem State.histCloseTenant_kept {s₀ : State} (s : State) (slot tag : Nat) (hk : Kept s₀ s) :
    Kept s₀ (State.histCloseTenant s slot tag) := by
  unfold State.histCloseTenant
  repeat' first
    | with_reducible assumption
    | intro _
    | (extract_lets +onlyGivenNames x; refine Kept.cut (s₀ := s₀) (x := x) ?_ (fun hx => ?_); unfold x; clear x; rotate_left; clear_value x; rotate_right)
    | (extract_lets +onlyGivenNames x; clear_value x)
    | with_reducible apply State.dropWindow_kept
    | with_reducible apply State.forEach_kept
    | with_reducible apply State.removeRing_kept
    | with_reducible apply State.setRingDef_kept

theorem State.histStackFail_kept {s₀ : State} (s : State) (k : Nat) (hk : Kept s₀ s) :
    Kept s₀ (State.histStackFail s k) := by
  unfold State.histStackFail
  repeat' first
    | with_reducible assumption
    | intro _
    | (extract_lets +onlyGivenNames x; clear_value x)
    | with_reducible apply Kept.ite
    | with_reducible apply State.count_kept
    | with_reducible apply State.event_kept
    | with_reducible apply State.forEach_kept
    | with_reducible apply State.setRingDef_kept

theorem State.defineDefaults_kept {s₀ : State} (s : State) (hk : Kept s₀ s) :
    Kept s₀ (State.defineDefaults s) := by
  unfold State.defineDefaults
  repeat' first
    | with_reducible assumption
    | intro _
    | with_reducible apply Kept.ite
    | with_reducible apply State.forEach_kept
    | (refine State.defineRing_ok ?_ (by with_reducible assumption))
    | split

end Sys2Proof.Machine
end

