-- ==== Sys2Proof/Laws/KeptArrayOps.lean ====
section
/-! SUPPORT. What every operation of Machine/ArrayOps.lean keeps: see Kept in Laws/Kept.lean. -/

namespace Sys2Proof.Machine

theorem State.accountArr_kept {s₀ : State} (s : State) (g : Nat) (hk : Kept s₀ s) :
    Kept s₀ (State.accountArr s g) := by
  unfold State.accountArr
  repeat' first
    | with_reducible assumption
    | (extract_lets +onlyGivenNames x; refine Kept.cut (s₀ := s₀) (x := x) ?_ (fun hx => ?_); unfold x; clear x; rotate_left; clear_value x; rotate_right)
    | (extract_lets +onlyGivenNames x; clear_value x)
    | with_reducible apply State.count64_kept
    | with_reducible apply State.setArr_kept
    | split

theorem State.setPower_kept {s₀ : State} (s : State) (g st : Nat) (hk : Kept s₀ s) :
    Kept s₀ (State.setPower s g st) := by
  unfold State.setPower
  repeat' first
    | with_reducible assumption
    | (extract_lets +onlyGivenNames x; refine Kept.cut (s₀ := s₀) (x := x) ?_ (fun hx => ?_); unfold x; clear x; rotate_left; clear_value x; rotate_right)
    | (extract_lets +onlyGivenNames x; clear_value x)
    | with_reducible apply State.accountArr_kept
    | with_reducible apply State.setArr_kept

theorem State.startWake_kept {s₀ : State} (s : State) (g : Nat) (hk : Kept s₀ s) :
    Kept s₀ (State.startWake s g) := by
  unfold State.startWake
  repeat' first
    | with_reducible assumption
    | (extract_lets +onlyGivenNames x; refine Kept.cut (s₀ := s₀) (x := x) ?_ (fun hx => ?_); unfold x; clear x; rotate_left; clear_value x; rotate_right)
    | (extract_lets +onlyGivenNames x; clear_value x)
    | with_reducible apply Kept.ite
    | with_reducible apply State.count_kept
    | with_reducible apply State.setArr_kept
    | with_reducible apply State.setPower_kept

theorem State.rechoose_kept {s₀ : State} (s : State) (g : Nat) (hk : Kept s₀ s) :
    Kept s₀ (State.rechoose s g) := by
  unfold State.rechoose
  repeat' first
    | with_reducible assumption
    | (extract_lets +onlyGivenNames x; (have f : Prop := x); clear f; unfold x; clear x)
    | (extract_lets +onlyGivenNames x; refine Kept.cut (s₀ := s₀) (x := x) ?_ (fun hx => ?_); unfold x; clear x; rotate_left; clear_value x; rotate_right)
    | (extract_lets +onlyGivenNames x; clear_value x)
    | with_reducible apply Kept.ite
    | with_reducible apply State.setArr_kept
    | with_reducible apply State.setPower_kept
    | with_reducible apply State.startWake_kept

theorem State.demandArr_kept {s₀ : State} (s : State) (g : Nat) (hk : Kept s₀ s) :
    Kept s₀ (State.demandArr s g).2 := by
  unfold State.demandArr
  repeat' first
    | with_reducible assumption
    | (extract_lets +onlyGivenNames x; refine Kept.cut (s₀ := s₀) (x := x) ?_ (fun hx => ?_); unfold x; clear x; rotate_left; clear_value x; rotate_right)
    | (extract_lets +onlyGivenNames x; (have f := fun a => x a); clear f; unfold x; clear x; dsimp -zeta -failIfUnchanged only)
    | (extract_lets +onlyGivenNames x; clear_value x)
    | with_reducible apply Kept.ite
    | with_reducible apply Kept.ite2
    | with_reducible apply State.count_kept
    | with_reducible apply State.setArr_kept
    | with_reducible apply State.setPower_kept
    | with_reducible apply State.startWake_kept
    | split

theorem State.otherAdd_kept {s₀ : State} (s : State) (k n : Nat) (hk : Kept s₀ s) :
    Kept s₀ (State.otherAdd s k n) := by
  unfold State.otherAdd
  repeat' first
    | with_reducible assumption
    | with_reducible apply State.setNat_kept

theorem State.otherSub_kept {s₀ : State} (s : State) (k n : Nat) (hk : Kept s₀ s) :
    Kept s₀ (State.otherSub s k n) := by
  unfold State.otherSub
  repeat' first
    | with_reducible assumption
    | with_reducible apply State.setNat_kept

theorem State.setStackBlock_kept {s₀ : State} (s : State) (k : Nat) (v : List Nat) (hk : Kept s₀ s) :
    Kept s₀ (State.setStackBlock s k v) := by
  unfold State.setStackBlock
  repeat' first
    | (extract_lets +onlyGivenNames x; clear_value x)
    | (with_reducible apply Kept.mk'; first | with_reducible assumption | (with_reducible apply Kept.mk'; with_reducible assumption))

theorem State.updPart_kept {s₀ : State} (s : State) (r : PartRef) (f : PartSt → PartSt) (hk : Kept s₀ s) :
    Kept s₀ (State.updPart s r f) := by
  unfold State.updPart
  repeat' first
    | with_reducible assumption
    | with_reducible apply State.setProg_kept

theorem State.haltPart_kept {s₀ : State} (s : State) (h : Nat) (q : PartSt) (hk : Kept s₀ s) :
    Kept s₀ (State.haltPart s h q) := by
  unfold State.haltPart
  repeat' first
    | with_reducible assumption
    | (extract_lets +onlyGivenNames x; clear_value x)
    | with_reducible apply Kept.ite
    | with_reducible apply State.setArr_kept
    | split

theorem State.haltProg_kept {s₀ : State} (s : State) (h : Nat) (hk : Kept s₀ s) :
    Kept s₀ (State.haltProg s h) := by
  unfold State.haltProg
  repeat' first
    | with_reducible assumption
    | intro _
    | (extract_lets +onlyGivenNames x; refine Kept.cut (s₀ := s₀) (x := x) ?_ (fun hx => ?_); unfold x; clear x; rotate_left; clear_value x; rotate_right)
    | (extract_lets +onlyGivenNames x; clear_value x)
    | with_reducible apply State.forEach_kept
    | with_reducible apply State.haltPart_kept
    | with_reducible apply State.setProg_kept

theorem State.rechooseProg_kept {s₀ : State} (s : State) (h : Nat) (hk : Kept s₀ s) :
    Kept s₀ (State.rechooseProg s h) := by
  unfold State.rechooseProg
  repeat' first
    | with_reducible assumption
    | intro _
    | with_reducible apply State.forEach_kept
    | with_reducible apply State.rechoose_kept

theorem State.stopNow_kept {s₀ : State} (s : State) (h reason state : Nat) (hk : Kept s₀ s) :
    Kept s₀ (State.stopNow s h reason state) := by
  unfold State.stopNow
  repeat' first
    | with_reducible assumption
    | (extract_lets +onlyGivenNames x; refine Kept.cut (s₀ := s₀) (x := x) ?_ (fun hx => ?_); unfold x; clear x; rotate_left; clear_value x; rotate_right)
    | (extract_lets +onlyGivenNames x; clear_value x)
    | with_reducible apply State.haltProg_kept
    | with_reducible apply State.rechooseProg_kept
    | with_reducible apply State.setProg_kept

theorem State.progAccount_kept {s₀ : State} (s : State) (tag : Nat) (hk : Kept s₀ s) :
    Kept s₀ (State.progAccount s tag) := by
  unfold State.progAccount
  repeat' first
    | with_reducible assumption
    | (extract_lets +onlyGivenNames x; (have f := fun a => x a); clear f; unfold x; clear x; dsimp -zeta -failIfUnchanged only)
    | with_reducible apply State.setNat_kept
    | split

theorem State.releaseParts_kept {s₀ : State} (s : State) (h : Nat) (which : PartSt → Bool) (hk : Kept s₀ s) :
    Kept s₀ (State.releaseParts s h which) := by
  unfold State.releaseParts
  repeat' first
    | with_reducible assumption
    | intro _
    | (extract_lets +onlyGivenNames x; refine Kept.cut (s₀ := s₀) (x := x) ?_ (fun hx => ?_); unfold x; clear x; rotate_left; clear_value x; rotate_right)
    | (extract_lets +onlyGivenNames x; clear_value x)
    | with_reducible apply State.forEach_kept
    | with_reducible apply State.haltPart_kept
    | with_reducible apply State.otherSub_kept
    | with_reducible apply State.progAccount_kept
    | with_reducible apply State.rechoose_kept
    | with_reducible apply State.setProg_kept

theorem State.freeProg_kept {s₀ : State} (s : State) (h : Nat) (hk : Kept s₀ s) :
    Kept s₀ (State.freeProg s h) := by
  unfold State.freeProg
  repeat' first
    | with_reducible assumption
    | intro _
    | (extract_lets +onlyGivenNames x; refine Kept.cut (s₀ := s₀) (x := x) ?_ (fun hx => ?_); unfold x; clear x; rotate_left; clear_value x; rotate_right)
    | (extract_lets +onlyGivenNames x; clear_value x)
    | with_reducible apply State.forEach_kept
    | with_reducible apply State.otherSub_kept
    | with_reducible apply State.progAccount_kept
    | with_reducible apply State.releaseParts_kept
    | (with_reducible apply Kept.mk'; first | with_reducible assumption | (with_reducible apply Kept.mk'; with_reducible assumption) | with_reducible apply State.forEach_kept | with_reducible apply State.otherSub_kept | with_reducible apply State.progAccount_kept | with_reducible apply State.releaseParts_kept)

theorem State.placePart_ok {s₀ s t : State} {h : Nat} {copyB : Bool} {i : Nat} {d : PartDecl} (hk : Kept s₀ s)
    (he : s.placePart h copyB i d = .ok t) : Kept s₀ t := by
  unfold State.placePart at he
  simp only at he
  repeat' split at he
  all_goals first
    | (cases he; done)
    | (cases he; exact State.setArr_kept _ _ _ (State.otherAdd_kept _ _ _ (State.setProg_kept _ _ _ hk)))

theorem State.placeCopy_ok {s₀ t : State} (h : Nat) (copyB : Bool) (l : List (PartDecl × Nat)) (s : State) (hk : Kept s₀ s)
    (he : State.placeCopy h copyB l s = .ok t) : Kept s₀ t := by
  induction l generalizing s with
  | nil => cases he; exact hk
  | cons e l ih =>
    unfold State.placeCopy at he
    split at he
    · cases he
    · rename_i s1 h1
      exact ih s1 (State.placePart_ok hk h1) he

theorem State.placeProg_ok {s₀ s t : State} {h : Nat} (hk : Kept s₀ s) (he : s.placeProg h = .ok t) : Kept s₀ t := by
  unfold State.placeProg at he
  simp only at he
  split at he
  · cases he
  rename_i s1 h1
  have k1 := State.placeCopy_ok h false _ s hk h1
  split at he
  · exact State.placeCopy_ok h true _ s1 k1 he
  · cases he; exact k1

theorem State.writePart_kept {s₀ : State} (s : State) (h : Nat) (q : PartSt) (hk : Kept s₀ s) :
    Kept s₀ (State.writePart s h q) := by
  unfold State.writePart
  repeat' first
    | with_reducible assumption
    | intro _
    | (extract_lets +onlyGivenNames x; (have f : Prop := x); clear f; unfold x; clear x)
    | (extract_lets +onlyGivenNames x; refine Kept.cut (s₀ := s₀) (x := x) ?_ (fun hx => ?_); unfold x; clear x; rotate_left; clear_value x; rotate_right)
    | (extract_lets +onlyGivenNames x; clear_value x)
    | with_reducible apply State.forEach_kept
    | with_reducible apply State.setArr_kept
    | with_reducible apply State.setProg_kept
    | with_reducible apply State.setStackBlock_kept

theorem State.writeParts_kept {s₀ : State} (s : State) (h : Nat) (which : PartSt → Bool) (hk : Kept s₀ s) :
    Kept s₀ (State.writeParts s h which) := by
  unfold State.writeParts
  repeat' first
    | with_reducible assumption
    | intro _
    | with_reducible apply State.forEach_kept
    | with_reducible apply State.writePart_kept

theorem State.unreserve_kept {s₀ : State} (s : State) (h : Nat) (hk : Kept s₀ s) :
    Kept s₀ (State.unreserve s h) := by
  unfold State.unreserve
  repeat' first
    | with_reducible assumption
    | intro _
    | (extract_lets +onlyGivenNames x; refine Kept.cut (s₀ := s₀) (x := x) ?_ (fun hx => ?_); unfold x; clear x; rotate_left; clear_value x; rotate_right)
    | (extract_lets +onlyGivenNames x; clear_value x)
    | with_reducible apply State.forEach_kept
    | with_reducible apply State.releaseParts_kept
    | with_reducible apply State.setArr_kept

theorem State.replaceOne_kept {s₀ : State} (s : State) (h : Nat) (hk : Kept s₀ s) :
    Kept s₀ (State.replaceOne s h) := by
  unfold State.replaceOne
  repeat' first
    | with_reducible assumption
    | (extract_lets +onlyGivenNames x; refine Kept.cut (s₀ := s₀) (x := x) ?_ (fun hx => ?_); unfold x; clear x; rotate_left; clear_value x; rotate_right)
    | (extract_lets +onlyGivenNames x; clear_value x)
    | with_reducible apply Kept.ite
    | with_reducible apply State.count_kept
    | with_reducible apply State.progAccount_kept
    | with_reducible apply State.rechooseProg_kept
    | with_reducible apply State.setProg_kept
    | with_reducible apply State.unreserve_kept
    | with_reducible apply State.writeParts_kept
    | (refine State.placeProg_ok ?_ (by with_reducible assumption))
    | split

theorem State.replaceCopy_kept {s₀ : State} (s : State) (h : Nat) (hk : Kept s₀ s) :
    Kept s₀ (State.replaceCopy s h) := by
  unfold State.replaceCopy
  repeat' first
    | with_reducible assumption
    | (extract_lets +onlyGivenNames x; (have f : Prop := x); clear f; unfold x; clear x)
    | (extract_lets +onlyGivenNames x; refine Kept.cut (s₀ := s₀) (x := x) ?_ (fun hx => ?_); unfold x; clear x; rotate_left; clear_value x; rotate_right)
    | (extract_lets +onlyGivenNames x; clear_value x)
    | with_reducible apply Kept.ite
    | with_reducible apply State.count_kept
    | with_reducible apply State.progAccount_kept
    | with_reducible apply State.rechooseProg_kept
    | with_reducible apply State.setProg_kept
    | with_reducible apply State.writeParts_kept
    | (refine State.placeCopy_ok _ _ _ _ ?_ (by with_reducible assumption))
    | split

theorem State.runReplacements_kept {s₀ : State} (s : State) (hk : Kept s₀ s) :
    Kept s₀ (State.runReplacements s) := by
  unfold State.runReplacements
  repeat' first
    | with_reducible assumption
    | intro _
    | (extract_lets +onlyGivenNames x; clear_value x)
    | with_reducible apply Kept.ite
    | with_reducible apply State.forEach_kept
    | with_reducible apply State.replaceCopy_kept
    | with_reducible apply State.replaceOne_kept

theorem State.retryReplacements_kept {s₀ : State} (s : State) (hk : Kept s₀ s) :
    Kept s₀ (State.retryReplacements s) := by
  unfold State.retryReplacements
  repeat' first
    | with_reducible assumption
    | intro _
    | (extract_lets +onlyGivenNames x; refine Kept.cut (s₀ := s₀) (x := x) ?_ (fun hx => ?_); unfold x; clear x; rotate_left; clear_value x; rotate_right)
    | (extract_lets +onlyGivenNames x; clear_value x)
    | with_reducible apply Kept.ite
    | with_reducible apply State.forEach_kept
    | with_reducible apply State.runReplacements_kept
    | with_reducible apply State.setProg_kept

theorem State.loseProg_kept {s₀ : State} (s : State) (h : Nat) (hk : Kept s₀ s) :
    Kept s₀ (State.loseProg s h) := by
  unfold State.loseProg
  repeat' first
    | with_reducible assumption
    | (extract_lets +onlyGivenNames x; refine Kept.cut (s₀ := s₀) (x := x) ?_ (fun hx => ?_); unfold x; clear x; rotate_left; clear_value x; rotate_right)
    | (extract_lets +onlyGivenNames x; clear_value x)
    | with_reducible apply State.setProg_kept
    | with_reducible apply State.stopNow_kept

theorem State.loseArrays_kept {s₀ : State} (s : State) (lost : PartSt → Bool) (hk : Kept s₀ s) :
    Kept s₀ (State.loseArrays s lost) := by
  unfold State.loseArrays
  repeat' first
    | with_reducible assumption
    | intro _
    | (extract_lets +onlyGivenNames x; (have f : Prop := x); clear f; unfold x; clear x)
    | (extract_lets +onlyGivenNames x; refine Kept.cut (s₀ := s₀) (x := x) ?_ (fun hx => ?_); unfold x; clear x; rotate_left; clear_value x; rotate_right)
    | (extract_lets +onlyGivenNames x; clear_value x)
    | with_reducible apply Kept.ite
    | with_reducible apply State.forEach_kept
    | with_reducible apply State.loseProg_kept
    | with_reducible apply State.releaseParts_kept
    | with_reducible apply State.setProg_kept

theorem State.arrayOut_kept {s₀ : State} (s : State) (g st : Nat) (hk : Kept s₀ s) :
    Kept s₀ (State.arrayOut s g st) := by
  unfold State.arrayOut
  repeat' first
    | with_reducible assumption
    | (extract_lets +onlyGivenNames x; refine Kept.cut (s₀ := s₀) (x := x) ?_ (fun hx => ?_); unfold x; clear x; rotate_left; clear_value x; rotate_right)
    | (extract_lets +onlyGivenNames x; clear_value x)
    | with_reducible apply State.loseArrays_kept
    | with_reducible apply State.setArr_kept
    | with_reducible apply State.setPower_kept

theorem State.splitBy_kept {s₀ : State} (s : State) (d : Nat) (hk : Kept s₀ s) :
    Kept s₀ (State.splitBy s d) := by
  unfold State.splitBy
  repeat' first
    | with_reducible assumption
    | intro _
    | (extract_lets +onlyGivenNames x; (have f := fun a => x a); clear f; unfold x; clear x; dsimp -zeta -failIfUnchanged only)
    | (extract_lets +onlyGivenNames x; clear_value x)
    | with_reducible apply Kept.ite
    | with_reducible apply State.forEach_kept
    | with_reducible apply State.loseProg_kept

end Sys2Proof.Machine
end

