-- ==== Sys2Proof/Laws/KeptRailOps.lean ====
section
/-! SUPPORT. What every operation of Machine/RailOps.lean keeps: see Kept in Laws/Kept.lean. -/

namespace Sys2Proof.Machine

theorem State.routesChanged_kept {s₀ : State} (s : State) (hk : Kept s₀ s) :
    Kept s₀ (State.routesChanged s) := by
  unfold State.routesChanged
  repeat' first
    | with_reducible assumption
    | intro _
    | (extract_lets +onlyGivenNames x; clear_value x)
    | with_reducible apply State.forEach_kept
    | with_reducible apply State.sendWaiting_kept
    | with_reducible apply State.setFlow_kept
    | split

theorem State.requeue_kept {s₀ : State} (s : State) (l : List QFrame) (hk : Kept s₀ s) :
    Kept s₀ (State.requeue s l) := by
  unfold State.requeue
  repeat' first
    | with_reducible assumption
    | intro _
    | (extract_lets +onlyGivenNames x; clear_value x)
    | with_reducible apply State.forEach_kept
    | with_reducible apply State.setFlow_kept
    | with_reducible apply State.setLane_kept
    | split

theorem State.unadmit_kept {s₀ : State} (s : State) (k : Nat) (hk : Kept s₀ s) :
    Kept s₀ (State.unadmit s k) := by
  unfold State.unadmit
  repeat' first
    | with_reducible assumption
    | (extract_lets +onlyGivenNames x; refine Kept.cut (s₀ := s₀) (x := x) ?_ (fun hx => ?_); unfold x; clear x; rotate_left; clear_value x; rotate_right)
    | (extract_lets +onlyGivenNames x; clear_value x)
    | with_reducible apply State.setNat_kept
    | (with_reducible apply Kept.mk'; first | with_reducible assumption | (with_reducible apply Kept.mk'; with_reducible assumption) | with_reducible apply State.setNat_kept)

theorem State.laneStart_kept {s₀ : State} (s : State) (n : Nat) (hk : Kept s₀ s) :
    Kept s₀ (State.laneStart s n) := by
  unfold State.laneStart
  repeat' first
    | with_reducible assumption
    | (extract_lets +onlyGivenNames x; clear_value x)
    | with_reducible apply State.setLaneState_kept

theorem State.hallRoles_kept {s₀ : State} (s : State) (hk : Kept s₀ s) :
    Kept s₀ (State.hallRoles s) := by
  unfold State.hallRoles
  repeat' first
    | with_reducible assumption
    | intro _
    | (extract_lets +onlyGivenNames x; clear_value x)
    | with_reducible apply Kept.ite
    | with_reducible apply State.forEach_kept
    | with_reducible apply State.laneStart_kept

theorem State.laneDrop_kept {s₀ : State} (s : State) (n st reason : Nat) (hk : Kept s₀ s) :
    Kept s₀ (State.laneDrop s n st reason) := by
  unfold State.laneDrop
  repeat' first
    | with_reducible assumption
    | (extract_lets +onlyGivenNames x; refine Kept.cut (s₀ := s₀) (x := x) ?_ (fun hx => ?_); unfold x; clear x; rotate_left; clear_value x; rotate_right)
    | (extract_lets +onlyGivenNames x; clear_value x)
    | with_reducible apply Kept.ite
    | with_reducible apply State.endTrayFlows_kept
    | with_reducible apply State.requeue_kept
    | with_reducible apply State.routesChanged_kept
    | with_reducible apply State.setLaneState_kept
    | with_reducible apply State.setLane_kept
    | with_reducible apply State.unadmit_kept

theorem State.freeSlot_kept {s₀ : State} (s : State) (k : Nat) (hk : Kept s₀ s) :
    Kept s₀ (State.freeSlot s k) := by
  unfold State.freeSlot
  repeat' first
    | with_reducible assumption
    | (extract_lets +onlyGivenNames x; refine Kept.cut (s₀ := s₀) (x := x) ?_ (fun hx => ?_); unfold x; clear x; rotate_left; clear_value x; rotate_right)
    | (extract_lets +onlyGivenNames x; clear_value x)
    | with_reducible apply Kept.ite
    | with_reducible apply State.otherSub_kept
    | with_reducible apply State.setSlot_kept

theorem State.stackGone_kept {s₀ : State} (s : State) (k st : Nat) (hk : Kept s₀ s) :
    Kept s₀ (State.stackGone s k st) := by
  unfold State.stackGone
  repeat' first
    | with_reducible assumption
    | intro _
    | (extract_lets +onlyGivenNames x; refine Kept.cut (s₀ := s₀) (x := x) ?_ (fun hx => ?_); unfold x; clear x; rotate_left; clear_value x; rotate_right)
    | (extract_lets +onlyGivenNames x; clear_value x)
    | with_reducible apply Kept.ite
    | with_reducible apply State.forEach_kept
    | with_reducible apply State.freeSlot_kept
    | with_reducible apply State.histStackFail_kept
    | with_reducible apply State.loseArrays_kept
    | with_reducible apply State.otherAdd_kept
    | with_reducible apply State.runReplacements_kept
    | with_reducible apply State.setNat_kept
    | with_reducible apply State.setProg_kept
    | with_reducible apply State.stackAccount_kept
    | (with_reducible apply Kept.mk'; first | with_reducible assumption | (with_reducible apply Kept.mk'; with_reducible assumption) | with_reducible apply State.forEach_kept | with_reducible apply State.freeSlot_kept | with_reducible apply State.histStackFail_kept | with_reducible apply State.loseArrays_kept | with_reducible apply State.otherAdd_kept | with_reducible apply State.runReplacements_kept | with_reducible apply State.setNat_kept | with_reducible apply State.setProg_kept | with_reducible apply State.stackAccount_kept)
    | split

theorem State.setDomState_kept {s₀ : State} (s : State) (d v : Nat) (hk : Kept s₀ s) :
    Kept s₀ (State.setDomState s d v) := by
  unfold State.setDomState
  repeat' first
    | with_reducible assumption
    | with_reducible apply State.setNat_kept

theorem State.setRail_kept {s₀ : State} (s : State) (r : Nat) (v : RailSt) (hk : Kept s₀ s) :
    Kept s₀ (State.setRail s r v) := by
  unfold State.setRail
  repeat' first
    | (extract_lets +onlyGivenNames x; clear_value x)
    | (with_reducible apply Kept.mk'; first | with_reducible assumption | (with_reducible apply Kept.mk'; with_reducible assumption))

theorem State.setDiePt_kept {s₀ : State} (s : State) (d : Nat) (v : DiePt) (hk : Kept s₀ s) :
    Kept s₀ (State.setDiePt s d v) := by
  unfold State.setDiePt
  repeat' first
    | (extract_lets +onlyGivenNames x; clear_value x)
    | (with_reducible apply Kept.mk'; first | with_reducible assumption | (with_reducible apply Kept.mk'; with_reducible assumption))

theorem State.startRail_kept {s₀ : State} (s : State) (r : Nat) (hk : Kept s₀ s) :
    Kept s₀ (State.startRail s r) := by
  unfold State.startRail
  repeat' first
    | with_reducible assumption
    | (extract_lets +onlyGivenNames x; clear_value x)
    | with_reducible apply State.setNat_kept
    | with_reducible apply State.setRail_kept

theorem State.stopRail_kept {s₀ : State} (s : State) (r : Nat) (hk : Kept s₀ s) :
    Kept s₀ (State.stopRail s r) := by
  unfold State.stopRail
  repeat' first
    | with_reducible assumption
    | (extract_lets +onlyGivenNames x; clear_value x)
    | with_reducible apply Kept.ite
    | with_reducible apply State.setNat_kept
    | with_reducible apply State.setRail_kept

theorem State.blocksOn_kept {s₀ : State} (s : State) (l : List Nat) (hk : Kept s₀ s) :
    Kept s₀ (State.blocksOn s l) := by
  unfold State.blocksOn
  repeat' first
    | with_reducible assumption
    | intro _
    | with_reducible apply Kept.ite
    | with_reducible apply State.forEach_kept
    | with_reducible apply State.setNat_kept

theorem State.blocksOff_kept {s₀ : State} (s : State) (l : List Nat) (hk : Kept s₀ s) :
    Kept s₀ (State.blocksOff s l) := by
  unfold State.blocksOff
  repeat' first
    | with_reducible assumption
    | intro _
    | with_reducible apply Kept.ite
    | with_reducible apply State.forEach_kept
    | with_reducible apply State.setNat_kept

theorem State.linkState_kept {s₀ : State} (s : State) (d : Nat) (hk : Kept s₀ s) :
    Kept s₀ (State.linkState s d) := by
  unfold State.linkState
  repeat' first
    | with_reducible assumption
    | (extract_lets +onlyGivenNames x; (have f : Prop := x); clear f; unfold x; clear x)
    | with_reducible apply Kept.ite
    | with_reducible apply State.setNat_kept

theorem State.linksOf_kept {s₀ : State} (s : State) (d : Nat) (hk : Kept s₀ s) :
    Kept s₀ (State.linksOf s d) := by
  unfold State.linksOf
  repeat' first
    | with_reducible assumption
    | with_reducible apply Kept.ite
    | with_reducible apply State.linkState_kept

theorem State.eventWordUp_kept {s₀ : State} (s : State) (hk : Kept s₀ s) :
    Kept s₀ (State.eventWordUp s) := by
  unfold State.eventWordUp
  repeat' first
    | with_reducible assumption
    | (extract_lets +onlyGivenNames x; clear_value x)
    | with_reducible apply Kept.ite
    | with_reducible apply State.setWord_kept

theorem State.domainOnEffect_kept {s₀ : State} (s : State) (d : Nat) (hk : Kept s₀ s) :
    Kept s₀ (State.domainOnEffect s d) := by
  unfold State.domainOnEffect
  repeat' first
    | with_reducible assumption
    | intro _
    | (extract_lets +onlyGivenNames x; refine Kept.cut (s₀ := s₀) (x := x) ?_ (fun hx => ?_); unfold x; clear x; rotate_left; clear_value x; rotate_right)
    | with_reducible apply Kept.ite
    | with_reducible apply State.blocksOn_kept
    | with_reducible apply State.eventWordUp_kept
    | with_reducible apply State.forEach_kept
    | with_reducible apply State.laneStart_kept
    | with_reducible apply State.linksOf_kept
    | with_reducible apply State.setNat_kept

theorem State.dieOff_kept {s₀ : State} (s : State) (d st : Nat) (hk : Kept s₀ s) :
    Kept s₀ (State.dieOff s d st) := by
  unfold State.dieOff
  repeat' first
    | with_reducible assumption
    | intro _
    | (extract_lets +onlyGivenNames x; refine Kept.cut (s₀ := s₀) (x := x) ?_ (fun hx => ?_); unfold x; clear x; rotate_left; clear_value x; rotate_right)
    | (extract_lets +onlyGivenNames x; clear_value x)
    | with_reducible apply State.accountArr_kept
    | with_reducible apply State.forEach_kept
    | with_reducible apply State.linksOf_kept
    | with_reducible apply State.loseArrays_kept
    | with_reducible apply State.runReplacements_kept
    | with_reducible apply State.setArr_kept
    | with_reducible apply State.setNat_kept

theorem State.domainOffEffect_kept {s₀ : State} (s : State) (d : Nat) (fault : Bool) (hk : Kept s₀ s) :
    Kept s₀ (State.domainOffEffect s d fault) := by
  unfold State.domainOffEffect
  repeat' first
    | with_reducible assumption
    | intro _
    | (extract_lets +onlyGivenNames x; refine Kept.cut (s₀ := s₀) (x := x) ?_ (fun hx => ?_); unfold x; clear x; rotate_left; clear_value x; rotate_right)
    | (extract_lets +onlyGivenNames x; clear_value x)
    | with_reducible apply Kept.ite
    | with_reducible apply State.blocksOff_kept
    | with_reducible apply State.breakOnDie_kept
    | with_reducible apply State.dieOff_kept
    | with_reducible apply State.forEach_kept
    | with_reducible apply State.laneDrop_kept
    | with_reducible apply State.reportLost_kept
    | with_reducible apply State.stackGone_kept

theorem State.domainStart_kept {s₀ : State} (n : Nat) (s : State) (d : Nat) (hk : Kept s₀ s) :
    Kept s₀ (State.domainStart n s d) := by
  induction n generalizing s d with
  | zero => exact hk
  | succ n ih =>
  unfold State.domainStart
  repeat' first
    | with_reducible assumption
    | intro _
    | (extract_lets +onlyGivenNames x; refine Kept.cut (s₀ := s₀) (x := x) ?_ (fun hx => ?_); unfold x; clear x; rotate_left; clear_value x; rotate_right)
    | (extract_lets +onlyGivenNames x; refine Kept.cut (s₀ := s₀) (x := x.2) ?_ (fun hx => ?_); unfold x; clear x; rotate_left; clear_value x; rotate_right)
    | (extract_lets +onlyGivenNames x; clear_value x)
    | with_reducible apply Kept.ite
    | with_reducible apply Kept.ite2
    | with_reducible apply ih
    | with_reducible apply State.forEach_kept
    | with_reducible apply State.domainOnEffect_kept
    | with_reducible apply State.setDomState_kept
    | with_reducible apply State.setNat_kept
    | with_reducible apply State.event_kept
    | with_reducible apply State.startRail_kept
    | (with_reducible apply Kept.mk'; with_reducible assumption)
    | (with_reducible refine Kept.snd _ ?_; with_reducible assumption)
    | split

theorem State.domainOn_kept {s₀ : State} (s : State) (d : Nat) (hk : Kept s₀ s) :
    Kept s₀ (State.domainOn s d) := by
  unfold State.domainOn
  repeat' first
    | with_reducible assumption
    | with_reducible apply State.domainStart_kept

theorem State.railBack_kept {s₀ : State} (s : State) (r : Nat) (hk : Kept s₀ s) :
    Kept s₀ (State.railBack s r) := by
  unfold State.railBack
  repeat' first
    | with_reducible assumption
    | intro _
    | (extract_lets +onlyGivenNames x; clear_value x)
    | with_reducible apply Kept.ite
    | with_reducible apply State.domainOn_kept
    | with_reducible apply State.forEach_kept
    | with_reducible apply State.setDiePt_kept
    | with_reducible apply State.setRail_kept

theorem State.railUp_kept {s₀ : State} (s : State) (r : Nat) (hk : Kept s₀ s) :
    Kept s₀ (State.railUp s r) := by
  unfold State.railUp
  repeat' first
    | with_reducible assumption
    | intro _
    | (extract_lets +onlyGivenNames x; (have f : Prop := x); clear f; unfold x; clear x)
    | (extract_lets +onlyGivenNames x; refine Kept.cut (s₀ := s₀) (x := x) ?_ (fun hx => ?_); unfold x; clear x; rotate_left; clear_value x; rotate_right)
    | (extract_lets +onlyGivenNames x; clear_value x)
    | with_reducible apply Kept.ite
    | with_reducible apply State.domainOnEffect_kept
    | with_reducible apply State.domainOn_kept
    | with_reducible apply State.forEach_kept
    | with_reducible apply State.railBack_kept
    | with_reducible apply State.setDomState_kept
    | with_reducible apply State.setNat_kept
    | with_reducible apply State.setRail_kept
    | (with_reducible apply Kept.mk'; first | with_reducible assumption | (with_reducible apply Kept.mk'; with_reducible assumption) | with_reducible apply State.domainOnEffect_kept | with_reducible apply State.domainOn_kept | with_reducible apply State.forEach_kept | with_reducible apply State.railBack_kept | with_reducible apply State.setDomState_kept | with_reducible apply State.setNat_kept | with_reducible apply State.setRail_kept)

theorem State.domainStop_kept {s₀ : State} (n : Nat) (s : State) (d : Nat) (fault : Bool) (hk : Kept s₀ s) :
    Kept s₀ (State.domainStop n s d fault) := by
  induction n generalizing s d fault with
  | zero => exact hk
  | succ n ih =>
  unfold State.domainStop
  split
  · exact hk
  have h1 : Kept s₀ (s.forEach (domDependants d) (fun s e => State.domainStop n s e fault)) :=
    State.forEach_kept _ _ _ hk (fun s e h => ih s e fault h)
  generalize s.forEach (domDependants d) (fun s e => State.domainStop n s e fault) = t at h1 ⊢
  clear hk
  repeat' first
    | with_reducible assumption
    | intro _
    | (extract_lets +onlyGivenNames x; refine Kept.cut (s₀ := s₀) (x := x) ?_ (fun hx => ?_); unfold x; clear x; rotate_left; clear_value x; rotate_right)
    | (extract_lets +onlyGivenNames x; refine Kept.cut (s₀ := s₀) (x := x.2) ?_ (fun hx => ?_); unfold x; clear x; rotate_left; clear_value x; rotate_right)
    | (extract_lets +onlyGivenNames x; clear_value x)
    | with_reducible apply Kept.ite
    | with_reducible apply Kept.ite2
    | with_reducible apply ih
    | with_reducible apply State.forEach_kept
    | with_reducible apply State.domainOffEffect_kept
    | with_reducible apply State.setDomState_kept
    | with_reducible apply State.stopRail_kept
    | (with_reducible apply Kept.mk'; with_reducible assumption)
    | (with_reducible refine Kept.snd _ ?_; with_reducible assumption)
    | split

theorem State.domainOff_kept {s₀ : State} (s : State) (d : Nat) (fault : Bool) (hk : Kept s₀ s) :
    Kept s₀ (State.domainOff s d fault) := by
  unfold State.domainOff
  repeat' first
    | with_reducible assumption
    | with_reducible apply State.domainStop_kept

theorem State.domainsOffBut_kept {s₀ : State} (s : State) (keep : Nat → Bool) (fault : Bool) (hk : Kept s₀ s) :
    Kept s₀ (State.domainsOffBut s keep fault) := by
  unfold State.domainsOffBut
  repeat' first
    | with_reducible assumption
    | intro _
    | with_reducible apply State.domainOff_kept
    | with_reducible apply State.forEach_kept

theorem State.leftOff_kept {s₀ : State} (s : State) (d : Nat) (hk : Kept s₀ s) :
    Kept s₀ (State.leftOff s d) := by
  unfold State.leftOff
  repeat' first
    | with_reducible assumption
    | (extract_lets +onlyGivenNames x; refine Kept.cut (s₀ := s₀) (x := x) ?_ (fun hx => ?_); unfold x; clear x; rotate_left; clear_value x; rotate_right)
    | (extract_lets +onlyGivenNames x; (have f := fun a => x a); clear f; unfold x; clear x; dsimp -zeta -failIfUnchanged only)
    | (extract_lets +onlyGivenNames x; clear_value x)
    | with_reducible apply State.event_kept
    | with_reducible apply State.setDomState_kept
    | (with_reducible apply Kept.mk'; first | with_reducible assumption | (with_reducible apply Kept.mk'; with_reducible assumption) | with_reducible apply State.event_kept | with_reducible apply State.setDomState_kept)

theorem State.loseRails_kept {s₀ : State} (s : State) (h : Nat) (hk : Kept s₀ s) :
    Kept s₀ (State.loseRails s h) := by
  unfold State.loseRails
  repeat' first
    | with_reducible assumption
    | intro _
    | (extract_lets +onlyGivenNames x; refine Kept.cut (s₀ := s₀) (x := x) ?_ (fun hx => ?_); unfold x; clear x; rotate_left; clear_value x; rotate_right)
    | (extract_lets +onlyGivenNames x; clear_value x)
    | with_reducible apply State.forEach_kept
    | with_reducible apply State.linksOf_kept
    | with_reducible apply State.setDomState_kept
    | with_reducible apply State.setNat_kept
    | with_reducible apply State.setRail_kept
    | (with_reducible apply Kept.mk'; first | with_reducible assumption | (with_reducible apply Kept.mk'; with_reducible assumption) | with_reducible apply State.forEach_kept | with_reducible apply State.linksOf_kept | with_reducible apply State.setDomState_kept | with_reducible apply State.setNat_kept | with_reducible apply State.setRail_kept)

theorem State.railTrip_kept {s₀ : State} (s : State) (r st : Nat) (hk : Kept s₀ s) :
    Kept s₀ (State.railTrip s r st) := by
  unfold State.railTrip
  repeat' first
    | with_reducible assumption
    | intro _
    | (extract_lets +onlyGivenNames x; refine Kept.cut (s₀ := s₀) (x := x) ?_ (fun hx => ?_); unfold x; clear x; rotate_left; clear_value x; rotate_right)
    | (extract_lets +onlyGivenNames x; clear_value x)
    | with_reducible apply Kept.ite
    | with_reducible apply State.domainOffEffect_kept
    | with_reducible apply State.domainOff_kept
    | with_reducible apply State.forEach_kept
    | with_reducible apply State.setDomState_kept
    | with_reducible apply State.setNat_kept
    | with_reducible apply State.setRail_kept

theorem State.clockPoint_kept {s₀ : State} (s : State) (d p : Nat) (hk : Kept s₀ s) :
    Kept s₀ (State.clockPoint s d p) := by
  unfold State.clockPoint
  repeat' first
    | with_reducible assumption
    | with_reducible apply State.setNat_kept

theorem State.changePoint_kept {s₀ : State} (s : State) (d p : Nat) (hk : Kept s₀ s) :
    Kept s₀ (State.changePoint s d p) := by
  unfold State.changePoint
  repeat' first
    | with_reducible assumption
    | (extract_lets +onlyGivenNames x; refine Kept.cut (s₀ := s₀) (x := x) ?_ (fun hx => ?_); unfold x; clear x; rotate_left; clear_value x; rotate_right)
    | (extract_lets +onlyGivenNames x; clear_value x)
    | with_reducible apply Kept.ite
    | with_reducible apply State.clockPoint_kept
    | with_reducible apply State.count_kept
    | with_reducible apply State.setDiePt_kept
    | with_reducible apply State.setNat_kept

end Sys2Proof.Machine
end

