-- ==== Sys2Proof/Laws/KeptConvOps.lean ====
section
/-! SUPPORT. What every operation of Machine/ConvOps.lean keeps: see Kept in Laws/Kept.lean. -/

namespace Sys2Proof.Machine

theorem State.interleave_kept {s₀ : State} (s : State) (k : Nat) (hk : Kept s₀ s) :
    Kept s₀ (State.interleave s k) := by
  unfold State.interleave
  repeat' first
    | with_reducible assumption
    | intro _
    | (extract_lets +onlyGivenNames x; clear_value x)
    | with_reducible apply State.forEach_kept
    | with_reducible apply State.setPhase_kept

theorem State.idlePhase_kept {s₀ : State} (s : State) (n : Nat) (hk : Kept s₀ s) :
    Kept s₀ (State.idlePhase s n) := by
  unfold State.idlePhase
  repeat' first
    | with_reducible assumption
    | (extract_lets +onlyGivenNames x; clear_value x)
    | with_reducible apply State.setPhase_kept

theorem State.idlePhases_kept {s₀ : State} (s : State) (k : Nat) (hk : Kept s₀ s) :
    Kept s₀ (State.idlePhases s k) := by
  unfold State.idlePhases
  repeat' first
    | with_reducible assumption
    | intro _
    | with_reducible apply State.forEach_kept
    | with_reducible apply State.idlePhase_kept

theorem State.faultPhase_kept {s₀ : State} (s : State) (n : Nat) (hk : Kept s₀ s) :
    Kept s₀ (State.faultPhase s n) := by
  unfold State.faultPhase
  repeat' first
    | with_reducible assumption
    | (extract_lets +onlyGivenNames x; refine Kept.cut (s₀ := s₀) (x := x) ?_ (fun hx => ?_); unfold x; clear x; rotate_left; clear_value x; rotate_right)
    | (extract_lets +onlyGivenNames x; clear_value x)
    | with_reducible apply State.idlePhase_kept
    | with_reducible apply State.setPhase_kept

theorem State.gdenOff_kept {s₀ : State} (s : State) (hk : Kept s₀ s) :
    Kept s₀ (State.gdenOff s) := by
  unfold State.gdenOff
  repeat' first
    | (extract_lets +onlyGivenNames x; clear_value x)
    | (with_reducible apply Kept.mk'; first | with_reducible assumption | (with_reducible apply Kept.mk'; with_reducible assumption))

theorem State.readdShed_kept {s₀ : State} (s : State) (k : Nat) (hk : Kept s₀ s) :
    Kept s₀ (State.readdShed s k) := by
  unfold State.readdShed
  repeat' first
    | with_reducible assumption
    | intro _
    | (extract_lets +onlyGivenNames x; clear_value x)
    | with_reducible apply Kept.ite
    | with_reducible apply State.forEach_kept
    | with_reducible apply State.setPhase_kept

theorem State.startPhases_kept {s₀ : State} (s : State) (hk : Kept s₀ s) :
    Kept s₀ (State.startPhases s) := by
  unfold State.startPhases
  repeat' first
    | with_reducible assumption
    | intro _
    | (extract_lets +onlyGivenNames x; refine Kept.cut (s₀ := s₀) (x := x) ?_ (fun hx => ?_); unfold x; clear x; rotate_left; clear_value x; rotate_right)
    | (extract_lets +onlyGivenNames x; clear_value x)
    | with_reducible apply Kept.ite
    | with_reducible apply State.forEach_kept
    | with_reducible apply State.setPhase_kept
    | (with_reducible apply Kept.mk'; first | with_reducible assumption | (with_reducible apply Kept.mk'; with_reducible assumption) | with_reducible apply State.forEach_kept | with_reducible apply State.setPhase_kept)

theorem State.driveClosed_kept {s₀ : State} (s : State) (k : Nat) (c : Contactor) (hk : Kept s₀ s) :
    Kept s₀ (State.driveClosed s k c) := by
  unfold State.driveClosed
  repeat' first
    | with_reducible assumption
    | (extract_lets +onlyGivenNames x; clear_value x)
    | with_reducible apply Kept.ite
    | with_reducible apply State.count_kept
    | with_reducible apply State.setStr_kept

theorem State.advanceOpening_kept {s₀ : State} (s : State) (k : Nat) (hk : Kept s₀ s) :
    Kept s₀ (State.advanceOpening s k) := by
  unfold State.advanceOpening
  repeat' first
    | with_reducible assumption
    | (extract_lets +onlyGivenNames x; refine Kept.cut (s₀ := s₀) (x := x) ?_ (fun hx => ?_); unfold x; clear x; rotate_left; clear_value x; rotate_right)
    | (extract_lets +onlyGivenNames x; clear_value x)
    | with_reducible apply Kept.ite
    | with_reducible apply State.setStr_kept

theorem State.openString_kept {s₀ : State} (s : State) (k : Nat) (wait : Bool) (lock : Nat) (hk : Kept s₀ s) :
    Kept s₀ (State.openString s k wait lock) := by
  unfold State.openString
  repeat' first
    | with_reducible assumption
    | (extract_lets +onlyGivenNames x; (have f : Prop := x); clear f; unfold x; clear x)
    | (extract_lets +onlyGivenNames x; refine Kept.cut (s₀ := s₀) (x := x) ?_ (fun hx => ?_); unfold x; clear x; rotate_left; clear_value x; rotate_right)
    | (extract_lets +onlyGivenNames x; clear_value x)
    | with_reducible apply Kept.ite
    | with_reducible apply State.advanceOpening_kept
    | with_reducible apply State.idlePhases_kept
    | with_reducible apply State.setStr_kept
    | split

theorem State.lockWelded_kept {s₀ : State} (s : State) (k : Nat) (hk : Kept s₀ s) :
    Kept s₀ (State.lockWelded s k) := by
  unfold State.lockWelded
  repeat' first
    | with_reducible assumption
    | (extract_lets +onlyGivenNames x; clear_value x)
    | with_reducible apply State.idlePhases_kept
    | with_reducible apply State.setNat_kept
    | with_reducible apply State.setStr_kept

theorem State.openAll_kept {s₀ : State} (s : State) (hk : Kept s₀ s) :
    Kept s₀ (State.openAll s) := by
  unfold State.openAll
  repeat' first
    | with_reducible assumption
    | intro _
    | with_reducible apply State.forEach_kept
    | with_reducible apply State.openString_kept

end Sys2Proof.Machine
end

