-- ==== Sys2Proof/Laws/KeptRingOps.lean ====
section
/-! SUPPORT. What every operation of Machine/RingOps.lean keeps: see Kept in Laws/Kept.lean. -/

namespace Sys2Proof.Machine

theorem State.setRingMode_kept {s₀ : State} (s : State) (k v : Nat) (hk : Kept s₀ s) :
    Kept s₀ (State.setRingMode s k v) := by
  unfold State.setRingMode
  repeat' first
    | with_reducible assumption
    | with_reducible apply State.setNat_kept

theorem State.ringPush_kept {s₀ : State} (s : State) (k : Nat) (c : RCmd) (hk : Kept s₀ s) :
    Kept s₀ (State.ringPush s k c) := by
  unfold State.ringPush
  repeat' first
    | with_reducible assumption
    | (extract_lets +onlyGivenNames x; clear_value x)
    | with_reducible apply State.setRing_kept

theorem State.ringTo_kept {s₀ : State} (s : State) (k a op : Nat) (payload : List Nat) (hk : Kept s₀ s) :
    Kept s₀ (State.ringTo s k a op payload) := by
  unfold State.ringTo
  repeat' first
    | with_reducible assumption
    | (extract_lets +onlyGivenNames x; clear_value x)
    | with_reducible apply State.ringPush_kept

theorem State.ringAll_kept {s₀ : State} (s : State) (k op : Nat) (payload : List Nat) (hk : Kept s₀ s) :
    Kept s₀ (State.ringAll s k op payload) := by
  unfold State.ringAll
  repeat' first
    | with_reducible assumption
    | intro _
    | with_reducible apply State.forEach_kept
    | with_reducible apply State.ringPush_kept

theorem State.ringSend_kept {s₀ : State} (s : State) (k : Nat) (c : RCmd) (hk : Kept s₀ s) :
    Kept s₀ (State.ringSend s k c) := by
  unfold State.ringSend
  repeat' first
    | with_reducible assumption
    | (extract_lets +onlyGivenNames x; clear_value x)
    | with_reducible apply State.emit_kept
    | with_reducible apply State.setRing_kept

theorem State.ringIssue_kept {s₀ : State} (s : State) (k : Nat) (hk : Kept s₀ s) :
    Kept s₀ (State.ringIssue s k) := by
  unfold State.ringIssue
  repeat' first
    | with_reducible assumption
    | (extract_lets +onlyGivenNames x; clear_value x)
    | with_reducible apply Kept.ite
    | with_reducible apply State.ringSend_kept
    | with_reducible apply State.setRing_kept
    | split

theorem State.ringResult_kept {s₀ : State} (s : State) (k : Nat) (c : RCmd) (a code status : Nat) (hk : Kept s₀ s) :
    Kept s₀ (State.ringResult s k c a code status) := by
  unfold State.ringResult
  repeat' first
    | with_reducible assumption
    | (extract_lets +onlyGivenNames x; clear_value x)
    | with_reducible apply State.setBlob_kept
    | with_reducible apply State.setNat_kept

theorem State.ringResults_kept {s₀ : State} (s : State) (k : Nat) (c : RCmd) (as : List Nat) (code : Nat → Nat) (hk : Kept s₀ s) :
    Kept s₀ (State.ringResults s k c as code) := by
  unfold State.ringResults
  repeat' first
    | with_reducible assumption
    | intro _
    | with_reducible apply State.forEach_kept
    | with_reducible apply State.ringResult_kept

theorem State.ringDone_kept {s₀ : State} (s : State) (k : Nat) (hk : Kept s₀ s) :
    Kept s₀ (State.ringDone s k) := by
  unfold State.ringDone
  repeat' first
    | with_reducible assumption
    | (extract_lets +onlyGivenNames x; clear_value x)
    | with_reducible apply State.setRing_kept

theorem State.withdraw_kept {s₀ : State} (s : State) (k a n : Nat) (hk : Kept s₀ s) :
    Kept s₀ (State.withdraw s k a n) := by
  unfold State.withdraw
  repeat' first
    | with_reducible assumption
    | with_reducible apply State.count_kept

theorem State.releaseCell_kept {s₀ : State} (s : State) (k a j : Nat) (rd : CellRead) (hk : Kept s₀ s) :
    Kept s₀ (State.releaseCell s k a j rd) := by
  unfold State.releaseCell
  repeat' first
    | with_reducible assumption
    | (extract_lets +onlyGivenNames x; refine Kept.cut (s₀ := s₀) (x := x) ?_ (fun hx => ?_); unfold x; clear x; rotate_left; clear_value x; rotate_right)
    | (extract_lets +onlyGivenNames x; clear_value x)
    | with_reducible apply State.sample_kept
    | with_reducible apply State.setNat_kept
    | with_reducible apply State.setRing_kept
    | (with_reducible apply Kept.mk'; first | with_reducible assumption | (with_reducible apply Kept.mk'; with_reducible assumption) | with_reducible apply State.sample_kept | with_reducible apply State.setNat_kept | with_reducible apply State.setRing_kept)

theorem State.releaseRead_kept {s₀ : State} (s : State) (k a : Nat) (rd : CellRead) (next : Option CellRead) (hk : Kept s₀ s) :
    Kept s₀ (State.releaseRead s k a rd next) := by
  unfold State.releaseRead
  repeat' first
    | with_reducible assumption
    | intro _
    | (extract_lets +onlyGivenNames x; clear_value x)
    | with_reducible apply State.forEach_kept
    | with_reducible apply State.releaseCell_kept
    | with_reducible apply State.withdraw_kept

theorem State.dropRead_kept {s₀ : State} (s : State) (k a : Nat) (hk : Kept s₀ s) :
    Kept s₀ (State.dropRead s k a) := by
  unfold State.dropRead
  repeat' first
    | with_reducible assumption
    | with_reducible apply State.setRing_kept
    | with_reducible apply State.withdraw_kept
    | split

theorem State.cellsRead_kept {s₀ : State} (s : State) (k a : Nat) (b : List Nat) (hk : Kept s₀ s) :
    Kept s₀ (State.cellsRead s k a b) := by
  unfold State.cellsRead
  repeat' first
    | with_reducible assumption
    | (extract_lets +onlyGivenNames x; refine Kept.cut (s₀ := s₀) (x := x) ?_ (fun hx => ?_); unfold x; clear x; rotate_left; clear_value x; rotate_right)
    | (extract_lets +onlyGivenNames x; clear_value x)
    | with_reducible apply Kept.ite
    | with_reducible apply State.count_kept
    | with_reducible apply State.dropRead_kept
    | with_reducible apply State.releaseRead_kept
    | with_reducible apply State.setNat_kept
    | with_reducible apply State.setRing_kept
    | with_reducible apply State.withdraw_kept
    | split

theorem State.setReach_kept {s₀ : State} (s : State) (k ra rb : Nat) (hk : Kept s₀ s) :
    Kept s₀ (State.setReach s k ra rb) := by
  unfold State.setReach
  repeat' first
    | with_reducible assumption
    | intro _
    | (extract_lets +onlyGivenNames x; refine Kept.cut (s₀ := s₀) (x := x) ?_ (fun hx => ?_); unfold x; clear x; rotate_left; clear_value x; rotate_right)
    | (extract_lets +onlyGivenNames x; clear_value x)
    | with_reducible apply State.forEach_kept
    | with_reducible apply State.setNat_kept
    | with_reducible apply State.setRing_kept

theorem State.ringLearn_kept {s₀ : State} (s : State) (k : Nat) (hk : Kept s₀ s) :
    Kept s₀ (State.ringLearn s k) := by
  unfold State.ringLearn
  repeat' first
    | with_reducible assumption
    | intro _
    | (extract_lets +onlyGivenNames x; refine Kept.cut (s₀ := s₀) (x := x) ?_ (fun hx => ?_); unfold x; clear x; rotate_left; clear_value x; rotate_right)
    | with_reducible apply State.forEach_kept
    | with_reducible apply State.ringAll_kept
    | with_reducible apply State.ringTo_kept

theorem State.ringEnumerate_kept {s₀ : State} (s : State) (k : Nat) (fromB : Bool) (hk : Kept s₀ s) :
    Kept s₀ (State.ringEnumerate s k fromB) := by
  unfold State.ringEnumerate
  repeat' first
    | with_reducible assumption
    | (extract_lets +onlyGivenNames x; clear_value x)
    | with_reducible apply State.setRing_kept

theorem State.ringRestart_kept {s₀ : State} (s : State) (k : Nat) (hk : Kept s₀ s) :
    Kept s₀ (State.ringRestart s k) := by
  unfold State.ringRestart
  repeat' first
    | with_reducible assumption
    | with_reducible apply Kept.ite
    | with_reducible apply State.ringEnumerate_kept
    | with_reducible apply State.setRingMode_kept

theorem State.ringOneEnd_kept {s₀ : State} (s : State) (k : Nat) (hk : Kept s₀ s) :
    Kept s₀ (State.ringOneEnd s k) := by
  unfold State.ringOneEnd
  repeat' first
    | with_reducible assumption
    | intro _
    | (extract_lets +onlyGivenNames x; (have f : Prop := x); clear f; unfold x; clear x)
    | (extract_lets +onlyGivenNames x; refine Kept.cut (s₀ := s₀) (x := x) ?_ (fun hx => ?_); unfold x; clear x; rotate_left; clear_value x; rotate_right)
    | (extract_lets +onlyGivenNames x; clear_value x)
    | with_reducible apply Kept.ite
    | with_reducible apply State.dropRead_kept
    | with_reducible apply State.forEach_kept
    | with_reducible apply State.setNat_kept
    | with_reducible apply State.setReach_kept
    | with_reducible apply State.setRingMode_kept
    | with_reducible apply State.setRing_kept

theorem State.balanceStop_kept {s₀ : State} (s : State) (k : Nat) (hk : Kept s₀ s) :
    Kept s₀ (State.balanceStop s k) := by
  unfold State.balanceStop
  repeat' first
    | with_reducible assumption
    | with_reducible apply Kept.ite
    | with_reducible apply State.ringAll_kept

theorem State.balanceString_kept {s₀ : State} (s : State) (k : Nat) (hk : Kept s₀ s) :
    Kept s₀ (State.balanceString s k) := by
  unfold State.balanceString
  repeat' first
    | with_reducible assumption
    | intro _
    | (extract_lets +onlyGivenNames x; refine Kept.cut (s₀ := s₀) (x := x) ?_ (fun hx => ?_); unfold x; clear x; rotate_left; clear_value x; rotate_right)
    | (extract_lets +onlyGivenNames x; clear_value x)
    | with_reducible apply Kept.ite
    | with_reducible apply State.balanceStop_kept
    | with_reducible apply State.forEach_kept
    | with_reducible apply State.ringTo_kept
    | with_reducible apply State.setRing_kept

end Sys2Proof.Machine
end

