-- ==== Sys2Proof/Laws/KeptEstOps.lean ====
section
/-! SUPPORT. What every operation of Machine/EstOps.lean keeps: see Kept in Laws/Kept.lean. -/

namespace Sys2Proof.Machine

theorem State.setEstCell_kept {s₀ : State} (s : State) (i : Nat) (e : EstCell) (hk : Kept s₀ s) :
    Kept s₀ (State.setEstCell s i e) := by
  unfold State.setEstCell
  repeat' first
    | (extract_lets +onlyGivenNames x; clear_value x)
    | (with_reducible apply Kept.mk'; first | with_reducible assumption | (with_reducible apply Kept.mk'; with_reducible assumption))

theorem State.estimateString_kept {s₀ : State} (s : State) (k : Nat) (hk : Kept s₀ s) :
    Kept s₀ (State.estimateString s k) := by
  unfold State.estimateString
  repeat' first
    | with_reducible assumption
    | (extract_lets +onlyGivenNames x; refine Kept.cut (s₀ := s₀) (x := x) ?_ (fun hx => ?_); unfold x; clear x; rotate_left; clear_value x; rotate_right)
    | (extract_lets +onlyGivenNames x; clear_value x)
    | with_reducible apply Kept.ite
    | with_reducible apply State.setEstStr_kept
    | with_reducible apply State.setNat_kept

theorem State.refreshClamps_kept {s₀ : State} (s : State) (hk : Kept s₀ s) :
    Kept s₀ (State.refreshClamps s) := by
  unfold State.refreshClamps
  repeat' first
    | (extract_lets +onlyGivenNames x; clear_value x)
    | (with_reducible apply Kept.mk'; first | with_reducible assumption | (with_reducible apply Kept.mk'; with_reducible assumption))

theorem State.reserveInput_kept {s₀ : State} (s : State) (hk : Kept s₀ s) :
    Kept s₀ (State.reserveInput s) := by
  unfold State.reserveInput
  repeat' first
    | with_reducible assumption
    | (extract_lets +onlyGivenNames x; clear_value x)
    | with_reducible apply Kept.ite
    | with_reducible apply State.exception_kept
    | (with_reducible apply Kept.mk'; first | with_reducible assumption | (with_reducible apply Kept.mk'; with_reducible assumption) | with_reducible apply State.exception_kept)

theorem State.judgeWindow_kept {s₀ : State} (s : State) (k : Nat) (hk : Kept s₀ s) :
    Kept s₀ (State.judgeWindow s k) := by
  unfold State.judgeWindow
  repeat' first
    | with_reducible assumption
    | (extract_lets +onlyGivenNames x; (have f : Prop := x); clear f; unfold x; clear x)
    | (extract_lets +onlyGivenNames x; refine Kept.cut (s₀ := s₀) (x := x) ?_ (fun hx => ?_); unfold x; clear x; rotate_left; clear_value x; rotate_right)
    | (extract_lets +onlyGivenNames x; clear_value x)
    | with_reducible apply Kept.ite
    | with_reducible apply State.exception_kept
    | with_reducible apply State.setNat_kept
    | (with_reducible apply Kept.mk'; first | with_reducible assumption | (with_reducible apply Kept.mk'; with_reducible assumption) | with_reducible apply State.exception_kept | with_reducible apply State.setNat_kept)

theorem State.limitUpdate_kept {s₀ : State} (s : State) (hk : Kept s₀ s) :
    Kept s₀ (State.limitUpdate s) := by
  unfold State.limitUpdate
  repeat' first
    | with_reducible assumption
    | intro _
    | (extract_lets +onlyGivenNames x; refine Kept.cut (s₀ := s₀) (x := x) ?_ (fun hx => ?_); unfold x; clear x; rotate_left; clear_value x; rotate_right)
    | (extract_lets +onlyGivenNames x; clear_value x)
    | with_reducible apply State.estimateString_kept
    | with_reducible apply State.forEach_kept
    | with_reducible apply State.judgeWindow_kept
    | with_reducible apply State.refreshClamps_kept
    | with_reducible apply State.reserveInput_kept
    | with_reducible apply State.setNat_kept
    | (with_reducible apply Kept.mk'; first | with_reducible assumption | (with_reducible apply Kept.mk'; with_reducible assumption) | with_reducible apply State.estimateString_kept | with_reducible apply State.forEach_kept | with_reducible apply State.judgeWindow_kept | with_reducible apply State.refreshClamps_kept | with_reducible apply State.reserveInput_kept | with_reducible apply State.setNat_kept)

theorem State.extreme_kept {s₀ : State} (s : State) (key : Nat) (hi : Bool) (v : Int) (cell : Nat) (hk : Kept s₀ s) :
    Kept s₀ (State.extreme s key hi v cell) := by
  unfold State.extreme
  repeat' first
    | with_reducible assumption
    | (extract_lets +onlyGivenNames x; clear_value x)
    | with_reducible apply Kept.ite
    | with_reducible apply State.setBlob_kept

theorem State.lifetimeSecond_kept {s₀ : State} (s : State) (k : Nat) (hk : Kept s₀ s) :
    Kept s₀ (State.lifetimeSecond s k) := by
  unfold State.lifetimeSecond
  repeat' first
    | with_reducible assumption
    | (extract_lets +onlyGivenNames x; refine Kept.cut (s₀ := s₀) (x := x) ?_ (fun hx => ?_); unfold x; clear x; rotate_left; clear_value x; rotate_right)
    | (extract_lets +onlyGivenNames x; clear_value x)
    | with_reducible apply Kept.ite
    | with_reducible apply State.count_kept
    | with_reducible apply State.setBlob_kept
    | with_reducible apply State.setNat_kept
    | split

theorem State.putPersist_kept {s₀ : State} (s : State) (p : PersistSt) (hk : Kept s₀ s) :
    Kept s₀ (State.putPersist s p) := by
  unfold State.putPersist
  repeat' first
    | (extract_lets +onlyGivenNames x; clear_value x)
    | with_reducible apply Kept.ite
    | (with_reducible apply Kept.mk'; first | with_reducible assumption | (with_reducible apply Kept.mk'; with_reducible assumption))

theorem State.persist_kept {s₀ : State} (s : State) (hk : Kept s₀ s) :
    Kept s₀ (State.persist s) := by
  unfold State.persist
  repeat' first
    | with_reducible assumption
    | with_reducible apply State.putPersist_kept

theorem State.persistReduced_kept {s₀ : State} (s : State) (hk : Kept s₀ s) :
    Kept s₀ (State.persistReduced s) := by
  unfold State.persistReduced
  repeat' first
    | with_reducible assumption
    | (extract_lets +onlyGivenNames x; clear_value x)
    | with_reducible apply State.putPersist_kept

theorem State.restorePersist_kept {s₀ : State} (s : State) (hk : Kept s₀ s) :
    Kept s₀ (State.restorePersist s) := by
  unfold State.restorePersist
  repeat' first
    | with_reducible assumption
    | intro _
    | (extract_lets +onlyGivenNames x; refine Kept.cut (s₀ := s₀) (x := x) ?_ (fun hx => ?_); unfold x; clear x; rotate_left; clear_value x; rotate_right)
    | (extract_lets +onlyGivenNames x; clear_value x)
    | with_reducible apply Kept.ite
    | with_reducible apply State.estimateString_kept
    | with_reducible apply State.forEach_kept
    | with_reducible apply State.setBlob_kept
    | with_reducible apply State.setEstStr_kept
    | with_reducible apply State.setNat_kept
    | with_reducible apply State.setNum_kept
    | (with_reducible apply Kept.mk'; first | with_reducible assumption | (with_reducible apply Kept.mk'; with_reducible assumption) | with_reducible apply State.estimateString_kept | with_reducible apply State.forEach_kept | with_reducible apply State.setBlob_kept | with_reducible apply State.setEstStr_kept | with_reducible apply State.setNat_kept | with_reducible apply State.setNum_kept)
    | split

theorem State.calEnd_kept {s₀ : State} (s : State) (result : Nat) (hk : Kept s₀ s) :
    Kept s₀ (State.calEnd s result) := by
  unfold State.calEnd
  repeat' first
    | with_reducible assumption
    | (extract_lets +onlyGivenNames x; clear_value x)
    | with_reducible apply Kept.ite
    | with_reducible apply State.persist_kept
    | with_reducible apply State.setNat_kept
    | (with_reducible apply Kept.mk'; first | with_reducible assumption | (with_reducible apply Kept.mk'; with_reducible assumption) | with_reducible apply State.persist_kept | with_reducible apply State.setNat_kept)

theorem State.calTick_kept {s₀ : State} (s : State) (k : Nat) (q : Int) (hk : Kept s₀ s) :
    Kept s₀ (State.calTick s k q) := by
  unfold State.calTick
  repeat' first
    | with_reducible assumption
    | (extract_lets +onlyGivenNames x; clear_value x)
    | with_reducible apply Kept.ite
    | (with_reducible apply Kept.mk'; first | with_reducible assumption | (with_reducible apply Kept.mk'; with_reducible assumption))

theorem State.calOpened_kept {s₀ : State} (s : State) (k : Nat) (hk : Kept s₀ s) :
    Kept s₀ (State.calOpened s k) := by
  unfold State.calOpened
  repeat' first
    | with_reducible assumption
    | with_reducible apply Kept.ite
    | with_reducible apply State.calEnd_kept

theorem State.calMode_kept {s₀ : State} (s : State) (hk : Kept s₀ s) :
    Kept s₀ (State.calMode s) := by
  unfold State.calMode
  repeat' first
    | with_reducible assumption
    | (extract_lets +onlyGivenNames x; clear_value x)
    | with_reducible apply Kept.ite
    | with_reducible apply State.calEnd_kept
    | (with_reducible apply Kept.mk'; first | with_reducible assumption | (with_reducible apply Kept.mk'; with_reducible assumption) | with_reducible apply State.calEnd_kept)
    | split

end Sys2Proof.Machine
end

