-- ==== Sys2Proof/Laws/KeptForecastOps.lean ====
section
/-! SUPPORT. What every operation of Machine/ForecastOps.lean keeps: see Kept in Laws/Kept.lean. -/

namespace Sys2Proof.Machine

theorem State.setPort_kept {s₀ : State} (s : State) (p : Nat) (v : PortSt) (hk : Kept s₀ s) :
    Kept s₀ (State.setPort s p v) := by
  unfold State.setPort
  repeat' first
    | (extract_lets +onlyGivenNames x; clear_value x)
    | (with_reducible apply Kept.mk'; first | with_reducible assumption | (with_reducible apply Kept.mk'; with_reducible assumption))

theorem State.publishPort_kept {s₀ : State} (s : State) (p h stamp : Nat) (b : List Nat) (hk : Kept s₀ s) :
    Kept s₀ (State.publishPort s p h stamp b) := by
  unfold State.publishPort
  repeat' first
    | with_reducible assumption
    | (extract_lets +onlyGivenNames x; clear_value x)
    | with_reducible apply Kept.ite
    | with_reducible apply State.count_kept
    | with_reducible apply State.setPort_kept

theorem State.keepFine_kept {s₀ : State} (s : State) (stamp : Nat) (b : List Nat) (hk : Kept s₀ s) :
    Kept s₀ (State.keepFine s stamp b) := by
  unfold State.keepFine
  repeat' first
    | (extract_lets +onlyGivenNames x; clear_value x)
    | (with_reducible apply Kept.mk'; first | with_reducible assumption | (with_reducible apply Kept.mk'; with_reducible assumption))

theorem State.latchPorts_kept {s₀ : State} (s : State) (hk : Kept s₀ s) :
    Kept s₀ (State.latchPorts s) := by
  unfold State.latchPorts
  repeat' first
    | with_reducible assumption
    | intro _
    | (extract_lets +onlyGivenNames x; refine Kept.cut (s₀ := s₀) (x := x) ?_ (fun hx => ?_); unfold x; clear x; rotate_left; clear_value x; rotate_right)
    | (extract_lets +onlyGivenNames x; clear_value x)
    | with_reducible apply Kept.ite
    | with_reducible apply State.forEach_kept
    | with_reducible apply State.keepFine_kept
    | with_reducible apply State.setPort_kept

theorem State.setEps_kept {s₀ : State} (s : State) (e : Rat) (hk : Kept s₀ s) :
    Kept s₀ (State.setEps s e) := by
  unfold State.setEps
  repeat' first
    | (extract_lets +onlyGivenNames x; clear_value x)
    | with_reducible apply State.setNat_kept
    | (with_reducible apply Kept.mk'; first | with_reducible assumption | (with_reducible apply Kept.mk'; with_reducible assumption) | with_reducible apply State.setNat_kept)

theorem State.resetTrust_kept {s₀ : State} (s : State) (hk : Kept s₀ s) :
    Kept s₀ (State.resetTrust s) := by
  unfold State.resetTrust
  repeat' first
    | with_reducible assumption
    | with_reducible apply State.setEps_kept

theorem State.evaluateBin_kept {s₀ : State} (s : State) (b : Nat) (hk : Kept s₀ s) :
    Kept s₀ (State.evaluateBin s b) := by
  unfold State.evaluateBin
  repeat' first
    | with_reducible assumption
    | (extract_lets +onlyGivenNames x; refine Kept.cut (s₀ := s₀) (x := x) ?_ (fun hx => ?_); unfold x; clear x; rotate_left; clear_value x; rotate_right)
    | (extract_lets +onlyGivenNames x; clear_value x)
    | with_reducible apply Kept.ite
    | with_reducible apply State.setEps_kept
    | (with_reducible apply Kept.mk'; first | with_reducible assumption | (with_reducible apply Kept.mk'; with_reducible assumption) | with_reducible apply State.setEps_kept)
    | split

theorem State.forecastTerms_kept {s₀ : State} (s : State) (hk : Kept s₀ s) :
    Kept s₀ (State.forecastTerms s) := by
  unfold State.forecastTerms
  repeat' first
    | with_reducible assumption
    | (extract_lets +onlyGivenNames x; (have f : Prop := x); clear f; unfold x; clear x)
    | (extract_lets +onlyGivenNames x; refine Kept.cut (s₀ := s₀) (x := x) ?_ (fun hx => ?_); unfold x; clear x; rotate_left; clear_value x; rotate_right)
    | (extract_lets +onlyGivenNames x; clear_value x)
    | with_reducible apply Kept.ite
    | with_reducible apply State.count_kept
    | with_reducible apply State.setNat_kept
    | (with_reducible apply Kept.mk'; first | with_reducible assumption | (with_reducible apply Kept.mk'; with_reducible assumption) | with_reducible apply State.count_kept | with_reducible apply State.setNat_kept)

theorem State.defineFcWindows_kept {s₀ : State} (s : State) (hk : Kept s₀ s) :
    Kept s₀ (State.defineFcWindows s) := by
  unfold State.defineFcWindows
  repeat' first
    | with_reducible assumption
    | (extract_lets +onlyGivenNames x; clear_value x)
    | with_reducible apply State.setNat_kept
    | (with_reducible apply Kept.mk'; first | with_reducible assumption | (with_reducible apply Kept.mk'; with_reducible assumption) | with_reducible apply State.setNat_kept)
    | split

theorem State.dropFcWindows_kept {s₀ : State} (s : State) (hk : Kept s₀ s) :
    Kept s₀ (State.dropFcWindows s) := by
  unfold State.dropFcWindows
  repeat' first
    | with_reducible assumption
    | intro _
    | (extract_lets +onlyGivenNames x; refine Kept.cut (s₀ := s₀) (x := x) ?_ (fun hx => ?_); unfold x; clear x; rotate_left; clear_value x; rotate_right)
    | (extract_lets +onlyGivenNames x; clear_value x)
    | with_reducible apply Kept.ite
    | with_reducible apply State.dropWindow_kept
    | with_reducible apply State.forEach_kept
    | with_reducible apply State.setNat_kept

theorem State.refreshStep_kept {s₀ : State} (s : State) (hk : Kept s₀ s) :
    Kept s₀ (State.refreshStep s) := by
  unfold State.refreshStep
  repeat' first
    | with_reducible assumption
    | (extract_lets +onlyGivenNames x; refine Kept.cut (s₀ := s₀) (x := x) ?_ (fun hx => ?_); unfold x; clear x; rotate_left; clear_value x; rotate_right)
    | (extract_lets +onlyGivenNames x; clear_value x)
    | with_reducible apply Kept.ite
    | (with_reducible apply Kept.mk'; first | with_reducible assumption | (with_reducible apply Kept.mk'; with_reducible assumption))

theorem State.bindForecaster_kept {s₀ : State} (s : State) (h : Nat) (hk : Kept s₀ s) :
    Kept s₀ (State.bindForecaster s h).2 := by
  unfold State.bindForecaster
  repeat' first
    | with_reducible assumption
    | (extract_lets +onlyGivenNames x; refine Kept.cut (s₀ := s₀) (x := x) ?_ (fun hx => ?_); unfold x; clear x; rotate_left; clear_value x; rotate_right)
    | with_reducible apply Kept.ite
    | with_reducible apply Kept.ite2
    | with_reducible apply State.defineFcWindows_kept
    | with_reducible apply State.dropFcWindows_kept
    | with_reducible apply State.refreshStep_kept
    | with_reducible apply State.setNat_kept

theorem State.takeBinding_kept {s₀ : State} (s : State) (hk : Kept s₀ s) :
    Kept s₀ (State.takeBinding s) := by
  unfold State.takeBinding
  repeat' first
    | with_reducible assumption
    | (extract_lets +onlyGivenNames x; refine Kept.cut (s₀ := s₀) (x := x) ?_ (fun hx => ?_); unfold x; clear x; rotate_left; clear_value x; rotate_right)
    | (extract_lets +onlyGivenNames x; clear_value x)
    | with_reducible apply Kept.ite
    | with_reducible apply State.resetTrust_kept
    | (with_reducible apply Kept.mk'; first | with_reducible assumption | (with_reducible apply Kept.mk'; with_reducible assumption) | with_reducible apply State.resetTrust_kept)

theorem State.unbindProg_kept {s₀ : State} (s : State) (h : Nat) (hk : Kept s₀ s) :
    Kept s₀ (State.unbindProg s h) := by
  unfold State.unbindProg
  repeat' first
    | with_reducible assumption
    | with_reducible apply Kept.ite
    | with_reducible apply State.bindForecaster_kept

theorem State.setRect_kept {s₀ : State} (s : State) (r : Nat) (v : RectSt) (hk : Kept s₀ s) :
    Kept s₀ (State.setRect s r v) := by
  unfold State.setRect
  repeat' first
    | (extract_lets +onlyGivenNames x; clear_value x)
    | (with_reducible apply Kept.mk'; first | with_reducible assumption | (with_reducible apply Kept.mk'; with_reducible assumption))

end Sys2Proof.Machine
end

