-- ==== Sys2Proof/Laws/KeptModeOps.lean ====
section
/-! SUPPORT. What every operation of Machine/ModeOps.lean keeps: see Kept in Laws/Kept.lean. -/

namespace Sys2Proof.Machine

theorem State.followClock_kept {s₀ : State} (s : State) (hk : Kept s₀ s) :
    Kept s₀ (State.followClock s) := by
  unfold State.followClock
  repeat' first
    | with_reducible assumption
    | (extract_lets +onlyGivenNames x; refine Kept.cut (s₀ := s₀) (x := x) ?_ (fun hx => ?_); unfold x; clear x; rotate_left; clear_value x; rotate_right)
    | (extract_lets +onlyGivenNames x; refine Kept.cut (s₀ := s₀) (x := x.2) ?_ (fun hx => ?_); unfold x; clear x; rotate_left; clear_value x; rotate_right)
    | (extract_lets +onlyGivenNames x; clear_value x)
    | with_reducible apply Kept.ite
    | with_reducible apply State.draw_kept
    | (with_reducible apply Kept.mk'; first | with_reducible assumption | (with_reducible apply Kept.mk'; with_reducible assumption) | with_reducible apply State.draw_kept)

theorem State.setLatches_kept {s₀ : State} (s : State) (a b : Bool) (hab : (a && b) = true → (s.hold.latchA && s.hold.latchB) = true)
    (hk : Kept s₀ s) : Kept s₀ (State.setLatches s a b) := by
  unfold State.setLatches
  extract_lets +onlyGivenNames x
  refine State.followClock_kept _ ⟨hk.pending, hk.now, hk.out, hk.free, hk.canon, fun h => ?_⟩
  have y := hk.authority h
  unfold State.oneAuthority at y ⊢
  intro z
  apply y
  have := hab (by simpa using z)
  simpa using this

theorem State.latchesOff_kept {s₀ : State} (s : State) (hk : Kept s₀ s) : Kept s₀ (State.setLatches s false false) :=
  State.setLatches_kept s _ _ (by simp) hk

theorem State.latchesOf_kept {s₀ : State} (s : State) (n : Nat) (hk : Kept s₀ s) :
    Kept s₀ (State.setLatches s (decide (n = 1)) (decide (n = 2))) :=
  State.setLatches_kept s _ _ (by intro h; simp only [Bool.and_eq_true, decide_eq_true_eq] at h; omega) hk

theorem State.clearLatch_kept {s₀ : State} (s : State) (h : Nat) (hk : Kept s₀ s) : Kept s₀ (State.clearLatch s h) := by
  unfold State.clearLatch
  split
  · exact State.setLatches_kept s _ _ (by simp) hk
  · exact State.setLatches_kept s _ _ (by simp) hk

theorem State.setLatch_kept {s₀ : State} (s : State) (h : Nat) (hk : Kept s₀ s) : Kept s₀ (State.setLatch s h) := by
  unfold State.setLatch
  repeat' split
  all_goals first
    | exact hk
    | exact State.setLatches_kept s _ _ (by simp) hk

theorem State.logFail_kept {s₀ : State} (s : State) (cause halves detail : Nat) (hk : Kept s₀ s) :
    Kept s₀ (State.logFail s cause halves detail) := by
  unfold State.logFail
  repeat' first
    | (extract_lets +onlyGivenNames x; clear_value x)
    | (with_reducible apply Kept.mk'; first | with_reducible assumption | (with_reducible apply Kept.mk'; with_reducible assumption))

theorem State.clearFails_kept {s₀ : State} (s : State) (hk : Kept s₀ s) :
    Kept s₀ (State.clearFails s) := by
  unfold State.clearFails
  repeat' first
    | (extract_lets +onlyGivenNames x; clear_value x)
    | (with_reducible apply Kept.mk'; first | with_reducible assumption | (with_reducible apply Kept.mk'; with_reducible assumption))

theorem State.standDown_kept {s₀ : State} (s : State) (hk : Kept s₀ s) :
    Kept s₀ (State.standDown s) := by
  unfold State.standDown
  repeat' first
    | with_reducible assumption
    | (extract_lets +onlyGivenNames x; refine Kept.cut (s₀ := s₀) (x := x) ?_ (fun hx => ?_); unfold x; clear x; rotate_left; clear_value x; rotate_right)
    | (extract_lets +onlyGivenNames x; clear_value x)
    | with_reducible apply State.gdenOff_kept
    | with_reducible apply State.setNat_kept
    | with_reducible apply State.latchesOff_kept
    | (with_reducible apply Kept.mk'; first | with_reducible assumption | (with_reducible apply Kept.mk'; with_reducible assumption) | with_reducible apply State.gdenOff_kept | with_reducible apply State.latchesOf_kept | with_reducible apply State.latchesOff_kept | with_reducible apply State.setNat_kept)

theorem State.openFor_kept {s₀ : State} (s : State) (k : Nat) (wait : Bool) (lock : Nat) (hk : Kept s₀ s) :
    Kept s₀ (State.openFor s k wait lock) := by
  unfold State.openFor
  repeat' first
    | with_reducible assumption
    | with_reducible apply State.calOpened_kept
    | with_reducible apply State.openString_kept

theorem State.openEvery_kept {s₀ : State} (s : State) (hk : Kept s₀ s) :
    Kept s₀ (State.openEvery s) := by
  unfold State.openEvery
  repeat' first
    | with_reducible assumption
    | intro _
    | with_reducible apply State.forEach_kept
    | with_reducible apply State.openFor_kept

theorem State.failAdvance_kept {s₀ : State} (s : State) (hk : Kept s₀ s) :
    Kept s₀ (State.failAdvance s) := by
  unfold State.failAdvance
  repeat' first
    | with_reducible assumption
    | (extract_lets +onlyGivenNames x; refine Kept.cut (s₀ := s₀) (x := x) ?_ (fun hx => ?_); unfold x; clear x; rotate_left; clear_value x; rotate_right)
    | (extract_lets +onlyGivenNames x; clear_value x)
    | with_reducible apply Kept.ite
    | with_reducible apply State.standDown_kept
    | (with_reducible apply Kept.mk'; first | with_reducible assumption | (with_reducible apply Kept.mk'; with_reducible assumption) | with_reducible apply State.standDown_kept)

theorem State.failEnergise_kept {s₀ : State} (s : State) (cause detail : Nat) (hk : Kept s₀ s) :
    Kept s₀ (State.failEnergise s cause detail) := by
  unfold State.failEnergise
  repeat' first
    | with_reducible assumption
    | (extract_lets +onlyGivenNames x; refine Kept.cut (s₀ := s₀) (x := x) ?_ (fun hx => ?_); unfold x; clear x; rotate_left; clear_value x; rotate_right)
    | (extract_lets +onlyGivenNames x; clear_value x)
    | with_reducible apply Kept.ite
    | with_reducible apply State.failAdvance_kept
    | with_reducible apply State.logFail_kept
    | with_reducible apply State.openEvery_kept
    | with_reducible apply State.setNat_kept
    | (with_reducible apply Kept.mk'; first | with_reducible assumption | (with_reducible apply Kept.mk'; with_reducible assumption) | with_reducible apply State.failAdvance_kept | with_reducible apply State.logFail_kept | with_reducible apply State.openEvery_kept | with_reducible apply State.setNat_kept)

theorem State.zeroLoop_kept {s₀ : State} (s : State) (hk : Kept s₀ s) :
    Kept s₀ (State.zeroLoop s) := by
  unfold State.zeroLoop
  repeat' first
    | with_reducible assumption
    | with_reducible apply State.setInst_kept

theorem State.escLeaveBoot_kept {s₀ : State} (s : State) (hk : Kept s₀ s) :
    Kept s₀ (State.escLeaveBoot s) := by
  unfold State.escLeaveBoot
  repeat' first
    | with_reducible assumption
    | (extract_lets +onlyGivenNames x; clear_value x)
    | with_reducible apply Kept.ite
    | with_reducible apply State.emit_kept
    | (with_reducible apply Kept.mk'; first | with_reducible assumption | (with_reducible apply Kept.mk'; with_reducible assumption) | with_reducible apply State.emit_kept)

theorem State.escNoLink_kept {s₀ : State} (s : State) (hk : Kept s₀ s) :
    Kept s₀ (State.escNoLink s) := by
  unfold State.escNoLink
  repeat' first
    | (extract_lets +onlyGivenNames x; clear_value x)
    | (with_reducible apply Kept.mk'; first | with_reducible assumption | (with_reducible apply Kept.mk'; with_reducible assumption))

theorem State.enterReady_kept {s₀ : State} (s : State) (hk : Kept s₀ s) :
    Kept s₀ (State.enterReady s) := by
  unfold State.enterReady
  repeat' first
    | with_reducible assumption
    | (extract_lets +onlyGivenNames x; refine Kept.cut (s₀ := s₀) (x := x) ?_ (fun hx => ?_); unfold x; clear x; rotate_left; clear_value x; rotate_right)
    | (extract_lets +onlyGivenNames x; clear_value x)
    | with_reducible apply State.escLeaveBoot_kept
    | with_reducible apply State.resetTrust_kept
    | with_reducible apply State.setNat_kept
    | with_reducible apply State.startPhases_kept
    | with_reducible apply State.zeroLoop_kept
    | (with_reducible apply Kept.mk'; first | with_reducible assumption | (with_reducible apply Kept.mk'; with_reducible assumption) | with_reducible apply State.escLeaveBoot_kept | with_reducible apply State.resetTrust_kept | with_reducible apply State.setNat_kept | with_reducible apply State.startPhases_kept | with_reducible apply State.zeroLoop_kept)

theorem State.startConnect_kept {s₀ : State} (s : State) (k : Nat) (hk : Kept s₀ s) :
    Kept s₀ (State.startConnect s k).2 := by
  unfold State.startConnect
  repeat' first
    | with_reducible assumption
    | (extract_lets +onlyGivenNames x; refine Kept.cut (s₀ := s₀) (x := x) ?_ (fun hx => ?_); unfold x; clear x; rotate_left; clear_value x; rotate_right)
    | (extract_lets +onlyGivenNames x; clear_value x)
    | with_reducible apply State.driveClosed_kept
    | with_reducible apply State.setStr_kept
    | split

theorem State.connectResult_kept {s₀ : State} (s : State) (k cause : Nat) (hk : Kept s₀ s) :
    Kept s₀ (State.connectResult s k cause) := by
  unfold State.connectResult
  repeat' first
    | with_reducible assumption
    | with_reducible apply State.setNat_kept

theorem State.connectAbort_kept {s₀ : State} (s : State) (k cause : Nat) (hk : Kept s₀ s) :
    Kept s₀ (State.connectAbort s k cause) := by
  unfold State.connectAbort
  repeat' first
    | with_reducible assumption
    | (extract_lets +onlyGivenNames x; refine Kept.cut (s₀ := s₀) (x := x) ?_ (fun hx => ?_); unfold x; clear x; rotate_left; clear_value x; rotate_right)
    | (extract_lets +onlyGivenNames x; clear_value x)
    | with_reducible apply State.connectResult_kept
    | with_reducible apply State.openFor_kept
    | with_reducible apply State.setStr_kept

theorem State.connectNext_kept {s₀ : State} (s : State) (hk : Kept s₀ s) :
    Kept s₀ (State.connectNext s).2.2 := by
  unfold State.connectNext
  repeat' first
    | with_reducible assumption
    | (extract_lets +onlyGivenNames x; refine Kept.cut (s₀ := s₀) (x := x) ?_ (fun hx => ?_); unfold x; clear x; rotate_left; clear_value x; rotate_right)
    | (extract_lets +onlyGivenNames x; refine Kept.cut (s₀ := s₀) (x := x.2) ?_ (fun hx => ?_); unfold x; clear x; rotate_left; clear_value x; rotate_right)
    | (extract_lets +onlyGivenNames x; clear_value x)
    | with_reducible apply State.enterReady_kept
    | with_reducible apply State.startConnect_kept
    | (with_reducible apply Kept.mk'; first | with_reducible assumption | (with_reducible apply Kept.mk'; with_reducible assumption) | with_reducible apply State.enterReady_kept | with_reducible apply State.startConnect_kept)
    | split

theorem State.updateShares_kept {s₀ : State} (s : State) (hk : Kept s₀ s) :
    Kept s₀ (State.updateShares s) := by
  unfold State.updateShares
  repeat' first
    | (extract_lets +onlyGivenNames x; (have f := fun a => x a); clear f; unfold x; clear x; dsimp -zeta -failIfUnchanged only)
    | (extract_lets +onlyGivenNames x; clear_value x)
    | with_reducible apply State.setNat_kept
    | (with_reducible apply Kept.mk'; first | with_reducible assumption | (with_reducible apply Kept.mk'; with_reducible assumption) | with_reducible apply State.setNat_kept)

theorem State.connectDone_kept {s₀ : State} (s : State) (k : Nat) (hk : Kept s₀ s) :
    Kept s₀ (State.connectDone s k) := by
  unfold State.connectDone
  repeat' first
    | with_reducible assumption
    | (extract_lets +onlyGivenNames x; refine Kept.cut (s₀ := s₀) (x := x) ?_ (fun hx => ?_); unfold x; clear x; rotate_left; clear_value x; rotate_right)
    | (extract_lets +onlyGivenNames x; clear_value x)
    | with_reducible apply State.connectResult_kept
    | with_reducible apply State.count_kept
    | with_reducible apply State.setStr_kept
    | with_reducible apply State.updateShares_kept

theorem State.judgeMatch_kept {s₀ : State} (s : State) (k : Nat) (hk : Kept s₀ s) :
    Kept s₀ (State.judgeMatch s k).2 := by
  unfold State.judgeMatch
  repeat' first
    | with_reducible assumption
    | (extract_lets +onlyGivenNames x; refine Kept.cut (s₀ := s₀) (x := x) ?_ (fun hx => ?_); unfold x; clear x; rotate_left; clear_value x; rotate_right)
    | (extract_lets +onlyGivenNames x; clear_value x)
    | with_reducible apply Kept.ite2
    | with_reducible apply State.driveClosed_kept
    | with_reducible apply State.setStr_kept
    | split

theorem State.interlockTick_kept {s₀ : State} (s : State) (k : Nat) (hk : Kept s₀ s) :
    Kept s₀ (State.interlockTick s k) := by
  unfold State.interlockTick
  repeat' first
    | with_reducible assumption
    | (extract_lets +onlyGivenNames x; clear_value x)
    | with_reducible apply Kept.ite
    | with_reducible apply State.count_kept
    | with_reducible apply State.setStr_kept

theorem State.shutRecord_kept {s₀ : State} (s : State) (kind status began : Nat) (hk : Kept s₀ s) :
    Kept s₀ (State.shutRecord s kind status began) := by
  unfold State.shutRecord
  repeat' first
    | with_reducible assumption
    | with_reducible apply State.setBlob_kept

theorem State.shutOpen_kept {s₀ : State} (s : State) (hk : Kept s₀ s) :
    Kept s₀ (State.shutOpen s) := by
  unfold State.shutOpen
  repeat' first
    | with_reducible assumption
    | (extract_lets +onlyGivenNames x; refine Kept.cut (s₀ := s₀) (x := x) ?_ (fun hx => ?_); unfold x; clear x; rotate_left; clear_value x; rotate_right)
    | (extract_lets +onlyGivenNames x; clear_value x)
    | with_reducible apply State.gdenOff_kept
    | with_reducible apply State.openEvery_kept
    | (with_reducible apply Kept.mk'; first | with_reducible assumption | (with_reducible apply Kept.mk'; with_reducible assumption) | with_reducible apply State.gdenOff_kept | with_reducible apply State.openEvery_kept)

theorem State.shutDone_kept {s₀ : State} (s : State) (hk : Kept s₀ s) :
    Kept s₀ (State.shutDone s) := by
  unfold State.shutDone
  repeat' first
    | with_reducible assumption
    | with_reducible apply Kept.ite
    | with_reducible apply State.persist_kept
    | with_reducible apply State.shutRecord_kept
    | with_reducible apply State.standDown_kept

theorem State.wayDown_kept {s₀ : State} (s : State) (hk : Kept s₀ s) :
    Kept s₀ (State.wayDown s) := by
  unfold State.wayDown
  repeat' first
    | with_reducible assumption
    | with_reducible apply State.failAdvance_kept
    | with_reducible apply State.shutDone_kept

end Sys2Proof.Machine
end

