-- ==== Sys2Proof/Laws/KeptReactions.lean ====
section
/-! SUPPORT. What every operation of Machine/Reactions.lean keeps: see Kept in Laws/Kept.lean. -/

namespace Sys2Proof.Machine

theorem State.reportReset_kept {s₀ : State} (s : State) (node : Nat) (f : Frame) (hk : Kept s₀ s) :
    Kept s₀ (State.reportReset s node f) := by
  unfold State.reportReset
  repeat' first
    | with_reducible assumption
    | (extract_lets +onlyGivenNames x; clear_value x)
    | with_reducible apply Kept.ite
    | with_reducible apply State.peerAnswer_kept
    | with_reducible apply State.refuseRequest_kept
    | (with_reducible apply Kept.mk'; first | with_reducible assumption | (with_reducible apply Kept.mk'; with_reducible assumption) | with_reducible apply State.peerAnswer_kept | with_reducible apply State.refuseRequest_kept)
    | split

theorem State.flowFail_kept {s₀ : State} (s : State) (key : Nat) (hk : Kept s₀ s) :
    Kept s₀ (State.flowFail s key) := by
  unfold State.flowFail
  repeat' first
    | with_reducible assumption
    | intro _
    | (extract_lets +onlyGivenNames x; refine Kept.cut (s₀ := s₀) (x := x) ?_ (fun hx => ?_); unfold x; clear x; rotate_left; clear_value x; rotate_right)
    | (extract_lets +onlyGivenNames x; clear_value x)
    | with_reducible apply Kept.ite
    | with_reducible apply State.breakToward_kept
    | with_reducible apply State.count_kept
    | with_reducible apply State.forEach_kept
    | with_reducible apply State.reportReset_kept
    | with_reducible apply State.sendFlowReset_kept
    | with_reducible apply State.setFlow_kept
    | with_reducible apply State.setLane_kept

theorem State.setChan_kept {s₀ : State} (s : State) (c : Nat) (v : ChanSt) (hk : Kept s₀ s) :
    Kept s₀ (State.setChan s c v) := by
  unfold State.setChan
  repeat' first
    | (extract_lets +onlyGivenNames x; clear_value x)
    | (with_reducible apply Kept.mk'; first | with_reducible assumption | (with_reducible apply Kept.mk'; with_reducible assumption))

theorem State.breakChan_kept {s₀ : State} (s : State) (c code : Nat) (hk : Kept s₀ s) :
    Kept s₀ (State.breakChan s c code) := by
  unfold State.breakChan
  repeat' first
    | with_reducible assumption
    | (extract_lets +onlyGivenNames x; refine Kept.cut (s₀ := s₀) (x := x) ?_ (fun hx => ?_); unfold x; clear x; rotate_left; clear_value x; rotate_right)
    | (extract_lets +onlyGivenNames x; clear_value x)
    | with_reducible apply Kept.ite
    | with_reducible apply State.count_kept
    | with_reducible apply State.event_kept
    | with_reducible apply State.setChan_kept
    | with_reducible apply State.setNat_kept
    | with_reducible apply State.setNum_kept

theorem State.breakExternal_kept {s₀ : State} (s : State) (h : Nat) (hk : Kept s₀ s) :
    Kept s₀ (State.breakExternal s h) := by
  unfold State.breakExternal
  repeat' first
    | with_reducible assumption
    | intro _
    | with_reducible apply Kept.ite
    | with_reducible apply State.breakChan_kept
    | with_reducible apply State.forEach_kept

theorem State.loseChans_kept {s₀ : State} (s : State) (h : Nat) (hk : Kept s₀ s) :
    Kept s₀ (State.loseChans s h) := by
  unfold State.loseChans
  repeat' first
    | with_reducible assumption
    | intro _
    | (extract_lets +onlyGivenNames x; refine Kept.cut (s₀ := s₀) (x := x) ?_ (fun hx => ?_); unfold x; clear x; rotate_left; clear_value x; rotate_right)
    | with_reducible apply Kept.ite
    | with_reducible apply State.forEach_kept
    | with_reducible apply State.setChan_kept
    | with_reducible apply State.setNat_kept
    | with_reducible apply State.setNum_kept

theorem State.channelDown_kept {s₀ : State} (s : State) (c : Nat) (hk : Kept s₀ s) :
    Kept s₀ (State.channelDown s c) := by
  unfold State.channelDown
  repeat' first
    | (extract_lets +onlyGivenNames x; (have f : HoldSt := x); clear f; unfold x; clear x)
    | (extract_lets +onlyGivenNames x; clear_value x)
    | (with_reducible refine Kept.mkHold ?_ rfl rfl; first | with_reducible assumption)

theorem State.dieLinkDown_kept {s₀ : State} (s : State) (d : Nat) (hk : Kept s₀ s) :
    Kept s₀ (State.dieLinkDown s d) := by
  unfold State.dieLinkDown
  repeat' first
    | with_reducible assumption
    | (extract_lets +onlyGivenNames x; refine Kept.cut (s₀ := s₀) (x := x) ?_ (fun hx => ?_); unfold x; clear x; rotate_left; clear_value x; rotate_right)
    | (extract_lets +onlyGivenNames x; clear_value x)
    | with_reducible apply Kept.ite
    | with_reducible apply State.channelDown_kept
    | with_reducible apply State.linkState_kept
    | with_reducible apply State.runReplacements_kept
    | with_reducible apply State.splitBy_kept
    | (with_reducible apply Kept.mk'; first | with_reducible assumption | (with_reducible apply Kept.mk'; with_reducible assumption) | with_reducible apply State.channelDown_kept | with_reducible apply State.linkState_kept | with_reducible apply State.runReplacements_kept | with_reducible apply State.splitBy_kept)

theorem State.moveLanes_kept {s₀ : State} (s : State) (ns : List Nat) (h : Nat) (hk : Kept s₀ s) :
    Kept s₀ (State.moveLanes s ns h) := by
  unfold State.moveLanes
  repeat' first
    | with_reducible assumption
    | intro _
    | (extract_lets +onlyGivenNames x; refine Kept.cut (s₀ := s₀) (x := x) ?_ (fun hx => ?_); unfold x; clear x; rotate_left; clear_value x; rotate_right)
    | (extract_lets +onlyGivenNames x; clear_value x)
    | with_reducible apply Kept.ite
    | with_reducible apply State.forEach_kept
    | with_reducible apply State.laneDrop_kept
    | with_reducible apply State.setNat_kept

theorem State.takeBus_kept {s₀ : State} (s : State) (b h : Nat) (hk : Kept s₀ s) :
    Kept s₀ (State.takeBus s b h) := by
  unfold State.takeBus
  repeat' first
    | with_reducible assumption
    | (extract_lets +onlyGivenNames x; clear_value x)
    | with_reducible apply State.setBus_kept

theorem State.enterSafe_kept {s₀ : State} (s : State) (cls code b : Nat) (hk : Kept s₀ s) :
    Kept s₀ (State.enterSafe s cls code b) := by
  unfold State.enterSafe
  repeat' first
    | with_reducible assumption
    | intro _
    | (extract_lets +onlyGivenNames x; (have f : Prop := x); clear f; unfold x; clear x)
    | (extract_lets +onlyGivenNames x; (have f : HoldSt := x); clear f; unfold x; clear x)
    | (extract_lets +onlyGivenNames x; refine Kept.cut (s₀ := s₀) (x := x) ?_ (fun hx => ?_); unfold x; clear x; rotate_left; clear_value x; rotate_right)
    | (extract_lets +onlyGivenNames x; clear_value x)
    | with_reducible apply Kept.ite
    | with_reducible apply State.balanceStop_kept
    | with_reducible apply State.breakAllQuiet_kept
    | with_reducible apply State.calEnd_kept
    | with_reducible apply State.dropFcWindows_kept
    | with_reducible apply State.escLeaveBoot_kept
    | with_reducible apply State.forEach_kept
    | with_reducible apply State.gdenOff_kept
    | with_reducible apply State.logFail_kept
    | with_reducible apply State.openEvery_kept
    | with_reducible apply State.setBus_kept
    | with_reducible apply State.setNat_kept
    | (with_reducible refine Kept.mkHold ?_ rfl rfl; first | with_reducible assumption | with_reducible apply State.balanceStop_kept | with_reducible apply State.breakAllQuiet_kept | with_reducible apply State.calEnd_kept | with_reducible apply State.dropFcWindows_kept | with_reducible apply State.escLeaveBoot_kept | with_reducible apply State.forEach_kept | with_reducible apply State.gdenOff_kept | with_reducible apply State.logFail_kept | with_reducible apply State.openEvery_kept | with_reducible apply State.setBus_kept | with_reducible apply State.setNat_kept)

theorem State.halfBlocks_kept {s₀ : State} (s : State) (h v : Nat) (hk : Kept s₀ s) :
    Kept s₀ (State.halfBlocks s h v) := by
  unfold State.halfBlocks
  repeat' first
    | with_reducible assumption
    | intro _
    | (extract_lets +onlyGivenNames x; refine Kept.cut (s₀ := s₀) (x := x) ?_ (fun hx => ?_); unfold x; clear x; rotate_left; clear_value x; rotate_right)
    | (extract_lets +onlyGivenNames x; clear_value x)
    | with_reducible apply State.forEach_kept
    | with_reducible apply State.setNat_kept
    | (with_reducible apply Kept.mk'; first | with_reducible assumption | (with_reducible apply Kept.mk'; with_reducible assumption) | with_reducible apply State.forEach_kept | with_reducible apply State.setNat_kept)

theorem State.aliveStop_kept {s₀ : State} (s : State) (h : Nat) (hk : Kept s₀ s) :
    Kept s₀ (State.aliveStop s h) := by
  unfold State.aliveStop
  repeat' first
    | (extract_lets +onlyGivenNames x; clear_value x)
    | with_reducible apply Kept.ite
    | (with_reducible apply Kept.mk'; first | with_reducible assumption | (with_reducible apply Kept.mk'; with_reducible assumption))

theorem State.halfReact_kept {s₀ : State} (s : State) (h cls code b : Nat) (hk : Kept s₀ s) :
    Kept s₀ (State.halfReact s h cls code b) := by
  unfold State.halfReact
  repeat' first
    | with_reducible assumption
    | with_reducible apply Kept.ite
    | with_reducible apply State.aliveStop_kept
    | with_reducible apply State.clearLatch_kept
    | with_reducible apply State.enterSafe_kept
    | with_reducible apply State.halfBlocks_kept

theorem State.endSession_kept {s₀ : State} (s : State) (k : Nat) (hk : Kept s₀ s) :
    Kept s₀ (State.endSession s k) := by
  unfold State.endSession
  repeat' first
    | with_reducible assumption
    | (extract_lets +onlyGivenNames x; refine Kept.cut (s₀ := s₀) (x := x) ?_ (fun hx => ?_); unfold x; clear x; rotate_left; clear_value x; rotate_right)
    | (extract_lets +onlyGivenNames x; clear_value x)
    | with_reducible apply Kept.ite
    | (with_reducible apply Kept.mk'; first | with_reducible assumption | (with_reducible apply Kept.mk'; with_reducible assumption))

theorem State.portsMove_kept {s₀ : State} (s : State) (hk : Kept s₀ s) :
    Kept s₀ (State.portsMove s) := by
  unfold State.portsMove
  repeat' first
    | with_reducible assumption
    | (extract_lets +onlyGivenNames x; refine Kept.cut (s₀ := s₀) (x := x) ?_ (fun hx => ?_); unfold x; clear x; rotate_left; clear_value x; rotate_right)
    | (extract_lets +onlyGivenNames x; clear_value x)
    | with_reducible apply State.endSession_kept
    | (with_reducible apply Kept.mk'; first | with_reducible assumption | (with_reducible apply Kept.mk'; with_reducible assumption) | with_reducible apply State.endSession_kept)

theorem State.serverLost_kept {s₀ : State} (s : State) (hk : Kept s₀ s) :
    Kept s₀ (State.serverLost s) := by
  unfold State.serverLost
  repeat' first
    | with_reducible assumption
    | intro _
    | (extract_lets +onlyGivenNames x; refine Kept.cut (s₀ := s₀) (x := x) ?_ (fun hx => ?_); unfold x; clear x; rotate_left; clear_value x; rotate_right)
    | (extract_lets +onlyGivenNames x; clear_value x)
    | with_reducible apply Kept.ite
    | with_reducible apply State.emit_kept
    | with_reducible apply State.forEach_kept
    | with_reducible apply State.writeResponse_kept
    | (with_reducible apply Kept.mk'; first | with_reducible assumption | (with_reducible apply Kept.mk'; with_reducible assumption) | with_reducible apply State.emit_kept | with_reducible apply State.forEach_kept | with_reducible apply State.writeResponse_kept)

theorem State.halfTakeover_kept {s₀ : State} (s : State) (h : Nat) (hk : Kept s₀ s) :
    Kept s₀ (State.halfTakeover s h) := by
  unfold State.halfTakeover
  repeat' first
    | with_reducible assumption
    | intro _
    | (extract_lets +onlyGivenNames x; (have f : HoldSt := x); clear f; unfold x; clear x)
    | (extract_lets +onlyGivenNames x; refine Kept.cut (s₀ := s₀) (x := x) ?_ (fun hx => ?_); unfold x; clear x; rotate_left; clear_value x; rotate_right)
    | (extract_lets +onlyGivenNames x; clear_value x)
    | with_reducible apply Kept.ite
    | with_reducible apply State.aliveStop_kept
    | with_reducible apply State.arrayOut_kept
    | with_reducible apply State.breakOnDie_kept
    | with_reducible apply State.clearLatch_kept
    | with_reducible apply State.flowFail_kept
    | with_reducible apply State.forEach_kept
    | with_reducible apply State.halfBlocks_kept
    | with_reducible apply State.loseChans_kept
    | with_reducible apply State.loseDescs_kept
    | with_reducible apply State.loseRails_kept
    | with_reducible apply State.moveLanes_kept
    | with_reducible apply State.portsMove_kept
    | with_reducible apply State.reportLost_kept
    | with_reducible apply State.ringOneEnd_kept
    | with_reducible apply State.serverLost_kept
    | with_reducible apply State.stackGone_kept
    | with_reducible apply State.takeBus_kept
    | (with_reducible refine Kept.mkHold ?_ rfl rfl; first | with_reducible assumption | with_reducible apply State.aliveStop_kept | with_reducible apply State.arrayOut_kept | with_reducible apply State.breakOnDie_kept | with_reducible apply State.clearLatch_kept | with_reducible apply State.flowFail_kept | with_reducible apply State.forEach_kept | with_reducible apply State.halfBlocks_kept | with_reducible apply State.loseChans_kept | with_reducible apply State.loseDescs_kept | with_reducible apply State.loseRails_kept | with_reducible apply State.moveLanes_kept | with_reducible apply State.portsMove_kept | with_reducible apply State.reportLost_kept | with_reducible apply State.ringOneEnd_kept | with_reducible apply State.serverLost_kept | with_reducible apply State.stackGone_kept | with_reducible apply State.takeBus_kept)

theorem State.halfLost_kept {s₀ : State} (s : State) (h : Nat) (hk : Kept s₀ s) :
    Kept s₀ (State.halfLost s h) := by
  unfold State.halfLost
  repeat' first
    | with_reducible assumption
    | (extract_lets +onlyGivenNames x; (have f : Prop := x); clear f; unfold x; clear x)
    | (extract_lets +onlyGivenNames x; (have f : HoldSt := x); clear f; unfold x; clear x)
    | (extract_lets +onlyGivenNames x; refine Kept.cut (s₀ := s₀) (x := x) ?_ (fun hx => ?_); unfold x; clear x; rotate_left; clear_value x; rotate_right)
    | (extract_lets +onlyGivenNames x; clear_value x)
    | with_reducible apply Kept.ite
    | with_reducible apply State.halfTakeover_kept
    | with_reducible apply State.openRecovery_kept
    | with_reducible apply State.setLatch_kept
    | (with_reducible refine Kept.mkHold ?_ rfl rfl; first | with_reducible assumption | with_reducible apply State.halfTakeover_kept | with_reducible apply State.openRecovery_kept | with_reducible apply State.setLatch_kept)

theorem State.blockEffect_kept {s₀ : State} (s : State) (h l : Nat) (hk : Kept s₀ s) :
    Kept s₀ (State.blockEffect s h l) := by
  unfold State.blockEffect
  repeat' first
    | with_reducible assumption
    | intro _
    | (extract_lets +onlyGivenNames x; refine Kept.cut (s₀ := s₀) (x := x) ?_ (fun hx => ?_); unfold x; clear x; rotate_left; clear_value x; rotate_right)
    | (extract_lets +onlyGivenNames x; clear_value x)
    | with_reducible apply Kept.ite
    | with_reducible apply State.arrayOut_kept
    | with_reducible apply State.breakExternal_kept
    | with_reducible apply State.breakOnDie_kept
    | with_reducible apply State.channelDown_kept
    | with_reducible apply State.dieLinkDown_kept
    | with_reducible apply State.domainOff_kept
    | with_reducible apply State.flushPending_kept
    | with_reducible apply State.forEach_kept
    | with_reducible apply State.laneDrop_kept
    | with_reducible apply State.loseArrays_kept
    | with_reducible apply State.loseDescs_kept
    | with_reducible apply State.moveLanes_kept
    | with_reducible apply State.portsMove_kept
    | with_reducible apply State.reportLost_kept
    | with_reducible apply State.ringOneEnd_kept
    | with_reducible apply State.runReplacements_kept
    | with_reducible apply State.setNat_kept
    | with_reducible apply State.stackGone_kept
    | with_reducible apply State.takeBus_kept

theorem State.blockReact_kept {s₀ : State} (s : State) (b : Nat) (hk : Kept s₀ s) :
    Kept s₀ (State.blockReact s b) := by
  unfold State.blockReact
  repeat' first
    | with_reducible assumption
    | (extract_lets +onlyGivenNames x; refine Kept.cut (s₀ := s₀) (x := x) ?_ (fun hx => ?_); unfold x; clear x; rotate_left; clear_value x; rotate_right)
    | (extract_lets +onlyGivenNames x; clear_value x)
    | with_reducible apply Kept.ite
    | with_reducible apply State.blockEffect_kept
    | with_reducible apply State.setNat_kept
    | (with_reducible apply Kept.mk'; first | with_reducible assumption | (with_reducible apply Kept.mk'; with_reducible assumption) | with_reducible apply State.blockEffect_kept | with_reducible apply State.setNat_kept)

theorem State.holderHealth_kept {s₀ : State} (s : State) (hk : Kept s₀ s) :
    Kept s₀ (State.holderHealth s) := by
  unfold State.holderHealth
  repeat' first
    | with_reducible assumption
    | with_reducible apply Kept.ite
    | with_reducible apply State.clearLatch_kept

theorem State.raise_kept {s₀ : State} (s : State) (b cls code detail native : Nat) (own : Bool) (hk : Kept s₀ s) :
    Kept s₀ (State.raise s b cls code detail native own) := by
  unfold State.raise
  repeat' first
    | with_reducible assumption
    | (extract_lets +onlyGivenNames x; refine Kept.cut (s₀ := s₀) (x := x) ?_ (fun hx => ?_); unfold x; clear x; rotate_left; clear_value x; rotate_right)
    | (extract_lets +onlyGivenNames x; refine Kept.cut (s₀ := s₀) (x := x.2) ?_ (fun hx => ?_); unfold x; clear x; rotate_left; clear_value x; rotate_right)
    | (extract_lets +onlyGivenNames x; clear_value x)
    | with_reducible apply Kept.ite
    | with_reducible apply State.blockReact_kept
    | with_reducible apply State.enterSafe_kept
    | with_reducible apply State.halfReact_kept
    | with_reducible apply State.holderHealth_kept
    | with_reducible apply State.recordFault_kept
    | (with_reducible apply Kept.mk'; first | with_reducible assumption | (with_reducible apply Kept.mk'; with_reducible assumption) | with_reducible apply State.blockReact_kept | with_reducible apply State.enterSafe_kept | with_reducible apply State.halfReact_kept | with_reducible apply State.holderHealth_kept | with_reducible apply State.recordFault_kept)

end Sys2Proof.Machine
end

