-- ==== Sys2Proof/Laws/KeptLifeOps.lean ====
section
/-! SUPPORT. What every operation of Machine/LifeOps.lean keeps: see Kept in Laws/Kept.lean. -/

namespace Sys2Proof.Machine

theorem State.thermalOff_kept {s₀ : State} (s : State) (hk : Kept s₀ s) :
    Kept s₀ (State.thermalOff s) := by
  unfold State.thermalOff
  repeat' first
    | with_reducible assumption
    | with_reducible apply Kept.ite
    | with_reducible apply State.domainsOffBut_kept

theorem State.thermalShutdown_kept {s₀ : State} (s : State) (c : Nat) (hk : Kept s₀ s) :
    Kept s₀ (State.thermalShutdown s c) := by
  unfold State.thermalShutdown
  repeat' first
    | with_reducible assumption
    | (extract_lets +onlyGivenNames x; refine Kept.cut (s₀ := s₀) (x := x) ?_ (fun hx => ?_); unfold x; clear x; rotate_left; clear_value x; rotate_right)
    | (extract_lets +onlyGivenNames x; clear_value x)
    | with_reducible apply Kept.ite
    | with_reducible apply State.raise_kept
    | with_reducible apply State.setNat_kept
    | with_reducible apply State.thermalOff_kept
    | (with_reducible apply Kept.mk'; first | with_reducible assumption | (with_reducible apply Kept.mk'; with_reducible assumption) | with_reducible apply State.raise_kept | with_reducible apply State.setNat_kept | with_reducible apply State.thermalOff_kept)

theorem State.resetTo_kept {s₀ : State} (s : State) (cause : Nat) (hk : Kept s₀ s) : Kept s₀ (State.resetTo s cause) :=
  ⟨hk.pending, hk.now, hk.out, hk.free, fun h => ⟨smFilter_wfFrom _ _ _ _ (hk.canon h).1, smFilter_wfFrom _ _ _ _ (hk.canon h).2⟩,
    fun _ h => Bool.false_ne_true h.1⟩

theorem State.reset__kept {s₀ : State} (s : State) (cause : Nat) (hk : Kept s₀ s) :
    Kept s₀ (State.reset_ s cause) := by
  unfold State.reset_
  repeat' first
    | with_reducible assumption
    | (extract_lets +onlyGivenNames x; refine Kept.cut (s₀ := s₀) (x := x) ?_ (fun hx => ?_); unfold x; clear x; rotate_left; clear_value x; rotate_right)
    | (extract_lets +onlyGivenNames x; clear_value x)
    | with_reducible apply Kept.ite
    | with_reducible apply State.clearFails_kept
    | with_reducible apply State.count_kept
    | with_reducible apply State.resetTo_kept
    | with_reducible apply State.setNat_kept
    | (with_reducible apply Kept.mk'; first | with_reducible assumption | (with_reducible apply Kept.mk'; with_reducible assumption) | with_reducible apply State.clearFails_kept | with_reducible apply State.count_kept | with_reducible apply State.resetTo_kept | with_reducible apply State.setNat_kept)

theorem State.enterSeed_kept {s₀ : State} (s : State) (hk : Kept s₀ s) :
    Kept s₀ (State.enterSeed s) := by
  unfold State.enterSeed
  repeat' first
    | with_reducible assumption
    | intro _
    | (extract_lets +onlyGivenNames x; refine Kept.cut (s₀ := s₀) (x := x) ?_ (fun hx => ?_); unfold x; clear x; rotate_left; clear_value x; rotate_right)
    | (extract_lets +onlyGivenNames x; clear_value x)
    | with_reducible apply State.domainsOffBut_kept
    | with_reducible apply State.forEach_kept
    | with_reducible apply State.gdenOff_kept
    | with_reducible apply State.ringRestart_kept
    | with_reducible apply State.setNat_kept
    | with_reducible apply State.latchesOff_kept
    | (with_reducible apply Kept.mk'; first | with_reducible assumption | (with_reducible apply Kept.mk'; with_reducible assumption) | with_reducible apply State.domainsOffBut_kept | with_reducible apply State.forEach_kept | with_reducible apply State.gdenOff_kept | with_reducible apply State.latchesOf_kept | with_reducible apply State.latchesOff_kept | with_reducible apply State.ringRestart_kept | with_reducible apply State.setNat_kept)

theorem State.bootFail_kept {s₀ : State} (s : State) (cause halves detail : Nat) (hk : Kept s₀ s) :
    Kept s₀ (State.bootFail s cause halves detail) := by
  unfold State.bootFail
  repeat' first
    | with_reducible assumption
    | (extract_lets +onlyGivenNames x; refine Kept.cut (s₀ := s₀) (x := x) ?_ (fun hx => ?_); unfold x; clear x; rotate_left; clear_value x; rotate_right)
    | (extract_lets +onlyGivenNames x; clear_value x)
    | with_reducible apply Kept.ite
    | with_reducible apply State.domainsOffBut_kept
    | with_reducible apply State.enterSeed_kept
    | with_reducible apply State.logFail_kept
    | (with_reducible apply Kept.mk'; first | with_reducible assumption | (with_reducible apply Kept.mk'; with_reducible assumption) | with_reducible apply State.domainsOffBut_kept | with_reducible apply State.enterSeed_kept | with_reducible apply State.logFail_kept)

theorem State.setStage_kept {s₀ : State} (s : State) (h n : Nat) (hk : Kept s₀ s) :
    Kept s₀ (State.setStage s h n) := by
  unfold State.setStage
  repeat' first
    | (extract_lets +onlyGivenNames x; clear_value x)
    | with_reducible apply Kept.ite
    | (with_reducible apply Kept.mk'; first | with_reducible assumption | (with_reducible apply Kept.mk'; with_reducible assumption))

theorem State.stage4_kept {s₀ : State} (s : State) (h : Nat) (hk : Kept s₀ s) :
    Kept s₀ (State.stage4 s h) := by
  unfold State.stage4
  repeat' first
    | with_reducible assumption
    | intro _
    | (extract_lets +onlyGivenNames x; clear_value x)
    | with_reducible apply State.domainOn_kept
    | with_reducible apply State.forEach_kept
    | with_reducible apply State.setStage_kept

theorem State.stage3_kept {s₀ : State} (s : State) (h : Nat) (hk : Kept s₀ s) :
    Kept s₀ (State.stage3 s h) := by
  unfold State.stage3
  repeat' first
    | with_reducible assumption
    | (extract_lets +onlyGivenNames x; refine Kept.cut (s₀ := s₀) (x := x) ?_ (fun hx => ?_); unfold x; clear x; rotate_left; clear_value x; rotate_right)
    | (extract_lets +onlyGivenNames x; clear_value x)
    | with_reducible apply Kept.ite
    | with_reducible apply State.setStage_kept
    | with_reducible apply State.stage4_kept
    | (with_reducible apply Kept.mk'; first | with_reducible assumption | (with_reducible apply Kept.mk'; with_reducible assumption) | with_reducible apply State.setStage_kept | with_reducible apply State.stage4_kept)

theorem State.coolantBack_kept {s₀ : State} (s : State) (hk : Kept s₀ s) :
    Kept s₀ (State.coolantBack s) := by
  unfold State.coolantBack
  repeat' first
    | with_reducible assumption
    | intro _
    | (extract_lets +onlyGivenNames x; (have f : Prop := x); clear f; unfold x; clear x)
    | (extract_lets +onlyGivenNames x; clear_value x)
    | with_reducible apply Kept.ite
    | with_reducible apply State.domainOn_kept
    | with_reducible apply State.forEach_kept
    | with_reducible apply State.stage4_kept
    | (with_reducible apply Kept.mk'; first | with_reducible assumption | (with_reducible apply Kept.mk'; with_reducible assumption) | with_reducible apply State.domainOn_kept | with_reducible apply State.forEach_kept | with_reducible apply State.stage4_kept)

theorem State.coolantGone_kept {s₀ : State} (s : State) (hk : Kept s₀ s) :
    Kept s₀ (State.coolantGone s) := by
  unfold State.coolantGone
  repeat' first
    | with_reducible assumption
    | intro _
    | (extract_lets +onlyGivenNames x; refine Kept.cut (s₀ := s₀) (x := x) ?_ (fun hx => ?_); unfold x; clear x; rotate_left; clear_value x; rotate_right)
    | (extract_lets +onlyGivenNames x; clear_value x)
    | with_reducible apply Kept.ite
    | with_reducible apply State.domainsOffBut_kept
    | with_reducible apply State.forEach_kept
    | with_reducible apply State.raise_kept
    | with_reducible apply State.setStage_kept
    | (with_reducible apply Kept.mk'; first | with_reducible assumption | (with_reducible apply Kept.mk'; with_reducible assumption) | with_reducible apply State.domainsOffBut_kept | with_reducible apply State.forEach_kept | with_reducible apply State.raise_kept | with_reducible apply State.setStage_kept)

theorem State.supplyLost_kept {s₀ : State} (s : State) (hk : Kept s₀ s) :
    Kept s₀ (State.supplyLost s) := by
  unfold State.supplyLost
  repeat' first
    | with_reducible assumption
    | intro _
    | (extract_lets +onlyGivenNames x; (have f : HoldSt := x); clear f; unfold x; clear x)
    | (extract_lets +onlyGivenNames x; refine Kept.cut (s₀ := s₀) (x := x) ?_ (fun hx => ?_); unfold x; clear x; rotate_left; clear_value x; rotate_right)
    | (extract_lets +onlyGivenNames x; clear_value x)
    | with_reducible apply Kept.ite
    | with_reducible apply State.calEnd_kept
    | with_reducible apply State.domainsOffBut_kept
    | with_reducible apply State.escNoLink_kept
    | with_reducible apply State.forEach_kept
    | with_reducible apply State.gdenOff_kept
    | with_reducible apply State.idlePhases_kept
    | with_reducible apply State.persistReduced_kept
    | with_reducible apply State.setNat_kept
    | (with_reducible refine Kept.mkHold ?_ rfl rfl; first | with_reducible assumption | with_reducible apply State.calEnd_kept | with_reducible apply State.domainsOffBut_kept | with_reducible apply State.escNoLink_kept | with_reducible apply State.forEach_kept | with_reducible apply State.gdenOff_kept | with_reducible apply State.idlePhases_kept | with_reducible apply State.persistReduced_kept | with_reducible apply State.setNat_kept)

theorem State.releaseDrives_kept {s₀ : State} (s : State) (hk : Kept s₀ s) :
    Kept s₀ (State.releaseDrives s) := by
  unfold State.releaseDrives
  repeat' first
    | with_reducible assumption
    | intro _
    | (extract_lets +onlyGivenNames x; clear_value x)
    | with_reducible apply State.forEach_kept
    | with_reducible apply State.setStr_kept

theorem State.safePointReached_kept {s₀ : State} (s : State) (hk : Kept s₀ s) :
    Kept s₀ (State.safePointReached s) := by
  unfold State.safePointReached
  repeat' first
    | with_reducible assumption
    | (extract_lets +onlyGivenNames x; refine Kept.cut (s₀ := s₀) (x := x) ?_ (fun hx => ?_); unfold x; clear x; rotate_left; clear_value x; rotate_right)
    | (extract_lets +onlyGivenNames x; clear_value x)
    | with_reducible apply State.setNat_kept
    | with_reducible apply State.shutRecord_kept
    | (with_reducible apply Kept.mk'; first | with_reducible assumption | (with_reducible apply Kept.mk'; with_reducible assumption) | with_reducible apply State.setNat_kept | with_reducible apply State.shutRecord_kept)
    | split

theorem State.feedPresent_kept {s₀ : State} (s : State) (f : Half) (hk : Kept s₀ s) :
    Kept s₀ (State.feedPresent s f) := by
  unfold State.feedPresent
  repeat' first
    | (extract_lets +onlyGivenNames x; clear_value x)
    | with_reducible apply Kept.ite
    | with_reducible apply State.reset__kept
    | (with_reducible apply Kept.mk'; first | with_reducible assumption | (with_reducible apply Kept.mk'; with_reducible assumption) | with_reducible apply State.reset__kept)
    | split

theorem State.setShipRecord_kept {s₀ : State} (s : State) (code n : Nat) (hk : Kept s₀ s) :
    Kept s₀ (State.setShipRecord s code n) := by
  unfold State.setShipRecord
  repeat' first
    | with_reducible assumption
    | with_reducible apply State.setBlob_kept

theorem State.shipAdvance_kept {s₀ : State} (s : State) (hk : Kept s₀ s) :
    Kept s₀ (State.shipAdvance s) := by
  unfold State.shipAdvance
  repeat' first
    | with_reducible assumption
    | (extract_lets +onlyGivenNames x; refine Kept.cut (s₀ := s₀) (x := x) ?_ (fun hx => ?_); unfold x; clear x; rotate_left; clear_value x; rotate_right)
    | (extract_lets +onlyGivenNames x; clear_value x)
    | with_reducible apply Kept.ite
    | with_reducible apply State.escNoLink_kept
    | with_reducible apply State.setNat_kept
    | with_reducible apply State.setShipRecord_kept
    | (with_reducible apply Kept.mk'; first | with_reducible assumption | (with_reducible apply Kept.mk'; with_reducible assumption) | with_reducible apply State.escNoLink_kept | with_reducible apply State.setNat_kept | with_reducible apply State.setShipRecord_kept)

theorem State.shipBegin_kept {s₀ : State} (s : State) (hk : Kept s₀ s) :
    Kept s₀ (State.shipBegin s) := by
  unfold State.shipBegin
  repeat' first
    | with_reducible assumption
    | intro _
    | (extract_lets +onlyGivenNames x; refine Kept.cut (s₀ := s₀) (x := x) ?_ (fun hx => ?_); unfold x; clear x; rotate_left; clear_value x; rotate_right)
    | (extract_lets +onlyGivenNames x; clear_value x)
    | with_reducible apply State.balanceStop_kept
    | with_reducible apply State.forEach_kept
    | with_reducible apply State.persist_kept
    | with_reducible apply State.ringAll_kept
    | with_reducible apply State.setNat_kept
    | with_reducible apply State.setRing_kept
    | with_reducible apply State.setShipRecord_kept
    | with_reducible apply State.shipAdvance_kept
    | (with_reducible apply Kept.mk'; first | with_reducible assumption | (with_reducible apply Kept.mk'; with_reducible assumption) | with_reducible apply State.balanceStop_kept | with_reducible apply State.forEach_kept | with_reducible apply State.persist_kept | with_reducible apply State.ringAll_kept | with_reducible apply State.setNat_kept | with_reducible apply State.setRing_kept | with_reducible apply State.setShipRecord_kept | with_reducible apply State.shipAdvance_kept)

theorem State.shipCancel_kept {s₀ : State} (s : State) (hk : Kept s₀ s) :
    Kept s₀ (State.shipCancel s) := by
  unfold State.shipCancel
  repeat' first
    | with_reducible assumption
    | intro _
    | (extract_lets +onlyGivenNames x; refine Kept.cut (s₀ := s₀) (x := x) ?_ (fun hx => ?_); unfold x; clear x; rotate_left; clear_value x; rotate_right)
    | (extract_lets +onlyGivenNames x; clear_value x)
    | with_reducible apply State.forEach_kept
    | with_reducible apply State.ringRestart_kept
    | with_reducible apply State.setNat_kept
    | with_reducible apply State.setRing_kept
    | with_reducible apply State.setShipRecord_kept
    | (with_reducible apply Kept.mk'; first | with_reducible assumption | (with_reducible apply Kept.mk'; with_reducible assumption) | with_reducible apply State.forEach_kept | with_reducible apply State.ringRestart_kept | with_reducible apply State.setNat_kept | with_reducible apply State.setRing_kept | with_reducible apply State.setShipRecord_kept)

theorem State.wake_kept {s₀ : State} (s : State) (hk : Kept s₀ s) :
    Kept s₀ (State.wake s) := by
  unfold State.wake
  repeat' first
    | with_reducible assumption
    | (extract_lets +onlyGivenNames x; refine Kept.cut (s₀ := s₀) (x := x) ?_ (fun hx => ?_); unfold x; clear x; rotate_left; clear_value x; rotate_right)
    | (extract_lets +onlyGivenNames x; clear_value x)
    | with_reducible apply Kept.ite
    | with_reducible apply State.count_kept
    | with_reducible apply State.reset__kept
    | with_reducible apply State.shipCancel_kept
    | (with_reducible apply Kept.mk'; first | with_reducible assumption | (with_reducible apply Kept.mk'; with_reducible assumption) | with_reducible apply State.count_kept | with_reducible apply State.reset__kept | with_reducible apply State.shipCancel_kept)

theorem State.energiseBegin_kept {s₀ : State} (s : State) (hk : Kept s₀ s) :
    Kept s₀ (State.energiseBegin s) := by
  unfold State.energiseBegin
  repeat' first
    | with_reducible assumption
    | (extract_lets +onlyGivenNames x; refine Kept.cut (s₀ := s₀) (x := x) ?_ (fun hx => ?_); unfold x; clear x; rotate_left; clear_value x; rotate_right)
    | (extract_lets +onlyGivenNames x; clear_value x)
    | with_reducible apply State.setLatch_kept
    | with_reducible apply State.setNat_kept
    | (with_reducible apply Kept.mk'; first | with_reducible assumption | (with_reducible apply Kept.mk'; with_reducible assumption) | with_reducible apply State.setLatch_kept | with_reducible apply State.setNat_kept)
    | split

theorem State.shutBegin_kept {s₀ : State} (s : State) (hk : Kept s₀ s) :
    Kept s₀ (State.shutBegin s) := by
  unfold State.shutBegin
  repeat' first
    | with_reducible assumption
    | intro _
    | (extract_lets +onlyGivenNames x; refine Kept.cut (s₀ := s₀) (x := x) ?_ (fun hx => ?_); unfold x; clear x; rotate_left; clear_value x; rotate_right)
    | (extract_lets +onlyGivenNames x; clear_value x)
    | with_reducible apply State.breakDomain_kept
    | with_reducible apply State.flushPending_kept
    | with_reducible apply State.forEach_kept
    | with_reducible apply State.setNat_kept
    | (with_reducible apply Kept.mk'; first | with_reducible assumption | (with_reducible apply Kept.mk'; with_reducible assumption) | with_reducible apply State.breakDomain_kept | with_reducible apply State.flushPending_kept | with_reducible apply State.forEach_kept | with_reducible apply State.setNat_kept)

theorem State.request_kept {s₀ : State} (s : State) (role : Role) (v : Nat) (hk : Kept s₀ s) :
    Kept s₀ (State.request s role v).2 := by
  unfold State.request
  repeat' first
    | with_reducible assumption
    | (extract_lets +onlyGivenNames x; (have f : Prop := x); clear f; unfold x; clear x)
    | with_reducible apply Kept.ite2
    | with_reducible apply State.energiseBegin_kept
    | with_reducible apply State.flushPending_kept
    | with_reducible apply State.reset__kept
    | with_reducible apply State.shipBegin_kept
    | with_reducible apply State.shutBegin_kept
    | (with_reducible apply Kept.mk'; first | with_reducible assumption | (with_reducible apply Kept.mk'; with_reducible assumption) | with_reducible apply State.energiseBegin_kept | with_reducible apply State.flushPending_kept | with_reducible apply State.reset__kept | with_reducible apply State.shipBegin_kept | with_reducible apply State.shutBegin_kept)
    | split

end Sys2Proof.Machine
end

