-- ==== Sys2Proof/Laws/KeptHoldOps.lean ====
section
/-! SUPPORT. What every operation of Machine/HoldOps.lean keeps: see Kept in Laws/Kept.lean. -/

namespace Sys2Proof.Machine

theorem State.writeLastHold_kept {s₀ : State} (s : State) (winner : Nat) (hk : Kept s₀ s) :
    Kept s₀ (State.writeLastHold s winner) := by
  unfold State.writeLastHold
  repeat' first
    | with_reducible assumption
    | with_reducible apply State.setBlob_kept

theorem State.holdSafe_kept {s₀ : State} (s : State) (hk : Kept s₀ s) :
    Kept s₀ (State.holdSafe s) := by
  unfold State.holdSafe
  repeat' first
    | with_reducible assumption
    | with_reducible apply State.enterSafe_kept
    | with_reducible apply State.writeLastHold_kept

theorem State.enterHold_kept {s₀ : State} (s : State) (cause : Nat) (hk : Kept s₀ s) :
    Kept s₀ (State.enterHold s cause) := by
  unfold State.enterHold
  repeat' first
    | with_reducible assumption
    | (extract_lets +onlyGivenNames x; (have f : HoldSt := x); clear f; unfold x; clear x)
    | (extract_lets +onlyGivenNames x; refine Kept.cut (s₀ := s₀) (x := x) ?_ (fun hx => ?_); unfold x; clear x; rotate_left; clear_value x; rotate_right)
    | (extract_lets +onlyGivenNames x; clear_value x)
    | with_reducible apply Kept.ite
    | with_reducible apply State.calMode_kept
    | with_reducible apply State.exception_kept
    | with_reducible apply State.gdenOff_kept
    | with_reducible apply State.holdSafe_kept
    | with_reducible apply State.latchesOff_kept
    | (with_reducible refine Kept.mkHold ?_ rfl rfl; first | with_reducible assumption | with_reducible apply State.calMode_kept | with_reducible apply State.exception_kept | with_reducible apply State.gdenOff_kept | with_reducible apply State.holdSafe_kept | with_reducible apply State.latchesOf_kept | with_reducible apply State.latchesOff_kept)

theorem State.settle_kept {s₀ : State} (s : State) (hk : Kept s₀ s) :
    Kept s₀ (State.settle s) := by
  unfold State.settle
  repeat' first
    | with_reducible assumption
    | (extract_lets +onlyGivenNames x; (have f : HoldSt := x); clear f; unfold x; clear x)
    | (extract_lets +onlyGivenNames x; refine Kept.cut (s₀ := s₀) (x := x) ?_ (fun hx => ?_); unfold x; clear x; rotate_left; clear_value x; rotate_right)
    | (extract_lets +onlyGivenNames x; clear_value x)
    | with_reducible apply State.calMode_kept
    | with_reducible apply State.count_kept
    | with_reducible apply State.openRecovery_kept
    | with_reducible apply State.startPhases_kept
    | with_reducible apply State.writeLastHold_kept
    | with_reducible apply State.zeroLoop_kept
    | (with_reducible refine Kept.mkHold ?_ rfl rfl; first | with_reducible assumption | with_reducible apply State.calMode_kept | with_reducible apply State.count_kept | with_reducible apply State.openRecovery_kept | with_reducible apply State.startPhases_kept | with_reducible apply State.writeLastHold_kept | with_reducible apply State.zeroLoop_kept)

theorem State.holdExchange_kept {s₀ : State} (s : State) (hk : Kept s₀ s) :
    Kept s₀ (State.holdExchange s) := by
  unfold State.holdExchange
  repeat' first
    | with_reducible assumption
    | (extract_lets +onlyGivenNames x; (have f : HoldSt := x); clear f; unfold x; clear x)
    | with_reducible apply Kept.ite
    | (with_reducible refine Kept.mkHold ?_ rfl rfl; first | with_reducible assumption)

theorem State.holdWin_kept {s₀ : State} (s : State) (hk : Kept s₀ s) :
    Kept s₀ (State.holdWin s) := by
  unfold State.holdWin
  repeat' first
    | with_reducible assumption
    | (extract_lets +onlyGivenNames x; (have f : HoldSt := x); clear f; unfold x; clear x)
    | (extract_lets +onlyGivenNames x; refine Kept.cut (s₀ := s₀) (x := x) ?_ (fun hx => ?_); unfold x; clear x; rotate_left; clear_value x; rotate_right)
    | with_reducible apply Kept.ite
    | with_reducible apply State.setLatch_kept
    | (with_reducible refine Kept.mkHold ?_ rfl rfl; first | with_reducible assumption | with_reducible apply State.setLatch_kept)
    | split

theorem State.holdFallback_kept {s₀ : State} (s : State) (hk : Kept s₀ s) :
    Kept s₀ (State.holdFallback s) := by
  unfold State.holdFallback
  repeat' first
    | with_reducible assumption
    | (extract_lets +onlyGivenNames x; (have f : HoldSt := x); clear f; unfold x; clear x)
    | (extract_lets +onlyGivenNames x; refine Kept.cut (s₀ := s₀) (x := x) ?_ (fun hx => ?_); unfold x; clear x; rotate_left; clear_value x; rotate_right)
    | with_reducible apply Kept.ite
    | with_reducible apply State.setLatch_kept
    | (with_reducible refine Kept.mkHold ?_ rfl rfl; first | with_reducible assumption | with_reducible apply State.setLatch_kept)
    | split

theorem State.holdExpire_kept {s₀ : State} (s : State) (hk : Kept s₀ s) :
    Kept s₀ (State.holdExpire s) := by
  unfold State.holdExpire
  repeat' first
    | with_reducible assumption
    | with_reducible apply Kept.ite
    | with_reducible apply State.holdSafe_kept

theorem State.dieLinkFault_kept {s₀ : State} (s : State) (d : Nat) (hk : Kept s₀ s) :
    Kept s₀ (State.dieLinkFault s d) := by
  unfold State.dieLinkFault
  repeat' first
    | with_reducible assumption
    | (extract_lets +onlyGivenNames x; refine Kept.cut (s₀ := s₀) (x := x) ?_ (fun hx => ?_); unfold x; clear x; rotate_left; clear_value x; rotate_right)
    | with_reducible apply Kept.ite
    | with_reducible apply State.dieLinkDown_kept
    | with_reducible apply State.raise_kept

theorem State.dieLinkBack_kept {s₀ : State} (s : State) (d : Nat) (hk : Kept s₀ s) :
    Kept s₀ (State.dieLinkBack s d) := by
  unfold State.dieLinkBack
  repeat' first
    | with_reducible assumption
    | (extract_lets +onlyGivenNames x; (have f : HoldSt := x); clear f; unfold x; clear x)
    | (extract_lets +onlyGivenNames x; refine Kept.cut (s₀ := s₀) (x := x) ?_ (fun hx => ?_); unfold x; clear x; rotate_left; clear_value x; rotate_right)
    | (extract_lets +onlyGivenNames x; clear_value x)
    | with_reducible apply Kept.ite
    | with_reducible apply State.linkState_kept
    | (with_reducible refine Kept.mkHold ?_ rfl rfl; first | with_reducible assumption | with_reducible apply State.linkState_kept)

theorem State.channelFault_kept {s₀ : State} (s : State) (c : Nat) (hk : Kept s₀ s) :
    Kept s₀ (State.channelFault s c) := by
  unfold State.channelFault
  repeat' first
    | with_reducible assumption
    | with_reducible apply Kept.ite
    | with_reducible apply State.channelDown_kept
    | with_reducible apply State.dieLinkFault_kept
    | with_reducible apply State.raise_kept

theorem State.channelBack_kept {s₀ : State} (s : State) (c : Nat) (hk : Kept s₀ s) :
    Kept s₀ (State.channelBack s c) := by
  unfold State.channelBack
  repeat' first
    | with_reducible assumption
    | intro _
    | (extract_lets +onlyGivenNames x; (have f : HoldSt := x); clear f; unfold x; clear x)
    | (extract_lets +onlyGivenNames x; refine Kept.cut (s₀ := s₀) (x := x) ?_ (fun hx => ?_); unfold x; clear x; rotate_left; clear_value x; rotate_right)
    | (extract_lets +onlyGivenNames x; clear_value x)
    | with_reducible apply Kept.ite
    | with_reducible apply State.dieLinkBack_kept
    | with_reducible apply State.forEach_kept
    | with_reducible apply State.openRecovery_kept
    | with_reducible apply State.setNat_kept
    | (with_reducible refine Kept.mkHold ?_ rfl rfl; first | with_reducible assumption | with_reducible apply State.dieLinkBack_kept | with_reducible apply State.forEach_kept | with_reducible apply State.openRecovery_kept | with_reducible apply State.setNat_kept)

end Sys2Proof.Machine
end

