-- ==== Sys2Proof/Laws/KeptLife.lean ====
section
/-! SUPPORT. What every operation of Machine/Life.lean keeps: see Kept in Laws/Kept.lean. -/

namespace Sys2Proof.Machine

theorem State.feedEvent_kept {s₀ : State} (s : State) (f : Nat) (hk : Kept s₀ s) :
    Kept s₀ (State.feedEvent s f) := by
  unfold State.feedEvent
  repeat' first
    | with_reducible assumption
    | with_reducible apply Kept.ite
    | with_reducible apply State.event_kept

theorem State.oneFeedLost_kept {s₀ : State} (s : State) (f : Half) (hk : Kept s₀ s) :
    Kept s₀ (State.oneFeedLost s f) := by
  unfold State.oneFeedLost
  repeat' first
    | with_reducible assumption
    | (extract_lets +onlyGivenNames x; clear_value x)
    | with_reducible apply Kept.ite
    | with_reducible apply State.feedEvent_kept
    | (with_reducible apply Kept.mk'; first | with_reducible assumption | (with_reducible apply Kept.mk'; with_reducible assumption) | with_reducible apply State.feedEvent_kept)
    | split

theorem State.supplyRelease_kept {s₀ : State} (s : State) (hk : Kept s₀ s) :
    Kept s₀ (State.supplyRelease s) := by
  unfold State.supplyRelease
  repeat' first
    | with_reducible assumption
    | with_reducible apply Kept.ite
    | with_reducible apply State.releaseDrives_kept
    | split

theorem State.supplyRestart_kept {s₀ : State} (s : State) (hk : Kept s₀ s) :
    Kept s₀ (State.supplyRestart s) := by
  unfold State.supplyRestart
  repeat' first
    | with_reducible assumption
    | with_reducible apply Kept.ite
    | with_reducible apply State.reset__kept
    | split

theorem State.shelfReset_kept {s₀ : State} (s : State) (hk : Kept s₀ s) :
    Kept s₀ (State.shelfReset s) := by
  unfold State.shelfReset
  repeat' first
    | with_reducible assumption
    | (extract_lets +onlyGivenNames x; refine Kept.cut (s₀ := s₀) (x := x) ?_ (fun hx => ?_); unfold x; clear x; rotate_left; clear_value x; rotate_right)
    | (extract_lets +onlyGivenNames x; clear_value x)
    | with_reducible apply Kept.ite
    | with_reducible apply State.reset__kept
    | (with_reducible apply Kept.mk'; first | with_reducible assumption | (with_reducible apply Kept.mk'; with_reducible assumption) | with_reducible apply State.reset__kept)

theorem State.shelfRise_kept {s₀ : State} (s : State) (hk : Kept s₀ s) :
    Kept s₀ (State.shelfRise s) := by
  unfold State.shelfRise
  repeat' first
    | with_reducible assumption
    | (extract_lets +onlyGivenNames x; clear_value x)
    | with_reducible apply Kept.ite
    | (with_reducible apply Kept.mk'; first | with_reducible assumption | (with_reducible apply Kept.mk'; with_reducible assumption))

theorem State.protTrip_kept {s₀ : State} (s : State) (hk : Kept s₀ s) :
    Kept s₀ (State.protTrip s) := by
  unfold State.protTrip
  repeat' first
    | with_reducible assumption
    | (extract_lets +onlyGivenNames x; refine Kept.cut (s₀ := s₀) (x := x) ?_ (fun hx => ?_); unfold x; clear x; rotate_left; clear_value x; rotate_right)
    | (extract_lets +onlyGivenNames x; clear_value x)
    | with_reducible apply Kept.ite
    | with_reducible apply State.raise_kept
    | (with_reducible apply Kept.mk'; first | with_reducible assumption | (with_reducible apply Kept.mk'; with_reducible assumption) | with_reducible apply State.raise_kept)

theorem State.discreteUpdate_kept {s₀ : State} (s : State) (gdLow : Nat) (protLow : Bool) (hk : Kept s₀ s) :
    Kept s₀ (State.discreteUpdate s gdLow protLow) := by
  unfold State.discreteUpdate
  repeat' first
    | with_reducible assumption
    | (extract_lets +onlyGivenNames x; refine Kept.cut (s₀ := s₀) (x := x) ?_ (fun hx => ?_); unfold x; clear x; rotate_left; clear_value x; rotate_right)
    | (extract_lets +onlyGivenNames x; clear_value x)
    | with_reducible apply Kept.ite
    | with_reducible apply State.setNat_kept
    | (with_reducible apply Kept.mk'; first | with_reducible assumption | (with_reducible apply Kept.mk'; with_reducible assumption) | with_reducible apply State.setNat_kept)

theorem State.cageRead_kept {s₀ : State} (s : State) (cage : Nat) (optical active : Bool) (mw : Nat) (hk : Kept s₀ s) :
    Kept s₀ (State.cageRead s cage optical active mw) := by
  unfold State.cageRead
  repeat' first
    | with_reducible assumption
    | intro _
    | (extract_lets +onlyGivenNames x; (have f : Prop := x); clear f; unfold x; clear x)
    | (extract_lets +onlyGivenNames x; refine Kept.cut (s₀ := s₀) (x := x) ?_ (fun hx => ?_); unfold x; clear x; rotate_left; clear_value x; rotate_right)
    | (extract_lets +onlyGivenNames x; clear_value x)
    | with_reducible apply Kept.ite
    | with_reducible apply State.forEach_kept
    | with_reducible apply State.laneDrop_kept
    | with_reducible apply State.laneStart_kept
    | with_reducible apply State.raise_kept
    | with_reducible apply State.setLane_kept
    | (with_reducible apply Kept.mk'; first | with_reducible assumption | (with_reducible apply Kept.mk'; with_reducible assumption) | with_reducible apply State.forEach_kept | with_reducible apply State.laneDrop_kept | with_reducible apply State.laneStart_kept | with_reducible apply State.raise_kept | with_reducible apply State.setLane_kept)

theorem State.aliveToggle_kept {s₀ : State} (s : State) (h : Nat) (hk : Kept s₀ s) :
    Kept s₀ (State.aliveToggle s h) := by
  unfold State.aliveToggle
  repeat' first
    | with_reducible assumption
    | (extract_lets +onlyGivenNames x; clear_value x)
    | with_reducible apply Kept.ite
    | with_reducible apply State.raise_kept
    | (with_reducible apply Kept.mk'; first | with_reducible assumption | (with_reducible apply Kept.mk'; with_reducible assumption) | with_reducible apply State.raise_kept)

theorem State.aliveTimeout_kept {s₀ : State} (s : State) (h : Nat) (hk : Kept s₀ s) :
    Kept s₀ (State.aliveTimeout s h) := by
  unfold State.aliveTimeout
  repeat' first
    | with_reducible assumption
    | with_reducible apply Kept.ite
    | with_reducible apply State.halfLost_kept

theorem State.levelReport_kept {s₀ : State} (s : State) (h : Nat) (hk : Kept s₀ s) :
    Kept s₀ (State.levelReport s h) := by
  unfold State.levelReport
  repeat' first
    | with_reducible assumption
    | with_reducible apply Kept.ite
    | with_reducible apply State.halfLost_kept

theorem State.crossSilence_kept {s₀ : State} (s : State) (hk : Kept s₀ s) :
    Kept s₀ (State.crossSilence s) := by
  unfold State.crossSilence
  repeat' first
    | with_reducible assumption
    | with_reducible apply Kept.ite
    | with_reducible apply State.raise_kept

theorem State.oscLost_kept {s₀ : State} (s : State) (h : Nat) (hk : Kept s₀ s) :
    Kept s₀ (State.oscLost s h) := by
  unfold State.oscLost
  repeat' first
    | with_reducible assumption
    | (extract_lets +onlyGivenNames x; refine Kept.cut (s₀ := s₀) (x := x) ?_ (fun hx => ?_); unfold x; clear x; rotate_left; clear_value x; rotate_right)
    | (extract_lets +onlyGivenNames x; clear_value x)
    | with_reducible apply Kept.ite
    | with_reducible apply State.raise_kept
    | (with_reducible apply Kept.mk'; first | with_reducible assumption | (with_reducible apply Kept.mk'; with_reducible assumption) | with_reducible apply State.raise_kept)

theorem State.keepReq_kept {s₀ : State} (s : State) (d k : Nat) (hk : Kept s₀ s) :
    Kept s₀ (State.keepReq s d k) := by
  unfold State.keepReq
  repeat' first
    | (extract_lets +onlyGivenNames x; clear_value x)
    | (with_reducible apply Kept.mk'; first | with_reducible assumption | (with_reducible apply Kept.mk'; with_reducible assumption))

theorem State.domainRequestOn_kept {s₀ : State} (s : State) (d : Nat) (hk : Kept s₀ s) :
    Kept s₀ (State.domainRequestOn s d) := by
  unfold State.domainRequestOn
  repeat' first
    | with_reducible assumption
    | with_reducible apply Kept.ite
    | with_reducible apply State.domainOn_kept
    | with_reducible apply State.keepReq_kept

theorem State.domainRequestOff_kept {s₀ : State} (s : State) (d : Nat) (fault : Bool) (hk : Kept s₀ s) :
    Kept s₀ (State.domainRequestOff s d fault) := by
  unfold State.domainRequestOff
  repeat' first
    | with_reducible assumption
    | with_reducible apply Kept.ite
    | with_reducible apply State.domainOff_kept
    | with_reducible apply State.keepReq_kept

theorem State.powerGoodLate_kept {s₀ : State} (s : State) (d : Nat) (hk : Kept s₀ s) :
    Kept s₀ (State.powerGoodLate s d) := by
  unfold State.powerGoodLate
  repeat' first
    | with_reducible assumption
    | (extract_lets +onlyGivenNames x; refine Kept.cut (s₀ := s₀) (x := x) ?_ (fun hx => ?_); unfold x; clear x; rotate_left; clear_value x; rotate_right)
    | (extract_lets +onlyGivenNames x; clear_value x)
    | with_reducible apply Kept.ite
    | with_reducible apply State.leftOff_kept
    | with_reducible apply State.stopRail_kept

theorem State.outOfRegulation_kept {s₀ : State} (s : State) (d : Nat) (hk : Kept s₀ s) :
    Kept s₀ (State.outOfRegulation s d) := by
  unfold State.outOfRegulation
  repeat' first
    | with_reducible assumption
    | with_reducible apply Kept.ite
    | with_reducible apply State.domainOff_kept
    | with_reducible apply State.raise_kept

theorem State.bootLate_kept {s₀ : State} (s : State) (hk : Kept s₀ s) :
    Kept s₀ (State.bootLate s) := by
  unfold State.bootLate
  repeat' first
    | with_reducible assumption
    | (extract_lets +onlyGivenNames x; (have f : Prop := x); clear f; unfold x; clear x)
    | (extract_lets +onlyGivenNames x; (have f := fun a => x a); clear f; unfold x; clear x; dsimp -zeta -failIfUnchanged only)
    | (extract_lets +onlyGivenNames x; clear_value x)
    | with_reducible apply Kept.ite
    | with_reducible apply State.bootFail_kept

theorem State.bootAgain_kept {s₀ : State} (s : State) (hk : Kept s₀ s) :
    Kept s₀ (State.bootAgain s) := by
  unfold State.bootAgain
  repeat' first
    | with_reducible assumption
    | with_reducible apply Kept.ite
    | with_reducible apply State.domainOn_kept
    | with_reducible apply State.reset__kept
    | split

theorem State.answerLate_kept {s₀ : State} (s : State) (hk : Kept s₀ s) :
    Kept s₀ (State.answerLate s) := by
  unfold State.answerLate
  repeat' first
    | with_reducible assumption
    | with_reducible apply Kept.ite
    | with_reducible apply State.failEnergise_kept

theorem State.softLate_kept {s₀ : State} (s : State) (hk : Kept s₀ s) :
    Kept s₀ (State.softLate s) := by
  unfold State.softLate
  repeat' first
    | with_reducible assumption
    | with_reducible apply Kept.ite
    | with_reducible apply State.failEnergise_kept

theorem State.busLate_kept {s₀ : State} (s : State) (hk : Kept s₀ s) :
    Kept s₀ (State.busLate s) := by
  unfold State.busLate
  repeat' first
    | with_reducible assumption
    | (extract_lets +onlyGivenNames x; clear_value x)
    | with_reducible apply Kept.ite
    | with_reducible apply State.raise_kept
    | with_reducible apply State.shutRecord_kept

end Sys2Proof.Machine
end

