-- ==== Sys2Proof/Laws/KeptConverter.lean ====
section
/-! SUPPORT. What every operation of Machine/Converter.lean keeps: see Kept in Laws/Kept.lean. -/

namespace Sys2Proof.Machine

theorem State.clampValley_kept {s₀ : State} (s : State) (k : Nat) (hk : Kept s₀ s) :
    Kept s₀ (State.clampValley s k) := by
  unfold State.clampValley
  repeat' first
    | with_reducible assumption
    | (extract_lets +onlyGivenNames x; (have f : Prop := x); clear f; unfold x; clear x)
    | (extract_lets +onlyGivenNames x; refine Kept.cut (s₀ := s₀) (x := x) ?_ (fun hx => ?_); unfold x; clear x; rotate_left; clear_value x; rotate_right)
    | (extract_lets +onlyGivenNames x; clear_value x)
    | with_reducible apply Kept.ite
    | with_reducible apply State.reserveInput_kept
    | with_reducible apply State.setNat_kept
    | (with_reducible apply Kept.mk'; first | with_reducible assumption | (with_reducible apply Kept.mk'; with_reducible assumption) | with_reducible apply State.reserveInput_kept | with_reducible apply State.setNat_kept)

theorem State.pwmLoad_kept {s₀ : State} (s : State) (n : Nat) (valley : Bool) (hk : Kept s₀ s) :
    Kept s₀ (State.pwmLoad s n valley) := by
  unfold State.pwmLoad
  repeat' first
    | with_reducible assumption
    | (extract_lets +onlyGivenNames x; clear_value x)
    | with_reducible apply State.setPhase_kept

theorem State.pwmValley_kept {s₀ : State} (s : State) (n : Nat) (hk : Kept s₀ s) :
    Kept s₀ (State.pwmValley s n) := by
  unfold State.pwmValley
  repeat' first
    | with_reducible assumption
    | (extract_lets +onlyGivenNames x; refine Kept.cut (s₀ := s₀) (x := x) ?_ (fun hx => ?_); unfold x; clear x; rotate_left; clear_value x; rotate_right)
    | (extract_lets +onlyGivenNames x; clear_value x)
    | with_reducible apply Kept.ite
    | with_reducible apply State.clampValley_kept
    | with_reducible apply State.idlePhase_kept
    | with_reducible apply State.interleave_kept
    | with_reducible apply State.setInst_kept
    | with_reducible apply State.setPhase_kept
    | (with_reducible apply Kept.mk'; first | with_reducible assumption | (with_reducible apply Kept.mk'; with_reducible assumption) | with_reducible apply State.clampValley_kept | with_reducible apply State.idlePhase_kept | with_reducible apply State.interleave_kept | with_reducible apply State.setInst_kept | with_reducible apply State.setPhase_kept)

theorem State.pwmHalf_kept {s₀ : State} (s : State) (n : Nat) (valley : Bool) (hk : Kept s₀ s) :
    Kept s₀ (State.pwmHalf s n valley) := by
  unfold State.pwmHalf
  repeat' first
    | with_reducible assumption
    | (extract_lets +onlyGivenNames x; refine Kept.cut (s₀ := s₀) (x := x) ?_ (fun hx => ?_); unfold x; clear x; rotate_left; clear_value x; rotate_right)
    | with_reducible apply Kept.ite
    | with_reducible apply State.pwmLoad_kept
    | with_reducible apply State.pwmValley_kept

theorem State.clampAssert_kept {s₀ : State} (s : State) (hk : Kept s₀ s) :
    Kept s₀ (State.clampAssert s) := by
  unfold State.clampAssert
  repeat' first
    | with_reducible assumption
    | (extract_lets +onlyGivenNames x; clear_value x)
    | with_reducible apply Kept.ite
    | with_reducible apply State.reserveInput_kept
    | with_reducible apply State.setNat_kept
    | (with_reducible apply Kept.mk'; first | with_reducible assumption | (with_reducible apply Kept.mk'; with_reducible assumption) | with_reducible apply State.reserveInput_kept | with_reducible apply State.setNat_kept)

theorem State.reserveEnd_kept {s₀ : State} (s : State) (hk : Kept s₀ s) :
    Kept s₀ (State.reserveEnd s) := by
  unfold State.reserveEnd
  repeat' first
    | with_reducible assumption
    | (extract_lets +onlyGivenNames x; clear_value x)
    | with_reducible apply Kept.ite
    | (with_reducible apply Kept.mk'; first | with_reducible assumption | (with_reducible apply Kept.mk'; with_reducible assumption))
    | split

theorem State.phaseShed_kept {s₀ : State} (s : State) (k : Nat) (hk : Kept s₀ s) :
    Kept s₀ (State.phaseShed s k) := by
  unfold State.phaseShed
  repeat' first
    | with_reducible assumption
    | (extract_lets +onlyGivenNames x; refine Kept.cut (s₀ := s₀) (x := x) ?_ (fun hx => ?_); unfold x; clear x; rotate_left; clear_value x; rotate_right)
    | (extract_lets +onlyGivenNames x; clear_value x)
    | with_reducible apply Kept.ite
    | with_reducible apply State.count_kept
    | with_reducible apply State.setPhase_kept
    | (with_reducible apply Kept.mk'; first | with_reducible assumption | (with_reducible apply Kept.mk'; with_reducible assumption) | with_reducible apply State.count_kept | with_reducible apply State.setPhase_kept)
    | split

theorem State.dropString_kept {s₀ : State} (s : State) (k : Nat) (wait : Bool) (lock : Nat) (hk : Kept s₀ s) :
    Kept s₀ (State.dropString s k wait lock) := by
  unfold State.dropString
  repeat' first
    | with_reducible assumption
    | (extract_lets +onlyGivenNames x; refine Kept.cut (s₀ := s₀) (x := x) ?_ (fun hx => ?_); unfold x; clear x; rotate_left; clear_value x; rotate_right)
    | with_reducible apply Kept.ite
    | with_reducible apply State.openFor_kept
    | with_reducible apply State.refreshClamps_kept
    | with_reducible apply State.updateShares_kept

theorem State.relogged_kept {s₀ : State} (before s : State) (cause detail : Nat) (hk : Kept s₀ s) :
    Kept s₀ (State.relogged before s cause detail) := by
  unfold State.relogged
  repeat' first
    | with_reducible assumption
    | (extract_lets +onlyGivenNames x; clear_value x)
    | with_reducible apply Kept.ite
    | with_reducible apply State.failEnergise_kept
    | (with_reducible apply Kept.mk'; first | with_reducible assumption | (with_reducible apply Kept.mk'; with_reducible assumption) | with_reducible apply State.failEnergise_kept)

theorem State.connectFault_kept {s₀ : State} (s : State) (k cause : Nat) (hk : Kept s₀ s) :
    Kept s₀ (State.connectFault s k cause) := by
  unfold State.connectFault
  repeat' first
    | with_reducible assumption
    | (extract_lets +onlyGivenNames x; refine Kept.cut (s₀ := s₀) (x := x) ?_ (fun hx => ?_); unfold x; clear x; rotate_left; clear_value x; rotate_right)
    | with_reducible apply Kept.ite
    | with_reducible apply State.connectAbort_kept
    | with_reducible apply State.raise_kept
    | with_reducible apply State.relogged_kept

theorem State.goConnect_kept {s₀ : State} (s : State) (hk : Kept s₀ s) :
    Kept s₀ (State.goConnect s) := by
  unfold State.goConnect
  repeat' first
    | with_reducible assumption
    | (extract_lets +onlyGivenNames x; refine Kept.cut (s₀ := s₀) (x := x.2.2) ?_ (fun hx => ?_); unfold x; clear x; rotate_left; clear_value x; rotate_right)
    | with_reducible apply Kept.ite
    | with_reducible apply State.connectFault_kept
    | with_reducible apply State.connectNext_kept

theorem State.weld_kept {s₀ : State} (s : State) (k : Nat) (hk : Kept s₀ s) :
    Kept s₀ (State.weld s k) := by
  unfold State.weld
  repeat' first
    | with_reducible assumption
    | (extract_lets +onlyGivenNames x; refine Kept.cut (s₀ := s₀) (x := x) ?_ (fun hx => ?_); unfold x; clear x; rotate_left; clear_value x; rotate_right)
    | with_reducible apply Kept.ite
    | with_reducible apply State.calOpened_kept
    | with_reducible apply State.lockWelded_kept
    | with_reducible apply State.raise_kept
    | with_reducible apply State.relogged_kept

theorem State.cbcCut_kept {s₀ : State} (s : State) (n : Nat) (positive : Bool) (hk : Kept s₀ s) :
    Kept s₀ (State.cbcCut s n positive) := by
  unfold State.cbcCut
  repeat' first
    | with_reducible assumption
    | (extract_lets +onlyGivenNames x; refine Kept.cut (s₀ := s₀) (x := x) ?_ (fun hx => ?_); unfold x; clear x; rotate_left; clear_value x; rotate_right)
    | (extract_lets +onlyGivenNames x; clear_value x)
    | with_reducible apply Kept.ite
    | with_reducible apply State.count_kept
    | with_reducible apply State.event_kept
    | with_reducible apply State.setPhase_kept

theorem State.persistentLimit_kept {s₀ : State} (s : State) (n : Nat) (hk : Kept s₀ s) :
    Kept s₀ (State.persistentLimit s n) := by
  unfold State.persistentLimit
  repeat' first
    | with_reducible assumption
    | (extract_lets +onlyGivenNames x; refine Kept.cut (s₀ := s₀) (x := x) ?_ (fun hx => ?_); unfold x; clear x; rotate_left; clear_value x; rotate_right)
    | (extract_lets +onlyGivenNames x; clear_value x)
    | with_reducible apply Kept.ite
    | with_reducible apply State.faultPhase_kept
    | with_reducible apply State.raise_kept
    | with_reducible apply State.refreshClamps_kept

theorem State.connectCause9_kept {s₀ : State} (s : State) (k : Nat) (was : Conn) (hk : Kept s₀ s) :
    Kept s₀ (State.connectCause9 s k was) := by
  unfold State.connectCause9
  repeat' first
    | with_reducible assumption
    | (extract_lets +onlyGivenNames x; refine Kept.cut (s₀ := s₀) (x := x) ?_ (fun hx => ?_); unfold x; clear x; rotate_left; clear_value x; rotate_right)
    | with_reducible apply Kept.ite
    | with_reducible apply State.connectResult_kept
    | with_reducible apply State.goConnect_kept
    | with_reducible apply State.raise_kept

theorem State.stringOver_kept {s₀ : State} (s : State) (k : Nat) (hk : Kept s₀ s) :
    Kept s₀ (State.stringOver s k) := by
  unfold State.stringOver
  repeat' first
    | with_reducible assumption
    | (extract_lets +onlyGivenNames x; refine Kept.cut (s₀ := s₀) (x := x) ?_ (fun hx => ?_); unfold x; clear x; rotate_left; clear_value x; rotate_right)
    | (extract_lets +onlyGivenNames x; clear_value x)
    | with_reducible apply Kept.ite
    | with_reducible apply State.connectCause9_kept
    | with_reducible apply State.dropString_kept
    | with_reducible apply State.raise_kept

theorem State.busOver_kept {s₀ : State} (s : State) (ch : Nat) (hk : Kept s₀ s) :
    Kept s₀ (State.busOver s ch) := by
  unfold State.busOver
  repeat' first
    | with_reducible assumption
    | (extract_lets +onlyGivenNames x; refine Kept.cut (s₀ := s₀) (x := x) ?_ (fun hx => ?_); unfold x; clear x; rotate_left; clear_value x; rotate_right)
    | with_reducible apply Kept.ite
    | with_reducible apply State.gdenOff_kept
    | with_reducible apply State.raise_kept

theorem State.busUnder_kept {s₀ : State} (s : State) (hk : Kept s₀ s) :
    Kept s₀ (State.busUnder s) := by
  unfold State.busUnder
  repeat' first
    | with_reducible assumption
    | (extract_lets +onlyGivenNames x; refine Kept.cut (s₀ := s₀) (x := x) ?_ (fun hx => ?_); unfold x; clear x; rotate_left; clear_value x; rotate_right)
    | (extract_lets +onlyGivenNames x; clear_value x)
    | with_reducible apply Kept.ite
    | with_reducible apply State.connectFault_kept
    | with_reducible apply State.gdenOff_kept
    | with_reducible apply State.raise_kept
    | with_reducible apply State.relogged_kept
    | split

theorem State.gateDriver_kept {s₀ : State} (s : State) (b : Nat) (hk : Kept s₀ s) :
    Kept s₀ (State.gateDriver s b) := by
  unfold State.gateDriver
  repeat' first
    | with_reducible assumption
    | intro _
    | (extract_lets +onlyGivenNames x; refine Kept.cut (s₀ := s₀) (x := x) ?_ (fun hx => ?_); unfold x; clear x; rotate_left; clear_value x; rotate_right)
    | (extract_lets +onlyGivenNames x; clear_value x)
    | with_reducible apply Kept.ite
    | with_reducible apply State.faultPhase_kept
    | with_reducible apply State.forEach_kept
    | with_reducible apply State.raise_kept
    | with_reducible apply State.refreshClamps_kept
    | (with_reducible apply Kept.mk'; first | with_reducible assumption | (with_reducible apply Kept.mk'; with_reducible assumption) | with_reducible apply State.faultPhase_kept | with_reducible apply State.forEach_kept | with_reducible apply State.raise_kept | with_reducible apply State.refreshClamps_kept)

theorem State.streamFaulted_kept {s₀ : State} (s : State) (c : Nat) (hk : Kept s₀ s) :
    Kept s₀ (State.streamFaulted s c) := by
  unfold State.streamFaulted
  repeat' first
    | with_reducible assumption
    | (extract_lets +onlyGivenNames x; refine Kept.cut (s₀ := s₀) (x := x) ?_ (fun hx => ?_); unfold x; clear x; rotate_left; clear_value x; rotate_right)
    | (extract_lets +onlyGivenNames x; clear_value x)
    | with_reducible apply Kept.ite
    | with_reducible apply State.connectCause9_kept
    | with_reducible apply State.count_kept
    | with_reducible apply State.dropString_kept
    | with_reducible apply State.faultPhase_kept
    | with_reducible apply State.gdenOff_kept
    | with_reducible apply State.raise_kept
    | with_reducible apply State.refreshClamps_kept
    | (with_reducible apply Kept.mk'; first | with_reducible assumption | (with_reducible apply Kept.mk'; with_reducible assumption) | with_reducible apply State.connectCause9_kept | with_reducible apply State.count_kept | with_reducible apply State.dropString_kept | with_reducible apply State.faultPhase_kept | with_reducible apply State.gdenOff_kept | with_reducible apply State.raise_kept | with_reducible apply State.refreshClamps_kept)

theorem State.phaseClear_kept {s₀ : State} (s : State) (n : Nat) (hk : Kept s₀ s) :
    Kept s₀ (State.phaseClear s n).2 := by
  unfold State.phaseClear
  repeat' first
    | with_reducible assumption
    | (extract_lets +onlyGivenNames x; (have f : Prop := x); clear f; unfold x; clear x)
    | (extract_lets +onlyGivenNames x; refine Kept.cut (s₀ := s₀) (x := x) ?_ (fun hx => ?_); unfold x; clear x; rotate_left; clear_value x; rotate_right)
    | (extract_lets +onlyGivenNames x; clear_value x)
    | with_reducible apply Kept.ite
    | with_reducible apply Kept.ite2
    | with_reducible apply State.refreshClamps_kept
    | with_reducible apply State.setPhase_kept
    | (with_reducible apply Kept.mk'; first | with_reducible assumption | (with_reducible apply Kept.mk'; with_reducible assumption) | with_reducible apply State.refreshClamps_kept | with_reducible apply State.setPhase_kept)

theorem State.muxExpire_kept {s₀ : State} (s : State) (hk : Kept s₀ s) :
    Kept s₀ (State.muxExpire s) := by
  unfold State.muxExpire
  repeat' first
    | with_reducible assumption
    | (extract_lets +onlyGivenNames x; clear_value x)
    | with_reducible apply Kept.ite
    | (with_reducible apply Kept.mk'; first | with_reducible assumption | (with_reducible apply Kept.mk'; with_reducible assumption))

theorem State.muxChange_kept {s₀ : State} (s : State) (hk : Kept s₀ s) :
    Kept s₀ (State.muxChange s) := by
  unfold State.muxChange
  repeat' first
    | (extract_lets +onlyGivenNames x; clear_value x)
    | (with_reducible apply Kept.mk'; first | with_reducible assumption | (with_reducible apply Kept.mk'; with_reducible assumption))

theorem State.connectStep_kept {s₀ : State} (s : State) (k : Nat) (c : Contactor) (hk : Kept s₀ s) :
    Kept s₀ (State.connectStep s k c) := by
  unfold State.connectStep
  repeat' first
    | with_reducible assumption
    | (extract_lets +onlyGivenNames x; clear_value x)
    | with_reducible apply State.connectDone_kept
    | with_reducible apply State.driveClosed_kept
    | with_reducible apply State.goConnect_kept
    | with_reducible apply State.setStr_kept
    | split

theorem State.joinString_kept {s₀ : State} (s : State) (k : Nat) (hk : Kept s₀ s) :
    Kept s₀ (State.joinString s k) := by
  unfold State.joinString
  repeat' first
    | with_reducible assumption
    | intro _
    | (extract_lets +onlyGivenNames x; refine Kept.cut (s₀ := s₀) (x := x) ?_ (fun hx => ?_); unfold x; clear x; rotate_left; clear_value x; rotate_right)
    | (extract_lets +onlyGivenNames x; clear_value x)
    | with_reducible apply Kept.ite
    | with_reducible apply State.forEach_kept
    | with_reducible apply State.refreshClamps_kept
    | with_reducible apply State.setPhase_kept
    | with_reducible apply State.setRing_kept
    | with_reducible apply State.updateShares_kept
    | (with_reducible apply Kept.mk'; first | with_reducible assumption | (with_reducible apply Kept.mk'; with_reducible assumption) | with_reducible apply State.forEach_kept | with_reducible apply State.refreshClamps_kept | with_reducible apply State.setPhase_kept | with_reducible apply State.setRing_kept | with_reducible apply State.updateShares_kept)

theorem State.feedbackChange_kept {s₀ : State} (s : State) (k : Nat) (c : Contactor) (closed : Bool) (hk : Kept s₀ s) :
    Kept s₀ (State.feedbackChange s k c closed) := by
  unfold State.feedbackChange
  repeat' first
    | with_reducible assumption
    | (extract_lets +onlyGivenNames x; refine Kept.cut (s₀ := s₀) (x := x) ?_ (fun hx => ?_); unfold x; clear x; rotate_left; clear_value x; rotate_right)
    | (extract_lets +onlyGivenNames x; clear_value x)
    | with_reducible apply Kept.ite
    | with_reducible apply State.advanceOpening_kept
    | with_reducible apply State.connectStep_kept
    | with_reducible apply State.joinString_kept
    | with_reducible apply State.setStr_kept
    | with_reducible apply State.wayDown_kept
    | with_reducible apply State.weld_kept

theorem State.closeTimeout_kept {s₀ : State} (s : State) (k : Nat) (hk : Kept s₀ s) :
    Kept s₀ (State.closeTimeout s k) := by
  unfold State.closeTimeout
  repeat' first
    | with_reducible assumption
    | (extract_lets +onlyGivenNames x; clear_value x)
    | with_reducible apply Kept.ite
    | with_reducible apply State.connectFault_kept

theorem State.tickMatch_kept {s₀ : State} (s : State) (k : Nat) (hk : Kept s₀ s) :
    Kept s₀ (State.tickMatch s k) := by
  unfold State.tickMatch
  repeat' first
    | with_reducible assumption
    | (extract_lets +onlyGivenNames x; refine Kept.cut (s₀ := s₀) (x := x.2) ?_ (fun hx => ?_); unfold x; clear x; rotate_left; clear_value x; rotate_right)
    | with_reducible apply Kept.ite
    | with_reducible apply State.connectFault_kept
    | with_reducible apply State.judgeMatch_kept

theorem State.precheck1_kept {s₀ : State} (s : State) (k : Nat) (hk : Kept s₀ s) :
    Kept s₀ (State.precheck1 s k) := by
  unfold State.precheck1
  repeat' first
    | with_reducible assumption
    | (extract_lets +onlyGivenNames x; refine Kept.cut (s₀ := s₀) (x := x) ?_ (fun hx => ?_); unfold x; clear x; rotate_left; clear_value x; rotate_right)
    | (extract_lets +onlyGivenNames x; clear_value x)
    | with_reducible apply Kept.ite
    | with_reducible apply State.connectFault_kept
    | with_reducible apply State.setStr_kept
    | with_reducible apply State.tickMatch_kept

theorem State.precheck2_kept {s₀ : State} (s : State) (k : Nat) (hk : Kept s₀ s) :
    Kept s₀ (State.precheck2 s k) := by
  unfold State.precheck2
  repeat' first
    | with_reducible assumption
    | (extract_lets +onlyGivenNames x; refine Kept.cut (s₀ := s₀) (x := x) ?_ (fun hx => ?_); unfold x; clear x; rotate_left; clear_value x; rotate_right)
    | (extract_lets +onlyGivenNames x; clear_value x)
    | with_reducible apply Kept.ite
    | with_reducible apply State.connectFault_kept
    | with_reducible apply State.setStr_kept
    | with_reducible apply State.tickMatch_kept

theorem State.prechargeOver_kept {s₀ : State} (s : State) (k : Nat) (hk : Kept s₀ s) :
    Kept s₀ (State.prechargeOver s k) := by
  unfold State.prechargeOver
  repeat' first
    | with_reducible assumption
    | (extract_lets +onlyGivenNames x; refine Kept.cut (s₀ := s₀) (x := x) ?_ (fun hx => ?_); unfold x; clear x; rotate_left; clear_value x; rotate_right)
    | (extract_lets +onlyGivenNames x; clear_value x)
    | with_reducible apply Kept.ite
    | with_reducible apply State.connectFault_kept
    | with_reducible apply State.tickMatch_kept

theorem State.breakWait_kept {s₀ : State} (s : State) (k : Nat) (hk : Kept s₀ s) :
    Kept s₀ (State.breakWait s k) := by
  unfold State.breakWait
  repeat' first
    | with_reducible assumption
    | (extract_lets +onlyGivenNames x; (have f : Prop := x); clear f; unfold x; clear x)
    | (extract_lets +onlyGivenNames x; refine Kept.cut (s₀ := s₀) (x := x) ?_ (fun hx => ?_); unfold x; clear x; rotate_left; clear_value x; rotate_right)
    | (extract_lets +onlyGivenNames x; clear_value x)
    | with_reducible apply Kept.ite
    | with_reducible apply State.advanceOpening_kept
    | with_reducible apply State.count_kept
    | with_reducible apply State.setStr_kept
    | with_reducible apply State.wayDown_kept

theorem State.openTimeout_kept {s₀ : State} (s : State) (k : Nat) (hk : Kept s₀ s) :
    Kept s₀ (State.openTimeout s k) := by
  unfold State.openTimeout
  repeat' first
    | with_reducible assumption
    | (extract_lets +onlyGivenNames x; (have f := fun a => x a); clear f; unfold x; clear x; dsimp -zeta -failIfUnchanged only)
    | (extract_lets +onlyGivenNames x; clear_value x)
    | with_reducible apply Kept.ite
    | with_reducible apply State.weld_kept

theorem State.lockoutClear_kept {s₀ : State} (s : State) (k v : Nat) (hk : Kept s₀ s) :
    Kept s₀ (State.lockoutClear s k v).2 := by
  unfold State.lockoutClear
  repeat' first
    | with_reducible assumption
    | (extract_lets +onlyGivenNames x; clear_value x)
    | with_reducible apply Kept.ite2
    | with_reducible apply State.setStr_kept

end Sys2Proof.Machine
end

