-- ==== Sys2Proof/Laws/KeptTick.lean ====
section
/-! SUPPORT. What every operation of Machine/Tick.lean keeps: see Kept in Laws/Kept.lean. -/

namespace Sys2Proof.Machine

theorem State.senseLatch_kept {s₀ : State} (s : State) (raw : List Nat) (hk : Kept s₀ s) :
    Kept s₀ (State.senseLatch s raw) := by
  unfold State.senseLatch
  repeat' first
    | with_reducible assumption
    | intro _
    | (extract_lets +onlyGivenNames x; refine Kept.cut (s₀ := s₀) (x := x) ?_ (fun hx => ?_); unfold x; clear x; rotate_left; clear_value x; rotate_right)
    | (extract_lets +onlyGivenNames x; clear_value x)
    | with_reducible apply Kept.ite
    | with_reducible apply State.count_kept
    | with_reducible apply State.forEach_kept
    | with_reducible apply State.setNum_kept
    | (with_reducible apply Kept.mk'; first | with_reducible assumption | (with_reducible apply Kept.mk'; with_reducible assumption) | with_reducible apply State.count_kept | with_reducible apply State.forEach_kept | with_reducible apply State.setNum_kept)

theorem State.takeHandovers_kept {s₀ : State} (s : State) (hk : Kept s₀ s) :
    Kept s₀ (State.takeHandovers s) := by
  unfold State.takeHandovers
  repeat' first
    | (extract_lets +onlyGivenNames x; clear_value x)
    | (with_reducible apply Kept.mk'; first | with_reducible assumption | (with_reducible apply Kept.mk'; with_reducible assumption))

theorem State.busChoose_kept {s₀ : State} (s : State) (hk : Kept s₀ s) :
    Kept s₀ (State.busChoose s) := by
  unfold State.busChoose
  repeat' first
    | with_reducible assumption
    | (extract_lets +onlyGivenNames x; refine Kept.cut (s₀ := s₀) (x := x) ?_ (fun hx => ?_); unfold x; clear x; rotate_left; clear_value x; rotate_right)
    | (extract_lets +onlyGivenNames x; clear_value x)
    | with_reducible apply Kept.ite
    | with_reducible apply State.raise_kept
    | (with_reducible apply Kept.mk'; first | with_reducible assumption | (with_reducible apply Kept.mk'; with_reducible assumption) | with_reducible apply State.raise_kept)

theorem State.slewTick_kept {s₀ : State} (s : State) (hk : Kept s₀ s) :
    Kept s₀ (State.slewTick s) := by
  unfold State.slewTick
  repeat' first
    | with_reducible assumption
    | (extract_lets +onlyGivenNames x; (have f : Prop := x); clear f; unfold x; clear x)
    | (extract_lets +onlyGivenNames x; refine Kept.cut (s₀ := s₀) (x := x) ?_ (fun hx => ?_); unfold x; clear x; rotate_left; clear_value x; rotate_right)
    | (extract_lets +onlyGivenNames x; clear_value x)
    | with_reducible apply Kept.ite
    | with_reducible apply State.setNat_kept
    | (with_reducible apply Kept.mk'; first | with_reducible assumption | (with_reducible apply Kept.mk'; with_reducible assumption) | with_reducible apply State.setNat_kept)

theorem State.putInst_kept {s₀ : State} (s : State) (i : Nat) (h : Inst) (sat : Bool) (hk : Kept s₀ s) :
    Kept s₀ (State.putInst s i h sat) := by
  unfold State.putInst
  repeat' first
    | with_reducible assumption
    | (extract_lets +onlyGivenNames x; refine Kept.cut (s₀ := s₀) (x := x) ?_ (fun hx => ?_); unfold x; clear x; rotate_left; clear_value x; rotate_right)
    | with_reducible apply Kept.ite
    | with_reducible apply State.count_kept
    | with_reducible apply State.setInst_kept
    | with_reducible apply State.setNum_kept

theorem State.loopTick_kept {s₀ : State} (s : State) (hk : Kept s₀ s) :
    Kept s₀ (State.loopTick s) := by
  unfold State.loopTick
  repeat' first
    | with_reducible assumption
    | (extract_lets +onlyGivenNames x; (have f : Prop := x); clear f; unfold x; clear x)
    | (extract_lets +onlyGivenNames x; refine Kept.cut (s₀ := s₀) (x := x) ?_ (fun hx => ?_); unfold x; clear x; rotate_left; clear_value x; rotate_right)
    | (extract_lets +onlyGivenNames x; clear_value x)
    | with_reducible apply State.putInst_kept
    | with_reducible apply State.setNat_kept
    | with_reducible apply State.setNum_kept
    | (with_reducible apply Kept.mk'; first | with_reducible assumption | (with_reducible apply Kept.mk'; with_reducible assumption) | with_reducible apply State.putInst_kept | with_reducible apply State.setNat_kept | with_reducible apply State.setNum_kept)

theorem State.phaseLoops_kept {s₀ : State} (s : State) (k : Nat) (ref : Int) (hk : Kept s₀ s) :
    Kept s₀ (State.phaseLoops s k ref) := by
  unfold State.phaseLoops
  repeat' first
    | with_reducible assumption
    | intro _
    | (extract_lets +onlyGivenNames x; (have f : Prop := x); clear f; unfold x; clear x)
    | (extract_lets +onlyGivenNames x; clear_value x)
    | with_reducible apply State.forEach_kept
    | with_reducible apply State.putInst_kept
    | with_reducible apply State.writeCompare_kept

theorem State.stringLoops_kept {s₀ : State} (s : State) (k : Nat) (v : Int) (hk : Kept s₀ s) :
    Kept s₀ (State.stringLoops s k v) := by
  unfold State.stringLoops
  repeat' first
    | with_reducible apply Kept.ite
    | with_reducible apply State.phaseLoops_kept
    | (with_reducible apply Kept.mk'; first | with_reducible assumption | (with_reducible apply Kept.mk'; with_reducible assumption) | with_reducible apply State.phaseLoops_kept)

theorem State.auxLoops_kept {s₀ : State} (s : State) (hk : Kept s₀ s) :
    Kept s₀ (State.auxLoops s) := by
  unfold State.auxLoops
  repeat' first
    | with_reducible assumption
    | intro _
    | (extract_lets +onlyGivenNames x; clear_value x)
    | with_reducible apply State.draw_kept
    | with_reducible apply State.forEach_kept
    | with_reducible apply State.putInst_kept

theorem State.measure_kept {s₀ : State} (s : State) (hk : Kept s₀ s) :
    Kept s₀ (State.measure s) := by
  unfold State.measure
  repeat' first
    | (extract_lets +onlyGivenNames x; clear_value x)
    | (with_reducible apply Kept.mk'; first | with_reducible assumption | (with_reducible apply Kept.mk'; with_reducible assumption))

theorem State.publishTick_kept {s₀ : State} (s : State) (hk : Kept s₀ s) :
    Kept s₀ (State.publishTick s) := by
  unfold State.publishTick
  repeat' first
    | with_reducible assumption
    | intro _
    | (extract_lets +onlyGivenNames x; refine Kept.cut (s₀ := s₀) (x := x) ?_ (fun hx => ?_); unfold x; clear x; rotate_left; clear_value x; rotate_right)
    | with_reducible apply State.forEach_kept
    | with_reducible apply State.publish_kept

theorem State.judgeChange_kept {s₀ : State} (s : State) (hk : Kept s₀ s) :
    Kept s₀ (State.judgeChange s) := by
  unfold State.judgeChange
  repeat' first
    | with_reducible assumption
    | (extract_lets +onlyGivenNames x; (have f : Prop := x); clear f; unfold x; clear x)
    | (extract_lets +onlyGivenNames x; refine Kept.cut (s₀ := s₀) (x := x) ?_ (fun hx => ?_); unfold x; clear x; rotate_left; clear_value x; rotate_right)
    | (extract_lets +onlyGivenNames x; clear_value x)
    | with_reducible apply Kept.ite
    | with_reducible apply State.exception_kept
    | (with_reducible apply Kept.mk'; first | with_reducible assumption | (with_reducible apply Kept.mk'; with_reducible assumption) | with_reducible apply State.exception_kept)

theorem State.judgeRatings_kept {s₀ : State} (s : State) (before : Int) (hk : Kept s₀ s) :
    Kept s₀ (State.judgeRatings s before) := by
  unfold State.judgeRatings
  repeat' first
    | with_reducible assumption
    | (extract_lets +onlyGivenNames x; (have f : Prop := x); clear f; unfold x; clear x)
    | (extract_lets +onlyGivenNames x; refine Kept.cut (s₀ := s₀) (x := x) ?_ (fun hx => ?_); unfold x; clear x; rotate_left; clear_value x; rotate_right)
    | (extract_lets +onlyGivenNames x; clear_value x)
    | with_reducible apply Kept.ite
    | with_reducible apply State.exception_kept
    | (with_reducible apply Kept.mk'; first | with_reducible assumption | (with_reducible apply Kept.mk'; with_reducible assumption) | with_reducible apply State.exception_kept)

theorem State.shedTick_kept {s₀ : State} (s : State) (k : Nat) (hk : Kept s₀ s) :
    Kept s₀ (State.shedTick s k) := by
  unfold State.shedTick
  repeat' first
    | (extract_lets +onlyGivenNames x; clear_value x)
    | with_reducible apply Kept.ite
    | with_reducible apply State.readdShed_kept
    | (with_reducible apply Kept.mk'; first | with_reducible assumption | (with_reducible apply Kept.mk'; with_reducible assumption) | with_reducible apply State.readdShed_kept)

theorem State.contactorTick_kept {s₀ : State} (s : State) (k : Nat) (hk : Kept s₀ s) :
    Kept s₀ (State.contactorTick s k) := by
  unfold State.contactorTick
  repeat' first
    | with_reducible assumption
    | (extract_lets +onlyGivenNames x; refine Kept.cut (s₀ := s₀) (x := x) ?_ (fun hx => ?_); unfold x; clear x; rotate_left; clear_value x; rotate_right)
    | with_reducible apply Kept.ite
    | with_reducible apply State.advanceOpening_kept
    | with_reducible apply State.interlockTick_kept
    | with_reducible apply State.tickMatch_kept

theorem State.largest_kept {s₀ : State} (s : State) (key o : Nat) (v : Int) (hk : Kept s₀ s) :
    Kept s₀ (State.largest s key o v) := by
  unfold State.largest
  repeat' first
    | with_reducible assumption
    | (extract_lets +onlyGivenNames x; clear_value x)
    | with_reducible apply Kept.ite
    | with_reducible apply State.setBlob_kept

theorem State.chargeTick_kept {s₀ : State} (s : State) (k : Nat) (hk : Kept s₀ s) :
    Kept s₀ (State.chargeTick s k) := by
  unfold State.chargeTick
  repeat' first
    | with_reducible assumption
    | (extract_lets +onlyGivenNames x; (have f : Prop := x); clear f; unfold x; clear x)
    | (extract_lets +onlyGivenNames x; refine Kept.cut (s₀ := s₀) (x := x) ?_ (fun hx => ?_); unfold x; clear x; rotate_left; clear_value x; rotate_right)
    | (extract_lets +onlyGivenNames x; clear_value x)
    | with_reducible apply Kept.ite
    | with_reducible apply State.calTick_kept
    | with_reducible apply State.count64_kept
    | with_reducible apply State.largest_kept
    | with_reducible apply State.setEstStr_kept
    | with_reducible apply State.setRing_kept

theorem State.accuse_kept {s₀ : State} (s : State) (h : Nat) (hk : Kept s₀ s) :
    Kept s₀ (State.accuse s h) := by
  unfold State.accuse
  repeat' first
    | with_reducible assumption
    | with_reducible apply Kept.ite
    | with_reducible apply State.count_kept
    | with_reducible apply State.raise_kept

theorem State.mismatch_kept {s₀ : State} (s : State) (hk : Kept s₀ s) :
    Kept s₀ (State.mismatch s) := by
  unfold State.mismatch
  repeat' first
    | (extract_lets +onlyGivenNames x; clear_value x)
    | with_reducible apply State.setNat_kept
    | (with_reducible apply Kept.mk'; first | with_reducible assumption | (with_reducible apply Kept.mk'; with_reducible assumption) | with_reducible apply State.setNat_kept)

theorem State.senseMismatch_kept {s₀ : State} (s : State) (c : Nat) (hk : Kept s₀ s) :
    Kept s₀ (State.senseMismatch s c) := by
  unfold State.senseMismatch
  repeat' first
    | with_reducible assumption
    | (extract_lets +onlyGivenNames x; refine Kept.cut (s₀ := s₀) (x := x) ?_ (fun hx => ?_); unfold x; clear x; rotate_left; clear_value x; rotate_right)
    | (extract_lets +onlyGivenNames x; clear_value x)
    | with_reducible apply State.raise_kept
    | (with_reducible apply Kept.mk'; first | with_reducible assumption | (with_reducible apply Kept.mk'; with_reducible assumption) | with_reducible apply State.raise_kept)

theorem State.sweep_kept {s₀ : State} (s : State) (failed : Bool) (hk : Kept s₀ s) :
    Kept s₀ (State.sweep s failed) := by
  unfold State.sweep
  repeat' first
    | with_reducible assumption
    | (extract_lets +onlyGivenNames x; refine Kept.cut (s₀ := s₀) (x := x) ?_ (fun hx => ?_); unfold x; clear x; rotate_left; clear_value x; rotate_right)
    | (extract_lets +onlyGivenNames x; clear_value x)
    | with_reducible apply Kept.ite
    | with_reducible apply State.count_kept
    | with_reducible apply State.raise_kept
    | (with_reducible apply Kept.mk'; first | with_reducible assumption | (with_reducible apply Kept.mk'; with_reducible assumption) | with_reducible apply State.count_kept | with_reducible apply State.raise_kept)

theorem State.compareTick_kept {s₀ : State} (s : State) (inp : TickIn) (hk : Kept s₀ s) :
    Kept s₀ (State.compareTick s inp) := by
  unfold State.compareTick
  repeat' first
    | with_reducible assumption
    | (extract_lets +onlyGivenNames x; refine Kept.cut (s₀ := s₀) (x := x) ?_ (fun hx => ?_); unfold x; clear x; rotate_left; clear_value x; rotate_right)
    | (extract_lets +onlyGivenNames x; clear_value x)
    | with_reducible apply Kept.ite
    | with_reducible apply State.accuse_kept
    | with_reducible apply State.mismatch_kept
    | with_reducible apply State.senseMismatch_kept
    | with_reducible apply State.sweep_kept
    | (with_reducible apply Kept.mk'; first | with_reducible assumption | (with_reducible apply Kept.mk'; with_reducible assumption) | with_reducible apply State.accuse_kept | with_reducible apply State.mismatch_kept | with_reducible apply State.senseMismatch_kept | with_reducible apply State.sweep_kept)
    | split

theorem State.transferTick_kept {s₀ : State} (s : State) (hk : Kept s₀ s) :
    Kept s₀ (State.transferTick s) := by
  unfold State.transferTick
  repeat' first
    | with_reducible assumption
    | (extract_lets +onlyGivenNames x; (have f : HoldSt := x); clear f; unfold x; clear x)
    | (extract_lets +onlyGivenNames x; refine Kept.cut (s₀ := s₀) (x := x) ?_ (fun hx => ?_); unfold x; clear x; rotate_left; clear_value x; rotate_right)
    | (extract_lets +onlyGivenNames x; clear_value x)
    | with_reducible apply Kept.ite
    | with_reducible apply State.count_kept
    | with_reducible apply State.latchesOf_kept
    | (with_reducible refine Kept.mkHold ?_ rfl rfl; first | with_reducible assumption | with_reducible apply State.count_kept | with_reducible apply State.latchesOf_kept | with_reducible apply State.latchesOff_kept)

theorem State.latchTick_kept {s₀ : State} (s : State) (ra rb : Nat) (hk : Kept s₀ s) :
    Kept s₀ (State.latchTick s ra rb) := by
  unfold State.latchTick
  repeat' first
    | with_reducible assumption
    | (extract_lets +onlyGivenNames x; (have f : HoldSt := x); clear f; unfold x; clear x)
    | (extract_lets +onlyGivenNames x; refine Kept.cut (s₀ := s₀) (x := x) ?_ (fun hx => ?_); unfold x; clear x; rotate_left; clear_value x; rotate_right)
    | (extract_lets +onlyGivenNames x; clear_value x)
    | with_reducible apply Kept.ite
    | with_reducible apply State.enterHold_kept
    | with_reducible apply State.settle_kept
    | (with_reducible refine Kept.mkHold ?_ rfl rfl; first | with_reducible assumption | with_reducible apply State.enterHold_kept | with_reducible apply State.settle_kept)

theorem State.latchTickPlan_kept {s₀ : State} (s : State) (hk : Kept s₀ s) :
    Kept s₀ (State.latchTickPlan s) := by
  unfold State.latchTickPlan
  repeat' first
    | with_reducible assumption
    | (extract_lets +onlyGivenNames x; clear_value x)
    | with_reducible apply Kept.ite
    | (with_reducible apply Kept.mk'; first | with_reducible assumption | (with_reducible apply Kept.mk'; with_reducible assumption))

theorem State.softTick_kept {s₀ : State} (s : State) (hk : Kept s₀ s) :
    Kept s₀ (State.softTick s) := by
  unfold State.softTick
  repeat' first
    | with_reducible assumption
    | (extract_lets +onlyGivenNames x; clear_value x)
    | with_reducible apply Kept.ite
    | (with_reducible apply Kept.mk'; first | with_reducible assumption | (with_reducible apply Kept.mk'; with_reducible assumption))

theorem State.levelTick_kept {s₀ : State} (s : State) (hk : Kept s₀ s) :
    Kept s₀ (State.levelTick s) := by
  unfold State.levelTick
  repeat' first
    | (extract_lets +onlyGivenNames x; clear_value x)
    | (with_reducible apply Kept.mk'; first | with_reducible assumption | (with_reducible apply Kept.mk'; with_reducible assumption))

theorem State.computeTick_kept {s₀ : State} (s : State) (inp : TickIn) (hk : Kept s₀ s) :
    Kept s₀ (State.computeTick s inp) := by
  unfold State.computeTick
  repeat' first
    | with_reducible assumption
    | (extract_lets +onlyGivenNames x; refine Kept.cut (s₀ := s₀) (x := x) ?_ (fun hx => ?_); unfold x; clear x; rotate_left; clear_value x; rotate_right)
    | (extract_lets +onlyGivenNames x; clear_value x)
    | with_reducible apply Kept.ite
    | with_reducible apply State.auxLoops_kept
    | with_reducible apply State.busChoose_kept
    | with_reducible apply State.count_kept
    | with_reducible apply State.forecastTerms_kept
    | with_reducible apply State.latchPorts_kept
    | with_reducible apply State.latchTickPlan_kept
    | with_reducible apply State.levelTick_kept
    | with_reducible apply State.loopTick_kept
    | with_reducible apply State.measure_kept
    | with_reducible apply State.publishTick_kept
    | with_reducible apply State.senseLatch_kept
    | with_reducible apply State.slewTick_kept
    | with_reducible apply State.stringLoops_kept
    | with_reducible apply State.takeBinding_kept
    | with_reducible apply State.takeHandovers_kept
    | (with_reducible apply Kept.mk'; first | with_reducible assumption | (with_reducible apply Kept.mk'; with_reducible assumption) | with_reducible apply State.auxLoops_kept | with_reducible apply State.busChoose_kept | with_reducible apply State.count_kept | with_reducible apply State.forecastTerms_kept | with_reducible apply State.latchPorts_kept | with_reducible apply State.latchTickPlan_kept | with_reducible apply State.levelTick_kept | with_reducible apply State.loopTick_kept | with_reducible apply State.measure_kept | with_reducible apply State.publishTick_kept | with_reducible apply State.senseLatch_kept | with_reducible apply State.slewTick_kept | with_reducible apply State.stringLoops_kept | with_reducible apply State.takeBinding_kept | with_reducible apply State.takeHandovers_kept)

theorem State.energyTick_kept {s₀ : State} (s : State) (hk : Kept s₀ s) :
    Kept s₀ (State.energyTick s) := by
  unfold State.energyTick
  repeat' first
    | (extract_lets +onlyGivenNames x; clear_value x)
    | (with_reducible apply Kept.mk'; first | with_reducible assumption | (with_reducible apply Kept.mk'; with_reducible assumption))

theorem State.controlTick_kept {s₀ : State} (s : State) (inp : TickIn) (hk : Kept s₀ s) :
    Kept s₀ (State.controlTick s inp) := by
  unfold State.controlTick
  repeat' first
    | with_reducible assumption
    | intro _
    | (extract_lets +onlyGivenNames x; refine Kept.cut (s₀ := s₀) (x := x) ?_ (fun hx => ?_); unfold x; clear x; rotate_left; clear_value x; rotate_right)
    | (extract_lets +onlyGivenNames x; clear_value x)
    | with_reducible apply Kept.ite
    | with_reducible apply State.chargeTick_kept
    | with_reducible apply State.compareTick_kept
    | with_reducible apply State.computeTick_kept
    | with_reducible apply State.contactorTick_kept
    | with_reducible apply State.energyTick_kept
    | with_reducible apply State.forEach_kept
    | with_reducible apply State.judgeChange_kept
    | with_reducible apply State.judgeRatings_kept
    | with_reducible apply State.latchTick_kept
    | with_reducible apply State.shedTick_kept
    | with_reducible apply State.softTick_kept
    | with_reducible apply State.transferTick_kept
    | with_reducible apply State.wayDown_kept

theorem State.commitInst_kept {s₀ : State} (s : State) (i v : Nat) (hk : Kept s₀ s) :
    Kept s₀ (State.commitInst s i v).2 := by
  unfold State.commitInst
  repeat' first
    | with_reducible assumption
    | (extract_lets +onlyGivenNames x; refine Kept.cut (s₀ := s₀) (x := x) ?_ (fun hx => ?_); unfold x; clear x; rotate_left; clear_value x; rotate_right)
    | (extract_lets +onlyGivenNames x; clear_value x)
    | with_reducible apply Kept.ite2
    | with_reducible apply State.setNat_kept
    | (with_reducible apply Kept.mk'; first | with_reducible assumption | (with_reducible apply Kept.mk'; with_reducible assumption) | with_reducible apply State.setNat_kept)

theorem State.swapInst_kept {s₀ : State} (s : State) (i : Nat) (hk : Kept s₀ s) :
    Kept s₀ (State.swapInst s i) := by
  unfold State.swapInst
  repeat' first
    | with_reducible assumption
    | (extract_lets +onlyGivenNames x; refine Kept.cut (s₀ := s₀) (x := x) ?_ (fun hx => ?_); unfold x; clear x; rotate_left; clear_value x; rotate_right)
    | (extract_lets +onlyGivenNames x; clear_value x)
    | with_reducible apply Kept.ite
    | with_reducible apply State.setInst_kept
    | with_reducible apply State.setNat_kept
    | (with_reducible apply Kept.mk'; first | with_reducible assumption | (with_reducible apply Kept.mk'; with_reducible assumption) | with_reducible apply State.setInst_kept | with_reducible apply State.setNat_kept)
    | split

end Sys2Proof.Machine
end

