-- ==== Sys2Proof/Laws/KeptSetpoint.lean ====
section
/-! SUPPORT. What every operation of Machine/Setpoint.lean keeps: see Kept in Laws/Kept.lean. -/

namespace Sys2Proof.Machine

theorem State.sendFrame_kept {s₀ : State} (s : State) (b mask r1 r2 : Nat) (ramp : Bool) (hk : Kept s₀ s) :
    Kept s₀ (State.sendFrame s b mask r1 r2 ramp) := by
  unfold State.sendFrame
  repeat' first
    | with_reducible assumption
    | (extract_lets +onlyGivenNames x; refine Kept.cut (s₀ := s₀) (x := x) ?_ (fun hx => ?_); unfold x; clear x; rotate_left; clear_value x; rotate_right)
    | (extract_lets +onlyGivenNames x; clear_value x)
    | with_reducible apply Kept.ite
    | with_reducible apply State.count_kept
    | with_reducible apply State.emit_kept
    | with_reducible apply State.setBus_kept
    | with_reducible apply State.setNat_kept
    | with_reducible apply State.setRect_kept
    | (with_reducible apply Kept.mk'; first | with_reducible assumption | (with_reducible apply Kept.mk'; with_reducible assumption) | with_reducible apply State.count_kept | with_reducible apply State.emit_kept | with_reducible apply State.setBus_kept | with_reducible apply State.setNat_kept | with_reducible apply State.setRect_kept)

theorem State.showCmd_kept {s₀ : State} (s : State) (hk : Kept s₀ s) :
    Kept s₀ (State.showCmd s) := by
  unfold State.showCmd
  repeat' first
    | with_reducible assumption
    | (extract_lets +onlyGivenNames x; refine Kept.cut (s₀ := s₀) (x := x) ?_ (fun hx => ?_); unfold x; clear x; rotate_left; clear_value x; rotate_right)
    | (extract_lets +onlyGivenNames x; clear_value x)
    | with_reducible apply State.setNum_kept
    | (with_reducible apply Kept.mk'; first | with_reducible assumption | (with_reducible apply Kept.mk'; with_reducible assumption) | with_reducible apply State.setNum_kept)

theorem State.sendBoth_kept {s₀ : State} (s : State) (l : List Nat) (w1 w2 : Int) (hk : Kept s₀ s) :
    Kept s₀ (State.sendBoth s l w1 w2) := by
  unfold State.sendBoth
  repeat' first
    | with_reducible assumption
    | intro _
    | (extract_lets +onlyGivenNames x; clear_value x)
    | with_reducible apply Kept.ite
    | with_reducible apply State.forEach_kept
    | with_reducible apply State.sendFrame_kept

theorem State.showPlan_kept {s₀ : State} (s : State) (w : Int) (adv : Int) (hk : Kept s₀ s) :
    Kept s₀ (State.showPlan s w adv) := by
  unfold State.showPlan
  repeat' first
    | with_reducible assumption
    | (extract_lets +onlyGivenNames x; refine Kept.cut (s₀ := s₀) (x := x) ?_ (fun hx => ?_); unfold x; clear x; rotate_left; clear_value x; rotate_right)
    | (extract_lets +onlyGivenNames x; clear_value x)
    | with_reducible apply State.setNum_kept
    | (with_reducible apply Kept.mk'; first | with_reducible assumption | (with_reducible apply Kept.mk'; with_reducible assumption) | with_reducible apply State.setNum_kept)

theorem State.planFrame_kept {s₀ : State} (s : State) (hk : Kept s₀ s) :
    Kept s₀ (State.planFrame s) := by
  unfold State.planFrame
  repeat' first
    | with_reducible assumption
    | (extract_lets +onlyGivenNames x; clear_value x)
    | with_reducible apply Kept.ite
    | with_reducible apply State.sendBoth_kept
    | with_reducible apply State.showPlan_kept
    | (with_reducible apply Kept.mk'; first | with_reducible assumption | (with_reducible apply Kept.mk'; with_reducible assumption) | with_reducible apply State.sendBoth_kept | with_reducible apply State.showPlan_kept)
    | split

theorem State.startFrame_kept {s₀ : State} (s : State) (hk : Kept s₀ s) :
    Kept s₀ (State.startFrame s) := by
  unfold State.startFrame
  repeat' first
    | with_reducible assumption
    | (extract_lets +onlyGivenNames x; refine Kept.cut (s₀ := s₀) (x := x.2) ?_ (fun hx => ?_); unfold x; clear x; rotate_left; clear_value x; rotate_right)
    | (extract_lets +onlyGivenNames x; clear_value x)
    | with_reducible apply Kept.ite
    | with_reducible apply State.draw_kept
    | with_reducible apply State.sendBoth_kept
    | with_reducible apply State.showPlan_kept

theorem State.failFrame_kept {s₀ : State} (s : State) (hk : Kept s₀ s) :
    Kept s₀ (State.failFrame s) := by
  unfold State.failFrame
  repeat' first
    | with_reducible assumption
    | intro _
    | with_reducible apply Kept.ite
    | with_reducible apply State.forEach_kept
    | with_reducible apply State.sendBoth_kept
    | with_reducible apply State.sendFrame_kept
    | with_reducible apply State.showPlan_kept

theorem State.safeFrame_kept {s₀ : State} (s : State) (hk : Kept s₀ s) :
    Kept s₀ (State.safeFrame s) := by
  unfold State.safeFrame
  repeat' first
    | with_reducible assumption
    | intro _
    | (extract_lets +onlyGivenNames x; refine Kept.cut (s₀ := s₀) (x := x) ?_ (fun hx => ?_); unfold x; clear x; rotate_left; clear_value x; rotate_right)
    | (extract_lets +onlyGivenNames x; clear_value x)
    | with_reducible apply Kept.ite
    | with_reducible apply State.forEach_kept
    | with_reducible apply State.sendFrame_kept
    | with_reducible apply State.setBus_kept

theorem State.gridFrame_kept {s₀ : State} (s : State) (differ : Bool) (hk : Kept s₀ s) :
    Kept s₀ (State.gridFrame s differ) := by
  unfold State.gridFrame
  repeat' first
    | with_reducible assumption
    | (extract_lets +onlyGivenNames x; refine Kept.cut (s₀ := s₀) (x := x) ?_ (fun hx => ?_); unfold x; clear x; rotate_left; clear_value x; rotate_right)
    | with_reducible apply Kept.ite
    | with_reducible apply State.failFrame_kept
    | with_reducible apply State.mismatch_kept
    | with_reducible apply State.planFrame_kept
    | with_reducible apply State.safeFrame_kept
    | with_reducible apply State.showCmd_kept
    | with_reducible apply State.shutOpen_kept
    | with_reducible apply State.startFrame_kept
    | with_reducible apply State.wayDown_kept

theorem State.frameError_kept {s₀ : State} (s : State) (b : Nat) (hk : Kept s₀ s) :
    Kept s₀ (State.frameError s b) := by
  unfold State.frameError
  repeat' first
    | with_reducible assumption
    | (extract_lets +onlyGivenNames x; refine Kept.cut (s₀ := s₀) (x := x) ?_ (fun hx => ?_); unfold x; clear x; rotate_left; clear_value x; rotate_right)
    | (extract_lets +onlyGivenNames x; clear_value x)
    | with_reducible apply Kept.ite
    | with_reducible apply State.count_kept
    | with_reducible apply State.setBus_kept
    | with_reducible apply State.setNat_kept
    | with_reducible apply State.showCmd_kept
    | (with_reducible apply Kept.mk'; first | with_reducible assumption | (with_reducible apply Kept.mk'; with_reducible assumption) | with_reducible apply State.count_kept | with_reducible apply State.setBus_kept | with_reducible apply State.setNat_kept | with_reducible apply State.showCmd_kept)

theorem State.sumInput_kept {s₀ : State} (s : State) (hk : Kept s₀ s) :
    Kept s₀ (State.sumInput s) := by
  unfold State.sumInput
  repeat' first
    | (extract_lets +onlyGivenNames x; clear_value x)
    | with_reducible apply State.publish_kept
    | (with_reducible apply Kept.mk'; first | with_reducible assumption | (with_reducible apply Kept.mk'; with_reducible assumption) | with_reducible apply State.publish_kept)

theorem State.softBegin_kept {s₀ : State} (s : State) (hk : Kept s₀ s) :
    Kept s₀ (State.softBegin s) := by
  unfold State.softBegin
  repeat' first
    | with_reducible assumption
    | (extract_lets +onlyGivenNames x; refine Kept.cut (s₀ := s₀) (x := x) ?_ (fun hx => ?_); unfold x; clear x; rotate_left; clear_value x; rotate_right)
    | (extract_lets +onlyGivenNames x; clear_value x)
    | with_reducible apply Kept.ite
    | with_reducible apply State.setNat_kept
    | (with_reducible apply Kept.mk'; first | with_reducible assumption | (with_reducible apply Kept.mk'; with_reducible assumption) | with_reducible apply State.setNat_kept)

theorem State.judgeReport_kept {s₀ : State} (s : State) (r : Nat) (good : Bool) (hk : Kept s₀ s) :
    Kept s₀ (State.judgeReport s r good) := by
  unfold State.judgeReport
  repeat' first
    | with_reducible assumption
    | (extract_lets +onlyGivenNames x; refine Kept.cut (s₀ := s₀) (x := x) ?_ (fun hx => ?_); unfold x; clear x; rotate_left; clear_value x; rotate_right)
    | (extract_lets +onlyGivenNames x; clear_value x)
    | with_reducible apply Kept.ite
    | with_reducible apply State.exception_kept
    | with_reducible apply State.setRect_kept
    | with_reducible apply State.softBegin_kept
    | with_reducible apply State.sumInput_kept

theorem State.reportFrame_kept {s₀ : State} (s : State) (b : Nat) (fdBase : Bool) (id : Nat) (bytes : List Nat) (hk : Kept s₀ s) :
    Kept s₀ (State.reportFrame s b fdBase id bytes) := by
  unfold State.reportFrame
  repeat' first
    | with_reducible assumption
    | (extract_lets +onlyGivenNames x; (have f : Prop := x); clear f; unfold x; clear x)
    | (extract_lets +onlyGivenNames x; refine Kept.cut (s₀ := s₀) (x := x) ?_ (fun hx => ?_); unfold x; clear x; rotate_left; clear_value x; rotate_right)
    | (extract_lets +onlyGivenNames x; clear_value x)
    | with_reducible apply Kept.ite
    | with_reducible apply State.count_kept
    | with_reducible apply State.judgeReport_kept
    | with_reducible apply State.publish_kept
    | with_reducible apply State.setBlob_kept
    | with_reducible apply State.setRect_kept
    | with_reducible apply State.sumInput_kept

theorem State.reportMissed_kept {s₀ : State} (s : State) (r : Nat) (hk : Kept s₀ s) :
    Kept s₀ (State.reportMissed s r) := by
  unfold State.reportMissed
  repeat' first
    | with_reducible assumption
    | (extract_lets +onlyGivenNames x; clear_value x)
    | with_reducible apply Kept.ite
    | with_reducible apply State.count_kept
    | with_reducible apply State.judgeReport_kept
    | with_reducible apply State.setRect_kept

theorem State.canBusOff_kept {s₀ : State} (s : State) (b : Nat) (hk : Kept s₀ s) :
    Kept s₀ (State.canBusOff s b) := by
  unfold State.canBusOff
  repeat' first
    | with_reducible assumption
    | (extract_lets +onlyGivenNames x; clear_value x)
    | with_reducible apply Kept.ite
    | with_reducible apply State.count_kept
    | with_reducible apply State.raise_kept
    | with_reducible apply State.setBus_kept

theorem State.canRecover_kept {s₀ : State} (s : State) (b : Nat) (hk : Kept s₀ s) :
    Kept s₀ (State.canRecover s b) := by
  unfold State.canRecover
  repeat' first
    | with_reducible assumption
    | (extract_lets +onlyGivenNames x; clear_value x)
    | with_reducible apply State.setBus_kept

theorem State.softDone_kept {s₀ : State} (s : State) (hk : Kept s₀ s) :
    Kept s₀ (State.softDone s) := by
  unfold State.softDone
  repeat' first
    | with_reducible assumption
    | (extract_lets +onlyGivenNames x; refine Kept.cut (s₀ := s₀) (x := x) ?_ (fun hx => ?_); unfold x; clear x; rotate_left; clear_value x; rotate_right)
    | (extract_lets +onlyGivenNames x; clear_value x)
    | with_reducible apply Kept.ite
    | with_reducible apply State.goConnect_kept
    | with_reducible apply State.setNat_kept
    | (with_reducible apply Kept.mk'; first | with_reducible assumption | (with_reducible apply Kept.mk'; with_reducible assumption) | with_reducible apply State.goConnect_kept | with_reducible apply State.setNat_kept)
    | split

theorem State.traceArm_kept {s₀ : State} (s : State) (normal : Bool) (hk : Kept s₀ s) :
    Kept s₀ (State.traceArm s normal) := by
  unfold State.traceArm
  repeat' first
    | (extract_lets +onlyGivenNames x; clear_value x)
    | (with_reducible apply Kept.mk'; first | with_reducible assumption | (with_reducible apply Kept.mk'; with_reducible assumption))

theorem State.traceControl_kept {s₀ : State} (s : State) (v : Nat) (hk : Kept s₀ s) :
    Kept s₀ (State.traceControl s v).2 := by
  unfold State.traceControl
  repeat' first
    | with_reducible assumption
    | (extract_lets +onlyGivenNames x; refine Kept.cut (s₀ := s₀) (x := x) ?_ (fun hx => ?_); unfold x; clear x; rotate_left; clear_value x; rotate_right)
    | (extract_lets +onlyGivenNames x; clear_value x)
    | with_reducible apply State.setNat_kept
    | with_reducible apply State.traceArm_kept
    | (with_reducible apply Kept.mk'; first | with_reducible assumption | (with_reducible apply Kept.mk'; with_reducible assumption) | with_reducible apply State.setNat_kept | with_reducible apply State.traceArm_kept)
    | split

theorem State.traceSample_kept {s₀ : State} (s : State) (hk : Kept s₀ s) :
    Kept s₀ (State.traceSample s) := by
  unfold State.traceSample
  repeat' first
    | with_reducible assumption
    | (extract_lets +onlyGivenNames x; (have f := fun a => x a); clear f; unfold x; clear x; dsimp -zeta -failIfUnchanged only)
    | (extract_lets +onlyGivenNames x; clear_value x)
    | with_reducible apply Kept.ite
    | with_reducible apply State.setNat_kept
    | (with_reducible apply Kept.mk'; first | with_reducible assumption | (with_reducible apply Kept.mk'; with_reducible assumption) | with_reducible apply State.count_kept | with_reducible apply State.event_kept | with_reducible apply State.setNat_kept)

theorem State.traceRead_kept {s₀ : State} (s : State) (c : Nat) (hk : Kept s₀ s) :
    Kept s₀ (State.traceRead s c) := by
  unfold State.traceRead
  repeat' first
    | with_reducible assumption
    | (extract_lets +onlyGivenNames x; clear_value x)
    | with_reducible apply Kept.ite
    | with_reducible apply State.traceArm_kept
    | (with_reducible apply Kept.mk'; first | with_reducible assumption | (with_reducible apply Kept.mk'; with_reducible assumption) | with_reducible apply State.traceArm_kept)

end Sys2Proof.Machine
end

