-- ==== Sys2Proof/Laws/KeptPower.lean ====
section
/-! SUPPORT. What every operation of Machine/Power.lean keeps: see Kept in Laws/Kept.lean. -/

namespace Sys2Proof.Machine

theorem State.railFault_kept {s₀ : State} (s : State) (r : Nat) (hk : Kept s₀ s) :
    Kept s₀ (State.railFault s r) := by
  unfold State.railFault
  repeat' first
    | with_reducible assumption
    | with_reducible apply State.raise_kept

theorem State.railAbandon_kept {s₀ : State} (s : State) (r : Nat) (hk : Kept s₀ s) :
    Kept s₀ (State.railAbandon s r) := by
  unfold State.railAbandon
  repeat' first
    | with_reducible assumption
    | (extract_lets +onlyGivenNames x; clear_value x)
    | with_reducible apply Kept.ite
    | with_reducible apply State.clockPoint_kept
    | with_reducible apply State.setDiePt_kept

theorem State.railHiccup_kept {s₀ : State} (s : State) (r : Nat) (hk : Kept s₀ s) :
    Kept s₀ (State.railHiccup s r) := by
  unfold State.railHiccup
  repeat' first
    | with_reducible assumption
    | intro _
    | (extract_lets +onlyGivenNames x; (have f : Prop := x); clear f; unfold x; clear x)
    | (extract_lets +onlyGivenNames x; refine Kept.cut (s₀ := s₀) (x := x) ?_ (fun hx => ?_); unfold x; clear x; rotate_left; clear_value x; rotate_right)
    | (extract_lets +onlyGivenNames x; clear_value x)
    | with_reducible apply Kept.ite
    | with_reducible apply State.count_kept
    | with_reducible apply State.forEach_kept
    | with_reducible apply State.leftOff_kept
    | with_reducible apply State.railAbandon_kept
    | with_reducible apply State.railFault_kept
    | with_reducible apply State.railTrip_kept
    | with_reducible apply State.setRail_kept

theorem State.railRetry_kept {s₀ : State} (s : State) (r : Nat) (hk : Kept s₀ s) :
    Kept s₀ (State.railRetry s r) := by
  unfold State.railRetry
  repeat' first
    | with_reducible assumption
    | with_reducible apply Kept.ite
    | with_reducible apply State.startRail_kept
    | split

theorem State.railOver_kept {s₀ : State} (s : State) (r : Nat) (hk : Kept s₀ s) :
    Kept s₀ (State.railOver s r) := by
  unfold State.railOver
  repeat' first
    | with_reducible assumption
    | intro _
    | (extract_lets +onlyGivenNames x; refine Kept.cut (s₀ := s₀) (x := x) ?_ (fun hx => ?_); unfold x; clear x; rotate_left; clear_value x; rotate_right)
    | (extract_lets +onlyGivenNames x; clear_value x)
    | with_reducible apply Kept.ite
    | with_reducible apply State.count_kept
    | with_reducible apply State.forEach_kept
    | with_reducible apply State.leftOff_kept
    | with_reducible apply State.railAbandon_kept
    | with_reducible apply State.railFault_kept
    | with_reducible apply State.railTrip_kept
    | with_reducible apply State.setRail_kept

theorem State.railReached_kept {s₀ : State} (s : State) (r : Nat) (hk : Kept s₀ s) :
    Kept s₀ (State.railReached s r) := by
  unfold State.railReached
  repeat' first
    | with_reducible assumption
    | (extract_lets +onlyGivenNames x; clear_value x)
    | with_reducible apply Kept.ite
    | with_reducible apply State.clockPoint_kept

theorem State.railShed_kept {s₀ : State} (s : State) (r : Nat) (hk : Kept s₀ s) :
    Kept s₀ (State.railShed s r) := by
  unfold State.railShed
  repeat' first
    | with_reducible assumption
    | (extract_lets +onlyGivenNames x; clear_value x)
    | with_reducible apply Kept.ite
    | with_reducible apply State.setNat_kept

theorem State.railAdd_kept {s₀ : State} (s : State) (r : Nat) (hk : Kept s₀ s) :
    Kept s₀ (State.railAdd s r) := by
  unfold State.railAdd
  repeat' first
    | with_reducible assumption
    | (extract_lets +onlyGivenNames x; clear_value x)
    | with_reducible apply Kept.ite
    | with_reducible apply State.setNat_kept

theorem State.railClear_kept {s₀ : State} (s : State) (r v : Nat) (hk : Kept s₀ s) :
    Kept s₀ (State.railClear s r v).2 := by
  unfold State.railClear
  repeat' first
    | with_reducible assumption
    | (extract_lets +onlyGivenNames x; clear_value x)
    | with_reducible apply Kept.ite2
    | with_reducible apply State.setNat_kept
    | with_reducible apply State.setRail_kept

theorem State.railWindow_kept {s₀ : State} (s : State) (r : Nat) (hk : Kept s₀ s) :
    Kept s₀ (State.railWindow s r) := by
  unfold State.railWindow
  repeat' first
    | with_reducible assumption
    | with_reducible apply Kept.ite
    | with_reducible apply State.raise_kept

theorem State.throttleTimes_kept {s₀ : State} (s : State) (d us : Nat) (hk : Kept s₀ s) :
    Kept s₀ (State.throttleTimes s d us) := by
  unfold State.throttleTimes
  repeat' first
    | with_reducible assumption
    | intro _
    | (extract_lets +onlyGivenNames x; clear_value x)
    | with_reducible apply Kept.ite
    | with_reducible apply State.count64_kept
    | with_reducible apply State.forEach_kept
    | split

theorem State.railThrottle_kept {s₀ : State} (s : State) (d ma : Nat) (hk : Kept s₀ s) :
    Kept s₀ (State.railThrottle s d ma) := by
  unfold State.railThrottle
  repeat' first
    | with_reducible assumption
    | (extract_lets +onlyGivenNames x; clear_value x)
    | with_reducible apply Kept.ite
    | with_reducible apply State.setDiePt_kept

theorem State.applyPoint_kept {s₀ : State} (s : State) (d : Nat) (hk : Kept s₀ s) :
    Kept s₀ (State.applyPoint s d) := by
  unfold State.applyPoint
  repeat' first
    | with_reducible assumption
    | (extract_lets +onlyGivenNames x; refine Kept.cut (s₀ := s₀) (x := x) ?_ (fun hx => ?_); unfold x; clear x; rotate_left; clear_value x; rotate_right)
    | (extract_lets +onlyGivenNames x; clear_value x)
    | with_reducible apply Kept.ite
    | with_reducible apply State.changePoint_kept
    | with_reducible apply State.setDiePt_kept
    | with_reducible apply State.setNat_kept

theorem State.evalDie_kept {s₀ : State} (s : State) (d : Nat) (hk : Kept s₀ s) :
    Kept s₀ (State.evalDie s d) := by
  unfold State.evalDie
  repeat' first
    | with_reducible assumption
    | with_reducible apply State.applyPoint_kept
    | with_reducible apply State.setNat_kept

theorem State.estimate_kept {s₀ : State} (s : State) (hk : Kept s₀ s) :
    Kept s₀ (State.estimate s) := by
  unfold State.estimate
  repeat' first
    | with_reducible assumption
    | intro _
    | (extract_lets +onlyGivenNames x; refine Kept.cut (s₀ := s₀) (x := x) ?_ (fun hx => ?_); unfold x; clear x; rotate_left; clear_value x; rotate_right)
    | (extract_lets +onlyGivenNames x; (have f := fun a => x a); clear f; unfold x; clear x; dsimp -zeta -failIfUnchanged only)
    | (extract_lets +onlyGivenNames x; clear_value x)
    | with_reducible apply State.draw_kept
    | with_reducible apply State.forEach_kept
    | with_reducible apply State.setDiePt_kept
    | with_reducible apply State.setNat_kept
    | with_reducible apply State.setRail_kept
    | (with_reducible apply Kept.mk'; first | with_reducible assumption | (with_reducible apply Kept.mk'; with_reducible assumption) | with_reducible apply State.draw_kept | with_reducible apply State.forEach_kept | with_reducible apply State.setDiePt_kept | with_reducible apply State.setNat_kept | with_reducible apply State.setRail_kept)

theorem State.evalPoints_kept {s₀ : State} (s : State) (amps : List Nat) (hk : Kept s₀ s) :
    Kept s₀ (State.evalPoints s amps) := by
  unfold State.evalPoints
  repeat' first
    | with_reducible assumption
    | intro _
    | (extract_lets +onlyGivenNames x; refine Kept.cut (s₀ := s₀) (x := x) ?_ (fun hx => ?_); unfold x; clear x; rotate_left; clear_value x; rotate_right)
    | (extract_lets +onlyGivenNames x; clear_value x)
    | with_reducible apply Kept.ite
    | with_reducible apply State.estimate_kept
    | with_reducible apply State.evalDie_kept
    | with_reducible apply State.forEach_kept
    | with_reducible apply State.railThrottle_kept
    | with_reducible apply State.throttleTimes_kept
    | (with_reducible apply Kept.mk'; first | with_reducible assumption | (with_reducible apply Kept.mk'; with_reducible assumption) | with_reducible apply State.estimate_kept | with_reducible apply State.evalDie_kept | with_reducible apply State.forEach_kept | with_reducible apply State.railThrottle_kept | with_reducible apply State.throttleTimes_kept)

theorem State.earlyRise_kept {s₀ : State} (s : State) (d : Nat) (hk : Kept s₀ s) :
    Kept s₀ (State.earlyRise s d) := by
  unfold State.earlyRise
  repeat' first
    | with_reducible assumption
    | (extract_lets +onlyGivenNames x; clear_value x)
    | with_reducible apply Kept.ite
    | with_reducible apply State.changePoint_kept
    | with_reducible apply State.setDiePt_kept
    | split

theorem State.holdOver_kept {s₀ : State} (s : State) (d : Nat) (hk : Kept s₀ s) :
    Kept s₀ (State.holdOver s d) := by
  unfold State.holdOver
  repeat' first
    | with_reducible assumption
    | (extract_lets +onlyGivenNames x; clear_value x)
    | with_reducible apply Kept.ite
    | with_reducible apply State.changePoint_kept
    | with_reducible apply State.setDiePt_kept

theorem State.applyPoints_kept {s₀ : State} (s : State) (hk : Kept s₀ s) :
    Kept s₀ (State.applyPoints s) := by
  unfold State.applyPoints
  repeat' first
    | with_reducible assumption
    | intro _
    | with_reducible apply State.applyPoint_kept
    | with_reducible apply State.forEach_kept

theorem State.alert_kept {s₀ : State} (s : State) (hk : Kept s₀ s) :
    Kept s₀ (State.alert s) := by
  unfold State.alert
  repeat' first
    | with_reducible assumption
    | intro _
    | (extract_lets +onlyGivenNames x; refine Kept.cut (s₀ := s₀) (x := x) ?_ (fun hx => ?_); unfold x; clear x; rotate_left; clear_value x; rotate_right)
    | (extract_lets +onlyGivenNames x; clear_value x)
    | with_reducible apply Kept.ite
    | with_reducible apply State.applyPoint_kept
    | with_reducible apply State.changePoint_kept
    | with_reducible apply State.count_kept
    | with_reducible apply State.forEach_kept
    | (with_reducible apply Kept.mk'; first | with_reducible assumption | (with_reducible apply Kept.mk'; with_reducible assumption) | with_reducible apply State.applyPoint_kept | with_reducible apply State.changePoint_kept | with_reducible apply State.count_kept | with_reducible apply State.forEach_kept)

theorem State.alertRise_kept {s₀ : State} (s : State) (hk : Kept s₀ s) :
    Kept s₀ (State.alertRise s) := by
  unfold State.alertRise
  repeat' first
    | with_reducible assumption
    | (extract_lets +onlyGivenNames x; refine Kept.cut (s₀ := s₀) (x := x) ?_ (fun hx => ?_); unfold x; clear x; rotate_left; clear_value x; rotate_right)
    | (extract_lets +onlyGivenNames x; clear_value x)
    | with_reducible apply Kept.ite
    | with_reducible apply State.count64_kept
    | (with_reducible apply Kept.mk'; first | with_reducible assumption | (with_reducible apply Kept.mk'; with_reducible assumption) | with_reducible apply State.count64_kept)

theorem State.alertEnd_kept {s₀ : State} (s : State) (hk : Kept s₀ s) :
    Kept s₀ (State.alertEnd s) := by
  unfold State.alertEnd
  repeat' first
    | with_reducible assumption
    | (extract_lets +onlyGivenNames x; clear_value x)
    | with_reducible apply Kept.ite
    | with_reducible apply State.applyPoints_kept
    | (with_reducible apply Kept.mk'; first | with_reducible assumption | (with_reducible apply Kept.mk'; with_reducible assumption) | with_reducible apply State.applyPoints_kept)

theorem State.limitCheck_kept {s₀ : State} (s : State) (hk : Kept s₀ s) :
    Kept s₀ (State.limitCheck s) := by
  unfold State.limitCheck
  repeat' first
    | with_reducible assumption
    | (extract_lets +onlyGivenNames x; clear_value x)
    | with_reducible apply Kept.ite
    | with_reducible apply State.applyPoints_kept
    | (with_reducible apply Kept.mk'; first | with_reducible assumption | (with_reducible apply Kept.mk'; with_reducible assumption) | with_reducible apply State.applyPoints_kept)

theorem State.judgeConditions_kept {s₀ : State} (s : State) (hk : Kept s₀ s) :
    Kept s₀ (State.judgeConditions s) := by
  unfold State.judgeConditions
  repeat' first
    | with_reducible assumption
    | (extract_lets +onlyGivenNames x; refine Kept.cut (s₀ := s₀) (x := x) ?_ (fun hx => ?_); unfold x; clear x; rotate_left; clear_value x; rotate_right)
    | (extract_lets +onlyGivenNames x; clear_value x)
    | with_reducible apply Kept.ite
    | (with_reducible apply Kept.mk'; first | with_reducible assumption | (with_reducible apply Kept.mk'; with_reducible assumption))

theorem State.calibrate_kept {s₀ : State} (s : State) (r mv ma mw : Nat) (hk : Kept s₀ s) :
    Kept s₀ (State.calibrate s r mv ma mw) := by
  unfold State.calibrate
  repeat' first
    | with_reducible assumption
    | (extract_lets +onlyGivenNames x; refine Kept.cut (s₀ := s₀) (x := x) ?_ (fun hx => ?_); unfold x; clear x; rotate_left; clear_value x; rotate_right)
    | (extract_lets +onlyGivenNames x; clear_value x)
    | with_reducible apply Kept.ite
    | with_reducible apply State.event_kept
    | with_reducible apply State.judgeConditions_kept
    | with_reducible apply State.setNat_kept
    | with_reducible apply State.setRail_kept

theorem State.divide_kept {s₀ : State} (s : State) (sum rest : Nat) (total : Option Nat) (left : Nat) (mine : Nat → Nat) (all : Nat) (hk : Kept s₀ s) :
    Kept s₀ (State.divide s sum rest total left mine all).2 := by
  unfold State.divide
  repeat' first
    | with_reducible assumption
    | intro _
    | (extract_lets +onlyGivenNames x; refine Kept.cut (s₀ := s₀) (x := x) ?_ (fun hx => ?_); unfold x; clear x; rotate_left; clear_value x; rotate_right)
    | (extract_lets +onlyGivenNames x; clear_value x)
    | with_reducible apply State.count64_kept
    | with_reducible apply State.forEach_kept
    | split

theorem State.moduleShares_kept {s₀ : State} (s : State) (mj : Nat) (hk : Kept s₀ s) :
    Kept s₀ (State.moduleShares s mj) := by
  unfold State.moduleShares
  repeat' first
    | with_reducible assumption
    | intro _
    | (extract_lets +onlyGivenNames x; refine Kept.cut (s₀ := s₀) (x := x.2) ?_ (fun hx => ?_); unfold x; clear x; rotate_left; clear_value x; rotate_right)
    | (extract_lets +onlyGivenNames x; (have f := fun a => x a); clear f; unfold x; clear x; dsimp -zeta -failIfUnchanged only)
    | (extract_lets +onlyGivenNames x; clear_value x)
    | with_reducible apply State.count64_kept
    | with_reducible apply State.draw_kept
    | with_reducible apply foldl_kept2

theorem State.energyInterval_kept {s₀ : State} (s : State) (hk : Kept s₀ s) :
    Kept s₀ (State.energyInterval s) := by
  unfold State.energyInterval
  repeat' first
    | with_reducible assumption
    | intro _
    | (extract_lets +onlyGivenNames x; refine Kept.cut (s₀ := s₀) (x := x) ?_ (fun hx => ?_); unfold x; clear x; rotate_left; clear_value x; rotate_right)
    | (extract_lets +onlyGivenNames x; refine Kept.cut (s₀ := s₀) (x := x.2) ?_ (fun hx => ?_); unfold x; clear x; rotate_left; clear_value x; rotate_right)
    | (extract_lets +onlyGivenNames x; clear_value x)
    | with_reducible apply State.count64_kept
    | with_reducible apply State.divide_kept
    | with_reducible apply State.forEach_kept
    | with_reducible apply State.judgeConditions_kept
    | with_reducible apply State.moduleShares_kept
    | with_reducible apply State.setDiePt_kept
    | (with_reducible apply Kept.mk'; first | with_reducible assumption | (with_reducible apply Kept.mk'; with_reducible assumption) | with_reducible apply State.count64_kept | with_reducible apply State.divide_kept | with_reducible apply State.forEach_kept | with_reducible apply State.judgeConditions_kept | with_reducible apply State.moduleShares_kept | with_reducible apply State.setDiePt_kept)

end Sys2Proof.Machine
end

