-- ==== Sys2Proof/Laws/KeptThermal.lean ====
section
/-! SUPPORT. What every operation of Machine/Thermal.lean keeps: see Kept in Laws/Kept.lean. -/

namespace Sys2Proof.Machine

theorem State.stackFault_kept {s₀ : State} (s : State) (k cls code detail : Nat) (hk : Kept s₀ s) :
    Kept s₀ (State.stackFault s k cls code detail) := by
  unfold State.stackFault
  repeat' first
    | with_reducible assumption
    | with_reducible apply Kept.ite
    | with_reducible apply State.raise_kept

theorem State.throttleDie_kept {s₀ : State} (s : State) (d : Nat) (hk : Kept s₀ s) :
    Kept s₀ (State.throttleDie s d) := by
  unfold State.throttleDie
  repeat' first
    | with_reducible assumption
    | (extract_lets +onlyGivenNames x; clear_value x)
    | with_reducible apply Kept.ite
    | with_reducible apply State.applyPoint_kept
    | with_reducible apply State.setDiePt_kept

theorem State.throttleEnds_kept {s₀ : State} (s : State) (l : List Nat) (hk : Kept s₀ s) :
    Kept s₀ (State.throttleEnds s l) := by
  unfold State.throttleEnds
  repeat' first
    | with_reducible assumption
    | intro _
    | (extract_lets +onlyGivenNames x; clear_value x)
    | with_reducible apply State.forEach_kept
    | with_reducible apply State.setDiePt_kept

theorem State.judgeLevels_kept {s₀ : State} (s : State) (c : Nat) (v : Int) (hk : Kept s₀ s) :
    Kept s₀ (State.judgeLevels s c v) := by
  unfold State.judgeLevels
  repeat' first
    | with_reducible assumption
    | intro _
    | (extract_lets +onlyGivenNames x; (have f : Prop := x); clear f; unfold x; clear x)
    | (extract_lets +onlyGivenNames x; refine Kept.cut (s₀ := s₀) (x := x) ?_ (fun hx => ?_); unfold x; clear x; rotate_left; clear_value x; rotate_right)
    | (extract_lets +onlyGivenNames x; clear_value x)
    | with_reducible apply Kept.ite
    | with_reducible apply State.event_kept
    | with_reducible apply State.forEach_kept
    | with_reducible apply State.setChan_kept
    | with_reducible apply State.throttleDie_kept
    | with_reducible apply State.throttleEnds_kept

theorem State.judgeLimit_kept {s₀ : State} (s : State) (c : Nat) (limit : Bool) (hk : Kept s₀ s) :
    Kept s₀ (State.judgeLimit s c limit) := by
  unfold State.judgeLimit
  repeat' first
    | with_reducible assumption
    | (extract_lets +onlyGivenNames x; refine Kept.cut (s₀ := s₀) (x := x) ?_ (fun hx => ?_); unfold x; clear x; rotate_left; clear_value x; rotate_right)
    | (extract_lets +onlyGivenNames x; clear_value x)
    | with_reducible apply Kept.ite
    | with_reducible apply State.setChan_kept
    | with_reducible apply State.stackFault_kept
    | with_reducible apply State.thermalShutdown_kept

theorem State.judgeValue_kept {s₀ : State} (s : State) (c : Nat) (v : Int) (hk : Kept s₀ s) :
    Kept s₀ (State.judgeValue s c v) := by
  unfold State.judgeValue
  repeat' first
    | with_reducible assumption
    | (extract_lets +onlyGivenNames x; clear_value x)
    | with_reducible apply State.judgeLevels_kept
    | with_reducible apply State.judgeLimit_kept

theorem State.goodValue_kept {s₀ : State} (s : State) (c : Nat) (v : Int) (hk : Kept s₀ s) :
    Kept s₀ (State.goodValue s c v) := by
  unfold State.goodValue
  repeat' first
    | with_reducible assumption
    | (extract_lets +onlyGivenNames x; refine Kept.cut (s₀ := s₀) (x := x) ?_ (fun hx => ?_); unfold x; clear x; rotate_left; clear_value x; rotate_right)
    | (extract_lets +onlyGivenNames x; clear_value x)
    | with_reducible apply State.judgeValue_kept
    | with_reducible apply State.publish_kept
    | with_reducible apply State.setChan_kept
    | with_reducible apply State.setNat_kept
    | with_reducible apply State.setNum_kept

theorem State.brokenValue_kept {s₀ : State} (s : State) (c : Nat) (hk : Kept s₀ s) :
    Kept s₀ (State.brokenValue s c) := by
  unfold State.brokenValue
  repeat' first
    | with_reducible assumption
    | with_reducible apply State.judgeValue_kept
    | with_reducible apply State.setNat_kept
    | with_reducible apply State.setNum_kept
    | split

theorem State.mendChan_kept {s₀ : State} (s : State) (c : Nat) (hk : Kept s₀ s) :
    Kept s₀ (State.mendChan s c) := by
  unfold State.mendChan
  repeat' first
    | with_reducible assumption
    | (extract_lets +onlyGivenNames x; clear_value x)
    | with_reducible apply State.setChan_kept
    | with_reducible apply State.setNat_kept

theorem State.readChan_kept {s₀ : State} (s : State) (c : Nat) (r : Reading) (hk : Kept s₀ s) :
    Kept s₀ (State.readChan s c r) := by
  unfold State.readChan
  repeat' first
    | with_reducible assumption
    | (extract_lets +onlyGivenNames x; refine Kept.cut (s₀ := s₀) (x := x) ?_ (fun hx => ?_); unfold x; clear x; rotate_left; clear_value x; rotate_right)
    | (extract_lets +onlyGivenNames x; clear_value x)
    | with_reducible apply Kept.ite
    | with_reducible apply State.breakChan_kept
    | with_reducible apply State.brokenValue_kept
    | with_reducible apply State.goodValue_kept
    | with_reducible apply State.judgeLimit_kept
    | with_reducible apply State.mendChan_kept
    | with_reducible apply State.setChan_kept
    | split

theorem State.roundEnd_kept {s₀ : State} (s : State) (hk : Kept s₀ s) :
    Kept s₀ (State.roundEnd s) := by
  unfold State.roundEnd
  repeat' first
    | with_reducible assumption
    | intro _
    | (extract_lets +onlyGivenNames x; clear_value x)
    | with_reducible apply Kept.ite
    | with_reducible apply State.count_kept
    | with_reducible apply State.forEach_kept
    | with_reducible apply State.judgeConditions_kept
    | with_reducible apply State.throttleDie_kept
    | with_reducible apply State.throttleEnds_kept
    | (with_reducible apply Kept.mk'; first | with_reducible assumption | (with_reducible apply Kept.mk'; with_reducible assumption) | with_reducible apply State.count_kept | with_reducible apply State.forEach_kept | with_reducible apply State.judgeConditions_kept | with_reducible apply State.setNat_kept | with_reducible apply State.throttleDie_kept | with_reducible apply State.throttleEnds_kept)

theorem State.housekeeping_kept {s₀ : State} (s : State) (c : Nat) (r : Reading) (hk : Kept s₀ s) :
    Kept s₀ (State.housekeeping s c r) := by
  unfold State.housekeeping
  repeat' first
    | with_reducible assumption
    | (extract_lets +onlyGivenNames x; refine Kept.cut (s₀ := s₀) (x := x) ?_ (fun hx => ?_); unfold x; clear x; rotate_left; clear_value x; rotate_right)
    | with_reducible apply Kept.ite
    | with_reducible apply State.readChan_kept
    | with_reducible apply State.roundEnd_kept
    | with_reducible apply State.setNat_kept

theorem State.relaxDie_kept {s₀ : State} (s : State) (d : Nat) (hk : Kept s₀ s) :
    Kept s₀ (State.relaxDie s d) := by
  unfold State.relaxDie
  repeat' first
    | with_reducible assumption
    | (extract_lets +onlyGivenNames x; refine Kept.cut (s₀ := s₀) (x := x) ?_ (fun hx => ?_); unfold x; clear x; rotate_left; clear_value x; rotate_right)
    | (extract_lets +onlyGivenNames x; clear_value x)
    | with_reducible apply Kept.ite
    | with_reducible apply State.applyPoint_kept
    | with_reducible apply State.setDiePt_kept
    | with_reducible apply State.setNat_kept

end Sys2Proof.Machine
end

