-- ==== Sys2Proof/Laws/KeptFaults.lean ====
section
/-! SUPPORT. What every operation of Machine/Faults.lean keeps: see Kept in Laws/Kept.lean. -/

namespace Sys2Proof.Machine

theorem State.ackWrite_kept {s₀ : State} (s : State) (b v : Nat) (hk : Kept s₀ s) :
    Kept s₀ (State.ackWrite s b v).2 := by
  unfold State.ackWrite
  repeat' first
    | with_reducible assumption
    | with_reducible apply Kept.ite2
    | with_reducible apply State.ackBlock_kept

theorem State.ackAll_kept {s₀ : State} (s : State) (v : Nat) (hk : Kept s₀ s) :
    Kept s₀ (State.ackAll s v).2 := by
  unfold State.ackAll
  repeat' first
    | with_reducible assumption
    | intro _
    | with_reducible apply Kept.ite2
    | with_reducible apply State.ackBlock_kept
    | with_reducible apply State.forEach_kept

theorem State.blockCommand_kept {s₀ : State} (s : State) (b v : Nat) (hk : Kept s₀ s) :
    Kept s₀ (State.blockCommand s b v).2 := by
  unfold State.blockCommand
  repeat' first
    | with_reducible assumption
    | (extract_lets +onlyGivenNames x; refine Kept.cut (s₀ := s₀) (x := x) ?_ (fun hx => ?_); unfold x; clear x; rotate_left; clear_value x; rotate_right)
    | (extract_lets +onlyGivenNames x; clear_value x)
    | with_reducible apply Kept.ite2
    | with_reducible apply State.setNat_kept
    | (with_reducible apply Kept.mk'; first | with_reducible assumption | (with_reducible apply Kept.mk'; with_reducible assumption) | with_reducible apply State.setNat_kept)

theorem State.retrainGroup_kept {s₀ : State} (s : State) (h l : Nat) (hk : Kept s₀ s) :
    Kept s₀ (State.retrainGroup s h l) := by
  unfold State.retrainGroup
  repeat' first
    | with_reducible assumption
    | intro _
    | with_reducible apply State.forEach_kept
    | with_reducible apply State.laneStart_kept

theorem State.blockReturn_kept {s₀ : State} (s : State) (h l : Nat) (hk : Kept s₀ s) :
    Kept s₀ (State.blockReturn s h l) := by
  unfold State.blockReturn
  repeat' first
    | with_reducible assumption
    | intro _
    | (extract_lets +onlyGivenNames x; refine Kept.cut (s₀ := s₀) (x := x) ?_ (fun hx => ?_); unfold x; clear x; rotate_left; clear_value x; rotate_right)
    | (extract_lets +onlyGivenNames x; clear_value x)
    | with_reducible apply Kept.ite
    | with_reducible apply State.forEach_kept
    | with_reducible apply State.rechoose_kept
    | with_reducible apply State.retrainGroup_kept
    | with_reducible apply State.retryReplacements_kept
    | with_reducible apply State.ringRestart_kept
    | with_reducible apply State.setNat_kept
    | with_reducible apply State.setPower_kept

theorem State.testComplete_kept {s₀ : State} (s : State) (b : Nat) (pass : Bool) (hk : Kept s₀ s) :
    Kept s₀ (State.testComplete s b pass) := by
  unfold State.testComplete
  repeat' first
    | with_reducible assumption
    | (extract_lets +onlyGivenNames x; (have f := fun a => x a); clear f; unfold x; clear x; dsimp -zeta -failIfUnchanged only)
    | (extract_lets +onlyGivenNames x; clear_value x)
    | with_reducible apply Kept.ite
    | with_reducible apply State.blockReturn_kept
    | with_reducible apply State.openRecovery_kept
    | with_reducible apply State.setNat_kept
    | (with_reducible apply Kept.mk'; first | with_reducible assumption | (with_reducible apply Kept.mk'; with_reducible assumption) | with_reducible apply State.blockCommand_kept | with_reducible apply State.blockReturn_kept | with_reducible apply State.openRecovery_kept | with_reducible apply State.raise_kept | with_reducible apply State.setNat_kept)

theorem State.testPulse_kept {s₀ : State} (s : State) (b : Nat) (echoed : Bool) (hk : Kept s₀ s) :
    Kept s₀ (State.testPulse s b echoed) := by
  unfold State.testPulse
  repeat' first
    | with_reducible assumption
    | with_reducible apply Kept.ite
    | with_reducible apply State.raise_kept

end Sys2Proof.Machine
end

