-- ==== Sys2Proof/Laws/KeptPecan.lean ====
section
/-! SUPPORT. What every operation of Machine/Pecan.lean keeps: see Kept in Laws/Kept.lean. -/

namespace Sys2Proof.Machine

theorem State.arrayFault_kept {s₀ : State} (s : State) (g cause : Nat) (hk : Kept s₀ s) :
    Kept s₀ (State.arrayFault s g cause) := by
  unfold State.arrayFault
  repeat' first
    | with_reducible assumption
    | (extract_lets +onlyGivenNames x; clear_value x)
    | with_reducible apply Kept.ite
    | with_reducible apply State.raise_kept
    | with_reducible apply State.setNat_kept

theorem State.arrayTestDone_kept {s₀ : State} (s : State) (g : Nat) (pass : Bool) (hk : Kept s₀ s) :
    Kept s₀ (State.arrayTestDone s g pass) := by
  unfold State.arrayTestDone
  repeat' first
    | with_reducible assumption
    | (extract_lets +onlyGivenNames x; refine Kept.cut (s₀ := s₀) (x := x) ?_ (fun hx => ?_); unfold x; clear x; rotate_left; clear_value x; rotate_right)
    | (extract_lets +onlyGivenNames x; clear_value x)
    | with_reducible apply Kept.ite
    | with_reducible apply State.openRecovery_kept
    | with_reducible apply State.raise_kept
    | with_reducible apply State.rechoose_kept
    | with_reducible apply State.retryReplacements_kept
    | with_reducible apply State.setArr_kept
    | with_reducible apply State.setNat_kept
    | with_reducible apply State.setPower_kept

theorem State.selfTest_kept {s₀ : State} (s : State) (g : Nat) (pass : Bool) (hk : Kept s₀ s) :
    Kept s₀ (State.selfTest s g pass) := by
  unfold State.selfTest
  repeat' first
    | with_reducible assumption
    | (extract_lets +onlyGivenNames x; clear_value x)
    | with_reducible apply Kept.ite
    | with_reducible apply State.arrayFault_kept
    | with_reducible apply State.arrayTestDone_kept
    | with_reducible apply State.setArr_kept

theorem State.arrayCmd_kept {s₀ : State} (s : State) (g v : Nat) (hk : Kept s₀ s) :
    Kept s₀ (State.arrayCmd s g v).2 := by
  unfold State.arrayCmd
  repeat' first
    | with_reducible assumption
    | (extract_lets +onlyGivenNames x; refine Kept.cut (s₀ := s₀) (x := x) ?_ (fun hx => ?_); unfold x; clear x; rotate_left; clear_value x; rotate_right)
    | (extract_lets +onlyGivenNames x; clear_value x)
    | with_reducible apply Kept.ite2
    | with_reducible apply State.arrayOut_kept
    | with_reducible apply State.runReplacements_kept
    | with_reducible apply State.setArr_kept
    | with_reducible apply State.setNat_kept
    | split

theorem State.wakeStart_kept {s₀ : State} (s : State) (g : Nat) (hk : Kept s₀ s) :
    Kept s₀ (State.wakeStart s g) := by
  unfold State.wakeStart
  repeat' first
    | with_reducible assumption
    | (extract_lets +onlyGivenNames x; clear_value x)
    | with_reducible apply Kept.ite
    | with_reducible apply State.startWake_kept
    | split

theorem State.wakeContents_kept {s₀ : State} (s : State) (g : Nat) (hk : Kept s₀ s) :
    Kept s₀ (State.wakeContents s g) := by
  unfold State.wakeContents
  repeat' first
    | with_reducible assumption
    | (extract_lets +onlyGivenNames x; refine Kept.cut (s₀ := s₀) (x := x.2) ?_ (fun hx => ?_); unfold x; clear x; rotate_left; clear_value x; rotate_right)
    | (extract_lets +onlyGivenNames x; clear_value x)
    | with_reducible apply Kept.ite
    | with_reducible apply State.draw_kept
    | with_reducible apply State.setArr_kept

theorem State.wakeDone_kept {s₀ : State} (s : State) (g : Nat) (pass : Bool) (hk : Kept s₀ s) :
    Kept s₀ (State.wakeDone s g pass) := by
  unfold State.wakeDone
  repeat' first
    | with_reducible assumption
    | (extract_lets +onlyGivenNames x; refine Kept.cut (s₀ := s₀) (x := x) ?_ (fun hx => ?_); unfold x; clear x; rotate_left; clear_value x; rotate_right)
    | (extract_lets +onlyGivenNames x; clear_value x)
    | with_reducible apply Kept.ite
    | with_reducible apply State.arrayFault_kept
    | with_reducible apply State.rechoose_kept
    | with_reducible apply State.setArr_kept
    | with_reducible apply State.setPower_kept
    | with_reducible apply State.wakeContents_kept

theorem State.entryComplete_kept {s₀ : State} (s : State) (g : Nat) (hk : Kept s₀ s) :
    Kept s₀ (State.entryComplete s g) := by
  unfold State.entryComplete
  repeat' first
    | with_reducible assumption
    | (extract_lets +onlyGivenNames x; refine Kept.cut (s₀ := s₀) (x := x) ?_ (fun hx => ?_); unfold x; clear x; rotate_left; clear_value x; rotate_right)
    | (extract_lets +onlyGivenNames x; clear_value x)
    | with_reducible apply Kept.ite
    | with_reducible apply State.setArr_kept
    | with_reducible apply State.setPower_kept
    | with_reducible apply State.startWake_kept

theorem State.lineBad_kept {s₀ : State} (s : State) (g line : Nat) (hk : Kept s₀ s) :
    Kept s₀ (State.lineBad s g line) := by
  unfold State.lineBad
  repeat' first
    | with_reducible assumption
    | (extract_lets +onlyGivenNames x; refine Kept.cut (s₀ := s₀) (x := x) ?_ (fun hx => ?_); unfold x; clear x; rotate_left; clear_value x; rotate_right)
    | (extract_lets +onlyGivenNames x; clear_value x)
    | with_reducible apply Kept.ite
    | with_reducible apply State.arrayFault_kept
    | with_reducible apply State.count_kept
    | with_reducible apply State.raise_kept
    | with_reducible apply State.setArr_kept

theorem State.scrubLine_kept {s₀ : State} (s : State) (g : Nat) (bundle : Bool) (line errors : Nat) (hk : Kept s₀ s) :
    Kept s₀ (State.scrubLine s g bundle line errors) := by
  unfold State.scrubLine
  repeat' first
    | with_reducible assumption
    | (extract_lets +onlyGivenNames x; clear_value x)
    | with_reducible apply Kept.ite
    | with_reducible apply State.arrayFault_kept
    | with_reducible apply State.count_kept
    | with_reducible apply State.lineBad_kept

theorem State.tableCompare_kept {s₀ : State} (s : State) (g : Nat) (upset : Option (Nat × Nat)) (hk : Kept s₀ s) :
    Kept s₀ (State.tableCompare s g upset) := by
  unfold State.tableCompare
  repeat' first
    | with_reducible assumption
    | (extract_lets +onlyGivenNames x; refine Kept.cut (s₀ := s₀) (x := x) ?_ (fun hx => ?_); unfold x; clear x; rotate_left; clear_value x; rotate_right)
    | (extract_lets +onlyGivenNames x; clear_value x)
    | with_reducible apply Kept.ite
    | with_reducible apply State.arrayFault_kept
    | with_reducible apply State.setArr_kept

theorem State.linkFails_kept {s₀ : State} (s : State) (d : Nat) (hk : Kept s₀ s) :
    Kept s₀ (State.linkFails s d) := by
  unfold State.linkFails
  repeat' first
    | with_reducible assumption
    | with_reducible apply Kept.ite
    | with_reducible apply State.count_kept
    | with_reducible apply State.dieLinkFault_kept

theorem State.linkRetrain_kept {s₀ : State} (s : State) (d : Nat) (up : Bool) (hk : Kept s₀ s) :
    Kept s₀ (State.linkRetrain s d up) := by
  unfold State.linkRetrain
  repeat' first
    | with_reducible assumption
    | (extract_lets +onlyGivenNames x; clear_value x)
    | with_reducible apply Kept.ite
    | (with_reducible apply Kept.mk'; first | with_reducible assumption | (with_reducible apply Kept.mk'; with_reducible assumption))
    | split

theorem State.linkRestored_kept {s₀ : State} (s : State) (d : Nat) (hk : Kept s₀ s) :
    Kept s₀ (State.linkRestored s d) := by
  unfold State.linkRestored
  repeat' first
    | with_reducible assumption
    | with_reducible apply Kept.ite
    | with_reducible apply State.dieLinkBack_kept
    | split

theorem State.haltDie_kept {s₀ : State} (s : State) (d : Nat) (hk : Kept s₀ s) :
    Kept s₀ (State.haltDie s d) := by
  unfold State.haltDie
  repeat' first
    | with_reducible assumption
    | (extract_lets +onlyGivenNames x; clear_value x)
    | with_reducible apply Kept.ite
    | (with_reducible apply Kept.mk'; first | with_reducible assumption | (with_reducible apply Kept.mk'; with_reducible assumption))

end Sys2Proof.Machine
end

