-- ==== Sys2Proof/Laws/KeptSequencer.lean ====
section
/-! SUPPORT. What every operation of Machine/Sequencer.lean keeps: see Kept in Laws/Kept.lean. -/

namespace Sys2Proof.Machine

theorem State.raiseFlags_kept {s₀ : State} (s : State) (g : Nat) (r : PartRef) (fl : Nat) (hk : Kept s₀ s) :
    Kept s₀ (State.raiseFlags s g r fl) := by
  unfold State.raiseFlags
  repeat' first
    | with_reducible assumption
    | with_reducible apply Kept.ite
    | with_reducible apply State.setNat_kept
    | with_reducible apply State.updPart_kept

theorem State.slotOp_kept {s₀ : State} (s : State) (g : Nat) (reads : List Nat) (f : ArrSt → PartSt → Except Nat (ArrSt × Nat)) (hk : Kept s₀ s) :
    Kept s₀ (State.slotOp s g reads f) := by
  unfold State.slotOp
  repeat' first
    | with_reducible assumption
    | (extract_lets +onlyGivenNames x; clear_value x)
    | with_reducible apply Kept.ite
    | with_reducible apply State.raiseFlags_kept
    | with_reducible apply State.setArr_kept
    | with_reducible apply State.stopNow_kept
    | split

theorem State.slotPure_kept {s₀ : State} (s : State) (g : Nat) (reads : List Nat) (f : ArrSt → ArrSt) (hk : Kept s₀ s) :
    Kept s₀ (State.slotPure s g reads f) := by
  unfold State.slotPure
  repeat' first
    | with_reducible assumption
    | with_reducible apply State.slotOp_kept

theorem State.scalarOp_kept {s₀ : State} (s : State) (g : Nat) (reads : List Nat) (d : Nat) (f : ArrSt → Flagged Nat) (hk : Kept s₀ s) :
    Kept s₀ (State.scalarOp s g reads d f) := by
  unfold State.scalarOp
  repeat' first
    | with_reducible assumption
    | with_reducible apply State.slotOp_kept

theorem State.nop_kept {s₀ : State} (s : State) (g slot : Nat) (hk : Kept s₀ s) :
    Kept s₀ (State.nop s g slot) := by
  unfold State.nop
  repeat' first
    | with_reducible assumption
    | with_reducible apply State.slotPure_kept

theorem State.scalar2_kept {s₀ : State} (s : State) (g d a b : Nat) (f : Nat → Nat → Nat) (hk : Kept s₀ s) :
    Kept s₀ (State.scalar2 s g d a b f) := by
  unfold State.scalar2
  repeat' first
    | with_reducible assumption
    | with_reducible apply State.scalarOp_kept

theorem State.waitDone_kept {s₀ : State} (s : State) (g : Nat) (hk : Kept s₀ s) :
    Kept s₀ (State.waitDone s g) := by
  unfold State.waitDone
  repeat' first
    | with_reducible assumption
    | (extract_lets +onlyGivenNames x; clear_value x)
    | with_reducible apply Kept.ite
    | with_reducible apply State.setArr_kept
    | split

theorem State.readSys_kept {s₀ : State} (s : State) (g d sel : Nat) (hk : Kept s₀ s) :
    Kept s₀ (State.readSys s g d sel) := by
  unfold State.readSys
  repeat' first
    | with_reducible assumption
    | (extract_lets +onlyGivenNames x; refine Kept.cut (s₀ := s₀) (x := x) ?_ (fun hx => ?_); unfold x; clear x; rotate_left; clear_value x; rotate_right)
    | (extract_lets +onlyGivenNames x; clear_value x)
    | with_reducible apply Kept.ite
    | with_reducible apply State.draw_kept
    | with_reducible apply State.scalarOp_kept
    | split

theorem State.enterPhase_kept {s₀ : State} (s : State) (g n : Nat) (hk : Kept s₀ s) :
    Kept s₀ (State.enterPhase s g n) := by
  unfold State.enterPhase
  repeat' first
    | with_reducible assumption
    | (extract_lets +onlyGivenNames x; clear_value x)
    | with_reducible apply Kept.ite
    | with_reducible apply State.slotPure_kept
    | with_reducible apply State.updPart_kept
    | split

end Sys2Proof.Machine
end

