-- ==== Sys2Proof/Laws/KeptEdge.lean ====
section
/-! SUPPORT. What every operation of Machine/Edge.lean keeps: see Kept in Laws/Kept.lean. -/

namespace Sys2Proof.Machine


end Sys2Proof.Machine
end

