-- ==== Sys2Proof/Laws/KeptVector.lean ====
section
/-! SUPPORT. What every operation of Machine/Vector.lean keeps: see Kept in Laws/Kept.lean. -/

namespace Sys2Proof.Machine

theorem State.vecOp_kept {s₀ : State} (s : State) (g : Nat) (reads : List Nat) (d lat : Nat) (f : ArrSt → Flagged (List Nat)) (hk : Kept s₀ s) :
    Kept s₀ (State.vecOp s g reads d lat f) := by
  unfold State.vecOp
  repeat' first
    | with_reducible assumption
    | with_reducible apply State.slotOp_kept

theorem State.vec2_kept {s₀ : State} (s : State) (g d a b lat : Nat) (f : Nat → Nat → Flagged Nat) (hk : Kept s₀ s) :
    Kept s₀ (State.vec2 s g d a b lat f) := by
  unfold State.vec2
  repeat' first
    | with_reducible assumption
    | with_reducible apply State.vecOp_kept

theorem State.vec1_kept {s₀ : State} (s : State) (g d a lat : Nat) (f : Nat → Flagged Nat) (hk : Kept s₀ s) :
    Kept s₀ (State.vec1 s g d a lat f) := by
  unfold State.vec1
  repeat' first
    | with_reducible assumption
    | with_reducible apply State.vecOp_kept

theorem State.lookup_kept {s₀ : State} (s : State) (g d a t : Nat) (interp : Bool) (hk : Kept s₀ s) :
    Kept s₀ (State.lookup s g d a t interp) := by
  unfold State.lookup
  repeat' first
    | with_reducible assumption
    | with_reducible apply State.slotOp_kept

end Sys2Proof.Machine
end

