-- ==== Sys2Proof/Laws/KeptStore.lean ====
section
/-! SUPPORT. What every operation of Machine/Store.lean keeps: see Kept in Laws/Kept.lean. -/

namespace Sys2Proof.Machine

theorem State.loadOp_kept {s₀ : State} (s : State) (g : Nat) (a offset n : Nat) (reads : List Nat) (f : ArrSt → List Nat → ArrSt) (hk : Kept s₀ s) :
    Kept s₀ (State.loadOp s g a offset n reads f) := by
  unfold State.loadOp
  repeat' first
    | with_reducible assumption
    | with_reducible apply State.slotOp_kept

theorem State.xfer_kept {s₀ : State} (s : State) (g a offset : Nat) (hk : Kept s₀ s) :
    Kept s₀ (State.xfer s g a offset) := by
  unfold State.xfer
  repeat' first
    | with_reducible assumption
    | with_reducible apply State.slotOp_kept
    | split

theorem State.putStack_kept {s₀ : State} (s : State) (d o : Nat) (b : List Nat) (hk : Kept s₀ s) :
    Kept s₀ (State.putStack s d o b) := by
  unfold State.putStack
  repeat' first
    | with_reducible assumption
    | intro _
    | with_reducible apply State.forEach_kept
    | with_reducible apply State.setStackBlock_kept

theorem State.xferDone_kept {s₀ : State} (s : State) (g i : Nat) (hk : Kept s₀ s) :
    Kept s₀ (State.xferDone s g i) := by
  unfold State.xferDone
  repeat' first
    | with_reducible assumption
    | (extract_lets +onlyGivenNames x; refine Kept.cut (s₀ := s₀) (x := x) ?_ (fun hx => ?_); unfold x; clear x; rotate_left; clear_value x; rotate_right)
    | (extract_lets +onlyGivenNames x; clear_value x)
    | with_reducible apply Kept.ite
    | with_reducible apply State.putStack_kept
    | with_reducible apply State.setArr_kept
    | with_reducible apply State.stopNow_kept
    | split

end Sys2Proof.Machine
end

