-- ==== Sys2Proof/Laws/KeptCrypto.lean ====
section
/-! SUPPORT. What every operation of Machine/Crypto.lean keeps: see Kept in Laws/Kept.lean. -/

namespace Sys2Proof.Machine


end Sys2Proof.Machine
end

