-- ==== Sys2Proof/Laws/KeptVerify.lean ====
section
/-! SUPPORT. What every operation of Machine/Verify.lean keeps: see Kept in Laws/Kept.lean. -/

namespace Sys2Proof.Machine


end Sys2Proof.Machine
end

