-- ==== Sys2Proof/Laws/KeptPrograms.lean ====
section
/-! SUPPORT. What every operation of Machine/Programs.lean keeps: see Kept in Laws/Kept.lean. -/

namespace Sys2Proof.Machine

theorem State.startPart_kept {s₀ : State} (s : State) (h : Nat) (q : PartSt) (pc count s15 s13 : Nat) (hk : Kept s₀ s) :
    Kept s₀ (State.startPart s h q pc count s15 s13) := by
  unfold State.startPart
  repeat' first
    | with_reducible assumption
    | (extract_lets +onlyGivenNames x; refine Kept.cut (s₀ := s₀) (x := x) ?_ (fun hx => ?_); unfold x; clear x; rotate_left; clear_value x; rotate_right)
    | (extract_lets +onlyGivenNames x; clear_value x)
    | with_reducible apply State.setArr_kept
    | with_reducible apply State.updPart_kept
    | (with_reducible apply State.freeCtr_kept; with_reducible assumption)

theorem State.leaveArray_kept {s₀ : State} (s : State) (g : Nat) (r : PartRef) (q : PartSt) (ended pc : Nat) (hk : Kept s₀ s) :
    Kept s₀ (State.leaveArray s g r q ended pc) := by
  unfold State.leaveArray
  repeat' first
    | with_reducible assumption
    | (extract_lets +onlyGivenNames x; refine Kept.cut (s₀ := s₀) (x := x) ?_ (fun hx => ?_); unfold x; clear x; rotate_left; clear_value x; rotate_right)
    | (extract_lets +onlyGivenNames x; clear_value x)
    | with_reducible apply State.setArr_kept
    | with_reducible apply State.setProg_kept
    | with_reducible apply State.updPart_kept

theorem State.unload_kept {s₀ : State} (s : State) (h : Nat) (hk : Kept s₀ s) :
    Kept s₀ (State.unload s h) := by
  unfold State.unload
  repeat' first
    | with_reducible assumption
    | with_reducible apply State.freeProg_kept
    | with_reducible apply State.stopNow_kept
    | with_reducible apply State.unbindProg_kept

theorem State.stopDue_kept {s₀ : State} (s : State) (h : Nat) (hk : Kept s₀ s) :
    Kept s₀ (State.stopDue s h) := by
  unfold State.stopDue
  repeat' first
    | with_reducible assumption
    | (extract_lets +onlyGivenNames x; clear_value x)
    | with_reducible apply Kept.ite
    | with_reducible apply State.stopNow_kept
    | with_reducible apply State.unload_kept

theorem State.sliceEnd_kept {s₀ : State} (s : State) (h : Nat) (hk : Kept s₀ s) :
    Kept s₀ (State.sliceEnd s h) := by
  unfold State.sliceEnd
  repeat' first
    | with_reducible assumption
    | (extract_lets +onlyGivenNames x; (have f : Prop := x); clear f; unfold x; clear x)
    | (extract_lets +onlyGivenNames x; clear_value x)
    | with_reducible apply Kept.ite
    | with_reducible apply State.setProg_kept
    | split

theorem State.publishOut_kept {s₀ : State} (s : State) (g h : Nat) (q : PartSt) (d : OutDesc) (hk : Kept s₀ s) :
    Kept s₀ (State.publishOut s g h q d) := by
  unfold State.publishOut
  repeat' first
    | with_reducible assumption
    | (extract_lets +onlyGivenNames x; refine Kept.cut (s₀ := s₀) (x := x) ?_ (fun hx => ?_); unfold x; clear x; rotate_left; clear_value x; rotate_right)
    | (extract_lets +onlyGivenNames x; clear_value x)
    | with_reducible apply Kept.ite
    | with_reducible apply State.publishPort_kept
    | with_reducible apply State.setArr_kept
    | with_reducible apply State.wordOp_kept
    | split

theorem State.endPart_kept {s₀ : State} (s : State) (g : Nat) (hk : Kept s₀ s) :
    Kept s₀ (State.endPart s g) := by
  unfold State.endPart
  repeat' first
    | with_reducible assumption
    | intro _
    | (extract_lets +onlyGivenNames x; refine Kept.cut (s₀ := s₀) (x := x) ?_ (fun hx => ?_); unfold x; clear x; rotate_left; clear_value x; rotate_right)
    | (extract_lets +onlyGivenNames x; clear_value x)
    | with_reducible apply Kept.ite
    | with_reducible apply State.forEach_kept
    | with_reducible apply State.leaveArray_kept
    | with_reducible apply State.publishOut_kept
    | with_reducible apply State.rechoose_kept
    | with_reducible apply State.setProg_kept
    | with_reducible apply State.sliceEnd_kept
    | with_reducible apply State.stopDue_kept
    | split

theorem State.yieldPart_kept {s₀ : State} (s : State) (g : Nat) (hk : Kept s₀ s) :
    Kept s₀ (State.yieldPart s g) := by
  unfold State.yieldPart
  repeat' first
    | with_reducible assumption
    | (extract_lets +onlyGivenNames x; clear_value x)
    | with_reducible apply Kept.ite
    | with_reducible apply State.leaveArray_kept
    | with_reducible apply State.rechoose_kept
    | with_reducible apply State.sliceEnd_kept
    | with_reducible apply State.stopDue_kept
    | split

theorem State.takeInputs_kept {s₀ : State} (s : State) (tag k : Nat) (q : PartSt) (hk : Kept s₀ s) :
    Kept s₀ (State.takeInputs s tag k q) := by
  unfold State.takeInputs
  repeat' first
    | with_reducible assumption
    | intro _
    | (extract_lets +onlyGivenNames x; refine Kept.cut (s₀ := s₀) (x := x) ?_ (fun hx => ?_); unfold x; clear x; rotate_left; clear_value x; rotate_right)
    | (extract_lets +onlyGivenNames x; clear_value x)
    | with_reducible apply Kept.ite
    | with_reducible apply State.forEach_kept
    | with_reducible apply State.setArr_kept
    | (with_reducible apply State.freeCtr_kept; with_reducible assumption)

theorem State.sageNoted_kept {s₀ : State} (s : State) (h : Nat) (hk : Kept s₀ s) :
    Kept s₀ (State.sageNoted s h) := by
  unfold State.sageNoted
  repeat' first
    | with_reducible assumption
    | (extract_lets +onlyGivenNames x; clear_value x)
    | with_reducible apply Kept.ite
    | (with_reducible apply Kept.mk'; first | with_reducible assumption | (with_reducible apply Kept.mk'; with_reducible assumption))

theorem State.sageRestored_kept {s₀ : State} (s : State) (h : Nat) (hk : Kept s₀ s) :
    Kept s₀ (State.sageRestored s h) := by
  unfold State.sageRestored
  repeat' first
    | with_reducible assumption
    | (extract_lets +onlyGivenNames x; clear_value x)
    | with_reducible apply Kept.ite
    | with_reducible apply State.setNat_kept
    | (with_reducible apply Kept.mk'; first | with_reducible assumption | (with_reducible apply Kept.mk'; with_reducible assumption) | with_reducible apply State.setNat_kept)

theorem State.takeAll_kept {s₀ : State} (s : State) (h k : Nat) (hk : Kept s₀ s) :
    Kept s₀ (State.takeAll s h k) := by
  unfold State.takeAll
  repeat' first
    | with_reducible assumption
    | intro _
    | (extract_lets +onlyGivenNames x; refine Kept.cut (s₀ := s₀) (x := x) ?_ (fun hx => ?_); unfold x; clear x; rotate_left; clear_value x; rotate_right)
    | (extract_lets +onlyGivenNames x; clear_value x)
    | with_reducible apply State.forEach_kept
    | with_reducible apply State.sageNoted_kept
    | with_reducible apply State.setProg_kept
    | with_reducible apply State.takeInputs_kept

theorem State.startTick_kept {s₀ : State} (s : State) (h k : Nat) (hk : Kept s₀ s) :
    Kept s₀ (State.startTick s h k) := by
  unfold State.startTick
  repeat' first
    | with_reducible assumption
    | intro _
    | (extract_lets +onlyGivenNames x; refine Kept.cut (s₀ := s₀) (x := x) ?_ (fun hx => ?_); unfold x; clear x; rotate_left; clear_value x; rotate_right)
    | (extract_lets +onlyGivenNames x; clear_value x)
    | with_reducible apply State.forEach_kept
    | with_reducible apply State.sageRestored_kept
    | with_reducible apply State.setProg_kept
    | with_reducible apply State.startPart_kept

theorem State.demandAll_kept {s₀ : State} (s : State) (l : List Nat) (hk : Kept s₀ s) :
    Kept s₀ (State.demandAll s l).2 := by
  unfold State.demandAll
  repeat' first
    | with_reducible assumption
    | intro _
    | (extract_lets +onlyGivenNames x; refine Kept.cut (s₀ := s₀) (x := x.2) ?_ (fun hx => ?_); unfold x; clear x; rotate_left; clear_value x; rotate_right)
    | with_reducible apply State.demandArr_kept
    | with_reducible apply foldl_kept2

theorem State.tickProg_kept {s₀ : State} (s : State) (h : Nat) (hk : Kept s₀ s) :
    Kept s₀ (State.tickProg s h) := by
  unfold State.tickProg
  repeat' first
    | with_reducible assumption
    | (extract_lets +onlyGivenNames x; refine Kept.cut (s₀ := s₀) (x := x) ?_ (fun hx => ?_); unfold x; clear x; rotate_left; clear_value x; rotate_right)
    | (extract_lets +onlyGivenNames x; refine Kept.cut (s₀ := s₀) (x := x.2) ?_ (fun hx => ?_); unfold x; clear x; rotate_left; clear_value x; rotate_right)
    | (extract_lets +onlyGivenNames x; clear_value x)
    | with_reducible apply Kept.ite
    | with_reducible apply State.demandAll_kept
    | with_reducible apply State.setProg_kept
    | with_reducible apply State.startTick_kept
    | with_reducible apply State.takeAll_kept

theorem State.fastTick_kept {s₀ : State} (s : State) (hk : Kept s₀ s) :
    Kept s₀ (State.fastTick s) := by
  unfold State.fastTick
  repeat' first
    | with_reducible assumption
    | intro _
    | (extract_lets +onlyGivenNames x; refine Kept.cut (s₀ := s₀) (x := x) ?_ (fun hx => ?_); unfold x; clear x; rotate_left; clear_value x; rotate_right)
    | with_reducible apply Kept.ite
    | with_reducible apply State.forEach_kept
    | with_reducible apply State.setNat_kept
    | with_reducible apply State.tickProg_kept

theorem State.overrun_kept {s₀ : State} (s : State) (g lane reason : Nat) (hk : Kept s₀ s) :
    Kept s₀ (State.overrun s g lane reason) := by
  unfold State.overrun
  repeat' first
    | with_reducible assumption
    | (extract_lets +onlyGivenNames x; refine Kept.cut (s₀ := s₀) (x := x) ?_ (fun hx => ?_); unfold x; clear x; rotate_left; clear_value x; rotate_right)
    | (extract_lets +onlyGivenNames x; clear_value x)
    | with_reducible apply Kept.ite
    | with_reducible apply State.setProg_kept
    | with_reducible apply State.stopNow_kept
    | with_reducible apply State.unload_kept
    | split

theorem State.periodicDue_kept {s₀ : State} (s : State) (h : Nat) (hk : Kept s₀ s) :
    Kept s₀ (State.periodicDue s h) := by
  unfold State.periodicDue
  repeat' first
    | with_reducible assumption
    | (extract_lets +onlyGivenNames x; clear_value x)
    | with_reducible apply Kept.ite
    | with_reducible apply State.setProg_kept
    | with_reducible apply State.triggerRun_kept

theorem State.rankRun_kept {s₀ : State} (s : State) (h : Nat) (hk : Kept s₀ s) :
    Kept s₀ (State.rankRun s h) := by
  unfold State.rankRun
  repeat' first
    | with_reducible assumption
    | (extract_lets +onlyGivenNames x; clear_value x)
    | with_reducible apply Kept.ite
    | with_reducible apply State.setProg_kept
    | split

theorem State.reserveArrays_kept {s₀ : State} (s : State) (runs : List Nat) (hk : Kept s₀ s) :
    Kept s₀ (State.reserveArrays s runs) := by
  unfold State.reserveArrays
  repeat' first
    | with_reducible assumption
    | intro _
    | (extract_lets +onlyGivenNames x; clear_value x)
    | with_reducible apply Kept.ite
    | with_reducible apply State.forEach_kept
    | with_reducible apply State.setArr_kept

theorem State.startSlice_kept {s₀ : State} (s : State) (h : Nat) (hk : Kept s₀ s) :
    Kept s₀ (State.startSlice s h) := by
  unfold State.startSlice
  repeat' first
    | with_reducible assumption
    | intro _
    | (extract_lets +onlyGivenNames x; refine Kept.cut (s₀ := s₀) (x := x) ?_ (fun hx => ?_); unfold x; clear x; rotate_left; clear_value x; rotate_right)
    | (extract_lets +onlyGivenNames x; (have f := fun a => x a); clear f; unfold x; clear x; dsimp -zeta -failIfUnchanged only)
    | (extract_lets +onlyGivenNames x; clear_value x)
    | with_reducible apply State.forEach_kept
    | with_reducible apply State.setArr_kept
    | with_reducible apply State.setProg_kept
    | with_reducible apply State.startPart_kept
    | split

theorem State.tryRun_kept {s₀ : State} (s : State) (h : Nat) (hk : Kept s₀ s) :
    Kept s₀ (State.tryRun s h) := by
  unfold State.tryRun
  repeat' first
    | with_reducible assumption
    | (extract_lets +onlyGivenNames x; refine Kept.cut (s₀ := s₀) (x := x.2) ?_ (fun hx => ?_); unfold x; clear x; rotate_left; clear_value x; rotate_right)
    | (extract_lets +onlyGivenNames x; clear_value x)
    | with_reducible apply Kept.ite
    | with_reducible apply State.demandAll_kept
    | with_reducible apply State.startSlice_kept

theorem State.schedule_kept {s₀ : State} (s : State) (hk : Kept s₀ s) :
    Kept s₀ (State.schedule s) := by
  unfold State.schedule
  repeat' first
    | with_reducible assumption
    | intro _
    | (extract_lets +onlyGivenNames x; refine Kept.cut (s₀ := s₀) (x := x) ?_ (fun hx => ?_); unfold x; clear x; rotate_left; clear_value x; rotate_right)
    | (extract_lets +onlyGivenNames x; clear_value x)
    | with_reducible apply State.forEach_kept
    | with_reducible apply State.rankRun_kept
    | with_reducible apply State.reserveArrays_kept
    | with_reducible apply State.tryRun_kept

theorem State.releaseSlot_kept {s₀ : State} (s : State) (k : Nat) (hk : Kept s₀ s) :
    Kept s₀ (State.releaseSlot s k) := by
  unfold State.releaseSlot
  repeat' first
    | with_reducible assumption
    | (extract_lets +onlyGivenNames x; refine Kept.cut (s₀ := s₀) (x := x) ?_ (fun hx => ?_); unfold x; clear x; rotate_left; clear_value x; rotate_right)
    | (extract_lets +onlyGivenNames x; clear_value x)
    | with_reducible apply Kept.ite
    | with_reducible apply State.otherSub_kept
    | with_reducible apply State.setSlot_kept

theorem State.slotOpen_kept {s₀ : State} (s : State) (role : Role) (k : Nat) (hk : Kept s₀ s) :
    Kept s₀ (State.slotOpen s role k).2 := by
  unfold State.slotOpen
  repeat' first
    | with_reducible assumption
    | (extract_lets +onlyGivenNames x; (have f : Prop := x); clear f; unfold x; clear x)
    | (extract_lets +onlyGivenNames x; clear_value x)
    | with_reducible apply Kept.ite2
    | with_reducible apply State.otherAdd_kept
    | with_reducible apply State.setSlot_kept
    | split

theorem State.slotVerify_kept {s₀ : State} (s : State) (k : Nat) (hk : Kept s₀ s) :
    Kept s₀ (State.slotVerify s k).2 := by
  unfold State.slotVerify
  repeat' first
    | with_reducible assumption
    | (extract_lets +onlyGivenNames x; clear_value x)
    | with_reducible apply Kept.ite2
    | with_reducible apply State.setSlot_kept

theorem State.slotDiscard_kept {s₀ : State} (s : State) (k : Nat) (hk : Kept s₀ s) :
    Kept s₀ (State.slotDiscard s k).2 := by
  unfold State.slotDiscard
  repeat' first
    | with_reducible assumption
    | (extract_lets +onlyGivenNames x; clear_value x)
    | with_reducible apply Kept.ite2
    | with_reducible apply State.releaseSlot_kept

theorem State.slotCommand_kept {s₀ : State} (s : State) (role : Role) (k v : Nat) (hk : Kept s₀ s) :
    Kept s₀ (State.slotCommand s role k v).2 := by
  unfold State.slotCommand
  repeat' first
    | with_reducible assumption
    | with_reducible apply Kept.ite2
    | with_reducible apply State.slotDiscard_kept
    | with_reducible apply State.slotOpen_kept
    | with_reducible apply State.slotVerify_kept

theorem State.slotVerified_kept {s₀ : State} (s : State) (k : Nat) (hk : Kept s₀ s) :
    Kept s₀ (State.slotVerified s k) := by
  unfold State.slotVerified
  repeat' first
    | with_reducible assumption
    | (extract_lets +onlyGivenNames x; clear_value x)
    | with_reducible apply Kept.ite
    | with_reducible apply State.setSlot_kept
    | split

theorem State.loadResult_kept {s₀ : State} (s : State) (code h part array stage : Nat) (hk : Kept s₀ s) :
    Kept s₀ (State.loadResult s code h part array stage) := by
  unfold State.loadResult
  repeat' first
    | with_reducible assumption
    | with_reducible apply State.setBlob_kept

theorem State.beginLoad_kept {s₀ : State} (s : State) (role : Role) (b : List Nat) (hk : Kept s₀ s) :
    Kept s₀ (State.beginLoad s role b) := by
  unfold State.beginLoad
  repeat' first
    | with_reducible assumption
    | (extract_lets +onlyGivenNames x; (have f : Prop := x); clear f; unfold x; clear x)
    | (extract_lets +onlyGivenNames x; refine Kept.cut (s₀ := s₀) (x := x) ?_ (fun hx => ?_); unfold x; clear x; rotate_left; clear_value x; rotate_right)
    | (extract_lets +onlyGivenNames x; clear_value x)
    | with_reducible apply Kept.ite
    | with_reducible apply State.demandAll_kept
    | with_reducible apply State.loadResult_kept
    | with_reducible apply State.progAccount_kept
    | with_reducible apply State.setProg_kept
    | with_reducible apply State.setSlot_kept
    | (refine State.placeProg_ok ?_ (by with_reducible assumption))
    | split
    | (with_reducible apply Kept.mk'; first | with_reducible assumption | (with_reducible apply Kept.mk'; with_reducible assumption) | with_reducible apply State.demandAll_kept | with_reducible apply State.loadResult_kept | with_reducible apply State.progAccount_kept | with_reducible apply State.setProg_kept | with_reducible apply State.setSlot_kept)

theorem State.loadRequest_kept {s₀ : State} (s : State) (role : Role) (b : List Nat) (hk : Kept s₀ s) :
    Kept s₀ (State.loadRequest s role b).2 := by
  unfold State.loadRequest
  repeat' first
    | with_reducible assumption
    | (extract_lets +onlyGivenNames x; (have f : Prop := x); clear f; unfold x; clear x)
    | (extract_lets +onlyGivenNames x; clear_value x)
    | with_reducible apply Kept.ite2
    | with_reducible apply State.beginLoad_kept

theorem State.loadFail_kept {s₀ : State} (s : State) (l : LoadSt) (code part g : Nat) (hk : Kept s₀ s) :
    Kept s₀ (State.loadFail s l code part g) := by
  unfold State.loadFail
  repeat' first
    | with_reducible assumption
    | (extract_lets +onlyGivenNames x; refine Kept.cut (s₀ := s₀) (x := x) ?_ (fun hx => ?_); unfold x; clear x; rotate_left; clear_value x; rotate_right)
    | (extract_lets +onlyGivenNames x; clear_value x)
    | with_reducible apply State.loadResult_kept
    | with_reducible apply State.progAccount_kept
    | with_reducible apply State.runReplacements_kept
    | with_reducible apply State.setSlot_kept
    | with_reducible apply State.unreserve_kept
    | (with_reducible apply Kept.mk'; first | with_reducible assumption | (with_reducible apply Kept.mk'; with_reducible assumption) | with_reducible apply State.loadResult_kept | with_reducible apply State.progAccount_kept | with_reducible apply State.runReplacements_kept | with_reducible apply State.setSlot_kept | with_reducible apply State.unreserve_kept)

theorem State.runProg_kept {s₀ : State} (s : State) (h : Nat) (hk : Kept s₀ s) :
    Kept s₀ (State.runProg s h) := by
  unfold State.runProg
  repeat' first
    | with_reducible assumption
    | (extract_lets +onlyGivenNames x; clear_value x)
    | with_reducible apply State.rechooseProg_kept
    | with_reducible apply State.setProg_kept

theorem State.loadComplete_kept {s₀ : State} (s : State) (hk : Kept s₀ s) :
    Kept s₀ (State.loadComplete s) := by
  unfold State.loadComplete
  repeat' first
    | with_reducible assumption
    | intro _
    | (extract_lets +onlyGivenNames x; refine Kept.cut (s₀ := s₀) (x := x) ?_ (fun hx => ?_); unfold x; clear x; rotate_left; clear_value x; rotate_right)
    | (extract_lets +onlyGivenNames x; clear_value x)
    | with_reducible apply Kept.ite
    | with_reducible apply State.forEach_kept
    | with_reducible apply State.loadFail_kept
    | with_reducible apply State.loadResult_kept
    | with_reducible apply State.otherAdd_kept
    | with_reducible apply State.progAccount_kept
    | with_reducible apply State.rechooseProg_kept
    | with_reducible apply State.releaseSlot_kept
    | with_reducible apply State.runProg_kept
    | with_reducible apply State.runReplacements_kept
    | with_reducible apply State.setArr_kept
    | with_reducible apply State.setProg_kept
    | with_reducible apply State.writeParts_kept
    | (with_reducible apply Kept.mk'; first | with_reducible assumption | (with_reducible apply Kept.mk'; with_reducible assumption) | with_reducible apply State.forEach_kept | with_reducible apply State.loadFail_kept | with_reducible apply State.loadResult_kept | with_reducible apply State.otherAdd_kept | with_reducible apply State.progAccount_kept | with_reducible apply State.rechooseProg_kept | with_reducible apply State.releaseSlot_kept | with_reducible apply State.runProg_kept | with_reducible apply State.runReplacements_kept | with_reducible apply State.setArr_kept | with_reducible apply State.setProg_kept | with_reducible apply State.writeParts_kept)
    | split

theorem State.progStart_kept {s₀ : State} (s : State) (h : Nat) (hk : Kept s₀ s) :
    Kept s₀ (State.progStart s h).2 := by
  unfold State.progStart
  repeat' first
    | with_reducible assumption
    | (extract_lets +onlyGivenNames x; clear_value x)
    | with_reducible apply Kept.ite2
    | with_reducible apply State.runProg_kept
    | with_reducible apply State.setProg_kept
    | with_reducible apply State.writeParts_kept

theorem State.progStop_kept {s₀ : State} (s : State) (h : Nat) (hk : Kept s₀ s) :
    Kept s₀ (State.progStop s h).2 := by
  unfold State.progStop
  repeat' first
    | with_reducible assumption
    | (extract_lets +onlyGivenNames x; clear_value x)
    | with_reducible apply Kept.ite2
    | with_reducible apply State.setProg_kept
    | with_reducible apply State.stopNow_kept

theorem State.progUnload_kept {s₀ : State} (s : State) (h : Nat) (hk : Kept s₀ s) :
    Kept s₀ (State.progUnload s h).2 := by
  unfold State.progUnload
  repeat' first
    | with_reducible assumption
    | (extract_lets +onlyGivenNames x; clear_value x)
    | with_reducible apply Kept.ite2
    | with_reducible apply State.setProg_kept
    | with_reducible apply State.unload_kept

theorem State.progRun_kept {s₀ : State} (s : State) (h : Nat) (hk : Kept s₀ s) :
    Kept s₀ (State.progRun s h).2 := by
  unfold State.progRun
  repeat' first
    | with_reducible assumption
    | (extract_lets +onlyGivenNames x; clear_value x)
    | with_reducible apply Kept.ite2
    | with_reducible apply State.triggerRun_kept

theorem State.progCommand_kept {s₀ : State} (s : State) (h v : Nat) (hk : Kept s₀ s) :
    Kept s₀ (State.progCommand s h v).2 := by
  unfold State.progCommand
  repeat' first
    | with_reducible assumption
    | with_reducible apply Kept.ite2
    | with_reducible apply State.progRun_kept
    | with_reducible apply State.progStart_kept
    | with_reducible apply State.progStop_kept
    | with_reducible apply State.progUnload_kept

end Sys2Proof.Machine
end

