-- ==== Sys2Proof/Laws/KeptPool.lean ====
section
/-! SUPPORT. What every operation of Machine/Pool.lean keeps: see Kept in Laws/Kept.lean. -/

namespace Sys2Proof.Machine

theorem State.syncWord_kept {s₀ : State} (s : State) (f : Frame) (result w : Nat) (hk : Kept s₀ s) :
    Kept s₀ (State.syncWord s f result w) := by
  unfold State.syncWord
  repeat' first
    | with_reducible assumption
    | (extract_lets +onlyGivenNames x; clear_value x)
    | with_reducible apply State.syncResponse_kept

theorem State.syncOp_kept {s₀ : State} (s : State) (op : Nat) (f : Frame) (hk : Kept s₀ s) :
    Kept s₀ (State.syncOp s op f) := by
  unfold State.syncOp
  repeat' first
    | with_reducible assumption
    | (extract_lets +onlyGivenNames x; refine Kept.cut (s₀ := s₀) (x := x.2) ?_ (fun hx => ?_); unfold x; clear x; rotate_left; clear_value x; rotate_right)
    | (extract_lets +onlyGivenNames x; clear_value x)
    | with_reducible apply Kept.ite
    | with_reducible apply State.syncResponse_kept
    | with_reducible apply State.syncWord_kept
    | with_reducible apply State.wordOp_kept

theorem State.watchRegister_kept {s₀ : State} (s : State) (f : Frame) (hk : Kept s₀ s) :
    Kept s₀ (State.watchRegister s f) := by
  unfold State.watchRegister
  repeat' first
    | with_reducible assumption
    | (extract_lets +onlyGivenNames x; refine Kept.cut (s₀ := s₀) (x := x) ?_ (fun hx => ?_); unfold x; clear x; rotate_left; clear_value x; rotate_right)
    | (extract_lets +onlyGivenNames x; clear_value x)
    | with_reducible apply Kept.ite
    | with_reducible apply State.fireWatch_kept
    | with_reducible apply State.setDesc_kept
    | with_reducible apply State.syncResponse_kept
    | with_reducible apply State.syncWord_kept
    | split

theorem State.watchCancel_kept {s₀ : State} (s : State) (f : Frame) (hk : Kept s₀ s) :
    Kept s₀ (State.watchCancel s f) := by
  unfold State.watchCancel
  repeat' first
    | with_reducible assumption
    | (extract_lets +onlyGivenNames x; clear_value x)
    | with_reducible apply Kept.ite
    | with_reducible apply State.disarm_kept
    | with_reducible apply State.syncResponse_kept
    | with_reducible apply State.syncWord_kept
    | split

theorem State.trayComplete_kept {s₀ : State} (s : State) (i : Nat) (n : TrayNode) (hk : Kept s₀ s) :
    Kept s₀ (State.trayComplete s i n) := by
  unfold State.trayComplete
  repeat' first
    | with_reducible assumption
    | (extract_lets +onlyGivenNames x; refine Kept.cut (s₀ := s₀) (x := x) ?_ (fun hx => ?_); unfold x; clear x; rotate_left; clear_value x; rotate_right)
    | (extract_lets +onlyGivenNames x; clear_value x)
    | with_reducible apply Kept.ite
    | with_reducible apply State.nodeCount_kept
    | with_reducible apply State.nodeReset_kept
    | with_reducible apply State.setDom_kept
    | with_reducible apply State.shelfComplete_kept

theorem State.hallComplete_kept {s₀ : State} (s : State) (i : Nat) (h : HallNode) (episode : Nat) (hk : Kept s₀ s) :
    Kept s₀ (State.hallComplete s i h episode) := by
  unfold State.hallComplete
  repeat' first
    | with_reducible assumption
    | (extract_lets +onlyGivenNames x; clear_value x)
    | with_reducible apply State.nodeReset_kept
    | with_reducible apply State.reportUp_kept
    | with_reducible apply State.setDom_kept

theorem State.arriveTray_kept {s₀ : State} (s : State) (i : Nat) (n : TrayNode) (ep : Nat) (hk : Kept s₀ s) :
    Kept s₀ (State.arriveTray s i n ep) := by
  unfold State.arriveTray
  repeat' first
    | with_reducible assumption
    | (extract_lets +onlyGivenNames x; refine Kept.cut (s₀ := s₀) (x := x) ?_ (fun hx => ?_); unfold x; clear x; rotate_left; clear_value x; rotate_right)
    | (extract_lets +onlyGivenNames x; clear_value x)
    | with_reducible apply Kept.ite
    | with_reducible apply State.nodeCount_kept
    | with_reducible apply State.setDom_kept
    | with_reducible apply State.trayComplete_kept
    | (with_reducible apply Kept.mk'; first | with_reducible assumption | (with_reducible apply Kept.mk'; with_reducible assumption) | with_reducible apply State.count_kept | with_reducible apply State.nodeCount_kept | with_reducible apply State.setDom_kept | with_reducible apply State.trayComplete_kept)

theorem State.arriveHall_kept {s₀ : State} (s : State) (i : Nat) (h : HallNode) (shelf episode : Nat) (hk : Kept s₀ s) :
    Kept s₀ (State.arriveHall s i h shelf episode) := by
  unfold State.arriveHall
  repeat' first
    | with_reducible assumption
    | (extract_lets +onlyGivenNames x; clear_value x)
    | with_reducible apply Kept.ite
    | with_reducible apply State.hallComplete_kept
    | with_reducible apply State.nodeCount_kept
    | with_reducible apply State.setDom_kept

theorem State.arrive_kept {s₀ : State} (s : State) (f : Frame) (hk : Kept s₀ s) :
    Kept s₀ (State.arrive s f) := by
  unfold State.arrive
  repeat' first
    | with_reducible assumption
    | (extract_lets +onlyGivenNames x; (have f : Prop := x); clear f; unfold x; clear x)
    | (extract_lets +onlyGivenNames x; refine Kept.cut (s₀ := s₀) (x := x) ?_ (fun hx => ?_); unfold x; clear x; rotate_left; clear_value x; rotate_right)
    | (extract_lets +onlyGivenNames x; clear_value x)
    | with_reducible apply State.arriveHall_kept
    | with_reducible apply State.arriveTray_kept
    | with_reducible apply State.syncResponse_kept
    | with_reducible apply State.syncWord_kept
    | split

theorem State.releaseIn_kept {s₀ : State} (s : State) (f : Frame) (hk : Kept s₀ s) :
    Kept s₀ (State.releaseIn s f) := by
  unfold State.releaseIn
  repeat' first
    | with_reducible assumption
    | (extract_lets +onlyGivenNames x; clear_value x)
    | with_reducible apply Kept.ite
    | with_reducible apply State.releaseDown_kept
    | split

theorem State.poisonWord_kept {s₀ : State} (s : State) (w : Nat) (hk : Kept s₀ s) :
    Kept s₀ (State.poisonWord s w) := by
  unfold State.poisonWord
  repeat' first
    | with_reducible assumption
    | (extract_lets +onlyGivenNames x; clear_value x)
    | with_reducible apply Kept.ite
    | with_reducible apply State.raise_kept
    | with_reducible apply State.setWord_kept

theorem State.badDescriptor_kept {s₀ : State} (s : State) (v : Nat) (hk : Kept s₀ s) :
    Kept s₀ (State.badDescriptor s v) := by
  unfold State.badDescriptor
  repeat' first
    | with_reducible assumption
    | with_reducible apply Kept.ite
    | with_reducible apply State.raise_kept

theorem State.tenantOpenCmd_kept {s₀ : State} (s : State) (k : Nat) (hk : Kept s₀ s) :
    Kept s₀ (State.tenantOpenCmd s k).2 := by
  unfold State.tenantOpenCmd
  repeat' first
    | with_reducible assumption
    | intro _
    | (extract_lets +onlyGivenNames x; (have f : Prop := x); clear f; unfold x; clear x)
    | (extract_lets +onlyGivenNames x; refine Kept.cut (s₀ := s₀) (x := x) ?_ (fun hx => ?_); unfold x; clear x; rotate_left; clear_value x; rotate_right)
    | (extract_lets +onlyGivenNames x; (have f := fun a => x a); clear f; unfold x; clear x; dsimp -zeta -failIfUnchanged only)
    | (extract_lets +onlyGivenNames x; clear_value x)
    | with_reducible apply Kept.ite2
    | with_reducible apply State.allocWords_kept
    | with_reducible apply State.forEach_kept
    | with_reducible apply State.setNat_kept
    | (with_reducible apply Kept.mk'; first | with_reducible assumption | (with_reducible apply Kept.mk'; with_reducible assumption) | with_reducible apply State.allocWords_kept | with_reducible apply State.forEach_kept | with_reducible apply State.setNat_kept)
    | split

theorem State.tenantFinish_kept {s₀ : State} (s : State) (k : Nat) (hk : Kept s₀ s) :
    Kept s₀ (State.tenantFinish s k) := by
  unfold State.tenantFinish
  repeat' first
    | with_reducible assumption
    | (extract_lets +onlyGivenNames x; refine Kept.cut (s₀ := s₀) (x := x) ?_ (fun hx => ?_); unfold x; clear x; rotate_left; clear_value x; rotate_right)
    | (extract_lets +onlyGivenNames x; refine Kept.cut (s₀ := s₀) (x := x.2) ?_ (fun hx => ?_); unfold x; clear x; rotate_left; clear_value x; rotate_right)
    | (extract_lets +onlyGivenNames x; clear_value x)
    | with_reducible apply Kept.ite
    | with_reducible apply State.count_kept
    | with_reducible apply State.disarmWord_kept
    | with_reducible apply State.freeTenant_kept
    | with_reducible apply State.setNat_kept
    | with_reducible apply State.setWord_kept
    | with_reducible apply State.tenantEvent_kept

theorem State.tenantLeave_kept {s₀ : State} (s : State) (k : Nat) (hk : Kept s₀ s) :
    Kept s₀ (State.tenantLeave s k) := by
  unfold State.tenantLeave
  repeat' first
    | with_reducible assumption
    | intro _
    | (extract_lets +onlyGivenNames x; refine Kept.cut (s₀ := s₀) (x := x) ?_ (fun hx => ?_); unfold x; clear x; rotate_left; clear_value x; rotate_right)
    | (extract_lets +onlyGivenNames x; clear_value x)
    | with_reducible apply Kept.ite
    | with_reducible apply State.forEach_kept
    | with_reducible apply State.histCloseTenant_kept
    | with_reducible apply State.loadFail_kept
    | with_reducible apply State.stopNow_kept
    | with_reducible apply State.unload_kept
    | split

theorem State.tenantCloseCmd_kept {s₀ : State} (s : State) (k : Nat) (hk : Kept s₀ s) :
    Kept s₀ (State.tenantCloseCmd s k).2 := by
  unfold State.tenantCloseCmd
  repeat' first
    | with_reducible assumption
    | with_reducible apply Kept.ite2
    | with_reducible apply State.tenantFinish_kept
    | with_reducible apply State.tenantLeave_kept

theorem State.forceDomain_kept {s₀ : State} (s : State) (i : Nat) (hk : Kept s₀ s) :
    Kept s₀ (State.forceDomain s i) := by
  unfold State.forceDomain
  repeat' first
    | with_reducible assumption
    | (extract_lets +onlyGivenNames x; clear_value x)
    | with_reducible apply Kept.ite
    | with_reducible apply State.domainClose_kept
    | with_reducible apply State.memberAbort_kept
    | with_reducible apply State.memberClose_kept

theorem State.tenantForceCmd_kept {s₀ : State} (s : State) (k : Nat) (hk : Kept s₀ s) :
    Kept s₀ (State.tenantForceCmd s k).2 := by
  unfold State.tenantForceCmd
  repeat' first
    | with_reducible assumption
    | intro _
    | (extract_lets +onlyGivenNames x; refine Kept.cut (s₀ := s₀) (x := x) ?_ (fun hx => ?_); unfold x; clear x; rotate_left; clear_value x; rotate_right)
    | (extract_lets +onlyGivenNames x; clear_value x)
    | with_reducible apply Kept.ite2
    | with_reducible apply State.forEach_kept
    | with_reducible apply State.forceDomain_kept
    | with_reducible apply State.refreshStep_kept
    | with_reducible apply State.setNat_kept
    | with_reducible apply State.tenantFinish_kept
    | with_reducible apply State.tenantLeave_kept

theorem State.clearQuarantineCmd_kept {s₀ : State} (s : State) (k : Nat) (hk : Kept s₀ s) :
    Kept s₀ (State.clearQuarantineCmd s k).2 := by
  unfold State.clearQuarantineCmd
  repeat' first
    | with_reducible assumption
    | intro _
    | (extract_lets +onlyGivenNames x; clear_value x)
    | with_reducible apply Kept.ite2
    | with_reducible apply State.forEach_kept
    | with_reducible apply State.setNat_kept
    | with_reducible apply State.setWord_kept

theorem State.tenantCommand_kept {s₀ : State} (s : State) (role : Role) (k v : Nat) (hk : Kept s₀ s) :
    Kept s₀ (State.tenantCommand s role k v).2 := by
  unfold State.tenantCommand
  repeat' first
    | with_reducible assumption
    | with_reducible apply Kept.ite2
    | with_reducible apply State.clearQuarantineCmd_kept
    | with_reducible apply State.tenantCloseCmd_kept
    | with_reducible apply State.tenantForceCmd_kept
    | with_reducible apply State.tenantOpenCmd_kept

theorem State.allocDone_kept {s₀ : State} (s : State) (k op code base n : Nat) (hk : Kept s₀ s) :
    Kept s₀ (State.allocDone s k op code base n) := by
  unfold State.allocDone
  repeat' first
    | with_reducible assumption
    | with_reducible apply State.setBlob_kept

theorem State.allocWordsOp_kept {s₀ : State} (s : State) (k : Nat) (b : List Nat) (hk : Kept s₀ s) :
    Kept s₀ (State.allocWordsOp s k b) := by
  unfold State.allocWordsOp
  repeat' first
    | with_reducible assumption
    | (extract_lets +onlyGivenNames x; clear_value x)
    | with_reducible apply Kept.ite
    | with_reducible apply State.allocDone_kept
    | with_reducible apply State.allocWords_kept
    | split

theorem State.freeWordsOp_kept {s₀ : State} (s : State) (k : Nat) (b : List Nat) (hk : Kept s₀ s) :
    Kept s₀ (State.freeWordsOp s k b) := by
  unfold State.freeWordsOp
  repeat' first
    | with_reducible assumption
    | (extract_lets +onlyGivenNames x; refine Kept.cut (s₀ := s₀) (x := x.2) ?_ (fun hx => ?_); unfold x; clear x; rotate_left; clear_value x; rotate_right)
    | (extract_lets +onlyGivenNames x; clear_value x)
    | with_reducible apply Kept.ite
    | with_reducible apply State.allocDone_kept
    | with_reducible apply State.count_kept
    | with_reducible apply State.freeWords_kept
    | with_reducible apply State.tenantEvent_kept
    | split

theorem State.declareQueueOp_kept {s₀ : State} (s : State) (k : Nat) (b : List Nat) (hk : Kept s₀ s) :
    Kept s₀ (State.declareQueueOp s k b) := by
  unfold State.declareQueueOp
  repeat' first
    | with_reducible assumption
    | (extract_lets +onlyGivenNames x; (have f := fun a => x a); clear f; unfold x; clear x; dsimp -zeta -failIfUnchanged only)
    | (extract_lets +onlyGivenNames x; clear_value x)
    | with_reducible apply Kept.ite
    | with_reducible apply State.allocDone_kept
    | (with_reducible apply Kept.mk'; first | with_reducible assumption | (with_reducible apply Kept.mk'; with_reducible assumption) | with_reducible apply State.allocDone_kept)

theorem State.undeclareQueueOp_kept {s₀ : State} (s : State) (k : Nat) (b : List Nat) (hk : Kept s₀ s) :
    Kept s₀ (State.undeclareQueueOp s k b) := by
  unfold State.undeclareQueueOp
  repeat' first
    | with_reducible assumption
    | (extract_lets +onlyGivenNames x; clear_value x)
    | with_reducible apply Kept.ite
    | with_reducible apply State.allocDone_kept
    | (with_reducible apply Kept.mk'; first | with_reducible assumption | (with_reducible apply Kept.mk'; with_reducible assumption) | with_reducible apply State.allocDone_kept)
    | split

theorem State.allocDescsOp_kept {s₀ : State} (s : State) (k : Nat) (b : List Nat) (hk : Kept s₀ s) :
    Kept s₀ (State.allocDescsOp s k b) := by
  unfold State.allocDescsOp
  repeat' first
    | with_reducible assumption
    | (extract_lets +onlyGivenNames x; clear_value x)
    | with_reducible apply Kept.ite
    | with_reducible apply State.allocDescs_kept
    | with_reducible apply State.allocDone_kept
    | split

theorem State.freeDescsOp_kept {s₀ : State} (s : State) (k : Nat) (b : List Nat) (hk : Kept s₀ s) :
    Kept s₀ (State.freeDescsOp s k b) := by
  unfold State.freeDescsOp
  repeat' first
    | with_reducible assumption
    | intro _
    | (extract_lets +onlyGivenNames x; clear_value x)
    | with_reducible apply Kept.ite
    | with_reducible apply State.allocDone_kept
    | with_reducible apply State.disarm_kept
    | with_reducible apply State.forEach_kept
    | with_reducible apply State.setDesc_kept

theorem State.allocRequest_kept {s₀ : State} (s : State) (k : Nat) (b : List Nat) (hk : Kept s₀ s) :
    Kept s₀ (State.allocRequest s k b).2 := by
  unfold State.allocRequest
  repeat' first
    | with_reducible assumption
    | (extract_lets +onlyGivenNames x; clear_value x)
    | with_reducible apply Kept.ite2
    | with_reducible apply State.allocDescsOp_kept
    | with_reducible apply State.allocDone_kept
    | with_reducible apply State.allocWordsOp_kept
    | with_reducible apply State.declareQueueOp_kept
    | with_reducible apply State.freeDescsOp_kept
    | with_reducible apply State.freeWordsOp_kept
    | with_reducible apply State.undeclareQueueOp_kept
    | split

theorem State.treeSet_kept {s₀ : State} (s : State) (w : Nat) (hk : Kept s₀ s) :
    Kept s₀ (State.treeSet s w) := by
  unfold State.treeSet
  repeat' first
    | with_reducible assumption
    | (extract_lets +onlyGivenNames x; clear_value x)
    | with_reducible apply Kept.ite
    | with_reducible apply State.hallComplete_kept
    | with_reducible apply State.shelfComplete_kept
    | with_reducible apply State.trayComplete_kept
    | split

theorem State.wordSet_kept {s₀ : State} (s : State) (b : List Nat) (hk : Kept s₀ s) :
    Kept s₀ (State.wordSet s b).2 := by
  unfold State.wordSet
  repeat' first
    | with_reducible assumption
    | (extract_lets +onlyGivenNames x; refine Kept.cut (s₀ := s₀) (x := x) ?_ (fun hx => ?_); unfold x; clear x; rotate_left; clear_value x; rotate_right)
    | (extract_lets +onlyGivenNames x; clear_value x)
    | with_reducible apply Kept.ite
    | with_reducible apply Kept.ite2
    | with_reducible apply State.event_kept
    | with_reducible apply State.putWord_kept
    | with_reducible apply State.treeSet_kept

theorem State.domainPeer_kept {s₀ : State} (s : State) (shelf : Nat) (b : List Nat) (hk : Kept s₀ s) :
    Kept s₀ (State.domainPeer s shelf b).2 := by
  unfold State.domainPeer
  repeat' first
    | with_reducible assumption
    | (extract_lets +onlyGivenNames x; refine Kept.cut (s₀ := s₀) (x := x.2) ?_ (fun hx => ?_); unfold x; clear x; rotate_left; clear_value x; rotate_right)
    | (extract_lets +onlyGivenNames x; clear_value x)
    | with_reducible apply Kept.ite2
    | with_reducible apply State.memberStage_kept
    | with_reducible apply State.refreshStep_kept
    | split

theorem State.notice_kept {s₀ : State} (s : State) (stage shelf : Nat) (b : List Nat) (hk : Kept s₀ s) :
    Kept s₀ (State.notice s stage shelf b) := by
  unfold State.notice
  repeat' first
    | with_reducible assumption
    | (extract_lets +onlyGivenNames x; refine Kept.cut (s₀ := s₀) (x := x.2) ?_ (fun hx => ?_); unfold x; clear x; rotate_left; clear_value x; rotate_right)
    | with_reducible apply Kept.ite
    | with_reducible apply State.domainPeer_kept
    | with_reducible apply State.emit_kept

theorem State.peerTimeout_kept {s₀ : State} (s : State) (hk : Kept s₀ s) :
    Kept s₀ (State.peerTimeout s) := by
  unfold State.peerTimeout
  repeat' first
    | with_reducible assumption
    | with_reducible apply Kept.ite
    | with_reducible apply State.createFail_kept
    | with_reducible apply State.refreshStep_kept
    | split

theorem State.trayFree_kept {s₀ : State} (s : State) (i : Nat) (hk : Kept s₀ s) :
    Kept s₀ (State.trayFree s i) := by
  unfold State.trayFree
  repeat' first
    | with_reducible assumption
    | (extract_lets +onlyGivenNames x; refine Kept.cut (s₀ := s₀) (x := x) ?_ (fun hx => ?_); unfold x; clear x; rotate_left; clear_value x; rotate_right)
    | (extract_lets +onlyGivenNames x; clear_value x)
    | with_reducible apply Kept.ite
    | with_reducible apply State.domainFree_kept
    | with_reducible apply State.tenantFinish_kept
    | split

theorem State.waveTick_kept {s₀ : State} (s : State) (hk : Kept s₀ s) :
    Kept s₀ (State.waveTick s) := by
  unfold State.waveTick
  repeat' first
    | with_reducible assumption
    | (extract_lets +onlyGivenNames x; clear_value x)
    | with_reducible apply Kept.ite
    | with_reducible apply State.runWaves_kept

theorem State.weightUpdate_kept {s₀ : State} (s : State) (link : Nat) (before after : Int) (hk : Kept s₀ s) :
    Kept s₀ (State.weightUpdate s link before after) := by
  unfold State.weightUpdate
  repeat' first
    | with_reducible assumption
    | intro _
    | (extract_lets +onlyGivenNames x; refine Kept.cut (s₀ := s₀) (x := x) ?_ (fun hx => ?_); unfold x; clear x; rotate_left; clear_value x; rotate_right)
    | (extract_lets +onlyGivenNames x; clear_value x)
    | with_reducible apply Kept.ite
    | with_reducible apply State.forEach_kept
    | with_reducible apply State.setWeight_kept
    | (with_reducible apply Kept.mk'; first | with_reducible assumption | (with_reducible apply Kept.mk'; with_reducible assumption) | with_reducible apply State.forEach_kept | with_reducible apply State.setWeight_kept)

end Sys2Proof.Machine
end

