-- ==== Sys2Proof/Laws/KeptHistory.lean ====
section
/-! SUPPORT. What every operation of Machine/History.lean keeps: see Kept in Laws/Kept.lean. -/

namespace Sys2Proof.Machine

theorem State.channelRequest_kept {s₀ : State} (s : State) (role : Role) (b : List Nat) (hk : Kept s₀ s) :
    Kept s₀ (State.channelRequest s role b).2 := by
  unfold State.channelRequest
  repeat' first
    | with_reducible assumption
    | (extract_lets +onlyGivenNames x; refine Kept.cut (s₀ := s₀) (x := x) ?_ (fun hx => ?_); unfold x; clear x; rotate_left; clear_value x; rotate_right)
    | with_reducible apply Kept.ite2
    | with_reducible apply State.channelDefine_kept
    | with_reducible apply State.channelDelete_kept
    | with_reducible apply State.channelDone_kept
    | with_reducible apply State.channelGrants_kept
    | with_reducible apply State.channelQuery_kept
    | split

theorem State.windowRequest_kept {s₀ : State} (s : State) (role : Role) (b : List Nat) (hk : Kept s₀ s) :
    Kept s₀ (State.windowRequest s role b).2 := by
  unfold State.windowRequest
  repeat' first
    | with_reducible assumption
    | with_reducible apply Kept.ite2
    | with_reducible apply State.windowDefine_kept
    | with_reducible apply State.windowDone_kept
    | with_reducible apply State.windowFree_kept
    | with_reducible apply State.windowQuery_kept
    | split

theorem State.deleteComplete_kept {s₀ : State} (s : State) (c : Nat) (hk : Kept s₀ s) :
    Kept s₀ (State.deleteComplete s c) := by
  unfold State.deleteComplete
  repeat' first
    | with_reducible assumption
    | with_reducible apply Kept.ite
    | with_reducible apply State.answerKey_kept
    | with_reducible apply State.channelDone_kept
    | with_reducible apply State.removeRing_kept

theorem State.stackFails_kept {s₀ : State} (s : State) (k : Nat) (f : StackFail) (hk : Kept s₀ s) :
    Kept s₀ (State.stackFails s k f) := by
  unfold State.stackFails
  repeat' first
    | with_reducible assumption
    | with_reducible apply State.stackFault_kept

theorem State.markRows_kept {s₀ : State} (s : State) (k : Nat) (rows : List Nat) (hk : Kept s₀ s) :
    Kept s₀ (State.markRows s k rows) := by
  unfold State.markRows
  repeat' first
    | (extract_lets +onlyGivenNames x; clear_value x)
    | with_reducible apply State.setNat_kept
    | (with_reducible apply Kept.mk'; first | with_reducible assumption | (with_reducible apply Kept.mk'; with_reducible assumption) | with_reducible apply State.setNat_kept)

theorem State.badBlock_kept {s₀ : State} (s : State) (k : Nat) (b : BadBlock) (hk : Kept s₀ s) :
    Kept s₀ (State.badBlock s k b) := by
  unfold State.badBlock
  repeat' first
    | with_reducible assumption
    | intro _
    | (extract_lets +onlyGivenNames x; clear_value x)
    | with_reducible apply Kept.ite
    | with_reducible apply State.forEach_kept
    | with_reducible apply State.otherSub_kept
    | with_reducible apply State.setProg_kept
    | with_reducible apply State.setRingDef_kept
    | with_reducible apply State.setSlot_kept
    | (with_reducible apply Kept.mk'; first | with_reducible assumption | (with_reducible apply Kept.mk'; with_reducible assumption) | with_reducible apply State.forEach_kept | with_reducible apply State.otherSub_kept | with_reducible apply State.setProg_kept | with_reducible apply State.setRingDef_kept | with_reducible apply State.setSlot_kept)
    | split

theorem State.stackError_kept {s₀ : State} (s : State) (k : Nat) (b : BadBlock) (hk : Kept s₀ s) :
    Kept s₀ (State.stackError s k b) := by
  unfold State.stackError
  repeat' first
    | with_reducible assumption
    | (extract_lets +onlyGivenNames x; refine Kept.cut (s₀ := s₀) (x := x) ?_ (fun hx => ?_); unfold x; clear x; rotate_left; clear_value x; rotate_right)
    | (extract_lets +onlyGivenNames x; clear_value x)
    | with_reducible apply Kept.ite
    | with_reducible apply State.badBlock_kept
    | with_reducible apply State.count_kept
    | with_reducible apply State.stackFails_kept
    | (with_reducible apply Kept.mk'; first | with_reducible assumption | (with_reducible apply Kept.mk'; with_reducible assumption) | with_reducible apply State.badBlock_kept | with_reducible apply State.count_kept | with_reducible apply State.stackFails_kept)

theorem State.patrol_kept {s₀ : State} (s : State) (k corrected : Nat) (rows : List Nat) (bad : Option BadBlock) (passEnd : Bool) (hk : Kept s₀ s) :
    Kept s₀ (State.patrol s k corrected rows bad passEnd) := by
  unfold State.patrol
  repeat' first
    | with_reducible assumption
    | (extract_lets +onlyGivenNames x; refine Kept.cut (s₀ := s₀) (x := x) ?_ (fun hx => ?_); unfold x; clear x; rotate_left; clear_value x; rotate_right)
    | with_reducible apply Kept.ite
    | with_reducible apply State.count_kept
    | with_reducible apply State.markRows_kept
    | with_reducible apply State.stackError_kept
    | split

theorem State.binEnd_kept {s₀ : State} (s : State) (hk : Kept s₀ s) :
    Kept s₀ (State.binEnd s) := by
  unfold State.binEnd
  repeat' first
    | with_reducible assumption
    | (extract_lets +onlyGivenNames x; clear_value x)
    | with_reducible apply Kept.ite
    | with_reducible apply State.evaluateBin_kept

end Sys2Proof.Machine
end

