-- ==== Sys2Proof/Laws/KeptRings.lean ====
section
/-! SUPPORT. What every operation of Machine/Rings.lean keeps: see Kept in Laws/Kept.lean. -/

namespace Sys2Proof.Machine

theorem State.readFailed_kept {s₀ : State} (s : State) (k a : Nat) (hk : Kept s₀ s) :
    Kept s₀ (State.readFailed s k a) := by
  unfold State.readFailed
  repeat' first
    | with_reducible assumption
    | with_reducible apply State.dropRead_kept
    | with_reducible apply State.withdraw_kept

theorem State.dropReadouts_kept {s₀ : State} (s : State) (k : Nat) (hk : Kept s₀ s) :
    Kept s₀ (State.dropReadouts s k) := by
  unfold State.dropReadouts
  repeat' first
    | with_reducible assumption
    | intro _
    | (extract_lets +onlyGivenNames x; refine Kept.cut (s₀ := s₀) (x := x) ?_ (fun hx => ?_); unfold x; clear x; rotate_left; clear_value x; rotate_right)
    | (extract_lets +onlyGivenNames x; clear_value x)
    | with_reducible apply State.forEach_kept
    | with_reducible apply State.readFailed_kept
    | with_reducible apply State.setRing_kept

theorem State.sendMeasure_kept {s₀ : State} (s : State) (k delay length : Nat) (hk : Kept s₀ s) :
    Kept s₀ (State.sendMeasure s k delay length) := by
  unfold State.sendMeasure
  repeat' first
    | with_reducible assumption
    | intro _
    | (extract_lets +onlyGivenNames x; (have f : Prop := x); clear f; unfold x; clear x)
    | (extract_lets +onlyGivenNames x; refine Kept.cut (s₀ := s₀) (x := x) ?_ (fun hx => ?_); unfold x; clear x; rotate_left; clear_value x; rotate_right)
    | (extract_lets +onlyGivenNames x; clear_value x)
    | with_reducible apply State.dropReadouts_kept
    | with_reducible apply State.forEach_kept
    | with_reducible apply State.ringSend_kept
    | with_reducible apply State.ringTo_kept
    | with_reducible apply State.setRing_kept

theorem State.measureCycle_kept {s₀ : State} (s : State) (delay length : Nat) (hk : Kept s₀ s) :
    Kept s₀ (State.measureCycle s delay length) := by
  unfold State.measureCycle
  repeat' first
    | with_reducible assumption
    | intro _
    | (extract_lets +onlyGivenNames x; clear_value x)
    | with_reducible apply Kept.ite
    | with_reducible apply State.count_kept
    | with_reducible apply State.forEach_kept
    | with_reducible apply State.sendMeasure_kept

theorem State.ringRetry_kept {s₀ : State} (s : State) (k : Nat) (c : RCmd) (hk : Kept s₀ s) :
    Kept s₀ (State.ringRetry s k c) := by
  unfold State.ringRetry
  repeat' first
    | with_reducible assumption
    | (extract_lets +onlyGivenNames x; clear_value x)
    | with_reducible apply State.count_kept
    | with_reducible apply State.ringSend_kept
    | with_reducible apply State.setRing_kept

theorem State.measRecover_kept {s₀ : State} (s : State) (k : Nat) (hk : Kept s₀ s) :
    Kept s₀ (State.measRecover s k) := by
  unfold State.measRecover
  repeat' first
    | with_reducible assumption
    | (extract_lets +onlyGivenNames x; clear_value x)
    | with_reducible apply Kept.ite
    | with_reducible apply State.setRing_kept

theorem State.ringAccept_kept {s₀ : State} (s : State) (k : Nat) (c : RCmd) (p : List Nat) (hk : Kept s₀ s) :
    Kept s₀ (State.ringAccept s k c p) := by
  unfold State.ringAccept
  repeat' first
    | with_reducible assumption
    | (extract_lets +onlyGivenNames x; refine Kept.cut (s₀ := s₀) (x := x) ?_ (fun hx => ?_); unfold x; clear x; rotate_left; clear_value x; rotate_right)
    | (extract_lets +onlyGivenNames x; clear_value x)
    | with_reducible apply Kept.ite
    | with_reducible apply State.cellsRead_kept
    | with_reducible apply State.measRecover_kept
    | with_reducible apply State.setBlob_kept
    | with_reducible apply State.setNat_kept
    | with_reducible apply State.setRing_kept

theorem State.ringResponse_kept {s₀ : State} (s : State) (k : Nat) (b : List Nat) (hk : Kept s₀ s) :
    Kept s₀ (State.ringResponse s k b) := by
  unfold State.ringResponse
  repeat' first
    | with_reducible assumption
    | (extract_lets +onlyGivenNames x; refine Kept.cut (s₀ := s₀) (x := x) ?_ (fun hx => ?_); unfold x; clear x; rotate_left; clear_value x; rotate_right)
    | (extract_lets +onlyGivenNames x; clear_value x)
    | with_reducible apply Kept.ite
    | with_reducible apply State.count_kept
    | with_reducible apply State.readFailed_kept
    | with_reducible apply State.ringAccept_kept
    | with_reducible apply State.ringDone_kept
    | with_reducible apply State.ringResult_kept
    | with_reducible apply State.setRing_kept
    | split

theorem State.ringRoute_kept {s₀ : State} (s : State) (k : Nat) (hk : Kept s₀ s) :
    Kept s₀ (State.ringRoute s k) := by
  unfold State.ringRoute
  repeat' first
    | with_reducible assumption
    | (extract_lets +onlyGivenNames x; clear_value x)
    | with_reducible apply State.setRing_kept

theorem State.ringEnter_kept {s₀ : State} (s : State) (k m ra rb : Nat) (hk : Kept s₀ s) :
    Kept s₀ (State.ringEnter s k m ra rb) := by
  unfold State.ringEnter
  repeat' first
    | with_reducible assumption
    | (extract_lets +onlyGivenNames x; refine Kept.cut (s₀ := s₀) (x := x) ?_ (fun hx => ?_); unfold x; clear x; rotate_left; clear_value x; rotate_right)
    | with_reducible apply State.ringLearn_kept
    | with_reducible apply State.ringRoute_kept
    | with_reducible apply State.setNat_kept
    | with_reducible apply State.setReach_kept
    | with_reducible apply State.setRingMode_kept

theorem State.ringMismatch_kept {s₀ : State} (s : State) (k : Nat) (fromB : Bool) (hk : Kept s₀ s) :
    Kept s₀ (State.ringMismatch s k fromB) := by
  unfold State.ringMismatch
  repeat' first
    | with_reducible assumption
    | (extract_lets +onlyGivenNames x; refine Kept.cut (s₀ := s₀) (x := x) ?_ (fun hx => ?_); unfold x; clear x; rotate_left; clear_value x; rotate_right)
    | (extract_lets +onlyGivenNames x; clear_value x)
    | with_reducible apply State.raise_kept
    | with_reducible apply State.setNat_kept
    | with_reducible apply State.setRingMode_kept
    | with_reducible apply State.setRing_kept

theorem State.enumReturn_kept {s₀ : State} (s : State) (k : Nat) (fromB atB : Bool) (m : Nat) (hk : Kept s₀ s) :
    Kept s₀ (State.enumReturn s k fromB atB m) := by
  unfold State.enumReturn
  repeat' first
    | with_reducible assumption
    | (extract_lets +onlyGivenNames x; clear_value x)
    | with_reducible apply Kept.ite
    | with_reducible apply State.ringEnter_kept
    | with_reducible apply State.ringEnumerate_kept
    | with_reducible apply State.ringMismatch_kept
    | with_reducible apply State.setRingMode_kept
    | with_reducible apply State.setRing_kept

theorem State.broadcastDone_kept {s₀ : State} (s : State) (k : Nat) (c : RCmd) (acks : Nat) (hk : Kept s₀ s) :
    Kept s₀ (State.broadcastDone s k c acks) := by
  unfold State.broadcastDone
  repeat' first
    | with_reducible assumption
    | (extract_lets +onlyGivenNames x; refine Kept.cut (s₀ := s₀) (x := x) ?_ (fun hx => ?_); unfold x; clear x; rotate_left; clear_value x; rotate_right)
    | (extract_lets +onlyGivenNames x; clear_value x)
    | with_reducible apply Kept.ite
    | with_reducible apply State.ringDone_kept
    | with_reducible apply State.ringResults_kept
    | with_reducible apply State.setRing_kept
    | with_reducible apply State.shipAdvance_kept

theorem State.frameReturn_kept {s₀ : State} (s : State) (k : Nat) (atB : Bool) (b : List Nat) (hk : Kept s₀ s) :
    Kept s₀ (State.frameReturn s k atB b) := by
  unfold State.frameReturn
  repeat' first
    | with_reducible assumption
    | (extract_lets +onlyGivenNames x; (have f : Prop := x); clear f; unfold x; clear x)
    | (extract_lets +onlyGivenNames x; refine Kept.cut (s₀ := s₀) (x := x) ?_ (fun hx => ?_); unfold x; clear x; rotate_left; clear_value x; rotate_right)
    | (extract_lets +onlyGivenNames x; clear_value x)
    | with_reducible apply Kept.ite
    | with_reducible apply State.broadcastDone_kept
    | with_reducible apply State.count_kept
    | with_reducible apply State.enumReturn_kept
    | with_reducible apply State.ringDone_kept
    | with_reducible apply State.ringRetry_kept
    | with_reducible apply State.setRing_kept
    | split

theorem State.ringTimeout_kept {s₀ : State} (s : State) (k : Nat) (hk : Kept s₀ s) :
    Kept s₀ (State.ringTimeout s k) := by
  unfold State.ringTimeout
  repeat' first
    | with_reducible assumption
    | (extract_lets +onlyGivenNames x; refine Kept.cut (s₀ := s₀) (x := x) ?_ (fun hx => ?_); unfold x; clear x; rotate_left; clear_value x; rotate_right)
    | (extract_lets +onlyGivenNames x; clear_value x)
    | with_reducible apply Kept.ite
    | with_reducible apply State.broadcastDone_kept
    | with_reducible apply State.enumReturn_kept
    | with_reducible apply State.readFailed_kept
    | with_reducible apply State.ringDone_kept
    | with_reducible apply State.ringResult_kept
    | with_reducible apply State.ringRetry_kept
    | split

theorem State.ringAbort_kept {s₀ : State} (s : State) (k : Nat) (hk : Kept s₀ s) :
    Kept s₀ (State.ringAbort s k) := by
  unfold State.ringAbort
  repeat' first
    | with_reducible assumption
    | (extract_lets +onlyGivenNames x; clear_value x)
    | with_reducible apply State.setRing_kept
    | split

theorem State.ringBroken_kept {s₀ : State} (s : State) (k : Nat) (hk : Kept s₀ s) :
    Kept s₀ (State.ringBroken s k) := by
  unfold State.ringBroken
  repeat' first
    | with_reducible assumption
    | (extract_lets +onlyGivenNames x; refine Kept.cut (s₀ := s₀) (x := x) ?_ (fun hx => ?_); unfold x; clear x; rotate_left; clear_value x; rotate_right)
    | with_reducible apply Kept.ite
    | with_reducible apply State.count_kept
    | with_reducible apply State.raise_kept
    | with_reducible apply State.ringAbort_kept
    | with_reducible apply State.ringRestart_kept

theorem State.ringClosed_kept {s₀ : State} (s : State) (k : Nat) (hk : Kept s₀ s) :
    Kept s₀ (State.ringClosed s k) := by
  unfold State.ringClosed
  repeat' first
    | with_reducible assumption
    | (extract_lets +onlyGivenNames x; refine Kept.cut (s₀ := s₀) (x := x) ?_ (fun hx => ?_); unfold x; clear x; rotate_left; clear_value x; rotate_right)
    | with_reducible apply Kept.ite
    | with_reducible apply State.ringAbort_kept
    | with_reducible apply State.ringRoute_kept
    | with_reducible apply State.setNat_kept
    | with_reducible apply State.setReach_kept
    | with_reducible apply State.setRingMode_kept

theorem State.linkPulse_kept {s₀ : State} (s : State) (k : Nat) (atB : Bool) (hk : Kept s₀ s) :
    Kept s₀ (State.linkPulse s k atB) := by
  unfold State.linkPulse
  repeat' first
    | with_reducible assumption
    | (extract_lets +onlyGivenNames x; clear_value x)
    | with_reducible apply Kept.ite
    | with_reducible apply State.emit_kept
    | with_reducible apply State.setRing_kept

theorem State.reenumerate_kept {s₀ : State} (s : State) (k : Nat) (hk : Kept s₀ s) :
    Kept s₀ (State.reenumerate s k) := by
  unfold State.reenumerate
  repeat' first
    | with_reducible assumption
    | with_reducible apply Kept.ite
    | with_reducible apply State.ringEnumerate_kept

theorem State.stackMeasFault_kept {s₀ : State} (s : State) (k : Nat) (hk : Kept s₀ s) :
    Kept s₀ (State.stackMeasFault s k) := by
  unfold State.stackMeasFault
  repeat' first
    | with_reducible assumption
    | (extract_lets +onlyGivenNames x; refine Kept.cut (s₀ := s₀) (x := x) ?_ (fun hx => ?_); unfold x; clear x; rotate_left; clear_value x; rotate_right)
    | (extract_lets +onlyGivenNames x; clear_value x)
    | with_reducible apply Kept.ite
    | with_reducible apply State.calEnd_kept
    | with_reducible apply State.count_kept
    | with_reducible apply State.openFor_kept
    | with_reducible apply State.raise_kept
    | with_reducible apply State.refreshClamps_kept
    | with_reducible apply State.setRing_kept
    | with_reducible apply State.updateShares_kept
    | split

theorem State.reconnect_kept {s₀ : State} (s : State) (k : Nat) (hk : Kept s₀ s) :
    Kept s₀ (State.reconnect s k) := by
  unfold State.reconnect
  repeat' first
    | with_reducible assumption
    | (extract_lets +onlyGivenNames x; (have f : Prop := x); clear f; unfold x; clear x)
    | (extract_lets +onlyGivenNames x; refine Kept.cut (s₀ := s₀) (x := x) ?_ (fun hx => ?_); unfold x; clear x; rotate_left; clear_value x; rotate_right)
    | (extract_lets +onlyGivenNames x; refine Kept.cut (s₀ := s₀) (x := x.2) ?_ (fun hx => ?_); unfold x; clear x; rotate_left; clear_value x; rotate_right)
    | (extract_lets +onlyGivenNames x; clear_value x)
    | with_reducible apply Kept.ite
    | with_reducible apply State.connectResult_kept
    | with_reducible apply State.setRing_kept
    | with_reducible apply State.startConnect_kept

theorem State.balanceDue_kept {s₀ : State} (s : State) (hk : Kept s₀ s) :
    Kept s₀ (State.balanceDue s) := by
  unfold State.balanceDue
  repeat' first
    | with_reducible assumption
    | intro _
    | with_reducible apply Kept.ite
    | with_reducible apply State.balanceString_kept
    | with_reducible apply State.forEach_kept

end Sys2Proof.Machine
end

