-- ==== Sys2Proof/Laws/KeptEstimate.lean ====
section
/-! SUPPORT. What every operation of Machine/Estimate.lean keeps: see Kept in Laws/Kept.lean. -/

namespace Sys2Proof.Machine

theorem State.cellTrip_kept {s₀ : State} (s : State) (k cell v : Nat) (hk : Kept s₀ s) :
    Kept s₀ (State.cellTrip s k cell v) := by
  unfold State.cellTrip
  repeat' first
    | with_reducible assumption
    | (extract_lets +onlyGivenNames x; refine Kept.cut (s₀ := s₀) (x := x) ?_ (fun hx => ?_); unfold x; clear x; rotate_left; clear_value x; rotate_right)
    | (extract_lets +onlyGivenNames x; clear_value x)
    | with_reducible apply Kept.ite
    | with_reducible apply State.dropString_kept
    | with_reducible apply State.event_kept
    | with_reducible apply State.goConnect_kept

theorem State.cellExtremes_kept {s₀ : State} (s : State) (k cell v : Nat) (hk : Kept s₀ s) :
    Kept s₀ (State.cellExtremes s k cell v) := by
  unfold State.cellExtremes
  repeat' first
    | with_reducible assumption
    | (extract_lets +onlyGivenNames x; refine Kept.cut (s₀ := s₀) (x := x) ?_ (fun hx => ?_); unfold x; clear x; rotate_left; clear_value x; rotate_right)
    | (extract_lets +onlyGivenNames x; clear_value x)
    | with_reducible apply State.extreme_kept
    | split

theorem State.calSample_kept {s₀ : State} (s : State) (k cell : Nat) (conv : Bool) (w : Option Rat) (hk : Kept s₀ s) :
    Kept s₀ (State.calSample s k cell conv w) := by
  unfold State.calSample
  repeat' first
    | with_reducible assumption
    | (extract_lets +onlyGivenNames x; clear_value x)
    | with_reducible apply Kept.ite
    | with_reducible apply State.calEnd_kept
    | (with_reducible apply Kept.mk'; first | with_reducible assumption | (with_reducible apply Kept.mk'; with_reducible assumption) | with_reducible apply State.calEnd_kept)
    | split

theorem State.estTake_kept {s₀ : State} (s : State) (k cell key : Nat) (hk : Kept s₀ s) :
    Kept s₀ (State.estTake s k cell key) := by
  unfold State.estTake
  repeat' first
    | with_reducible assumption
    | (extract_lets +onlyGivenNames x; (have f : Prop := x); clear f; unfold x; clear x)
    | (extract_lets +onlyGivenNames x; refine Kept.cut (s₀ := s₀) (x := x) ?_ (fun hx => ?_); unfold x; clear x; rotate_left; clear_value x; rotate_right)
    | (extract_lets +onlyGivenNames x; clear_value x)
    | with_reducible apply Kept.ite
    | with_reducible apply State.calSample_kept
    | with_reducible apply State.cellExtremes_kept
    | with_reducible apply State.cellTrip_kept
    | with_reducible apply State.setEstCell_kept
    | (with_reducible apply Kept.mk'; first | with_reducible assumption | (with_reducible apply Kept.mk'; with_reducible assumption) | with_reducible apply State.calSample_kept | with_reducible apply State.cellExtremes_kept | with_reducible apply State.cellTrip_kept | with_reducible apply State.setEstCell_kept)
    | split

theorem State.estUpdate_kept {s₀ : State} (s : State) (k cell : Nat) (hk : Kept s₀ s) :
    Kept s₀ (State.estUpdate s k cell) := by
  unfold State.estUpdate
  repeat' first
    | with_reducible assumption
    | with_reducible apply State.estTake_kept

theorem State.reportSoc_kept {s₀ : State} (s : State) (k : Nat) (hk : Kept s₀ s) :
    Kept s₀ (State.reportSoc s k) := by
  unfold State.reportSoc
  repeat' first
    | with_reducible assumption
    | (extract_lets +onlyGivenNames x; clear_value x)
    | with_reducible apply State.setEstStr_kept
    | with_reducible apply State.setNat_kept

theorem State.estCompare_kept {s₀ : State} (s : State) (differ : Bool) (hk : Kept s₀ s) :
    Kept s₀ (State.estCompare s differ) := by
  unfold State.estCompare
  repeat' first
    | with_reducible assumption
    | with_reducible apply Kept.ite
    | with_reducible apply State.count_kept

theorem State.persistDue_kept {s₀ : State} (s : State) (hk : Kept s₀ s) :
    Kept s₀ (State.persistDue s) := by
  unfold State.persistDue
  repeat' first
    | with_reducible assumption
    | with_reducible apply Kept.ite
    | with_reducible apply State.persist_kept

theorem State.lifetimeClear_kept {s₀ : State} (s : State) (k v : Nat) (hk : Kept s₀ s) :
    Kept s₀ (State.lifetimeClear s k v).2 := by
  unfold State.lifetimeClear
  repeat' first
    | with_reducible assumption
    | intro _
    | (extract_lets +onlyGivenNames x; refine Kept.cut (s₀ := s₀) (x := x) ?_ (fun hx => ?_); unfold x; clear x; rotate_left; clear_value x; rotate_right)
    | (extract_lets +onlyGivenNames x; clear_value x)
    | with_reducible apply Kept.ite2
    | with_reducible apply State.forEach_kept
    | with_reducible apply State.persist_kept
    | with_reducible apply State.setBlob_kept
    | with_reducible apply State.setEstStr_kept
    | with_reducible apply State.setNum_kept

theorem State.ocvWrite_kept {s₀ : State} (s : State) (b : List Nat) (hk : Kept s₀ s) :
    Kept s₀ (State.ocvWrite s b).2 := by
  unfold State.ocvWrite
  repeat' first
    | with_reducible assumption
    | with_reducible apply Kept.ite2
    | with_reducible apply State.setBlob_kept

theorem State.calPhase_kept {s₀ : State} (s : State) (n : Nat) (hk : Kept s₀ s) :
    Kept s₀ (State.calPhase s n) := by
  unfold State.calPhase
  repeat' first
    | (extract_lets +onlyGivenNames x; clear_value x)
    | (with_reducible apply Kept.mk'; first | with_reducible assumption | (with_reducible apply Kept.mk'; with_reducible assumption))

theorem State.calRequest_kept {s₀ : State} (s : State) (v : Nat) (hk : Kept s₀ s) :
    Kept s₀ (State.calRequest s v).2 := by
  unfold State.calRequest
  repeat' first
    | with_reducible assumption
    | (extract_lets +onlyGivenNames x; (have f : Prop := x); clear f; unfold x; clear x)
    | (extract_lets +onlyGivenNames x; refine Kept.cut (s₀ := s₀) (x := x) ?_ (fun hx => ?_); unfold x; clear x; rotate_left; clear_value x; rotate_right)
    | (extract_lets +onlyGivenNames x; clear_value x)
    | with_reducible apply Kept.ite2
    | with_reducible apply State.balanceStop_kept
    | with_reducible apply State.calEnd_kept
    | with_reducible apply State.calPhase_kept
    | with_reducible apply State.setNat_kept
    | (with_reducible apply Kept.mk'; first | with_reducible assumption | (with_reducible apply Kept.mk'; with_reducible assumption) | with_reducible apply State.balanceStop_kept | with_reducible apply State.calEnd_kept | with_reducible apply State.calPhase_kept | with_reducible apply State.setNat_kept)

theorem State.calApply_kept {s₀ : State} (s : State) (k : Nat) (hk : Kept s₀ s) :
    Kept s₀ (State.calApply s k) := by
  unfold State.calApply
  repeat' first
    | with_reducible assumption
    | intro _
    | (extract_lets +onlyGivenNames x; (have f : Prop := x); clear f; unfold x; clear x)
    | (extract_lets +onlyGivenNames x; refine Kept.cut (s₀ := s₀) (x := x) ?_ (fun hx => ?_); unfold x; clear x; rotate_left; clear_value x; rotate_right)
    | (extract_lets +onlyGivenNames x; clear_value x)
    | with_reducible apply Kept.ite
    | with_reducible apply State.calEnd_kept
    | with_reducible apply State.forEach_kept
    | with_reducible apply State.setBlob_kept
    | with_reducible apply State.setEstCell_kept

theorem State.calPhaseEnd_kept {s₀ : State} (s : State) (hk : Kept s₀ s) :
    Kept s₀ (State.calPhaseEnd s) := by
  unfold State.calPhaseEnd
  repeat' first
    | with_reducible assumption
    | (extract_lets +onlyGivenNames x; clear_value x)
    | with_reducible apply Kept.ite
    | with_reducible apply State.calApply_kept
    | with_reducible apply State.calEnd_kept
    | with_reducible apply State.calPhase_kept
    | (with_reducible apply Kept.mk'; first | with_reducible assumption | (with_reducible apply Kept.mk'; with_reducible assumption) | with_reducible apply State.calApply_kept | with_reducible apply State.calEnd_kept | with_reducible apply State.calPhase_kept)
    | split

theorem State.calLate_kept {s₀ : State} (s : State) (hk : Kept s₀ s) :
    Kept s₀ (State.calLate s) := by
  unfold State.calLate
  repeat' first
    | with_reducible assumption
    | (extract_lets +onlyGivenNames x; clear_value x)
    | with_reducible apply Kept.ite
    | with_reducible apply State.calEnd_kept

end Sys2Proof.Machine
end

