-- ==== Sys2Proof/Laws/KeptDict.lean ====
section
/-! SUPPORT. What every operation of Machine/Dict.lean keeps: see Kept in Laws/Kept.lean. -/

namespace Sys2Proof.Machine

theorem State.noteWrite_kept {s₀ : State} (s : State) (path : Path) (idx sub : Nat) (hk : Kept s₀ s) :
    Kept s₀ (State.noteWrite s path idx sub) := by
  unfold State.noteWrite
  repeat' first
    | with_reducible assumption
    | (extract_lets +onlyGivenNames x; refine Kept.cut (s₀ := s₀) (x := x) ?_ (fun hx => ?_); unfold x; clear x; rotate_left; clear_value x; rotate_right)
    | with_reducible apply State.count_kept
    | with_reducible apply State.setBlob_kept

end Sys2Proof.Machine
end

