-- ==== Sys2Proof/Laws/KeptSecurity.lean ====
section
/-! SUPPORT. What every operation of Machine/Security.lean keeps: see Kept in Laws/Kept.lean. -/

namespace Sys2Proof.Machine

theorem State.noteVerify_kept {s₀ : State} (s : State) (code : Nat) (hk : Kept s₀ s) :
    Kept s₀ (State.noteVerify s code) := by
  unfold State.noteVerify
  repeat' first
    | with_reducible assumption
    | (extract_lets +onlyGivenNames x; refine Kept.cut (s₀ := s₀) (x := x) ?_ (fun hx => ?_); unfold x; clear x; rotate_left; clear_value x; rotate_right)
    | (extract_lets +onlyGivenNames x; clear_value x)
    | with_reducible apply Kept.ite
    | with_reducible apply State.count_kept
    | (with_reducible apply Kept.mk'; first | with_reducible assumption | (with_reducible apply Kept.mk'; with_reducible assumption) | with_reducible apply State.count_kept)

theorem State.setImages_kept {s₀ : State} (s : State) (h : Nat) (v : ImageSlots) (hk : Kept s₀ s) :
    Kept s₀ (State.setImages s h v) := by
  unfold State.setImages
  repeat' first
    | (extract_lets +onlyGivenNames x; clear_value x)
    | with_reducible apply Kept.ite
    | (with_reducible apply Kept.mk'; first | with_reducible assumption | (with_reducible apply Kept.mk'; with_reducible assumption))

theorem State.pruneAdopted_kept {s₀ : State} (s : State) (hk : Kept s₀ s) :
    Kept s₀ (State.pruneAdopted s) := by
  unfold State.pruneAdopted
  repeat' first
    | (extract_lets +onlyGivenNames x; clear_value x)
    | (with_reducible apply Kept.mk'; first | with_reducible assumption | (with_reducible apply Kept.mk'; with_reducible assumption))

theorem State.firmwareWrite_kept {s₀ : State} (s : State) (kind : Nat) (role : Role) (password : Nat) (b : List Nat) (hk : Kept s₀ s) :
    Kept s₀ (State.firmwareWrite s kind role password b) := by
  unfold State.firmwareWrite
  repeat' first
    | with_reducible assumption
    | intro _
    | (extract_lets +onlyGivenNames x; refine Kept.cut (s₀ := s₀) (x := x) ?_ (fun hx => ?_); unfold x; clear x; rotate_left; clear_value x; rotate_right)
    | (extract_lets +onlyGivenNames x; clear_value x)
    | with_reducible apply Kept.ite
    | with_reducible apply State.emit_kept
    | with_reducible apply State.forEach_kept
    | with_reducible apply State.noteVerify_kept
    | with_reducible apply State.pruneAdopted_kept
    | with_reducible apply State.setImages_kept

theorem State.adopt_kept {s₀ : State} (s : State) (hk : Kept s₀ s) :
    Kept s₀ (State.adopt s) := by
  unfold State.adopt
  repeat' first
    | (extract_lets +onlyGivenNames x; clear_value x)
    | (with_reducible apply Kept.mk'; first | with_reducible assumption | (with_reducible apply Kept.mk'; with_reducible assumption))

theorem State.keyUpdate_kept {s₀ : State} (s : State) (path : Path) (port : Nat) (b : List Nat) (hk : Kept s₀ s) :
    Kept s₀ (State.keyUpdate s path port b).2 := by
  unfold State.keyUpdate
  repeat' first
    | with_reducible assumption
    | (extract_lets +onlyGivenNames x; refine Kept.cut (s₀ := s₀) (x := x) ?_ (fun hx => ?_); unfold x; clear x; rotate_left; clear_value x; rotate_right)
    | (extract_lets +onlyGivenNames x; clear_value x)
    | with_reducible apply Kept.ite
    | with_reducible apply Kept.ite2
    | with_reducible apply State.adopt_kept
    | with_reducible apply State.setBlob_kept
    | with_reducible apply State.setNat_kept
    | (with_reducible apply Kept.mk'; first | with_reducible assumption | (with_reducible apply Kept.mk'; with_reducible assumption) | with_reducible apply State.adopt_kept | with_reducible apply State.setBlob_kept | with_reducible apply State.setNat_kept)
    | split

theorem State.rollbackCommit_kept {s₀ : State} (s : State) (v : Nat) (hk : Kept s₀ s) :
    Kept s₀ (State.rollbackCommit s v).2 := by
  unfold State.rollbackCommit
  repeat' first
    | with_reducible assumption
    | (extract_lets +onlyGivenNames x; clear_value x)
    | with_reducible apply Kept.ite2
    | (with_reducible apply Kept.mk'; first | with_reducible assumption | (with_reducible apply Kept.mk'; with_reducible assumption))

theorem State.authorAdd_kept {s₀ : State} (s : State) (b : List Nat) (hk : Kept s₀ s) :
    Kept s₀ (State.authorAdd s b).2 := by
  unfold State.authorAdd
  repeat' first
    | with_reducible assumption
    | (extract_lets +onlyGivenNames x; clear_value x)
    | with_reducible apply Kept.ite2
    | (with_reducible apply Kept.mk'; first | with_reducible assumption | (with_reducible apply Kept.mk'; with_reducible assumption))
    | split

theorem State.authorRemove_kept {s₀ : State} (s : State) (id : List Nat) (hk : Kept s₀ s) :
    Kept s₀ (State.authorRemove s id).2 := by
  unfold State.authorRemove
  repeat' first
    | with_reducible assumption
    | (extract_lets +onlyGivenNames x; clear_value x)
    | with_reducible apply Kept.ite2
    | (with_reducible apply Kept.mk'; first | with_reducible assumption | (with_reducible apply Kept.mk'; with_reducible assumption))

theorem State.randomBytes_kept {s₀ : State} (s : State) (n : Nat) (hk : Kept s₀ s) :
    Kept s₀ (State.randomBytes s n).2 := by
  unfold State.randomBytes
  repeat' first
    | with_reducible assumption
    | (extract_lets +onlyGivenNames x; refine Kept.cut (s₀ := s₀) (x := x.2) ?_ (fun hx => ?_); unfold x; clear x; rotate_left; clear_value x; rotate_right)
    | with_reducible apply State.draw_kept

theorem State.setAdmit_kept {s₀ : State} (s : State) (k : Nat) (a : Admit) (hk : Kept s₀ s) :
    Kept s₀ (State.setAdmit s k a) := by
  unfold State.setAdmit
  repeat' first
    | (extract_lets +onlyGivenNames x; clear_value x)
    | (with_reducible apply Kept.mk'; first | with_reducible assumption | (with_reducible apply Kept.mk'; with_reducible assumption))

theorem State.admitTry_kept {s₀ : State} (s : State) (k : Nat) (ticket devKey sig : List Nat) (hk : Kept s₀ s) :
    Kept s₀ (State.admitTry s k ticket devKey sig) := by
  unfold State.admitTry
  repeat' first
    | with_reducible assumption
    | (extract_lets +onlyGivenNames x; refine Kept.cut (s₀ := s₀) (x := x) ?_ (fun hx => ?_); unfold x; clear x; rotate_left; clear_value x; rotate_right)
    | (extract_lets +onlyGivenNames x; refine Kept.cut (s₀ := s₀) (x := x.2) ?_ (fun hx => ?_); unfold x; clear x; rotate_left; clear_value x; rotate_right)
    | (extract_lets +onlyGivenNames x; (have f := fun a => x a); clear f; unfold x; clear x; dsimp -zeta -failIfUnchanged only)
    | (extract_lets +onlyGivenNames x; clear_value x)
    | with_reducible apply Kept.ite
    | with_reducible apply State.count_kept
    | with_reducible apply State.randomBytes_kept
    | with_reducible apply State.routesChanged_kept
    | with_reducible apply State.setAdmit_kept
    | with_reducible apply State.setNat_kept

theorem State.admitChallenge_kept {s₀ : State} (s : State) (k : Nat) (b : List Nat) (hk : Kept s₀ s) :
    Kept s₀ (State.admitChallenge s k b) := by
  unfold State.admitChallenge
  repeat' first
    | with_reducible assumption
    | (extract_lets +onlyGivenNames x; clear_value x)
    | with_reducible apply State.setBlob_kept

theorem State.sessionSetup_kept {s₀ : State} (s : State) (v : Nat) (hk : Kept s₀ s) :
    Kept s₀ (State.sessionSetup s v).2 := by
  unfold State.sessionSetup
  repeat' first
    | with_reducible assumption
    | (extract_lets +onlyGivenNames x; refine Kept.cut (s₀ := s₀) (x := x) ?_ (fun hx => ?_); unfold x; clear x; rotate_left; clear_value x; rotate_right)
    | (extract_lets +onlyGivenNames x; refine Kept.cut (s₀ := s₀) (x := x.2) ?_ (fun hx => ?_); unfold x; clear x; rotate_left; clear_value x; rotate_right)
    | (extract_lets +onlyGivenNames x; clear_value x)
    | with_reducible apply Kept.ite2
    | with_reducible apply State.randomBytes_kept
    | with_reducible apply State.setBlob_kept
    | (with_reducible apply Kept.mk'; first | with_reducible assumption | (with_reducible apply Kept.mk'; with_reducible assumption) | with_reducible apply State.randomBytes_kept | with_reducible apply State.setBlob_kept)

theorem State.unlockFail_kept {s₀ : State} (s : State) (hk : Kept s₀ s) :
    Kept s₀ (State.unlockFail s) := by
  unfold State.unlockFail
  repeat' first
    | with_reducible assumption
    | (extract_lets +onlyGivenNames x; refine Kept.cut (s₀ := s₀) (x := x) ?_ (fun hx => ?_); unfold x; clear x; rotate_left; clear_value x; rotate_right)
    | (extract_lets +onlyGivenNames x; clear_value x)
    | with_reducible apply State.count_kept
    | (with_reducible apply Kept.mk'; first | with_reducible assumption | (with_reducible apply Kept.mk'; with_reducible assumption) | with_reducible apply State.count_kept)

theorem State.sessionResponse_kept {s₀ : State} (s : State) (b : List Nat) (hk : Kept s₀ s) :
    Kept s₀ (State.sessionResponse s b).2 := by
  unfold State.sessionResponse
  repeat' first
    | with_reducible assumption
    | (extract_lets +onlyGivenNames x; clear_value x)
    | with_reducible apply Kept.ite2
    | with_reducible apply State.unlockFail_kept
    | (with_reducible apply Kept.mk'; first | with_reducible assumption | (with_reducible apply Kept.mk'; with_reducible assumption) | with_reducible apply State.unlockFail_kept)

theorem State.sessionLock_kept {s₀ : State} (s : State) (v : Nat) (hk : Kept s₀ s) :
    Kept s₀ (State.sessionLock s v) := by
  unfold State.sessionLock
  repeat' first
    | with_reducible assumption
    | intro _
    | with_reducible apply State.endSession_kept
    | with_reducible apply State.forEach_kept

theorem State.sessionExpire_kept {s₀ : State} (s : State) (k : Nat) (hk : Kept s₀ s) :
    Kept s₀ (State.sessionExpire s k) := by
  unfold State.sessionExpire
  repeat' first
    | with_reducible assumption
    | (extract_lets +onlyGivenNames x; clear_value x)
    | with_reducible apply Kept.ite
    | with_reducible apply State.endSession_kept

theorem State.lockoutEnd_kept {s₀ : State} (s : State) (hk : Kept s₀ s) :
    Kept s₀ (State.lockoutEnd s) := by
  unfold State.lockoutEnd
  repeat' first
    | with_reducible assumption
    | (extract_lets +onlyGivenNames x; clear_value x)
    | with_reducible apply Kept.ite
    | (with_reducible apply Kept.mk'; first | with_reducible assumption | (with_reducible apply Kept.mk'; with_reducible assumption))

theorem State.tapBypass_kept {s₀ : State} (s : State) (hk : Kept s₀ s) :
    Kept s₀ (State.tapBypass s) := by
  unfold State.tapBypass
  repeat' first
    | (extract_lets +onlyGivenNames x; clear_value x)
    | with_reducible apply State.emit_kept
    | (with_reducible apply Kept.mk'; first | with_reducible assumption | (with_reducible apply Kept.mk'; with_reducible assumption) | with_reducible apply State.emit_kept)

theorem State.tapScan_kept {s₀ : State} (s : State) (i : TapInstr) (bits : List Nat) (hk : Kept s₀ s) :
    Kept s₀ (State.tapScan s i bits) := by
  unfold State.tapScan
  repeat' first
    | with_reducible assumption
    | (extract_lets +onlyGivenNames x; refine Kept.cut (s₀ := s₀) (x := x) ?_ (fun hx => ?_); unfold x; clear x; rotate_left; clear_value x; rotate_right)
    | (extract_lets +onlyGivenNames x; refine Kept.cut (s₀ := s₀) (x := x.2) ?_ (fun hx => ?_); unfold x; clear x; rotate_left; clear_value x; rotate_right)
    | (extract_lets +onlyGivenNames x; clear_value x)
    | with_reducible apply State.draw_kept
    | with_reducible apply State.emit_kept
    | (with_reducible apply Kept.mk'; first | with_reducible assumption | (with_reducible apply Kept.mk'; with_reducible assumption) | with_reducible apply State.draw_kept | with_reducible apply State.emit_kept)

end Sys2Proof.Machine
end

