-- ==== Sys2Proof/Laws/KeptDictWrite.lean ====
section
/-! SUPPORT. What every operation of Machine/DictWrite.lean keeps: see Kept in Laws/Kept.lean. -/

namespace Sys2Proof.Machine

theorem State.storeValue_kept {s₀ : State} (s : State) (idx sub : Nat) (b : List Nat) (hk : Kept s₀ s) :
    Kept s₀ (State.storeValue s idx sub b) := by
  unfold State.storeValue
  repeat' first
    | with_reducible assumption
    | intro _
    | (extract_lets +onlyGivenNames x; clear_value x)
    | with_reducible apply Kept.ite
    | with_reducible apply State.forEach_kept
    | with_reducible apply State.setBlob_kept
    | with_reducible apply State.setNum_kept
    | with_reducible apply State.setProg_kept
    | with_reducible apply State.setSlot_kept
    | with_reducible apply State.setWeight_kept
    | split

theorem State.reconfigure_kept {s₀ : State} (s : State) (k : Nat) (hk : Kept s₀ s) :
    Kept s₀ (State.reconfigure s k) := by
  unfold State.reconfigure
  repeat' first
    | with_reducible assumption
    | with_reducible apply Kept.ite
    | with_reducible apply State.ringAll_kept

theorem State.afterStore_kept {s₀ : State} (s : State) (idx sub : Nat) (hk : Kept s₀ s) :
    Kept s₀ (State.afterStore s idx sub) := by
  unfold State.afterStore
  repeat' first
    | with_reducible assumption
    | intro _
    | (extract_lets +onlyGivenNames x; refine Kept.cut (s₀ := s₀) (x := x) ?_ (fun hx => ?_); unfold x; clear x; rotate_left; clear_value x; rotate_right)
    | (extract_lets +onlyGivenNames x; clear_value x)
    | with_reducible apply Kept.ite
    | with_reducible apply State.forEach_kept
    | with_reducible apply State.hallRoles_kept
    | with_reducible apply State.readdShed_kept
    | with_reducible apply State.reconfigure_kept
    | with_reducible apply State.refreshClamps_kept
    | with_reducible apply State.refreshStep_kept
    | with_reducible apply State.ringRestart_kept
    | with_reducible apply State.setChan_kept
    | with_reducible apply State.setNat_kept
    | with_reducible apply State.setNum_kept
    | split

theorem State.storeBegin_kept {s₀ : State} (s : State) (foe : Bool) (hk : Kept s₀ s) :
    Kept s₀ (State.storeBegin s foe) := by
  unfold State.storeBegin
  repeat' first
    | (extract_lets +onlyGivenNames x; clear_value x)
    | (with_reducible apply Kept.mk'; first | with_reducible assumption | (with_reducible apply Kept.mk'; with_reducible assumption))

theorem State.eraseStored_kept {s₀ : State} (s : State) (hk : Kept s₀ s) :
    Kept s₀ (State.eraseStored s) := by
  unfold State.eraseStored
  repeat' first
    | (extract_lets +onlyGivenNames x; clear_value x)
    | (with_reducible apply Kept.mk'; first | with_reducible assumption | (with_reducible apply Kept.mk'; with_reducible assumption))

theorem State.transferRequest_kept {s₀ : State} (s : State) (v : Nat) (hk : Kept s₀ s) :
    Kept s₀ (State.transferRequest s v).2 := by
  unfold State.transferRequest
  repeat' first
    | with_reducible assumption
    | (extract_lets +onlyGivenNames x; (have f : HoldSt := x); clear f; unfold x; clear x)
    | (extract_lets +onlyGivenNames x; clear_value x)
    | with_reducible apply Kept.ite2
    | (with_reducible refine Kept.mkHold ?_ rfl rfl; first | with_reducible assumption)

theorem State.hallSet_kept {s₀ : State} (s : State) (v : Nat) (tenantElsewhere : Bool) (hk : Kept s₀ s) :
    Kept s₀ (State.hallSet s v tenantElsewhere).2 := by
  unfold State.hallSet
  repeat' first
    | with_reducible assumption
    | (extract_lets +onlyGivenNames x; clear_value x)
    | with_reducible apply Kept.ite2
    | (with_reducible apply Kept.mk'; first | with_reducible assumption | (with_reducible apply Kept.mk'; with_reducible assumption))

theorem State.dictEffect_kept {s₀ : State} (s : State) (path : Path) (port : Nat) (role : Role) (idx sub : Nat) (v : Int) (b : List Nat) (hk : Kept s₀ s) :
    Kept s₀ (State.dictEffect s path port role idx sub v b).2 := by
  unfold State.dictEffect
  repeat' first
    | with_reducible assumption
    | (extract_lets +onlyGivenNames x; refine Kept.cut (s₀ := s₀) (x := x) ?_ (fun hx => ?_); unfold x; clear x; rotate_left; clear_value x; rotate_right)
    | (extract_lets +onlyGivenNames x; refine Kept.cut (s₀ := s₀) (x := x.2) ?_ (fun hx => ?_); unfold x; clear x; rotate_left; clear_value x; rotate_right)
    | (extract_lets +onlyGivenNames x; clear_value x)
    | with_reducible apply Kept.ite2
    | with_reducible apply State.ackAll_kept
    | with_reducible apply State.ackWrite_kept
    | with_reducible apply State.afterStore_kept
    | with_reducible apply State.allocRequest_kept
    | with_reducible apply State.arrayCmd_kept
    | with_reducible apply State.authorAdd_kept
    | with_reducible apply State.authorRemove_kept
    | with_reducible apply State.bindForecaster_kept
    | with_reducible apply State.blockCommand_kept
    | with_reducible apply State.calRequest_kept
    | with_reducible apply State.channelRequest_kept
    | with_reducible apply State.commitInst_kept
    | with_reducible apply State.domainClose_kept
    | with_reducible apply State.domainCreate_kept
    | with_reducible apply State.eraseStored_kept
    | with_reducible apply State.hallSet_kept
    | with_reducible apply State.keyUpdate_kept
    | with_reducible apply State.lifetimeClear_kept
    | with_reducible apply State.loadRequest_kept
    | with_reducible apply State.lockoutClear_kept
    | with_reducible apply State.ocvWrite_kept
    | with_reducible apply State.phaseClear_kept
    | with_reducible apply State.progCommand_kept
    | with_reducible apply State.railClear_kept
    | with_reducible apply State.refreshStep_kept
    | with_reducible apply State.request_kept
    | with_reducible apply State.rollbackCommit_kept
    | with_reducible apply State.sessionLock_kept
    | with_reducible apply State.sessionResponse_kept
    | with_reducible apply State.sessionSetup_kept
    | with_reducible apply State.slotCommand_kept
    | with_reducible apply State.storeBegin_kept
    | with_reducible apply State.storeValue_kept
    | with_reducible apply State.tenantCommand_kept
    | with_reducible apply State.traceControl_kept
    | with_reducible apply State.transferRequest_kept
    | with_reducible apply State.windowRequest_kept
    | with_reducible apply State.wordSet_kept
    | split

theorem State.dictWrite_kept {s₀ : State} (s : State) (path : Path) (port : Nat) (role : Role) (idx sub : Nat) (b : List Nat) (hk : Kept s₀ s) :
    Kept s₀ (State.dictWrite s path port role idx sub b).2 := by
  unfold State.dictWrite
  repeat' first
    | with_reducible assumption
    | (extract_lets +onlyGivenNames x; refine Kept.cut (s₀ := s₀) (x := x.2) ?_ (fun hx => ?_); unfold x; clear x; rotate_left; clear_value x; rotate_right)
    | (extract_lets +onlyGivenNames x; clear_value x)
    | with_reducible apply Kept.ite
    | with_reducible apply Kept.ite2
    | with_reducible apply State.count_kept
    | with_reducible apply State.dictEffect_kept
    | with_reducible apply State.noteWrite_kept

theorem State.regWrite_kept {s₀ : State} (s : State) (path : Path) (port : Nat) (role : Role) (idx sub : Nat) (b : List Nat) (hk : Kept s₀ s) :
    Kept s₀ (State.regWrite s path port role idx sub b) := by
  unfold State.regWrite
  repeat' first
    | with_reducible assumption
    | (extract_lets +onlyGivenNames x; refine Kept.cut (s₀ := s₀) (x := x.2) ?_ (fun hx => ?_); unfold x; clear x; rotate_left; clear_value x; rotate_right)
    | with_reducible apply Kept.ite
    | with_reducible apply State.dictWrite_kept
    | with_reducible apply State.emit_kept

theorem State.cmdWrite_kept {s₀ : State} (s : State) (role : Role) (key v : Nat) (hk : Kept s₀ s) :
    Kept s₀ (State.cmdWrite s role key v) := by
  unfold State.cmdWrite
  repeat' first
    | with_reducible assumption
    | with_reducible apply State.regWrite_kept

theorem State.reqWrite_kept {s₀ : State} (s : State) (role : Role) (key : Nat) (b : List Nat) (hk : Kept s₀ s) :
    Kept s₀ (State.reqWrite s role key b) := by
  unfold State.reqWrite
  repeat' first
    | with_reducible assumption
    | with_reducible apply State.regWrite_kept

theorem State.broadcastWrite_kept {s₀ : State} (s : State) (role : Role) (idx sub : Nat) (b : List Nat) (hk : Kept s₀ s) :
    Kept s₀ (State.broadcastWrite s role idx sub b) := by
  unfold State.broadcastWrite
  repeat' first
    | with_reducible assumption
    | (extract_lets +onlyGivenNames x; refine Kept.cut (s₀ := s₀) (x := x.2) ?_ (fun hx => ?_); unfold x; clear x; rotate_left; clear_value x; rotate_right)
    | (extract_lets +onlyGivenNames x; clear_value x)
    | with_reducible apply Kept.ite
    | with_reducible apply State.count_kept
    | with_reducible apply State.dictWrite_kept

theorem State.applySet_kept {s₀ : State} (s : State) (l : List (Nat × Nat × List Nat)) (hk : Kept s₀ s) :
    Kept s₀ (State.applySet s l) := by
  unfold State.applySet
  repeat' first
    | with_reducible assumption
    | intro _
    | (extract_lets +onlyGivenNames x; refine Kept.cut (s₀ := s₀) (x := x) ?_ (fun hx => ?_); unfold x; clear x; rotate_left; clear_value x; rotate_right)
    | with_reducible apply State.afterStore_kept
    | with_reducible apply State.forEach_kept
    | with_reducible apply State.storeValue_kept

theorem State.completeWrite_kept {s₀ : State} (s : State) (role : Role) (idx : Nat) (vals : List (Nat × List Nat)) (hk : Kept s₀ s) :
    Kept s₀ (State.completeWrite s role idx vals) := by
  unfold State.completeWrite
  repeat' first
    | with_reducible assumption
    | (extract_lets +onlyGivenNames x; refine Kept.cut (s₀ := s₀) (x := x) ?_ (fun hx => ?_); unfold x; clear x; rotate_left; clear_value x; rotate_right)
    | (extract_lets +onlyGivenNames x; (have f := fun a => x a); clear f; unfold x; clear x; dsimp -zeta -failIfUnchanged only)
    | (extract_lets +onlyGivenNames x; clear_value x)
    | with_reducible apply Kept.ite
    | with_reducible apply State.applySet_kept
    | with_reducible apply State.count_kept
    | with_reducible apply State.emit_kept
    | with_reducible apply State.noteWrite_kept
    | split

end Sys2Proof.Machine
end

