-- ==== Sys2Proof/Laws/KeptRegisters.lean ====
section
/-! SUPPORT. What every operation of Machine/Registers.lean keeps: see Kept in Laws/Kept.lean. -/

namespace Sys2Proof.Machine

theorem State.hallTimeWrite_kept {s₀ : State} (s : State) (role : Role) (v : Nat) (elsewhere : Bool) (hk : Kept s₀ s) :
    Kept s₀ (State.hallTimeWrite s role v elsewhere) := by
  unfold State.hallTimeWrite
  repeat' first
    | with_reducible assumption
    | (extract_lets +onlyGivenNames x; clear_value x)
    | with_reducible apply Kept.ite
    | with_reducible apply State.cmdWrite_kept
    | with_reducible apply State.count_kept
    | with_reducible apply State.emit_kept

theorem State.keyWrite_kept {s₀ : State} (s : State) (role : Role) (path : Path) (port op : Nat) (rec : List Nat) (hk : Kept s₀ s) :
    Kept s₀ (State.keyWrite s role path port op rec) := by
  unfold State.keyWrite
  repeat' first
    | with_reducible assumption
    | with_reducible apply State.regWrite_kept

theorem State.challengeWrite_kept {s₀ : State} (s : State) (k : Nat) (b : List Nat) (hk : Kept s₀ s) :
    Kept s₀ (State.challengeWrite s k b).2 := by
  unfold State.challengeWrite
  repeat' first
    | with_reducible assumption
    | (extract_lets +onlyGivenNames x; clear_value x)
    | with_reducible apply Kept.ite2
    | with_reducible apply State.admitChallenge_kept
    | with_reducible apply State.count_kept
    | with_reducible apply State.noteWrite_kept

end Sys2Proof.Machine
end

