-- ==== Sys2Proof/Laws/KeptEcat.lean ====
section
/-! SUPPORT. What every operation of Machine/Ecat.lean keeps: see Kept in Laws/Kept.lean. -/

namespace Sys2Proof.Machine

theorem State.escRequest_kept {s₀ : State} (s : State) (e : EscState) (hk : Kept s₀ s) :
    Kept s₀ (State.escRequest s e) := by
  unfold State.escRequest
  repeat' first
    | with_reducible assumption
    | (extract_lets +onlyGivenNames x; clear_value x)
    | with_reducible apply Kept.ite
    | with_reducible apply State.emit_kept
    | (with_reducible apply Kept.mk'; first | with_reducible assumption | (with_reducible apply Kept.mk'; with_reducible assumption) | with_reducible apply State.emit_kept)

theorem State.watchdog_kept {s₀ : State} (s : State) (hk : Kept s₀ s) :
    Kept s₀ (State.watchdog s) := by
  unfold State.watchdog
  repeat' first
    | with_reducible assumption
    | (extract_lets +onlyGivenNames x; clear_value x)
    | with_reducible apply Kept.ite
    | with_reducible apply State.emit_kept
    | with_reducible apply State.event_kept
    | (with_reducible apply Kept.mk'; first | with_reducible assumption | (with_reducible apply Kept.mk'; with_reducible assumption) | with_reducible apply State.emit_kept | with_reducible apply State.event_kept)

theorem State.refreshInputs_kept {s₀ : State} (s : State) (hk : Kept s₀ s) :
    Kept s₀ (State.refreshInputs s) := by
  unfold State.refreshInputs
  repeat' first
    | with_reducible assumption
    | intro _
    | (extract_lets +onlyGivenNames x; refine Kept.cut (s₀ := s₀) (x := x) ?_ (fun hx => ?_); unfold x; clear x; rotate_left; clear_value x; rotate_right)
    | (extract_lets +onlyGivenNames x; clear_value x)
    | with_reducible apply State.forEach_kept
    | with_reducible apply State.setNat_kept
    | with_reducible apply State.setNum_kept

theorem State.outputStatus_kept {s₀ : State} (s : State) (seq sub code : Nat) (hk : Kept s₀ s) :
    Kept s₀ (State.outputStatus s seq sub code) := by
  unfold State.outputStatus
  repeat' first
    | (extract_lets +onlyGivenNames x; clear_value x)
    | with_reducible apply State.setNat_kept
    | (with_reducible apply Kept.mk'; first | with_reducible assumption | (with_reducible apply Kept.mk'; with_reducible assumption) | with_reducible apply State.setNat_kept)

theorem State.judgeOutputs_kept {s₀ : State} (s : State) (seq : Nat) (vals : List (Nat × List Nat)) (hk : Kept s₀ s) :
    Kept s₀ (State.judgeOutputs s seq vals) := by
  unfold State.judgeOutputs
  repeat' first
    | with_reducible assumption
    | (extract_lets +onlyGivenNames x; refine Kept.cut (s₀ := s₀) (x := x) ?_ (fun hx => ?_); unfold x; clear x; rotate_left; clear_value x; rotate_right)
    | (extract_lets +onlyGivenNames x; clear_value x)
    | with_reducible apply Kept.ite
    | with_reducible apply State.ackAll_kept
    | with_reducible apply State.applySet_kept
    | with_reducible apply State.count_kept
    | with_reducible apply State.noteWrite_kept
    | with_reducible apply State.outputStatus_kept
    | split

theorem State.processData_kept {s₀ : State} (s : State) (b : List Nat) (hk : Kept s₀ s) :
    Kept s₀ (State.processData s b) := by
  unfold State.processData
  repeat' first
    | with_reducible assumption
    | intro _
    | (extract_lets +onlyGivenNames x; refine Kept.cut (s₀ := s₀) (x := x) ?_ (fun hx => ?_); unfold x; clear x; rotate_left; clear_value x; rotate_right)
    | (extract_lets +onlyGivenNames x; clear_value x)
    | with_reducible apply Kept.ite
    | with_reducible apply State.forEach_kept
    | with_reducible apply State.judgeOutputs_kept
    | with_reducible apply State.refreshInputs_kept
    | with_reducible apply State.setNat_kept
    | split

theorem State.storeDone_kept {s₀ : State} (s : State) (hk : Kept s₀ s) :
    Kept s₀ (State.storeDone s) := by
  unfold State.storeDone
  repeat' first
    | with_reducible assumption
    | (extract_lets +onlyGivenNames x; refine Kept.cut (s₀ := s₀) (x := x) ?_ (fun hx => ?_); unfold x; clear x; rotate_left; clear_value x; rotate_right)
    | (extract_lets +onlyGivenNames x; clear_value x)
    | with_reducible apply Kept.ite
    | with_reducible apply State.answerKey_kept
    | with_reducible apply State.count_kept
    | with_reducible apply State.emit_kept
    | with_reducible apply State.noteWrite_kept
    | (with_reducible apply Kept.mk'; first | with_reducible assumption | (with_reducible apply Kept.mk'; with_reducible assumption) | with_reducible apply State.answerKey_kept | with_reducible apply State.count_kept | with_reducible apply State.emit_kept | with_reducible apply State.noteWrite_kept)
    | split

theorem State.stageBytes_kept {s₀ : State} (s : State) (k : Nat) (b : List Nat) (hk : Kept s₀ s) :
    Kept s₀ (State.stageBytes s k b) := by
  unfold State.stageBytes
  repeat' first
    | with_reducible assumption
    | (extract_lets +onlyGivenNames x; clear_value x)
    | with_reducible apply State.setSlot_kept

theorem State.foeSlot_kept {s₀ : State} (s : State) (password k : Nat) (b : List Nat) (hk : Kept s₀ s) :
    Kept s₀ (State.foeSlot s password k b) := by
  unfold State.foeSlot
  repeat' first
    | with_reducible assumption
    | with_reducible apply Kept.ite
    | with_reducible apply State.emit_kept
    | with_reducible apply State.slotVerify_kept
    | with_reducible apply State.stageBytes_kept

theorem State.configRead_kept {s₀ : State} (s : State) (role : Role) (password : Nat) (hk : Kept s₀ s) :
    Kept s₀ (State.configRead s role password) := by
  unfold State.configRead
  repeat' first
    | with_reducible assumption
    | with_reducible apply Kept.ite
    | with_reducible apply State.emit_kept
    | split

theorem State.configWrite_kept {s₀ : State} (s : State) (role : Role) (password : Nat) (b : List Nat) (hk : Kept s₀ s) :
    Kept s₀ (State.configWrite s role password b) := by
  unfold State.configWrite
  repeat' first
    | with_reducible assumption
    | (extract_lets +onlyGivenNames x; clear_value x)
    | with_reducible apply Kept.ite
    | with_reducible apply State.applySet_kept
    | with_reducible apply State.count_kept
    | with_reducible apply State.emit_kept
    | with_reducible apply State.noteWrite_kept
    | with_reducible apply State.storeBegin_kept
    | split

end Sys2Proof.Machine
end

