-- ==== Sys2Proof/Laws/KeptBoot.lean ====
section
/-! SUPPORT. What every operation of Machine/Boot.lean keeps: see Kept in Laws/Kept.lean. -/

namespace Sys2Proof.Machine

theorem State.romRuns_kept {s₀ : State} (s : State) (h : Nat) (hk : Kept s₀ s) :
    Kept s₀ (State.romRuns s h) := by
  unfold State.romRuns
  repeat' first
    | with_reducible assumption
    | (extract_lets +onlyGivenNames x; refine Kept.cut (s₀ := s₀) (x := x) ?_ (fun hx => ?_); unfold x; clear x; rotate_left; clear_value x; rotate_right)
    | (extract_lets +onlyGivenNames x; clear_value x)
    | with_reducible apply Kept.ite
    | with_reducible apply State.blocksOn_kept
    | (with_reducible apply Kept.mk'; first | with_reducible assumption | (with_reducible apply Kept.mk'; with_reducible assumption) | with_reducible apply State.blocksOn_kept)

theorem State.stage1Done_kept {s₀ : State} (s : State) (h : Nat) (hk : Kept s₀ s) :
    Kept s₀ (State.stage1Done s h) := by
  unfold State.stage1Done
  repeat' first
    | with_reducible assumption
    | (extract_lets +onlyGivenNames x; refine Kept.cut (s₀ := s₀) (x := x) ?_ (fun hx => ?_); unfold x; clear x; rotate_left; clear_value x; rotate_right)
    | with_reducible apply Kept.ite
    | with_reducible apply State.domainOn_kept
    | with_reducible apply State.enterSeed_kept
    | with_reducible apply State.romRuns_kept
    | with_reducible apply State.setStage_kept

theorem State.takePending_kept {s₀ : State} (s : State) (kind h : Nat) (hk : Kept s₀ s) :
    Kept s₀ (State.takePending s kind h) := by
  unfold State.takePending
  repeat' first
    | with_reducible assumption
    | (extract_lets +onlyGivenNames x; clear_value x)
    | with_reducible apply State.setImages_kept

theorem State.judgePending_kept {s₀ : State} (s : State) (kind : Nat) (hk : Kept s₀ s) :
    Kept s₀ (State.judgePending s kind) := by
  unfold State.judgePending
  repeat' first
    | with_reducible assumption
    | intro _
    | (extract_lets +onlyGivenNames x; refine Kept.cut (s₀ := s₀) (x := x) ?_ (fun hx => ?_); unfold x; clear x; rotate_left; clear_value x; rotate_right)
    | (extract_lets +onlyGivenNames x; clear_value x)
    | with_reducible apply Kept.ite
    | with_reducible apply State.event_kept
    | with_reducible apply State.forEach_kept
    | with_reducible apply State.noteVerify_kept
    | with_reducible apply State.pruneAdopted_kept
    | with_reducible apply State.takePending_kept
    | split

theorem State.matchFuses_kept {s₀ : State} (s : State) (hk : Kept s₀ s) :
    Kept s₀ (State.matchFuses s) := by
  unfold State.matchFuses
  repeat' first
    | (extract_lets +onlyGivenNames x; clear_value x)
    | (with_reducible apply Kept.mk'; first | with_reducible assumption | (with_reducible apply Kept.mk'; with_reducible assumption))

theorem State.halfUnusable_kept {s₀ : State} (s : State) (h : Nat) (hk : Kept s₀ s) :
    Kept s₀ (State.halfUnusable s h) := by
  unfold State.halfUnusable
  repeat' first
    | with_reducible assumption
    | with_reducible apply State.halfTakeover_kept
    | with_reducible apply State.setStage_kept

theorem State.stage2Done_kept {s₀ : State} (s : State) (h : Nat) (ok : Bool) (hk : Kept s₀ s) :
    Kept s₀ (State.stage2Done s h ok) := by
  unfold State.stage2Done
  repeat' first
    | with_reducible assumption
    | (extract_lets +onlyGivenNames x; (have f : Prop := x); clear f; unfold x; clear x)
    | (extract_lets +onlyGivenNames x; refine Kept.cut (s₀ := s₀) (x := x) ?_ (fun hx => ?_); unfold x; clear x; rotate_left; clear_value x; rotate_right)
    | (extract_lets +onlyGivenNames x; clear_value x)
    | with_reducible apply Kept.ite
    | with_reducible apply State.bootFail_kept
    | with_reducible apply State.halfUnusable_kept
    | with_reducible apply State.judgePending_kept
    | with_reducible apply State.matchFuses_kept
    | with_reducible apply State.noteVerify_kept
    | with_reducible apply State.stage3_kept
    | with_reducible apply State.thermalShutdown_kept
    | (with_reducible apply Kept.mk'; first | with_reducible assumption | (with_reducible apply Kept.mk'; with_reducible assumption) | with_reducible apply State.bootFail_kept | with_reducible apply State.halfUnusable_kept | with_reducible apply State.judgePending_kept | with_reducible apply State.matchFuses_kept | with_reducible apply State.noteVerify_kept | with_reducible apply State.stage3_kept | with_reducible apply State.thermalShutdown_kept)

theorem State.trainChannels_kept {s₀ : State} (s : State) (hk : Kept s₀ s) :
    Kept s₀ (State.trainChannels s) := by
  unfold State.trainChannels
  repeat' first
    | with_reducible assumption
    | (extract_lets +onlyGivenNames x; (have f : HoldSt := x); clear f; unfold x; clear x)
    | (extract_lets +onlyGivenNames x; (have f := fun a => x a); clear f; unfold x; clear x; dsimp -zeta -failIfUnchanged only)
    | (extract_lets +onlyGivenNames x; clear_value x)
    | with_reducible apply Kept.ite
    | (with_reducible refine Kept.mkHold ?_ rfl rfl; first | with_reducible assumption)

theorem State.stacksUp_kept {s₀ : State} (s : State) (h : Nat) (hk : Kept s₀ s) :
    Kept s₀ (State.stacksUp s h) := by
  unfold State.stacksUp
  repeat' first
    | with_reducible assumption
    | intro _
    | with_reducible apply Kept.ite
    | with_reducible apply State.forEach_kept
    | with_reducible apply State.setNat_kept

theorem State.applyStored_kept {s₀ : State} (s : State) (hk : Kept s₀ s) :
    Kept s₀ (State.applyStored s) := by
  unfold State.applyStored
  repeat' first
    | with_reducible assumption
    | intro _
    | (extract_lets +onlyGivenNames x; refine Kept.cut (s₀ := s₀) (x := x) ?_ (fun hx => ?_); unfold x; clear x; rotate_left; clear_value x; rotate_right)
    | (extract_lets +onlyGivenNames x; (have f := fun a => x a); clear f; unfold x; clear x; dsimp -zeta -failIfUnchanged only)
    | (extract_lets +onlyGivenNames x; clear_value x)
    | with_reducible apply Kept.ite
    | with_reducible apply State.event_kept
    | with_reducible apply State.forEach_kept
    | with_reducible apply State.setInst_kept
    | with_reducible apply State.setNat_kept
    | with_reducible apply State.storeValue_kept
    | split

theorem State.stage6Enter_kept {s₀ : State} (s : State) (h : Nat) (hk : Kept s₀ s) :
    Kept s₀ (State.stage6Enter s h) := by
  unfold State.stage6Enter
  repeat' first
    | with_reducible assumption
    | intro _
    | (extract_lets +onlyGivenNames x; (have f : Prop := x); clear f; unfold x; clear x)
    | (extract_lets +onlyGivenNames x; refine Kept.cut (s₀ := s₀) (x := x) ?_ (fun hx => ?_); unfold x; clear x; rotate_left; clear_value x; rotate_right)
    | with_reducible apply Kept.ite
    | with_reducible apply State.applyStored_kept
    | with_reducible apply State.forEach_kept
    | with_reducible apply State.hallRoles_kept
    | with_reducible apply State.refreshClamps_kept
    | with_reducible apply State.restorePersist_kept
    | with_reducible apply State.ringRestart_kept
    | with_reducible apply State.setStage_kept

theorem State.testsFail_kept {s₀ : State} (s : State) (h : Nat) (l : List (Fin 97)) (hk : Kept s₀ s) :
    Kept s₀ (State.testsFail s h l) := by
  unfold State.testsFail
  repeat' first
    | with_reducible assumption
    | intro _
    | with_reducible apply State.forEach_kept
    | with_reducible apply State.raise_kept

theorem State.stage5Done_kept {s₀ : State} (s : State) (h : Nat) (ok : Bool) (failed : List (Fin 97)) (hk : Kept s₀ s) :
    Kept s₀ (State.stage5Done s h ok failed) := by
  unfold State.stage5Done
  repeat' first
    | with_reducible assumption
    | (extract_lets +onlyGivenNames x; (have f : Prop := x); clear f; unfold x; clear x)
    | (extract_lets +onlyGivenNames x; refine Kept.cut (s₀ := s₀) (x := x) ?_ (fun hx => ?_); unfold x; clear x; rotate_left; clear_value x; rotate_right)
    | (extract_lets +onlyGivenNames x; clear_value x)
    | with_reducible apply Kept.ite
    | with_reducible apply State.bootFail_kept
    | with_reducible apply State.halfUnusable_kept
    | with_reducible apply State.raise_kept
    | with_reducible apply State.stacksUp_kept
    | with_reducible apply State.stage6Enter_kept
    | with_reducible apply State.testsFail_kept
    | with_reducible apply State.trainChannels_kept

theorem State.bootEnd_kept {s₀ : State} (s : State) (hk : Kept s₀ s) :
    Kept s₀ (State.bootEnd s) := by
  unfold State.bootEnd
  repeat' first
    | with_reducible assumption
    | (extract_lets +onlyGivenNames x; refine Kept.cut (s₀ := s₀) (x := x) ?_ (fun hx => ?_); unfold x; clear x; rotate_left; clear_value x; rotate_right)
    | (extract_lets +onlyGivenNames x; clear_value x)
    | with_reducible apply Kept.ite
    | with_reducible apply State.defineDefaults_kept
    | with_reducible apply State.standDown_kept
    | (with_reducible apply Kept.mk'; first | with_reducible assumption | (with_reducible apply Kept.mk'; with_reducible assumption) | with_reducible apply State.defineDefaults_kept | with_reducible apply State.standDown_kept)

theorem State.stage6Done_kept {s₀ : State} (s : State) (h : Nat) (hk : Kept s₀ s) :
    Kept s₀ (State.stage6Done s h) := by
  unfold State.stage6Done
  repeat' first
    | with_reducible assumption
    | with_reducible apply Kept.ite
    | with_reducible apply State.bootEnd_kept
    | with_reducible apply State.setStage_kept

theorem State.stageDone_kept {s₀ : State} (s : State) (h : Nat) (ok : Bool) (failed : List (Fin 97)) (hk : Kept s₀ s) :
    Kept s₀ (State.stageDone s h ok failed) := by
  unfold State.stageDone
  repeat' first
    | with_reducible assumption
    | with_reducible apply Kept.ite
    | with_reducible apply State.bootEnd_kept
    | with_reducible apply State.setStage_kept
    | with_reducible apply State.stage1Done_kept
    | with_reducible apply State.stage2Done_kept
    | with_reducible apply State.stage4_kept
    | with_reducible apply State.stage5Done_kept
    | with_reducible apply State.stage6Done_kept
    | split

end Sys2Proof.Machine
end

