-- ==== Sys2Proof/Laws/KeptRegion.lean ====
section
/-! SUPPORT. What every operation of Machine/Region.lean keeps: see Kept in Laws/Kept.lean. -/

namespace Sys2Proof.Machine

theorem State.mirrorCount_kept {s₀ : State} (s : State) (hk : Kept s₀ s) :
    Kept s₀ (State.mirrorCount s) := by
  unfold State.mirrorCount
  repeat' first
    | with_reducible assumption
    | with_reducible apply State.count_kept

theorem State.traceSeen_kept {s₀ : State} (s : State) (idx sub : Nat) (last : Bool) (hk : Kept s₀ s) :
    Kept s₀ (State.traceSeen s idx sub last) := by
  unfold State.traceSeen
  repeat' first
    | with_reducible assumption
    | with_reducible apply Kept.ite
    | with_reducible apply State.traceRead_kept

theorem State.readMirror_kept {s₀ : State} (s : State) (f : Frame) (n : Nat) (hk : Kept s₀ s) :
    Kept s₀ (State.readMirror s f n).2 := by
  unfold State.readMirror
  repeat' first
    | with_reducible assumption
    | (extract_lets +onlyGivenNames x; refine Kept.cut (s₀ := s₀) (x := x) ?_ (fun hx => ?_); unfold x; clear x; rotate_left; clear_value x; rotate_right)
    | (extract_lets +onlyGivenNames x; clear_value x)
    | with_reducible apply Kept.ite2
    | with_reducible apply State.mirrorCount_kept
    | with_reducible apply State.traceSeen_kept

theorem State.writeMirror_kept {s₀ : State} (s : State) (lane : Nat) (f : Frame) (parts : List (Nat × List Nat)) (hk : Kept s₀ s) :
    Kept s₀ (State.writeMirror s lane f parts).2 := by
  unfold State.writeMirror
  repeat' first
    | with_reducible assumption
    | (extract_lets +onlyGivenNames x; (have f : Prop := x); clear f; unfold x; clear x)
    | (extract_lets +onlyGivenNames x; refine Kept.cut (s₀ := s₀) (x := x) ?_ (fun hx => ?_); unfold x; clear x; rotate_left; clear_value x; rotate_right)
    | (extract_lets +onlyGivenNames x; refine Kept.cut (s₀ := s₀) (x := x.2) ?_ (fun hx => ?_); unfold x; clear x; rotate_left; clear_value x; rotate_right)
    | (extract_lets +onlyGivenNames x; clear_value x)
    | with_reducible apply Kept.ite2
    | with_reducible apply State.challengeWrite_kept
    | with_reducible apply State.count_kept
    | with_reducible apply State.dictWrite_kept
    | with_reducible apply State.domainPeer_kept
    | with_reducible apply State.mirrorCount_kept
    | split

theorem State.writeLatest_kept {s₀ : State} (s : State) (f : Frame) (parts : List (Nat × List Nat)) (hk : Kept s₀ s) :
    Kept s₀ (State.writeLatest s f parts).2 := by
  unfold State.writeLatest
  repeat' first
    | with_reducible assumption
    | intro _
    | (extract_lets +onlyGivenNames x; clear_value x)
    | with_reducible apply Kept.ite2
    | with_reducible apply State.fabricSample_kept
    | with_reducible apply State.forEach_kept
    | split

theorem State.readMailbox_kept {s₀ : State} (s : State) (f : Frame) (n : Nat) (hk : Kept s₀ s) :
    Kept s₀ (State.readMailbox s f n).2 := by
  unfold State.readMailbox
  repeat' first
    | with_reducible assumption
    | (extract_lets +onlyGivenNames x; refine Kept.cut (s₀ := s₀) (x := x.2) ?_ (fun hx => ?_); unfold x; clear x; rotate_left; clear_value x; rotate_right)
    | (extract_lets +onlyGivenNames x; clear_value x)
    | with_reducible apply State.draw_kept
    | split

theorem State.writeMailbox_kept {s₀ : State} (s : State) (f : Frame) (hk : Kept s₀ s) :
    Kept s₀ (State.writeMailbox s f).2 := by
  unfold State.writeMailbox
  repeat' first
    | with_reducible assumption
    | (extract_lets +onlyGivenNames x; clear_value x)
    | with_reducible apply State.setArr_kept
    | split

theorem State.mailboxFlag_kept {s₀ : State} (s : State) (f : Frame) (hk : Kept s₀ s) :
    Kept s₀ (State.mailboxFlag s f) := by
  unfold State.mailboxFlag
  repeat' first
    | with_reducible assumption
    | (extract_lets +onlyGivenNames x; clear_value x)
    | with_reducible apply State.setArr_kept
    | split

theorem State.mailboxTrigger_kept {s₀ : State} (s : State) (f : Frame) (hk : Kept s₀ s) :
    Kept s₀ (State.mailboxTrigger s f) := by
  unfold State.mailboxTrigger
  repeat' first
    | with_reducible assumption
    | (extract_lets +onlyGivenNames x; clear_value x)
    | with_reducible apply Kept.ite
    | with_reducible apply State.triggerRun_kept
    | split

theorem State.writeStaging_kept {s₀ : State} (s : State) (f : Frame) (hk : Kept s₀ s) :
    Kept s₀ (State.writeStaging s f).2 := by
  unfold State.writeStaging
  repeat' first
    | with_reducible assumption
    | (extract_lets +onlyGivenNames x; clear_value x)
    | with_reducible apply State.setSlot_kept
    | split

theorem State.regionRead_kept {s₀ : State} (s : State) (f : Frame) (hk : Kept s₀ s) :
    Kept s₀ (State.regionRead s f).2 := by
  unfold State.regionRead
  repeat' first
    | with_reducible assumption
    | (extract_lets +onlyGivenNames x; clear_value x)
    | with_reducible apply State.readMailbox_kept
    | with_reducible apply State.readMirror_kept
    | split

end Sys2Proof.Machine
end

