-- ==== Sys2Proof/Laws/KeptFabric.lean ====
section
/-! SUPPORT. What every operation of Machine/Fabric.lean keeps: see Kept in Laws/Kept.lean. -/

namespace Sys2Proof.Machine

theorem State.sendCredit_kept {s₀ : State} (s : State) (n : Nat) (hk : Kept s₀ s) :
    Kept s₀ (State.sendCredit s n) := by
  unfold State.sendCredit
  repeat' first
    | with_reducible assumption
    | (extract_lets +onlyGivenNames x; clear_value x)
    | with_reducible apply State.enqueue_kept
    | with_reducible apply State.setLane_kept

theorem State.freeBlocks_kept {s₀ : State} (s : State) (n vc blocks : Nat) (hk : Kept s₀ s) :
    Kept s₀ (State.freeBlocks s n vc blocks) := by
  unfold State.freeBlocks
  repeat' first
    | with_reducible assumption
    | (extract_lets +onlyGivenNames x; refine Kept.cut (s₀ := s₀) (x := x) ?_ (fun hx => ?_); unfold x; clear x; rotate_left; clear_value x; rotate_right)
    | (extract_lets +onlyGivenNames x; clear_value x)
    | with_reducible apply Kept.ite
    | with_reducible apply State.sendCredit_kept
    | with_reducible apply State.setLane_kept

theorem State.linkCredit_kept {s₀ : State} (s : State) (n : Nat) (f : Frame) (hk : Kept s₀ s) :
    Kept s₀ (State.linkCredit s n f) := by
  unfold State.linkCredit
  repeat' first
    | with_reducible assumption
    | (extract_lets +onlyGivenNames x; clear_value x)
    | with_reducible apply Kept.ite
    | with_reducible apply State.setLane_kept

theorem State.creditTimer_kept {s₀ : State} (s : State) (n : Nat) (hk : Kept s₀ s) :
    Kept s₀ (State.creditTimer s n) := by
  unfold State.creditTimer
  repeat' first
    | with_reducible assumption
    | (extract_lets +onlyGivenNames x; clear_value x)
    | with_reducible apply Kept.ite
    | with_reducible apply State.sendCredit_kept

theorem State.sendInit_kept {s₀ : State} (s : State) (n : Nat) (hk : Kept s₀ s) :
    Kept s₀ (State.sendInit s n) := by
  unfold State.sendInit
  repeat' first
    | with_reducible assumption
    | (extract_lets +onlyGivenNames x; clear_value x)
    | with_reducible apply State.enqueue_kept
    | with_reducible apply State.setLane_kept

theorem State.pcsLock_kept {s₀ : State} (s : State) (n : Nat) (hk : Kept s₀ s) :
    Kept s₀ (State.pcsLock s n) := by
  unfold State.pcsLock
  repeat' first
    | with_reducible assumption
    | (extract_lets +onlyGivenNames x; refine Kept.cut (s₀ := s₀) (x := x) ?_ (fun hx => ?_); unfold x; clear x; rotate_left; clear_value x; rotate_right)
    | with_reducible apply Kept.ite
    | with_reducible apply State.sendInit_kept
    | with_reducible apply State.setLaneState_kept
    | with_reducible apply State.setLane_kept

theorem State.initTimer_kept {s₀ : State} (s : State) (n : Nat) (hk : Kept s₀ s) :
    Kept s₀ (State.initTimer s n) := by
  unfold State.initTimer
  repeat' first
    | with_reducible assumption
    | (extract_lets +onlyGivenNames x; clear_value x)
    | with_reducible apply Kept.ite
    | with_reducible apply State.sendInit_kept

theorem State.laneTryUp_kept {s₀ : State} (s : State) (n : Nat) (hk : Kept s₀ s) :
    Kept s₀ (State.laneTryUp s n) := by
  unfold State.laneTryUp
  repeat' first
    | with_reducible assumption
    | (extract_lets +onlyGivenNames x; refine Kept.cut (s₀ := s₀) (x := x) ?_ (fun hx => ?_); unfold x; clear x; rotate_left; clear_value x; rotate_right)
    | (extract_lets +onlyGivenNames x; clear_value x)
    | with_reducible apply Kept.ite
    | with_reducible apply State.setAdmit_kept
    | with_reducible apply State.setLaneState_kept
    | with_reducible apply State.setLane_kept

theorem State.linkInit_kept {s₀ : State} (s : State) (n : Nat) (f : Frame) (hk : Kept s₀ s) :
    Kept s₀ (State.linkInit s n f) := by
  unfold State.linkInit
  repeat' first
    | with_reducible assumption
    | (extract_lets +onlyGivenNames x; refine Kept.cut (s₀ := s₀) (x := x) ?_ (fun hx => ?_); unfold x; clear x; rotate_left; clear_value x; rotate_right)
    | (extract_lets +onlyGivenNames x; (have f := fun a => x a); clear f; unfold x; clear x; dsimp -zeta -failIfUnchanged only)
    | (extract_lets +onlyGivenNames x; clear_value x)
    | with_reducible apply Kept.ite
    | with_reducible apply State.countDiscard_kept
    | with_reducible apply State.laneDrop_kept
    | with_reducible apply State.laneTryUp_kept
    | with_reducible apply State.raise_kept
    | with_reducible apply State.setLaneState_kept
    | with_reducible apply State.setLane_kept
    | with_reducible apply State.setNat_kept

theorem State.codewords_kept {s₀ : State} (s : State) (n corrected uncorrectable : Nat) (hk : Kept s₀ s) :
    Kept s₀ (State.codewords s n corrected uncorrectable) := by
  unfold State.codewords
  repeat' first
    | with_reducible assumption
    | with_reducible apply State.count64_kept

theorem State.laneFails_kept {s₀ : State} (s : State) (n : Nat) (hk : Kept s₀ s) :
    Kept s₀ (State.laneFails s n) := by
  unfold State.laneFails
  repeat' first
    | with_reducible assumption
    | (extract_lets +onlyGivenNames x; clear_value x)
    | with_reducible apply Kept.ite
    | with_reducible apply State.laneDrop_kept
    | with_reducible apply State.raise_kept

theorem State.timeSync_kept {s₀ : State} (s : State) (n : Nat) (f : Frame) (hk : Kept s₀ s) :
    Kept s₀ (State.timeSync s n f) := by
  unfold State.timeSync
  repeat' first
    | with_reducible assumption
    | with_reducible apply Kept.ite
    | with_reducible apply State.enqueue_kept

theorem State.timeExchange_kept {s₀ : State} (s : State) (hk : Kept s₀ s) :
    Kept s₀ (State.timeExchange s) := by
  unfold State.timeExchange
  repeat' first
    | with_reducible assumption
    | (extract_lets +onlyGivenNames x; clear_value x)
    | with_reducible apply Kept.ite
    | with_reducible apply State.enqueue_kept
    | (with_reducible apply Kept.mk'; first | with_reducible assumption | (with_reducible apply Kept.mk'; with_reducible assumption) | with_reducible apply State.enqueue_kept)
    | split

theorem State.timeStep_kept {s₀ : State} (s : State) (d : Int) (hk : Kept s₀ s) :
    Kept s₀ (State.timeStep s d) := by
  unfold State.timeStep
  repeat' first
    | (extract_lets +onlyGivenNames x; clear_value x)
    | with_reducible apply State.event_kept
    | (with_reducible apply Kept.mk'; first | with_reducible assumption | (with_reducible apply Kept.mk'; with_reducible assumption) | with_reducible apply State.event_kept)

theorem State.timeReply_kept {s₀ : State} (s : State) (n : Nat) (f : Frame) (hk : Kept s₀ s) :
    Kept s₀ (State.timeReply s n f) := by
  unfold State.timeReply
  repeat' first
    | with_reducible assumption
    | (extract_lets +onlyGivenNames x; refine Kept.cut (s₀ := s₀) (x := x) ?_ (fun hx => ?_); unfold x; clear x; rotate_left; clear_value x; rotate_right)
    | (extract_lets +onlyGivenNames x; clear_value x)
    | with_reducible apply Kept.ite
    | with_reducible apply State.setNum_kept
    | with_reducible apply State.timeStep_kept
    | (with_reducible apply Kept.mk'; first | with_reducible assumption | (with_reducible apply Kept.mk'; with_reducible assumption) | with_reducible apply State.setNum_kept | with_reducible apply State.timeStep_kept)
    | split

theorem State.transmit_kept {s₀ : State} (s : State) (n : Nat) (q : QFrame) (hk : Kept s₀ s) :
    Kept s₀ (State.transmit s n q) := by
  unfold State.transmit
  repeat' first
    | with_reducible assumption
    | (extract_lets +onlyGivenNames x; (have f : Prop := x); clear f; unfold x; clear x)
    | (extract_lets +onlyGivenNames x; refine Kept.cut (s₀ := s₀) (x := x) ?_ (fun hx => ?_); unfold x; clear x; rotate_left; clear_value x; rotate_right)
    | (extract_lets +onlyGivenNames x; clear_value x)
    | with_reducible apply Kept.ite
    | with_reducible apply State.count_kept
    | with_reducible apply State.emit_kept
    | with_reducible apply State.laneTryUp_kept
    | with_reducible apply State.setFlow_kept
    | with_reducible apply State.setLane_kept
    | (with_reducible apply Kept.mk'; first | with_reducible assumption | (with_reducible apply Kept.mk'; with_reducible assumption) | with_reducible apply State.count_kept | with_reducible apply State.emit_kept | with_reducible apply State.laneTryUp_kept | with_reducible apply State.setFlow_kept | with_reducible apply State.setLane_kept)
    | split

theorem State.transmitSelect_kept {s₀ : State} (s : State) (n : Nat) (hk : Kept s₀ s) :
    Kept s₀ (State.transmitSelect s n) := by
  unfold State.transmitSelect
  repeat' first
    | with_reducible assumption
    | with_reducible apply Kept.ite
    | with_reducible apply State.transmit_kept
    | split

theorem State.promote_kept {s₀ : State} (s : State) (n i : Nat) (hk : Kept s₀ s) :
    Kept s₀ (State.promote s n i) := by
  unfold State.promote
  repeat' first
    | with_reducible assumption
    | (extract_lets +onlyGivenNames x; clear_value x)
    | with_reducible apply Kept.ite
    | with_reducible apply State.count_kept
    | with_reducible apply State.setLane_kept
    | split

theorem State.retransmit_kept {s₀ : State} (s : State) (key : Nat) (u : Unacked) (hk : Kept s₀ s) :
    Kept s₀ (State.retransmit s key u) := by
  unfold State.retransmit
  repeat' first
    | with_reducible assumption
    | (extract_lets +onlyGivenNames x; refine Kept.cut (s₀ := s₀) (x := x) ?_ (fun hx => ?_); unfold x; clear x; rotate_left; clear_value x; rotate_right)
    | (extract_lets +onlyGivenNames x; clear_value x)
    | with_reducible apply State.enqueue_kept
    | with_reducible apply State.setFlow_kept
    | split

theorem State.flowExhausted_kept {s₀ : State} (s : State) (key : Nat) (hk : Kept s₀ s) :
    Kept s₀ (State.flowExhausted s key) := by
  unfold State.flowExhausted
  repeat' first
    | with_reducible assumption
    | (extract_lets +onlyGivenNames x; clear_value x)
    | with_reducible apply State.flowFail_kept
    | with_reducible apply State.raise_kept

theorem State.ackIn_kept {s₀ : State} (s : State) (key : Nat) (f : Frame) (hk : Kept s₀ s) :
    Kept s₀ (State.ackIn s key f) := by
  unfold State.ackIn
  repeat' first
    | with_reducible assumption
    | intro _
    | (extract_lets +onlyGivenNames x; refine Kept.cut (s₀ := s₀) (x := x) ?_ (fun hx => ?_); unfold x; clear x; rotate_left; clear_value x; rotate_right)
    | (extract_lets +onlyGivenNames x; (have f := fun a => x a); clear f; unfold x; clear x; dsimp -zeta -failIfUnchanged only)
    | (extract_lets +onlyGivenNames x; clear_value x)
    | with_reducible apply State.forEach_kept
    | with_reducible apply State.retransmit_kept
    | with_reducible apply State.setFlow_kept

theorem State.ackTimer_kept {s₀ : State} (s : State) (key : Nat) (hk : Kept s₀ s) :
    Kept s₀ (State.ackTimer s key) := by
  unfold State.ackTimer
  repeat' first
    | with_reducible assumption
    | with_reducible apply Kept.ite
    | with_reducible apply State.sendAck_kept
    | split

theorem State.flowResetIn_kept {s₀ : State} (s : State) (key : Nat) (f : Frame) (hk : Kept s₀ s) :
    Kept s₀ (State.flowResetIn s key f) := by
  unfold State.flowResetIn
  repeat' first
    | with_reducible assumption
    | with_reducible apply State.count_kept
    | with_reducible apply State.sendAck_kept
    | with_reducible apply State.setFlow_kept

theorem State.retryDue_kept {s₀ : State} (s : State) (key seq : Nat) (hk : Kept s₀ s) :
    Kept s₀ (State.retryDue s key seq) := by
  unfold State.retryDue
  repeat' first
    | with_reducible assumption
    | (extract_lets +onlyGivenNames x; refine Kept.cut (s₀ := s₀) (x := x) ?_ (fun hx => ?_); unfold x; clear x; rotate_left; clear_value x; rotate_right)
    | (extract_lets +onlyGivenNames x; clear_value x)
    | with_reducible apply Kept.ite
    | with_reducible apply State.flowExhausted_kept
    | with_reducible apply State.retransmit_kept
    | with_reducible apply State.sendFlowReset_kept
    | split

theorem State.routeTimeout_kept {s₀ : State} (s : State) (key : Nat) (hk : Kept s₀ s) :
    Kept s₀ (State.routeTimeout s key) := by
  unfold State.routeTimeout
  repeat' first
    | with_reducible assumption
    | with_reducible apply Kept.ite
    | with_reducible apply State.flowFail_kept
    | split

theorem State.onward_ok {s₀ s t : State} {dst : Nat} {f : Frame} (hk : Kept s₀ s) (he : s.onward dst f = some t) : Kept s₀ t := by
  unfold State.onward at he
  split at he
  · cases he
  · cases he; exact State.enqueue_kept _ _ _ hk

theorem State.onwardD_kept {s₀ : State} (s : State) (dst : Nat) (f : Frame) (hk : Kept s₀ s) : Kept s₀ ((s.onward dst f).getD s) := by
  cases he : s.onward dst f with
  | none => exact hk
  | some t => exact State.onward_ok hk he

theorem State.ownTid_kept {s₀ : State} (s : State) (f : Frame) (hk : Kept s₀ s) :
    Kept s₀ (State.ownTid s f).2 := by
  unfold State.ownTid
  repeat' first
    | with_reducible assumption
    | (extract_lets +onlyGivenNames x; clear_value x)
    | with_reducible apply Kept.ite
    | with_reducible apply Kept.ite2
    | (with_reducible apply Kept.mk'; first | with_reducible assumption | (with_reducible apply Kept.mk'; with_reducible assumption))
    | split

theorem State.returnFrame_kept {s₀ : State} (s : State) (f : Frame) (hk : Kept s₀ s) :
    Kept s₀ (State.returnFrame s f) := by
  unfold State.returnFrame
  repeat' first
    | with_reducible assumption
    | (extract_lets +onlyGivenNames x; refine Kept.cut (s₀ := s₀) (x := x.2) ?_ (fun hx => ?_); unfold x; clear x; rotate_left; clear_value x; rotate_right)
    | (extract_lets +onlyGivenNames x; clear_value x)
    | with_reducible apply Kept.ite
    | with_reducible apply State.ownTid_kept
    | with_reducible apply State.peerAnswer_kept
    | with_reducible apply State.releaseIn_kept
    | with_reducible apply State.sendFlow_kept
    | with_reducible apply State.onwardD_kept
    | split

theorem State.broadcastHere_kept {s₀ : State} (s : State) (f : Frame) (answer : Bool) (hk : Kept s₀ s) :
    Kept s₀ (State.broadcastHere s f answer) := by
  unfold State.broadcastHere
  repeat' first
    | with_reducible assumption
    | (extract_lets +onlyGivenNames x; clear_value x)
    | with_reducible apply Kept.ite
    | with_reducible apply State.broadcastWrite_kept
    | with_reducible apply State.count_kept
    | with_reducible apply State.syncOp_kept
    | with_reducible apply State.wordOp_kept
    | split

theorem State.broadcastCopies_kept {s₀ : State} (s : State) (f : Frame) (ds : Nat → Bool) (hk : Kept s₀ s) :
    Kept s₀ (State.broadcastCopies s f ds) := by
  unfold State.broadcastCopies
  repeat' first
    | with_reducible assumption
    | intro _
    | (extract_lets +onlyGivenNames x; refine Kept.cut (s₀ := s₀) (x := x.2) ?_ (fun hx => ?_); unfold x; clear x; rotate_left; clear_value x; rotate_right)
    | (extract_lets +onlyGivenNames x; clear_value x)
    | with_reducible apply Kept.ite
    | with_reducible apply State.forEach_kept
    | with_reducible apply State.newTid_kept
    | with_reducible apply State.sendFlow_kept
    | (with_reducible apply Kept.mk'; first | with_reducible assumption | (with_reducible apply Kept.mk'; with_reducible assumption) | with_reducible apply State.forEach_kept | with_reducible apply State.newTid_kept | with_reducible apply State.sendFlow_kept)

theorem State.broadcastIn_kept {s₀ : State} (s : State) (n : Nat) (f : Frame) (hk : Kept s₀ s) :
    Kept s₀ (State.broadcastIn s n f) := by
  unfold State.broadcastIn
  repeat' first
    | with_reducible assumption
    | (extract_lets +onlyGivenNames x; clear_value x)
    | with_reducible apply Kept.ite
    | with_reducible apply State.broadcastCopies_kept
    | with_reducible apply State.broadcastHere_kept
    | with_reducible apply State.countDiscard_kept
    | split

theorem State.vc0Request_kept {s₀ : State} (s : State) (f : Frame) (hk : Kept s₀ s) :
    Kept s₀ (State.vc0Request s f) := by
  unfold State.vc0Request
  repeat' first
    | with_reducible assumption
    | with_reducible apply Kept.ite
    | with_reducible apply State.arrive_kept
    | with_reducible apply State.syncOp_kept
    | with_reducible apply State.watchCancel_kept
    | with_reducible apply State.watchRegister_kept

theorem State.readHere_kept {s₀ : State} (s : State) (f : Frame) (hk : Kept s₀ s) :
    Kept s₀ (State.readHere s f) := by
  unfold State.readHere
  repeat' first
    | with_reducible assumption
    | (extract_lets +onlyGivenNames x; refine Kept.cut (s₀ := s₀) (x := x.2) ?_ (fun hx => ?_); unfold x; clear x; rotate_left; clear_value x; rotate_right)
    | with_reducible apply State.readResponse_kept
    | with_reducible apply State.regionRead_kept

theorem State.writeFrame_kept {s₀ : State} (s : State) (f : Frame) (x : XferIn) (hk : Kept s₀ s) :
    Kept s₀ (State.writeFrame s f x).2.2 := by
  unfold State.writeFrame
  repeat' first
    | with_reducible assumption
    | (extract_lets +onlyGivenNames x; refine Kept.cut (s₀ := s₀) (x := x.2) ?_ (fun hx => ?_); unfold x; clear x; rotate_left; clear_value x; rotate_right)
    | (extract_lets +onlyGivenNames x; clear_value x)
    | with_reducible apply State.writeMailbox_kept
    | with_reducible apply State.writeStaging_kept
    | split

theorem State.signal_kept {s₀ : State} (s : State) (f : Frame) (hk : Kept s₀ s) :
    Kept s₀ (State.signal s f).2 := by
  unfold State.signal
  repeat' first
    | with_reducible assumption
    | (extract_lets +onlyGivenNames x; refine Kept.cut (s₀ := s₀) (x := x) ?_ (fun hx => ?_); unfold x; clear x; rotate_left; clear_value x; rotate_right)
    | (extract_lets +onlyGivenNames x; refine Kept.cut (s₀ := s₀) (x := x.2) ?_ (fun hx => ?_); unfold x; clear x; rotate_left; clear_value x; rotate_right)
    | (extract_lets +onlyGivenNames x; clear_value x)
    | with_reducible apply Kept.ite
    | with_reducible apply Kept.ite2
    | with_reducible apply State.wordOp_kept
    | (with_reducible apply Kept.mk'; first | with_reducible assumption | (with_reducible apply Kept.mk'; with_reducible assumption) | with_reducible apply State.wordOp_kept)

theorem State.writeEnd_kept {s₀ : State} (s : State) (n : Nat) (f : Frame) (x : XferIn) (hk : Kept s₀ s) :
    Kept s₀ (State.writeEnd s n f x) := by
  unfold State.writeEnd
  repeat' first
    | with_reducible assumption
    | (extract_lets +onlyGivenNames x; refine Kept.cut (s₀ := s₀) (x := x) ?_ (fun hx => ?_); unfold x; clear x; rotate_left; clear_value x; rotate_right)
    | (extract_lets +onlyGivenNames x; refine Kept.cut (s₀ := s₀) (x := x.2) ?_ (fun hx => ?_); unfold x; clear x; rotate_left; clear_value x; rotate_right)
    | (extract_lets +onlyGivenNames x; clear_value x)
    | with_reducible apply Kept.ite
    | with_reducible apply Kept.ite2
    | with_reducible apply State.mailboxFlag_kept
    | with_reducible apply State.mailboxTrigger_kept
    | with_reducible apply State.signal_kept
    | with_reducible apply State.writeLatest_kept
    | with_reducible apply State.writeMirror_kept
    | with_reducible apply State.writeResponse_kept
    | (with_reducible apply Kept.mk'; first | with_reducible assumption | (with_reducible apply Kept.mk'; with_reducible assumption) | with_reducible apply State.mailboxFlag_kept | with_reducible apply State.mailboxTrigger_kept | with_reducible apply State.signal_kept | with_reducible apply State.writeLatest_kept | with_reducible apply State.writeMirror_kept | with_reducible apply State.writeResponse_kept)

theorem State.resend_kept {s₀ : State} (s : State) (f : Frame) (tid : Nat) (hk : Kept s₀ s) :
    Kept s₀ (State.resend s f tid) := by
  unfold State.resend
  repeat' first
    | with_reducible assumption
    | (extract_lets +onlyGivenNames x; refine Kept.cut (s₀ := s₀) (x := x) ?_ (fun hx => ?_); unfold x; clear x; rotate_left; clear_value x; rotate_right)
    | (extract_lets +onlyGivenNames x; clear_value x)
    | with_reducible apply Kept.ite
    | with_reducible apply State.sendFlow_kept
    | (with_reducible apply Kept.mk'; first | with_reducible assumption | (with_reducible apply Kept.mk'; with_reducible assumption) | with_reducible apply State.sendFlow_kept)

theorem State.xferFrame_kept {s₀ : State} (s : State) (n : Nat) (cur : Option XferIn) (f : Frame) (hk : Kept s₀ s) :
    Kept s₀ (State.xferFrame s n cur f).2 := by
  unfold State.xferFrame
  repeat' first
    | with_reducible assumption
    | (extract_lets +onlyGivenNames x; (have f : Prop := x); clear f; unfold x; clear x)
    | (extract_lets +onlyGivenNames x; refine Kept.cut (s₀ := s₀) (x := x) ?_ (fun hx => ?_); unfold x; clear x; rotate_left; clear_value x; rotate_right)
    | (extract_lets +onlyGivenNames x; refine Kept.cut (s₀ := s₀) (x := x.2) ?_ (fun hx => ?_); unfold x; clear x; rotate_left; clear_value x; rotate_right)
    | (extract_lets +onlyGivenNames x; refine Kept.cut (s₀ := s₀) (x := x.2.2) ?_ (fun hx => ?_); unfold x; clear x; rotate_left; clear_value x; rotate_right)
    | (extract_lets +onlyGivenNames x; clear_value x)
    | with_reducible apply Kept.ite
    | with_reducible apply Kept.ite2
    | with_reducible apply State.broadcastCopies_kept
    | with_reducible apply State.broadcastHere_kept
    | with_reducible apply State.countDiscard_kept
    | with_reducible apply State.newTid_kept
    | with_reducible apply State.readHere_kept
    | with_reducible apply State.refuseRequest_kept
    | with_reducible apply State.resend_kept
    | with_reducible apply State.vc0Request_kept
    | with_reducible apply State.writeEnd_kept
    | with_reducible apply State.writeFrame_kept
    | split

theorem State.writeTransfer_kept {s₀ : State} (s : State) (n : Nat) (fs : List Frame) (hk : Kept s₀ s) :
    Kept s₀ (State.writeTransfer s n fs) := by
  unfold State.writeTransfer
  repeat' first
    | with_reducible assumption
    | intro _
    | with_reducible apply State.xferFrame_kept
    | with_reducible apply foldl_kept2

theorem State.takeFrame_kept {s₀ : State} (s : State) (n key : Nat) (f : Frame) (hk : Kept s₀ s) :
    Kept s₀ (State.takeFrame s n key f) := by
  unfold State.takeFrame
  repeat' first
    | with_reducible assumption
    | (extract_lets +onlyGivenNames x; refine Kept.cut (s₀ := s₀) (x := x.2) ?_ (fun hx => ?_); unfold x; clear x; rotate_left; clear_value x; rotate_right)
    | (extract_lets +onlyGivenNames x; clear_value x)
    | with_reducible apply Kept.ite
    | with_reducible apply State.broadcastIn_kept
    | with_reducible apply State.returnFrame_kept
    | with_reducible apply State.setFlow_kept
    | with_reducible apply State.xferFrame_kept

theorem State.windowIn_kept {s₀ : State} (s : State) (n key : Nat) (f : Frame) (hk : Kept s₀ s) :
    Kept s₀ (State.windowIn s n key f) := by
  unfold State.windowIn
  repeat' first
    | with_reducible assumption
    | intro _
    | (extract_lets +onlyGivenNames x; refine Kept.cut (s₀ := s₀) (x := x) ?_ (fun hx => ?_); unfold x; clear x; rotate_left; clear_value x; rotate_right)
    | (extract_lets +onlyGivenNames x; clear_value x)
    | with_reducible apply Kept.ite
    | with_reducible apply State.countDiscard_kept
    | with_reducible apply State.forEach_kept
    | with_reducible apply State.sendAck_kept
    | with_reducible apply State.setFlow_kept
    | with_reducible apply State.takeFrame_kept

theorem State.rxRouted_kept {s₀ : State} (s : State) (n : Nat) (f : Frame) (hk : Kept s₀ s) :
    Kept s₀ (State.rxRouted s n f) := by
  unfold State.rxRouted
  repeat' first
    | with_reducible assumption
    | (extract_lets +onlyGivenNames x; clear_value x)
    | with_reducible apply Kept.ite
    | with_reducible apply State.ackIn_kept
    | with_reducible apply State.countDiscard_kept
    | with_reducible apply State.flowResetIn_kept
    | with_reducible apply State.refuseRequest_kept
    | with_reducible apply State.windowIn_kept
    | (refine State.onward_ok ?_ (by with_reducible assumption))
    | with_reducible apply State.onwardD_kept
    | split

theorem State.rxFrame_kept {s₀ : State} (s : State) (n : Nat) (fcsOk : Bool) (b : List Nat) (hk : Kept s₀ s) :
    Kept s₀ (State.rxFrame s n fcsOk b) := by
  unfold State.rxFrame
  repeat' first
    | with_reducible assumption
    | (extract_lets +onlyGivenNames x; refine Kept.cut (s₀ := s₀) (x := x) ?_ (fun hx => ?_); unfold x; clear x; rotate_left; clear_value x; rotate_right)
    | (extract_lets +onlyGivenNames x; clear_value x)
    | with_reducible apply Kept.ite
    | with_reducible apply State.countDiscard_kept
    | with_reducible apply State.count_kept
    | with_reducible apply State.freeBlocks_kept
    | with_reducible apply State.linkCredit_kept
    | with_reducible apply State.linkInit_kept
    | with_reducible apply State.rxRouted_kept
    | with_reducible apply State.setLane_kept
    | with_reducible apply State.timeReply_kept
    | with_reducible apply State.timeSync_kept

end Sys2Proof.Machine
end

