-- ==== Sys2Proof/Laws/KeptExec1.lean ====
section
/-! SUPPORT. Every meaning answers a next state and keeps what Kept says: one lemma for each command. -/

namespace Sys2Proof.Machine

theorem execFeedPresent_kept (t : Nat) (f : Half) (s : State) : Answers s (execFeedPresent t f s) := by
  have hk := Kept.refl s
  refine ⟨_, rfl, ?_⟩
  repeat' first
    | with_reducible assumption
    | with_reducible apply State.at_kept
    | with_reducible apply State.feedPresent_kept

theorem execFeedsRemoved_kept (t : Nat) (s : State) : Answers s (execFeedsRemoved t s) := by
  have hk := Kept.refl s
  refine ⟨_, rfl, ?_⟩
  repeat' first
    | with_reducible assumption
    | with_reducible apply State.at_kept
    | with_reducible apply State.supplyLost_kept

theorem execOneFeedLost_kept (t : Nat) (f : Half) (s : State) : Answers s (execOneFeedLost t f s) := by
  have hk := Kept.refl s
  refine ⟨_, rfl, ?_⟩
  repeat' first
    | with_reducible assumption
    | with_reducible apply State.at_kept
    | with_reducible apply State.oneFeedLost_kept

theorem execSupplyLossContactorRelease_kept (t : Nat) (s : State) : Answers s (execSupplyLossContactorRelease t s) := by
  have hk := Kept.refl s
  refine ⟨_, rfl, ?_⟩
  repeat' first
    | with_reducible assumption
    | with_reducible apply State.at_kept
    | with_reducible apply State.supplyRelease_kept

theorem execSafePoint_kept (t : Nat) (s : State) : Answers s (execSafePoint t s) := by
  have hk := Kept.refl s
  refine ⟨_, rfl, ?_⟩
  repeat' first
    | with_reducible assumption
    | with_reducible apply State.at_kept
    | with_reducible apply State.safePointReached_kept

theorem execSupplyLossRestart_kept (t : Nat) (s : State) : Answers s (execSupplyLossRestart t s) := by
  have hk := Kept.refl s
  refine ⟨_, rfl, ?_⟩
  repeat' first
    | with_reducible assumption
    | with_reducible apply State.at_kept
    | with_reducible apply State.supplyRestart_kept

theorem execShelfReset_kept (t : Nat) (s : State) : Answers s (execShelfReset t s) := by
  have hk := Kept.refl s
  refine ⟨_, rfl, ?_⟩
  repeat' first
    | with_reducible assumption
    | with_reducible apply State.at_kept
    | with_reducible apply State.shelfReset_kept

theorem execShelfResetRelease_kept (t : Nat) (s : State) : Answers s (execShelfResetRelease t s) := by
  have hk := Kept.refl s
  refine ⟨_, rfl, ?_⟩
  repeat' first
    | with_reducible assumption
    | with_reducible apply State.at_kept
    | with_reducible apply State.shelfRise_kept

theorem execProtectorTrip_kept (t : Nat) (s : State) : Answers s (execProtectorTrip t s) := by
  have hk := Kept.refl s
  refine ⟨_, rfl, ?_⟩
  repeat' first
    | with_reducible assumption
    | with_reducible apply State.at_kept
    | with_reducible apply State.protTrip_kept

theorem execCoolantSeated_kept (t : Nat) (s : State) : Answers s (execCoolantSeated t s) := by
  have hk := Kept.refl s
  refine ⟨_, rfl, ?_⟩
  repeat' first
    | with_reducible assumption
    | with_reducible apply State.at_kept
    | with_reducible apply State.coolantBack_kept

theorem execCoolantInterlockLost_kept (t : Nat) (s : State) : Answers s (execCoolantInterlockLost t s) := by
  have hk := Kept.refl s
  refine ⟨_, rfl, ?_⟩
  repeat' first
    | with_reducible assumption
    | with_reducible apply State.at_kept
    | with_reducible apply State.coolantGone_kept

theorem execWakeLatchSet_kept (t : Nat) (s : State) : Answers s (execWakeLatchSet t s) := by
  have hk := Kept.refl s
  refine ⟨_, rfl, ?_⟩
  repeat' first
    | with_reducible assumption
    | with_reducible apply State.at_kept
    | with_reducible apply State.wake_kept

theorem execDiscreteInputUpdate_kept (t : Nat) (gdLow : Fin 64) (protLow : Bool) (s : State) : Answers s (execDiscreteInputUpdate t gdLow protLow s) := by
  have hk := Kept.refl s
  refine ⟨_, rfl, ?_⟩
  repeat' first
    | with_reducible assumption
    | with_reducible apply State.at_kept
    | with_reducible apply State.discreteUpdate_kept

theorem execCageAssemblyRead_kept (t : Nat) (cage : Fin 2) (optical active : Bool) (milliwatts : Nat) (s : State) : Answers s (execCageAssemblyRead t cage optical active milliwatts s) := by
  have hk := Kept.refl s
  refine ⟨_, rfl, ?_⟩
  repeat' first
    | with_reducible assumption
    | with_reducible apply State.at_kept
    | with_reducible apply State.cageRead_kept

theorem execAliveToggle_kept (t : Nat) (h : Half) (s : State) : Answers s (execAliveToggle t h s) := by
  have hk := Kept.refl s
  refine ⟨_, rfl, ?_⟩
  repeat' first
    | with_reducible assumption
    | with_reducible apply State.aliveToggle_kept
    | with_reducible apply State.at_kept

theorem execOtherHalfAliveTimeout_kept (t : Nat) (h : Half) (s : State) : Answers s (execOtherHalfAliveTimeout t h s) := by
  have hk := Kept.refl s
  refine ⟨_, rfl, ?_⟩
  repeat' first
    | with_reducible assumption
    | with_reducible apply State.aliveTimeout_kept
    | with_reducible apply State.at_kept

theorem execHalfLevelReport_kept (t : Nat) (h : Half) (s : State) : Answers s (execHalfLevelReport t h s) := by
  have hk := Kept.refl s
  refine ⟨_, rfl, ?_⟩
  repeat' first
    | with_reducible assumption
    | with_reducible apply State.at_kept
    | with_reducible apply State.levelReport_kept

theorem execCrossLinkSilence_kept (t : Nat) (s : State) : Answers s (execCrossLinkSilence t s) := by
  have hk := Kept.refl s
  refine ⟨_, rfl, ?_⟩
  repeat' first
    | with_reducible assumption
    | with_reducible apply State.at_kept
    | with_reducible apply State.crossSilence_kept

theorem execOscillatorLost_kept (t : Nat) (h : Half) (s : State) : Answers s (execOscillatorLost t h s) := by
  have hk := Kept.refl s
  refine ⟨_, rfl, ?_⟩
  repeat' first
    | with_reducible assumption
    | with_reducible apply State.at_kept
    | with_reducible apply State.oscLost_kept

theorem execEligibilityExchange_kept (t : Nat) (s : State) : Answers s (execEligibilityExchange t s) := by
  have hk := Kept.refl s
  refine ⟨_, rfl, ?_⟩
  repeat' first
    | with_reducible assumption
    | with_reducible apply State.at_kept
    | with_reducible apply State.holdExchange_kept

theorem execWinnerLatchSet_kept (t : Nat) (s : State) : Answers s (execWinnerLatchSet t s) := by
  have hk := Kept.refl s
  refine ⟨_, rfl, ?_⟩
  repeat' first
    | with_reducible assumption
    | with_reducible apply State.at_kept
    | with_reducible apply State.holdWin_kept

theorem execFallbackLatchSet_kept (t : Nat) (s : State) : Answers s (execFallbackLatchSet t s) := by
  have hk := Kept.refl s
  refine ⟨_, rfl, ?_⟩
  repeat' first
    | with_reducible assumption
    | with_reducible apply State.at_kept
    | with_reducible apply State.holdFallback_kept

theorem execHoldTimeout_kept (t : Nat) (s : State) : Answers s (execHoldTimeout t s) := by
  have hk := Kept.refl s
  refine ⟨_, rfl, ?_⟩
  repeat' first
    | with_reducible assumption
    | with_reducible apply State.at_kept
    | with_reducible apply State.holdExpire_kept

theorem execCrossLinkDown_kept (t : Nat) (c : Fin 3) (s : State) : Answers s (execCrossLinkDown t c s) := by
  have hk := Kept.refl s
  refine ⟨_, rfl, ?_⟩
  repeat' first
    | with_reducible assumption
    | with_reducible apply State.at_kept
    | with_reducible apply State.channelFault_kept

theorem execChannelRestored_kept (t : Nat) (c : Fin 3) (s : State) : Answers s (execChannelRestored t c s) := by
  have hk := Kept.refl s
  refine ⟨_, rfl, ?_⟩
  repeat' first
    | with_reducible assumption
    | with_reducible apply State.at_kept
    | with_reducible apply State.channelBack_kept

theorem execDomainOnRequest_kept (t : Nat) (d : Fin 32) (s : State) : Answers s (execDomainOnRequest t d s) := by
  have hk := Kept.refl s
  refine ⟨_, rfl, ?_⟩
  repeat' first
    | with_reducible assumption
    | with_reducible apply State.at_kept
    | with_reducible apply State.domainRequestOn_kept

theorem execDomainOffRequest_kept (t : Nat) (d : Fin 32) (fault : Bool) (s : State) : Answers s (execDomainOffRequest t d fault s) := by
  have hk := Kept.refl s
  refine ⟨_, rfl, ?_⟩
  repeat' first
    | with_reducible assumption
    | with_reducible apply State.at_kept
    | with_reducible apply State.domainRequestOff_kept

theorem execPowerGoodTimeout_kept (t : Nat) (d : Fin 32) (s : State) : Answers s (execPowerGoodTimeout t d s) := by
  have hk := Kept.refl s
  refine ⟨_, rfl, ?_⟩
  repeat' first
    | with_reducible assumption
    | with_reducible apply State.at_kept
    | with_reducible apply State.powerGoodLate_kept

theorem execDomainOutOfRegulation_kept (t : Nat) (d : Fin 32) (s : State) : Answers s (execDomainOutOfRegulation t d s) := by
  have hk := Kept.refl s
  refine ⟨_, rfl, ?_⟩
  repeat' first
    | with_reducible assumption
    | with_reducible apply State.at_kept
    | with_reducible apply State.outOfRegulation_kept

theorem execBootTimeout_kept (t : Nat) (s : State) : Answers s (execBootTimeout t s) := by
  have hk := Kept.refl s
  refine ⟨_, rfl, ?_⟩
  repeat' first
    | with_reducible assumption
    | with_reducible apply State.at_kept
    | with_reducible apply State.bootLate_kept

theorem execBootRestart_kept (t : Nat) (s : State) : Answers s (execBootRestart t s) := by
  have hk := Kept.refl s
  refine ⟨_, rfl, ?_⟩
  repeat' first
    | with_reducible assumption
    | with_reducible apply State.at_kept
    | with_reducible apply State.bootAgain_kept

theorem execRectifierAnswerTimeout_kept (t : Nat) (s : State) : Answers s (execRectifierAnswerTimeout t s) := by
  have hk := Kept.refl s
  refine ⟨_, rfl, ?_⟩
  repeat' first
    | with_reducible assumption
    | with_reducible apply State.answerLate_kept
    | with_reducible apply State.at_kept

theorem execSoftStartTimeout_kept (t : Nat) (s : State) : Answers s (execSoftStartTimeout t s) := by
  have hk := Kept.refl s
  refine ⟨_, rfl, ?_⟩
  repeat' first
    | with_reducible assumption
    | with_reducible apply State.at_kept
    | with_reducible apply State.softLate_kept

theorem execDeenergiseTimeout_kept (t : Nat) (s : State) : Answers s (execDeenergiseTimeout t s) := by
  have hk := Kept.refl s
  refine ⟨_, rfl, ?_⟩
  repeat' first
    | with_reducible assumption
    | with_reducible apply State.at_kept
    | with_reducible apply State.busLate_kept

theorem execDebugReset_kept (t : Nat) (s : State) : Answers s (execDebugReset t s) := by
  have hk := Kept.refl s
  refine ⟨_, rfl, ?_⟩
  repeat' first
    | with_reducible assumption
    | with_reducible apply Kept.ite
    | with_reducible apply State.at_kept
    | with_reducible apply State.reset__kept

theorem execRecoveryWindowEnd_kept (t : Nat) (s : State) : Answers s (execRecoveryWindowEnd t s) := by
  have hk := Kept.refl s
  refine ⟨_, rfl, ?_⟩
  repeat' first
    | with_reducible assumption
    | (extract_lets +onlyGivenNames x; clear_value x)
    | with_reducible apply Kept.ite
    | with_reducible apply State.at_kept
    | (with_reducible apply Kept.mk'; first | with_reducible assumption | (with_reducible apply Kept.mk'; with_reducible assumption) | with_reducible apply State.at_kept)

theorem execPwmHalfPeriod_kept (t : Nat) (n : Fin 48) (valley : Bool) (s : State) : Answers s (execPwmHalfPeriod t n valley s) := by
  have hk := Kept.refl s
  refine ⟨_, rfl, ?_⟩
  repeat' first
    | with_reducible assumption
    | with_reducible apply State.at_kept
    | with_reducible apply State.pwmHalf_kept

theorem execClampHeldAssert_kept (t : Nat) (s : State) : Answers s (execClampHeldAssert t s) := by
  have hk := Kept.refl s
  refine ⟨_, rfl, ?_⟩
  repeat' first
    | with_reducible assumption
    | with_reducible apply State.at_kept
    | with_reducible apply State.clampAssert_kept

theorem execReserveEnd_kept (t : Nat) (s : State) : Answers s (execReserveEnd t s) := by
  have hk := Kept.refl s
  refine ⟨_, rfl, ?_⟩
  repeat' first
    | with_reducible assumption
    | with_reducible apply State.at_kept
    | with_reducible apply State.reserveEnd_kept

theorem execStringShareUpdate_kept (t : Nat) (s : State) : Answers s (execStringShareUpdate t s) := by
  have hk := Kept.refl s
  refine ⟨_, rfl, ?_⟩
  repeat' first
    | with_reducible assumption
    | with_reducible apply State.at_kept
    | with_reducible apply State.refreshClamps_kept
    | with_reducible apply State.updateShares_kept

theorem execPhaseShed_kept (t : Nat) (st : Fin 2) (s : State) : Answers s (execPhaseShed t st s) := by
  have hk := Kept.refl s
  refine ⟨_, rfl, ?_⟩
  repeat' first
    | with_reducible assumption
    | with_reducible apply State.at_kept
    | with_reducible apply State.phaseShed_kept

theorem execCycleByCycleLimit_kept (t : Nat) (n : Fin 48) (positive : Bool) (s : State) : Answers s (execCycleByCycleLimit t n positive s) := by
  have hk := Kept.refl s
  refine ⟨_, rfl, ?_⟩
  repeat' first
    | with_reducible assumption
    | with_reducible apply State.at_kept
    | with_reducible apply State.cbcCut_kept

theorem execPersistentCurrentLimit_kept (t : Nat) (n : Fin 48) (s : State) : Answers s (execPersistentCurrentLimit t n s) := by
  have hk := Kept.refl s
  refine ⟨_, rfl, ?_⟩
  repeat' first
    | with_reducible assumption
    | with_reducible apply State.at_kept
    | with_reducible apply State.persistentLimit_kept

theorem execStringOverCurrent_kept (t : Nat) (st : Fin 2) (s : State) : Answers s (execStringOverCurrent t st s) := by
  have hk := Kept.refl s
  refine ⟨_, rfl, ?_⟩
  repeat' first
    | with_reducible assumption
    | with_reducible apply State.at_kept
    | with_reducible apply State.stringOver_kept

theorem execBusOverVoltage_kept (t : Nat) (ch : Fin 2) (s : State) : Answers s (execBusOverVoltage t ch s) := by
  have hk := Kept.refl s
  refine ⟨_, rfl, ?_⟩
  repeat' first
    | with_reducible assumption
    | with_reducible apply State.at_kept
    | with_reducible apply State.busOver_kept

theorem execBusUnderVoltage_kept (t : Nat) (s : State) : Answers s (execBusUnderVoltage t s) := by
  have hk := Kept.refl s
  refine ⟨_, rfl, ?_⟩
  repeat' first
    | with_reducible assumption
    | with_reducible apply State.at_kept
    | with_reducible apply State.busUnder_kept

theorem execGateDriverFault_kept (t : Nat) (b : Fin 6) (s : State) : Answers s (execGateDriverFault t b s) := by
  have hk := Kept.refl s
  refine ⟨_, rfl, ?_⟩
  repeat' first
    | with_reducible assumption
    | with_reducible apply State.at_kept
    | with_reducible apply State.gateDriver_kept

theorem execStreamFault_kept (t : Nat) (c : Fin 54) (s : State) : Answers s (execStreamFault t c s) := by
  have hk := Kept.refl s
  refine ⟨_, rfl, ?_⟩
  repeat' first
    | with_reducible assumption
    | with_reducible apply State.at_kept
    | with_reducible apply State.streamFaulted_kept

theorem execMuxHoldExpiry_kept (t : Nat) (s : State) : Answers s (execMuxHoldExpiry t s) := by
  have hk := Kept.refl s
  refine ⟨_, rfl, ?_⟩
  repeat' first
    | with_reducible assumption
    | with_reducible apply State.at_kept
    | with_reducible apply State.muxExpire_kept

theorem execMuxChangeover_kept (t : Nat) (s : State) : Answers s (execMuxChangeover t s) := by
  have hk := Kept.refl s
  refine ⟨_, rfl, ?_⟩
  repeat' first
    | with_reducible assumption
    | with_reducible apply State.at_kept
    | with_reducible apply State.muxChange_kept

theorem execContactorFeedbackChange_kept (t : Nat) (st : Fin 2) (k : Contactor) (closed : Bool) (s : State) : Answers s (execContactorFeedbackChange t st k closed s) := by
  have hk := Kept.refl s
  refine ⟨_, rfl, ?_⟩
  repeat' first
    | with_reducible assumption
    | with_reducible apply State.at_kept
    | with_reducible apply State.feedbackChange_kept

theorem execCloseTimeout_kept (t : Nat) (st : Fin 2) (s : State) : Answers s (execCloseTimeout t st s) := by
  have hk := Kept.refl s
  refine ⟨_, rfl, ?_⟩
  repeat' first
    | with_reducible assumption
    | with_reducible apply State.at_kept
    | with_reducible apply State.closeTimeout_kept

theorem execPrechargeCheck1_kept (t : Nat) (st : Fin 2) (s : State) : Answers s (execPrechargeCheck1 t st s) := by
  have hk := Kept.refl s
  refine ⟨_, rfl, ?_⟩
  repeat' first
    | with_reducible assumption
    | with_reducible apply State.at_kept
    | with_reducible apply State.precheck1_kept

theorem execPrechargeCheck2_kept (t : Nat) (st : Fin 2) (s : State) : Answers s (execPrechargeCheck2 t st s) := by
  have hk := Kept.refl s
  refine ⟨_, rfl, ?_⟩
  repeat' first
    | with_reducible assumption
    | with_reducible apply State.at_kept
    | with_reducible apply State.precheck2_kept

theorem execPrechargeTimeout_kept (t : Nat) (st : Fin 2) (s : State) : Answers s (execPrechargeTimeout t st s) := by
  have hk := Kept.refl s
  refine ⟨_, rfl, ?_⟩
  repeat' first
    | with_reducible assumption
    | with_reducible apply State.at_kept
    | with_reducible apply State.prechargeOver_kept

theorem execBreakWaitTimeout_kept (t : Nat) (st : Fin 2) (s : State) : Answers s (execBreakWaitTimeout t st s) := by
  have hk := Kept.refl s
  refine ⟨_, rfl, ?_⟩
  repeat' first
    | with_reducible assumption
    | with_reducible apply State.at_kept
    | with_reducible apply State.breakWait_kept

theorem execOpenTimeout_kept (t : Nat) (st : Fin 2) (s : State) : Answers s (execOpenTimeout t st s) := by
  have hk := Kept.refl s
  refine ⟨_, rfl, ?_⟩
  repeat' first
    | with_reducible assumption
    | with_reducible apply State.at_kept
    | with_reducible apply State.openTimeout_kept

theorem execHandoverInjection_kept (t : Nat) (s : State) : Answers s (execHandoverInjection t s) := by
  have hk := Kept.refl s
  refine ⟨_, rfl, ?_⟩
  repeat' first
    | with_reducible assumption
    | with_reducible apply State.at_kept
    | with_reducible apply State.takeHandovers_kept

theorem execReleaseFeedforward_kept (t : Nat) (w : Nat) (s : State) : Answers s (execReleaseFeedforward t w s) := by
  have hk := Kept.refl s
  refine ⟨_, rfl, ?_⟩
  repeat' first
    | with_reducible assumption
    | with_reducible apply State.at_kept
    | with_reducible apply State.releaseFF_kept

theorem execControlTick_kept (t : Nat) (inp : TickIn) (s : State) : Answers s (execControlTick t inp s) := by
  have hk := Kept.refl s
  refine ⟨_, rfl, ?_⟩
  repeat' first
    | with_reducible assumption
    | with_reducible apply State.at_kept
    | with_reducible apply State.controlTick_kept

theorem execInstanceSwap_kept (t : Nat) (i : Fin 64) (s : State) : Answers s (execInstanceSwap t i s) := by
  have hk := Kept.refl s
  refine ⟨_, rfl, ?_⟩
  repeat' first
    | with_reducible assumption
    | with_reducible apply State.at_kept
    | with_reducible apply State.swapInst_kept

theorem execSetpointFrame_kept (t : Nat) (differ : Bool) (s : State) : Answers s (execSetpointFrame t differ s) := by
  have hk := Kept.refl s
  refine ⟨_, rfl, ?_⟩
  repeat' first
    | with_reducible assumption
    | with_reducible apply State.at_kept
    | with_reducible apply State.gridFrame_kept

theorem execSetpointFrameError_kept (t : Nat) (bus : Fin 2) (s : State) : Answers s (execSetpointFrameError t bus s) := by
  have hk := Kept.refl s
  refine ⟨_, rfl, ?_⟩
  repeat' first
    | with_reducible assumption
    | with_reducible apply State.at_kept
    | with_reducible apply State.frameError_kept

theorem execRectifierReport_kept (t : Nat) (bus : Fin 2) (fdBase : Bool) (id : Nat) (bytes : List Nat) (s : State) : Answers s (execRectifierReport t bus fdBase id bytes s) := by
  have hk := Kept.refl s
  refine ⟨_, rfl, ?_⟩
  repeat' first
    | with_reducible assumption
    | with_reducible apply State.at_kept
    | with_reducible apply State.reportFrame_kept

theorem execReportDeadline_kept (t : Nat) (r : Fin 12) (s : State) : Answers s (execReportDeadline t r s) := by
  have hk := Kept.refl s
  refine ⟨_, rfl, ?_⟩
  repeat' first
    | with_reducible assumption
    | with_reducible apply State.at_kept
    | with_reducible apply State.reportMissed_kept

theorem execCanBusOff_kept (t : Nat) (bus : Fin 2) (s : State) : Answers s (execCanBusOff t bus s) := by
  have hk := Kept.refl s
  refine ⟨_, rfl, ?_⟩
  repeat' first
    | with_reducible assumption
    | with_reducible apply State.at_kept
    | with_reducible apply State.canBusOff_kept

theorem execBusOffRecovery_kept (t : Nat) (bus : Fin 2) (s : State) : Answers s (execBusOffRecovery t bus s) := by
  have hk := Kept.refl s
  refine ⟨_, rfl, ?_⟩
  repeat' first
    | with_reducible assumption
    | with_reducible apply State.at_kept
    | with_reducible apply State.canRecover_kept

theorem execSoftStartComplete_kept (t : Nat) (s : State) : Answers s (execSoftStartComplete t s) := by
  have hk := Kept.refl s
  refine ⟨_, rfl, ?_⟩
  repeat' first
    | with_reducible assumption
    | with_reducible apply State.at_kept
    | with_reducible apply State.softDone_kept

theorem execTraceSample_kept (t : Nat) (s : State) : Answers s (execTraceSample t s) := by
  have hk := Kept.refl s
  refine ⟨_, rfl, ?_⟩
  repeat' first
    | with_reducible assumption
    | with_reducible apply State.at_kept
    | with_reducible apply State.traceSample_kept

theorem execTraceRearm_kept (t : Nat) (c : Fin 8) (s : State) : Answers s (execTraceRearm t c s) := by
  have hk := Kept.refl s
  refine ⟨_, rfl, ?_⟩
  repeat' first
    | with_reducible assumption
    | with_reducible apply State.at_kept
    | with_reducible apply State.traceRead_kept

theorem execRailHiccup_kept (t : Nat) (r : Fin 16) (s : State) : Answers s (execRailHiccup t r s) := by
  have hk := Kept.refl s
  refine ⟨_, rfl, ?_⟩
  repeat' first
    | with_reducible assumption
    | with_reducible apply State.at_kept
    | with_reducible apply State.railHiccup_kept

theorem execRailRetry_kept (t : Nat) (r : Fin 16) (s : State) : Answers s (execRailRetry t r s) := by
  have hk := Kept.refl s
  refine ⟨_, rfl, ?_⟩
  repeat' first
    | with_reducible assumption
    | with_reducible apply State.at_kept
    | with_reducible apply State.railRetry_kept

theorem execRailOverVoltage_kept (t : Nat) (r : Fin 16) (s : State) : Answers s (execRailOverVoltage t r s) := by
  have hk := Kept.refl s
  refine ⟨_, rfl, ?_⟩
  repeat' first
    | with_reducible assumption
    | with_reducible apply State.at_kept
    | with_reducible apply State.railOver_kept

theorem execRailPowerGood_kept (t : Nat) (r : Fin 16) (s : State) : Answers s (execRailPowerGood t r s) := by
  have hk := Kept.refl s
  refine ⟨_, rfl, ?_⟩
  repeat' first
    | with_reducible assumption
    | with_reducible apply Kept.ite
    | with_reducible apply State.at_kept
    | with_reducible apply State.railUp_kept

theorem execRailTargetReached_kept (t : Nat) (r : Fin 16) (s : State) : Answers s (execRailTargetReached t r s) := by
  have hk := Kept.refl s
  refine ⟨_, rfl, ?_⟩
  repeat' first
    | with_reducible assumption
    | with_reducible apply State.at_kept
    | with_reducible apply State.railReached_kept

theorem execRailPhaseShed_kept (t : Nat) (r : Fin 16) (s : State) : Answers s (execRailPhaseShed t r s) := by
  have hk := Kept.refl s
  refine ⟨_, rfl, ?_⟩
  repeat' first
    | with_reducible assumption
    | with_reducible apply State.at_kept
    | with_reducible apply State.railShed_kept

theorem execRailPhaseAdd_kept (t : Nat) (r : Fin 16) (s : State) : Answers s (execRailPhaseAdd t r s) := by
  have hk := Kept.refl s
  refine ⟨_, rfl, ?_⟩
  repeat' first
    | with_reducible assumption
    | with_reducible apply State.at_kept
    | with_reducible apply State.railAdd_kept

theorem execRailOutsideWindow_kept (t : Nat) (r : Fin 16) (s : State) : Answers s (execRailOutsideWindow t r s) := by
  have hk := Kept.refl s
  refine ⟨_, rfl, ?_⟩
  repeat' first
    | with_reducible assumption
    | with_reducible apply State.at_kept
    | with_reducible apply State.railWindow_kept

theorem execPointEvaluation_kept (t : Nat) (railMilliamps : List Nat) (s : State) : Answers s (execPointEvaluation t railMilliamps s) := by
  have hk := Kept.refl s
  refine ⟨_, rfl, ?_⟩
  repeat' first
    | with_reducible assumption
    | with_reducible apply State.at_kept
    | with_reducible apply State.evalPoints_kept

theorem execPointEarlyRise_kept (t : Nat) (d : Fin 8) (s : State) : Answers s (execPointEarlyRise t d s) := by
  have hk := Kept.refl s
  refine ⟨_, rfl, ?_⟩
  repeat' first
    | with_reducible assumption
    | with_reducible apply State.at_kept
    | with_reducible apply State.earlyRise_kept

theorem execPointHoldExpiry_kept (t : Nat) (d : Fin 8) (s : State) : Answers s (execPointHoldExpiry t d s) := by
  have hk := Kept.refl s
  refine ⟨_, rfl, ?_⟩
  repeat' first
    | with_reducible assumption
    | with_reducible apply State.at_kept
    | with_reducible apply State.holdOver_kept

theorem execSupplyAlert_kept (t : Nat) (s : State) : Answers s (execSupplyAlert t s) := by
  have hk := Kept.refl s
  refine ⟨_, rfl, ?_⟩
  repeat' first
    | with_reducible assumption
    | with_reducible apply State.alert_kept
    | with_reducible apply State.at_kept

theorem execIbcAlertRise_kept (t : Nat) (s : State) : Answers s (execIbcAlertRise t s) := by
  have hk := Kept.refl s
  refine ⟨_, rfl, ?_⟩
  repeat' first
    | with_reducible assumption
    | with_reducible apply State.alertRise_kept
    | with_reducible apply State.at_kept

theorem execAlertHoldEnd_kept (t : Nat) (s : State) : Answers s (execAlertHoldEnd t s) := by
  have hk := Kept.refl s
  refine ⟨_, rfl, ?_⟩
  repeat' first
    | with_reducible assumption
    | with_reducible apply State.alertEnd_kept
    | with_reducible apply State.at_kept

theorem execRailRecoveryEnd_kept (t : Nat) (d : Fin 8) (s : State) : Answers s (execRailRecoveryEnd t d s) := by
  have hk := Kept.refl s
  refine ⟨_, rfl, ?_⟩
  repeat' first
    | with_reducible assumption
    | with_reducible apply Kept.ite
    | with_reducible apply State.applyPoint_kept
    | with_reducible apply State.at_kept
    | with_reducible apply State.setDiePt_kept

theorem execPowerLimitCheck_kept (t : Nat) (s : State) : Answers s (execPowerLimitCheck t s) := by
  have hk := Kept.refl s
  refine ⟨_, rfl, ?_⟩
  repeat' first
    | with_reducible assumption
    | with_reducible apply State.at_kept
    | with_reducible apply State.limitCheck_kept

theorem execRailCalibration_kept (t : Nat) (r : Fin 16) (millivolts milliamps milliwatts : Nat) (s : State) : Answers s (execRailCalibration t r millivolts milliamps milliwatts s) := by
  have hk := Kept.refl s
  refine ⟨_, rfl, ?_⟩
  repeat' first
    | with_reducible assumption
    | with_reducible apply State.at_kept
    | with_reducible apply State.calibrate_kept

theorem execEnergyInterval_kept (t : Nat) (s : State) : Answers s (execEnergyInterval t s) := by
  have hk := Kept.refl s
  refine ⟨_, rfl, ?_⟩
  repeat' first
    | with_reducible assumption
    | with_reducible apply State.at_kept
    | with_reducible apply State.energyInterval_kept

theorem execHousekeepingReading_kept (t : Nat) (c : Fin 64) (r : Reading) (s : State) : Answers s (execHousekeepingReading t c r s) := by
  have hk := Kept.refl s
  refine ⟨_, rfl, ?_⟩
  repeat' first
    | with_reducible assumption
    | with_reducible apply State.at_kept
    | with_reducible apply State.housekeeping_kept

theorem execThrottleRelax_kept (t : Nat) (d : Fin 8) (s : State) : Answers s (execThrottleRelax t d s) := by
  have hk := Kept.refl s
  refine ⟨_, rfl, ?_⟩
  repeat' first
    | with_reducible assumption
    | with_reducible apply State.at_kept
    | with_reducible apply State.relaxDie_kept

theorem execBlockTestComplete_kept (t : Nat) (b : Fin 194) (pass : Bool) (s : State) : Answers s (execBlockTestComplete t b pass s) := by
  have hk := Kept.refl s
  refine ⟨_, rfl, ?_⟩
  repeat' first
    | with_reducible assumption
    | with_reducible apply State.at_kept
    | with_reducible apply State.testComplete_kept

theorem execInterruptTestPulse_kept (t : Nat) (b : Fin 194) (echoed : Bool) (s : State) : Answers s (execInterruptTestPulse t b echoed s) := by
  have hk := Kept.refl s
  refine ⟨_, rfl, ?_⟩
  repeat' first
    | with_reducible assumption
    | with_reducible apply State.at_kept
    | with_reducible apply State.testPulse_kept

theorem execArrayFault_kept (t : Nat) (g : Fin 128) (cause : Nat) (s : State) : Answers s (execArrayFault t g cause s) := by
  have hk := Kept.refl s
  refine ⟨_, rfl, ?_⟩
  repeat' first
    | with_reducible assumption
    | with_reducible apply State.arrayFault_kept
    | with_reducible apply State.at_kept

theorem execArraySelfTest_kept (t : Nat) (g : Fin 128) (pass : Bool) (s : State) : Answers s (execArraySelfTest t g pass s) := by
  have hk := Kept.refl s
  refine ⟨_, rfl, ?_⟩
  repeat' first
    | with_reducible assumption
    | with_reducible apply State.at_kept
    | with_reducible apply State.selfTest_kept

theorem execArrayWakeStart_kept (t : Nat) (g : Fin 128) (s : State) : Answers s (execArrayWakeStart t g s) := by
  have hk := Kept.refl s
  refine ⟨_, rfl, ?_⟩
  repeat' first
    | with_reducible assumption
    | with_reducible apply State.at_kept
    | with_reducible apply State.wakeStart_kept

theorem execArrayWakeDone_kept (t : Nat) (g : Fin 128) (pass : Bool) (s : State) : Answers s (execArrayWakeDone t g pass s) := by
  have hk := Kept.refl s
  refine ⟨_, rfl, ?_⟩
  repeat' first
    | with_reducible assumption
    | with_reducible apply State.at_kept
    | with_reducible apply State.wakeDone_kept

theorem execPowerStateEntryComplete_kept (t : Nat) (g : Fin 128) (s : State) : Answers s (execPowerStateEntryComplete t g s) := by
  have hk := Kept.refl s
  refine ⟨_, rfl, ?_⟩
  repeat' first
    | with_reducible assumption
    | with_reducible apply State.at_kept
    | with_reducible apply State.entryComplete_kept

theorem execArrayStoreScrub_kept (t : Nat) (g : Fin 128) (bundle : Bool) (line : Nat) (errors : Fin 3) (s : State) : Answers s (execArrayStoreScrub t g bundle line errors s) := by
  have hk := Kept.refl s
  refine ⟨_, rfl, ?_⟩
  repeat' first
    | with_reducible assumption
    | with_reducible apply State.at_kept
    | with_reducible apply State.scrubLine_kept

theorem execLookupTableCompare_kept (t : Nat) (g : Fin 128) (upset : Option (Nat × Nat)) (s : State) : Answers s (execLookupTableCompare t g upset s) := by
  have hk := Kept.refl s
  refine ⟨_, rfl, ?_⟩
  repeat' first
    | with_reducible assumption
    | with_reducible apply State.at_kept
    | with_reducible apply State.tableCompare_kept

theorem execDieLinkDown_kept (t : Nat) (d : Fin 7) (s : State) : Answers s (execDieLinkDown t d s) := by
  have hk := Kept.refl s
  refine ⟨_, rfl, ?_⟩
  repeat' first
    | with_reducible assumption
    | with_reducible apply State.at_kept
    | with_reducible apply State.linkFails_kept

theorem execDieLinkRetrain_kept (t : Nat) (d : Fin 7) (up : Bool) (s : State) : Answers s (execDieLinkRetrain t d up s) := by
  have hk := Kept.refl s
  refine ⟨_, rfl, ?_⟩
  repeat' first
    | with_reducible assumption
    | with_reducible apply State.at_kept
    | with_reducible apply State.linkRetrain_kept

theorem execDieLinkRestored_kept (t : Nat) (d : Fin 7) (s : State) : Answers s (execDieLinkRestored t d s) := by
  have hk := Kept.refl s
  refine ⟨_, rfl, ?_⟩
  repeat' first
    | with_reducible assumption
    | with_reducible apply State.at_kept
    | with_reducible apply State.linkRestored_kept

theorem execDieHalt_kept (t : Nat) (d : Fin 8) (s : State) : Answers s (execDieHalt t d s) := by
  have hk := Kept.refl s
  refine ⟨_, rfl, ?_⟩
  repeat' first
    | with_reducible assumption
    | with_reducible apply State.at_kept
    | with_reducible apply State.haltDie_kept

theorem execSNop_kept (g : Fin 128) (slot : Fin 4) (s : State) : Answers s (execSNop g slot s) := by
  have hk := Kept.refl s
  refine ⟨_, rfl, ?_⟩
  repeat' first
    | with_reducible assumption
    | with_reducible apply State.nop_kept

theorem execSAddi_kept (g : Fin 128) (d a : Fin 16) (imm : Nat) (s : State) : Answers s (execSAddi g d a imm s) := by
  have hk := Kept.refl s
  refine ⟨_, rfl, ?_⟩
  repeat' first
    | with_reducible assumption
    | with_reducible apply State.scalarOp_kept

theorem execSAdd_kept (g : Fin 128) (d a b : Fin 16) (s : State) : Answers s (execSAdd g d a b s) := by
  have hk := Kept.refl s
  refine ⟨_, rfl, ?_⟩
  repeat' first
    | with_reducible assumption
    | with_reducible apply State.scalar2_kept

theorem execSSub_kept (g : Fin 128) (d a b : Fin 16) (s : State) : Answers s (execSSub g d a b s) := by
  have hk := Kept.refl s
  refine ⟨_, rfl, ?_⟩
  repeat' first
    | with_reducible assumption
    | with_reducible apply State.scalar2_kept

theorem execSAnd_kept (g : Fin 128) (d a b : Fin 16) (s : State) : Answers s (execSAnd g d a b s) := by
  have hk := Kept.refl s
  refine ⟨_, rfl, ?_⟩
  repeat' first
    | with_reducible assumption
    | with_reducible apply State.scalar2_kept

theorem execSOr_kept (g : Fin 128) (d a b : Fin 16) (s : State) : Answers s (execSOr g d a b s) := by
  have hk := Kept.refl s
  refine ⟨_, rfl, ?_⟩
  repeat' first
    | with_reducible assumption
    | with_reducible apply State.scalar2_kept

theorem execSXor_kept (g : Fin 128) (d a b : Fin 16) (s : State) : Answers s (execSXor g d a b s) := by
  have hk := Kept.refl s
  refine ⟨_, rfl, ?_⟩
  repeat' first
    | with_reducible assumption
    | with_reducible apply State.scalar2_kept

end Sys2Proof.Machine
end

