-- ==== Sys2Proof/Laws/KeptExec2.lean ====
section
/-! SUPPORT. Every meaning answers a next state and keeps what Kept says: one lemma for each command. -/

namespace Sys2Proof.Machine

theorem execSAndi_kept (g : Fin 128) (d a : Fin 16) (imm : Nat) (s : State) : Answers s (execSAndi g d a imm s) := by
  have hk := Kept.refl s
  refine ⟨_, rfl, ?_⟩
  repeat' first
    | with_reducible assumption
    | with_reducible apply State.scalarOp_kept

theorem execSShl_kept (g : Fin 128) (d a : Fin 16) (amount : Fin 32) (s : State) : Answers s (execSShl g d a amount s) := by
  have hk := Kept.refl s
  refine ⟨_, rfl, ?_⟩
  repeat' first
    | with_reducible assumption
    | with_reducible apply State.scalarOp_kept

theorem execSShr_kept (g : Fin 128) (d a : Fin 16) (amount : Fin 32) (s : State) : Answers s (execSShr g d a amount s) := by
  have hk := Kept.refl s
  refine ⟨_, rfl, ?_⟩
  repeat' first
    | with_reducible assumption
    | with_reducible apply State.scalarOp_kept

theorem execSMovhi_kept (g : Fin 128) (d : Fin 16) (imm : Nat) (s : State) : Answers s (execSMovhi g d imm s) := by
  have hk := Kept.refl s
  refine ⟨_, rfl, ?_⟩
  repeat' first
    | with_reducible assumption
    | with_reducible apply State.scalarOp_kept

theorem execSLoop_kept (g : Fin 128) (a : Fin 16) (target : Nat) (s : State) : Answers s (execSLoop g a target s) := by
  have hk := Kept.refl s
  refine ⟨_, rfl, ?_⟩
  repeat' first
    | with_reducible assumption
    | with_reducible apply State.slotPure_kept

theorem execSBr_kept (g : Fin 128) (target : Nat) (s : State) : Answers s (execSBr g target s) := by
  have hk := Kept.refl s
  refine ⟨_, rfl, ?_⟩
  repeat' first
    | with_reducible assumption
    | with_reducible apply State.slotPure_kept

theorem execSBrz_kept (g : Fin 128) (a : Fin 16) (target : Nat) (s : State) : Answers s (execSBrz g a target s) := by
  have hk := Kept.refl s
  refine ⟨_, rfl, ?_⟩
  repeat' first
    | with_reducible assumption
    | with_reducible apply State.slotPure_kept

theorem execSBrnz_kept (g : Fin 128) (a : Fin 16) (target : Nat) (s : State) : Answers s (execSBrnz g a target s) := by
  have hk := Kept.refl s
  refine ⟨_, rfl, ?_⟩
  repeat' first
    | with_reducible assumption
    | with_reducible apply State.slotPure_kept

theorem execSBrlt_kept (g : Fin 128) (a b : Fin 16) (target : Nat) (s : State) : Answers s (execSBrlt g a b target s) := by
  have hk := Kept.refl s
  refine ⟨_, rfl, ?_⟩
  repeat' first
    | with_reducible assumption
    | with_reducible apply State.slotPure_kept

theorem execSSkip_kept (g : Fin 128) (n : Nat) (s : State) : Answers s (execSSkip g n s) := by
  have hk := Kept.refl s
  refine ⟨_, rfl, ?_⟩
  repeat' first
    | with_reducible assumption
    | with_reducible apply State.slotPure_kept

theorem execSWaitf_kept (g : Fin 128) (a b : Fin 16) (s : State) : Answers s (execSWaitf g a b s) := by
  have hk := Kept.refl s
  refine ⟨_, rfl, ?_⟩
  repeat' first
    | with_reducible assumption
    | with_reducible apply State.slotOp_kept

theorem execSWaitfSatisfied_kept (g : Fin 128) (s : State) : Answers s (execSWaitfSatisfied g s) := by
  have hk := Kept.refl s
  refine ⟨_, rfl, ?_⟩
  repeat' first
    | with_reducible assumption
    | with_reducible apply State.waitDone_kept

theorem execSRdsys_kept (g : Fin 128) (d : Fin 16) (sel : Nat) (s : State) : Answers s (execSRdsys g d sel s) := by
  have hk := Kept.refl s
  refine ⟨_, rfl, ?_⟩
  repeat' first
    | with_reducible assumption
    | with_reducible apply State.readSys_kept

theorem execSPhase_kept (g : Fin 128) (n : Fin 8) (s : State) : Answers s (execSPhase g n s) := by
  have hk := Kept.refl s
  refine ⟨_, rfl, ?_⟩
  repeat' first
    | with_reducible assumption
    | with_reducible apply State.enterPhase_kept

theorem execSetmode_kept (g : Fin 128) (os : Bool) (fmt : Fin 3) (f : Fin 64) (add : Bool) (s : State) : Answers s (execSetmode g os fmt f add s) := by
  have hk := Kept.refl s
  refine ⟨_, rfl, ?_⟩
  repeat' first
    | with_reducible assumption
    | with_reducible apply State.slotPure_kept

theorem execSetref_kept (g : Fin 128) (north : Bool) (r : Fin 16) (s : State) : Answers s (execSetref g north r s) := by
  have hk := Kept.refl s
  refine ⟨_, rfl, ?_⟩
  repeat' first
    | with_reducible assumption
    | with_reducible apply State.slotPure_kept

theorem execTileload_kept (g : Fin 128) (a : Fin 16) (offset : Nat) (e : Fin 256) (s : State) : Answers s (execTileload g a offset e s) := by
  have hk := Kept.refl s
  refine ⟨_, rfl, ?_⟩
  repeat' first
    | with_reducible assumption
    | with_reducible apply State.slotOp_kept

theorem execWsvec_kept (g : Fin 128) (a : Fin 16) (offset : Nat) (e : Fin 256) (s : State) : Answers s (execWsvec g a offset e s) := by
  have hk := Kept.refl s
  refine ⟨_, rfl, ?_⟩
  repeat' first
    | with_reducible assumption
    | with_reducible apply State.slotOp_kept

theorem execOsrun_kept (g : Fin 128) (a b : Fin 16) (k : Fin 128) (s : State) : Answers s (execOsrun g a b k s) := by
  have hk := Kept.refl s
  refine ⟨_, rfl, ?_⟩
  repeat' first
    | with_reducible assumption
    | with_reducible apply State.slotOp_kept

theorem execDrain_kept (g : Fin 128) (a : Fin 16) (offset : Nat) (s : State) : Answers s (execDrain g a offset s) := by
  have hk := Kept.refl s
  refine ⟨_, rfl, ?_⟩
  repeat' first
    | with_reducible assumption
    | with_reducible apply State.slotOp_kept

theorem execEdgest_kept (g : Fin 128) (a : Fin 16) (offset : Nat) (s : State) : Answers s (execEdgest g a offset s) := by
  have hk := Kept.refl s
  refine ⟨_, rfl, ?_⟩
  repeat' first
    | with_reducible assumption
    | with_reducible apply State.slotOp_kept

theorem execEdgeclr_kept (g : Fin 128) (s : State) : Answers s (execEdgeclr g s) := by
  have hk := Kept.refl s
  refine ⟨_, rfl, ?_⟩
  repeat' first
    | with_reducible assumption
    | with_reducible apply State.slotPure_kept

theorem execLoadcurve_kept (g : Fin 128) (table : Fin 4) (s : State) : Answers s (execLoadcurve g table s) := by
  have hk := Kept.refl s
  refine ⟨_, rfl, ?_⟩
  repeat' first
    | with_reducible assumption
    | with_reducible apply State.slotPure_kept

theorem execVadd_kept (g : Fin 128) (d a b : Fin 32) (s : State) : Answers s (execVadd g d a b s) := by
  have hk := Kept.refl s
  refine ⟨_, rfl, ?_⟩
  repeat' first
    | with_reducible assumption
    | with_reducible apply State.vec2_kept

theorem execVsub_kept (g : Fin 128) (d a b : Fin 32) (s : State) : Answers s (execVsub g d a b s) := by
  have hk := Kept.refl s
  refine ⟨_, rfl, ?_⟩
  repeat' first
    | with_reducible assumption
    | with_reducible apply State.vec2_kept

theorem execVmin_kept (g : Fin 128) (d a b : Fin 32) (s : State) : Answers s (execVmin g d a b s) := by
  have hk := Kept.refl s
  refine ⟨_, rfl, ?_⟩
  repeat' first
    | with_reducible assumption
    | with_reducible apply State.vec2_kept

theorem execVmax_kept (g : Fin 128) (d a b : Fin 32) (s : State) : Answers s (execVmax g d a b s) := by
  have hk := Kept.refl s
  refine ⟨_, rfl, ?_⟩
  repeat' first
    | with_reducible assumption
    | with_reducible apply State.vec2_kept

theorem execVcmp_kept (g : Fin 128) (d a b : Fin 32) (cond : Fin 6) (s : State) : Answers s (execVcmp g d a b cond s) := by
  have hk := Kept.refl s
  refine ⟨_, rfl, ?_⟩
  repeat' first
    | with_reducible assumption
    | with_reducible apply State.vec2_kept

theorem execVsel_kept (g : Fin 128) (d a b m : Fin 32) (s : State) : Answers s (execVsel g d a b m s) := by
  have hk := Kept.refl s
  refine ⟨_, rfl, ?_⟩
  repeat' first
    | with_reducible assumption
    | with_reducible apply State.vecOp_kept

theorem execVlogic_kept (g : Fin 128) (d a b : Fin 32) (op : Fin 4) (s : State) : Answers s (execVlogic g d a b op s) := by
  have hk := Kept.refl s
  refine ⟨_, rfl, ?_⟩
  repeat' first
    | with_reducible assumption
    | with_reducible apply State.vec2_kept

theorem execVshl_kept (g : Fin 128) (d a : Fin 32) (sh : Fin 32) (s : State) : Answers s (execVshl g d a sh s) := by
  have hk := Kept.refl s
  refine ⟨_, rfl, ?_⟩
  repeat' first
    | with_reducible assumption
    | with_reducible apply State.vec1_kept

theorem execVshr_kept (g : Fin 128) (d a : Fin 32) (sh : Fin 32) (s : State) : Answers s (execVshr g d a sh s) := by
  have hk := Kept.refl s
  refine ⟨_, rfl, ?_⟩
  repeat' first
    | with_reducible assumption
    | with_reducible apply State.vec1_kept

theorem execVmul_kept (g : Fin 128) (d a b : Fin 32) (sh : Fin 32) (s : State) : Answers s (execVmul g d a b sh s) := by
  have hk := Kept.refl s
  refine ⟨_, rfl, ?_⟩
  repeat' first
    | with_reducible assumption
    | with_reducible apply State.vec2_kept

theorem execVmac_kept (g : Fin 128) (d a b : Fin 32) (sh : Fin 32) (s : State) : Answers s (execVmac g d a b sh s) := by
  have hk := Kept.refl s
  refine ⟨_, rfl, ?_⟩
  repeat' first
    | with_reducible assumption
    | with_reducible apply State.vecOp_kept

theorem execVglmul_kept (g : Fin 128) (d a b : Fin 32) (fmt : Fin 3) (s : State) : Answers s (execVglmul g d a b fmt s) := by
  have hk := Kept.refl s
  refine ⟨_, rfl, ?_⟩
  repeat' first
    | with_reducible assumption
    | with_reducible apply State.vec2_kept

theorem execVglcmp_kept (g : Fin 128) (d a b : Fin 32) (fmt : Fin 3) (cond : Fin 6) (s : State) : Answers s (execVglcmp g d a b fmt cond s) := by
  have hk := Kept.refl s
  refine ⟨_, rfl, ?_⟩
  repeat' first
    | with_reducible assumption
    | with_reducible apply State.vec2_kept

theorem execVcvt_kept (g : Fin 128) (d a : Fin 32) (target : Fin 10) (source : Fin 11) (s' : Fin 16) (s : State) : Answers s (execVcvt g d a target source s' s) := by
  have hk := Kept.refl s
  refine ⟨_, rfl, ?_⟩
  repeat' first
    | with_reducible assumption
    | with_reducible apply State.vecOp_kept

theorem execVlut_kept (g : Fin 128) (d a : Fin 32) (table : Fin 4) (interp : Bool) (s : State) : Answers s (execVlut g d a table interp s) := by
  have hk := Kept.refl s
  refine ⟨_, rfl, ?_⟩
  repeat' first
    | with_reducible assumption
    | with_reducible apply State.lookup_kept

theorem execVred_kept (g : Fin 128) (d a : Fin 32) (op : Fin 3) (s : State) : Answers s (execVred g d a op s) := by
  have hk := Kept.refl s
  refine ⟨_, rfl, ?_⟩
  repeat' first
    | with_reducible assumption
    | with_reducible apply State.vecOp_kept

theorem execVmovs_kept (g : Fin 128) (d : Fin 32) (s' : Fin 16) (s : State) : Answers s (execVmovs g d s' s) := by
  have hk := Kept.refl s
  refine ⟨_, rfl, ?_⟩
  repeat' first
    | with_reducible assumption
    | with_reducible apply State.vecOp_kept

theorem execVext_kept (g : Fin 128) (s' : Fin 16) (a : Fin 32) (lane : Fin 64) (expo : Bool) (s : State) : Answers s (execVext g s' a lane expo s) := by
  have hk := Kept.refl s
  refine ⟨_, rfl, ?_⟩
  repeat' first
    | with_reducible assumption
    | with_reducible apply State.slotPure_kept

theorem execVidx_kept (g : Fin 128) (d : Fin 32) (s : State) : Answers s (execVidx g d s) := by
  have hk := Kept.refl s
  refine ⟨_, rfl, ?_⟩
  repeat' first
    | with_reducible assumption
    | with_reducible apply State.vecOp_kept

theorem execVld_kept (g : Fin 128) (v : Fin 32) (a : Fin 16) (offset : Nat) (s : State) : Answers s (execVld g v a offset s) := by
  have hk := Kept.refl s
  refine ⟨_, rfl, ?_⟩
  repeat' first
    | with_reducible assumption
    | with_reducible apply State.loadOp_kept

theorem execVst_kept (g : Fin 128) (v : Fin 32) (a : Fin 16) (offset : Nat) (s : State) : Answers s (execVst g v a offset s) := by
  have hk := Kept.refl s
  refine ⟨_, rfl, ?_⟩
  repeat' first
    | with_reducible assumption
    | with_reducible apply State.slotOp_kept

theorem execVld8_kept (g : Fin 128) (v : Fin 32) (a : Fin 16) (offset : Nat) (sub : Fin 3) (s : State) : Answers s (execVld8 g v a offset sub s) := by
  have hk := Kept.refl s
  refine ⟨_, rfl, ?_⟩
  repeat' first
    | with_reducible assumption
    | with_reducible apply State.loadOp_kept

theorem execVst8_kept (g : Fin 128) (v : Fin 32) (a : Fin 16) (offset : Nat) (sub : Fin 3) (s : State) : Answers s (execVst8 g v a offset sub s) := by
  have hk := Kept.refl s
  refine ⟨_, rfl, ?_⟩
  repeat' first
    | with_reducible assumption
    | with_reducible apply State.slotOp_kept

theorem execVldx_kept (g : Fin 128) (v : Fin 32) (a : Fin 16) (offset : Nat) (s : State) : Answers s (execVldx g v a offset s) := by
  have hk := Kept.refl s
  refine ⟨_, rfl, ?_⟩
  repeat' first
    | with_reducible assumption
    | with_reducible apply State.slotOp_kept

theorem execVstx_kept (g : Fin 128) (v : Fin 32) (a : Fin 16) (offset : Nat) (s : State) : Answers s (execVstx g v a offset s) := by
  have hk := Kept.refl s
  refine ⟨_, rfl, ?_⟩
  repeat' first
    | with_reducible assumption
    | with_reducible apply State.slotOp_kept

theorem execExpld_kept (g : Fin 128) (a : Fin 16) (offset : Nat) (sub : Fin 8) (s : State) : Answers s (execExpld g a offset sub s) := by
  have hk := Kept.refl s
  refine ⟨_, rfl, ?_⟩
  repeat' first
    | with_reducible assumption
    | with_reducible apply State.loadOp_kept

theorem execTload_kept (g : Fin 128) (table : Fin 4) (a : Fin 16) (offset : Nat) (s : State) : Answers s (execTload g table a offset s) := by
  have hk := Kept.refl s
  refine ⟨_, rfl, ?_⟩
  repeat' first
    | with_reducible assumption
    | with_reducible apply State.slotOp_kept

theorem execSld_kept (g : Fin 128) (d a : Fin 16) (offset : Nat) (s : State) : Answers s (execSld g d a offset s) := by
  have hk := Kept.refl s
  refine ⟨_, rfl, ?_⟩
  repeat' first
    | with_reducible assumption
    | with_reducible apply State.loadOp_kept

theorem execSst_kept (g : Fin 128) (d a : Fin 16) (offset : Nat) (s : State) : Answers s (execSst g d a offset s) := by
  have hk := Kept.refl s
  refine ⟨_, rfl, ?_⟩
  repeat' first
    | with_reducible assumption
    | with_reducible apply State.slotOp_kept

theorem execXfer_kept (g : Fin 128) (a : Fin 16) (offset : Nat) (s : State) : Answers s (execXfer g a offset s) := by
  have hk := Kept.refl s
  refine ⟨_, rfl, ?_⟩
  repeat' first
    | with_reducible assumption
    | with_reducible apply State.xfer_kept

theorem execXferComplete_kept (t : Nat) (g : Fin 128) (i : Nat) (s : State) : Answers s (execXferComplete t g i s) := by
  have hk := Kept.refl s
  refine ⟨_, rfl, ?_⟩
  repeat' first
    | with_reducible assumption
    | with_reducible apply State.at_kept
    | with_reducible apply State.xferDone_kept

theorem execSEnd_kept (t : Nat) (g : Fin 128) (s : State) : Answers s (execSEnd t g s) := by
  have hk := Kept.refl s
  refine ⟨_, rfl, ?_⟩
  repeat' first
    | with_reducible assumption
    | with_reducible apply State.at_kept
    | with_reducible apply State.endPart_kept

theorem execSYield_kept (t : Nat) (g : Fin 128) (s : State) : Answers s (execSYield t g s) := by
  have hk := Kept.refl s
  refine ⟨_, rfl, ?_⟩
  repeat' first
    | with_reducible assumption
    | with_reducible apply State.at_kept
    | with_reducible apply State.yieldPart_kept

theorem execFastTick_kept (t : Nat) (s : State) : Answers s (execFastTick t s) := by
  have hk := Kept.refl s
  refine ⟨_, rfl, ?_⟩
  repeat' first
    | with_reducible assumption
    | with_reducible apply State.at_kept
    | with_reducible apply State.fastTick_kept

theorem execTickOverrun_kept (t : Nat) (g : Fin 128) (s : State) : Answers s (execTickOverrun t g s) := by
  have hk := Kept.refl s
  refine ⟨_, rfl, ?_⟩
  repeat' first
    | with_reducible assumption
    | with_reducible apply State.at_kept
    | with_reducible apply State.overrun_kept

theorem execSliceOverrun_kept (t : Nat) (g : Fin 128) (s : State) : Answers s (execSliceOverrun t g s) := by
  have hk := Kept.refl s
  refine ⟨_, rfl, ?_⟩
  repeat' first
    | with_reducible assumption
    | with_reducible apply State.at_kept
    | with_reducible apply State.overrun_kept

theorem execPeriodicTrigger_kept (t : Nat) (h : Fin 128) (s : State) : Answers s (execPeriodicTrigger t h s) := by
  have hk := Kept.refl s
  refine ⟨_, rfl, ?_⟩
  repeat' first
    | with_reducible assumption
    | with_reducible apply State.at_kept
    | with_reducible apply State.periodicDue_kept

theorem execSchedulerTick_kept (t : Nat) (s : State) : Answers s (execSchedulerTick t s) := by
  have hk := Kept.refl s
  refine ⟨_, rfl, ?_⟩
  repeat' first
    | with_reducible assumption
    | with_reducible apply State.at_kept
    | with_reducible apply State.schedule_kept

theorem execSlotVerificationComplete_kept (t : Nat) (k : Fin 16) (s : State) : Answers s (execSlotVerificationComplete t k s) := by
  have hk := Kept.refl s
  refine ⟨_, rfl, ?_⟩
  repeat' first
    | with_reducible assumption
    | with_reducible apply State.at_kept
    | with_reducible apply State.slotVerified_kept

theorem execLoadComplete_kept (t : Nat) (s : State) : Answers s (execLoadComplete t s) := by
  have hk := Kept.refl s
  refine ⟨_, rfl, ?_⟩
  repeat' first
    | with_reducible assumption
    | with_reducible apply State.at_kept
    | with_reducible apply State.loadComplete_kept

theorem execWriteIfEmptyFill_kept (t : Nat) (f : Frame) (s : State) : Answers s (execWriteIfEmptyFill t f s) := by
  have hk := Kept.refl s
  refine ⟨_, rfl, ?_⟩
  repeat' first
    | with_reducible assumption
    | with_reducible apply State.at_kept
    | with_reducible apply State.syncOp_kept

theorem execConsume_kept (t : Nat) (f : Frame) (s : State) : Answers s (execConsume t f s) := by
  have hk := Kept.refl s
  refine ⟨_, rfl, ?_⟩
  repeat' first
    | with_reducible assumption
    | with_reducible apply State.at_kept
    | with_reducible apply State.syncOp_kept

theorem execReadLeaveFull_kept (t : Nat) (f : Frame) (s : State) : Answers s (execReadLeaveFull t f s) := by
  have hk := Kept.refl s
  refine ⟨_, rfl, ?_⟩
  repeat' first
    | with_reducible assumption
    | with_reducible apply State.at_kept
    | with_reducible apply State.syncOp_kept

theorem execForcedWrite_kept (t : Nat) (f : Frame) (s : State) : Answers s (execForcedWrite t f s) := by
  have hk := Kept.refl s
  refine ⟨_, rfl, ?_⟩
  repeat' first
    | with_reducible assumption
    | with_reducible apply State.at_kept
    | with_reducible apply State.syncOp_kept

theorem execFetchAdd_kept (t : Nat) (f : Frame) (s : State) : Answers s (execFetchAdd t f s) := by
  have hk := Kept.refl s
  refine ⟨_, rfl, ?_⟩
  repeat' first
    | with_reducible assumption
    | with_reducible apply State.at_kept
    | with_reducible apply State.syncOp_kept

theorem execCompareSwap_kept (t : Nat) (f : Frame) (s : State) : Answers s (execCompareSwap t f s) := by
  have hk := Kept.refl s
  refine ⟨_, rfl, ?_⟩
  repeat' first
    | with_reducible assumption
    | with_reducible apply State.at_kept
    | with_reducible apply State.syncOp_kept

theorem execWatchRegister_kept (t : Nat) (f : Frame) (s : State) : Answers s (execWatchRegister t f s) := by
  have hk := Kept.refl s
  refine ⟨_, rfl, ?_⟩
  repeat' first
    | with_reducible assumption
    | with_reducible apply State.at_kept
    | with_reducible apply State.watchRegister_kept

theorem execWatchCancel_kept (t : Nat) (f : Frame) (s : State) : Answers s (execWatchCancel t f s) := by
  have hk := Kept.refl s
  refine ⟨_, rfl, ?_⟩
  repeat' first
    | with_reducible assumption
    | with_reducible apply State.at_kept
    | with_reducible apply State.watchCancel_kept

theorem execArrive_kept (t : Nat) (f : Frame) (s : State) : Answers s (execArrive t f s) := by
  have hk := Kept.refl s
  refine ⟨_, rfl, ?_⟩
  repeat' first
    | with_reducible assumption
    | with_reducible apply State.arrive_kept
    | with_reducible apply State.at_kept

theorem execRelease_kept (t : Nat) (f : Frame) (s : State) : Answers s (execRelease t f s) := by
  have hk := Kept.refl s
  refine ⟨_, rfl, ?_⟩
  repeat' first
    | with_reducible assumption
    | with_reducible apply State.at_kept
    | with_reducible apply State.releaseIn_kept

theorem execPoolScan_kept (t : Nat) (single bad badDesc : List Nat) (s : State) : Answers s (execPoolScan t single bad badDesc s) := by
  have hk := Kept.refl s
  refine ⟨_, rfl, ?_⟩
  repeat' first
    | with_reducible assumption
    | intro _
    | with_reducible apply State.at_kept
    | with_reducible apply State.badDescriptor_kept
    | with_reducible apply State.forEach_kept
    | with_reducible apply State.poisonWord_kept
    | with_reducible apply State.setWord_kept

theorem execDomainPrepare_kept (t shelf : Nat) (val : List Nat) (s : State) : Answers s (execDomainPrepare t shelf val s) := by
  have hk := Kept.refl s
  refine ⟨_, rfl, ?_⟩
  repeat' first
    | with_reducible assumption
    | with_reducible apply State.at_kept
    | with_reducible apply State.notice_kept

theorem execDomainCommit_kept (t shelf : Nat) (val : List Nat) (s : State) : Answers s (execDomainCommit t shelf val s) := by
  have hk := Kept.refl s
  refine ⟨_, rfl, ?_⟩
  repeat' first
    | with_reducible assumption
    | with_reducible apply State.at_kept
    | with_reducible apply State.notice_kept

theorem execDomainOpen_kept (t shelf : Nat) (val : List Nat) (s : State) : Answers s (execDomainOpen t shelf val s) := by
  have hk := Kept.refl s
  refine ⟨_, rfl, ?_⟩
  repeat' first
    | with_reducible assumption
    | with_reducible apply State.at_kept
    | with_reducible apply State.notice_kept

theorem execDomainAbort_kept (t shelf : Nat) (val : List Nat) (s : State) : Answers s (execDomainAbort t shelf val s) := by
  have hk := Kept.refl s
  refine ⟨_, rfl, ?_⟩
  repeat' first
    | with_reducible assumption
    | with_reducible apply State.at_kept
    | with_reducible apply State.notice_kept

theorem execDomainCloseNotice_kept (t shelf : Nat) (val : List Nat) (s : State) : Answers s (execDomainCloseNotice t shelf val s) := by
  have hk := Kept.refl s
  refine ⟨_, rfl, ?_⟩
  repeat' first
    | with_reducible assumption
    | with_reducible apply State.at_kept
    | with_reducible apply State.notice_kept

theorem execDomainBrokenNotice_kept (t shelf : Nat) (val : List Nat) (s : State) : Answers s (execDomainBrokenNotice t shelf val s) := by
  have hk := Kept.refl s
  refine ⟨_, rfl, ?_⟩
  repeat' first
    | with_reducible assumption
    | with_reducible apply State.at_kept
    | with_reducible apply State.notice_kept

theorem execPeerTimeout_kept (t : Nat) (s : State) : Answers s (execPeerTimeout t s) := by
  have hk := Kept.refl s
  refine ⟨_, rfl, ?_⟩
  repeat' first
    | with_reducible assumption
    | with_reducible apply State.at_kept
    | with_reducible apply State.peerTimeout_kept

theorem execPrepareExpiry_kept (t : Nat) (x : Fin 128) (s : State) : Answers s (execPrepareExpiry t x s) := by
  have hk := Kept.refl s
  refine ⟨_, rfl, ?_⟩
  repeat' first
    | with_reducible assumption
    | with_reducible apply Kept.ite
    | with_reducible apply State.at_kept
    | with_reducible apply State.memberAbort_kept

theorem execTrayNodeFree_kept (t : Nat) (x : Fin 128) (s : State) : Answers s (execTrayNodeFree t x s) := by
  have hk := Kept.refl s
  refine ⟨_, rfl, ?_⟩
  repeat' first
    | with_reducible assumption
    | with_reducible apply State.at_kept
    | with_reducible apply State.trayFree_kept

theorem execWaveInterval_kept (t : Nat) (s : State) : Answers s (execWaveInterval t s) := by
  have hk := Kept.refl s
  refine ⟨_, rfl, ?_⟩
  repeat' first
    | with_reducible assumption
    | with_reducible apply State.at_kept
    | with_reducible apply State.waveTick_kept

theorem execWeightUpdate_kept (t : Nat) (link : Fin 36) (meanBefore meanAfter : Int) (s : State) : Answers s (execWeightUpdate t link meanBefore meanAfter s) := by
  have hk := Kept.refl s
  refine ⟨_, rfl, ?_⟩
  repeat' first
    | with_reducible assumption
    | with_reducible apply State.at_kept
    | with_reducible apply State.weightUpdate_kept

theorem execRingSlotAdvance_kept (t : Nat) (ch : Nat) (s : State) : Answers s (execRingSlotAdvance t ch s) := by
  have hk := Kept.refl s
  refine ⟨_, rfl, ?_⟩
  repeat' first
    | with_reducible assumption
    | with_reducible apply State.advanceRing_kept
    | with_reducible apply State.at_kept

theorem execRingDeleteComplete_kept (t : Nat) (ch : Nat) (s : State) : Answers s (execRingDeleteComplete t ch s) := by
  have hk := Kept.refl s
  refine ⟨_, rfl, ?_⟩
  repeat' first
    | with_reducible assumption
    | with_reducible apply State.at_kept
    | with_reducible apply State.deleteComplete_kept

theorem execStackFailure_kept (t : Nat) (k : Fin 8) (cause : StackFail) (s : State) : Answers s (execStackFailure t k cause s) := by
  have hk := Kept.refl s
  refine ⟨_, rfl, ?_⟩
  repeat' first
    | with_reducible assumption
    | with_reducible apply State.at_kept
    | with_reducible apply State.stackFails_kept

theorem execPatrolScrub_kept (t : Nat) (k : Fin 8) (corrected : Nat) (rows : List Nat) (bad : Option BadBlock) (passEnd : Bool) (s : State) : Answers s (execPatrolScrub t k corrected rows bad passEnd s) := by
  have hk := Kept.refl s
  refine ⟨_, rfl, ?_⟩
  repeat' first
    | with_reducible assumption
    | with_reducible apply State.at_kept
    | with_reducible apply State.patrol_kept

theorem execPortPublication_kept (t : Nat) (port : Fin 16) (h : Fin 128) (stamp : Nat) (bytes : List Nat) (s : State) : Answers s (execPortPublication t port h stamp bytes s) := by
  have hk := Kept.refl s
  refine ⟨_, rfl, ?_⟩
  repeat' first
    | with_reducible assumption
    | with_reducible apply State.at_kept
    | with_reducible apply State.publishPort_kept

theorem execBinEvaluation_kept (t : Nat) (s : State) : Answers s (execBinEvaluation t s) := by
  have hk := Kept.refl s
  refine ⟨_, rfl, ?_⟩
  repeat' first
    | with_reducible assumption
    | with_reducible apply State.at_kept
    | with_reducible apply State.binEnd_kept

theorem execMeasurementCycle_kept (t : Nat) (delay length : Nat) (s : State) : Answers s (execMeasurementCycle t delay length s) := by
  have hk := Kept.refl s
  refine ⟨_, rfl, ?_⟩
  repeat' first
    | with_reducible assumption
    | with_reducible apply State.at_kept
    | with_reducible apply State.measureCycle_kept

theorem execRingCommandIssue_kept (t : Nat) (k : Fin 2) (s : State) : Answers s (execRingCommandIssue t k s) := by
  have hk := Kept.refl s
  refine ⟨_, rfl, ?_⟩
  repeat' first
    | with_reducible assumption
    | with_reducible apply Kept.ite
    | with_reducible apply State.at_kept
    | with_reducible apply State.ringIssue_kept

theorem execRingResponse_kept (t : Nat) (k : Fin 2) (bytes : List Nat) (s : State) : Answers s (execRingResponse t k bytes s) := by
  have hk := Kept.refl s
  refine ⟨_, rfl, ?_⟩
  repeat' first
    | with_reducible assumption
    | with_reducible apply State.at_kept
    | with_reducible apply State.ringResponse_kept

theorem execRingFrameReturn_kept (t : Nat) (k : Fin 2) (atB : Bool) (bytes : List Nat) (s : State) : Answers s (execRingFrameReturn t k atB bytes s) := by
  have hk := Kept.refl s
  refine ⟨_, rfl, ?_⟩
  repeat' first
    | with_reducible assumption
    | with_reducible apply State.at_kept
    | with_reducible apply State.frameReturn_kept

theorem execResponseTimeout_kept (t : Nat) (k : Fin 2) (s : State) : Answers s (execResponseTimeout t k s) := by
  have hk := Kept.refl s
  refine ⟨_, rfl, ?_⟩
  repeat' first
    | with_reducible assumption
    | with_reducible apply State.at_kept
    | with_reducible apply State.ringTimeout_kept

theorem execRingBreak_kept (t : Nat) (k : Fin 2) (s : State) : Answers s (execRingBreak t k s) := by
  have hk := Kept.refl s
  refine ⟨_, rfl, ?_⟩
  repeat' first
    | with_reducible assumption
    | with_reducible apply State.at_kept
    | with_reducible apply State.ringBroken_kept

theorem execRingClose_kept (t : Nat) (k : Fin 2) (s : State) : Answers s (execRingClose t k s) := by
  have hk := Kept.refl s
  refine ⟨_, rfl, ?_⟩
  repeat' first
    | with_reducible assumption
    | with_reducible apply State.at_kept
    | with_reducible apply State.ringClosed_kept

theorem execLinkPulse_kept (t : Nat) (k : Fin 2) (atB : Bool) (s : State) : Answers s (execLinkPulse t k atB s) := by
  have hk := Kept.refl s
  refine ⟨_, rfl, ?_⟩
  repeat' first
    | with_reducible assumption
    | with_reducible apply State.at_kept
    | with_reducible apply State.linkPulse_kept

theorem execSliceReenumerate_kept (t : Nat) (k : Fin 2) (s : State) : Answers s (execSliceReenumerate t k s) := by
  have hk := Kept.refl s
  refine ⟨_, rfl, ?_⟩
  repeat' first
    | with_reducible assumption
    | with_reducible apply State.at_kept
    | with_reducible apply State.reenumerate_kept

theorem execStackMeasurementFault_kept (t : Nat) (k : Fin 2) (s : State) : Answers s (execStackMeasurementFault t k s) := by
  have hk := Kept.refl s
  refine ⟨_, rfl, ?_⟩
  repeat' first
    | with_reducible assumption
    | with_reducible apply State.at_kept
    | with_reducible apply State.stackMeasFault_kept

theorem execStringReconnect_kept (t : Nat) (k : Fin 2) (s : State) : Answers s (execStringReconnect t k s) := by
  have hk := Kept.refl s
  refine ⟨_, rfl, ?_⟩
  repeat' first
    | with_reducible assumption
    | with_reducible apply State.at_kept
    | with_reducible apply State.reconnect_kept

theorem execBalanceInterval_kept (t : Nat) (s : State) : Answers s (execBalanceInterval t s) := by
  have hk := Kept.refl s
  refine ⟨_, rfl, ?_⟩
  repeat' first
    | with_reducible assumption
    | with_reducible apply State.at_kept
    | with_reducible apply State.balanceDue_kept

theorem execEstimatorUpdate_kept (t : Nat) (k : Fin 2) (cell : Fin 288) (s : State) : Answers s (execEstimatorUpdate t k cell s) := by
  have hk := Kept.refl s
  refine ⟨_, rfl, ?_⟩
  repeat' first
    | with_reducible assumption
    | with_reducible apply State.at_kept
    | with_reducible apply State.estUpdate_kept

theorem execLimitUpdate_kept (t : Nat) (s : State) : Answers s (execLimitUpdate t s) := by
  have hk := Kept.refl s
  refine ⟨_, rfl, ?_⟩
  repeat' first
    | with_reducible assumption
    | with_reducible apply Kept.ite
    | with_reducible apply State.at_kept
    | with_reducible apply State.limitUpdate_kept

theorem execSocReportUpdate_kept (t : Nat) (s : State) : Answers s (execSocReportUpdate t s) := by
  have hk := Kept.refl s
  refine ⟨_, rfl, ?_⟩
  repeat' first
    | with_reducible assumption
    | intro _
    | with_reducible apply Kept.ite
    | with_reducible apply State.at_kept
    | with_reducible apply State.forEach_kept
    | with_reducible apply State.reportSoc_kept

theorem execEstimatorCompare_kept (t : Nat) (differ : Bool) (s : State) : Answers s (execEstimatorCompare t differ s) := by
  have hk := Kept.refl s
  refine ⟨_, rfl, ?_⟩
  repeat' first
    | with_reducible assumption
    | with_reducible apply State.at_kept
    | with_reducible apply State.estCompare_kept

theorem execPersistentStateWrite_kept (t : Nat) (s : State) : Answers s (execPersistentStateWrite t s) := by
  have hk := Kept.refl s
  refine ⟨_, rfl, ?_⟩
  repeat' first
    | with_reducible assumption
    | with_reducible apply State.at_kept
    | with_reducible apply State.persistDue_kept

theorem execLifetimeUpdate_kept (t : Nat) (k : Fin 2) (s : State) : Answers s (execLifetimeUpdate t k s) := by
  have hk := Kept.refl s
  refine ⟨_, rfl, ?_⟩
  repeat' first
    | with_reducible assumption
    | with_reducible apply Kept.ite
    | with_reducible apply State.at_kept
    | with_reducible apply State.lifetimeSecond_kept

theorem execCalibrationPhaseEnd_kept (t : Nat) (s : State) : Answers s (execCalibrationPhaseEnd t s) := by
  have hk := Kept.refl s
  refine ⟨_, rfl, ?_⟩
  repeat' first
    | with_reducible assumption
    | with_reducible apply State.at_kept
    | with_reducible apply State.calPhaseEnd_kept

end Sys2Proof.Machine
end

