-- ==== Sys2Proof/Laws/KeptExec3.lean ====
section
/-! SUPPORT. Every meaning answers a next state and keeps what Kept says: one lemma for each command. -/

namespace Sys2Proof.Machine

theorem execCalibrationTimeout_kept (t : Nat) (s : State) : Answers s (execCalibrationTimeout t s) := by
  have hk := Kept.refl s
  refine ⟨_, rfl, ?_⟩
  repeat' first
    | with_reducible assumption
    | with_reducible apply State.at_kept
    | with_reducible apply State.calLate_kept

theorem execFwmain_kept (t : Nat) (role : Role) (password : Nat) (bytes : List Nat) (s : State) : Answers s (execFwmain t role password bytes s) := by
  have hk := Kept.refl s
  refine ⟨_, rfl, ?_⟩
  repeat' first
    | with_reducible assumption
    | with_reducible apply State.at_kept
    | with_reducible apply State.firmwareWrite_kept

theorem execFwseed_kept (t : Nat) (role : Role) (password : Nat) (bytes : List Nat) (s : State) : Answers s (execFwseed t role password bytes s) := by
  have hk := Kept.refl s
  refine ⟨_, rfl, ?_⟩
  repeat' first
    | with_reducible assumption
    | with_reducible apply State.at_kept
    | with_reducible apply State.firmwareWrite_kept

theorem execProtectedRegisterWrite_kept (t : Nat) (h : Half) (reg : Fin 7) (s : State) : Answers s (execProtectedRegisterWrite t h reg s) := by
  have hk := Kept.refl s
  refine ⟨_, rfl, ?_⟩
  repeat' first
    | with_reducible assumption
    | with_reducible apply Kept.ite
    | with_reducible apply State.at_kept
    | with_reducible apply State.raise_kept

theorem execAdmissionRetry_kept (t : Nat) (k : Fin 16) (ticket devKey : List Nat) (sig : List Nat) (s : State) : Answers s (execAdmissionRetry t k ticket devKey sig s) := by
  have hk := Kept.refl s
  refine ⟨_, rfl, ?_⟩
  repeat' first
    | with_reducible assumption
    | with_reducible apply State.admitTry_kept
    | with_reducible apply State.at_kept

theorem execSessionLimit_kept (t : Nat) (k : Fin 4) (s : State) : Answers s (execSessionLimit t k s) := by
  have hk := Kept.refl s
  refine ⟨_, rfl, ?_⟩
  repeat' first
    | with_reducible assumption
    | with_reducible apply State.at_kept
    | with_reducible apply State.sessionExpire_kept

theorem execUnlockLockoutEnd_kept (t : Nat) (s : State) : Answers s (execUnlockLockoutEnd t s) := by
  have hk := Kept.refl s
  refine ⟨_, rfl, ?_⟩
  repeat' first
    | with_reducible assumption
    | with_reducible apply State.at_kept
    | with_reducible apply State.lockoutEnd_kept

theorem execIdcode_kept (t : Nat) (s : State) : Answers s (execIdcode t s) := by
  have hk := Kept.refl s
  refine ⟨_, rfl, ?_⟩
  repeat' first
    | with_reducible assumption
    | (extract_lets +onlyGivenNames x; clear_value x)
    | with_reducible apply Kept.ite
    | with_reducible apply State.at_kept
    | with_reducible apply State.emit_kept
    | (with_reducible apply Kept.mk'; first | with_reducible assumption | (with_reducible apply Kept.mk'; with_reducible assumption) | with_reducible apply State.at_kept | with_reducible apply State.emit_kept)

theorem execBypass_kept (t : Nat) (instr : TapInstr) (s : State) : Answers s (execBypass t instr s) := by
  have hk := Kept.refl s
  refine ⟨_, rfl, ?_⟩
  repeat' first
    | with_reducible assumption
    | with_reducible apply Kept.ite
    | with_reducible apply State.at_kept
    | with_reducible apply State.tapBypass_kept

theorem execSamplePreload_kept (t : Nat) (bits : List Nat) (s : State) : Answers s (execSamplePreload t bits s) := by
  have hk := Kept.refl s
  refine ⟨_, rfl, ?_⟩
  repeat' first
    | with_reducible assumption
    | with_reducible apply Kept.ite
    | with_reducible apply State.at_kept
    | with_reducible apply State.tapBypass_kept
    | with_reducible apply State.tapScan_kept

theorem execExtest_kept (t : Nat) (bits : List Nat) (s : State) : Answers s (execExtest t bits s) := by
  have hk := Kept.refl s
  refine ⟨_, rfl, ?_⟩
  repeat' first
    | with_reducible assumption
    | with_reducible apply Kept.ite
    | with_reducible apply State.at_kept
    | with_reducible apply State.tapBypass_kept
    | with_reducible apply State.tapScan_kept

theorem execEnergise_kept (t : Nat) (role : Role) (s : State) : Answers s (execEnergise t role s) := by
  have hk := Kept.refl s
  refine ⟨_, rfl, ?_⟩
  repeat' first
    | with_reducible assumption
    | with_reducible apply State.at_kept
    | with_reducible apply State.cmdWrite_kept

theorem execShape_kept (t : Nat) (role : Role) (s : State) : Answers s (execShape t role s) := by
  have hk := Kept.refl s
  refine ⟨_, rfl, ?_⟩
  repeat' first
    | with_reducible assumption
    | with_reducible apply State.at_kept
    | with_reducible apply State.cmdWrite_kept

theorem execUnshape_kept (t : Nat) (role : Role) (s : State) : Answers s (execUnshape t role s) := by
  have hk := Kept.refl s
  refine ⟨_, rfl, ?_⟩
  repeat' first
    | with_reducible assumption
    | with_reducible apply State.at_kept
    | with_reducible apply State.cmdWrite_kept

theorem execDeEnergise_kept (t : Nat) (role : Role) (s : State) : Answers s (execDeEnergise t role s) := by
  have hk := Kept.refl s
  refine ⟨_, rfl, ?_⟩
  repeat' first
    | with_reducible assumption
    | with_reducible apply State.at_kept
    | with_reducible apply State.cmdWrite_kept

theorem execShip_kept (t : Nat) (role : Role) (s : State) : Answers s (execShip t role s) := by
  have hk := Kept.refl s
  refine ⟨_, rfl, ?_⟩
  repeat' first
    | with_reducible assumption
    | with_reducible apply State.at_kept
    | with_reducible apply State.cmdWrite_kept

theorem execRestartFromSeedOrSafe_kept (t : Nat) (role : Role) (s : State) : Answers s (execRestartFromSeedOrSafe t role s) := by
  have hk := Kept.refl s
  refine ⟨_, rfl, ?_⟩
  repeat' first
    | with_reducible assumption
    | with_reducible apply State.at_kept
    | with_reducible apply State.cmdWrite_kept

theorem execRegisterWrite_kept (t : Nat) (path : Path) (role : Role) (idx sub : Nat) (val : List Nat) (s : State) : Answers s (execRegisterWrite t path role idx sub val s) := by
  have hk := Kept.refl s
  refine ⟨_, rfl, ?_⟩
  repeat' first
    | with_reducible assumption
    | with_reducible apply Kept.ite
    | with_reducible apply State.at_kept
    | with_reducible apply State.broadcastWrite_kept
    | with_reducible apply State.regWrite_kept

theorem execCompleteAccessWrite_kept (t : Nat) (role : Role) (idx : Nat) (vals : List (Nat × List Nat)) (s : State) : Answers s (execCompleteAccessWrite t role idx vals s) := by
  have hk := Kept.refl s
  refine ⟨_, rfl, ?_⟩
  repeat' first
    | with_reducible assumption
    | with_reducible apply State.at_kept
    | with_reducible apply State.completeWrite_kept

theorem execInstanceCommit_kept (t : Nat) (role : Role) (i : Fin 64) (s : State) : Answers s (execInstanceCommit t role i s) := by
  have hk := Kept.refl s
  refine ⟨_, rfl, ?_⟩
  repeat' first
    | with_reducible assumption
    | with_reducible apply State.at_kept
    | with_reducible apply State.cmdWrite_kept

theorem execTraceStop_kept (t : Nat) (role : Role) (s : State) : Answers s (execTraceStop t role s) := by
  have hk := Kept.refl s
  refine ⟨_, rfl, ?_⟩
  repeat' first
    | with_reducible assumption
    | with_reducible apply State.at_kept
    | with_reducible apply State.cmdWrite_kept

theorem execTraceArmSingle_kept (t : Nat) (role : Role) (s : State) : Answers s (execTraceArmSingle t role s) := by
  have hk := Kept.refl s
  refine ⟨_, rfl, ?_⟩
  repeat' first
    | with_reducible assumption
    | with_reducible apply State.at_kept
    | with_reducible apply State.cmdWrite_kept

theorem execTraceArmNormal_kept (t : Nat) (role : Role) (s : State) : Answers s (execTraceArmNormal t role s) := by
  have hk := Kept.refl s
  refine ⟨_, rfl, ?_⟩
  repeat' first
    | with_reducible assumption
    | with_reducible apply State.at_kept
    | with_reducible apply State.cmdWrite_kept

theorem execTraceForceTrigger_kept (t : Nat) (role : Role) (s : State) : Answers s (execTraceForceTrigger t role s) := by
  have hk := Kept.refl s
  refine ⟨_, rfl, ?_⟩
  repeat' first
    | with_reducible assumption
    | with_reducible apply State.at_kept
    | with_reducible apply State.cmdWrite_kept

theorem execPhaseClear_kept (t : Nat) (role : Role) (n : Nat) (s : State) : Answers s (execPhaseClear t role n s) := by
  have hk := Kept.refl s
  refine ⟨_, rfl, ?_⟩
  repeat' first
    | with_reducible assumption
    | with_reducible apply State.at_kept
    | with_reducible apply State.cmdWrite_kept

theorem execLockoutClear_kept (t : Nat) (role : Role) (x : Fin 2) (v : Nat) (s : State) : Answers s (execLockoutClear t role x v s) := by
  have hk := Kept.refl s
  refine ⟨_, rfl, ?_⟩
  repeat' first
    | with_reducible assumption
    | with_reducible apply State.at_kept
    | with_reducible apply State.cmdWrite_kept

theorem execAuthorityTransferRequest_kept (t : Nat) (role : Role) (v : Nat) (s : State) : Answers s (execAuthorityTransferRequest t role v s) := by
  have hk := Kept.refl s
  refine ⟨_, rfl, ?_⟩
  repeat' first
    | with_reducible assumption
    | with_reducible apply State.at_kept
    | with_reducible apply State.cmdWrite_kept

theorem execHallTimeSet_kept (t : Nat) (role : Role) (v : Nat) (hallTenantOpen : Bool) (s : State) : Answers s (execHallTimeSet t role v hallTenantOpen s) := by
  have hk := Kept.refl s
  refine ⟨_, rfl, ?_⟩
  repeat' first
    | with_reducible assumption
    | with_reducible apply State.at_kept
    | with_reducible apply State.hallTimeWrite_kept

theorem execTenantOpen_kept (t : Nat) (role : Role) (k : Fin 64) (s : State) : Answers s (execTenantOpen t role k s) := by
  have hk := Kept.refl s
  refine ⟨_, rfl, ?_⟩
  repeat' first
    | with_reducible assumption
    | with_reducible apply State.at_kept
    | with_reducible apply State.cmdWrite_kept

theorem execTenantClose_kept (t : Nat) (role : Role) (k : Fin 64) (s : State) : Answers s (execTenantClose t role k s) := by
  have hk := Kept.refl s
  refine ⟨_, rfl, ?_⟩
  repeat' first
    | with_reducible assumption
    | with_reducible apply State.at_kept
    | with_reducible apply State.cmdWrite_kept

theorem execTenantForceClose_kept (t : Nat) (role : Role) (k : Fin 64) (s : State) : Answers s (execTenantForceClose t role k s) := by
  have hk := Kept.refl s
  refine ⟨_, rfl, ?_⟩
  repeat' first
    | with_reducible assumption
    | with_reducible apply State.at_kept
    | with_reducible apply State.cmdWrite_kept

theorem execClearQuarantine_kept (t : Nat) (role : Role) (k : Fin 64) (s : State) : Answers s (execClearQuarantine t role k s) := by
  have hk := Kept.refl s
  refine ⟨_, rfl, ?_⟩
  repeat' first
    | with_reducible assumption
    | with_reducible apply State.at_kept
    | with_reducible apply State.cmdWrite_kept

theorem execAllocateWords_kept (t : Nat) (role : Role) (k : Fin 64) (req : List Nat) (s : State) : Answers s (execAllocateWords t role k req s) := by
  have hk := Kept.refl s
  refine ⟨_, rfl, ?_⟩
  repeat' first
    | with_reducible assumption
    | with_reducible apply State.at_kept
    | with_reducible apply State.reqWrite_kept

theorem execFreeWords_kept (t : Nat) (role : Role) (k : Fin 64) (req : List Nat) (s : State) : Answers s (execFreeWords t role k req s) := by
  have hk := Kept.refl s
  refine ⟨_, rfl, ?_⟩
  repeat' first
    | with_reducible assumption
    | with_reducible apply State.at_kept
    | with_reducible apply State.reqWrite_kept

theorem execDeclareQueue_kept (t : Nat) (role : Role) (k : Fin 64) (req : List Nat) (s : State) : Answers s (execDeclareQueue t role k req s) := by
  have hk := Kept.refl s
  refine ⟨_, rfl, ?_⟩
  repeat' first
    | with_reducible assumption
    | with_reducible apply State.at_kept
    | with_reducible apply State.reqWrite_kept

theorem execUndeclareQueue_kept (t : Nat) (role : Role) (k : Fin 64) (req : List Nat) (s : State) : Answers s (execUndeclareQueue t role k req s) := by
  have hk := Kept.refl s
  refine ⟨_, rfl, ?_⟩
  repeat' first
    | with_reducible assumption
    | with_reducible apply State.at_kept
    | with_reducible apply State.reqWrite_kept

theorem execAllocateDescriptors_kept (t : Nat) (role : Role) (k : Fin 64) (req : List Nat) (s : State) : Answers s (execAllocateDescriptors t role k req s) := by
  have hk := Kept.refl s
  refine ⟨_, rfl, ?_⟩
  repeat' first
    | with_reducible assumption
    | with_reducible apply State.at_kept
    | with_reducible apply State.reqWrite_kept

theorem execFreeDescriptors_kept (t : Nat) (role : Role) (k : Fin 64) (req : List Nat) (s : State) : Answers s (execFreeDescriptors t role k req s) := by
  have hk := Kept.refl s
  refine ⟨_, rfl, ?_⟩
  repeat' first
    | with_reducible assumption
    | with_reducible apply State.at_kept
    | with_reducible apply State.reqWrite_kept

theorem execWordSet_kept (t : Nat) (role : Role) (val : List Nat) (s : State) : Answers s (execWordSet t role val s) := by
  have hk := Kept.refl s
  refine ⟨_, rfl, ?_⟩
  repeat' first
    | with_reducible assumption
    | with_reducible apply State.at_kept
    | with_reducible apply State.reqWrite_kept

theorem execDomainCreate_kept (t : Nat) (role : Role) (desc : List Nat) (s : State) : Answers s (execDomainCreate t role desc s) := by
  have hk := Kept.refl s
  refine ⟨_, rfl, ?_⟩
  repeat' first
    | with_reducible assumption
    | with_reducible apply State.at_kept
    | with_reducible apply State.reqWrite_kept

theorem execDomainClose_kept (t : Nat) (role : Role) (id : Nat) (s : State) : Answers s (execDomainClose t role id s) := by
  have hk := Kept.refl s
  refine ⟨_, rfl, ?_⟩
  repeat' first
    | with_reducible assumption
    | with_reducible apply State.at_kept
    | with_reducible apply State.cmdWrite_kept

theorem execArrayReturnToService_kept (t : Nat) (role : Role) (g : Fin 128) (s : State) : Answers s (execArrayReturnToService t role g s) := by
  have hk := Kept.refl s
  refine ⟨_, rfl, ?_⟩
  repeat' first
    | with_reducible assumption
    | with_reducible apply State.at_kept
    | with_reducible apply State.cmdWrite_kept

theorem execArrayOutOfService_kept (t : Nat) (role : Role) (g : Fin 128) (s : State) : Answers s (execArrayOutOfService t role g s) := by
  have hk := Kept.refl s
  refine ⟨_, rfl, ?_⟩
  repeat' first
    | with_reducible assumption
    | with_reducible apply State.at_kept
    | with_reducible apply State.cmdWrite_kept

theorem execSlotOpen_kept (t : Nat) (role : Role) (k : Fin 16) (s : State) : Answers s (execSlotOpen t role k s) := by
  have hk := Kept.refl s
  refine ⟨_, rfl, ?_⟩
  repeat' first
    | with_reducible assumption
    | with_reducible apply State.at_kept
    | with_reducible apply State.cmdWrite_kept

theorem execSlotVerify_kept (t : Nat) (role : Role) (k : Fin 16) (s : State) : Answers s (execSlotVerify t role k s) := by
  have hk := Kept.refl s
  refine ⟨_, rfl, ?_⟩
  repeat' first
    | with_reducible assumption
    | with_reducible apply State.at_kept
    | with_reducible apply State.cmdWrite_kept

theorem execSlotDiscard_kept (t : Nat) (role : Role) (k : Fin 16) (s : State) : Answers s (execSlotDiscard t role k s) := by
  have hk := Kept.refl s
  refine ⟨_, rfl, ?_⟩
  repeat' first
    | with_reducible assumption
    | with_reducible apply State.at_kept
    | with_reducible apply State.cmdWrite_kept

theorem execLoadRequest_kept (t : Nat) (role : Role) (req : List Nat) (s : State) : Answers s (execLoadRequest t role req s) := by
  have hk := Kept.refl s
  refine ⟨_, rfl, ?_⟩
  repeat' first
    | with_reducible assumption
    | with_reducible apply State.at_kept
    | with_reducible apply State.reqWrite_kept

theorem execProgramStart_kept (t : Nat) (role : Role) (h : Fin 128) (s : State) : Answers s (execProgramStart t role h s) := by
  have hk := Kept.refl s
  refine ⟨_, rfl, ?_⟩
  repeat' first
    | with_reducible assumption
    | with_reducible apply State.at_kept
    | with_reducible apply State.cmdWrite_kept

theorem execProgramStop_kept (t : Nat) (role : Role) (h : Fin 128) (s : State) : Answers s (execProgramStop t role h s) := by
  have hk := Kept.refl s
  refine ⟨_, rfl, ?_⟩
  repeat' first
    | with_reducible assumption
    | with_reducible apply State.at_kept
    | with_reducible apply State.cmdWrite_kept

theorem execProgramUnload_kept (t : Nat) (role : Role) (h : Fin 128) (s : State) : Answers s (execProgramUnload t role h s) := by
  have hk := Kept.refl s
  refine ⟨_, rfl, ?_⟩
  repeat' first
    | with_reducible assumption
    | with_reducible apply State.at_kept
    | with_reducible apply State.cmdWrite_kept

theorem execProgramRunNow_kept (t : Nat) (role : Role) (h : Fin 128) (s : State) : Answers s (execProgramRunNow t role h s) := by
  have hk := Kept.refl s
  refine ⟨_, rfl, ?_⟩
  repeat' first
    | with_reducible assumption
    | with_reducible apply State.at_kept
    | with_reducible apply State.cmdWrite_kept

theorem execChannelDefine_kept (t : Nat) (role : Role) (req : List Nat) (s : State) : Answers s (execChannelDefine t role req s) := by
  have hk := Kept.refl s
  refine ⟨_, rfl, ?_⟩
  repeat' first
    | with_reducible assumption
    | with_reducible apply State.at_kept
    | with_reducible apply State.reqWrite_kept

theorem execChannelDelete_kept (t : Nat) (role : Role) (req : List Nat) (s : State) : Answers s (execChannelDelete t role req s) := by
  have hk := Kept.refl s
  refine ⟨_, rfl, ?_⟩
  repeat' first
    | with_reducible assumption
    | with_reducible apply State.at_kept
    | with_reducible apply State.reqWrite_kept

theorem execChannelQuery_kept (t : Nat) (role : Role) (req : List Nat) (s : State) : Answers s (execChannelQuery t role req s) := by
  have hk := Kept.refl s
  refine ⟨_, rfl, ?_⟩
  repeat' first
    | with_reducible assumption
    | with_reducible apply State.at_kept
    | with_reducible apply State.reqWrite_kept

theorem execChannelSetGrants_kept (t : Nat) (role : Role) (req : List Nat) (s : State) : Answers s (execChannelSetGrants t role req s) := by
  have hk := Kept.refl s
  refine ⟨_, rfl, ?_⟩
  repeat' first
    | with_reducible assumption
    | with_reducible apply State.at_kept
    | with_reducible apply State.reqWrite_kept

theorem execWindowDefine_kept (t : Nat) (role : Role) (req : List Nat) (s : State) : Answers s (execWindowDefine t role req s) := by
  have hk := Kept.refl s
  refine ⟨_, rfl, ?_⟩
  repeat' first
    | with_reducible assumption
    | with_reducible apply State.at_kept
    | with_reducible apply State.reqWrite_kept

theorem execWindowFree_kept (t : Nat) (role : Role) (req : List Nat) (s : State) : Answers s (execWindowFree t role req s) := by
  have hk := Kept.refl s
  refine ⟨_, rfl, ?_⟩
  repeat' first
    | with_reducible assumption
    | with_reducible apply State.at_kept
    | with_reducible apply State.reqWrite_kept

theorem execWindowQuery_kept (t : Nat) (role : Role) (req : List Nat) (s : State) : Answers s (execWindowQuery t role req s) := by
  have hk := Kept.refl s
  refine ⟨_, rfl, ?_⟩
  repeat' first
    | with_reducible assumption
    | with_reducible apply State.at_kept
    | with_reducible apply State.reqWrite_kept

theorem execForecasterBind_kept (t : Nat) (role : Role) (h : Nat) (s : State) : Answers s (execForecasterBind t role h s) := by
  have hk := Kept.refl s
  refine ⟨_, rfl, ?_⟩
  repeat' first
    | with_reducible assumption
    | with_reducible apply State.at_kept
    | with_reducible apply State.cmdWrite_kept

theorem execCalibrationStart_kept (t : Nat) (role : Role) (v : Nat) (s : State) : Answers s (execCalibrationStart t role v s) := by
  have hk := Kept.refl s
  refine ⟨_, rfl, ?_⟩
  repeat' first
    | with_reducible assumption
    | with_reducible apply State.at_kept
    | with_reducible apply State.cmdWrite_kept

theorem execCalibrationAbort_kept (t : Nat) (role : Role) (s : State) : Answers s (execCalibrationAbort t role s) := by
  have hk := Kept.refl s
  refine ⟨_, rfl, ?_⟩
  repeat' first
    | with_reducible assumption
    | with_reducible apply State.at_kept
    | with_reducible apply State.cmdWrite_kept

theorem execOcvTableWrite_kept (t : Nat) (role : Role) (bytes : List Nat) (s : State) : Answers s (execOcvTableWrite t role bytes s) := by
  have hk := Kept.refl s
  refine ⟨_, rfl, ?_⟩
  repeat' first
    | with_reducible assumption
    | with_reducible apply State.at_kept
    | with_reducible apply State.reqWrite_kept

theorem execLifetimeClear_kept (t : Nat) (role : Role) (k : Fin 2) (v : Nat) (s : State) : Answers s (execLifetimeClear t role k v s) := by
  have hk := Kept.refl s
  refine ⟨_, rfl, ?_⟩
  repeat' first
    | with_reducible assumption
    | with_reducible apply State.at_kept
    | with_reducible apply State.cmdWrite_kept

theorem execRailClear_kept (t : Nat) (role : Role) (r : Fin 16) (v : Nat) (s : State) : Answers s (execRailClear t role r v s) := by
  have hk := Kept.refl s
  refine ⟨_, rfl, ?_⟩
  repeat' first
    | with_reducible assumption
    | with_reducible apply State.at_kept
    | with_reducible apply State.cmdWrite_kept

theorem execBlockAcknowledge_kept (t : Nat) (role : Role) (b : Fin 194) (v : Nat) (s : State) : Answers s (execBlockAcknowledge t role b v s) := by
  have hk := Kept.refl s
  refine ⟨_, rfl, ?_⟩
  repeat' first
    | with_reducible assumption
    | with_reducible apply State.at_kept
    | with_reducible apply State.cmdWrite_kept

theorem execAcknowledgeAll_kept (t : Nat) (role : Role) (v : Nat) (s : State) : Answers s (execAcknowledgeAll t role v s) := by
  have hk := Kept.refl s
  refine ⟨_, rfl, ?_⟩
  repeat' first
    | with_reducible assumption
    | with_reducible apply State.at_kept
    | with_reducible apply State.cmdWrite_kept

theorem execBlockReturnToService_kept (t : Nat) (role : Role) (b : Fin 194) (v : Nat) (s : State) : Answers s (execBlockReturnToService t role b v s) := by
  have hk := Kept.refl s
  refine ⟨_, rfl, ?_⟩
  repeat' first
    | with_reducible assumption
    | with_reducible apply State.at_kept
    | with_reducible apply State.cmdWrite_kept

theorem execStoreParameters_kept (t : Nat) (role : Role) (v : Nat) (s : State) : Answers s (execStoreParameters t role v s) := by
  have hk := Kept.refl s
  refine ⟨_, rfl, ?_⟩
  repeat' first
    | with_reducible assumption
    | with_reducible apply State.at_kept
    | with_reducible apply State.cmdWrite_kept

theorem execRestoreDefaults_kept (t : Nat) (role : Role) (v : Nat) (s : State) : Answers s (execRestoreDefaults t role v s) := by
  have hk := Kept.refl s
  refine ⟨_, rfl, ?_⟩
  repeat' first
    | with_reducible assumption
    | with_reducible apply State.at_kept
    | with_reducible apply State.cmdWrite_kept

theorem execKeyEnrol_kept (t : Nat) (role : Role) (path : Path) (rec : List Nat) (s : State) : Answers s (execKeyEnrol t role path rec s) := by
  have hk := Kept.refl s
  refine ⟨_, rfl, ?_⟩
  repeat' first
    | with_reducible assumption
    | with_reducible apply State.at_kept
    | with_reducible apply State.keyWrite_kept

theorem execKeyRevoke_kept (t : Nat) (role : Role) (path : Path) (rec : List Nat) (s : State) : Answers s (execKeyRevoke t role path rec s) := by
  have hk := Kept.refl s
  refine ⟨_, rfl, ?_⟩
  repeat' first
    | with_reducible assumption
    | with_reducible apply State.at_kept
    | with_reducible apply State.keyWrite_kept

theorem execKeyStoreReset_kept (t : Nat) (role : Role) (path : Path) (port : Fin 4) (rec : List Nat) (s : State) : Answers s (execKeyStoreReset t role path port rec s) := by
  have hk := Kept.refl s
  refine ⟨_, rfl, ?_⟩
  repeat' first
    | with_reducible assumption
    | with_reducible apply State.at_kept
    | with_reducible apply State.keyWrite_kept

theorem execRollbackCommit_kept (t : Nat) (role : Role) (v : Nat) (s : State) : Answers s (execRollbackCommit t role v s) := by
  have hk := Kept.refl s
  refine ⟨_, rfl, ?_⟩
  repeat' first
    | with_reducible assumption
    | with_reducible apply State.at_kept
    | with_reducible apply State.cmdWrite_kept

theorem execAuthorCertificate_kept (t : Nat) (role : Role) (bytes : List Nat) (s : State) : Answers s (execAuthorCertificate t role bytes s) := by
  have hk := Kept.refl s
  refine ⟨_, rfl, ?_⟩
  repeat' first
    | with_reducible assumption
    | with_reducible apply State.at_kept
    | with_reducible apply State.reqWrite_kept

theorem execAuthorKeyRemove_kept (t : Nat) (role : Role) (keyId : List Nat) (s : State) : Answers s (execAuthorKeyRemove t role keyId s) := by
  have hk := Kept.refl s
  refine ⟨_, rfl, ?_⟩
  repeat' first
    | with_reducible assumption
    | with_reducible apply State.at_kept
    | with_reducible apply State.reqWrite_kept

theorem execSessionSetup_kept (t : Nat) (role : Role) (v : Nat) (s : State) : Answers s (execSessionSetup t role v s) := by
  have hk := Kept.refl s
  refine ⟨_, rfl, ?_⟩
  repeat' first
    | with_reducible assumption
    | with_reducible apply State.at_kept
    | with_reducible apply State.cmdWrite_kept

theorem execSessionResponse_kept (t : Nat) (role : Role) (bytes : List Nat) (s : State) : Answers s (execSessionResponse t role bytes s) := by
  have hk := Kept.refl s
  refine ⟨_, rfl, ?_⟩
  repeat' first
    | with_reducible assumption
    | with_reducible apply State.at_kept
    | with_reducible apply State.reqWrite_kept

theorem execSessionLock_kept (t : Nat) (role : Role) (v : Nat) (s : State) : Answers s (execSessionLock t role v s) := by
  have hk := Kept.refl s
  refine ⟨_, rfl, ?_⟩
  repeat' first
    | with_reducible assumption
    | with_reducible apply State.at_kept
    | with_reducible apply State.cmdWrite_kept

theorem execAdmissionChallenge_kept (t : Nat) (k : Fin 16) (bytes : List Nat) (s : State) : Answers s (execAdmissionChallenge t k bytes s) := by
  have hk := Kept.refl s
  refine ⟨_, rfl, ?_⟩
  repeat' first
    | with_reducible assumption
    | (extract_lets +onlyGivenNames x; refine Kept.cut (s₀ := s) (x := x.2) ?_ (fun hx => ?_); unfold x; clear x; rotate_left; clear_value x; rotate_right)
    | with_reducible apply Kept.ite
    | with_reducible apply State.at_kept
    | with_reducible apply State.challengeWrite_kept
    | with_reducible apply State.emit_kept

theorem execEscStateRequest_kept (t : Nat) (req : EscState) (s : State) : Answers s (execEscStateRequest t req s) := by
  have hk := Kept.refl s
  refine ⟨_, rfl, ?_⟩
  repeat' first
    | with_reducible assumption
    | with_reducible apply State.at_kept
    | with_reducible apply State.escRequest_kept

theorem execSmWatchdog_kept (t : Nat) (s : State) : Answers s (execSmWatchdog t s) := by
  have hk := Kept.refl s
  refine ⟨_, rfl, ?_⟩
  repeat' first
    | with_reducible assumption
    | with_reducible apply State.at_kept
    | with_reducible apply State.watchdog_kept

theorem execSdoInformation_kept (t : Nat) (role : Role) (s : State) : Answers s (execSdoInformation t role s) := by
  have hk := Kept.refl s
  refine ⟨_, rfl, ?_⟩
  repeat' first
    | with_reducible assumption
    | with_reducible apply Kept.ite
    | with_reducible apply State.at_kept
    | with_reducible apply State.emit_kept

theorem execProcessDataRefresh_kept (t : Nat) (outputs : List Nat) (s : State) : Answers s (execProcessDataRefresh t outputs s) := by
  have hk := Kept.refl s
  refine ⟨_, rfl, ?_⟩
  repeat' first
    | with_reducible assumption
    | with_reducible apply State.at_kept
    | with_reducible apply State.processData_kept

theorem execStoreComplete_kept (t : Nat) (s : State) : Answers s (execStoreComplete t s) := by
  have hk := Kept.refl s
  refine ⟨_, rfl, ?_⟩
  repeat' first
    | with_reducible assumption
    | with_reducible apply State.at_kept
    | with_reducible apply State.storeDone_kept

theorem execFoeSlotWrite_kept (t : Nat) (password : Nat) (k : Fin 16) (bytes : List Nat) (s : State) : Answers s (execFoeSlotWrite t password k bytes s) := by
  have hk := Kept.refl s
  refine ⟨_, rfl, ?_⟩
  repeat' first
    | with_reducible assumption
    | with_reducible apply State.at_kept
    | with_reducible apply State.foeSlot_kept

theorem execConfigRead_kept (t : Nat) (role : Role) (password : Nat) (s : State) : Answers s (execConfigRead t role password s) := by
  have hk := Kept.refl s
  refine ⟨_, rfl, ?_⟩
  repeat' first
    | with_reducible assumption
    | with_reducible apply State.at_kept
    | with_reducible apply State.configRead_kept

theorem execConfigWrite_kept (t : Nat) (role : Role) (password : Nat) (bytes : List Nat) (s : State) : Answers s (execConfigWrite t role password bytes s) := by
  have hk := Kept.refl s
  refine ⟨_, rfl, ?_⟩
  repeat' first
    | with_reducible assumption
    | with_reducible apply State.at_kept
    | with_reducible apply State.configWrite_kept

theorem execBootStageComplete_kept (t : Nat) (h : Half) (ok : Bool) (failed : List (Fin 97)) (s : State) : Answers s (execBootStageComplete t h ok failed s) := by
  have hk := Kept.refl s
  refine ⟨_, rfl, ?_⟩
  repeat' first
    | with_reducible assumption
    | with_reducible apply State.at_kept
    | with_reducible apply State.stageDone_kept

theorem execLinkCredit_kept (t : Nat) (lane : Fin 52) (f : Frame) (s : State) : Answers s (execLinkCredit t lane f s) := by
  have hk := Kept.refl s
  refine ⟨_, rfl, ?_⟩
  repeat' first
    | with_reducible assumption
    | with_reducible apply State.at_kept
    | with_reducible apply State.linkCredit_kept

theorem execCreditReturnTimer_kept (t : Nat) (lane : Fin 52) (s : State) : Answers s (execCreditReturnTimer t lane s) := by
  have hk := Kept.refl s
  refine ⟨_, rfl, ?_⟩
  repeat' first
    | with_reducible assumption
    | with_reducible apply State.at_kept
    | with_reducible apply State.creditTimer_kept

theorem execPcsLock_kept (t : Nat) (lane : Fin 52) (s : State) : Answers s (execPcsLock t lane s) := by
  have hk := Kept.refl s
  refine ⟨_, rfl, ?_⟩
  repeat' first
    | with_reducible assumption
    | with_reducible apply State.at_kept
    | with_reducible apply State.pcsLock_kept

theorem execLinkInitTimer_kept (t : Nat) (lane : Fin 52) (s : State) : Answers s (execLinkInitTimer t lane s) := by
  have hk := Kept.refl s
  refine ⟨_, rfl, ?_⟩
  repeat' first
    | with_reducible assumption
    | with_reducible apply State.at_kept
    | with_reducible apply State.initTimer_kept

theorem execLinkInit_kept (t : Nat) (lane : Fin 52) (f : Frame) (s : State) : Answers s (execLinkInit t lane f s) := by
  have hk := Kept.refl s
  refine ⟨_, rfl, ?_⟩
  repeat' first
    | with_reducible assumption
    | with_reducible apply State.at_kept
    | with_reducible apply State.linkInit_kept

theorem execLaneDown_kept (t : Nat) (lane : Fin 52) (corrected uncorrectable : Nat) (s : State) : Answers s (execLaneDown t lane corrected uncorrectable s) := by
  have hk := Kept.refl s
  refine ⟨_, rfl, ?_⟩
  repeat' first
    | with_reducible assumption
    | with_reducible apply State.at_kept
    | with_reducible apply State.codewords_kept
    | with_reducible apply State.laneFails_kept

theorem execTimeSync_kept (t : Nat) (lane : Fin 52) (f : Frame) (s : State) : Answers s (execTimeSync t lane f s) := by
  have hk := Kept.refl s
  refine ⟨_, rfl, ?_⟩
  repeat' first
    | with_reducible assumption
    | with_reducible apply State.at_kept
    | with_reducible apply State.timeSync_kept

theorem execTimeSyncExchange_kept (t : Nat) (s : State) : Answers s (execTimeSyncExchange t s) := by
  have hk := Kept.refl s
  refine ⟨_, rfl, ?_⟩
  repeat' first
    | with_reducible assumption
    | with_reducible apply State.at_kept
    | with_reducible apply State.timeExchange_kept

theorem execTimeSyncReply_kept (t : Nat) (lane : Fin 52) (f : Frame) (s : State) : Answers s (execTimeSyncReply t lane f s) := by
  have hk := Kept.refl s
  refine ⟨_, rfl, ?_⟩
  repeat' first
    | with_reducible assumption
    | with_reducible apply State.at_kept
    | with_reducible apply State.timeReply_kept

theorem execTransmitSelect_kept (t : Nat) (lane : Fin 52) (s : State) : Answers s (execTransmitSelect t lane s) := by
  have hk := Kept.refl s
  refine ⟨_, rfl, ?_⟩
  repeat' first
    | with_reducible assumption
    | with_reducible apply State.at_kept
    | with_reducible apply State.transmitSelect_kept

theorem execFramePromotion_kept (t : Nat) (lane : Fin 52) (i : Nat) (s : State) : Answers s (execFramePromotion t lane i s) := by
  have hk := Kept.refl s
  refine ⟨_, rfl, ?_⟩
  repeat' first
    | with_reducible assumption
    | with_reducible apply State.at_kept
    | with_reducible apply State.promote_kept

theorem execAck_kept (t : Nat) (lane : Fin 52) (f : Frame) (s : State) : Answers s (execAck t lane f s) := by
  have hk := Kept.refl s
  refine ⟨_, rfl, ?_⟩
  repeat' first
    | with_reducible assumption
    | with_reducible apply State.ackIn_kept
    | with_reducible apply State.at_kept

theorem execAckTimer_kept (t : Nat) (flow : Nat) (s : State) : Answers s (execAckTimer t flow s) := by
  have hk := Kept.refl s
  refine ⟨_, rfl, ?_⟩
  repeat' first
    | with_reducible assumption
    | with_reducible apply State.ackTimer_kept
    | with_reducible apply State.at_kept

theorem execFlowReset_kept (t : Nat) (lane : Fin 52) (f : Frame) (s : State) : Answers s (execFlowReset t lane f s) := by
  have hk := Kept.refl s
  refine ⟨_, rfl, ?_⟩
  repeat' first
    | with_reducible assumption
    | with_reducible apply State.at_kept
    | with_reducible apply State.flowResetIn_kept

theorem execRetryTimeout_kept (t : Nat) (flow : Nat) (seq : Nat) (s : State) : Answers s (execRetryTimeout t flow seq s) := by
  have hk := Kept.refl s
  refine ⟨_, rfl, ?_⟩
  repeat' first
    | with_reducible assumption
    | with_reducible apply State.at_kept
    | with_reducible apply State.retryDue_kept

theorem execRouteDownTimeout_kept (t : Nat) (flow : Nat) (s : State) : Answers s (execRouteDownTimeout t flow s) := by
  have hk := Kept.refl s
  refine ⟨_, rfl, ?_⟩
  repeat' first
    | with_reducible assumption
    | with_reducible apply State.at_kept
    | with_reducible apply State.routeTimeout_kept

theorem execReturnFrame_kept (t : Nat) (f : Frame) (s : State) : Answers s (execReturnFrame t f s) := by
  have hk := Kept.refl s
  refine ⟨_, rfl, ?_⟩
  repeat' first
    | with_reducible assumption
    | with_reducible apply State.at_kept
    | with_reducible apply State.returnFrame_kept

theorem execBroadcastReceive_kept (t : Nat) (lane : Fin 52) (f : Frame) (s : State) : Answers s (execBroadcastReceive t lane f s) := by
  have hk := Kept.refl s
  refine ⟨_, rfl, ?_⟩
  repeat' first
    | with_reducible assumption
    | with_reducible apply State.at_kept
    | with_reducible apply State.broadcastIn_kept

theorem execRead_kept (t : Nat) (lane : Fin 52) (f : Frame) (s : State) : Answers s (execRead t lane f s) := by
  have hk := Kept.refl s
  refine ⟨_, rfl, ?_⟩
  repeat' first
    | with_reducible assumption
    | with_reducible apply State.at_kept
    | with_reducible apply State.xferFrame_kept

theorem execWrite_kept (t : Nat) (lane : Fin 52) (fs : List Frame) (s : State) : Answers s (execWrite t lane fs s) := by
  have hk := Kept.refl s
  refine ⟨_, rfl, ?_⟩
  repeat' first
    | with_reducible assumption
    | with_reducible apply State.at_kept
    | with_reducible apply State.writeTransfer_kept

theorem execFlowFrameReceive_kept (t : Nat) (lane : Fin 52) (corrected uncorrectable : Nat) (fcsOk : Bool) (bytes : List Nat) (s : State) : Answers s (execFlowFrameReceive t lane corrected uncorrectable fcsOk bytes s) := by
  have hk := Kept.refl s
  refine ⟨_, rfl, ?_⟩
  repeat' first
    | with_reducible assumption
    | with_reducible apply State.at_kept
    | with_reducible apply State.codewords_kept
    | with_reducible apply State.rxFrame_kept

end Sys2Proof.Machine
end

