-- ==== Sys2Proof/Laws/State.lean ====
section
/-! SUPPORT. The fields that each named update of the state leaves alone, one lemma per field and update. -/

namespace Sys2Proof.Machine

/-! setNum -/

@[simp] theorem State.setNum_pending (s : State) (k : Nat) (v : Int) : (s.setNum k v).pending = s.pending := rfl
@[simp] theorem State.setNum_now (s : State) (k : Nat) (v : Int) : (s.setNum k v).now = s.now := rfl
@[simp] theorem State.setNum_blobs (s : State) (k : Nat) (v : Int) : (s.setNum k v).blobs = s.blobs := rfl
@[simp] theorem State.setNum_mode (s : State) (k : Nat) (v : Int) : (s.setNum k v).mode = s.mode := rfl
@[simp] theorem State.setNum_flt (s : State) (k : Nat) (v : Int) : (s.setNum k v).flt = s.flt := rfl
@[simp] theorem State.setNum_hold (s : State) (k : Nat) (v : Int) : (s.setNum k v).hold = s.hold := rfl
@[simp] theorem State.setNum_boot (s : State) (k : Nat) (v : Int) : (s.setNum k v).boot = s.boot := rfl
@[simp] theorem State.setNum_pins (s : State) (k : Nat) (v : Int) : (s.setNum k v).pins = s.pins := rfl
@[simp] theorem State.setNum_conv (s : State) (k : Nat) (v : Int) : (s.setNum k v).conv = s.conv := rfl
@[simp] theorem State.setNum_eng (s : State) (k : Nat) (v : Int) : (s.setNum k v).eng = s.eng := rfl
@[simp] theorem State.setNum_fc (s : State) (k : Nat) (v : Int) : (s.setNum k v).fc = s.fc := rfl
@[simp] theorem State.setNum_fab (s : State) (k : Nat) (v : Int) : (s.setNum k v).fab = s.fab := rfl
@[simp] theorem State.setNum_pool (s : State) (k : Nat) (v : Int) : (s.setNum k v).pool = s.pool := rfl
@[simp] theorem State.setNum_pecan (s : State) (k : Nat) (v : Int) : (s.setNum k v).pecan = s.pecan := rfl
@[simp] theorem State.setNum_hist (s : State) (k : Nat) (v : Int) : (s.setNum k v).hist = s.hist := rfl
@[simp] theorem State.setNum_stack (s : State) (k : Nat) (v : Int) : (s.setNum k v).stack = s.stack := rfl
@[simp] theorem State.setNum_pow (s : State) (k : Nat) (v : Int) : (s.setNum k v).pow = s.pow := rfl
@[simp] theorem State.setNum_dict (s : State) (k : Nat) (v : Int) : (s.setNum k v).dict = s.dict := rfl
@[simp] theorem State.setNum_freeCtr (s : State) (k : Nat) (v : Int) : (s.setNum k v).freeCtr = s.freeCtr := rfl
@[simp] theorem State.setNum_out (s : State) (k : Nat) (v : Int) : (s.setNum k v).out = s.out := rfl

/-! setNat -/

@[simp] theorem State.setNat_pending (s : State) (k v : Nat) : (s.setNat k v).pending = s.pending := rfl
@[simp] theorem State.setNat_now (s : State) (k v : Nat) : (s.setNat k v).now = s.now := rfl
@[simp] theorem State.setNat_blobs (s : State) (k v : Nat) : (s.setNat k v).blobs = s.blobs := rfl
@[simp] theorem State.setNat_mode (s : State) (k v : Nat) : (s.setNat k v).mode = s.mode := rfl
@[simp] theorem State.setNat_flt (s : State) (k v : Nat) : (s.setNat k v).flt = s.flt := rfl
@[simp] theorem State.setNat_hold (s : State) (k v : Nat) : (s.setNat k v).hold = s.hold := rfl
@[simp] theorem State.setNat_boot (s : State) (k v : Nat) : (s.setNat k v).boot = s.boot := rfl
@[simp] theorem State.setNat_pins (s : State) (k v : Nat) : (s.setNat k v).pins = s.pins := rfl
@[simp] theorem State.setNat_conv (s : State) (k v : Nat) : (s.setNat k v).conv = s.conv := rfl
@[simp] theorem State.setNat_eng (s : State) (k v : Nat) : (s.setNat k v).eng = s.eng := rfl
@[simp] theorem State.setNat_fc (s : State) (k v : Nat) : (s.setNat k v).fc = s.fc := rfl
@[simp] theorem State.setNat_fab (s : State) (k v : Nat) : (s.setNat k v).fab = s.fab := rfl
@[simp] theorem State.setNat_pool (s : State) (k v : Nat) : (s.setNat k v).pool = s.pool := rfl
@[simp] theorem State.setNat_pecan (s : State) (k v : Nat) : (s.setNat k v).pecan = s.pecan := rfl
@[simp] theorem State.setNat_hist (s : State) (k v : Nat) : (s.setNat k v).hist = s.hist := rfl
@[simp] theorem State.setNat_stack (s : State) (k v : Nat) : (s.setNat k v).stack = s.stack := rfl
@[simp] theorem State.setNat_pow (s : State) (k v : Nat) : (s.setNat k v).pow = s.pow := rfl
@[simp] theorem State.setNat_dict (s : State) (k v : Nat) : (s.setNat k v).dict = s.dict := rfl
@[simp] theorem State.setNat_freeCtr (s : State) (k v : Nat) : (s.setNat k v).freeCtr = s.freeCtr := rfl
@[simp] theorem State.setNat_out (s : State) (k v : Nat) : (s.setNat k v).out = s.out := rfl

/-! count -/

@[simp] theorem State.count_pending (s : State) (k : Nat) (n : Nat) : (s.count k n).pending = s.pending := rfl
@[simp] theorem State.count_now (s : State) (k : Nat) (n : Nat) : (s.count k n).now = s.now := rfl
@[simp] theorem State.count_blobs (s : State) (k : Nat) (n : Nat) : (s.count k n).blobs = s.blobs := rfl
@[simp] theorem State.count_mode (s : State) (k : Nat) (n : Nat) : (s.count k n).mode = s.mode := rfl
@[simp] theorem State.count_flt (s : State) (k : Nat) (n : Nat) : (s.count k n).flt = s.flt := rfl
@[simp] theorem State.count_hold (s : State) (k : Nat) (n : Nat) : (s.count k n).hold = s.hold := rfl
@[simp] theorem State.count_boot (s : State) (k : Nat) (n : Nat) : (s.count k n).boot = s.boot := rfl
@[simp] theorem State.count_pins (s : State) (k : Nat) (n : Nat) : (s.count k n).pins = s.pins := rfl
@[simp] theorem State.count_conv (s : State) (k : Nat) (n : Nat) : (s.count k n).conv = s.conv := rfl
@[simp] theorem State.count_eng (s : State) (k : Nat) (n : Nat) : (s.count k n).eng = s.eng := rfl
@[simp] theorem State.count_fc (s : State) (k : Nat) (n : Nat) : (s.count k n).fc = s.fc := rfl
@[simp] theorem State.count_fab (s : State) (k : Nat) (n : Nat) : (s.count k n).fab = s.fab := rfl
@[simp] theorem State.count_pool (s : State) (k : Nat) (n : Nat) : (s.count k n).pool = s.pool := rfl
@[simp] theorem State.count_pecan (s : State) (k : Nat) (n : Nat) : (s.count k n).pecan = s.pecan := rfl
@[simp] theorem State.count_hist (s : State) (k : Nat) (n : Nat) : (s.count k n).hist = s.hist := rfl
@[simp] theorem State.count_stack (s : State) (k : Nat) (n : Nat) : (s.count k n).stack = s.stack := rfl
@[simp] theorem State.count_pow (s : State) (k : Nat) (n : Nat) : (s.count k n).pow = s.pow := rfl
@[simp] theorem State.count_dict (s : State) (k : Nat) (n : Nat) : (s.count k n).dict = s.dict := rfl
@[simp] theorem State.count_freeCtr (s : State) (k : Nat) (n : Nat) : (s.count k n).freeCtr = s.freeCtr := rfl
@[simp] theorem State.count_out (s : State) (k : Nat) (n : Nat) : (s.count k n).out = s.out := rfl

/-! count64 -/

@[simp] theorem State.count64_pending (s : State) (k : Nat) (n : Nat) : (s.count64 k n).pending = s.pending := rfl
@[simp] theorem State.count64_now (s : State) (k : Nat) (n : Nat) : (s.count64 k n).now = s.now := rfl
@[simp] theorem State.count64_blobs (s : State) (k : Nat) (n : Nat) : (s.count64 k n).blobs = s.blobs := rfl
@[simp] theorem State.count64_mode (s : State) (k : Nat) (n : Nat) : (s.count64 k n).mode = s.mode := rfl
@[simp] theorem State.count64_flt (s : State) (k : Nat) (n : Nat) : (s.count64 k n).flt = s.flt := rfl
@[simp] theorem State.count64_hold (s : State) (k : Nat) (n : Nat) : (s.count64 k n).hold = s.hold := rfl
@[simp] theorem State.count64_boot (s : State) (k : Nat) (n : Nat) : (s.count64 k n).boot = s.boot := rfl
@[simp] theorem State.count64_pins (s : State) (k : Nat) (n : Nat) : (s.count64 k n).pins = s.pins := rfl
@[simp] theorem State.count64_conv (s : State) (k : Nat) (n : Nat) : (s.count64 k n).conv = s.conv := rfl
@[simp] theorem State.count64_eng (s : State) (k : Nat) (n : Nat) : (s.count64 k n).eng = s.eng := rfl
@[simp] theorem State.count64_fc (s : State) (k : Nat) (n : Nat) : (s.count64 k n).fc = s.fc := rfl
@[simp] theorem State.count64_fab (s : State) (k : Nat) (n : Nat) : (s.count64 k n).fab = s.fab := rfl
@[simp] theorem State.count64_pool (s : State) (k : Nat) (n : Nat) : (s.count64 k n).pool = s.pool := rfl
@[simp] theorem State.count64_pecan (s : State) (k : Nat) (n : Nat) : (s.count64 k n).pecan = s.pecan := rfl
@[simp] theorem State.count64_hist (s : State) (k : Nat) (n : Nat) : (s.count64 k n).hist = s.hist := rfl
@[simp] theorem State.count64_stack (s : State) (k : Nat) (n : Nat) : (s.count64 k n).stack = s.stack := rfl
@[simp] theorem State.count64_pow (s : State) (k : Nat) (n : Nat) : (s.count64 k n).pow = s.pow := rfl
@[simp] theorem State.count64_dict (s : State) (k : Nat) (n : Nat) : (s.count64 k n).dict = s.dict := rfl
@[simp] theorem State.count64_freeCtr (s : State) (k : Nat) (n : Nat) : (s.count64 k n).freeCtr = s.freeCtr := rfl
@[simp] theorem State.count64_out (s : State) (k : Nat) (n : Nat) : (s.count64 k n).out = s.out := rfl

/-! setBlob -/

@[simp] theorem State.setBlob_pending (s : State) (k : Nat) (v : List Nat) : (s.setBlob k v).pending = s.pending := rfl
@[simp] theorem State.setBlob_now (s : State) (k : Nat) (v : List Nat) : (s.setBlob k v).now = s.now := rfl
@[simp] theorem State.setBlob_objs (s : State) (k : Nat) (v : List Nat) : (s.setBlob k v).objs = s.objs := rfl
@[simp] theorem State.setBlob_mode (s : State) (k : Nat) (v : List Nat) : (s.setBlob k v).mode = s.mode := rfl
@[simp] theorem State.setBlob_flt (s : State) (k : Nat) (v : List Nat) : (s.setBlob k v).flt = s.flt := rfl
@[simp] theorem State.setBlob_hold (s : State) (k : Nat) (v : List Nat) : (s.setBlob k v).hold = s.hold := rfl
@[simp] theorem State.setBlob_boot (s : State) (k : Nat) (v : List Nat) : (s.setBlob k v).boot = s.boot := rfl
@[simp] theorem State.setBlob_pins (s : State) (k : Nat) (v : List Nat) : (s.setBlob k v).pins = s.pins := rfl
@[simp] theorem State.setBlob_conv (s : State) (k : Nat) (v : List Nat) : (s.setBlob k v).conv = s.conv := rfl
@[simp] theorem State.setBlob_eng (s : State) (k : Nat) (v : List Nat) : (s.setBlob k v).eng = s.eng := rfl
@[simp] theorem State.setBlob_fc (s : State) (k : Nat) (v : List Nat) : (s.setBlob k v).fc = s.fc := rfl
@[simp] theorem State.setBlob_fab (s : State) (k : Nat) (v : List Nat) : (s.setBlob k v).fab = s.fab := rfl
@[simp] theorem State.setBlob_pool (s : State) (k : Nat) (v : List Nat) : (s.setBlob k v).pool = s.pool := rfl
@[simp] theorem State.setBlob_pecan (s : State) (k : Nat) (v : List Nat) : (s.setBlob k v).pecan = s.pecan := rfl
@[simp] theorem State.setBlob_hist (s : State) (k : Nat) (v : List Nat) : (s.setBlob k v).hist = s.hist := rfl
@[simp] theorem State.setBlob_stack (s : State) (k : Nat) (v : List Nat) : (s.setBlob k v).stack = s.stack := rfl
@[simp] theorem State.setBlob_pow (s : State) (k : Nat) (v : List Nat) : (s.setBlob k v).pow = s.pow := rfl
@[simp] theorem State.setBlob_dict (s : State) (k : Nat) (v : List Nat) : (s.setBlob k v).dict = s.dict := rfl
@[simp] theorem State.setBlob_freeCtr (s : State) (k : Nat) (v : List Nat) : (s.setBlob k v).freeCtr = s.freeCtr := rfl
@[simp] theorem State.setBlob_out (s : State) (k : Nat) (v : List Nat) : (s.setBlob k v).out = s.out := rfl

/-! at -/

@[simp] theorem State.at_pending (s : State) (t : Nat) : (s.at t).pending = s.pending := rfl
@[simp] theorem State.at_objs (s : State) (t : Nat) : (s.at t).objs = s.objs := rfl
@[simp] theorem State.at_blobs (s : State) (t : Nat) : (s.at t).blobs = s.blobs := rfl
@[simp] theorem State.at_mode (s : State) (t : Nat) : (s.at t).mode = s.mode := rfl
@[simp] theorem State.at_flt (s : State) (t : Nat) : (s.at t).flt = s.flt := rfl
@[simp] theorem State.at_hold (s : State) (t : Nat) : (s.at t).hold = s.hold := rfl
@[simp] theorem State.at_boot (s : State) (t : Nat) : (s.at t).boot = s.boot := rfl
@[simp] theorem State.at_pins (s : State) (t : Nat) : (s.at t).pins = s.pins := rfl
@[simp] theorem State.at_conv (s : State) (t : Nat) : (s.at t).conv = s.conv := rfl
@[simp] theorem State.at_eng (s : State) (t : Nat) : (s.at t).eng = s.eng := rfl
@[simp] theorem State.at_fc (s : State) (t : Nat) : (s.at t).fc = s.fc := rfl
@[simp] theorem State.at_fab (s : State) (t : Nat) : (s.at t).fab = s.fab := rfl
@[simp] theorem State.at_pool (s : State) (t : Nat) : (s.at t).pool = s.pool := rfl
@[simp] theorem State.at_pecan (s : State) (t : Nat) : (s.at t).pecan = s.pecan := rfl
@[simp] theorem State.at_hist (s : State) (t : Nat) : (s.at t).hist = s.hist := rfl
@[simp] theorem State.at_stack (s : State) (t : Nat) : (s.at t).stack = s.stack := rfl
@[simp] theorem State.at_pow (s : State) (t : Nat) : (s.at t).pow = s.pow := rfl
@[simp] theorem State.at_dict (s : State) (t : Nat) : (s.at t).dict = s.dict := rfl
@[simp] theorem State.at_freeCtr (s : State) (t : Nat) : (s.at t).freeCtr = s.freeCtr := rfl
@[simp] theorem State.at_out (s : State) (t : Nat) : (s.at t).out = s.out := rfl

/-! emit -/

@[simp] theorem State.emit_pending (s : State) (o : Output) : (s.emit o).pending = s.pending := rfl
@[simp] theorem State.emit_now (s : State) (o : Output) : (s.emit o).now = s.now := rfl
@[simp] theorem State.emit_objs (s : State) (o : Output) : (s.emit o).objs = s.objs := rfl
@[simp] theorem State.emit_blobs (s : State) (o : Output) : (s.emit o).blobs = s.blobs := rfl
@[simp] theorem State.emit_mode (s : State) (o : Output) : (s.emit o).mode = s.mode := rfl
@[simp] theorem State.emit_flt (s : State) (o : Output) : (s.emit o).flt = s.flt := rfl
@[simp] theorem State.emit_hold (s : State) (o : Output) : (s.emit o).hold = s.hold := rfl
@[simp] theorem State.emit_boot (s : State) (o : Output) : (s.emit o).boot = s.boot := rfl
@[simp] theorem State.emit_pins (s : State) (o : Output) : (s.emit o).pins = s.pins := rfl
@[simp] theorem State.emit_conv (s : State) (o : Output) : (s.emit o).conv = s.conv := rfl
@[simp] theorem State.emit_eng (s : State) (o : Output) : (s.emit o).eng = s.eng := rfl
@[simp] theorem State.emit_fc (s : State) (o : Output) : (s.emit o).fc = s.fc := rfl
@[simp] theorem State.emit_fab (s : State) (o : Output) : (s.emit o).fab = s.fab := rfl
@[simp] theorem State.emit_pool (s : State) (o : Output) : (s.emit o).pool = s.pool := rfl
@[simp] theorem State.emit_pecan (s : State) (o : Output) : (s.emit o).pecan = s.pecan := rfl
@[simp] theorem State.emit_hist (s : State) (o : Output) : (s.emit o).hist = s.hist := rfl
@[simp] theorem State.emit_stack (s : State) (o : Output) : (s.emit o).stack = s.stack := rfl
@[simp] theorem State.emit_pow (s : State) (o : Output) : (s.emit o).pow = s.pow := rfl
@[simp] theorem State.emit_dict (s : State) (o : Output) : (s.emit o).dict = s.dict := rfl
@[simp] theorem State.emit_freeCtr (s : State) (o : Output) : (s.emit o).freeCtr = s.freeCtr := rfl

/-! setStr -/

@[simp] theorem State.setStr_pending (s : State) (k : Nat) (v : StringSt) : (s.setStr k v).pending = s.pending := by unfold State.setStr; split <;> rfl
@[simp] theorem State.setStr_now (s : State) (k : Nat) (v : StringSt) : (s.setStr k v).now = s.now := by unfold State.setStr; split <;> rfl
@[simp] theorem State.setStr_objs (s : State) (k : Nat) (v : StringSt) : (s.setStr k v).objs = s.objs := by unfold State.setStr; split <;> rfl
@[simp] theorem State.setStr_blobs (s : State) (k : Nat) (v : StringSt) : (s.setStr k v).blobs = s.blobs := by unfold State.setStr; split <;> rfl
@[simp] theorem State.setStr_mode (s : State) (k : Nat) (v : StringSt) : (s.setStr k v).mode = s.mode := by unfold State.setStr; split <;> rfl
@[simp] theorem State.setStr_flt (s : State) (k : Nat) (v : StringSt) : (s.setStr k v).flt = s.flt := by unfold State.setStr; split <;> rfl
@[simp] theorem State.setStr_hold (s : State) (k : Nat) (v : StringSt) : (s.setStr k v).hold = s.hold := by unfold State.setStr; split <;> rfl
@[simp] theorem State.setStr_boot (s : State) (k : Nat) (v : StringSt) : (s.setStr k v).boot = s.boot := by unfold State.setStr; split <;> rfl
@[simp] theorem State.setStr_pins (s : State) (k : Nat) (v : StringSt) : (s.setStr k v).pins = s.pins := by unfold State.setStr; split <;> rfl
@[simp] theorem State.setStr_eng (s : State) (k : Nat) (v : StringSt) : (s.setStr k v).eng = s.eng := by unfold State.setStr; split <;> rfl
@[simp] theorem State.setStr_fc (s : State) (k : Nat) (v : StringSt) : (s.setStr k v).fc = s.fc := by unfold State.setStr; split <;> rfl
@[simp] theorem State.setStr_fab (s : State) (k : Nat) (v : StringSt) : (s.setStr k v).fab = s.fab := by unfold State.setStr; split <;> rfl
@[simp] theorem State.setStr_pool (s : State) (k : Nat) (v : StringSt) : (s.setStr k v).pool = s.pool := by unfold State.setStr; split <;> rfl
@[simp] theorem State.setStr_pecan (s : State) (k : Nat) (v : StringSt) : (s.setStr k v).pecan = s.pecan := by unfold State.setStr; split <;> rfl
@[simp] theorem State.setStr_hist (s : State) (k : Nat) (v : StringSt) : (s.setStr k v).hist = s.hist := by unfold State.setStr; split <;> rfl
@[simp] theorem State.setStr_stack (s : State) (k : Nat) (v : StringSt) : (s.setStr k v).stack = s.stack := by unfold State.setStr; split <;> rfl
@[simp] theorem State.setStr_pow (s : State) (k : Nat) (v : StringSt) : (s.setStr k v).pow = s.pow := by unfold State.setStr; split <;> rfl
@[simp] theorem State.setStr_dict (s : State) (k : Nat) (v : StringSt) : (s.setStr k v).dict = s.dict := by unfold State.setStr; split <;> rfl
@[simp] theorem State.setStr_freeCtr (s : State) (k : Nat) (v : StringSt) : (s.setStr k v).freeCtr = s.freeCtr := by unfold State.setStr; split <;> rfl
@[simp] theorem State.setStr_out (s : State) (k : Nat) (v : StringSt) : (s.setStr k v).out = s.out := by unfold State.setStr; split <;> rfl

/-! setPhase -/

@[simp] theorem State.setPhase_pending (s : State) (n : Nat) (p : PhaseSt) : (s.setPhase n p).pending = s.pending := rfl
@[simp] theorem State.setPhase_now (s : State) (n : Nat) (p : PhaseSt) : (s.setPhase n p).now = s.now := rfl
@[simp] theorem State.setPhase_objs (s : State) (n : Nat) (p : PhaseSt) : (s.setPhase n p).objs = s.objs := rfl
@[simp] theorem State.setPhase_blobs (s : State) (n : Nat) (p : PhaseSt) : (s.setPhase n p).blobs = s.blobs := rfl
@[simp] theorem State.setPhase_mode (s : State) (n : Nat) (p : PhaseSt) : (s.setPhase n p).mode = s.mode := rfl
@[simp] theorem State.setPhase_flt (s : State) (n : Nat) (p : PhaseSt) : (s.setPhase n p).flt = s.flt := rfl
@[simp] theorem State.setPhase_hold (s : State) (n : Nat) (p : PhaseSt) : (s.setPhase n p).hold = s.hold := rfl
@[simp] theorem State.setPhase_boot (s : State) (n : Nat) (p : PhaseSt) : (s.setPhase n p).boot = s.boot := rfl
@[simp] theorem State.setPhase_pins (s : State) (n : Nat) (p : PhaseSt) : (s.setPhase n p).pins = s.pins := rfl
@[simp] theorem State.setPhase_eng (s : State) (n : Nat) (p : PhaseSt) : (s.setPhase n p).eng = s.eng := rfl
@[simp] theorem State.setPhase_fc (s : State) (n : Nat) (p : PhaseSt) : (s.setPhase n p).fc = s.fc := rfl
@[simp] theorem State.setPhase_fab (s : State) (n : Nat) (p : PhaseSt) : (s.setPhase n p).fab = s.fab := rfl
@[simp] theorem State.setPhase_pool (s : State) (n : Nat) (p : PhaseSt) : (s.setPhase n p).pool = s.pool := rfl
@[simp] theorem State.setPhase_pecan (s : State) (n : Nat) (p : PhaseSt) : (s.setPhase n p).pecan = s.pecan := rfl
@[simp] theorem State.setPhase_hist (s : State) (n : Nat) (p : PhaseSt) : (s.setPhase n p).hist = s.hist := rfl
@[simp] theorem State.setPhase_stack (s : State) (n : Nat) (p : PhaseSt) : (s.setPhase n p).stack = s.stack := rfl
@[simp] theorem State.setPhase_pow (s : State) (n : Nat) (p : PhaseSt) : (s.setPhase n p).pow = s.pow := rfl
@[simp] theorem State.setPhase_dict (s : State) (n : Nat) (p : PhaseSt) : (s.setPhase n p).dict = s.dict := rfl
@[simp] theorem State.setPhase_freeCtr (s : State) (n : Nat) (p : PhaseSt) : (s.setPhase n p).freeCtr = s.freeCtr := rfl
@[simp] theorem State.setPhase_out (s : State) (n : Nat) (p : PhaseSt) : (s.setPhase n p).out = s.out := rfl

/-! setRing -/

@[simp] theorem State.setRing_pending (s : State) (k : Nat) (r : RingSt) : (s.setRing k r).pending = s.pending := by unfold State.setRing; split <;> rfl
@[simp] theorem State.setRing_now (s : State) (k : Nat) (r : RingSt) : (s.setRing k r).now = s.now := by unfold State.setRing; split <;> rfl
@[simp] theorem State.setRing_objs (s : State) (k : Nat) (r : RingSt) : (s.setRing k r).objs = s.objs := by unfold State.setRing; split <;> rfl
@[simp] theorem State.setRing_blobs (s : State) (k : Nat) (r : RingSt) : (s.setRing k r).blobs = s.blobs := by unfold State.setRing; split <;> rfl
@[simp] theorem State.setRing_mode (s : State) (k : Nat) (r : RingSt) : (s.setRing k r).mode = s.mode := by unfold State.setRing; split <;> rfl
@[simp] theorem State.setRing_flt (s : State) (k : Nat) (r : RingSt) : (s.setRing k r).flt = s.flt := by unfold State.setRing; split <;> rfl
@[simp] theorem State.setRing_hold (s : State) (k : Nat) (r : RingSt) : (s.setRing k r).hold = s.hold := by unfold State.setRing; split <;> rfl
@[simp] theorem State.setRing_boot (s : State) (k : Nat) (r : RingSt) : (s.setRing k r).boot = s.boot := by unfold State.setRing; split <;> rfl
@[simp] theorem State.setRing_pins (s : State) (k : Nat) (r : RingSt) : (s.setRing k r).pins = s.pins := by unfold State.setRing; split <;> rfl
@[simp] theorem State.setRing_conv (s : State) (k : Nat) (r : RingSt) : (s.setRing k r).conv = s.conv := by unfold State.setRing; split <;> rfl
@[simp] theorem State.setRing_eng (s : State) (k : Nat) (r : RingSt) : (s.setRing k r).eng = s.eng := by unfold State.setRing; split <;> rfl
@[simp] theorem State.setRing_fc (s : State) (k : Nat) (r : RingSt) : (s.setRing k r).fc = s.fc := by unfold State.setRing; split <;> rfl
@[simp] theorem State.setRing_fab (s : State) (k : Nat) (r : RingSt) : (s.setRing k r).fab = s.fab := by unfold State.setRing; split <;> rfl
@[simp] theorem State.setRing_pool (s : State) (k : Nat) (r : RingSt) : (s.setRing k r).pool = s.pool := by unfold State.setRing; split <;> rfl
@[simp] theorem State.setRing_pecan (s : State) (k : Nat) (r : RingSt) : (s.setRing k r).pecan = s.pecan := by unfold State.setRing; split <;> rfl
@[simp] theorem State.setRing_hist (s : State) (k : Nat) (r : RingSt) : (s.setRing k r).hist = s.hist := by unfold State.setRing; split <;> rfl
@[simp] theorem State.setRing_pow (s : State) (k : Nat) (r : RingSt) : (s.setRing k r).pow = s.pow := by unfold State.setRing; split <;> rfl
@[simp] theorem State.setRing_dict (s : State) (k : Nat) (r : RingSt) : (s.setRing k r).dict = s.dict := by unfold State.setRing; split <;> rfl
@[simp] theorem State.setRing_freeCtr (s : State) (k : Nat) (r : RingSt) : (s.setRing k r).freeCtr = s.freeCtr := by unfold State.setRing; split <;> rfl
@[simp] theorem State.setRing_out (s : State) (k : Nat) (r : RingSt) : (s.setRing k r).out = s.out := by unfold State.setRing; split <;> rfl

/-! setEstStr -/

@[simp] theorem State.setEstStr_pending (s : State) (k : Nat) (e : EstString) : (s.setEstStr k e).pending = s.pending := by unfold State.setEstStr; split <;> rfl
@[simp] theorem State.setEstStr_now (s : State) (k : Nat) (e : EstString) : (s.setEstStr k e).now = s.now := by unfold State.setEstStr; split <;> rfl
@[simp] theorem State.setEstStr_objs (s : State) (k : Nat) (e : EstString) : (s.setEstStr k e).objs = s.objs := by unfold State.setEstStr; split <;> rfl
@[simp] theorem State.setEstStr_blobs (s : State) (k : Nat) (e : EstString) : (s.setEstStr k e).blobs = s.blobs := by unfold State.setEstStr; split <;> rfl
@[simp] theorem State.setEstStr_mode (s : State) (k : Nat) (e : EstString) : (s.setEstStr k e).mode = s.mode := by unfold State.setEstStr; split <;> rfl
@[simp] theorem State.setEstStr_flt (s : State) (k : Nat) (e : EstString) : (s.setEstStr k e).flt = s.flt := by unfold State.setEstStr; split <;> rfl
@[simp] theorem State.setEstStr_hold (s : State) (k : Nat) (e : EstString) : (s.setEstStr k e).hold = s.hold := by unfold State.setEstStr; split <;> rfl
@[simp] theorem State.setEstStr_boot (s : State) (k : Nat) (e : EstString) : (s.setEstStr k e).boot = s.boot := by unfold State.setEstStr; split <;> rfl
@[simp] theorem State.setEstStr_pins (s : State) (k : Nat) (e : EstString) : (s.setEstStr k e).pins = s.pins := by unfold State.setEstStr; split <;> rfl
@[simp] theorem State.setEstStr_conv (s : State) (k : Nat) (e : EstString) : (s.setEstStr k e).conv = s.conv := by unfold State.setEstStr; split <;> rfl
@[simp] theorem State.setEstStr_eng (s : State) (k : Nat) (e : EstString) : (s.setEstStr k e).eng = s.eng := by unfold State.setEstStr; split <;> rfl
@[simp] theorem State.setEstStr_fc (s : State) (k : Nat) (e : EstString) : (s.setEstStr k e).fc = s.fc := by unfold State.setEstStr; split <;> rfl
@[simp] theorem State.setEstStr_fab (s : State) (k : Nat) (e : EstString) : (s.setEstStr k e).fab = s.fab := by unfold State.setEstStr; split <;> rfl
@[simp] theorem State.setEstStr_pool (s : State) (k : Nat) (e : EstString) : (s.setEstStr k e).pool = s.pool := by unfold State.setEstStr; split <;> rfl
@[simp] theorem State.setEstStr_pecan (s : State) (k : Nat) (e : EstString) : (s.setEstStr k e).pecan = s.pecan := by unfold State.setEstStr; split <;> rfl
@[simp] theorem State.setEstStr_hist (s : State) (k : Nat) (e : EstString) : (s.setEstStr k e).hist = s.hist := by unfold State.setEstStr; split <;> rfl
@[simp] theorem State.setEstStr_pow (s : State) (k : Nat) (e : EstString) : (s.setEstStr k e).pow = s.pow := by unfold State.setEstStr; split <;> rfl
@[simp] theorem State.setEstStr_dict (s : State) (k : Nat) (e : EstString) : (s.setEstStr k e).dict = s.dict := by unfold State.setEstStr; split <;> rfl
@[simp] theorem State.setEstStr_freeCtr (s : State) (k : Nat) (e : EstString) : (s.setEstStr k e).freeCtr = s.freeCtr := by unfold State.setEstStr; split <;> rfl
@[simp] theorem State.setEstStr_out (s : State) (k : Nat) (e : EstString) : (s.setEstStr k e).out = s.out := by unfold State.setEstStr; split <;> rfl

/-! setBus -/

@[simp] theorem State.setBus_pending (s : State) (b : Nat) (v : BusSt) : (s.setBus b v).pending = s.pending := by unfold State.setBus; split <;> rfl
@[simp] theorem State.setBus_now (s : State) (b : Nat) (v : BusSt) : (s.setBus b v).now = s.now := by unfold State.setBus; split <;> rfl
@[simp] theorem State.setBus_objs (s : State) (b : Nat) (v : BusSt) : (s.setBus b v).objs = s.objs := by unfold State.setBus; split <;> rfl
@[simp] theorem State.setBus_blobs (s : State) (b : Nat) (v : BusSt) : (s.setBus b v).blobs = s.blobs := by unfold State.setBus; split <;> rfl
@[simp] theorem State.setBus_mode (s : State) (b : Nat) (v : BusSt) : (s.setBus b v).mode = s.mode := by unfold State.setBus; split <;> rfl
@[simp] theorem State.setBus_flt (s : State) (b : Nat) (v : BusSt) : (s.setBus b v).flt = s.flt := by unfold State.setBus; split <;> rfl
@[simp] theorem State.setBus_hold (s : State) (b : Nat) (v : BusSt) : (s.setBus b v).hold = s.hold := by unfold State.setBus; split <;> rfl
@[simp] theorem State.setBus_boot (s : State) (b : Nat) (v : BusSt) : (s.setBus b v).boot = s.boot := by unfold State.setBus; split <;> rfl
@[simp] theorem State.setBus_pins (s : State) (b : Nat) (v : BusSt) : (s.setBus b v).pins = s.pins := by unfold State.setBus; split <;> rfl
@[simp] theorem State.setBus_conv (s : State) (b : Nat) (v : BusSt) : (s.setBus b v).conv = s.conv := by unfold State.setBus; split <;> rfl
@[simp] theorem State.setBus_fc (s : State) (b : Nat) (v : BusSt) : (s.setBus b v).fc = s.fc := by unfold State.setBus; split <;> rfl
@[simp] theorem State.setBus_fab (s : State) (b : Nat) (v : BusSt) : (s.setBus b v).fab = s.fab := by unfold State.setBus; split <;> rfl
@[simp] theorem State.setBus_pool (s : State) (b : Nat) (v : BusSt) : (s.setBus b v).pool = s.pool := by unfold State.setBus; split <;> rfl
@[simp] theorem State.setBus_pecan (s : State) (b : Nat) (v : BusSt) : (s.setBus b v).pecan = s.pecan := by unfold State.setBus; split <;> rfl
@[simp] theorem State.setBus_hist (s : State) (b : Nat) (v : BusSt) : (s.setBus b v).hist = s.hist := by unfold State.setBus; split <;> rfl
@[simp] theorem State.setBus_stack (s : State) (b : Nat) (v : BusSt) : (s.setBus b v).stack = s.stack := by unfold State.setBus; split <;> rfl
@[simp] theorem State.setBus_pow (s : State) (b : Nat) (v : BusSt) : (s.setBus b v).pow = s.pow := by unfold State.setBus; split <;> rfl
@[simp] theorem State.setBus_dict (s : State) (b : Nat) (v : BusSt) : (s.setBus b v).dict = s.dict := by unfold State.setBus; split <;> rfl
@[simp] theorem State.setBus_freeCtr (s : State) (b : Nat) (v : BusSt) : (s.setBus b v).freeCtr = s.freeCtr := by unfold State.setBus; split <;> rfl
@[simp] theorem State.setBus_out (s : State) (b : Nat) (v : BusSt) : (s.setBus b v).out = s.out := by unfold State.setBus; split <;> rfl

/-! setInst -/

@[simp] theorem State.setInst_pending (s : State) (i : Nat) (v : Inst) : (s.setInst i v).pending = s.pending := rfl
@[simp] theorem State.setInst_now (s : State) (i : Nat) (v : Inst) : (s.setInst i v).now = s.now := rfl
@[simp] theorem State.setInst_objs (s : State) (i : Nat) (v : Inst) : (s.setInst i v).objs = s.objs := rfl
@[simp] theorem State.setInst_blobs (s : State) (i : Nat) (v : Inst) : (s.setInst i v).blobs = s.blobs := rfl
@[simp] theorem State.setInst_mode (s : State) (i : Nat) (v : Inst) : (s.setInst i v).mode = s.mode := rfl
@[simp] theorem State.setInst_flt (s : State) (i : Nat) (v : Inst) : (s.setInst i v).flt = s.flt := rfl
@[simp] theorem State.setInst_hold (s : State) (i : Nat) (v : Inst) : (s.setInst i v).hold = s.hold := rfl
@[simp] theorem State.setInst_boot (s : State) (i : Nat) (v : Inst) : (s.setInst i v).boot = s.boot := rfl
@[simp] theorem State.setInst_pins (s : State) (i : Nat) (v : Inst) : (s.setInst i v).pins = s.pins := rfl
@[simp] theorem State.setInst_conv (s : State) (i : Nat) (v : Inst) : (s.setInst i v).conv = s.conv := rfl
@[simp] theorem State.setInst_fc (s : State) (i : Nat) (v : Inst) : (s.setInst i v).fc = s.fc := rfl
@[simp] theorem State.setInst_fab (s : State) (i : Nat) (v : Inst) : (s.setInst i v).fab = s.fab := rfl
@[simp] theorem State.setInst_pool (s : State) (i : Nat) (v : Inst) : (s.setInst i v).pool = s.pool := rfl
@[simp] theorem State.setInst_pecan (s : State) (i : Nat) (v : Inst) : (s.setInst i v).pecan = s.pecan := rfl
@[simp] theorem State.setInst_hist (s : State) (i : Nat) (v : Inst) : (s.setInst i v).hist = s.hist := rfl
@[simp] theorem State.setInst_stack (s : State) (i : Nat) (v : Inst) : (s.setInst i v).stack = s.stack := rfl
@[simp] theorem State.setInst_pow (s : State) (i : Nat) (v : Inst) : (s.setInst i v).pow = s.pow := rfl
@[simp] theorem State.setInst_dict (s : State) (i : Nat) (v : Inst) : (s.setInst i v).dict = s.dict := rfl
@[simp] theorem State.setInst_freeCtr (s : State) (i : Nat) (v : Inst) : (s.setInst i v).freeCtr = s.freeCtr := rfl
@[simp] theorem State.setInst_out (s : State) (i : Nat) (v : Inst) : (s.setInst i v).out = s.out := rfl

/-! setLane -/

@[simp] theorem State.setLane_pending (s : State) (n : Nat) (l : LaneSt) : (s.setLane n l).pending = s.pending := rfl
@[simp] theorem State.setLane_now (s : State) (n : Nat) (l : LaneSt) : (s.setLane n l).now = s.now := rfl
@[simp] theorem State.setLane_objs (s : State) (n : Nat) (l : LaneSt) : (s.setLane n l).objs = s.objs := rfl
@[simp] theorem State.setLane_blobs (s : State) (n : Nat) (l : LaneSt) : (s.setLane n l).blobs = s.blobs := rfl
@[simp] theorem State.setLane_mode (s : State) (n : Nat) (l : LaneSt) : (s.setLane n l).mode = s.mode := rfl
@[simp] theorem State.setLane_flt (s : State) (n : Nat) (l : LaneSt) : (s.setLane n l).flt = s.flt := rfl
@[simp] theorem State.setLane_hold (s : State) (n : Nat) (l : LaneSt) : (s.setLane n l).hold = s.hold := rfl
@[simp] theorem State.setLane_boot (s : State) (n : Nat) (l : LaneSt) : (s.setLane n l).boot = s.boot := rfl
@[simp] theorem State.setLane_pins (s : State) (n : Nat) (l : LaneSt) : (s.setLane n l).pins = s.pins := rfl
@[simp] theorem State.setLane_conv (s : State) (n : Nat) (l : LaneSt) : (s.setLane n l).conv = s.conv := rfl
@[simp] theorem State.setLane_eng (s : State) (n : Nat) (l : LaneSt) : (s.setLane n l).eng = s.eng := rfl
@[simp] theorem State.setLane_fc (s : State) (n : Nat) (l : LaneSt) : (s.setLane n l).fc = s.fc := rfl
@[simp] theorem State.setLane_pool (s : State) (n : Nat) (l : LaneSt) : (s.setLane n l).pool = s.pool := rfl
@[simp] theorem State.setLane_pecan (s : State) (n : Nat) (l : LaneSt) : (s.setLane n l).pecan = s.pecan := rfl
@[simp] theorem State.setLane_hist (s : State) (n : Nat) (l : LaneSt) : (s.setLane n l).hist = s.hist := rfl
@[simp] theorem State.setLane_stack (s : State) (n : Nat) (l : LaneSt) : (s.setLane n l).stack = s.stack := rfl
@[simp] theorem State.setLane_pow (s : State) (n : Nat) (l : LaneSt) : (s.setLane n l).pow = s.pow := rfl
@[simp] theorem State.setLane_dict (s : State) (n : Nat) (l : LaneSt) : (s.setLane n l).dict = s.dict := rfl
@[simp] theorem State.setLane_freeCtr (s : State) (n : Nat) (l : LaneSt) : (s.setLane n l).freeCtr = s.freeCtr := rfl
@[simp] theorem State.setLane_out (s : State) (n : Nat) (l : LaneSt) : (s.setLane n l).out = s.out := rfl

/-! setLaneState -/

@[simp] theorem State.setLaneState_pending (s : State) (n st reason : Nat) : (s.setLaneState n st reason).pending = s.pending := rfl
@[simp] theorem State.setLaneState_now (s : State) (n st reason : Nat) : (s.setLaneState n st reason).now = s.now := rfl
@[simp] theorem State.setLaneState_blobs (s : State) (n st reason : Nat) : (s.setLaneState n st reason).blobs = s.blobs := rfl
@[simp] theorem State.setLaneState_mode (s : State) (n st reason : Nat) : (s.setLaneState n st reason).mode = s.mode := rfl
@[simp] theorem State.setLaneState_flt (s : State) (n st reason : Nat) : (s.setLaneState n st reason).flt = s.flt := rfl
@[simp] theorem State.setLaneState_hold (s : State) (n st reason : Nat) : (s.setLaneState n st reason).hold = s.hold := rfl
@[simp] theorem State.setLaneState_boot (s : State) (n st reason : Nat) : (s.setLaneState n st reason).boot = s.boot := rfl
@[simp] theorem State.setLaneState_pins (s : State) (n st reason : Nat) : (s.setLaneState n st reason).pins = s.pins := rfl
@[simp] theorem State.setLaneState_conv (s : State) (n st reason : Nat) : (s.setLaneState n st reason).conv = s.conv := rfl
@[simp] theorem State.setLaneState_eng (s : State) (n st reason : Nat) : (s.setLaneState n st reason).eng = s.eng := rfl
@[simp] theorem State.setLaneState_fc (s : State) (n st reason : Nat) : (s.setLaneState n st reason).fc = s.fc := rfl
@[simp] theorem State.setLaneState_fab (s : State) (n st reason : Nat) : (s.setLaneState n st reason).fab = s.fab := rfl
@[simp] theorem State.setLaneState_pool (s : State) (n st reason : Nat) : (s.setLaneState n st reason).pool = s.pool := rfl
@[simp] theorem State.setLaneState_pecan (s : State) (n st reason : Nat) : (s.setLaneState n st reason).pecan = s.pecan := rfl
@[simp] theorem State.setLaneState_hist (s : State) (n st reason : Nat) : (s.setLaneState n st reason).hist = s.hist := rfl
@[simp] theorem State.setLaneState_stack (s : State) (n st reason : Nat) : (s.setLaneState n st reason).stack = s.stack := rfl
@[simp] theorem State.setLaneState_pow (s : State) (n st reason : Nat) : (s.setLaneState n st reason).pow = s.pow := rfl
@[simp] theorem State.setLaneState_dict (s : State) (n st reason : Nat) : (s.setLaneState n st reason).dict = s.dict := rfl
@[simp] theorem State.setLaneState_freeCtr (s : State) (n st reason : Nat) : (s.setLaneState n st reason).freeCtr = s.freeCtr := rfl
@[simp] theorem State.setLaneState_out (s : State) (n st reason : Nat) : (s.setLaneState n st reason).out = s.out := rfl

/-! setFlow -/

@[simp] theorem State.setFlow_pending (s : State) (k : Nat) (f : FlowSt) : (s.setFlow k f).pending = s.pending := rfl
@[simp] theorem State.setFlow_now (s : State) (k : Nat) (f : FlowSt) : (s.setFlow k f).now = s.now := rfl
@[simp] theorem State.setFlow_objs (s : State) (k : Nat) (f : FlowSt) : (s.setFlow k f).objs = s.objs := rfl
@[simp] theorem State.setFlow_blobs (s : State) (k : Nat) (f : FlowSt) : (s.setFlow k f).blobs = s.blobs := rfl
@[simp] theorem State.setFlow_mode (s : State) (k : Nat) (f : FlowSt) : (s.setFlow k f).mode = s.mode := rfl
@[simp] theorem State.setFlow_flt (s : State) (k : Nat) (f : FlowSt) : (s.setFlow k f).flt = s.flt := rfl
@[simp] theorem State.setFlow_hold (s : State) (k : Nat) (f : FlowSt) : (s.setFlow k f).hold = s.hold := rfl
@[simp] theorem State.setFlow_boot (s : State) (k : Nat) (f : FlowSt) : (s.setFlow k f).boot = s.boot := rfl
@[simp] theorem State.setFlow_pins (s : State) (k : Nat) (f : FlowSt) : (s.setFlow k f).pins = s.pins := rfl
@[simp] theorem State.setFlow_conv (s : State) (k : Nat) (f : FlowSt) : (s.setFlow k f).conv = s.conv := rfl
@[simp] theorem State.setFlow_eng (s : State) (k : Nat) (f : FlowSt) : (s.setFlow k f).eng = s.eng := rfl
@[simp] theorem State.setFlow_fc (s : State) (k : Nat) (f : FlowSt) : (s.setFlow k f).fc = s.fc := rfl
@[simp] theorem State.setFlow_pool (s : State) (k : Nat) (f : FlowSt) : (s.setFlow k f).pool = s.pool := rfl
@[simp] theorem State.setFlow_pecan (s : State) (k : Nat) (f : FlowSt) : (s.setFlow k f).pecan = s.pecan := rfl
@[simp] theorem State.setFlow_hist (s : State) (k : Nat) (f : FlowSt) : (s.setFlow k f).hist = s.hist := rfl
@[simp] theorem State.setFlow_stack (s : State) (k : Nat) (f : FlowSt) : (s.setFlow k f).stack = s.stack := rfl
@[simp] theorem State.setFlow_pow (s : State) (k : Nat) (f : FlowSt) : (s.setFlow k f).pow = s.pow := rfl
@[simp] theorem State.setFlow_dict (s : State) (k : Nat) (f : FlowSt) : (s.setFlow k f).dict = s.dict := rfl
@[simp] theorem State.setFlow_freeCtr (s : State) (k : Nat) (f : FlowSt) : (s.setFlow k f).freeCtr = s.freeCtr := rfl
@[simp] theorem State.setFlow_out (s : State) (k : Nat) (f : FlowSt) : (s.setFlow k f).out = s.out := rfl

/-! setWord -/

@[simp] theorem State.setWord_pending (s : State) (w : Nat) (v : PWord) : (s.setWord w v).pending = s.pending := rfl
@[simp] theorem State.setWord_now (s : State) (w : Nat) (v : PWord) : (s.setWord w v).now = s.now := rfl
@[simp] theorem State.setWord_objs (s : State) (w : Nat) (v : PWord) : (s.setWord w v).objs = s.objs := rfl
@[simp] theorem State.setWord_blobs (s : State) (w : Nat) (v : PWord) : (s.setWord w v).blobs = s.blobs := rfl
@[simp] theorem State.setWord_mode (s : State) (w : Nat) (v : PWord) : (s.setWord w v).mode = s.mode := rfl
@[simp] theorem State.setWord_flt (s : State) (w : Nat) (v : PWord) : (s.setWord w v).flt = s.flt := rfl
@[simp] theorem State.setWord_hold (s : State) (w : Nat) (v : PWord) : (s.setWord w v).hold = s.hold := rfl
@[simp] theorem State.setWord_boot (s : State) (w : Nat) (v : PWord) : (s.setWord w v).boot = s.boot := rfl
@[simp] theorem State.setWord_pins (s : State) (w : Nat) (v : PWord) : (s.setWord w v).pins = s.pins := rfl
@[simp] theorem State.setWord_conv (s : State) (w : Nat) (v : PWord) : (s.setWord w v).conv = s.conv := rfl
@[simp] theorem State.setWord_eng (s : State) (w : Nat) (v : PWord) : (s.setWord w v).eng = s.eng := rfl
@[simp] theorem State.setWord_fc (s : State) (w : Nat) (v : PWord) : (s.setWord w v).fc = s.fc := rfl
@[simp] theorem State.setWord_fab (s : State) (w : Nat) (v : PWord) : (s.setWord w v).fab = s.fab := rfl
@[simp] theorem State.setWord_pecan (s : State) (w : Nat) (v : PWord) : (s.setWord w v).pecan = s.pecan := rfl
@[simp] theorem State.setWord_hist (s : State) (w : Nat) (v : PWord) : (s.setWord w v).hist = s.hist := rfl
@[simp] theorem State.setWord_stack (s : State) (w : Nat) (v : PWord) : (s.setWord w v).stack = s.stack := rfl
@[simp] theorem State.setWord_pow (s : State) (w : Nat) (v : PWord) : (s.setWord w v).pow = s.pow := rfl
@[simp] theorem State.setWord_dict (s : State) (w : Nat) (v : PWord) : (s.setWord w v).dict = s.dict := rfl
@[simp] theorem State.setWord_freeCtr (s : State) (w : Nat) (v : PWord) : (s.setWord w v).freeCtr = s.freeCtr := rfl
@[simp] theorem State.setWord_out (s : State) (w : Nat) (v : PWord) : (s.setWord w v).out = s.out := rfl

/-! setDesc -/

@[simp] theorem State.setDesc_pending (s : State) (v : Nat) (d : WDesc) : (s.setDesc v d).pending = s.pending := rfl
@[simp] theorem State.setDesc_now (s : State) (v : Nat) (d : WDesc) : (s.setDesc v d).now = s.now := rfl
@[simp] theorem State.setDesc_objs (s : State) (v : Nat) (d : WDesc) : (s.setDesc v d).objs = s.objs := rfl
@[simp] theorem State.setDesc_blobs (s : State) (v : Nat) (d : WDesc) : (s.setDesc v d).blobs = s.blobs := rfl
@[simp] theorem State.setDesc_mode (s : State) (v : Nat) (d : WDesc) : (s.setDesc v d).mode = s.mode := rfl
@[simp] theorem State.setDesc_flt (s : State) (v : Nat) (d : WDesc) : (s.setDesc v d).flt = s.flt := rfl
@[simp] theorem State.setDesc_hold (s : State) (v : Nat) (d : WDesc) : (s.setDesc v d).hold = s.hold := rfl
@[simp] theorem State.setDesc_boot (s : State) (v : Nat) (d : WDesc) : (s.setDesc v d).boot = s.boot := rfl
@[simp] theorem State.setDesc_pins (s : State) (v : Nat) (d : WDesc) : (s.setDesc v d).pins = s.pins := rfl
@[simp] theorem State.setDesc_conv (s : State) (v : Nat) (d : WDesc) : (s.setDesc v d).conv = s.conv := rfl
@[simp] theorem State.setDesc_eng (s : State) (v : Nat) (d : WDesc) : (s.setDesc v d).eng = s.eng := rfl
@[simp] theorem State.setDesc_fc (s : State) (v : Nat) (d : WDesc) : (s.setDesc v d).fc = s.fc := rfl
@[simp] theorem State.setDesc_fab (s : State) (v : Nat) (d : WDesc) : (s.setDesc v d).fab = s.fab := rfl
@[simp] theorem State.setDesc_pecan (s : State) (v : Nat) (d : WDesc) : (s.setDesc v d).pecan = s.pecan := rfl
@[simp] theorem State.setDesc_hist (s : State) (v : Nat) (d : WDesc) : (s.setDesc v d).hist = s.hist := rfl
@[simp] theorem State.setDesc_stack (s : State) (v : Nat) (d : WDesc) : (s.setDesc v d).stack = s.stack := rfl
@[simp] theorem State.setDesc_pow (s : State) (v : Nat) (d : WDesc) : (s.setDesc v d).pow = s.pow := rfl
@[simp] theorem State.setDesc_dict (s : State) (v : Nat) (d : WDesc) : (s.setDesc v d).dict = s.dict := rfl
@[simp] theorem State.setDesc_freeCtr (s : State) (v : Nat) (d : WDesc) : (s.setDesc v d).freeCtr = s.freeCtr := rfl
@[simp] theorem State.setDesc_out (s : State) (v : Nat) (d : WDesc) : (s.setDesc v d).out = s.out := rfl

/-! replaceWatch -/

@[simp] theorem State.replaceWatch_pending (s : State) (v : Nat) (f : Frame) : (s.replaceWatch v f).pending = s.pending := rfl
@[simp] theorem State.replaceWatch_now (s : State) (v : Nat) (f : Frame) : (s.replaceWatch v f).now = s.now := rfl
@[simp] theorem State.replaceWatch_objs (s : State) (v : Nat) (f : Frame) : (s.replaceWatch v f).objs = s.objs := rfl
@[simp] theorem State.replaceWatch_blobs (s : State) (v : Nat) (f : Frame) : (s.replaceWatch v f).blobs = s.blobs := rfl
@[simp] theorem State.replaceWatch_mode (s : State) (v : Nat) (f : Frame) : (s.replaceWatch v f).mode = s.mode := rfl
@[simp] theorem State.replaceWatch_flt (s : State) (v : Nat) (f : Frame) : (s.replaceWatch v f).flt = s.flt := rfl
@[simp] theorem State.replaceWatch_hold (s : State) (v : Nat) (f : Frame) : (s.replaceWatch v f).hold = s.hold := rfl
@[simp] theorem State.replaceWatch_boot (s : State) (v : Nat) (f : Frame) : (s.replaceWatch v f).boot = s.boot := rfl
@[simp] theorem State.replaceWatch_pins (s : State) (v : Nat) (f : Frame) : (s.replaceWatch v f).pins = s.pins := rfl
@[simp] theorem State.replaceWatch_conv (s : State) (v : Nat) (f : Frame) : (s.replaceWatch v f).conv = s.conv := rfl
@[simp] theorem State.replaceWatch_eng (s : State) (v : Nat) (f : Frame) : (s.replaceWatch v f).eng = s.eng := rfl
@[simp] theorem State.replaceWatch_fc (s : State) (v : Nat) (f : Frame) : (s.replaceWatch v f).fc = s.fc := rfl
@[simp] theorem State.replaceWatch_pool (s : State) (v : Nat) (f : Frame) : (s.replaceWatch v f).pool = s.pool := rfl
@[simp] theorem State.replaceWatch_pecan (s : State) (v : Nat) (f : Frame) : (s.replaceWatch v f).pecan = s.pecan := rfl
@[simp] theorem State.replaceWatch_hist (s : State) (v : Nat) (f : Frame) : (s.replaceWatch v f).hist = s.hist := rfl
@[simp] theorem State.replaceWatch_stack (s : State) (v : Nat) (f : Frame) : (s.replaceWatch v f).stack = s.stack := rfl
@[simp] theorem State.replaceWatch_pow (s : State) (v : Nat) (f : Frame) : (s.replaceWatch v f).pow = s.pow := rfl
@[simp] theorem State.replaceWatch_dict (s : State) (v : Nat) (f : Frame) : (s.replaceWatch v f).dict = s.dict := rfl
@[simp] theorem State.replaceWatch_freeCtr (s : State) (v : Nat) (f : Frame) : (s.replaceWatch v f).freeCtr = s.freeCtr := rfl
@[simp] theorem State.replaceWatch_out (s : State) (v : Nat) (f : Frame) : (s.replaceWatch v f).out = s.out := rfl

/-! dropWatch -/

@[simp] theorem State.dropWatch_pending (s : State) (v : Nat) : (s.dropWatch v).pending = s.pending := rfl
@[simp] theorem State.dropWatch_now (s : State) (v : Nat) : (s.dropWatch v).now = s.now := rfl
@[simp] theorem State.dropWatch_objs (s : State) (v : Nat) : (s.dropWatch v).objs = s.objs := rfl
@[simp] theorem State.dropWatch_blobs (s : State) (v : Nat) : (s.dropWatch v).blobs = s.blobs := rfl
@[simp] theorem State.dropWatch_mode (s : State) (v : Nat) : (s.dropWatch v).mode = s.mode := rfl
@[simp] theorem State.dropWatch_flt (s : State) (v : Nat) : (s.dropWatch v).flt = s.flt := rfl
@[simp] theorem State.dropWatch_hold (s : State) (v : Nat) : (s.dropWatch v).hold = s.hold := rfl
@[simp] theorem State.dropWatch_boot (s : State) (v : Nat) : (s.dropWatch v).boot = s.boot := rfl
@[simp] theorem State.dropWatch_pins (s : State) (v : Nat) : (s.dropWatch v).pins = s.pins := rfl
@[simp] theorem State.dropWatch_conv (s : State) (v : Nat) : (s.dropWatch v).conv = s.conv := rfl
@[simp] theorem State.dropWatch_eng (s : State) (v : Nat) : (s.dropWatch v).eng = s.eng := rfl
@[simp] theorem State.dropWatch_fc (s : State) (v : Nat) : (s.dropWatch v).fc = s.fc := rfl
@[simp] theorem State.dropWatch_pool (s : State) (v : Nat) : (s.dropWatch v).pool = s.pool := rfl
@[simp] theorem State.dropWatch_pecan (s : State) (v : Nat) : (s.dropWatch v).pecan = s.pecan := rfl
@[simp] theorem State.dropWatch_hist (s : State) (v : Nat) : (s.dropWatch v).hist = s.hist := rfl
@[simp] theorem State.dropWatch_stack (s : State) (v : Nat) : (s.dropWatch v).stack = s.stack := rfl
@[simp] theorem State.dropWatch_pow (s : State) (v : Nat) : (s.dropWatch v).pow = s.pow := rfl
@[simp] theorem State.dropWatch_dict (s : State) (v : Nat) : (s.dropWatch v).dict = s.dict := rfl
@[simp] theorem State.dropWatch_freeCtr (s : State) (v : Nat) : (s.dropWatch v).freeCtr = s.freeCtr := rfl
@[simp] theorem State.dropWatch_out (s : State) (v : Nat) : (s.dropWatch v).out = s.out := rfl

/-! setQueue -/

@[simp] theorem State.setQueue_pending (s : State) (b : Nat) (l : List HEntry) : (s.setQueue b l).pending = s.pending := rfl
@[simp] theorem State.setQueue_now (s : State) (b : Nat) (l : List HEntry) : (s.setQueue b l).now = s.now := rfl
@[simp] theorem State.setQueue_objs (s : State) (b : Nat) (l : List HEntry) : (s.setQueue b l).objs = s.objs := rfl
@[simp] theorem State.setQueue_blobs (s : State) (b : Nat) (l : List HEntry) : (s.setQueue b l).blobs = s.blobs := rfl
@[simp] theorem State.setQueue_mode (s : State) (b : Nat) (l : List HEntry) : (s.setQueue b l).mode = s.mode := rfl
@[simp] theorem State.setQueue_hold (s : State) (b : Nat) (l : List HEntry) : (s.setQueue b l).hold = s.hold := rfl
@[simp] theorem State.setQueue_boot (s : State) (b : Nat) (l : List HEntry) : (s.setQueue b l).boot = s.boot := rfl
@[simp] theorem State.setQueue_pins (s : State) (b : Nat) (l : List HEntry) : (s.setQueue b l).pins = s.pins := rfl
@[simp] theorem State.setQueue_conv (s : State) (b : Nat) (l : List HEntry) : (s.setQueue b l).conv = s.conv := rfl
@[simp] theorem State.setQueue_eng (s : State) (b : Nat) (l : List HEntry) : (s.setQueue b l).eng = s.eng := rfl
@[simp] theorem State.setQueue_fc (s : State) (b : Nat) (l : List HEntry) : (s.setQueue b l).fc = s.fc := rfl
@[simp] theorem State.setQueue_fab (s : State) (b : Nat) (l : List HEntry) : (s.setQueue b l).fab = s.fab := rfl
@[simp] theorem State.setQueue_pool (s : State) (b : Nat) (l : List HEntry) : (s.setQueue b l).pool = s.pool := rfl
@[simp] theorem State.setQueue_pecan (s : State) (b : Nat) (l : List HEntry) : (s.setQueue b l).pecan = s.pecan := rfl
@[simp] theorem State.setQueue_hist (s : State) (b : Nat) (l : List HEntry) : (s.setQueue b l).hist = s.hist := rfl
@[simp] theorem State.setQueue_stack (s : State) (b : Nat) (l : List HEntry) : (s.setQueue b l).stack = s.stack := rfl
@[simp] theorem State.setQueue_pow (s : State) (b : Nat) (l : List HEntry) : (s.setQueue b l).pow = s.pow := rfl
@[simp] theorem State.setQueue_dict (s : State) (b : Nat) (l : List HEntry) : (s.setQueue b l).dict = s.dict := rfl
@[simp] theorem State.setQueue_freeCtr (s : State) (b : Nat) (l : List HEntry) : (s.setQueue b l).freeCtr = s.freeCtr := rfl
@[simp] theorem State.setQueue_out (s : State) (b : Nat) (l : List HEntry) : (s.setQueue b l).out = s.out := rfl

/-! openRecovery -/

@[simp] theorem State.openRecovery_pending (s : State) (d : Nat) : (s.openRecovery d).pending = s.pending := rfl
@[simp] theorem State.openRecovery_now (s : State) (d : Nat) : (s.openRecovery d).now = s.now := rfl
@[simp] theorem State.openRecovery_objs (s : State) (d : Nat) : (s.openRecovery d).objs = s.objs := rfl
@[simp] theorem State.openRecovery_blobs (s : State) (d : Nat) : (s.openRecovery d).blobs = s.blobs := rfl
@[simp] theorem State.openRecovery_mode (s : State) (d : Nat) : (s.openRecovery d).mode = s.mode := rfl
@[simp] theorem State.openRecovery_hold (s : State) (d : Nat) : (s.openRecovery d).hold = s.hold := rfl
@[simp] theorem State.openRecovery_boot (s : State) (d : Nat) : (s.openRecovery d).boot = s.boot := rfl
@[simp] theorem State.openRecovery_pins (s : State) (d : Nat) : (s.openRecovery d).pins = s.pins := rfl
@[simp] theorem State.openRecovery_conv (s : State) (d : Nat) : (s.openRecovery d).conv = s.conv := rfl
@[simp] theorem State.openRecovery_eng (s : State) (d : Nat) : (s.openRecovery d).eng = s.eng := rfl
@[simp] theorem State.openRecovery_fc (s : State) (d : Nat) : (s.openRecovery d).fc = s.fc := rfl
@[simp] theorem State.openRecovery_fab (s : State) (d : Nat) : (s.openRecovery d).fab = s.fab := rfl
@[simp] theorem State.openRecovery_pool (s : State) (d : Nat) : (s.openRecovery d).pool = s.pool := rfl
@[simp] theorem State.openRecovery_pecan (s : State) (d : Nat) : (s.openRecovery d).pecan = s.pecan := rfl
@[simp] theorem State.openRecovery_hist (s : State) (d : Nat) : (s.openRecovery d).hist = s.hist := rfl
@[simp] theorem State.openRecovery_stack (s : State) (d : Nat) : (s.openRecovery d).stack = s.stack := rfl
@[simp] theorem State.openRecovery_pow (s : State) (d : Nat) : (s.openRecovery d).pow = s.pow := rfl
@[simp] theorem State.openRecovery_dict (s : State) (d : Nat) : (s.openRecovery d).dict = s.dict := rfl
@[simp] theorem State.openRecovery_freeCtr (s : State) (d : Nat) : (s.openRecovery d).freeCtr = s.freeCtr := rfl
@[simp] theorem State.openRecovery_out (s : State) (d : Nat) : (s.openRecovery d).out = s.out := rfl

/-! setArr -/

@[simp] theorem State.setArr_pending (s : State) (g : Nat) (a : ArrSt) : (s.setArr g a).pending = s.pending := rfl
@[simp] theorem State.setArr_now (s : State) (g : Nat) (a : ArrSt) : (s.setArr g a).now = s.now := rfl
@[simp] theorem State.setArr_objs (s : State) (g : Nat) (a : ArrSt) : (s.setArr g a).objs = s.objs := rfl
@[simp] theorem State.setArr_blobs (s : State) (g : Nat) (a : ArrSt) : (s.setArr g a).blobs = s.blobs := rfl
@[simp] theorem State.setArr_mode (s : State) (g : Nat) (a : ArrSt) : (s.setArr g a).mode = s.mode := rfl
@[simp] theorem State.setArr_flt (s : State) (g : Nat) (a : ArrSt) : (s.setArr g a).flt = s.flt := rfl
@[simp] theorem State.setArr_hold (s : State) (g : Nat) (a : ArrSt) : (s.setArr g a).hold = s.hold := rfl
@[simp] theorem State.setArr_boot (s : State) (g : Nat) (a : ArrSt) : (s.setArr g a).boot = s.boot := rfl
@[simp] theorem State.setArr_pins (s : State) (g : Nat) (a : ArrSt) : (s.setArr g a).pins = s.pins := rfl
@[simp] theorem State.setArr_conv (s : State) (g : Nat) (a : ArrSt) : (s.setArr g a).conv = s.conv := rfl
@[simp] theorem State.setArr_eng (s : State) (g : Nat) (a : ArrSt) : (s.setArr g a).eng = s.eng := rfl
@[simp] theorem State.setArr_fc (s : State) (g : Nat) (a : ArrSt) : (s.setArr g a).fc = s.fc := rfl
@[simp] theorem State.setArr_fab (s : State) (g : Nat) (a : ArrSt) : (s.setArr g a).fab = s.fab := rfl
@[simp] theorem State.setArr_pool (s : State) (g : Nat) (a : ArrSt) : (s.setArr g a).pool = s.pool := rfl
@[simp] theorem State.setArr_hist (s : State) (g : Nat) (a : ArrSt) : (s.setArr g a).hist = s.hist := rfl
@[simp] theorem State.setArr_stack (s : State) (g : Nat) (a : ArrSt) : (s.setArr g a).stack = s.stack := rfl
@[simp] theorem State.setArr_pow (s : State) (g : Nat) (a : ArrSt) : (s.setArr g a).pow = s.pow := rfl
@[simp] theorem State.setArr_dict (s : State) (g : Nat) (a : ArrSt) : (s.setArr g a).dict = s.dict := rfl
@[simp] theorem State.setArr_freeCtr (s : State) (g : Nat) (a : ArrSt) : (s.setArr g a).freeCtr = s.freeCtr := rfl
@[simp] theorem State.setArr_out (s : State) (g : Nat) (a : ArrSt) : (s.setArr g a).out = s.out := rfl

/-! setProg -/

@[simp] theorem State.setProg_pending (s : State) (h : Nat) (p : ProgSt) : (s.setProg h p).pending = s.pending := rfl
@[simp] theorem State.setProg_now (s : State) (h : Nat) (p : ProgSt) : (s.setProg h p).now = s.now := rfl
@[simp] theorem State.setProg_objs (s : State) (h : Nat) (p : ProgSt) : (s.setProg h p).objs = s.objs := rfl
@[simp] theorem State.setProg_blobs (s : State) (h : Nat) (p : ProgSt) : (s.setProg h p).blobs = s.blobs := rfl
@[simp] theorem State.setProg_mode (s : State) (h : Nat) (p : ProgSt) : (s.setProg h p).mode = s.mode := rfl
@[simp] theorem State.setProg_flt (s : State) (h : Nat) (p : ProgSt) : (s.setProg h p).flt = s.flt := rfl
@[simp] theorem State.setProg_hold (s : State) (h : Nat) (p : ProgSt) : (s.setProg h p).hold = s.hold := rfl
@[simp] theorem State.setProg_boot (s : State) (h : Nat) (p : ProgSt) : (s.setProg h p).boot = s.boot := rfl
@[simp] theorem State.setProg_pins (s : State) (h : Nat) (p : ProgSt) : (s.setProg h p).pins = s.pins := rfl
@[simp] theorem State.setProg_conv (s : State) (h : Nat) (p : ProgSt) : (s.setProg h p).conv = s.conv := rfl
@[simp] theorem State.setProg_eng (s : State) (h : Nat) (p : ProgSt) : (s.setProg h p).eng = s.eng := rfl
@[simp] theorem State.setProg_fc (s : State) (h : Nat) (p : ProgSt) : (s.setProg h p).fc = s.fc := rfl
@[simp] theorem State.setProg_fab (s : State) (h : Nat) (p : ProgSt) : (s.setProg h p).fab = s.fab := rfl
@[simp] theorem State.setProg_pool (s : State) (h : Nat) (p : ProgSt) : (s.setProg h p).pool = s.pool := rfl
@[simp] theorem State.setProg_hist (s : State) (h : Nat) (p : ProgSt) : (s.setProg h p).hist = s.hist := rfl
@[simp] theorem State.setProg_stack (s : State) (h : Nat) (p : ProgSt) : (s.setProg h p).stack = s.stack := rfl
@[simp] theorem State.setProg_pow (s : State) (h : Nat) (p : ProgSt) : (s.setProg h p).pow = s.pow := rfl
@[simp] theorem State.setProg_dict (s : State) (h : Nat) (p : ProgSt) : (s.setProg h p).dict = s.dict := rfl
@[simp] theorem State.setProg_freeCtr (s : State) (h : Nat) (p : ProgSt) : (s.setProg h p).freeCtr = s.freeCtr := rfl
@[simp] theorem State.setProg_out (s : State) (h : Nat) (p : ProgSt) : (s.setProg h p).out = s.out := rfl

/-! setSlot -/

@[simp] theorem State.setSlot_pending (s : State) (k : Nat) (v : SlotSt) : (s.setSlot k v).pending = s.pending := rfl
@[simp] theorem State.setSlot_now (s : State) (k : Nat) (v : SlotSt) : (s.setSlot k v).now = s.now := rfl
@[simp] theorem State.setSlot_objs (s : State) (k : Nat) (v : SlotSt) : (s.setSlot k v).objs = s.objs := rfl
@[simp] theorem State.setSlot_blobs (s : State) (k : Nat) (v : SlotSt) : (s.setSlot k v).blobs = s.blobs := rfl
@[simp] theorem State.setSlot_mode (s : State) (k : Nat) (v : SlotSt) : (s.setSlot k v).mode = s.mode := rfl
@[simp] theorem State.setSlot_flt (s : State) (k : Nat) (v : SlotSt) : (s.setSlot k v).flt = s.flt := rfl
@[simp] theorem State.setSlot_hold (s : State) (k : Nat) (v : SlotSt) : (s.setSlot k v).hold = s.hold := rfl
@[simp] theorem State.setSlot_boot (s : State) (k : Nat) (v : SlotSt) : (s.setSlot k v).boot = s.boot := rfl
@[simp] theorem State.setSlot_pins (s : State) (k : Nat) (v : SlotSt) : (s.setSlot k v).pins = s.pins := rfl
@[simp] theorem State.setSlot_conv (s : State) (k : Nat) (v : SlotSt) : (s.setSlot k v).conv = s.conv := rfl
@[simp] theorem State.setSlot_eng (s : State) (k : Nat) (v : SlotSt) : (s.setSlot k v).eng = s.eng := rfl
@[simp] theorem State.setSlot_fc (s : State) (k : Nat) (v : SlotSt) : (s.setSlot k v).fc = s.fc := rfl
@[simp] theorem State.setSlot_fab (s : State) (k : Nat) (v : SlotSt) : (s.setSlot k v).fab = s.fab := rfl
@[simp] theorem State.setSlot_pool (s : State) (k : Nat) (v : SlotSt) : (s.setSlot k v).pool = s.pool := rfl
@[simp] theorem State.setSlot_hist (s : State) (k : Nat) (v : SlotSt) : (s.setSlot k v).hist = s.hist := rfl
@[simp] theorem State.setSlot_stack (s : State) (k : Nat) (v : SlotSt) : (s.setSlot k v).stack = s.stack := rfl
@[simp] theorem State.setSlot_pow (s : State) (k : Nat) (v : SlotSt) : (s.setSlot k v).pow = s.pow := rfl
@[simp] theorem State.setSlot_dict (s : State) (k : Nat) (v : SlotSt) : (s.setSlot k v).dict = s.dict := rfl
@[simp] theorem State.setSlot_freeCtr (s : State) (k : Nat) (v : SlotSt) : (s.setSlot k v).freeCtr = s.freeCtr := rfl
@[simp] theorem State.setSlot_out (s : State) (k : Nat) (v : SlotSt) : (s.setSlot k v).out = s.out := rfl

/-! setDom -/

@[simp] theorem State.setDom_pending (s : State) (i : Nat) (d : Dom) : (s.setDom i d).pending = s.pending := rfl
@[simp] theorem State.setDom_now (s : State) (i : Nat) (d : Dom) : (s.setDom i d).now = s.now := rfl
@[simp] theorem State.setDom_objs (s : State) (i : Nat) (d : Dom) : (s.setDom i d).objs = s.objs := rfl
@[simp] theorem State.setDom_blobs (s : State) (i : Nat) (d : Dom) : (s.setDom i d).blobs = s.blobs := rfl
@[simp] theorem State.setDom_mode (s : State) (i : Nat) (d : Dom) : (s.setDom i d).mode = s.mode := rfl
@[simp] theorem State.setDom_flt (s : State) (i : Nat) (d : Dom) : (s.setDom i d).flt = s.flt := rfl
@[simp] theorem State.setDom_hold (s : State) (i : Nat) (d : Dom) : (s.setDom i d).hold = s.hold := rfl
@[simp] theorem State.setDom_boot (s : State) (i : Nat) (d : Dom) : (s.setDom i d).boot = s.boot := rfl
@[simp] theorem State.setDom_pins (s : State) (i : Nat) (d : Dom) : (s.setDom i d).pins = s.pins := rfl
@[simp] theorem State.setDom_conv (s : State) (i : Nat) (d : Dom) : (s.setDom i d).conv = s.conv := rfl
@[simp] theorem State.setDom_eng (s : State) (i : Nat) (d : Dom) : (s.setDom i d).eng = s.eng := rfl
@[simp] theorem State.setDom_fc (s : State) (i : Nat) (d : Dom) : (s.setDom i d).fc = s.fc := rfl
@[simp] theorem State.setDom_fab (s : State) (i : Nat) (d : Dom) : (s.setDom i d).fab = s.fab := rfl
@[simp] theorem State.setDom_pecan (s : State) (i : Nat) (d : Dom) : (s.setDom i d).pecan = s.pecan := rfl
@[simp] theorem State.setDom_hist (s : State) (i : Nat) (d : Dom) : (s.setDom i d).hist = s.hist := rfl
@[simp] theorem State.setDom_stack (s : State) (i : Nat) (d : Dom) : (s.setDom i d).stack = s.stack := rfl
@[simp] theorem State.setDom_pow (s : State) (i : Nat) (d : Dom) : (s.setDom i d).pow = s.pow := rfl
@[simp] theorem State.setDom_dict (s : State) (i : Nat) (d : Dom) : (s.setDom i d).dict = s.dict := rfl
@[simp] theorem State.setDom_freeCtr (s : State) (i : Nat) (d : Dom) : (s.setDom i d).freeCtr = s.freeCtr := rfl
@[simp] theorem State.setDom_out (s : State) (i : Nat) (d : Dom) : (s.setDom i d).out = s.out := rfl

/-! setWeight -/

@[simp] theorem State.setWeight_pending (s : State) (ep w : Nat) : (s.setWeight ep w).pending = s.pending := rfl
@[simp] theorem State.setWeight_now (s : State) (ep w : Nat) : (s.setWeight ep w).now = s.now := rfl
@[simp] theorem State.setWeight_objs (s : State) (ep w : Nat) : (s.setWeight ep w).objs = s.objs := rfl
@[simp] theorem State.setWeight_blobs (s : State) (ep w : Nat) : (s.setWeight ep w).blobs = s.blobs := rfl
@[simp] theorem State.setWeight_mode (s : State) (ep w : Nat) : (s.setWeight ep w).mode = s.mode := rfl
@[simp] theorem State.setWeight_flt (s : State) (ep w : Nat) : (s.setWeight ep w).flt = s.flt := rfl
@[simp] theorem State.setWeight_hold (s : State) (ep w : Nat) : (s.setWeight ep w).hold = s.hold := rfl
@[simp] theorem State.setWeight_boot (s : State) (ep w : Nat) : (s.setWeight ep w).boot = s.boot := rfl
@[simp] theorem State.setWeight_pins (s : State) (ep w : Nat) : (s.setWeight ep w).pins = s.pins := rfl
@[simp] theorem State.setWeight_conv (s : State) (ep w : Nat) : (s.setWeight ep w).conv = s.conv := rfl
@[simp] theorem State.setWeight_eng (s : State) (ep w : Nat) : (s.setWeight ep w).eng = s.eng := rfl
@[simp] theorem State.setWeight_fc (s : State) (ep w : Nat) : (s.setWeight ep w).fc = s.fc := rfl
@[simp] theorem State.setWeight_fab (s : State) (ep w : Nat) : (s.setWeight ep w).fab = s.fab := rfl
@[simp] theorem State.setWeight_pecan (s : State) (ep w : Nat) : (s.setWeight ep w).pecan = s.pecan := rfl
@[simp] theorem State.setWeight_hist (s : State) (ep w : Nat) : (s.setWeight ep w).hist = s.hist := rfl
@[simp] theorem State.setWeight_stack (s : State) (ep w : Nat) : (s.setWeight ep w).stack = s.stack := rfl
@[simp] theorem State.setWeight_pow (s : State) (ep w : Nat) : (s.setWeight ep w).pow = s.pow := rfl
@[simp] theorem State.setWeight_dict (s : State) (ep w : Nat) : (s.setWeight ep w).dict = s.dict := rfl
@[simp] theorem State.setWeight_freeCtr (s : State) (ep w : Nat) : (s.setWeight ep w).freeCtr = s.freeCtr := rfl
@[simp] theorem State.setWeight_out (s : State) (ep w : Nat) : (s.setWeight ep w).out = s.out := rfl

/-! setCreate -/

@[simp] theorem State.setCreate_pending (s : State) (c : Option Creation) : (s.setCreate c).pending = s.pending := rfl
@[simp] theorem State.setCreate_now (s : State) (c : Option Creation) : (s.setCreate c).now = s.now := rfl
@[simp] theorem State.setCreate_objs (s : State) (c : Option Creation) : (s.setCreate c).objs = s.objs := rfl
@[simp] theorem State.setCreate_blobs (s : State) (c : Option Creation) : (s.setCreate c).blobs = s.blobs := rfl
@[simp] theorem State.setCreate_mode (s : State) (c : Option Creation) : (s.setCreate c).mode = s.mode := rfl
@[simp] theorem State.setCreate_flt (s : State) (c : Option Creation) : (s.setCreate c).flt = s.flt := rfl
@[simp] theorem State.setCreate_hold (s : State) (c : Option Creation) : (s.setCreate c).hold = s.hold := rfl
@[simp] theorem State.setCreate_boot (s : State) (c : Option Creation) : (s.setCreate c).boot = s.boot := rfl
@[simp] theorem State.setCreate_pins (s : State) (c : Option Creation) : (s.setCreate c).pins = s.pins := rfl
@[simp] theorem State.setCreate_conv (s : State) (c : Option Creation) : (s.setCreate c).conv = s.conv := rfl
@[simp] theorem State.setCreate_eng (s : State) (c : Option Creation) : (s.setCreate c).eng = s.eng := rfl
@[simp] theorem State.setCreate_fc (s : State) (c : Option Creation) : (s.setCreate c).fc = s.fc := rfl
@[simp] theorem State.setCreate_fab (s : State) (c : Option Creation) : (s.setCreate c).fab = s.fab := rfl
@[simp] theorem State.setCreate_pecan (s : State) (c : Option Creation) : (s.setCreate c).pecan = s.pecan := rfl
@[simp] theorem State.setCreate_hist (s : State) (c : Option Creation) : (s.setCreate c).hist = s.hist := rfl
@[simp] theorem State.setCreate_stack (s : State) (c : Option Creation) : (s.setCreate c).stack = s.stack := rfl
@[simp] theorem State.setCreate_pow (s : State) (c : Option Creation) : (s.setCreate c).pow = s.pow := rfl
@[simp] theorem State.setCreate_dict (s : State) (c : Option Creation) : (s.setCreate c).dict = s.dict := rfl
@[simp] theorem State.setCreate_freeCtr (s : State) (c : Option Creation) : (s.setCreate c).freeCtr = s.freeCtr := rfl
@[simp] theorem State.setCreate_out (s : State) (c : Option Creation) : (s.setCreate c).out = s.out := rfl

/-! dropPending -/

@[simp] theorem State.dropPending_pending (s : State) (i : Nat) : (s.dropPending i).pending = s.pending := rfl
@[simp] theorem State.dropPending_now (s : State) (i : Nat) : (s.dropPending i).now = s.now := rfl
@[simp] theorem State.dropPending_objs (s : State) (i : Nat) : (s.dropPending i).objs = s.objs := rfl
@[simp] theorem State.dropPending_blobs (s : State) (i : Nat) : (s.dropPending i).blobs = s.blobs := rfl
@[simp] theorem State.dropPending_mode (s : State) (i : Nat) : (s.dropPending i).mode = s.mode := rfl
@[simp] theorem State.dropPending_flt (s : State) (i : Nat) : (s.dropPending i).flt = s.flt := rfl
@[simp] theorem State.dropPending_hold (s : State) (i : Nat) : (s.dropPending i).hold = s.hold := rfl
@[simp] theorem State.dropPending_boot (s : State) (i : Nat) : (s.dropPending i).boot = s.boot := rfl
@[simp] theorem State.dropPending_pins (s : State) (i : Nat) : (s.dropPending i).pins = s.pins := rfl
@[simp] theorem State.dropPending_conv (s : State) (i : Nat) : (s.dropPending i).conv = s.conv := rfl
@[simp] theorem State.dropPending_eng (s : State) (i : Nat) : (s.dropPending i).eng = s.eng := rfl
@[simp] theorem State.dropPending_fc (s : State) (i : Nat) : (s.dropPending i).fc = s.fc := rfl
@[simp] theorem State.dropPending_fab (s : State) (i : Nat) : (s.dropPending i).fab = s.fab := rfl
@[simp] theorem State.dropPending_pecan (s : State) (i : Nat) : (s.dropPending i).pecan = s.pecan := rfl
@[simp] theorem State.dropPending_hist (s : State) (i : Nat) : (s.dropPending i).hist = s.hist := rfl
@[simp] theorem State.dropPending_stack (s : State) (i : Nat) : (s.dropPending i).stack = s.stack := rfl
@[simp] theorem State.dropPending_pow (s : State) (i : Nat) : (s.dropPending i).pow = s.pow := rfl
@[simp] theorem State.dropPending_dict (s : State) (i : Nat) : (s.dropPending i).dict = s.dict := rfl
@[simp] theorem State.dropPending_freeCtr (s : State) (i : Nat) : (s.dropPending i).freeCtr = s.freeCtr := rfl
@[simp] theorem State.dropPending_out (s : State) (i : Nat) : (s.dropPending i).out = s.out := rfl

/-! setRingDef -/

@[simp] theorem State.setRingDef_pending (s : State) (c : Nat) (r : RingDef) : (s.setRingDef c r).pending = s.pending := rfl
@[simp] theorem State.setRingDef_now (s : State) (c : Nat) (r : RingDef) : (s.setRingDef c r).now = s.now := rfl
@[simp] theorem State.setRingDef_objs (s : State) (c : Nat) (r : RingDef) : (s.setRingDef c r).objs = s.objs := rfl
@[simp] theorem State.setRingDef_blobs (s : State) (c : Nat) (r : RingDef) : (s.setRingDef c r).blobs = s.blobs := rfl
@[simp] theorem State.setRingDef_mode (s : State) (c : Nat) (r : RingDef) : (s.setRingDef c r).mode = s.mode := rfl
@[simp] theorem State.setRingDef_flt (s : State) (c : Nat) (r : RingDef) : (s.setRingDef c r).flt = s.flt := rfl
@[simp] theorem State.setRingDef_hold (s : State) (c : Nat) (r : RingDef) : (s.setRingDef c r).hold = s.hold := rfl
@[simp] theorem State.setRingDef_boot (s : State) (c : Nat) (r : RingDef) : (s.setRingDef c r).boot = s.boot := rfl
@[simp] theorem State.setRingDef_pins (s : State) (c : Nat) (r : RingDef) : (s.setRingDef c r).pins = s.pins := rfl
@[simp] theorem State.setRingDef_conv (s : State) (c : Nat) (r : RingDef) : (s.setRingDef c r).conv = s.conv := rfl
@[simp] theorem State.setRingDef_eng (s : State) (c : Nat) (r : RingDef) : (s.setRingDef c r).eng = s.eng := rfl
@[simp] theorem State.setRingDef_fc (s : State) (c : Nat) (r : RingDef) : (s.setRingDef c r).fc = s.fc := rfl
@[simp] theorem State.setRingDef_fab (s : State) (c : Nat) (r : RingDef) : (s.setRingDef c r).fab = s.fab := rfl
@[simp] theorem State.setRingDef_pool (s : State) (c : Nat) (r : RingDef) : (s.setRingDef c r).pool = s.pool := rfl
@[simp] theorem State.setRingDef_pecan (s : State) (c : Nat) (r : RingDef) : (s.setRingDef c r).pecan = s.pecan := rfl
@[simp] theorem State.setRingDef_stack (s : State) (c : Nat) (r : RingDef) : (s.setRingDef c r).stack = s.stack := rfl
@[simp] theorem State.setRingDef_pow (s : State) (c : Nat) (r : RingDef) : (s.setRingDef c r).pow = s.pow := rfl
@[simp] theorem State.setRingDef_dict (s : State) (c : Nat) (r : RingDef) : (s.setRingDef c r).dict = s.dict := rfl
@[simp] theorem State.setRingDef_freeCtr (s : State) (c : Nat) (r : RingDef) : (s.setRingDef c r).freeCtr = s.freeCtr := rfl
@[simp] theorem State.setRingDef_out (s : State) (c : Nat) (r : RingDef) : (s.setRingDef c r).out = s.out := rfl

/-! setStackBlock -/

@[simp] theorem State.setStackBlock_pending (s : State) (k : Nat) (v : List Nat) : (s.setStackBlock k v).pending = s.pending := rfl
@[simp] theorem State.setStackBlock_now (s : State) (k : Nat) (v : List Nat) : (s.setStackBlock k v).now = s.now := rfl
@[simp] theorem State.setStackBlock_objs (s : State) (k : Nat) (v : List Nat) : (s.setStackBlock k v).objs = s.objs := rfl
@[simp] theorem State.setStackBlock_blobs (s : State) (k : Nat) (v : List Nat) : (s.setStackBlock k v).blobs = s.blobs := rfl
@[simp] theorem State.setStackBlock_mode (s : State) (k : Nat) (v : List Nat) : (s.setStackBlock k v).mode = s.mode := rfl
@[simp] theorem State.setStackBlock_flt (s : State) (k : Nat) (v : List Nat) : (s.setStackBlock k v).flt = s.flt := rfl
@[simp] theorem State.setStackBlock_hold (s : State) (k : Nat) (v : List Nat) : (s.setStackBlock k v).hold = s.hold := rfl
@[simp] theorem State.setStackBlock_boot (s : State) (k : Nat) (v : List Nat) : (s.setStackBlock k v).boot = s.boot := rfl
@[simp] theorem State.setStackBlock_pins (s : State) (k : Nat) (v : List Nat) : (s.setStackBlock k v).pins = s.pins := rfl
@[simp] theorem State.setStackBlock_conv (s : State) (k : Nat) (v : List Nat) : (s.setStackBlock k v).conv = s.conv := rfl
@[simp] theorem State.setStackBlock_eng (s : State) (k : Nat) (v : List Nat) : (s.setStackBlock k v).eng = s.eng := rfl
@[simp] theorem State.setStackBlock_fc (s : State) (k : Nat) (v : List Nat) : (s.setStackBlock k v).fc = s.fc := rfl
@[simp] theorem State.setStackBlock_fab (s : State) (k : Nat) (v : List Nat) : (s.setStackBlock k v).fab = s.fab := rfl
@[simp] theorem State.setStackBlock_pool (s : State) (k : Nat) (v : List Nat) : (s.setStackBlock k v).pool = s.pool := rfl
@[simp] theorem State.setStackBlock_hist (s : State) (k : Nat) (v : List Nat) : (s.setStackBlock k v).hist = s.hist := rfl
@[simp] theorem State.setStackBlock_stack (s : State) (k : Nat) (v : List Nat) : (s.setStackBlock k v).stack = s.stack := rfl
@[simp] theorem State.setStackBlock_pow (s : State) (k : Nat) (v : List Nat) : (s.setStackBlock k v).pow = s.pow := rfl
@[simp] theorem State.setStackBlock_dict (s : State) (k : Nat) (v : List Nat) : (s.setStackBlock k v).dict = s.dict := rfl
@[simp] theorem State.setStackBlock_freeCtr (s : State) (k : Nat) (v : List Nat) : (s.setStackBlock k v).freeCtr = s.freeCtr := rfl
@[simp] theorem State.setStackBlock_out (s : State) (k : Nat) (v : List Nat) : (s.setStackBlock k v).out = s.out := rfl

/-! setRail -/

@[simp] theorem State.setRail_pending (s : State) (r : Nat) (v : RailSt) : (s.setRail r v).pending = s.pending := rfl
@[simp] theorem State.setRail_now (s : State) (r : Nat) (v : RailSt) : (s.setRail r v).now = s.now := rfl
@[simp] theorem State.setRail_objs (s : State) (r : Nat) (v : RailSt) : (s.setRail r v).objs = s.objs := rfl
@[simp] theorem State.setRail_blobs (s : State) (r : Nat) (v : RailSt) : (s.setRail r v).blobs = s.blobs := rfl
@[simp] theorem State.setRail_mode (s : State) (r : Nat) (v : RailSt) : (s.setRail r v).mode = s.mode := rfl
@[simp] theorem State.setRail_flt (s : State) (r : Nat) (v : RailSt) : (s.setRail r v).flt = s.flt := rfl
@[simp] theorem State.setRail_hold (s : State) (r : Nat) (v : RailSt) : (s.setRail r v).hold = s.hold := rfl
@[simp] theorem State.setRail_boot (s : State) (r : Nat) (v : RailSt) : (s.setRail r v).boot = s.boot := rfl
@[simp] theorem State.setRail_pins (s : State) (r : Nat) (v : RailSt) : (s.setRail r v).pins = s.pins := rfl
@[simp] theorem State.setRail_conv (s : State) (r : Nat) (v : RailSt) : (s.setRail r v).conv = s.conv := rfl
@[simp] theorem State.setRail_eng (s : State) (r : Nat) (v : RailSt) : (s.setRail r v).eng = s.eng := rfl
@[simp] theorem State.setRail_fc (s : State) (r : Nat) (v : RailSt) : (s.setRail r v).fc = s.fc := rfl
@[simp] theorem State.setRail_fab (s : State) (r : Nat) (v : RailSt) : (s.setRail r v).fab = s.fab := rfl
@[simp] theorem State.setRail_pool (s : State) (r : Nat) (v : RailSt) : (s.setRail r v).pool = s.pool := rfl
@[simp] theorem State.setRail_pecan (s : State) (r : Nat) (v : RailSt) : (s.setRail r v).pecan = s.pecan := rfl
@[simp] theorem State.setRail_hist (s : State) (r : Nat) (v : RailSt) : (s.setRail r v).hist = s.hist := rfl
@[simp] theorem State.setRail_stack (s : State) (r : Nat) (v : RailSt) : (s.setRail r v).stack = s.stack := rfl
@[simp] theorem State.setRail_dict (s : State) (r : Nat) (v : RailSt) : (s.setRail r v).dict = s.dict := rfl
@[simp] theorem State.setRail_freeCtr (s : State) (r : Nat) (v : RailSt) : (s.setRail r v).freeCtr = s.freeCtr := rfl
@[simp] theorem State.setRail_out (s : State) (r : Nat) (v : RailSt) : (s.setRail r v).out = s.out := rfl

/-! setDiePt -/

@[simp] theorem State.setDiePt_pending (s : State) (d : Nat) (v : DiePt) : (s.setDiePt d v).pending = s.pending := rfl
@[simp] theorem State.setDiePt_now (s : State) (d : Nat) (v : DiePt) : (s.setDiePt d v).now = s.now := rfl
@[simp] theorem State.setDiePt_objs (s : State) (d : Nat) (v : DiePt) : (s.setDiePt d v).objs = s.objs := rfl
@[simp] theorem State.setDiePt_blobs (s : State) (d : Nat) (v : DiePt) : (s.setDiePt d v).blobs = s.blobs := rfl
@[simp] theorem State.setDiePt_mode (s : State) (d : Nat) (v : DiePt) : (s.setDiePt d v).mode = s.mode := rfl
@[simp] theorem State.setDiePt_flt (s : State) (d : Nat) (v : DiePt) : (s.setDiePt d v).flt = s.flt := rfl
@[simp] theorem State.setDiePt_hold (s : State) (d : Nat) (v : DiePt) : (s.setDiePt d v).hold = s.hold := rfl
@[simp] theorem State.setDiePt_boot (s : State) (d : Nat) (v : DiePt) : (s.setDiePt d v).boot = s.boot := rfl
@[simp] theorem State.setDiePt_pins (s : State) (d : Nat) (v : DiePt) : (s.setDiePt d v).pins = s.pins := rfl
@[simp] theorem State.setDiePt_conv (s : State) (d : Nat) (v : DiePt) : (s.setDiePt d v).conv = s.conv := rfl
@[simp] theorem State.setDiePt_eng (s : State) (d : Nat) (v : DiePt) : (s.setDiePt d v).eng = s.eng := rfl
@[simp] theorem State.setDiePt_fc (s : State) (d : Nat) (v : DiePt) : (s.setDiePt d v).fc = s.fc := rfl
@[simp] theorem State.setDiePt_fab (s : State) (d : Nat) (v : DiePt) : (s.setDiePt d v).fab = s.fab := rfl
@[simp] theorem State.setDiePt_pool (s : State) (d : Nat) (v : DiePt) : (s.setDiePt d v).pool = s.pool := rfl
@[simp] theorem State.setDiePt_pecan (s : State) (d : Nat) (v : DiePt) : (s.setDiePt d v).pecan = s.pecan := rfl
@[simp] theorem State.setDiePt_hist (s : State) (d : Nat) (v : DiePt) : (s.setDiePt d v).hist = s.hist := rfl
@[simp] theorem State.setDiePt_stack (s : State) (d : Nat) (v : DiePt) : (s.setDiePt d v).stack = s.stack := rfl
@[simp] theorem State.setDiePt_dict (s : State) (d : Nat) (v : DiePt) : (s.setDiePt d v).dict = s.dict := rfl
@[simp] theorem State.setDiePt_freeCtr (s : State) (d : Nat) (v : DiePt) : (s.setDiePt d v).freeCtr = s.freeCtr := rfl
@[simp] theorem State.setDiePt_out (s : State) (d : Nat) (v : DiePt) : (s.setDiePt d v).out = s.out := rfl

/-! setEstCell -/

@[simp] theorem State.setEstCell_pending (s : State) (i : Nat) (e : EstCell) : (s.setEstCell i e).pending = s.pending := rfl
@[simp] theorem State.setEstCell_now (s : State) (i : Nat) (e : EstCell) : (s.setEstCell i e).now = s.now := rfl
@[simp] theorem State.setEstCell_objs (s : State) (i : Nat) (e : EstCell) : (s.setEstCell i e).objs = s.objs := rfl
@[simp] theorem State.setEstCell_blobs (s : State) (i : Nat) (e : EstCell) : (s.setEstCell i e).blobs = s.blobs := rfl
@[simp] theorem State.setEstCell_mode (s : State) (i : Nat) (e : EstCell) : (s.setEstCell i e).mode = s.mode := rfl
@[simp] theorem State.setEstCell_flt (s : State) (i : Nat) (e : EstCell) : (s.setEstCell i e).flt = s.flt := rfl
@[simp] theorem State.setEstCell_hold (s : State) (i : Nat) (e : EstCell) : (s.setEstCell i e).hold = s.hold := rfl
@[simp] theorem State.setEstCell_boot (s : State) (i : Nat) (e : EstCell) : (s.setEstCell i e).boot = s.boot := rfl
@[simp] theorem State.setEstCell_pins (s : State) (i : Nat) (e : EstCell) : (s.setEstCell i e).pins = s.pins := rfl
@[simp] theorem State.setEstCell_conv (s : State) (i : Nat) (e : EstCell) : (s.setEstCell i e).conv = s.conv := rfl
@[simp] theorem State.setEstCell_eng (s : State) (i : Nat) (e : EstCell) : (s.setEstCell i e).eng = s.eng := rfl
@[simp] theorem State.setEstCell_fc (s : State) (i : Nat) (e : EstCell) : (s.setEstCell i e).fc = s.fc := rfl
@[simp] theorem State.setEstCell_fab (s : State) (i : Nat) (e : EstCell) : (s.setEstCell i e).fab = s.fab := rfl
@[simp] theorem State.setEstCell_pool (s : State) (i : Nat) (e : EstCell) : (s.setEstCell i e).pool = s.pool := rfl
@[simp] theorem State.setEstCell_pecan (s : State) (i : Nat) (e : EstCell) : (s.setEstCell i e).pecan = s.pecan := rfl
@[simp] theorem State.setEstCell_hist (s : State) (i : Nat) (e : EstCell) : (s.setEstCell i e).hist = s.hist := rfl
@[simp] theorem State.setEstCell_pow (s : State) (i : Nat) (e : EstCell) : (s.setEstCell i e).pow = s.pow := rfl
@[simp] theorem State.setEstCell_dict (s : State) (i : Nat) (e : EstCell) : (s.setEstCell i e).dict = s.dict := rfl
@[simp] theorem State.setEstCell_freeCtr (s : State) (i : Nat) (e : EstCell) : (s.setEstCell i e).freeCtr = s.freeCtr := rfl
@[simp] theorem State.setEstCell_out (s : State) (i : Nat) (e : EstCell) : (s.setEstCell i e).out = s.out := rfl

/-! setPort -/

@[simp] theorem State.setPort_pending (s : State) (p : Nat) (v : PortSt) : (s.setPort p v).pending = s.pending := rfl
@[simp] theorem State.setPort_now (s : State) (p : Nat) (v : PortSt) : (s.setPort p v).now = s.now := rfl
@[simp] theorem State.setPort_objs (s : State) (p : Nat) (v : PortSt) : (s.setPort p v).objs = s.objs := rfl
@[simp] theorem State.setPort_blobs (s : State) (p : Nat) (v : PortSt) : (s.setPort p v).blobs = s.blobs := rfl
@[simp] theorem State.setPort_mode (s : State) (p : Nat) (v : PortSt) : (s.setPort p v).mode = s.mode := rfl
@[simp] theorem State.setPort_flt (s : State) (p : Nat) (v : PortSt) : (s.setPort p v).flt = s.flt := rfl
@[simp] theorem State.setPort_hold (s : State) (p : Nat) (v : PortSt) : (s.setPort p v).hold = s.hold := rfl
@[simp] theorem State.setPort_boot (s : State) (p : Nat) (v : PortSt) : (s.setPort p v).boot = s.boot := rfl
@[simp] theorem State.setPort_pins (s : State) (p : Nat) (v : PortSt) : (s.setPort p v).pins = s.pins := rfl
@[simp] theorem State.setPort_conv (s : State) (p : Nat) (v : PortSt) : (s.setPort p v).conv = s.conv := rfl
@[simp] theorem State.setPort_eng (s : State) (p : Nat) (v : PortSt) : (s.setPort p v).eng = s.eng := rfl
@[simp] theorem State.setPort_fab (s : State) (p : Nat) (v : PortSt) : (s.setPort p v).fab = s.fab := rfl
@[simp] theorem State.setPort_pool (s : State) (p : Nat) (v : PortSt) : (s.setPort p v).pool = s.pool := rfl
@[simp] theorem State.setPort_pecan (s : State) (p : Nat) (v : PortSt) : (s.setPort p v).pecan = s.pecan := rfl
@[simp] theorem State.setPort_hist (s : State) (p : Nat) (v : PortSt) : (s.setPort p v).hist = s.hist := rfl
@[simp] theorem State.setPort_stack (s : State) (p : Nat) (v : PortSt) : (s.setPort p v).stack = s.stack := rfl
@[simp] theorem State.setPort_pow (s : State) (p : Nat) (v : PortSt) : (s.setPort p v).pow = s.pow := rfl
@[simp] theorem State.setPort_dict (s : State) (p : Nat) (v : PortSt) : (s.setPort p v).dict = s.dict := rfl
@[simp] theorem State.setPort_freeCtr (s : State) (p : Nat) (v : PortSt) : (s.setPort p v).freeCtr = s.freeCtr := rfl
@[simp] theorem State.setPort_out (s : State) (p : Nat) (v : PortSt) : (s.setPort p v).out = s.out := rfl

/-! setRect -/

@[simp] theorem State.setRect_pending (s : State) (r : Nat) (v : RectSt) : (s.setRect r v).pending = s.pending := rfl
@[simp] theorem State.setRect_now (s : State) (r : Nat) (v : RectSt) : (s.setRect r v).now = s.now := rfl
@[simp] theorem State.setRect_objs (s : State) (r : Nat) (v : RectSt) : (s.setRect r v).objs = s.objs := rfl
@[simp] theorem State.setRect_blobs (s : State) (r : Nat) (v : RectSt) : (s.setRect r v).blobs = s.blobs := rfl
@[simp] theorem State.setRect_mode (s : State) (r : Nat) (v : RectSt) : (s.setRect r v).mode = s.mode := rfl
@[simp] theorem State.setRect_flt (s : State) (r : Nat) (v : RectSt) : (s.setRect r v).flt = s.flt := rfl
@[simp] theorem State.setRect_hold (s : State) (r : Nat) (v : RectSt) : (s.setRect r v).hold = s.hold := rfl
@[simp] theorem State.setRect_boot (s : State) (r : Nat) (v : RectSt) : (s.setRect r v).boot = s.boot := rfl
@[simp] theorem State.setRect_pins (s : State) (r : Nat) (v : RectSt) : (s.setRect r v).pins = s.pins := rfl
@[simp] theorem State.setRect_conv (s : State) (r : Nat) (v : RectSt) : (s.setRect r v).conv = s.conv := rfl
@[simp] theorem State.setRect_fc (s : State) (r : Nat) (v : RectSt) : (s.setRect r v).fc = s.fc := rfl
@[simp] theorem State.setRect_fab (s : State) (r : Nat) (v : RectSt) : (s.setRect r v).fab = s.fab := rfl
@[simp] theorem State.setRect_pool (s : State) (r : Nat) (v : RectSt) : (s.setRect r v).pool = s.pool := rfl
@[simp] theorem State.setRect_pecan (s : State) (r : Nat) (v : RectSt) : (s.setRect r v).pecan = s.pecan := rfl
@[simp] theorem State.setRect_hist (s : State) (r : Nat) (v : RectSt) : (s.setRect r v).hist = s.hist := rfl
@[simp] theorem State.setRect_stack (s : State) (r : Nat) (v : RectSt) : (s.setRect r v).stack = s.stack := rfl
@[simp] theorem State.setRect_pow (s : State) (r : Nat) (v : RectSt) : (s.setRect r v).pow = s.pow := rfl
@[simp] theorem State.setRect_dict (s : State) (r : Nat) (v : RectSt) : (s.setRect r v).dict = s.dict := rfl
@[simp] theorem State.setRect_freeCtr (s : State) (r : Nat) (v : RectSt) : (s.setRect r v).freeCtr = s.freeCtr := rfl
@[simp] theorem State.setRect_out (s : State) (r : Nat) (v : RectSt) : (s.setRect r v).out = s.out := rfl

/-! setChan -/

@[simp] theorem State.setChan_pending (s : State) (c : Nat) (v : ChanSt) : (s.setChan c v).pending = s.pending := rfl
@[simp] theorem State.setChan_now (s : State) (c : Nat) (v : ChanSt) : (s.setChan c v).now = s.now := rfl
@[simp] theorem State.setChan_objs (s : State) (c : Nat) (v : ChanSt) : (s.setChan c v).objs = s.objs := rfl
@[simp] theorem State.setChan_blobs (s : State) (c : Nat) (v : ChanSt) : (s.setChan c v).blobs = s.blobs := rfl
@[simp] theorem State.setChan_mode (s : State) (c : Nat) (v : ChanSt) : (s.setChan c v).mode = s.mode := rfl
@[simp] theorem State.setChan_flt (s : State) (c : Nat) (v : ChanSt) : (s.setChan c v).flt = s.flt := rfl
@[simp] theorem State.setChan_hold (s : State) (c : Nat) (v : ChanSt) : (s.setChan c v).hold = s.hold := rfl
@[simp] theorem State.setChan_boot (s : State) (c : Nat) (v : ChanSt) : (s.setChan c v).boot = s.boot := rfl
@[simp] theorem State.setChan_pins (s : State) (c : Nat) (v : ChanSt) : (s.setChan c v).pins = s.pins := rfl
@[simp] theorem State.setChan_conv (s : State) (c : Nat) (v : ChanSt) : (s.setChan c v).conv = s.conv := rfl
@[simp] theorem State.setChan_eng (s : State) (c : Nat) (v : ChanSt) : (s.setChan c v).eng = s.eng := rfl
@[simp] theorem State.setChan_fc (s : State) (c : Nat) (v : ChanSt) : (s.setChan c v).fc = s.fc := rfl
@[simp] theorem State.setChan_fab (s : State) (c : Nat) (v : ChanSt) : (s.setChan c v).fab = s.fab := rfl
@[simp] theorem State.setChan_pool (s : State) (c : Nat) (v : ChanSt) : (s.setChan c v).pool = s.pool := rfl
@[simp] theorem State.setChan_pecan (s : State) (c : Nat) (v : ChanSt) : (s.setChan c v).pecan = s.pecan := rfl
@[simp] theorem State.setChan_hist (s : State) (c : Nat) (v : ChanSt) : (s.setChan c v).hist = s.hist := rfl
@[simp] theorem State.setChan_stack (s : State) (c : Nat) (v : ChanSt) : (s.setChan c v).stack = s.stack := rfl
@[simp] theorem State.setChan_dict (s : State) (c : Nat) (v : ChanSt) : (s.setChan c v).dict = s.dict := rfl
@[simp] theorem State.setChan_freeCtr (s : State) (c : Nat) (v : ChanSt) : (s.setChan c v).freeCtr = s.freeCtr := rfl
@[simp] theorem State.setChan_out (s : State) (c : Nat) (v : ChanSt) : (s.setChan c v).out = s.out := rfl

/-! setStage -/

@[simp] theorem State.setStage_pending (s : State) (h n : Nat) : (s.setStage h n).pending = s.pending := by unfold State.setStage; split <;> rfl
@[simp] theorem State.setStage_now (s : State) (h n : Nat) : (s.setStage h n).now = s.now := by unfold State.setStage; split <;> rfl
@[simp] theorem State.setStage_objs (s : State) (h n : Nat) : (s.setStage h n).objs = s.objs := by unfold State.setStage; split <;> rfl
@[simp] theorem State.setStage_blobs (s : State) (h n : Nat) : (s.setStage h n).blobs = s.blobs := by unfold State.setStage; split <;> rfl
@[simp] theorem State.setStage_mode (s : State) (h n : Nat) : (s.setStage h n).mode = s.mode := by unfold State.setStage; split <;> rfl
@[simp] theorem State.setStage_flt (s : State) (h n : Nat) : (s.setStage h n).flt = s.flt := by unfold State.setStage; split <;> rfl
@[simp] theorem State.setStage_hold (s : State) (h n : Nat) : (s.setStage h n).hold = s.hold := by unfold State.setStage; split <;> rfl
@[simp] theorem State.setStage_pins (s : State) (h n : Nat) : (s.setStage h n).pins = s.pins := by unfold State.setStage; split <;> rfl
@[simp] theorem State.setStage_conv (s : State) (h n : Nat) : (s.setStage h n).conv = s.conv := by unfold State.setStage; split <;> rfl
@[simp] theorem State.setStage_eng (s : State) (h n : Nat) : (s.setStage h n).eng = s.eng := by unfold State.setStage; split <;> rfl
@[simp] theorem State.setStage_fc (s : State) (h n : Nat) : (s.setStage h n).fc = s.fc := by unfold State.setStage; split <;> rfl
@[simp] theorem State.setStage_fab (s : State) (h n : Nat) : (s.setStage h n).fab = s.fab := by unfold State.setStage; split <;> rfl
@[simp] theorem State.setStage_pool (s : State) (h n : Nat) : (s.setStage h n).pool = s.pool := by unfold State.setStage; split <;> rfl
@[simp] theorem State.setStage_pecan (s : State) (h n : Nat) : (s.setStage h n).pecan = s.pecan := by unfold State.setStage; split <;> rfl
@[simp] theorem State.setStage_hist (s : State) (h n : Nat) : (s.setStage h n).hist = s.hist := by unfold State.setStage; split <;> rfl
@[simp] theorem State.setStage_stack (s : State) (h n : Nat) : (s.setStage h n).stack = s.stack := by unfold State.setStage; split <;> rfl
@[simp] theorem State.setStage_pow (s : State) (h n : Nat) : (s.setStage h n).pow = s.pow := by unfold State.setStage; split <;> rfl
@[simp] theorem State.setStage_dict (s : State) (h n : Nat) : (s.setStage h n).dict = s.dict := by unfold State.setStage; split <;> rfl
@[simp] theorem State.setStage_freeCtr (s : State) (h n : Nat) : (s.setStage h n).freeCtr = s.freeCtr := by unfold State.setStage; split <;> rfl
@[simp] theorem State.setStage_out (s : State) (h n : Nat) : (s.setStage h n).out = s.out := by unfold State.setStage; split <;> rfl

/-! setImages -/

@[simp] theorem State.setImages_pending (s : State) (h : Nat) (v : ImageSlots) : (s.setImages h v).pending = s.pending := by unfold State.setImages; split <;> rfl
@[simp] theorem State.setImages_now (s : State) (h : Nat) (v : ImageSlots) : (s.setImages h v).now = s.now := by unfold State.setImages; split <;> rfl
@[simp] theorem State.setImages_objs (s : State) (h : Nat) (v : ImageSlots) : (s.setImages h v).objs = s.objs := by unfold State.setImages; split <;> rfl
@[simp] theorem State.setImages_blobs (s : State) (h : Nat) (v : ImageSlots) : (s.setImages h v).blobs = s.blobs := by unfold State.setImages; split <;> rfl
@[simp] theorem State.setImages_mode (s : State) (h : Nat) (v : ImageSlots) : (s.setImages h v).mode = s.mode := by unfold State.setImages; split <;> rfl
@[simp] theorem State.setImages_flt (s : State) (h : Nat) (v : ImageSlots) : (s.setImages h v).flt = s.flt := by unfold State.setImages; split <;> rfl
@[simp] theorem State.setImages_hold (s : State) (h : Nat) (v : ImageSlots) : (s.setImages h v).hold = s.hold := by unfold State.setImages; split <;> rfl
@[simp] theorem State.setImages_boot (s : State) (h : Nat) (v : ImageSlots) : (s.setImages h v).boot = s.boot := by unfold State.setImages; split <;> rfl
@[simp] theorem State.setImages_pins (s : State) (h : Nat) (v : ImageSlots) : (s.setImages h v).pins = s.pins := by unfold State.setImages; split <;> rfl
@[simp] theorem State.setImages_conv (s : State) (h : Nat) (v : ImageSlots) : (s.setImages h v).conv = s.conv := by unfold State.setImages; split <;> rfl
@[simp] theorem State.setImages_eng (s : State) (h : Nat) (v : ImageSlots) : (s.setImages h v).eng = s.eng := by unfold State.setImages; split <;> rfl
@[simp] theorem State.setImages_fc (s : State) (h : Nat) (v : ImageSlots) : (s.setImages h v).fc = s.fc := by unfold State.setImages; split <;> rfl
@[simp] theorem State.setImages_fab (s : State) (h : Nat) (v : ImageSlots) : (s.setImages h v).fab = s.fab := by unfold State.setImages; split <;> rfl
@[simp] theorem State.setImages_pool (s : State) (h : Nat) (v : ImageSlots) : (s.setImages h v).pool = s.pool := by unfold State.setImages; split <;> rfl
@[simp] theorem State.setImages_pecan (s : State) (h : Nat) (v : ImageSlots) : (s.setImages h v).pecan = s.pecan := by unfold State.setImages; split <;> rfl
@[simp] theorem State.setImages_hist (s : State) (h : Nat) (v : ImageSlots) : (s.setImages h v).hist = s.hist := by unfold State.setImages; split <;> rfl
@[simp] theorem State.setImages_stack (s : State) (h : Nat) (v : ImageSlots) : (s.setImages h v).stack = s.stack := by unfold State.setImages; split <;> rfl
@[simp] theorem State.setImages_pow (s : State) (h : Nat) (v : ImageSlots) : (s.setImages h v).pow = s.pow := by unfold State.setImages; split <;> rfl
@[simp] theorem State.setImages_freeCtr (s : State) (h : Nat) (v : ImageSlots) : (s.setImages h v).freeCtr = s.freeCtr := by unfold State.setImages; split <;> rfl
@[simp] theorem State.setImages_out (s : State) (h : Nat) (v : ImageSlots) : (s.setImages h v).out = s.out := by unfold State.setImages; split <;> rfl

/-! setAdmit -/

@[simp] theorem State.setAdmit_pending (s : State) (k : Nat) (a : Admit) : (s.setAdmit k a).pending = s.pending := rfl
@[simp] theorem State.setAdmit_now (s : State) (k : Nat) (a : Admit) : (s.setAdmit k a).now = s.now := rfl
@[simp] theorem State.setAdmit_objs (s : State) (k : Nat) (a : Admit) : (s.setAdmit k a).objs = s.objs := rfl
@[simp] theorem State.setAdmit_blobs (s : State) (k : Nat) (a : Admit) : (s.setAdmit k a).blobs = s.blobs := rfl
@[simp] theorem State.setAdmit_mode (s : State) (k : Nat) (a : Admit) : (s.setAdmit k a).mode = s.mode := rfl
@[simp] theorem State.setAdmit_flt (s : State) (k : Nat) (a : Admit) : (s.setAdmit k a).flt = s.flt := rfl
@[simp] theorem State.setAdmit_hold (s : State) (k : Nat) (a : Admit) : (s.setAdmit k a).hold = s.hold := rfl
@[simp] theorem State.setAdmit_boot (s : State) (k : Nat) (a : Admit) : (s.setAdmit k a).boot = s.boot := rfl
@[simp] theorem State.setAdmit_pins (s : State) (k : Nat) (a : Admit) : (s.setAdmit k a).pins = s.pins := rfl
@[simp] theorem State.setAdmit_conv (s : State) (k : Nat) (a : Admit) : (s.setAdmit k a).conv = s.conv := rfl
@[simp] theorem State.setAdmit_eng (s : State) (k : Nat) (a : Admit) : (s.setAdmit k a).eng = s.eng := rfl
@[simp] theorem State.setAdmit_fc (s : State) (k : Nat) (a : Admit) : (s.setAdmit k a).fc = s.fc := rfl
@[simp] theorem State.setAdmit_fab (s : State) (k : Nat) (a : Admit) : (s.setAdmit k a).fab = s.fab := rfl
@[simp] theorem State.setAdmit_pool (s : State) (k : Nat) (a : Admit) : (s.setAdmit k a).pool = s.pool := rfl
@[simp] theorem State.setAdmit_pecan (s : State) (k : Nat) (a : Admit) : (s.setAdmit k a).pecan = s.pecan := rfl
@[simp] theorem State.setAdmit_hist (s : State) (k : Nat) (a : Admit) : (s.setAdmit k a).hist = s.hist := rfl
@[simp] theorem State.setAdmit_stack (s : State) (k : Nat) (a : Admit) : (s.setAdmit k a).stack = s.stack := rfl
@[simp] theorem State.setAdmit_pow (s : State) (k : Nat) (a : Admit) : (s.setAdmit k a).pow = s.pow := rfl
@[simp] theorem State.setAdmit_freeCtr (s : State) (k : Nat) (a : Admit) : (s.setAdmit k a).freeCtr = s.freeCtr := rfl
@[simp] theorem State.setAdmit_out (s : State) (k : Nat) (a : Admit) : (s.setAdmit k a).out = s.out := rfl

/-! setRingMode -/

@[simp] theorem State.setRingMode_pending (s : State) (k v : Nat) : (s.setRingMode k v).pending = s.pending := rfl
@[simp] theorem State.setRingMode_now (s : State) (k v : Nat) : (s.setRingMode k v).now = s.now := rfl
@[simp] theorem State.setRingMode_blobs (s : State) (k v : Nat) : (s.setRingMode k v).blobs = s.blobs := rfl
@[simp] theorem State.setRingMode_mode (s : State) (k v : Nat) : (s.setRingMode k v).mode = s.mode := rfl
@[simp] theorem State.setRingMode_flt (s : State) (k v : Nat) : (s.setRingMode k v).flt = s.flt := rfl
@[simp] theorem State.setRingMode_hold (s : State) (k v : Nat) : (s.setRingMode k v).hold = s.hold := rfl
@[simp] theorem State.setRingMode_boot (s : State) (k v : Nat) : (s.setRingMode k v).boot = s.boot := rfl
@[simp] theorem State.setRingMode_pins (s : State) (k v : Nat) : (s.setRingMode k v).pins = s.pins := rfl
@[simp] theorem State.setRingMode_conv (s : State) (k v : Nat) : (s.setRingMode k v).conv = s.conv := rfl
@[simp] theorem State.setRingMode_eng (s : State) (k v : Nat) : (s.setRingMode k v).eng = s.eng := rfl
@[simp] theorem State.setRingMode_fc (s : State) (k v : Nat) : (s.setRingMode k v).fc = s.fc := rfl
@[simp] theorem State.setRingMode_fab (s : State) (k v : Nat) : (s.setRingMode k v).fab = s.fab := rfl
@[simp] theorem State.setRingMode_pool (s : State) (k v : Nat) : (s.setRingMode k v).pool = s.pool := rfl
@[simp] theorem State.setRingMode_pecan (s : State) (k v : Nat) : (s.setRingMode k v).pecan = s.pecan := rfl
@[simp] theorem State.setRingMode_hist (s : State) (k v : Nat) : (s.setRingMode k v).hist = s.hist := rfl
@[simp] theorem State.setRingMode_stack (s : State) (k v : Nat) : (s.setRingMode k v).stack = s.stack := rfl
@[simp] theorem State.setRingMode_pow (s : State) (k v : Nat) : (s.setRingMode k v).pow = s.pow := rfl
@[simp] theorem State.setRingMode_dict (s : State) (k v : Nat) : (s.setRingMode k v).dict = s.dict := rfl
@[simp] theorem State.setRingMode_freeCtr (s : State) (k v : Nat) : (s.setRingMode k v).freeCtr = s.freeCtr := rfl
@[simp] theorem State.setRingMode_out (s : State) (k v : Nat) : (s.setRingMode k v).out = s.out := rfl

/-! updPart -/

@[simp] theorem State.updPart_pending (s : State) (r : PartRef) (f : PartSt → PartSt) : (s.updPart r f).pending = s.pending := rfl
@[simp] theorem State.updPart_now (s : State) (r : PartRef) (f : PartSt → PartSt) : (s.updPart r f).now = s.now := rfl
@[simp] theorem State.updPart_objs (s : State) (r : PartRef) (f : PartSt → PartSt) : (s.updPart r f).objs = s.objs := rfl
@[simp] theorem State.updPart_blobs (s : State) (r : PartRef) (f : PartSt → PartSt) : (s.updPart r f).blobs = s.blobs := rfl
@[simp] theorem State.updPart_mode (s : State) (r : PartRef) (f : PartSt → PartSt) : (s.updPart r f).mode = s.mode := rfl
@[simp] theorem State.updPart_flt (s : State) (r : PartRef) (f : PartSt → PartSt) : (s.updPart r f).flt = s.flt := rfl
@[simp] theorem State.updPart_hold (s : State) (r : PartRef) (f : PartSt → PartSt) : (s.updPart r f).hold = s.hold := rfl
@[simp] theorem State.updPart_boot (s : State) (r : PartRef) (f : PartSt → PartSt) : (s.updPart r f).boot = s.boot := rfl
@[simp] theorem State.updPart_pins (s : State) (r : PartRef) (f : PartSt → PartSt) : (s.updPart r f).pins = s.pins := rfl
@[simp] theorem State.updPart_conv (s : State) (r : PartRef) (f : PartSt → PartSt) : (s.updPart r f).conv = s.conv := rfl
@[simp] theorem State.updPart_eng (s : State) (r : PartRef) (f : PartSt → PartSt) : (s.updPart r f).eng = s.eng := rfl
@[simp] theorem State.updPart_fc (s : State) (r : PartRef) (f : PartSt → PartSt) : (s.updPart r f).fc = s.fc := rfl
@[simp] theorem State.updPart_fab (s : State) (r : PartRef) (f : PartSt → PartSt) : (s.updPart r f).fab = s.fab := rfl
@[simp] theorem State.updPart_pool (s : State) (r : PartRef) (f : PartSt → PartSt) : (s.updPart r f).pool = s.pool := rfl
@[simp] theorem State.updPart_hist (s : State) (r : PartRef) (f : PartSt → PartSt) : (s.updPart r f).hist = s.hist := rfl
@[simp] theorem State.updPart_stack (s : State) (r : PartRef) (f : PartSt → PartSt) : (s.updPart r f).stack = s.stack := rfl
@[simp] theorem State.updPart_pow (s : State) (r : PartRef) (f : PartSt → PartSt) : (s.updPart r f).pow = s.pow := rfl
@[simp] theorem State.updPart_dict (s : State) (r : PartRef) (f : PartSt → PartSt) : (s.updPart r f).dict = s.dict := rfl
@[simp] theorem State.updPart_freeCtr (s : State) (r : PartRef) (f : PartSt → PartSt) : (s.updPart r f).freeCtr = s.freeCtr := rfl
@[simp] theorem State.updPart_out (s : State) (r : PartRef) (f : PartSt → PartSt) : (s.updPart r f).out = s.out := rfl

end Sys2Proof.Machine
end

