-- ==== Sys2Proof/Laws/Ops.lean ====
section
/-! SUPPORT. What a record of the state reads after one of its named writes; what the shared word, node and queue operations do. -/

namespace Sys2Proof.Machine

/-! Objects -/

theorem State.num_setNum (s : State) (k j : Nat) (v : Int) : (s.setNum k v).num j = if j = k then v else s.num j :=
  smGet_smSet objDefault s.objs k j v

theorem State.nat_setNat (s : State) (k j v : Nat) : (s.setNat k v).nat j = if j = k then v else s.nat j := by
  unfold State.nat State.setNat
  rw [State.num_setNum]
  by_cases h : j = k <;> simp [h]

@[simp] theorem State.nat_setNat_same (s : State) (k v : Nat) : (s.setNat k v).nat k = v := by rw [State.nat_setNat, if_pos rfl]

theorem State.nat_setNat_ne (s : State) {k j : Nat} (v : Nat) (h : j ≠ k) : (s.setNat k v).nat j = s.nat j := by
  rw [State.nat_setNat, if_neg h]

theorem State.nat_count (s : State) (k j n : Nat) : (s.count k n).nat j = if j = k then (s.nat k + n) % 2 ^ 32 else s.nat j :=
  State.nat_setNat s k j _

theorem State.nat_count64 (s : State) (k j n : Nat) : (s.count64 k n).nat j = if j = k then (s.nat k + n) % 2 ^ 64 else s.nat j :=
  State.nat_setNat s k j _

theorem State.blob_setBlob (s : State) (k j : Nat) (v : List Nat) : (s.setBlob k v).blob j = if j = k then v else s.blob j :=
  smGet_smSet blobDefault s.blobs k j v

@[simp] theorem State.nat_emit (s : State) (o : Output) (k : Nat) : (s.emit o).nat k = s.nat k := rfl
@[simp] theorem State.nat_at (s : State) (t k : Nat) : (s.at t).nat k = s.nat k := rfl

/-! Records -/

theorem State.word_setWord (s : State) (w x : Nat) (v : PWord) : (s.setWord w v).word x = if x = w then v else s.word x :=
  smGet_smSet _ s.pool.words w x v
theorem State.desc_setDesc (s : State) (w x : Nat) (v : WDesc) : (s.setDesc w v).desc x = if x = w then v else s.desc x :=
  smGet_smSet _ s.pool.descs w x v
theorem State.dom_setDom (s : State) (w x : Nat) (v : Dom) : (s.setDom w v).dom x = if x = w then v else s.dom x :=
  smGet_smSet _ s.pool.doms w x v
theorem State.weight_setWeight (s : State) (w x v : Nat) : (s.setWeight w v).weight x = if x = w then v else s.weight x :=
  smGet_smSet _ s.pool.weights w x v
theorem State.lane_setLane (s : State) (w x : Nat) (v : LaneSt) : (s.setLane w v).lane x = if x = w then v else s.lane x :=
  smGet_smSet _ s.fab.lanes w x v
theorem State.flow_setFlow (s : State) (w x : Nat) (v : FlowSt) : (s.setFlow w v).flow x = if x = w then v else s.flow x :=
  smGet_smSet _ s.fab.flows w x v
theorem State.arr_setArr (s : State) (w x : Nat) (v : ArrSt) : (s.setArr w v).arr x = if x = w then v else s.arr x :=
  smGet_smSet _ s.pecan.arrays w x v
theorem State.prog_setProg (s : State) (w x : Nat) (v : ProgSt) : (s.setProg w v).prog x = if x = w then v else s.prog x :=
  smGet_smSet _ s.pecan.progs w x v
theorem State.slot_setSlot (s : State) (w x : Nat) (v : SlotSt) : (s.setSlot w v).slot x = if x = w then v else s.slot x :=
  smGet_smSet _ s.pecan.slots w x v
theorem State.phase_setPhase (s : State) (w x : Nat) (v : PhaseSt) : (s.setPhase w v).phase x = if x = w then v else s.phase x :=
  smGet_smSet _ s.conv.phases w x v
theorem State.rail_setRail (s : State) (w x : Nat) (v : RailSt) : (s.setRail w v).rail x = if x = w then v else s.rail x :=
  smGet_smSet _ s.pow.rails w x v
theorem State.diePt_setDiePt (s : State) (w x : Nat) (v : DiePt) : (s.setDiePt w v).diePt x = if x = w then v else s.diePt x :=
  smGet_smSet _ s.pow.dies w x v
theorem State.chan_setChan (s : State) (w x : Nat) (v : ChanSt) : (s.setChan w v).chan x = if x = w then v else s.chan x :=
  smGet_smSet _ s.pow.chans w x v
theorem State.rect_setRect (s : State) (w x : Nat) (v : RectSt) : (s.setRect w v).rect x = if x = w then v else s.rect x :=
  smGet_smSet _ s.eng.rects w x v
theorem State.port_setPort (s : State) (w x : Nat) (v : PortSt) : (s.setPort w v).port x = if x = w then v else s.port x :=
  smGet_smSet _ s.fc.ports w x v
theorem State.estCell_setEstCell (s : State) (w x : Nat) (v : EstCell) : (s.setEstCell w v).estCell x = if x = w then v else s.estCell x :=
  smGet_smSet _ s.stack.est w x v
theorem State.queue_setQueue (s : State) (w x : Nat) (v : List HEntry) : (s.setQueue w v).queue x = if x = w then v else s.queue x :=
  smGet_smSet _ s.flt.queues w x v

/-- Ring 0 stands for string 1, every other index for string 2. -/
theorem State.ring_setRing (s : State) (k j : Nat) (v : RingSt) :
    (s.setRing k v).ring j = if (j = 0 ↔ k = 0) then v else s.ring j := by
  unfold State.setRing State.ring
  by_cases hk : k = 0 <;> by_cases hj : j = 0 <;> simp [hk, hj]

theorem State.str_setStr (s : State) (k j : Nat) (v : StringSt) :
    (s.setStr k v).str j = if (j = 0 ↔ k = 0) then v else s.str j := by
  unfold State.setStr State.str
  by_cases hk : k = 0 <;> by_cases hj : j = 0 <;> simp [hk, hj]

/-! Many writes in turn -/

@[simp] theorem State.forEach_nil {α : Type} (s : State) (f : State → α → State) : s.forEach [] f = s := rfl
@[simp] theorem State.forEach_cons {α : Type} (s : State) (a : α) (l : List α) (f : State → α → State) :
    s.forEach (a :: l) f = (f s a).forEach l f := rfl

/-- What each write leaves alone, all of them leave alone. -/
theorem State.forEach_frame {α β : Type} (p : State → β) (f : State → α → State) (h : ∀ s a, p (f s a) = p s) (l : List α) :
    ∀ s : State, p (s.forEach l f) = p s := by
  induction l with
  | nil => intro s; rfl
  | cons a l ih => intro s; rw [State.forEach_cons, ih, h]

/-! Watches and words: R145, R147 -/

theorem State.sendFlow_pool (s : State) (key : Nat) (f : Frame) (w : Option Nat) : (s.sendFlow key f w).pool = s.pool := by
  unfold State.sendFlow
  dsimp only
  repeat' split
  all_goals rfl

theorem State.sendReturn_pool (s : State) (shelf ep vc : Nat) (f : Frame) (w : Option Nat) : (s.sendReturn shelf ep vc f w).pool = s.pool := by
  unfold State.sendReturn
  repeat' split
  all_goals first | rfl | exact State.sendFlow_pool ..

theorem State.sendFlow_objs (s : State) (key : Nat) (f : Frame) (w : Option Nat) : (s.sendFlow key f w).objs = s.objs := by
  unfold State.sendFlow
  dsimp only
  repeat' split
  all_goals rfl

theorem State.sendReturn_objs (s : State) (shelf ep vc : Nat) (f : Frame) (w : Option Nat) : (s.sendReturn shelf ep vc f w).objs = s.objs := by
  unfold State.sendReturn
  repeat' split
  all_goals first | rfl | exact State.sendFlow_objs ..

/-- A watch that fires changes its own descriptor only; the words stay. -/
theorem State.fireWatch_words (s : State) (v : Nat) (w : PWord) : (s.fireWatch v w).pool.words = s.pool.words := by
  unfold State.fireWatch
  dsimp only
  split
  · rfl
  · rw [State.sendReturn_pool]; rfl

/-- A one-shot watch that fires is Free, a persistent one stays armed (R148). -/
theorem State.fireWatch_armed (s : State) (v : Nat) (w : PWord) : ((s.fireWatch v w).desc v).armed = (s.desc v).persistent := by
  unfold State.fireWatch
  dsimp only
  split
  · show ((State.setDesc s v _).desc v).armed = _
    rw [State.desc_setDesc, if_pos rfl]
  · have : ∀ (t : State) (a b c : Nat) (f : Frame) (o : Option Nat), ((t.sendReturn a b c f o).desc v) = t.desc v := by
      intro t a b c f o; unfold State.desc; rw [State.sendReturn_pool]
    rw [this, State.desc_setDesc, if_pos rfl]

theorem State.evalWatches_words (s : State) (w : Nat) (a b : PWord) : (s.evalWatches w a b).pool.words = s.pool.words := by
  unfold State.evalWatches
  generalize s.watchesOf w = l
  induction l generalizing s with
  | nil => rfl
  | cons v l ih =>
    rw [List.foldl_cons, ih]
    dsimp only
    split
    · exact State.fireWatch_words ..
    · rfl

/-- A word written reads as written, whatever watches fire; every other word stays. -/
theorem State.word_putWord (s : State) (w x : Nat) (p : PWord) : (s.putWord w p).word x = if x = w then p else s.word x := by
  unfold State.putWord
  dsimp only
  split
  · exact State.word_setWord ..
  · rw [← State.word_setWord]; unfold State.word; rw [State.evalWatches_words]

/-- A completed node holds 0 in its next episode (R151). -/
theorem State.word_nodeReset (s : State) (w x : Nat) : (s.nodeReset w).word x =
    if x = w then { s.word w with data := 0, gen := ((s.word w).gen + 1) % 65536 } else s.word x := State.word_putWord ..

theorem State.word_nodeCount (s : State) (w n x : Nat) : (s.nodeCount w n).word x = if x = w then { s.word w with data := n } else s.word x :=
  State.word_putWord ..

end Sys2Proof.Machine
end

