-- ==== Sys2Proof/Laws/Slot.lean ====
section
/-! SUPPORT. What a slot operation of an array does, said once, and the reads of an array's registers after a write. -/

namespace Sys2Proof.Machine

/-- No flag raised, nothing changes. -/
@[simp] theorem State.raiseFlags_zero (s : State) (g : Nat) (r : PartRef) : s.raiseFlags g r 0 = s := by simp [State.raiseFlags]

/-- Everything a slot operation can do where the part may issue it. -/
theorem State.slotOp_issues {s : State} {g : Nat} {reads : List Nat} {r : PartRef} {q : PartSt} {x : ArrSt}
    (h : s.issues g reads r q x) (f : ArrSt → PartSt → Except Nat (ArrSt × Nat)) :
    s.slotOp g reads f = match f x q with
      | .error e => (s.setArr g x).stopNow r.handle e pgStopped
      | .ok y => (s.setArr g y.1).raiseFlags g r y.2 := by
  obtain ⟨h1, h2, h3, h4, h5⟩ := h
  have h6 : ¬((s.arr g).waitf.isSome = true ∨ q.decl.declared ≤ (s.arr g).cyc) := by
    rw [h2]; simp only [Option.isSome_none, Bool.false_eq_true, false_or]; omega
  have h7 : ¬ q.decl.declared ≤ (s.arr g).readyFor reads := by
    rw [h4] at h5; exact Nat.not_le.mpr h5
  unfold State.slotOp
  rw [h1]
  show (if (s.arr g).waitf.isSome = true ∨ q.decl.declared ≤ (s.arr g).cyc then s
    else if q.decl.declared ≤ (s.arr g).readyFor reads then s.setArr g ((s.arr g).atCycle ((s.arr g).readyFor reads))
    else match f ((s.arr g).atCycle ((s.arr g).readyFor reads)) q with
      | .error e => (s.setArr g ((s.arr g).atCycle ((s.arr g).readyFor reads))).stopNow r.handle e pgStopped
      | .ok y => (s.setArr g y.1).raiseFlags g r y.2) = _
  rw [if_neg h6, if_neg h7, ← h4]

/-- A slot operation that neither stops the part nor raises a flag. -/
theorem State.slotPure_issues {s : State} {g : Nat} {reads : List Nat} {r : PartRef} {q : PartSt} {x : ArrSt}
    (h : s.issues g reads r q x) (f : ArrSt → ArrSt) : s.slotPure g reads f = s.setArr g (f x) := by
  unfold State.slotPure
  rw [State.slotOp_issues h]
  simp

/-- A scalar operation. -/
theorem State.scalarOp_issues {s : State} {g : Nat} {reads : List Nat} {r : PartRef} {q : PartSt} {x : ArrSt}
    (h : s.issues g reads r q x) (d : Nat) (f : ArrSt → Flagged Nat) :
    s.scalarOp g reads d f = (s.setArr g (x.scalarDone d (f x).1)).raiseFlags g r (f x).2 := by
  unfold State.scalarOp
  rw [State.slotOp_issues h]
  simp only [ArrSt.advance, ArrSt.busy, ArrSt.setS, ArrSt.scalarDone]
  by_cases hd : d = 0 <;> simp [hd]

theorem ArrSt.setS_sreg (a : ArrSt) (i v j : Nat) :
    (a.setS i v).sreg j = if j = 0 then 0 else if j = i then v % 2 ^ 32 else a.sreg j := by
  unfold ArrSt.setS ArrSt.sreg
  by_cases hi : i = 0
  · subst hi; by_cases hj : j = 0 <;> simp [hj]
  · by_cases hj : j = 0
    · simp [hj]
    · simp [hi, hj, smGet_smSet]

theorem setVec_get (d : Nat) (v : List Nat) : ∀ (m : List (Nat × Nat)) (n k : Nat),
    smGet (fun _ => 0) ((v.zipIdx n).foldl (fun m x => smSet (fun _ => 0) m (d + x.2) (x.1 % 2 ^ 32)) m) k =
      if d + n ≤ k ∧ k < d + n + v.length then v.getD (k - d - n) 0 % 2 ^ 32 else smGet (fun _ => 0) m k := by
  induction v with
  | nil =>
    intro m n k
    rw [if_neg (by rw [List.length_nil]; omega)]
    rfl
  | cons a v ih =>
    intro m n k
    rw [List.zipIdx_cons, List.foldl_cons, ih, smGet_smSet, List.length_cons]
    by_cases h1 : k = d + n
    · subst h1
      rw [if_neg (by omega), if_pos rfl, if_pos (by omega)]
      simp
    · by_cases h2 : d + (n + 1) ≤ k ∧ k < d + (n + 1) + v.length
      · rw [if_pos h2, if_pos (by omega)]
        have : k - d - n = (k - d - (n + 1)) + 1 := by omega
        rw [this, List.getD_cons_succ]
      · rw [if_neg h2, if_neg h1, if_neg (by omega)]

/-- Lines read where they lie in the part and none is poisoned. -/
theorem ArrSt.partLines_sound {x : ArrSt} {q : PartSt} {rel n : Nat} (h : x.sound q rel n) :
    x.partLines q rel n = .ok ((List.range n).map (x.own q rel)) := by
  obtain ⟨h1, h2⟩ := h
  unfold ArrSt.partLines
  rw [if_neg (by omega)]
  simp only
  rw [if_neg]
  · simp [ArrSt.own]
  · simp only [List.any_eq_true, List.mem_map, List.mem_range]
    rintro ⟨l, ⟨i, hi, rfl⟩, hl⟩
    rw [h2 i hi] at hl
    cases hl

/-- Lines outside the part. -/
theorem ArrSt.partLines_out {x : ArrSt} {q : PartSt} {rel n : Nat} (h : q.decl.storeLines < rel + n) :
    x.partLines q rel n = .error 0x7A := by
  unfold ArrSt.partLines; rw [if_pos h]

theorem ArrSt.putLines_in {x : ArrSt} {q : PartSt} {rel : Nat} {ls : List (List Nat)} (h : rel + ls.length ≤ q.decl.storeLines) :
    x.putLines q rel ls = .ok (x.withLines q rel ls) := by
  unfold ArrSt.putLines; rw [if_neg (by omega)]; rfl

theorem ArrSt.putLines_out {x : ArrSt} {q : PartSt} {rel : Nat} {ls : List (List Nat)} (h : q.decl.storeLines < rel + ls.length) :
    x.putLines q rel ls = .error 0x7A := by
  unfold ArrSt.putLines; rw [if_pos h]

theorem ArrSt.putBytes_in {x : ArrSt} {q : PartSt} {rel b : Nat} {v : List Nat} (h : rel < q.decl.storeLines) :
    x.putBytes q rel b v = .ok (x.withBytes q rel b v) := by
  unfold ArrSt.putBytes; rw [if_neg (by omega)]; rfl

theorem ArrSt.putBytes_out {x : ArrSt} {q : PartSt} {rel b : Nat} {v : List Nat} (h : q.decl.storeLines < rel + 1) :
    x.putBytes q rel b v = .error 0x7A := by
  unfold ArrSt.putBytes; rw [if_pos (by omega)]

theorem ArrSt.setLine_line (x : ArrSt) (l : Nat) (v : List Nat) {k : Nat} (h : k ≠ l) : (x.setLine l v).line k = x.line k := by
  unfold ArrSt.setLine ArrSt.line; exact smGet_smSet_ne _ _ _ h

theorem ArrSt.withBytes_line (x : ArrSt) (q : PartSt) (rel b : Nat) (w : List Nat) {l : Nat} (h : l ≠ q.base + rel) :
    (x.withBytes q rel b w).line l = x.line l := by
  unfold ArrSt.withBytes ArrSt.line; exact smGet_smSet_ne _ _ _ h

theorem ArrSt.withLines_line (x : ArrSt) (q : PartSt) (rel : Nat) (ls : List (List Nat)) {l : Nat}
    (h : l < q.base + rel ∨ q.base + rel + ls.length ≤ l) : (x.withLines q rel ls).line l = x.line l := by
  have key : ∀ (ls : List (List Nat)) (n : Nat) (x : ArrSt), (l < q.base + rel + n ∨ q.base + rel + n + ls.length ≤ l) →
      ((ls.zipIdx n).foldl (fun a e => a.setLine (q.base + rel + e.2) e.1) x).line l = x.line l := by
    intro ls
    induction ls with
    | nil => intro n x _; rfl
    | cons a ls ih =>
      intro n x h
      simp only [List.length_cons] at h
      rw [List.zipIdx_cons, List.foldl_cons, ih (n + 1) _ (by omega), ArrSt.setLine_line _ _ _ (by omega)]
  exact key ls 0 x (by simpa using h)

/-- What a vector operation does. -/
theorem State.vecOp_issues {s : State} {g : Nat} {reads : List Nat} {r : PartRef} {q : PartSt} {x : ArrSt}
    (h : s.issues g reads r q x) (d lat : Nat) (f : ArrSt → Flagged (List Nat)) (v : Nat → Nat) (hv : (f x).1 = (List.range 64).map v) :
    s.vecOp g reads d lat f = (s.setArr g (x.vecDone d lat v)).raiseFlags g r (f x).2 := by
  unfold State.vecOp
  rw [State.slotOp_issues h]
  simp only [hv]
  rfl

theorem joinFlags_range (n : Nat) (f : Nat → Flagged Nat) :
    joinFlags ((List.range n).map f) = ((List.range n).map (fun l => (f l).1), (List.range n).foldl (fun m l => m ||| (f l).2) 0) := by
  unfold joinFlags; simp [List.foldl_map]

/-- A lane-wise operation on two registers. -/
theorem State.vec2_issues {s : State} {g a b : Nat} {r : PartRef} {q : PartSt} {x : ArrSt}
    (h : s.issues g [16 + a, 16 + b] r q x) (d lat : Nat) (f : Nat → Nat → Flagged Nat) :
    s.vec2 g d a b lat f = (s.setArr g (x.vecDone d lat (fun l => (f (x.lane a l) (x.lane b l)).1))).raiseFlags g r
      (lanesFlags (fun l => f (x.lane a l) (x.lane b l))) := by
  have e : List.zipWith f (x.vec a) (x.vec b) = (List.range 64).map (fun l => f (x.lane a l) (x.lane b l)) := by
    simp only [ArrSt.vec, List.zipWith_map, List.zipWith_self]
  unfold State.vec2
  rw [State.vecOp_issues h d lat _ (fun l => (f (x.lane a l) (x.lane b l)).1) (by rw [e, joinFlags_range])]
  rw [e, joinFlags_range, lanesFlags]

/-- A lane-wise operation on one register. -/
theorem State.vec1_issues {s : State} {g a : Nat} {r : PartRef} {q : PartSt} {x : ArrSt}
    (h : s.issues g [16 + a] r q x) (d lat : Nat) (f : Nat → Flagged Nat) :
    s.vec1 g d a lat f = (s.setArr g (x.vecDone d lat (fun l => (f (x.lane a l)).1))).raiseFlags g r
      (lanesFlags (fun l => f (x.lane a l))) := by
  have e : (x.vec a).map f = (List.range 64).map (fun l => f (x.lane a l)) := by simp [ArrSt.vec, Function.comp_def]
  unfold State.vec1
  rw [State.vecOp_issues h d lat _ (fun l => (f (x.lane a l)).1) (by rw [e, joinFlags_range])]
  rw [e, joinFlags_range, lanesFlags]

/-- A load of the M slot. -/
theorem State.loadOp_issues {s : State} {g a offset n : Nat} {reads : List Nat} {r : PartRef} {q : PartSt} {x : ArrSt}
    (h : s.issues g (a :: reads) r q x) (hs : x.sound q ((x.sreg a + offset) % 2 ^ 32) n) (f : ArrSt → List Nat → ArrSt) :
    s.loadOp g a offset n reads f = s.setArr g (f x ((List.range n).map (x.own q ((x.sreg a + offset) % 2 ^ 32))).flatten) := by
  unfold State.loadOp
  rw [State.slotOp_issues h]
  simp only [ArrSt.addr, ArrSt.partLines_sound hs, State.raiseFlags_zero]

/-- A load outside the part. -/
theorem State.loadOp_out {s : State} {g a offset n : Nat} {reads : List Nat} {r : PartRef} {q : PartSt} {x : ArrSt}
    (h : s.issues g (a :: reads) r q x) (hs : q.decl.storeLines < (x.sreg a + offset) % 2 ^ 32 + n) (f : ArrSt → List Nat → ArrSt) :
    s.loadOp g a offset n reads f = (s.setArr g x).stopNow r.handle 0x7A pgStopped := by
  unfold State.loadOp
  rw [State.slotOp_issues h]
  simp only [ArrSt.addr, ArrSt.partLines_out hs]

end Sys2Proof.Machine
end

