-- ==== Sys2Proof/WellFormed.lean ====
section
/-! DEFINITION. Well-formed commands: every operand within the width that its field or object has in the spec. A meaning runs on any
operands; WellFormed says which commands the interfaces of the module can carry. -/

namespace Sys2Proof

/-- A number of `n` bits. -/
def isU (n v : Nat) : Bool := decide (v < 2 ^ n)

/-- Bytes. -/
def isBytes (l : List Nat) : Bool := l.all (isU 8)

/-- A role as a frame or a mailbox can name it: tenant tags are 0x01 to 0xFE (Table 4.2). -/
def isRole : Role → Bool
  | .tenant g => decide (1 ≤ g) && decide (g ≤ 254)
  | .operator | .service | .vendor | .agent => true

/-- A Brucel frame whose fields fit Table 4.2. -/
def Frame.wf (f : Frame) : Bool :=
  isU 2 f.vc && isU 2 f.age && isU 8 f.op && isU 8 f.tenant && isU 8 f.srcShelf && isU 16 f.srcEp && isU 8 f.result && isU 16 f.seq &&
    isU 16 f.tid && isU 2 f.signalOp && isU 18 f.signalWord && isU 16 f.gen && isU 64 f.addr && isU 64 f.operand && isBytes f.payload &&
    decide (f.payload.length ≤ 4095)

/-- The 54 latched streams (R320). -/
def TickIn.wf (x : TickIn) : Bool :=
  decide (x.raw.length = 54) && isU 2 x.readA && isU 2 x.readB && (match x.senseDiff with
    | some c => decide (c < 54)
    | none => true)

/-- The bit string of a TAP data register. -/
def isBits (l : List Nat) : Bool := l.all (isU 1)

/-- What an uncorrectable error names exists (R288). -/
def BadBlock.wf : BadBlock → Bool
  | .ring c l _ _ => isU 16 c && isU 3 l
  | .part o => isU 35 o
  | .image h => isU 7 h
  | .slot n => isU 4 n

/-- A path that a dictionary write takes by itself. -/
def isWritePath : Path → Bool
  | .coe | .mirror | .process => true
  | .config | .broadcast => false

/-- Every operand is within its width. -/
def WellFormed : Instr → Bool
  | .energise _ role => isRole role
  | .shape _ role => isRole role
  | .unshape _ role => isRole role
  | .deEnergise _ role => isRole role
  | .ship _ role => isRole role
  | .restartFromSeedOrSafe _ role => isRole role
  | .registerWrite _ path role idx sub val => isWritePath path && isRole role && isU 16 idx && isU 8 sub && isBytes val
  | .completeAccessWrite _ role idx vals => isRole role && isU 16 idx && vals.all (fun e => isU 8 e.1 && isBytes e.2)
  | .controlTick _ inp => inp.wf
  | .stringShareUpdate _ => true
  | .setpointFrame _ _ => true
  | .setpointFrameError _ _ => true
  | .rectifierReport _ _ _ id bytes => isU 11 id && isBytes bytes
  | .reportDeadline _ _ => true
  | .canBusOff _ _ => true
  | .handoverInjection _ => true
  | .releaseFeedforward _ _ => true
  | .instanceCommit _ role _ => isRole role
  | .instanceSwap _ _ => true
  | .traceStop _ role => isRole role
  | .traceArmSingle _ role => isRole role
  | .traceArmNormal _ role => isRole role
  | .traceForceTrigger _ role => isRole role
  | .traceSample _ => true
  | .traceRearm _ _ => true
  | .clampHeldAssert _ => true
  | .reserveEnd _ => true
  | .pwmHalfPeriod _ _ _ => true
  | .cycleByCycleLimit _ _ _ => true
  | .persistentCurrentLimit _ _ => true
  | .stringOverCurrent _ _ => true
  | .busOverVoltage _ _ => true
  | .busUnderVoltage _ => true
  | .gateDriverFault _ _ => true
  | .streamFault _ _ => true
  | .phaseShed _ _ => true
  | .muxHoldExpiry _ => true
  | .muxChangeover _ => true
  | .contactorFeedbackChange _ _ _ _ => true
  | .closeTimeout _ _ => true
  | .prechargeCheck1 _ _ => true
  | .prechargeCheck2 _ _ => true
  | .prechargeTimeout _ _ => true
  | .breakWaitTimeout _ _ => true
  | .openTimeout _ _ => true
  | .phaseClear _ role n => isRole role && isU 8 n
  | .lockoutClear _ role _ v => isRole role && isU 8 v
  | .feedPresent _ _ => true
  | .feedsRemoved _ => true
  | .oneFeedLost _ _ => true
  | .supplyLossContactorRelease _ => true
  | .safePoint _ => true
  | .shelfReset _ => true
  | .shelfResetRelease _ => true
  | .protectorTrip _ => true
  | .coolantSeated _ => true
  | .coolantInterlockLost _ => true
  | .supplyAlert _ => true
  | .alertHoldEnd _ => true
  | .wakeLatchSet _ => true
  | .discreteInputUpdate _ _ _ => true
  | .cageAssemblyRead _ _ _ _ _ => true
  | .aliveToggle _ _ => true
  | .otherHalfAliveTimeout _ _ => true
  | .halfLevelReport _ _ => true
  | .crossLinkSilence _ => true
  | .oscillatorLost _ _ => true
  | .authorityTransferRequest _ role v => isRole role && isU 8 v
  | .eligibilityExchange _ => true
  | .winnerLatchSet _ => true
  | .fallbackLatchSet _ => true
  | .holdTimeout _ => true
  | .crossLinkDown _ _ => true
  | .channelRestored _ _ => true
  | .domainOnRequest _ _ => true
  | .domainOffRequest _ _ _ => true
  | .powerGoodTimeout _ _ => true
  | .pcsLock _ _ => true
  | .linkInitTimer _ _ => true
  | .linkInit _ _ f => f.wf
  | .linkCredit _ _ f => f.wf
  | .creditReturnTimer _ _ => true
  | .timeSync _ _ f => f.wf
  | .timeSyncExchange _ => true
  | .timeSyncReply _ _ f => f.wf
  | .hallTimeSet _ role v _ => isRole role && isU 64 v
  | .flowFrameReceive _ _ _ _ _ bytes => isBytes bytes
  | .ack _ _ f => f.wf
  | .ackTimer _ flow => decide (flow < 1280)
  | .flowReset _ _ f => f.wf
  | .retryTimeout _ flow seq => decide (flow < 1280) && isU 16 seq
  | .routeDownTimeout _ flow => decide (flow < 1280)
  | .laneDown _ _ _ _ => true
  | .transmitSelect _ _ => true
  | .framePromotion _ _ _ => true
  | .read _ _ f => f.wf
  | .write _ _ fs => fs.all Frame.wf
  | .returnFrame _ f => f.wf
  | .broadcastReceive _ _ f => f.wf
  | .writeIfEmptyFill _ f => f.wf
  | .consume _ f => f.wf
  | .readLeaveFull _ f => f.wf
  | .forcedWrite _ f => f.wf
  | .fetchAdd _ f => f.wf
  | .compareSwap _ f => f.wf
  | .arrive _ f => f.wf
  | .release _ f => f.wf
  | .watchRegister _ f => f.wf
  | .watchCancel _ f => f.wf
  | .poolScan _ single bad badDesc => single.all (isU 18) && bad.all (isU 18) && badDesc.all (isU 16)
  | .tenantOpen _ role _ => isRole role
  | .tenantClose _ role _ => isRole role
  | .tenantForceClose _ role _ => isRole role
  | .clearQuarantine _ role _ => isRole role
  | .allocateWords _ role _ req => isRole role && isBytes req
  | .freeWords _ role _ req => isRole role && isBytes req
  | .declareQueue _ role _ req => isRole role && isBytes req
  | .undeclareQueue _ role _ req => isRole role && isBytes req
  | .allocateDescriptors _ role _ req => isRole role && isBytes req
  | .freeDescriptors _ role _ req => isRole role && isBytes req
  | .wordSet _ role val => isRole role && isBytes val
  | .domainCreate _ role desc => isRole role && isBytes desc
  | .domainPrepare _ shelf val => isU 8 shelf && isBytes val
  | .domainCommit _ shelf val => isU 8 shelf && isBytes val
  | .domainOpen _ shelf val => isU 8 shelf && isBytes val
  | .domainAbort _ shelf val => isU 8 shelf && isBytes val
  | .domainCloseNotice _ shelf val => isU 8 shelf && isBytes val
  | .domainBrokenNotice _ shelf val => isU 8 shelf && isBytes val
  | .peerTimeout _ => true
  | .prepareExpiry _ _ => true
  | .domainClose _ role id => isRole role && isU 16 id
  | .trayNodeFree _ _ => true
  | .waveInterval _ => true
  | .weightUpdate _ _ _ _ => true
  | .arrayWakeStart _ _ => true
  | .arrayWakeDone _ _ _ => true
  | .arraySelfTest _ _ _ => true
  | .arrayFault _ _ cause => decide (1 ≤ cause) && decide (cause ≤ 9)
  | .arrayReturnToService _ role _ => isRole role
  | .arrayOutOfService _ role _ => isRole role
  | .dieLinkDown _ _ => true
  | .dieLinkRetrain _ _ _ => true
  | .dieLinkRestored _ _ => true
  | .sNop _ _ => true
  | .sAddi _ _ _ imm => isU 16 imm
  | .sAdd _ _ _ _ => true
  | .sSub _ _ _ _ => true
  | .sAnd _ _ _ _ => true
  | .sOr _ _ _ _ => true
  | .sXor _ _ _ _ => true
  | .sAndi _ _ _ imm => isU 16 imm
  | .sShl _ _ _ _ => true
  | .sShr _ _ _ _ => true
  | .sMovhi _ _ imm => isU 16 imm
  | .sLoop _ _ target => isU 12 target
  | .sBr _ target => isU 12 target
  | .sBrz _ _ target => isU 12 target
  | .sBrnz _ _ target => isU 12 target
  | .sBrlt _ _ _ target => isU 12 target
  | .sSkip _ n => isU 12 n
  | .sWaitf _ _ _ => true
  | .sWaitfSatisfied _ => true
  | .sYield _ _ => true
  | .sEnd _ _ => true
  | .sRdsys _ _ sel => isU 8 sel
  | .sPhase _ _ => true
  | .setmode _ _ _ _ _ => true
  | .setref _ _ _ => true
  | .tileload _ _ offset _ => isU 14 offset
  | .wsvec _ _ offset _ => isU 14 offset
  | .osrun _ _ _ _ => true
  | .drain _ _ offset => isU 14 offset
  | .edgest _ _ offset => isU 14 offset
  | .edgeclr _ => true
  | .loadcurve _ _ => true
  | .vadd _ _ _ _ => true
  | .vsub _ _ _ _ => true
  | .vmin _ _ _ _ => true
  | .vmax _ _ _ _ => true
  | .vcmp _ _ _ _ _ => true
  | .vsel _ _ _ _ _ => true
  | .vlogic _ _ _ _ _ => true
  | .vshl _ _ _ _ => true
  | .vshr _ _ _ _ => true
  | .vmul _ _ _ _ _ => true
  | .vmac _ _ _ _ _ => true
  | .vglmul _ _ _ _ _ => true
  | .vglcmp _ _ _ _ _ _ => true
  | .vcvt _ _ _ _ _ _ => true
  | .vlut _ _ _ _ _ => true
  | .vred _ _ _ _ => true
  | .vmovs _ _ _ => true
  | .vext _ _ _ _ _ => true
  | .vidx _ _ => true
  | .vld _ _ _ offset => isU 14 offset
  | .vst _ _ _ offset => isU 14 offset
  | .vld8 _ _ _ offset _ => isU 14 offset
  | .vst8 _ _ _ offset _ => isU 14 offset
  | .vldx _ _ _ offset => isU 14 offset
  | .vstx _ _ _ offset => isU 14 offset
  | .expld _ _ offset _ => isU 14 offset
  | .tload _ _ _ offset => isU 14 offset
  | .xfer _ _ offset => isU 14 offset
  | .xferComplete _ _ _ => true
  | .sld _ _ _ offset => isU 14 offset
  | .sst _ _ _ offset => isU 14 offset
  | .slotOpen _ role _ => isRole role
  | .slotVerify _ role _ => isRole role
  | .slotVerificationComplete _ _ => true
  | .slotDiscard _ role _ => isRole role
  | .loadRequest _ role req => isRole role && isBytes req
  | .loadComplete _ => true
  | .programStart _ role _ => isRole role
  | .programStop _ role _ => isRole role
  | .programUnload _ role _ => isRole role
  | .programRunNow _ role _ => isRole role
  | .fastTick _ => true
  | .tickOverrun _ _ => true
  | .sliceOverrun _ _ => true
  | .periodicTrigger _ _ => true
  | .schedulerTick _ => true
  | .ringSlotAdvance _ ch => isU 16 ch
  | .channelDefine _ role req => isRole role && isBytes req
  | .channelDelete _ role req => isRole role && isBytes req
  | .ringDeleteComplete _ ch => isU 16 ch
  | .channelQuery _ role req => isRole role && isBytes req
  | .channelSetGrants _ role req => isRole role && isBytes req
  | .windowDefine _ role req => isRole role && isBytes req
  | .windowFree _ role req => isRole role && isBytes req
  | .windowQuery _ role req => isRole role && isBytes req
  | .stackFailure _ _ _ => true
  | .patrolScrub _ _ _ rows bad _ => rows.all (isU 29) && (match bad with | some b => b.wf | none => true)
  | .forecasterBind _ role h => isRole role && isU 16 h
  | .portPublication _ _ _ _ bytes => isBytes bytes
  | .binEvaluation _ => true
  | .measurementCycle _ _ _ => true
  | .ringCommandIssue _ _ => true
  | .ringResponse _ _ bytes => isBytes bytes
  | .ringFrameReturn _ _ _ bytes => isBytes bytes
  | .responseTimeout _ _ => true
  | .ringBreak _ _ => true
  | .ringClose _ _ => true
  | .linkPulse _ _ _ => true
  | .sliceReenumerate _ _ => true
  | .stackMeasurementFault _ _ => true
  | .stringReconnect _ _ => true
  | .balanceInterval _ => true
  | .estimatorUpdate _ _ _ => true
  | .limitUpdate _ => true
  | .socReportUpdate _ => true
  | .estimatorCompare _ _ => true
  | .persistentStateWrite _ => true
  | .lifetimeUpdate _ _ => true
  | .calibrationStart _ role v => isRole role && isU 8 v
  | .calibrationAbort _ role => isRole role
  | .calibrationPhaseEnd _ => true
  | .calibrationTimeout _ => true
  | .ocvTableWrite _ role bytes => isRole role && isBytes bytes
  | .lifetimeClear _ role _ v => isRole role && isU 8 v
  | .railHiccup _ _ => true
  | .railRetry _ _ => true
  | .railOverVoltage _ _ => true
  | .railPowerGood _ _ => true
  | .railTargetReached _ _ => true
  | .railPhaseShed _ _ => true
  | .railPhaseAdd _ _ => true
  | .railClear _ role _ v => isRole role && isU 8 v
  | .pointEvaluation _ railMilliamps => decide (railMilliamps.length = 16)
  | .pointEarlyRise _ _ => true
  | .pointHoldExpiry _ _ => true
  | .powerLimitCheck _ => true
  | .railCalibration _ _ _ _ _ => true
  | .energyInterval _ => true
  | .railRecoveryEnd _ _ => true
  | .housekeepingReading _ _ _ => true
  | .throttleRelax _ _ => true
  | .blockAcknowledge _ role _ v => isRole role && isU 8 v
  | .acknowledgeAll _ role v => isRole role && isU 8 v
  | .blockReturnToService _ role _ v => isRole role && isU 8 v
  | .blockTestComplete _ _ _ => true
  | .interruptTestPulse _ _ _ => true
  | .recoveryWindowEnd _ => true
  | .bootStageComplete _ _ _ _ => true
  | .bootTimeout _ => true
  | .bootRestart _ => true
  | .rectifierAnswerTimeout _ => true
  | .softStartComplete _ => true
  | .softStartTimeout _ => true
  | .deenergiseTimeout _ => true
  | .escStateRequest _ _ => true
  | .smWatchdog _ => true
  | .sdoInformation _ role => isRole role
  | .processDataRefresh _ outputs => isBytes outputs
  | .storeParameters _ role v => isRole role && isU 32 v
  | .storeComplete _ => true
  | .restoreDefaults _ role v => isRole role && isU 32 v
  | .foeSlotWrite _ password _ bytes => isU 32 password && isBytes bytes
  | .fwmain _ role password bytes => isRole role && isU 32 password && isBytes bytes
  | .fwseed _ role password bytes => isRole role && isU 32 password && isBytes bytes
  | .configRead _ role password => isRole role && isU 32 password
  | .configWrite _ role password bytes => isRole role && isU 32 password && isBytes bytes
  | .keyEnrol _ role path rec => isRole role && isWritePath path && isBytes rec
  | .keyRevoke _ role path rec => isRole role && isWritePath path && isBytes rec
  | .keyStoreReset _ role path _ rec => isRole role && isWritePath path && isBytes rec
  | .rollbackCommit _ role v => isRole role && isU 8 v
  | .authorCertificate _ role bytes => isRole role && isBytes bytes
  | .authorKeyRemove _ role keyId => isRole role && isBytes keyId
  | .protectedRegisterWrite _ _ _ => true
  | .admissionRetry _ _ ticket devKey sig => isBytes ticket && isBytes devKey && isBytes sig
  | .admissionChallenge _ _ bytes => isBytes bytes
  | .sessionSetup _ role v => isRole role && isU 8 v
  | .sessionResponse _ role bytes => isRole role && isBytes bytes
  | .sessionLock _ role v => isRole role && isU 8 v
  | .sessionLimit _ _ => true
  | .unlockLockoutEnd _ => true
  | .idcode _ => true
  | .bypass _ _ => true
  | .samplePreload _ bits => isBits bits
  | .extest _ bits => isBits bits
  | .supplyLossRestart _ => true
  | .ibcAlertRise _ => true
  | .busOffRecovery _ _ => true
  | .domainOutOfRegulation _ _ => true
  | .arrayStoreScrub _ _ _ line _ => isU 16 line
  | .lookupTableCompare _ _ upset => (match upset with | some e => isU 2 e.1 && isU 12 e.2 | none => true)
  | .debugReset _ => true
  | .dieHalt _ _ => true
  | .powerStateEntryComplete _ _ => true
  | .railOutsideWindow _ _ => true

end Sys2Proof
end

