-- ==== Sys2Proof/Tests/Slice0.lean ====
section
/-! SUPPORT. Tests of the model: ill-formed commands, values that the spec works out, and for every obligation that has hypotheses states
and operands that meet them. The witnesses that need one of Zheud's keys, which are opaque, take its value as a hypothesis. -/

namespace Sys2Proof.Tests

open Sys2Proof Sys2Proof.Machine

set_option Elab.async false

/-! States that the witnesses start from -/

/-- The module past Boot in mode `x`: both halves and every cross-link channel up, the cores of both fabric dies on. -/
def inMode (x : Mode) : State :=
  (({ mode := x, boot := { stageA := 7, stageB := 7 }, hold := { channels := 7 } } : State).setNat (Obj.domainState2D01 24) 1).setNat
    (Obj.domainState2D01 25) 1

/-- Boot with the halves at stages `a` and `b`. -/
def boots (a b : Nat) : State := { boot := { stageA := a, stageB := b } }

/-- One group of the state changed. -/
def onBoot (s : State) (f : BootSt → BootSt) : State := { s with boot := f s.boot }
def onPins (s : State) (f : PinSt → PinSt) : State := { s with pins := f s.pins }
def onHold (s : State) (f : HoldSt → HoldSt) : State := { s with hold := f s.hold }
def onConv (s : State) (f : ConvSt → ConvSt) : State := { s with conv := f s.conv }
def onEng (s : State) (f : EngSt → EngSt) : State := { s with eng := f s.eng }
def onDict (s : State) (f : DictSt → DictSt) : State := { s with dict := f s.dict }
def onPool (s : State) (f : PoolSt → PoolSt) : State := { s with pool := f s.pool }
def onStack (s : State) (f : StackSt → StackSt) : State := { s with stack := f s.stack }
def onPow (s : State) (f : PowerSt → PowerSt) : State := { s with pow := f s.pow }
def onFab (s : State) (f : FabricSt → FabricSt) : State := { s with fab := f s.fab }
def onHist (s : State) (f : HistSt → HistSt) : State := { s with hist := f s.hist }

/-- A part of 1024 store lines and 1000 cycles on array 0. -/
def decl1 : PartDecl := { storeLines := 1024, declared := 1000, stackBytes := 4096 }
/-- The part placed on array 0, its reference, and the array that runs it. -/
def part1 : PartSt := { copyB := false, idx := 0, array := 0, base := 0, stackBase := 0, codeBase := 0, decl := decl1, busy := true }
def ref1 : PartRef := { handle := 0, copyB := false, part := 0 }
def arr1 : ArrSt := { power := 0, demand := true, cur := some ref1 }

/-- A program of lane `lane` whose one part runs on array 0 in the state `a`. -/
def runs (lane : Nat) (a : ArrSt) : State :=
  { inMode .ready with pecan := { arrays := [(0, a)], progs := [(0, { state := pgRunning, lane := lane, parts := [part1] })] } }

/-- String 1 in Ready. -/
def withStr (v : StringSt) : State := (inMode .ready).setStr 0 v

/-- A transfer descriptor of one line from the part's stack allocation, its flag in line 1 (Table 8.11). -/
def desc1 : List Nat := [2, 0, 0, 0, 1, 0, 0, 0] ++ List.replicate 12 0 ++ [1, 0, 0, 0, 9, 0, 0, 0] ++ List.replicate 36 0
/-- The transfer that it asks for. -/
def xfer1 : Xfer := { kind := 2, lines := 1, remote := 0, dstArray := 0, localLine := 0, flagArray := 0, flagLine := 1, flagValue := 9 }
/-- The same to the store of a part that does not exist. -/
def badDesc : List Nat := [1, 9, 0, 0, 1, 0, 0, 0] ++ List.replicate 56 0
/-- A transfer descriptor of kind `kind` and one line, with a remote offset and a local line. -/
def ydesc (kind remote l : Nat) : List Nat := [kind, 0, 0, 0, 1, 0, 0, 0] ++ leBytes 8 remote ++ leBytes 4 l ++ List.replicate 44 0
/-- String 1 may shed a phase (R358). -/
def shedding : State :=
  ((({ inMode .ready with conv := { shedSince1 := some 0, phases := (List.range 8).map (fun n => (n, { active := true })) } } : State).setNat
    Obj.shedEnable 1).setNat Obj.shedMinimum 1).setNat Obj.shedRackLoadLimit 100
/-- Nothing refuses energising (R508). -/
def prepared : State :=
  let s := ((inMode .standby).setNat Obj.rectifiersFitted 1).setBlob Obj.ocvTable [1]
  let t := onEng s (fun e => { e with insts := [(0, { b0 := 1 }), (1, { b0 := 1 })] })
  t.forEach (List.range 54) (fun s c => s.setNat (Obj.gain c) 1)

/-- A configuration file of no record, and one with an object that does not exist. -/
def cfgFile : List Nat := [0x5A, 0x43, 0x46, 0x47, 1, 2, 0, 0, 0, 0, 0, 0] ++ leBytes 4 (crc32 [])
def cfgBad : List Nat :=
  [0x5A, 0x43, 0x46, 0x47, 1, 2, 0, 0, 1, 0, 0, 0] ++ leBytes 4 (crc32 [0x34, 0x12, 0, 0, 0, 0, 0, 0]) ++ [0x34, 0x12, 0, 0, 0, 0, 0, 0]

/-- A readout in which every cell reads 2.0 V. -/
def goodRead : CellRead :=
  { id := 0, ok := true, cells := List.replicate 16 20000, agree := 65535, openWires := 0, ran := true, meas := {} }

/-- String 2's last cell reads 25.0 °C at its own sensor and waits for the estimator. -/
def warmCell : State :=
  (onStack ((inMode .ready).setRing 1 { statusAt := [(18, 1)] }) (fun p => { p with pendingEst := [(575, goodRead)] })).setBlob
    (Obj.temperatures (sliceIdx 1 18)) [0, 0, 0, 0, 0, 250]

/-- An open-circuit voltage table of one temperature and one rate. -/
def ocvFile : List Nat := [1, 1, 1, 0, 0, 0, 0, 0, 0, 0, 0, 0] ++ (List.range 21).flatMap (fun i => leBytes 2 (20000 + i))

/-- String 2 may be calibrated. -/
def converged1 : State :=
  ({ inMode .ready with stack := { est := (List.range 16).map (fun i => (288 + i, { converged := true })) } } : State).setNat
    Obj.slicesPerString2 1

/-- A calibration of string 1 in phase `p`; one cell has a value. -/
def cal (p : Nat) : State := { inMode .ready with stack := { cal := { string := 1, phase := p }, cells := [(0, { valid := true })] } }

/-- The averages of the end of phase 2 or 4 are taken (R425). -/
def calDone (p : Nat) : State :=
  (({ inMode .ready with stack :=
    { cal := { string := 1, phase := p, sums := (List.range 16).map (fun i => (i, ((1920000 : Rat) / 10000, 6000))) } } } : State).setBlob
    Obj.ocvTable ocvFile).setNat Obj.slicesPerString1 1
/-- What the averages are. -/
def calList (s : State) : List (Nat × Rat) := match s.calAverage 0 with | some l => l | none => []
theorem calList_some (s : State) (h : (s.calAverage 0).isSome = true) : s.calAverage 0 = some (calList s) := by
  unfold calList
  cases hc : s.calAverage 0 with
  | none => rw [hc] at h; exact absurd h (by decide)
  | some l => rfl

/-! Keys and signatures of the tests: the private key is 1 and the nonce is 1, so the key is the base point of P-384 and a signature's
r is its x coordinate. -/

/-- The public key of the private key 1. -/
def tkey : List Nat := beBytes 48 ecGx ++ beBytes 48 ecGy
/-- The public key of the private key 2. -/
def tkey2 : List Nat :=
  beBytes 48 0x8d999057ba3d2d969260045c55b97f089025959a6f434d651d207d19fb96e9e4fe0e86ebe0e64f85b96a9c75295df61 ++
  beBytes 48 0x8e80f1fa5b1b3cedb7bfe8dffd6dba74b275d875bc6cc43e904e505f256ab4255ffd43e94d39e22d61501e700a940e80

/-- The public key of the private key `d`, 1 or 2. -/
def pubKey (d : Nat) : List Nat := if d = 1 then tkey else tkey2
/-- The signature of a digest by the private key 1. -/
def signDigest (digest : List Nat) : List Nat :=
  let r := ecGx % ecN
  beBytes 48 r ++ beBytes 48 ((beNat digest + r) % ecN)

/-- A signature record of 128 bytes by the private key 1 (R232). -/
def signRec (role : Nat) (m : List Nat) : List Nat := [role] ++ List.replicate 15 0 ++ keyId tkey ++ signDigest (sha384 m)

/-- Key ids of the two keys. -/
def kid1 : List Nat := beBytes 16 0xa19d4db171b582eb8052b0cfe555e178
def kid2 : List Nat := beBytes 16 0x728f0b1f7c8f999347dca33c1964cf74

/-- The bytes `m` followed by their signature block: the author's key id and the s values of both signatures (R232). -/
def signedBy (author : List Nat) (s1 s2 : Nat) (m : List Nat) : List Nat :=
  let r := beBytes 48 ecGx
  m ++ [0x54, 0x5A, 0x53, 0x47, 2] ++ List.replicate 11 0 ++ [1] ++ List.replicate 15 0 ++ author ++ r ++ beBytes 48 s1 ++
    [2] ++ List.replicate 15 0 ++ kid1 ++ r ++ beBytes 48 s2

/-- A firmware image of kind `kind` (Table 20.3). -/
def fwFile (kind s1 s2 : Nat) : List Nat :=
  signedBy kid1 s1 s2 ([0x5A, 0x46, 0x57, 0x31, kind, 0, 3, 0] ++ leBytes 4 7 ++ leBytes 4 336 ++ List.replicate 48 0)
/-- A main and a Seed image. -/
def fwMain : List Nat :=
  fwFile 1 0xc354eed303621fd8c36a332157a35ec2f99d67c54f870a4b578e2b562127247fbae13e3a5059442fd2b3cc75a63bb412
    0x67d665d01ca28aa82e67b5e658ba6e74e96b8468bd9bc9d3308b5592540a77c90b0603e4d9ae3bbe3e7898579f79d90d
def fwSeed : List Nat :=
  fwFile 2 0xcf219945131c50bf367d25768e9384483bdc074fb5b70c3d0d433eb57a22067053030a45e3e7b5417879f86d0aca7938
    0xa8040c9903681c94098426aba0bf1e3edb781c8469de3665346fda58690a5824f8ffb9e2b256f3201efc917cacb719c4

/-- An image of one managed part of one bundle (Tables 8.1 to 8.4), with its size rounded up to 832 bytes. -/
def tziFile (author : List Nat) (s1 s2 : Nat) : List Nat :=
  let head := [0x54, 0x5A, 0x49, 0x31] ++ leBytes 2 1 ++ leBytes 2 256 ++ leBytes 4 784 ++ leBytes 2 2 ++ List.replicate 22 0 ++ [2, 1] ++
    List.replicate 218 0
  let sect := fun (ty o n : Nat) => [ty, 0, 0, 0] ++ leBytes 4 o ++ leBytes 4 n ++ List.replicate 20 0
  let code := List.replicate 12 0 ++ leBytes 4 (0x13 * 2 ^ 26) ++ List.replicate 48 0
  let res := leBytes 4 16 ++ leBytes 4 1000 ++ List.replicate 16 0 ++ [1] ++ List.replicate 8 0xFF ++ List.replicate 95 0
  signedBy author s1 s2 (head ++ sect 1 320 16 ++ sect 4 384 128 ++ code ++ res) ++ List.replicate 48 0

/-- The image signed by the author's private key `d`, 1 or 2. -/
def tziBy (d : Nat) : List Nat :=
  if d = 1 then
    tziFile kid1 0x22e24b9b3ffac4f3e5883440fb5906d5c407ccbedc096c001a288053c4cf354d77b8af218152acb10b01603172d5a70a
      0x94a562961bfc1b8511564263f633a5ce468a4474f79a20ac3a9fe0a735bcb2fc973f6409fc6ad1a9bdc46780e1fc1a2f
  else
    tziFile kid2 0xcd6a15bdfe85ca2b7439fb5fee79b44a3225082167b10798741fc23447235f85ccbba17f40a7d61d4555be69e54bb1c1
      0x66d6dae35237b85f1ce140bb9a46e685ab42e35df262e5ad561bc6945f0275b315519e304beb62ced6bff29224d49158

/-- Slot 15 verifies the image of author `d`, whose key is enrolled. -/
def verifying (d : Nat) : State :=
  let x : SlotSt := { state := 2, size := 832, data := (List.range 13).map (fun i => (i, slice (tziBy d) (64 * i) 64)) }
  { inMode .ready with
    pecan := { slots := [(15, x)] }
    dict := { opKeys := [(0, tkey)], authors := [(1, pubKey d)] } }

theorem findKey_author (s : State) (k : List Nat) (ha : s.dict.authors = [(1, k)]) (hz : ¬keyId (zheudKey 4) = keyId k) :
    findKey s.authorKeys (keyId k) = some k := by
  unfold State.authorKeys
  rw [ha]
  unfold findKey
  generalize zheudKey 4 = z at *
  generalize keyId = f at *
  simp [hz]

/-- A signature block whose author key is in slot 1 of the key store and differs from Zheud's own is accepted (Table 8.12). -/
theorem imageSigned_author (s : State) (b k : List Nat) (ha : s.dict.authors = [(1, k)])
    (hz : ¬keyId (zheudKey 4) = keyId k) (hi : sigKeyId (slice b (leNat (slice b 8 4) - 272) 272) 16 = keyId k)
    (h0 : checkSig (some k) (b.take (leNat (slice b 8 4) - 272)) (sigRS (slice b (leNat (slice b 8 4) - 272) 272) 16) = 0)
    (h1 : checkSig (s.counterKey (sigKeyId (slice b (leNat (slice b 8 4) - 272) 272) 144) false)
      (b.take (leNat (slice b 8 4) - 272) ++ slice (slice b (leNat (slice b 8 4) - 272) 272) 16 128)
      (sigRS (slice b (leNat (slice b 8 4) - 272) 272) 144) = 0) : s.imageSigned b = none := by
  unfold State.imageSigned
  simp only [hi, findKey_author s k ha hz, h0, h1]
  rfl

/-- Parts of an image. -/
def tziParts (b : List Nat) : List (List Sect) :=
  (List.range (listGet 0 b 37)).map (sectsOf ((List.range (leNat (slice b 12 2))).map (sectOf b)))

theorem verifyImage_ok (s : State) (b : List Nat) (n : Nat) (h0 : imageLayout b n = none) (h1 : s.imageSigned b = none)
    (h2 : firstRefusal ((tziParts b).map (declCheck (listGet 0 b 36))) = none)
    (h3 : firstRefusal ((tziParts b).map (codeCheck (listGet 0 b 36))) = none) :
    s.verifyImage b n = .ok (listGet 0 b 36, listGet 0 b 37, slice b 16 16, (tziParts b).map partDecl) := by
  unfold State.verifyImage
  unfold tziParts at *
  rw [h0, h1]
  dsimp only
  rw [h2, h3]

/-- The author keys of the private keys 1 and 2. -/
def twoAuthors : State := { inMode .ready with dict := { authors := [(1, tkey), (2, tkey2)] } }

/-- Hall link 15 waits for its peer's admission. -/
def admitting : State :=
  { (((inMode .ready).setNat Obj.hallDimensions 1).setNat (Obj.linkState 51) 3) with dict := { opKeys := [(0, tkey)] } }
/-- The peer's ticket, and its answer to a challenge of zeros. -/
def ticket1 : List Nat :=
  let m := [0x5A, 0x41, 0x44, 0x4D, 1, admitting.nat (Obj.peerShelf 51)] ++ leBytes 2 (admitting.nat Obj.hallDomainId) ++ sha384 tkey ++ keyId tkey
  m ++ signDigest (sha384 m)
def answer1 : List Nat :=
  signDigest (admitDigest (List.replicate 48 0) (admitting.nat Obj.hallDomainId) (admitting.nat (Obj.peerShelf 51))
    (linkPeerLane (admitting.nat Obj.hallDimensions) (admitting.nat Obj.shelfNumber) 15))

/-- A key update record of operation `op` on slot 0 (R552). -/
def keyUpd (op : Nat) (signed : Bool) : List Nat :=
  let h := [0x5A, 0x4B, 0x55, 0x50, op, 0, 0, 0, 1, 0, 0, 0, 0, 0, 0, 0] ++ List.replicate 96 0
  h ++ if signed then signRec 2 h else List.replicate 128 0
/-- The start of an operator's challenge. -/
def challenge1 : List Nat := [0x5A, 0x43, 0x48, 0x4C, 1, 0, 0, 0]

/-- A request that defines channel 0x1000 with `levels` levels (Table 9.5). -/
def chanReq (levels : Nat) : List Nat :=
  [1, 0, 0, 16, 0, levels, 2, 0, 4, 0, 0, 0, 0, 4, 0, 0, 0, 4, 0, 0, 1, 0, 0, 0] ++ List.replicate 8 0

/-- Array 127 in a state; a program in slot 0. -/
def arrs (a : ArrSt) : State := ({ inMode .ready with pecan := { arrays := [(127, a)] } } : State).setNat (Obj.dieState 7) 1
def progs (p : ProgSt) : State := { inMode .ready with pecan := { arrays := [(0, arr1)], progs := [(0, p)] } }

/-- A program that may be bound as the forecaster (R300). -/
def binds : State :=
  progs { state := pgRunning, lane := 1, parts := [{ part1 with decl := { decl1 with outputs :=
    [{ kind := 1, target := 0, lines := 1, src := 0, signal := 0 }, { kind := 1, target := 3, lines := 1, src := 0, signal := 0 }] } }] }

/-- A known event soon, and one late. -/
def rising1 : State := ({ runs 1 arr1 with pow := { dies := [(0, { target := 7 })] } }.setNat (Obj.dieState 0) 1)
def rising2 : State := progs { state := pgRunning, lane := 2, trigger := 2, period := 1000000, parts := [part1] }

theorem eq_error {α β : Type} [DecidableEq α] {x : Except α β} {y : α}
    (h : (match x with | .error e => decide (e = y) | .ok _ => false) = true) : x = .error y := by
  cases x with
  | error e => exact congrArg _ (of_decide_eq_true h)
  | ok b => cases h

theorem eq_ok {α β : Type} [DecidableEq β] {x : Except α β} {y : β}
    (h : (match x with | .ok e => decide (e = y) | .error _ => false) = true) : x = .ok y := by
  cases x with
  | ok e => exact congrArg _ (of_decide_eq_true h)
  | error b => cases h

theorem riseTime_same (s : State) (d p : Nat) (h : p = (s.diePt d).target) : s.riseTime d p = 0 := by
  subst h; simp [State.riseTime]

/-- String 1's ring in mode `m`. -/
def ringed (m : Nat) (r : RingSt) : State := ({ inMode .ready with stack := { ring1 := r } } : State).setNat (Obj.ringMode 1) m

/-- A ring frame with its CRC (Table 13.2). -/
def rframe (l : List Nat) : List Nat := l ++ beBytes 2 (crc16 l)

/-- Word 0 of the pool. -/
def pooled (p : PWord) : State := { inMode .ready with pool := { words := [(0, p)] } }

/-- A domain in slot 0, with tree word 0. -/
def domd (d : Dom) : State := { inMode .ready with pool := { words := [(0, { alloc := true, tenant := 1, managed := 1 })], doms := [(0, d)] } }

/-- Shelf `own` of a hall of two, its first hall link up and admitted. -/
def halled (own : Nat) : State :=
  ((((inMode .ready).setNat Obj.hallDimensions 1).setNat Obj.shelfNumber own).setNat (Obj.linkState 36) 3).setNat Obj.admittedHallLinks 1

/-- Shelf 1 of the same hall waits for the release of its parent, shelf 0. -/
def below : State :=
  { halled 1 with pool := { doms := [(0, { id := 7, state := 3, shelves := [(0, [1]), (1, [1])], hallRelease := some 0 })] } }

/-! Ill-formed commands: one for each check of WellFormed -/

/-- Every command of the list is ill-formed. -/
def refused (l : List Instr) : Bool := l.all (fun i => !WellFormed i)
/-- Every command of the list is well-formed. -/
def allowed (l : List Instr) : Bool := l.all WellFormed

theorem test_wellFormed_roles : refused
    [.energise 0 (.tenant 0), .energise 0 (.tenant 255), .keyEnrol 0 .operator .config [], .registerWrite 0 .broadcast .operator 0 0 []] = true ∧
    allowed [.energise 0 (.tenant 1), .energise 0 (.tenant 254), .keyEnrol 0 .operator .coe []] = true := by decide +kernel

theorem test_wellFormed_widths : refused
    [.phaseClear 0 .operator 256, .sAddi 0 0 0 65536, .sBr 0 4096, .vld 0 0 0 16384, .sRdsys 0 0 256, .storeParameters 0 .operator (2 ^ 32),
     .hallTimeSet 0 .operator (2 ^ 64) false, .poolScan 0 [2 ^ 18] [] [], .poolScan 0 [] [2 ^ 18] [], .poolScan 0 [] [] [65536],
     .rectifierReport 0 0 false 2048 [], .completeAccessWrite 0 .operator 0 [(256, [])], .retryTimeout 0 0 65536,
     .patrolScrub 0 0 0 [2 ^ 29] none false, .patrolScrub 0 0 0 [] (some (.ring 0 8 0 false)) false,
     .patrolScrub 0 0 0 [] (some (.part (2^35))) false, .patrolScrub 0 0 0 [] (some (.slot 16)) false] = true ∧
    allowed [.phaseClear 0 .operator 255, .sAddi 0 0 0 65535, .sBr 0 4095, .vld 0 0 0 16383, .sRdsys 0 0 255,
      .poolScan 0 [2 ^ 18 - 1] [2 ^ 18 - 1] [65535], .patrolScrub 0 0 0 [2 ^ 29 - 1] (some (.ring 65535 7 0 false)) false] = true := by
  decide +kernel

theorem test_wellFormed_bytes : refused
    [.registerWrite 0 .coe .operator 0 0 [256], .completeAccessWrite 0 .operator 0 [(0, [256])], .rectifierReport 0 0 false 0 [256],
     .admissionRetry 0 0 [256] [] [], .admissionRetry 0 0 [] [256] [], .admissionRetry 0 0 [] [] [256], .samplePreload 0 [2], .extest 0 [2]] = true ∧
    allowed [.registerWrite 0 .coe .operator 65535 255 [255], .samplePreload 0 [0, 1]] = true := by decide +kernel

theorem test_wellFormed_ranges : refused
    [.ackTimer 0 1280, .routeDownTimeout 0 1280, .arrayFault 0 0 0, .arrayFault 0 0 10, .pointEvaluation 0 [], .lookupTableCompare 0 0 (some (4, 0)),
     .lookupTableCompare 0 0 (some (0, 4096))] = true ∧
    allowed [.ackTimer 0 1279, .arrayFault 0 0 1, .arrayFault 0 0 9, .pointEvaluation 0 (List.replicate 16 0)] = true := by decide +kernel

theorem test_wellFormed_frames : refused
    ([{ vc := 4 }, { age := 4 }, { op := 256 }, { tenant := 256 }, { srcShelf := 256 }, { srcEp := 65536 }, { result := 256 }, { seq := 65536 },
      { tid := 65536 }, { signalOp := 4 }, { signalWord := 2 ^ 18 }, { gen := 65536 }, { addr := 2 ^ 64 }, { operand := 2 ^ 64 },
      { payload := [256] }, { payload := List.replicate 4096 0 }].map (fun f => .returnFrame 0 f) ++ [.write 0 0 [{}, { vc := 4 }]]) = true ∧
    allowed [.returnFrame 0 { payload := List.replicate 4095 255 }, .write 0 0 [{}, {}]] = true := by decide +kernel

theorem test_wellFormed_ticks :
    let x : TickIn := { raw := List.replicate 54 0, readA := 0, readB := 0, senseDiff := some 53, outDiff := false, failA := false, failB := false,
                        portsDiffer := false }
    refused [.controlTick 0 { x with raw := [] }, .controlTick 0 { x with readA := 4 }, .controlTick 0 { x with readB := 4 },
      .controlTick 0 { x with senseDiff := some 54 }] = true ∧ allowed [.controlTick 0 x] = true := by decide +kernel

/-! Values that the spec works out, and published test values of the algorithms that it names -/

/-- Example 7.1: the block exponents and element codes of 0.8125, 3.0, -0.3 and 0.5 in GL8 (0.3 as binary32 holds it). -/
theorem test_example_7_1_encoding :
    (let T := (refCurve 0).drop 8
     let x1 := Lin.fin false 13 (-4)
     let x2 := Lin.fin false 3 0
     let w1 := Lin.fin true 10066330 (-25)
     let w2 := Lin.fin false 1 (-1)
     [glAutoE 0 T [x1, x2], glAutoE 0 T [w1, w2]] = [-6, -8] ∧
     [glEncode 0 T (-6) x1, glEncode 0 T (-6) x2, glEncode 0 T (-8) w1, glEncode 0 T (-8) w2] =
       [(0x6E, 0), (0x7D, 0), (0xF2, 0), (0x78, 0)]) := by decide +kernel

/-- Example 7.1: rebased operands, products, partial sum and column exponent. -/
theorem test_example_7_1_products :
    (let D := refCurve 0
     let west := fun c => (rebase 0 (-6) c 0xFA).1
     let north := fun c => (rebase 0 (-8) c 0xF8).1
     [west 0x6E, west 0x7D, north 0xF2, north 0x78] = [.val false 238, .val false 253, .val true 242, .val false 248] ∧
     (psAdd (psAdd {} (cellProduct 0 D 52 (west 0x6E) (north 0xF2))).1 (cellProduct 0 D 52 (west 0x7D) (north 0x78))).1.v = 0x02959C00 ∧
     columnExp 0 52 (-6) (-8) = -25) := by decide +kernel

/-- Example 7.1: the output in binary32. -/
theorem test_example_7_1_output : binEncode 1 0 false (.fin false 43359232 (-25)) = (0x3FA56700, 0) := by decide +kernel

/-- R220: 0.5 times 0.5 in Q31, and the one product that saturates. -/
theorem test_q31_products : mulShift 0x40000000 0x40000000 31 = (0x20000000, 0) ∧ mulShift 0x80000000 0x80000000 31 = (0x7FFFFFFF, flFixedSat) := by
  decide +kernel

/-- R335: at 1 MW/s, a request to rise from 2,250 W on six rectifiers at 800 V. -/
theorem test_limiter_rise : (limVal 1000000 800000 60000000 22500000000000 63 63 60000000).i = 4739583 := by decide +kernel

/-- R471: 993 W and a rise of 17.4 K give 0.96 L/min. -/
theorem test_flow_estimate :
    (let s := (((inMode .ready).setNat Obj.packagePowerEstimate2D00 993).setNat (Obj.sensorType 0) 1).setNat (Obj.sensorType 1) 1
     (((s.setNat (Obj.role 0) 1).setNat (Obj.role 1) 2).setChan 0 { valid := true, value := 400 }).setChan 1 { valid := true, value := 574 }).flowNow = some 96 := by
  decide +kernel

/-- CRC-16 of R383 on "123456789", the algorithm's published check value. -/
theorem test_crc16 : crc16 [0x31, 0x32, 0x33, 0x34, 0x35, 0x36, 0x37, 0x38, 0x39] = 0x29B1 := by decide +kernel

/-- CRC-32 on "123456789", the algorithm's published check value. -/
theorem test_crc32 : crc32 [0x31, 0x32, 0x33, 0x34, 0x35, 0x36, 0x37, 0x38, 0x39] = 0xCBF43926 := by decide +kernel

/-- SHA-384 of "abc" (FIPS 180). -/
theorem test_sha384 :
    beNat (sha384 [0x61, 0x62, 0x63]) =
      0xcb00753f45a35e8bb5a03d699ac65007272c32ab0eded1631a8b605a43ff5bed8086072ba1e7cc2358baeca134c825a7 := by decide +kernel

/-- The base point of P-384 is on the curve, and a point beside it is not. -/
theorem test_curve : ecKeyOk tkey = true ∧ ecKeyOk (beBytes 48 ecGx ++ beBytes 48 (ecGy + 1)) = false := by decide +kernel

/-! Steps -/

/-- The state after a command. -/
def after (c : Instr) (s : State) : State :=
  match exec c s with
  | .next t => t
  | _ => s

/-- R529: SocWindowLow to 6000 while SocWindowHigh reads 6500 fails as a single write; a complete access write of 6000 and 9000 succeeds. -/
theorem test_bounds_of_two_objects :
    (let s := (inMode .ready).setNat Obj.socWindowHigh 6500
     let one := after (.registerWrite 0 .coe .operator 0x2C00 1 (leBytes 2 6000)) s
     let both := after (.completeAccessWrite 0 .operator 0x2C00 [(1, leBytes 2 6000), (2, leBytes 2 9000)]) s
     [one.nat Obj.socWindowLow, one.nat Obj.socWindowHigh, one.nat Obj.refusedWrites] = [2000, 6500, 1] ∧
     [both.nat Obj.socWindowLow, both.nat Obj.socWindowHigh, both.nat Obj.refusedWrites] = [6000, 9000, 0]) := by decide +kernel

/-- R508: where nothing refuses it an operator energises in Standby, and a tenant may not. -/
theorem test_energise :
    (after (.energise 0 .operator) prepared).nat Obj.energiseStep ≠ 0 ∧ (after (.energise 0 (.tenant 1)) prepared).nat Obj.energiseStep = 0 := by
  decide +kernel

/-- A step takes the front of the queue (log entry 1). -/
theorem test_step :
    (match step { State.reset with pending := [.energise 0 .operator] } with
     | .next t => decide (t.mode = .boot) && t.pending.isEmpty
     | _ => false) = true := by decide +kernel

/-! The hypotheses of the obligations are met: one clause for each set of hypotheses of a statement -/

theorem witness_ScalarOperationsWriteTheirRegister :
  (∃ (s : State) (g : Fin 128) (a : Fin 16) (b : Fin 16) (r : PartRef) (q : PartSt) (x : ArrSt), s.issues g.val [a.val, b.val] r q x) ∧
  (∃ (s : State) (g : Fin 128) (a : Fin 16) (r : PartRef) (q : PartSt) (x : ArrSt), s.issues g.val [a.val] r q x) ∧
  (∃ (s : State) (g : Fin 128) (d : Fin 16) (r : PartRef) (q : PartSt) (x : ArrSt), s.issues g.val [d.val] r q x) :=
  ⟨⟨runs 1 arr1, 0, 15, 15, ref1, part1, arr1, by (try dsimp only [State.issues]); decide +kernel⟩,
   ⟨runs 1 arr1, 0, 15, ref1, part1, arr1, by (try dsimp only [State.issues]); decide +kernel⟩,
   ⟨runs 1 arr1, 0, 15, ref1, part1, arr1, by (try dsimp only [State.issues]); decide +kernel⟩⟩

theorem witness_RegistersReadBackWhatWasWritten :
  ∃ (l : Nat) (v : List Nat), v.length = 64 ∧ l < 64 :=
  ⟨63, List.replicate 64 0, by decide +kernel⟩

theorem witness_SequencerOperationsMoveTheBundle :
  (∃ (s : State) (g : Fin 128) (r : PartRef) (q : PartSt) (x : ArrSt), s.issues g.val [] r q x) ∧
  (∃ (s : State) (g : Fin 128) (a : Fin 16) (r : PartRef) (q : PartSt) (x : ArrSt), s.issues g.val [a.val] r q x) ∧
  (∃ (s : State) (g : Fin 128) (a : Fin 16) (b : Fin 16) (r : PartRef) (q : PartSt) (x : ArrSt), s.issues g.val [a.val, b.val] r q x) :=
  ⟨⟨runs 1 arr1, 0, ref1, part1, arr1, by (try dsimp only [State.issues]); decide +kernel⟩,
   ⟨runs 1 arr1, 0, 15, ref1, part1, arr1, by (try dsimp only [State.issues]); decide +kernel⟩,
   ⟨runs 1 arr1, 0, 15, 15, ref1, part1, arr1, by (try dsimp only [State.issues]); decide +kernel⟩⟩

theorem witness_LoopsRepeatTheirBody :
  (∃ (f : LoopFrame) (pc : Nat), f.last = pc ∧ 1 < f.left) ∧
  (∃ (f : LoopFrame) (rest : List LoopFrame) (pc : Nat), f.last = pc ∧ f.left ≤ 1 ∧ (∀ e ∈ rest, e.last ≠ pc)) ∧
  (∃ (f : LoopFrame) (pc : Nat), f.last ≠ pc) :=
  ⟨⟨{ first := 1, last := 5, left := 2 }, 5, by decide +kernel⟩,
   ⟨{ first := 1, last := 5, left := 1 }, [{ first := 0, last := 9, left := 3 }], 5, by decide +kernel⟩,
   ⟨{ first := 1, last := 5, left := 1 }, 4, by decide +kernel⟩⟩

theorem witness_FlagWaitsAndSystemValues :
  (∃ (s : State) (g : Fin 128) (a : Fin 16) (b : Fin 16) (r : PartRef) (q : PartSt) (x : ArrSt), s.issues g.val [a.val, b.val] r q x ∧ x.sound q (x.sreg a.val) 1) ∧
  (∃ (s : State) (g : Fin 128) (r : PartRef) (q : PartSt) (line : Nat) (level : Nat), s.curPart g.val = some (r, q) ∧ (s.arr g.val).waitf = some (line, level) ∧ level ≤ leNat (((s.arr g.val).line line).take 8)) ∧
  (∃ (s : State) (g : Fin 128) (sel : Nat) (r : PartRef) (q : PartSt) (x : ArrSt), (s.issues g.val (if sel = 9 ∨ sel = 10 ∨ sel = 11 then [68] else []) r q x) ∧ sel ≤ 13) ∧
  (∃ (s : State) (g : Fin 128) (sel : Nat) (r : PartRef) (q : PartSt) (x : ArrSt), (s.issues g.val (if sel = 9 ∨ sel = 10 ∨ sel = 11 then [68] else []) r q x) ∧ 13 < sel) ∧
  (∃ (s : State) (g : Fin 128) (r : PartRef) (q : PartSt) (x : ArrSt), s.issues g.val [] r q x) :=
  ⟨⟨runs 1 arr1, 0, 0, 0, ref1, part1, arr1, by (try dsimp only [State.issues, ArrSt.sound]); decide +kernel⟩,
   ⟨runs 1 { arr1 with waitf := some (0, 0) }, 0, ref1, part1, 0, 0, by decide +kernel⟩,
   ⟨runs 1 arr1, 0, 13, ref1, part1, arr1, by (try dsimp only [State.issues]); decide +kernel⟩,
   ⟨runs 1 arr1, 0, 14, ref1, part1, arr1, by (try dsimp only [State.issues]); decide +kernel⟩,
   ⟨runs 1 arr1, 0, ref1, part1, arr1, by (try dsimp only [State.issues]); decide +kernel⟩⟩

theorem witness_TickAndSliceEndFreeTheArray :
  (∃ (t : Nat) (s : State) (g : Fin 128) (r : PartRef) (q : PartSt),
    let u := s.at t
    u.curPart g.val = some (r, q) ∧ (u.arr g.val).waitf = none ∧ (u.arr g.val).cyc < q.decl.declared ∧ (u.prog r.handle).lane = 1) ∧
  (∃ (t : Nat) (s : State) (g : Fin 128) (r : PartRef) (q : PartSt),
    let u := s.at t
    u.curPart g.val = some (r, q) ∧ (u.arr g.val).waitf = none ∧ (u.arr g.val).cyc < q.decl.declared ∧ (u.prog r.handle).lane = 2) :=
  ⟨⟨0, runs 1 { arr1 with cyc := 999 }, 0, ref1, part1, by (try dsimp only); decide +kernel⟩,
   ⟨0, runs 2 { arr1 with cyc := 999 }, 0, ref1, part1, by (try dsimp only); decide +kernel⟩⟩

theorem witness_EdgeOperationsRunTheArray :
  (∃ (s : State) (g : Fin 128) (r : PartRef) (q : PartSt) (x : ArrSt), s.issues g.val [] r q x) ∧
  (∃ (s : State) (g : Fin 128) (a : Fin 16) (r : PartRef) (q : PartSt) (x : ArrSt), s.issues g.val [a.val] r q x) ∧
  (∃ (s : State) (g : Fin 128) (r : PartRef) (q : PartSt) (x : ArrSt), s.issues g.val [68] r q x) ∧
  (∃ (s : State) (g : Fin 128) (table : Fin 4) (r : PartRef) (q : PartSt) (x : ArrSt), s.issues g.val [64 + table.val, 68, 69] r q x) ∧
  (∃ (s : State) (g : Fin 128) (a : Fin 16) (offset : Nat) (r : PartRef) (q : PartSt) (x : ArrSt),
    let line := (x.sreg a.val + offset) % 2 ^ 32
    s.issues g.val [a.val, 71] r q x ∧ x.sound q line 64) ∧
  (∃ (s : State) (g : Fin 128) (a : Fin 16) (offset : Nat) (r : PartRef) (q : PartSt) (x : ArrSt),
    let line := (x.sreg a.val + offset) % 2 ^ 32
    s.issues g.val [a.val, 68] r q x ∧ line + 4 ≤ q.decl.storeLines) ∧
  (∃ (s : State) (g : Fin 128) (a : Fin 16) (offset : Nat) (r : PartRef) (q : PartSt) (x : ArrSt),
    let line := (x.sreg a.val + offset) % 2 ^ 32
    s.issues g.val [a.val, 69] r q x ∧ line + 256 ≤ q.decl.storeLines) :=
  ⟨⟨runs 1 arr1, 0, ref1, part1, arr1, by (try dsimp only [State.issues]); decide +kernel⟩,
   ⟨runs 1 arr1, 0, 0, ref1, part1, arr1, by (try dsimp only [State.issues]); decide +kernel⟩,
   ⟨runs 1 arr1, 0, ref1, part1, arr1, by (try dsimp only [State.issues]); decide +kernel⟩,
   ⟨runs 1 arr1, 0, 3, ref1, part1, arr1, by (try dsimp only [State.issues]); decide +kernel⟩,
   ⟨runs 1 arr1, 0, 0, 960, ref1, part1, arr1, by (try dsimp only [State.issues, ArrSt.sound]); decide +kernel⟩,
   ⟨runs 1 arr1, 0, 0, 1020, ref1, part1, arr1, by (try dsimp only [State.issues]); decide +kernel⟩,
   ⟨runs 1 arr1, 0, 0, 768, ref1, part1, arr1, by (try dsimp only [State.issues]); decide +kernel⟩⟩

theorem witness_VectorsMeetTheTileAndRunsFillTheCells :
  (∃ (s : State) (g : Fin 128) (a : Fin 16) (offset : Nat) (r : PartRef) (q : PartSt) (x : ArrSt),
    let line := (x.sreg a.val + offset) % 2 ^ 32
    s.issues g.val [a.val, 70] r q x ∧ x.sound q line 1) ∧
  (∃ (s : State) (g : Fin 128) (a : Fin 16) (b : Fin 16) (k : Fin 128) (r : PartRef) (q : PartSt) (x : ArrSt), s.issues g.val [a.val, b.val, 70, 71] r q x ∧ x.sound q (x.sreg a.val) (k.val + 1) ∧ x.sound q (x.sreg b.val) (k.val + 1)) :=
  ⟨⟨runs 1 arr1, 0, 0, 1023, ref1, part1, arr1, by (try dsimp only [State.issues, ArrSt.sound]); decide +kernel⟩,
   ⟨runs 1 arr1, 0, 0, 0, 127, ref1, part1, arr1, by (try dsimp only [State.issues, ArrSt.sound]); decide +kernel⟩⟩

theorem witness_VectorOperationsWriteEveryLane :
  (∃ (s : State) (g : Fin 128) (a : Fin 32) (b : Fin 32) (r : PartRef) (q : PartSt) (x : ArrSt), s.issues g.val [16 + a.val, 16 + b.val] r q x) ∧
  (∃ (s : State) (g : Fin 128) (a : Fin 32) (r : PartRef) (q : PartSt) (x : ArrSt), s.issues g.val [16 + a.val] r q x) ∧
  (∃ (s : State) (g : Fin 128) (a : Fin 32) (b : Fin 32) (m : Fin 32) (r : PartRef) (q : PartSt) (x : ArrSt), s.issues g.val [16 + a.val, 16 + b.val, 16 + m.val] r q x) ∧
  (∃ (s : State) (g : Fin 128) (d : Fin 32) (a : Fin 32) (b : Fin 32) (r : PartRef) (q : PartSt) (x : ArrSt), s.issues g.val [16 + d.val, 16 + a.val, 16 + b.val] r q x) :=
  ⟨⟨runs 1 arr1, 0, 31, 31, ref1, part1, arr1, by (try dsimp only [State.issues]); decide +kernel⟩,
   ⟨runs 1 arr1, 0, 31, ref1, part1, arr1, by (try dsimp only [State.issues]); decide +kernel⟩,
   ⟨runs 1 arr1, 0, 31, 30, 29, ref1, part1, arr1, by (try dsimp only [State.issues]); decide +kernel⟩,
   ⟨runs 1 arr1, 0, 31, 30, 29, ref1, part1, arr1, by (try dsimp only [State.issues]); decide +kernel⟩⟩

theorem witness_VectorsConvertLookUpReduceAndMove :
  (∃ (s : State) (g : Fin 128) (a : Fin 32) (c : Fin 16) (source : Fin 11) (r : PartRef) (q : PartSt) (x : ArrSt), s.issues g.val ([16 + a.val, c.val] ++ if source.val = 10 then [68] else []) r q x) ∧
  (∃ (s : State) (g : Fin 128) (a : Fin 32) (table : Fin 4) (r : PartRef) (q : PartSt) (x : ArrSt), s.issues g.val [16 + a.val, 64 + table.val, 72 + table.val] r q x) ∧
  (∃ (s : State) (g : Fin 128) (a : Fin 32) (r : PartRef) (q : PartSt) (x : ArrSt), s.issues g.val [16 + a.val] r q x) ∧
  (∃ (s : State) (g : Fin 128) (c : Fin 16) (r : PartRef) (q : PartSt) (x : ArrSt), s.issues g.val [c.val] r q x) ∧
  (∃ (s : State) (g : Fin 128) (r : PartRef) (q : PartSt) (x : ArrSt), s.issues g.val [] r q x) :=
  ⟨⟨runs 1 arr1, 0, 31, 15, 10, ref1, part1, arr1, by (try dsimp only [State.issues]); decide +kernel⟩,
   ⟨runs 1 arr1, 0, 31, 3, ref1, part1, arr1, by (try dsimp only [State.issues]); decide +kernel⟩,
   ⟨runs 1 arr1, 0, 31, ref1, part1, arr1, by (try dsimp only [State.issues]); decide +kernel⟩,
   ⟨runs 1 arr1, 0, 15, ref1, part1, arr1, by (try dsimp only [State.issues]); decide +kernel⟩,
   ⟨runs 1 arr1, 0, ref1, part1, arr1, by (try dsimp only [State.issues]); decide +kernel⟩⟩

theorem witness_StoreLoadsFillRegisters :
  (∃ (s : State) (g : Fin 128) (a : Fin 16) (offset : Nat) (r : PartRef) (q : PartSt) (x : ArrSt),
    let p := (x.sreg a.val + offset) % 2 ^ 32
    s.issues g.val [a.val] r q x ∧ x.sound q p 4) ∧
  (∃ (s : State) (g : Fin 128) (a : Fin 16) (offset : Nat) (r : PartRef) (q : PartSt) (x : ArrSt),
    let p := (x.sreg a.val + offset) % 2 ^ 32
    s.issues g.val [a.val] r q x ∧ x.sound q p 1) ∧
  (∃ (s : State) (g : Fin 128) (v : Fin 32) (a : Fin 16) (offset : Nat) (r : PartRef) (q : PartSt) (x : ArrSt),
    let p := (x.sreg a.val + offset) % 2 ^ 32
    s.issues g.val [a.val, 16 + v.val] r q x ∧ x.sound q (p / 32) 1) ∧
  (∃ (s : State) (g : Fin 128) (a : Fin 16) (offset : Nat) (table : Fin 4) (r : PartRef) (q : PartSt) (x : ArrSt),
    let p := (x.sreg a.val + offset) % 2 ^ 32
    s.issues g.val [a.val, 72 + table.val, 64 + table.val] r q x ∧ x.sound q p 256) :=
  ⟨⟨runs 1 arr1, 0, 0, 1020, ref1, part1, arr1, by (try dsimp only [State.issues, ArrSt.sound]); decide +kernel⟩,
   ⟨runs 1 arr1, 0, 0, 1023, ref1, part1, arr1, by (try dsimp only [State.issues, ArrSt.sound]); decide +kernel⟩,
   ⟨runs 1 arr1, 0, 0, 0, 32767, ref1, part1, arr1, by (try dsimp only [State.issues, ArrSt.sound]); decide +kernel⟩,
   ⟨runs 1 arr1, 0, 0, 768, 0, ref1, part1, arr1, by (try dsimp only [State.issues, ArrSt.sound]); decide +kernel⟩⟩

theorem witness_StoresWriteTheirLinesOnly :
  (∃ (s : State) (g : Fin 128) (v : Fin 32) (a : Fin 16) (offset : Nat) (r : PartRef) (q : PartSt) (x : ArrSt),
    let p := (x.sreg a.val + offset) % 2 ^ 32
    s.issues g.val [a.val, 16 + v.val] r q x ∧ p + 4 ≤ q.decl.storeLines) ∧
  (∃ (s : State) (g : Fin 128) (v : Fin 32) (a : Fin 16) (offset : Nat) (r : PartRef) (q : PartSt) (x : ArrSt),
    let p := (x.sreg a.val + offset) % 2 ^ 32
    s.issues g.val [a.val, 16 + v.val] r q x ∧ p < q.decl.storeLines) ∧
  (∃ (s : State) (g : Fin 128) (v : Fin 32) (a : Fin 16) (offset : Nat) (r : PartRef) (q : PartSt) (x : ArrSt),
    let p := (x.sreg a.val + offset) % 2 ^ 32
    s.issues g.val [a.val, 16 + v.val] r q x ∧ p / 32 < q.decl.storeLines) ∧
  (∃ (s : State) (g : Fin 128) (d : Fin 16) (a : Fin 16) (offset : Nat) (r : PartRef) (q : PartSt) (x : ArrSt),
    let p := (x.sreg a.val + offset) % 2 ^ 32
    s.issues g.val [a.val, d.val] r q x ∧ p < q.decl.storeLines) ∧
  (∃ (q : PartSt) (rel : Nat) (l : Nat), l ≠ q.base + rel) ∧
  (∃ (q : PartSt) (rel : Nat) (ls : List (List Nat)) (l : Nat), (l < q.base + rel ∨ q.base + rel + ls.length ≤ l)) :=
  ⟨⟨runs 1 arr1, 0, 0, 0, 1020, ref1, part1, arr1, by (try dsimp only [State.issues]); decide +kernel⟩,
   ⟨runs 1 arr1, 0, 0, 0, 1023, ref1, part1, arr1, by (try dsimp only [State.issues]); decide +kernel⟩,
   ⟨runs 1 arr1, 0, 0, 0, 32767, ref1, part1, arr1, by (try dsimp only [State.issues]); decide +kernel⟩,
   ⟨runs 1 arr1, 0, 0, 0, 1023, ref1, part1, arr1, by (try dsimp only [State.issues]); decide +kernel⟩,
   ⟨part1, 0, 1, by decide +kernel⟩,
   ⟨part1, 1, [[]], 2, by decide +kernel⟩⟩

theorem witness_AccessOutsideThePartStopsTheProgram :
  (∃ (s : State) (g : Fin 128) (a : Fin 16) (offset : Nat) (r : PartRef) (q : PartSt) (x : ArrSt),
    let p := (x.sreg a.val + offset) % 2 ^ 32
    let out := fun (line n : Nat) => q.decl.storeLines < line + n
    s.issues g.val [a.val] r q x ∧ out p 4) ∧
  (∃ (s : State) (g : Fin 128) (a : Fin 16) (offset : Nat) (r : PartRef) (q : PartSt) (x : ArrSt),
    let p := (x.sreg a.val + offset) % 2 ^ 32
    let out := fun (line n : Nat) => q.decl.storeLines < line + n
    s.issues g.val [a.val] r q x ∧ out p 1) ∧
  (∃ (s : State) (g : Fin 128) (a : Fin 16) (offset : Nat) (r : PartRef) (q : PartSt) (x : ArrSt),
    let p := (x.sreg a.val + offset) % 2 ^ 32
    s.issues g.val [a.val] r q x ∧ x.sound q p 1 ∧ x.xfers.length < 8 ∧ s.xferOf r q (x.own q p 0) = .error 0x7A) ∧
  (∃ (s : State) (g : Fin 128) (v : Fin 32) (a : Fin 16) (offset : Nat) (r : PartRef) (q : PartSt) (x : ArrSt),
    let p := (x.sreg a.val + offset) % 2 ^ 32
    let out := fun (line n : Nat) => q.decl.storeLines < line + n
    s.issues g.val [a.val, 16 + v.val] r q x ∧ out p 4) ∧
  (∃ (s : State) (g : Fin 128) (v : Fin 32) (a : Fin 16) (offset : Nat) (r : PartRef) (q : PartSt) (x : ArrSt),
    let p := (x.sreg a.val + offset) % 2 ^ 32
    let out := fun (line n : Nat) => q.decl.storeLines < line + n
    s.issues g.val [a.val, 16 + v.val] r q x ∧ out p 1) ∧
  (∃ (s : State) (g : Fin 128) (v : Fin 32) (a : Fin 16) (offset : Nat) (r : PartRef) (q : PartSt) (x : ArrSt),
    let p := (x.sreg a.val + offset) % 2 ^ 32
    let out := fun (line n : Nat) => q.decl.storeLines < line + n
    s.issues g.val [a.val, 16 + v.val] r q x ∧ out (p / 32) 1) ∧
  (∃ (s : State) (g : Fin 128) (d : Fin 16) (a : Fin 16) (offset : Nat) (r : PartRef) (q : PartSt) (x : ArrSt),
    let p := (x.sreg a.val + offset) % 2 ^ 32
    let out := fun (line n : Nat) => q.decl.storeLines < line + n
    s.issues g.val [a.val, d.val] r q x ∧ out p 1) ∧
  (∃ (s : State) (g : Fin 128) (a : Fin 16) (offset : Nat) (table : Fin 4) (r : PartRef) (q : PartSt) (x : ArrSt),
    let p := (x.sreg a.val + offset) % 2 ^ 32
    let out := fun (line n : Nat) => q.decl.storeLines < line + n
    s.issues g.val [a.val, 72 + table.val, 64 + table.val] r q x ∧ out p 256) ∧
  (∃ (s : State) (g : Fin 128) (a : Fin 16) (offset : Nat) (r : PartRef) (q : PartSt) (x : ArrSt),
    let p := (x.sreg a.val + offset) % 2 ^ 32
    let out := fun (line n : Nat) => q.decl.storeLines < line + n
    s.issues g.val [a.val, 71] r q x ∧ out p 64) ∧
  (∃ (s : State) (g : Fin 128) (a : Fin 16) (offset : Nat) (r : PartRef) (q : PartSt) (x : ArrSt),
    let p := (x.sreg a.val + offset) % 2 ^ 32
    let out := fun (line n : Nat) => q.decl.storeLines < line + n
    s.issues g.val [a.val, 70] r q x ∧ out p 1) ∧
  (∃ (s : State) (g : Fin 128) (a : Fin 16) (b : Fin 16) (k : Fin 128) (r : PartRef) (q : PartSt) (x : ArrSt),
    let out := fun (line n : Nat) => q.decl.storeLines < line + n
    s.issues g.val [a.val, b.val, 70, 71] r q x ∧ out (x.sreg a.val) (k.val + 1)) ∧
  (∃ (s : State) (g : Fin 128) (a : Fin 16) (offset : Nat) (r : PartRef) (q : PartSt) (x : ArrSt),
    let p := (x.sreg a.val + offset) % 2 ^ 32
    let out := fun (line n : Nat) => q.decl.storeLines < line + n
    s.issues g.val [a.val, 69] r q x ∧ out p 256) ∧
  (∃ (s : State) (g : Fin 128) (a : Fin 16) (offset : Nat) (r : PartRef) (q : PartSt) (x : ArrSt),
    let p := (x.sreg a.val + offset) % 2 ^ 32
    let out := fun (line n : Nat) => q.decl.storeLines < line + n
    s.issues g.val [a.val, 68] r q x ∧ out p 4) ∧
  (∃ (s : State) (g : Fin 128) (a : Fin 16) (b : Fin 16) (r : PartRef) (q : PartSt) (x : ArrSt),
    let out := fun (line n : Nat) => q.decl.storeLines < line + n
    s.issues g.val [a.val, b.val] r q x ∧ out (x.sreg a.val) 1) ∧
  (∃ (q : PartSt) (y : List Nat),
    let n := leNat (slice y 4 4)
    let kind := listGet 0 y 0
    1 ≤ kind ∧ kind ≤ 4 ∧ 1 ≤ n ∧ n ≤ 16384 ∧ q.decl.storeLines < leNat (slice y 16 4) + n) ∧
  (∃ (s : State) (r : PartRef) (q : PartSt) (y : List Nat),
    let n := leNat (slice y 4 4)
    let kind := listGet 0 y 0
    1 ≤ kind ∧ kind ≤ 4 ∧ 1 ≤ n ∧ n ≤ 16384 ∧ kind = 1 ∧ (∀ w ∈ (s.prog r.handle).parts, ¬(w.copyB = q.copyB ∧ w.idx = listGet 0 y 1))) ∧
  (∃ (q : PartSt) (y : List Nat),
    let n := leNat (slice y 4 4)
    let kind := listGet 0 y 0
    1 ≤ kind ∧ kind ≤ 4 ∧ 1 ≤ n ∧ n ≤ 16384 ∧ (kind = 2 ∨ kind = 3) ∧ q.decl.stackBytes < leNat (slice y 8 8) + 64 * n) ∧
  (∃ (s : State) (r : PartRef) (y : List Nat),
    let n := leNat (slice y 4 4)
    let kind := listGet 0 y 0
    1 ≤ kind ∧ kind ≤ 4 ∧ 1 ≤ n ∧ n ≤ 16384 ∧ kind = 4 ∧ s.windowAt (s.prog r.handle).tenant (leNat (slice y 8 8)) = none) :=
  ⟨⟨runs 1 arr1, 0, 0, 1021, ref1, part1, arr1, by (try dsimp only [State.issues]); decide +kernel⟩,
   ⟨runs 1 arr1, 0, 0, 1024, ref1, part1, arr1, by (try dsimp only [State.issues]); decide +kernel⟩,
   ⟨runs 1 { arr1 with store := [(0, badDesc)] }, 0, 0, 0, ref1, part1, { arr1 with store := [(0, badDesc)] }, ⟨by dsimp only [State.issues]; decide +kernel, by dsimp only [ArrSt.sound]; decide +kernel, by decide +kernel, eq_error (by decide +kernel)⟩⟩,
   ⟨runs 1 arr1, 0, 0, 0, 1021, ref1, part1, arr1, by (try dsimp only [State.issues]); decide +kernel⟩,
   ⟨runs 1 arr1, 0, 0, 0, 1024, ref1, part1, arr1, by (try dsimp only [State.issues]); decide +kernel⟩,
   ⟨runs 1 arr1, 0, 0, 0, 32768, ref1, part1, arr1, by (try dsimp only [State.issues]); decide +kernel⟩,
   ⟨runs 1 arr1, 0, 0, 0, 1024, ref1, part1, arr1, by (try dsimp only [State.issues]); decide +kernel⟩,
   ⟨runs 1 arr1, 0, 0, 769, 0, ref1, part1, arr1, by (try dsimp only [State.issues]); decide +kernel⟩,
   ⟨runs 1 arr1, 0, 0, 961, ref1, part1, arr1, by (try dsimp only [State.issues]); decide +kernel⟩,
   ⟨runs 1 arr1, 0, 0, 1024, ref1, part1, arr1, by (try dsimp only [State.issues]); decide +kernel⟩,
   ⟨runs 1 { arr1 with sregs := [(1, 1024)] }, 0, 1, 0, 0, ref1, part1, { arr1 with sregs := [(1, 1024)] }, by (try dsimp only [State.issues]); decide +kernel⟩,
   ⟨runs 1 arr1, 0, 0, 769, ref1, part1, arr1, by (try dsimp only [State.issues]); decide +kernel⟩,
   ⟨runs 1 arr1, 0, 0, 1021, ref1, part1, arr1, by (try dsimp only [State.issues]); decide +kernel⟩,
   ⟨runs 1 { arr1 with sregs := [(1, 1024)] }, 0, 1, 0, ref1, part1, { arr1 with sregs := [(1, 1024)] }, by (try dsimp only [State.issues]); decide +kernel⟩,
   ⟨part1, ydesc 1 0 1024, by (try dsimp only); decide +kernel⟩,
   ⟨runs 1 arr1, ref1, part1, badDesc, by (try dsimp only); decide +kernel⟩,
   ⟨part1, ydesc 3 4033 0, by (try dsimp only); decide +kernel⟩,
   ⟨runs 1 arr1, ref1, ydesc 4 0 0, by (try dsimp only); decide +kernel⟩⟩

theorem witness_TransfersStartAndDeliver :
  (∃ (s : State) (g : Fin 128) (a : Fin 16) (offset : Nat) (r : PartRef) (q : PartSt) (x : ArrSt) (f : Xfer), s.issues g.val [a.val] r q x ∧ x.sound q ((x.sreg a.val + offset) % 2 ^ 32) 1 ∧ x.xfers.length < 8 ∧ s.xferOf r q (x.own q ((x.sreg a.val + offset) % 2 ^ 32) 0) = .ok (some f)) ∧
  (∃ (s : State) (g : Fin 128) (a : Fin 16) (offset : Nat) (r : PartRef) (q : PartSt) (x : ArrSt), s.issues g.val [a.val] r q x ∧ x.sound q ((x.sreg a.val + offset) % 2 ^ 32) 1 ∧ 8 ≤ x.xfers.length) ∧
  (∃ (t : Nat) (s : State) (g : Fin 128) (i : Nat) (f : Xfer),
    let u := s.at t
    (u.arr g.val).xfers[i]? = some f ∧ u.xferBad g.val f = true) ∧
  (∃ (t : Nat) (s : State) (g : Fin 128) (i : Nat) (f : Xfer) (b : List Nat),
    let u := s.at t
    (u.arr g.val).xfers[i]? = some f ∧ u.xferBad g.val f = false ∧ u.xferData g.val f = some b) :=
  ⟨⟨runs 1 { arr1 with store := [(0, desc1)] }, 0, 0, 0, ref1, part1, { arr1 with store := [(0, desc1)] }, xfer1, ⟨by dsimp only [State.issues]; decide +kernel, by dsimp only [ArrSt.sound]; decide +kernel, by decide +kernel, eq_ok (by decide +kernel)⟩⟩,
   ⟨runs 1 { arr1 with xfers := List.replicate 8 xfer1 }, 0, 0, 0, ref1, part1, { arr1 with xfers := List.replicate 8 xfer1 }, by (try dsimp only [State.issues, ArrSt.sound]); decide +kernel⟩,
   ⟨0, { runs 1 { arr1 with xfers := [xfer1] } with pecan := { (runs 1 { arr1 with xfers := [xfer1] }).pecan with stackBad := [(0, true)] } }, 0, 0, xfer1, by (try dsimp only); decide +kernel⟩,
   ⟨0, runs 1 { arr1 with xfers := [{ xfer1 with kind := 3 }] }, 0, 0, { xfer1 with kind := 3 }, List.replicate 64 0, by (try dsimp only); decide +kernel⟩⟩

theorem witness_FeedsAndTheSupplyLossShutDown :
  (∃ (t : Nat) (s : State),
    let u := s.at t
    u.mode = .off ∧ u.boot.safePoint = none) ∧
  (∃ (t : Nat) (sp : Nat) (s : State),
    let u := s.at t
    u.mode = .off ∧ u.boot.safePoint = some sp ∧ u.boot.feedReturned = false) ∧
  (∃ (t : Nat) (s : State),
    let u := s.at t
    u.pins.feedA = true ∧ u.pins.feedB = true ∧ u.running = true) ∧
  (∃ (t : Nat) (s : State),
    let u := s.at t
    u.pins.feedA = true ∧ u.pins.feedB = true ∧ u.running = false) ∧
  (∃ (t : Nat) (s : State),
    let u := s.at t
    (u.mode = .off ∨ u.mode = .ship)) ∧
  (∃ (t : Nat) (s : State),
    let u := s.at t
    u.mode ≠ .off ∧ u.mode ≠ .ship) ∧
  (∃ (t : Nat) (t0 : Nat) (s : State),
    let u := s.at t
    u.boot.supplyLoss = some t0 ∧ u.boot.safePoint = none ∧ t0 + ms ≤ u.now) ∧
  (∃ (t : Nat) (t0 : Nat) (s : State),
    let u := s.at t
    u.boot.supplyLoss = some t0 ∧ u.boot.safePoint = none ∧ u.now < t0 + ms) ∧
  (∃ (t : Nat) (sp : Nat) (s : State),
    let u := s.at t
    u.mode = .off ∧ u.boot.safePoint = some sp ∧ u.boot.feedReturned = true ∧ sp + 100 * ms ≤ u.now) ∧
  (∃ (t : Nat) (sp : Nat) (s : State),
    let u := s.at t
    u.mode = .off ∧ u.boot.safePoint = some sp ∧ u.now < sp + 100 * ms) :=
  ⟨⟨0, (inMode .off), by (try dsimp only); decide +kernel⟩,
   ⟨0, 5, onBoot ((inMode .off)) (fun p => { p with safePoint := some 5 }), by (try dsimp only); decide +kernel⟩,
   ⟨0, (inMode .ready), by (try dsimp only); decide +kernel⟩,
   ⟨0, (inMode .off), by (try dsimp only); decide +kernel⟩,
   ⟨0, (inMode .ship), by (try dsimp only); decide +kernel⟩,
   ⟨0, (inMode .safe), by (try dsimp only); decide +kernel⟩,
   ⟨1000000, 0, onBoot ((inMode .off)) (fun p => { p with supplyLoss := some 0 }), by (try dsimp only); decide +kernel⟩,
   ⟨999999, 0, onBoot ((inMode .off)) (fun p => { p with supplyLoss := some 0 }), by (try dsimp only); decide +kernel⟩,
   ⟨100000000, 0, onBoot ((inMode .off)) (fun p => { p with safePoint := some 0, feedReturned := true }), by (try dsimp only); decide +kernel⟩,
   ⟨99999999, 0, onBoot ((inMode .off)) (fun p => { p with safePoint := some 0 }), by (try dsimp only); decide +kernel⟩⟩

theorem witness_ResetsStartBootAndLoseVolatileState :
  (∃ (t : Nat) (s : State),
    let u := s.at t
    u.mode ≠ .off ∧ u.mode ≠ .ship) ∧
  (∃ (t : Nat) (s : State),
    let u := s.at t
    (u.mode = .off ∨ u.mode = .ship)) ∧
  (∃ (t : Nat) (s : State),
    let u := s.at t
    u.boot.inReset = true) ∧
  (∃ (t : Nat) (s : State),
    let u := s.at t
    u.boot.inReset = false) ∧
  (∃ (t : Nat) (s : State),
    let u := s.at t
    ((smGet (fun _ => {}) u.dict.sessions 0 : Session).level ≠ 0) ∧ u.running = true) ∧
  (∃ (t : Nat) (s : State),
    let u := s.at t
    ((smGet (fun _ => {}) u.dict.sessions 0 : Session).level = 0)) :=
  ⟨⟨0, (inMode .ready), by (try dsimp only); decide +kernel⟩,
   ⟨0, (inMode .ship), by (try dsimp only); decide +kernel⟩,
   ⟨0, onBoot ((inMode .standby)) (fun p => { p with inReset := true }), by (try dsimp only); decide +kernel⟩,
   ⟨0, (inMode .ready), by (try dsimp only); decide +kernel⟩,
   ⟨0, onDict (inMode .ready) (fun d => { d with sessions := [(0, { level := 1 })] }), by (try dsimp only); decide +kernel⟩,
   ⟨0, (inMode .ready), by (try dsimp only); decide +kernel⟩⟩

theorem witness_PinsAndCagesAreReported :
  (∃ (t : Nat) (s : State),
    let u := s.at t
    u.running = true) ∧
  (∃ (t : Nat) (s : State),
    let u := s.at t
    u.mode ≠ .boot ∧ u.mode ≠ .standby ∧ u.boot.stageA ≠ 3 ∧ u.boot.stageB ≠ 3) ∧
  (∃ (t : Nat) (s : State),
    let u := s.at t
    (u.mode = .ready ∨ u.mode = .shaping ∨ u.mode = .hold)) ∧
  (∃ (t : Nat) (s : State),
    let u := s.at t
    u.mode ≠ .ship ∧ u.boot.shipStep = 0) ∧
  (∃ (t : Nat) (s : State),
    let u := s.at t
    u.mode = .ship) ∧
  (∃ (t : Nat) (s : State),
    let u := s.at t
    u.running = false) :=
  ⟨⟨0, (inMode .ready), by (try dsimp only); decide +kernel⟩,
   ⟨0, (inMode .ready), by (try dsimp only); decide +kernel⟩,
   ⟨0, (inMode .hold), by (try dsimp only); decide +kernel⟩,
   ⟨0, (inMode .ready), by (try dsimp only); decide +kernel⟩,
   ⟨0, (inMode .ship), by (try dsimp only); decide +kernel⟩,
   ⟨0, (inMode .off), by (try dsimp only); decide +kernel⟩⟩

theorem witness_HalvesAreWatchedAndLost :
  (∃ (t : Nat) (h : Half) (s : State),
    let u := s.at t
    let i := halfIdx h
    let timed := u.mode ≠ .boot ∧ u.mode ≠ .seed ∧ u.mode ≠ .off ∧ u.mode ≠ .ship
    u.aliveOn i = true ∧ (8 ≤ u.aliveTicks i ∨ ¬timed)) ∧
  (∃ (t : Nat) (h : Half) (s : State),
    let u := s.at t
    let i := halfIdx h
    let timed := u.mode ≠ .boot ∧ u.mode ≠ .seed ∧ u.mode ≠ .off ∧ u.mode ≠ .ship
    u.aliveOn i = true ∧ u.aliveTicks i < 8 ∧ timed) ∧
  (∃ (t : Nat) (h : Half) (s : State),
    let u := s.at t
    let i := halfIdx h
    u.aliveOn i = false) ∧
  (∃ (t : Nat) (h : Half) (s : State),
    let u := s.at t
    let i := halfIdx h
    u.running = true ∧ u.aliveOn i = true ∧ u.aliveEdge i + 15 * us ≤ u.now ∧ u.halfGone (1 - i) = false) ∧
  (∃ (t : Nat) (h : Half) (s : State),
    let u := s.at t
    let i := halfIdx h
    u.now < u.aliveEdge i + 15 * us) ∧
  (∃ (t : Nat) (h : Half) (s : State),
    let u := s.at t
    let i := halfIdx h
    u.reacted i = true ∧ u.lost i = false ∧ u.hold.channels ≠ 0 ∧ u.halfGone (1 - i) = false) ∧
  (∃ (t : Nat) (s : State),
    let u := s.at t
    u.running = true ∧ u.mode ≠ .boot ∧ u.mode ≠ .seed ∧ u.hold.channels = 0 ∧ u.halfGone 0 = false ∧ u.halfGone 1 = false ∧ u.hold.silentSince + 30 * us ≤ u.now ∧ u.aliveOn 0 = true ∧ u.now < u.aliveEdge 0 + 15 * us) ∧
  (∃ (t : Nat) (s : State),
    let u := s.at t
    u.hold.channels ≠ 0) ∧
  (∃ (t : Nat) (c : Fin 3) (s : State),
    let u := s.at t
    bitOf u.hold.channels c.val = true ∧ c.val < 2) ∧
  (∃ (t : Nat) (c : Fin 3) (s : State),
    let u := s.at t
    bitOf u.hold.channels c.val = false ∧ c.val < 2 ∧ u.lost 0 = false ∧ u.lost 1 = false ∧ u.reacted 0 = false ∧ u.reacted 1 = false) ∧
  (∃ (t : Nat) (s : State),
    let u := s.at t
    u.flt.recoveryUntil ≤ u.now) ∧
  (∃ (t : Nat) (s : State),
    let u := s.at t
    u.now < u.flt.recoveryUntil) :=
  ⟨⟨0, .a, onPins ((inMode .ready)) (fun p => { p with aliveOnA := true, ticksA := 8 }), by (try dsimp only); decide +kernel⟩,
   ⟨0, .a, onPins ((inMode .ready)) (fun p => { p with aliveOnA := true, ticksA := 7 }), by (try dsimp only); decide +kernel⟩,
   ⟨0, .a, (inMode .ready), by (try dsimp only); decide +kernel⟩,
   ⟨15000, .a, onPins ((inMode .ready)) (fun p => { p with aliveOnA := true }), by (try dsimp only); decide +kernel⟩,
   ⟨14999, .a, (inMode .ready), by (try dsimp only); decide +kernel⟩,
   ⟨0, .a, (((inMode .ready)).setNat (Obj.blockState 0) 3), by (try dsimp only); decide +kernel⟩,
   ⟨30000, onPins (onHold ((inMode .ready)) (fun p => { p with channels := 0 })) (fun p => { p with aliveOnA := true, edgeA := 15001 }), by (try dsimp only); decide +kernel⟩,
   ⟨0, (inMode .ready), by (try dsimp only); decide +kernel⟩,
   ⟨0, 1, (inMode .ready), by (try dsimp only); decide +kernel⟩,
   ⟨0, 1, onHold ((inMode .ready)) (fun p => { p with channels := 0 }), by (try dsimp only); decide +kernel⟩,
   ⟨0, (inMode .ready), by (try dsimp only); decide +kernel⟩,
   ⟨0, { (inMode .ready) with flt := { recoveryUntil := 1 } }, by (try dsimp only); decide +kernel⟩⟩

theorem witness_HoldElectsAtMostOneHalf :
  (∃ (t : Nat) (s : State),
    let u := s.at t
    u.mode = .hold ∧ u.hold.phase = 1 ∧ u.hold.tH + 10 * us ≤ u.now) ∧
  (∃ (t : Nat) (s : State),
    let u := s.at t
    u.now < u.hold.tH + 10 * us) ∧
  (∃ (t : Nat) (s : State),
    let u := s.at t
    let a := u.hold.eligA = true ∧ u.halfGone 0 = false
    let b := u.hold.eligB = true ∧ u.halfGone 1 = false ∧ (u.supUp = true ∨ u.lost 0 = true ∨ u.lost 1 = true)
    u.mode = .hold ∧ u.hold.phase = 2 ∧ u.hold.tH + 20 * us ≤ u.now ∧ a ∧ (b → u.hold.cntA ≤ u.hold.cntB)) ∧
  (∃ (t : Nat) (s : State),
    let u := s.at t
    let a := u.hold.eligA = true ∧ u.halfGone 0 = false
    let b := u.hold.eligB = true ∧ u.halfGone 1 = false ∧ (u.supUp = true ∨ u.lost 0 = true ∨ u.lost 1 = true)
    u.mode = .hold ∧ u.hold.phase = 2 ∧ u.hold.tH + 20 * us ≤ u.now ∧ b ∧ (a → u.hold.cntB < u.hold.cntA)) ∧
  (∃ (t : Nat) (s : State),
    let u := s.at t
    let a := u.hold.eligA = true ∧ u.halfGone 0 = false
    let b := u.hold.eligB = true ∧ u.halfGone 1 = false ∧ (u.supUp = true ∨ u.lost 0 = true ∨ u.lost 1 = true)
    u.mode = .hold ∧ u.hold.phase = 2 ∧ u.hold.tH + 20 * us ≤ u.now ∧ (¬a) ∧ (¬b)) ∧
  (∃ (t : Nat) (s : State),
    let u := s.at t
    let w : State := { u with hold := { u.hold with phase := 4 } }
    u.mode = .hold ∧ u.hold.phase = 3 ∧ u.hold.tH + 30 * us ≤ u.now ∧ u.holder = 0 ∧ w.holdWinner = some 0 ∧ u.hold.eligB = true ∧ u.supUp = true ∧ u.halfGone 1 = false) ∧
  (∃ (t : Nat) (s : State),
    let u := s.at t
    let w : State := { u with hold := { u.hold with phase := 4 } }
    u.mode = .hold ∧ u.hold.phase = 3 ∧ u.hold.tH + 30 * us ≤ u.now ∧ u.holder = 0 ∧ w.holdWinner = some 1 ∧ u.hold.eligA = true ∧ u.halfGone 0 = false) ∧
  (∃ (t : Nat) (s : State),
    let u := s.at t
    let w : State := { u with hold := { u.hold with phase := 4 } }
    u.mode = .hold ∧ u.hold.phase = 3 ∧ u.hold.tH + 30 * us ≤ u.now ∧ u.holder = 0 ∧ w.holdWinner = none) ∧
  (∃ (t : Nat) (s : State),
    let u := s.at t
    u.mode = .hold ∧ u.hold.tH + 50 * us ≤ u.now ∧ u.holder = 0) ∧
  (∃ (t : Nat) (s : State),
    let u := s.at t
    u.now < u.hold.tH + 50 * us) ∧
  (∃ (w : State), w.hold.latchB = false) ∧
  (∃ (w : State), w.hold.latchA = false) :=
  ⟨⟨10000, onHold ((inMode .hold)) (fun p => { p with phase := 1 }), by (try dsimp only); decide +kernel⟩,
   ⟨9999, onHold ((inMode .hold)) (fun p => { p with phase := 1 }), by (try dsimp only); decide +kernel⟩,
   ⟨20000, onHold ((inMode .hold)) (fun p => { p with phase := 2, eligA := true, eligB := true }), by (try dsimp only); decide +kernel⟩,
   ⟨20000, onHold ((inMode .hold)) (fun p => { p with phase := 2, eligA := true, eligB := true, cntA := 1 }), by (try dsimp only); decide +kernel⟩,
   ⟨20000, onHold ((inMode .hold)) (fun p => { p with phase := 2 }), by (try dsimp only); decide +kernel⟩,
   ⟨30000, onHold ((inMode .hold)) (fun p => { p with phase := 3, eligA := true, eligB := true }), by (try dsimp only); decide +kernel⟩,
   ⟨30000, onHold ((inMode .hold)) (fun p => { p with phase := 3, eligA := true, eligB := true, cntA := 1 }), by (try dsimp only); decide +kernel⟩,
   ⟨30000, onHold ((inMode .hold)) (fun p => { p with phase := 3 }), by (try dsimp only); decide +kernel⟩,
   ⟨50000, onHold ((inMode .hold)) (fun p => { p with phase := 4 }), by (try dsimp only); decide +kernel⟩,
   ⟨49999, onHold ((inMode .hold)) (fun p => { p with phase := 4 }), by (try dsimp only); decide +kernel⟩,
   ⟨(inMode .ready), by decide +kernel⟩,
   ⟨(inMode .ready), by decide +kernel⟩⟩

theorem witness_PowerDomainsAndLateStarts :
  (∃ (t : Nat) (d : Fin 32) (s : State),
    let u := s.at t
    let x := d.val
    let b := u.boot
    u.running = true ∧ u.reqNow x ≠ 3 ∧ (u.pins.coolantSeated = true ∨ x = 24) ∧ u.halfGone (domHalf x) = false ∧ u.blockSafe (domHalf x) 6 = false ∧ (¬(u.mode = .safe ∧ b.thermalLatch = true))) ∧
  (∃ (t : Nat) (d : Fin 32) (s : State),
    let u := s.at t
    let x := d.val
    u.reqNow x = 3) ∧
  (∃ (t : Nat) (d : Fin 32) (s : State),
    let u := s.at t
    let x := d.val
    u.pins.coolantSeated = false ∧ x ≠ 24) ∧
  (∃ (t : Nat) (d : Fin 32) (fault : Bool) (s : State),
    let u := s.at t
    let x := d.val
    u.running = true ∧ (fault = true ∨ u.reqNow x ≠ 1)) ∧
  (∃ (t : Nat) (d : Fin 32) (s : State),
    let u := s.at t
    let x := d.val
    u.reqNow x = 1) ∧
  (∃ (t : Nat) (d : Fin 32) (s : State),
    let u := s.at t
    let x := d.val
    u.domState x = 2) ∧
  (∃ (t : Nat) (d : Fin 32) (s : State),
    let u := s.at t
    let x := d.val
    u.domState x ≠ 2) ∧
  (∃ (t : Nat) (d : Fin 32) (s : State),
    let u := s.at t
    let x := d.val
    x < 24 ∧ u.domState x = 1) ∧
  (∃ (t : Nat) (d : Fin 32) (s : State),
    let u := s.at t
    let x := d.val
    24 ≤ x ∧ x < 28 ∧ u.domState x = 1) ∧
  (∃ (t : Nat) (d : Fin 32) (s : State),
    let u := s.at t
    let x := d.val
    28 ≤ x ∧ u.running = true) ∧
  (∃ (t : Nat) (d : Fin 32) (s : State),
    let u := s.at t
    let x := d.val
    x < 28 ∧ u.domState x ≠ 1) ∧
  (∃ (t : Nat) (s : State),
    let u := s.at t
    let b := u.boot
    let spent := b.stage3Time + if b.stageA = 3 ∨ b.stageB = 3 then u.now - b.stage3Since else 0
    u.mode = .boot ∧ b.inReset = false ∧ b.restartAt = none ∧ b.since + spent + 30 * sec ≤ u.now) ∧
  (∃ (t : Nat) (s : State),
    let u := s.at t
    let b := u.boot
    let spent := b.stage3Time + if b.stageA = 3 ∨ b.stageB = 3 then u.now - b.stage3Since else 0
    u.now < b.since + spent + 30 * sec) ∧
  (∃ (t : Nat) (s : State) (r : _),
    let u := s.at t
    let b := u.boot
    u.mode = .boot ∧ b.restartAt = some r ∧ r ≤ u.now) ∧
  (∃ (t : Nat) (s : State) (r : _),
    let u := s.at t
    let b := u.boot
    u.mode = .boot ∧ b.restartAt = some r ∧ u.now < r) ∧
  (∃ (t : Nat) (s : State),
    let u := s.at t
    let b := u.boot
    u.energising = true ∧ u.nat Obj.energiseStep = 2 ∧ b.stepSince + 10 * ms ≤ u.now ∧ u.notAnswering ≠ 0) ∧
  (∃ (t : Nat) (s : State),
    let u := s.at t
    let b := u.boot
    u.energising = true ∧ u.nat Obj.energiseStep = 3 ∧ b.stepSince + u.nat Obj.busSoftStartTimeout * ms ≤ u.now) ∧
  (∃ (t : Nat) (s : State),
    let u := s.at t
    let b := u.boot
    u.busDown = false ∧ b.shutStep = 4 ∧ b.shutSince + u.nat Obj.deenergiseTimeout * ms ≤ u.now) ∧
  (∃ (t : Nat) (s : State),
    let u := s.at t
    let b := u.boot
    u.busDown = false ∧ b.shutStep ≠ 4 ∧ b.failStep = 2 ∧ b.failSince + u.nat Obj.deenergiseTimeout * ms ≤ u.now) ∧
  (∃ (t : Nat) (s : State),
    let u := s.at t
    u.busDown = true) :=
  ⟨⟨0, 24, (inMode .standby), by (try dsimp only); decide +kernel⟩,
   ⟨0, 0, { (inMode .ready) with pow := { reqs := [(0, (1, 3))] } }, by (try dsimp only); decide +kernel⟩,
   ⟨0, 25, (inMode .ready), by (try dsimp only); decide +kernel⟩,
   ⟨0, 0, true, (inMode .ready), by (try dsimp only); decide +kernel⟩,
   ⟨0, 0, { (inMode .ready) with pow := { reqs := [(0, (1, 1))] } }, by (try dsimp only); decide +kernel⟩,
   ⟨0, 0, (((inMode .ready)).setNat (Obj.domainState2D01 0) 2), by (try dsimp only); decide +kernel⟩,
   ⟨0, 0, (inMode .ready), by (try dsimp only); decide +kernel⟩,
   ⟨0, 23, (((inMode .ready)).setNat (Obj.domainState2D01 23) 1), by (try dsimp only); decide +kernel⟩,
   ⟨0, 24, (inMode .ready), by (try dsimp only); decide +kernel⟩,
   ⟨0, 28, (inMode .ready), by (try dsimp only); decide +kernel⟩,
   ⟨0, 27, (inMode .ready), by (try dsimp only); decide +kernel⟩,
   ⟨30000000000, State.reset, by (try dsimp only); decide +kernel⟩,
   ⟨29999999999, State.reset, by (try dsimp only); decide +kernel⟩,
   ⟨7, onBoot (State.reset) (fun p => { p with restartAt := some 7 }), 7, by (try dsimp only); decide +kernel⟩,
   ⟨6, onBoot (State.reset) (fun p => { p with restartAt := some 7 }), 7, by (try dsimp only); decide +kernel⟩,
   ⟨10000000, (((((inMode .standby)).setNat (Obj.rectifiersFitted) 1)).setNat (Obj.energiseStep) 2), by (try dsimp only); decide +kernel⟩,
   ⟨((inMode .standby)).nat Obj.busSoftStartTimeout * ms, (((inMode .standby)).setNat (Obj.energiseStep) 3), by (try dsimp only); decide +kernel⟩,
   ⟨((inMode .safe)).nat Obj.deenergiseTimeout * ms, onBoot ((((inMode .safe)).setNum (Obj.value 52) 800000)) (fun p => { p with shutStep := 4 }), by (try dsimp only); decide +kernel⟩,
   ⟨((inMode .safe)).nat Obj.deenergiseTimeout * ms, onBoot ((((inMode .standby)).setNum (Obj.value 52) 800000)) (fun p => { p with failStep := 2 }), by (try dsimp only); decide +kernel⟩,
   ⟨0, (inMode .ready), by (try dsimp only); decide +kernel⟩⟩

theorem witness_BootGoesThroughItsStages :
  (∃ (t : Nat) (h : Half) (s : State),
    let u := s.at t
    let i := halfIdx h
    (u.mode ≠ .boot ∨ u.boot.inReset = true ∨ u.boot.restartAt.isSome = true ∨ u.bootOut i = true)) ∧
  (∃ (t : Nat) (h : Half) (s : State),
    let u := s.at t
    let i := halfIdx h
    u.mode = .boot ∧ u.boot.inReset = false ∧ u.boot.restartAt = none ∧ u.bootOut i = false ∧ u.stageOf i = 1 ∧ 3 ≤ (u.romRuns i).failsInWindow.length) ∧
  (∃ (t : Nat) (h : Half) (s : State),
    let u := s.at t
    let i := halfIdx h
    u.mode = .boot ∧ u.boot.inReset = false ∧ u.boot.restartAt = none ∧ u.bootOut i = false ∧ u.stageOf i = 1 ∧ (u.romRuns i).failsInWindow.length < 3) ∧
  (∃ (t : Nat) (h : Half) (ok : Bool) (s : State),
    let u := s.at t
    let i := halfIdx h
    let o := 1 - i
    u.mode = .boot ∧ u.boot.inReset = false ∧ u.boot.restartAt = none ∧ u.bootOut i = false ∧ u.stageOf i = 2 ∧ (u.bootOut o = false ∧ u.stageOf o ≤ 2) ∧ u.activeHolds i ok = true ∧ u.boot.thermalLatch = false) ∧
  (∃ (t : Nat) (h : Half) (ok : Bool) (s : State),
    let u := s.at t
    let i := halfIdx h
    let o := 1 - i
    u.mode = .boot ∧ u.boot.inReset = false ∧ u.boot.restartAt = none ∧ u.bootOut i = false ∧ u.stageOf i = 2 ∧ (u.bootOut o = false ∧ u.stageOf o ≤ 2) ∧ u.activeHolds i ok = true ∧ u.boot.thermalLatch = true) ∧
  (∃ (t : Nat) (h : Half) (s : State),
    let u := s.at t
    let i := halfIdx h
    u.mode = .boot ∧ u.boot.inReset = false ∧ u.boot.restartAt = none ∧ u.bootOut i = false ∧ u.stageOf i = 3) ∧
  (∃ (t : Nat) (h : Half) (s : State),
    let u := s.at t
    let i := halfIdx h
    u.mode = .boot ∧ u.boot.inReset = false ∧ u.boot.restartAt = none ∧ u.bootOut i = false ∧ u.stageOf i = 4) ∧
  (∃ (t : Nat) (h : Half) (ok : Bool) (failed : List (Fin 97)) (s : State),
    let u := s.at t
    let i := halfIdx h
    let w := ((failed.foldl (fun x k => x.raise (97 * i + k.val) 2 4 0 lvBlock true) u).stacksUp i).trainChannels
    u.mode = .boot ∧ u.boot.inReset = false ∧ u.boot.restartAt = none ∧ u.bootOut i = false ∧ u.stageOf i = 5 ∧ ok = true ∧ w.mode = .boot ∧ (match h with | .a => w.boot.verifiedA | .b => w.boot.verifiedB) = true ∧ w.healthyNoSup i = true) ∧
  (∃ (t : Nat) (h : Half) (s : State),
    let u := s.at t
    let i := halfIdx h
    u.mode = .boot ∧ u.boot.inReset = false ∧ u.boot.restartAt = none ∧ u.bootOut i = false ∧ u.stageOf i = 6) ∧
  (∃ (t : Nat) (s : State),
    let u := s.at t
    u.mode = .boot ∧ (∀ k, k < 2 → u.bootOut k = true ∨ u.stageOf k = 7) ∧ (∃ k, k < 2 ∧ u.bootOut k = false)) :=
  ⟨⟨0, .a, (inMode .ready), by (try dsimp only); decide +kernel⟩,
   ⟨0, .a, onBoot (State.reset) (fun p => { p with failLog := List.replicate 3 (0, 1, 0, 0), sinceClear := 3 }), by (try dsimp only); decide +kernel⟩,
   ⟨0, .a, State.reset, by (try dsimp only); decide +kernel⟩,
   ⟨0, .a, true, boots 2 2, by (try dsimp only); decide +kernel⟩,
   ⟨0, .a, true, onBoot ((boots 2 1)) (fun p => { p with thermalLatch := true }), by (try dsimp only); decide +kernel⟩,
   ⟨0, .a, boots 3 7, by (try dsimp only); decide +kernel⟩,
   ⟨0, .a, boots 4 7, by (try dsimp only); decide +kernel⟩,
   ⟨0, .a, true, {}, onBoot ((boots 5 7)) (fun p => { p with verifiedA := true }), by (try dsimp only); decide +kernel⟩,
   ⟨0, .a, boots 6 7, by (try dsimp only); decide +kernel⟩,
   ⟨0, boots 7 0, by (try dsimp only); decide +kernel⟩⟩

theorem witness_PwmPeriodsClampsAndShares :
  (∃ (t : Nat) (s : State),
    let u := s.at t
    u.counting = true) ∧
  (∃ (t : Nat) (s : State),
    let u := s.at t
    u.counting = false) ∧
  (∃ (n : Fin 48) (w : State), (w.phase n.val).active = true ∧ (w.phase n.val).shedNext = true) ∧
  (∃ (t : Nat) (s : State) (d : _) (pr : _),
    let u := s.at t
    d ≤ 16384 ∧ pr ≤ 8000 ∧ u.nat Obj.minPulse = 0) ∧
  (∃ (t : Nat) (s : State),
    let u := s.at t
    let due := u.conv.clampHeld = false ∧ (5 ≤ u.conv.clampRun1 ∨ 5 ≤ u.conv.clampRun2)
    due) ∧
  (∃ (t : Nat) (s : State),
    let u := s.at t
    let due := u.conv.clampHeld = false ∧ (5 ≤ u.conv.clampRun1 ∨ 5 ≤ u.conv.clampRun2)
    (¬due)) ∧
  (∃ (t : Nat) (t0 : Nat) (s : State),
    let u := s.at t
    u.eng.reserveClear = some t0 ∧ t0 + 10 * ms ≤ u.now) ∧
  (∃ (t : Nat) (t0 : Nat) (s : State),
    let u := s.at t
    u.eng.reserveClear = some t0 ∧ u.now < t0 + 10 * ms) ∧
  (∃ (t : Nat) (t0 : Nat) (m : Nat) (k : Fin 2) (s : State),
    let u := s.at t
    let since := if k = 0 then u.conv.shedSince1 else u.conv.shedSince2
    since = some t0 ∧ u.shedCondition k.val = true ∧ t0 + u.nat Obj.shedDelay2A00 * us ≤ u.now ∧ u.longestActive k.val = some m) ∧
  (∃ (t : Nat) (k : Fin 2) (s : State),
    let u := s.at t
    let since := if k = 0 then u.conv.shedSince1 else u.conv.shedSince2
    since = none) ∧
  (∃ (t : Nat) (s : State),
    let u := s.at t
    u.hold.latchA = false ∧ u.hold.latchB = false ∧ u.hold.noneSince + 600 ≤ u.now) ∧
  (∃ (t : Nat) (s : State),
    let u := s.at t
    (u.hold.latchA = true ∨ u.hold.latchB = true)) :=
  ⟨⟨0, (inMode .ready), by (try dsimp only); decide +kernel⟩,
   ⟨0, (inMode .off), by (try dsimp only); decide +kernel⟩,
   ⟨47, onConv ((inMode .ready)) (fun p => { p with phases := [(47, { active := true, shedNext := true })] }), by decide +kernel⟩,
   ⟨0, (((inMode .ready)).setNat (Obj.minPulse) 0), 16384, 8000, by (try dsimp only); decide +kernel⟩,
   ⟨0, onConv ((inMode .ready)) (fun p => { p with clampRun1 := 5 }), by (try dsimp only); decide +kernel⟩,
   ⟨0, onConv ((inMode .ready)) (fun p => { p with clampRun1 := 4, clampRun2 := 4 }), by (try dsimp only); decide +kernel⟩,
   ⟨10000000, 0, onEng ((inMode .ready)) (fun p => { p with reserveClear := some 0 }), by (try dsimp only); decide +kernel⟩,
   ⟨9999999, 0, onEng ((inMode .ready)) (fun p => { p with reserveClear := some 0 }), by (try dsimp only); decide +kernel⟩,
   ⟨shedding.nat Obj.shedDelay2A00 * us, 0, 0, 0, shedding, by (try dsimp only); decide +kernel⟩,
   ⟨0, 0, (inMode .ready), by (try dsimp only); decide +kernel⟩,
   ⟨600, (inMode .ready), by (try dsimp only); decide +kernel⟩,
   ⟨0, onHold ((inMode .ready)) (fun p => { p with latchA := true }), by (try dsimp only); decide +kernel⟩⟩

theorem witness_ConverterProtectionsAct :
  (∃ (t : Nat) (n : Fin 48) (s : State),
    let u := s.at t
    let p := u.phase n.val
    u.pwmLive = true ∧ p.active = true ∧ p.cut = false) ∧
  (∃ (t : Nat) (n : Fin 48) (s : State),
    let u := s.at t
    let p := u.phase n.val
    u.pwmLive = true ∧ p.active = true ∧ 7 ≤ p.cutRun ∧ p.cutPeriod = true) ∧
  (∃ (t : Nat) (n : Fin 48) (s : State),
    let u := s.at t
    let p := u.phase n.val
    p.active = false) ∧
  (∃ (t : Nat) (k : Fin 2) (s : State),
    let u := s.at t
    u.pwmLive = true ∧ (u.str k.val).conn ≠ .precharging) ∧
  (∃ (t : Nat) (ch : Fin 2) (s : State),
    let u := s.at t
    u.pwmLive = true ∧ bitOf u.conv.streamFault (52 + ch.val) = false) ∧
  (∃ (t : Nat) (s : State),
    let u := s.at t
    u.pwmLive = true ∧ u.conv.uvArmed = true ∧ (¬(bitOf u.conv.streamFault 52 = true ∧ bitOf u.conv.streamFault 53 = true)) ∧ u.mode ≠ .standby) ∧
  (∃ (t : Nat) (s : State),
    let u := s.at t
    u.conv.uvArmed = false) ∧
  (∃ (t : Nat) (s : State),
    let u := s.at t
    u.pwmLive = false) ∧
  (∃ (t : Nat) (c : Fin 54) (s : State),
    let u := s.at t
    u.counting = true ∧ bitOf u.conv.streamFault c.val = false ∧ u.pwmLive = false) ∧
  (∃ (t : Nat) (c : Fin 54) (s : State),
    let u := s.at t
    u.counting = true ∧ bitOf u.conv.streamFault c.val = false ∧ u.pwmLive = true ∧ c.val < 48) ∧
  (∃ (t : Nat) (c : Fin 54) (s : State),
    let u := s.at t
    u.counting = true ∧ u.pwmLive = true ∧ 52 ≤ c.val ∧ bitOf u.conv.streamFault c.val = false) ∧
  (∃ (t : Nat) (c : Fin 54) (s : State),
    let u := s.at t
    bitOf u.conv.streamFault c.val = true) :=
  ⟨⟨0, 47, onConv ((inMode .ready)) (fun p => { p with phases := [(47, { active := true })] }), by (try dsimp only); decide +kernel⟩,
   ⟨0, 47, onConv ((inMode .ready)) (fun p => { p with phases := [(47, { active := true, cutRun := 7, cutPeriod := true })] }), by (try dsimp only); decide +kernel⟩,
   ⟨0, 0, (inMode .ready), by (try dsimp only); decide +kernel⟩,
   ⟨0, 1, (inMode .ready), by (try dsimp only); decide +kernel⟩,
   ⟨0, 1, (inMode .ready), by (try dsimp only); decide +kernel⟩,
   ⟨0, onConv ((inMode .ready)) (fun p => { p with uvArmed := true }), by (try dsimp only); decide +kernel⟩,
   ⟨0, (inMode .ready), by (try dsimp only); decide +kernel⟩,
   ⟨0, (inMode .standby), by (try dsimp only); decide +kernel⟩,
   ⟨0, 53, (inMode .standby), by (try dsimp only); decide +kernel⟩,
   ⟨0, 47, (inMode .ready), by (try dsimp only); decide +kernel⟩,
   ⟨0, 52, (inMode .ready), by (try dsimp only); decide +kernel⟩,
   ⟨0, 53, onConv ((inMode .ready)) (fun p => { p with streamFault := 2 ^ 53 }), by (try dsimp only); decide +kernel⟩⟩

theorem witness_ContactorsConnectAndOpenStrings :
  (∃ (t : Nat) (k : Fin 2) (c : Contactor) (s : State),
    let u := s.at t
    let i := k.val
    let x := u.str i
    let drive := match c with | .neg => x.negDrive | .pos => x.posDrive | .pre => x.preDrive
    drive = true ∧ x.conn = .precharging ∧ c = .neg ∧ x.step = 2) ∧
  (∃ (t : Nat) (k : Fin 2) (c : Contactor) (s : State),
    let u := s.at t
    let i := k.val
    let x := u.str i
    let drive := match c with | .neg => x.negDrive | .pos => x.posDrive | .pre => x.preDrive
    drive = true ∧ x.conn = .precharging ∧ c = .pos ∧ x.step = 5) ∧
  (∃ (t : Nat) (k : Fin 2) (c : Contactor) (s : State),
    let u := s.at t
    let i := k.val
    let x := u.str i
    let drive := match c with | .neg => x.negDrive | .pos => x.posDrive | .pre => x.preDrive
    drive = true ∧ x.conn = .precharging ∧ c = .pre ∧ x.step = 3) ∧
  (∃ (t : Nat) (k : Fin 2) (c : Contactor) (s : State),
    let u := s.at t
    let i := k.val
    let x := u.str i
    let drive := match c with | .neg => x.negDrive | .pos => x.posDrive | .pre => x.preDrive
    drive = false ∧ x.conn = .opening) ∧
  (∃ (t : Nat) (k : Fin 2) (c : Contactor) (s : State),
    let u := s.at t
    let i := k.val
    let x := u.str i
    let drive := match c with | .neg => x.negDrive | .pos => x.posDrive | .pre => x.preDrive
    drive = false ∧ x.conn ≠ .opening) ∧
  (∃ (t : Nat) (k : Fin 2) (s : State),
    let u := s.at t
    let i := k.val
    let x := u.str i
    x.conn = .opening) ∧
  (∃ (t : Nat) (k : Fin 2) (s : State),
    let u := s.at t
    let i := k.val
    let x := u.str i
    x.conn ≠ .opening) ∧
  (∃ (t : Nat) (k : Fin 2) (s : State),
    let u := s.at t
    let i := k.val
    let x := u.str i
    (x.step = 2 ∨ x.step = 3 ∨ x.step = 5) ∧ x.stepSince + u.nat (Obj.closeTimeout (i + 1)) * ms ≤ u.now) ∧
  (∃ (t : Nat) (k : Fin 2) (s : State),
    let u := s.at t
    let i := k.val
    let x := u.str i
    x.step ≠ 2 ∧ x.step ≠ 3 ∧ x.step ≠ 5) ∧
  (∃ (t : Nat) (k : Fin 2) (s : State),
    let u := s.at t
    let i := k.val
    let x := u.str i
    x.step = 4 ∧ x.check1Done = false ∧ x.preSince + u.nat (Obj.prechargeCheckTime1 (i + 1)) * ms ≤ u.now) ∧
  (∃ (t : Nat) (k : Fin 2) (s : State),
    let u := s.at t
    let i := k.val
    let x := u.str i
    x.step = 4 ∧ x.check2Done = false ∧ x.preSince + u.nat (Obj.prechargeCheckTime2 (i + 1)) * ms ≤ u.now) ∧
  (∃ (t : Nat) (k : Fin 2) (s : State),
    let u := s.at t
    let i := k.val
    let x := u.str i
    x.step = 4 ∧ x.preSince + u.nat (Obj.prechargeTimeout (i + 1)) * ms ≤ u.now) ∧
  (∃ (t : Nat) (k : Fin 2) (s : State),
    let u := s.at t
    let i := k.val
    let x := u.str i
    x.step ≠ 4) ∧
  (∃ (t : Nat) (k : Fin 2) (s : State),
    let u := s.at t
    let i := k.val
    let x := u.str i
    x.openStep = 1 ∧ x.openSince + 20 * ms ≤ u.now) ∧
  (∃ (t : Nat) (k : Fin 2) (s : State),
    let u := s.at t
    let i := k.val
    let x := u.str i
    x.openStep ≠ 1) ∧
  (∃ (t : Nat) (k : Fin 2) (s : State),
    let u := s.at t
    let i := k.val
    let x := u.str i
    let late := fun (since : Nat) => since + u.nat (Obj.openTimeout (i + 1)) * ms ≤ u.now
    ((x.openStep = 2 ∧ (x.posFb = true ∨ x.preFb = true) ∧ late x.openSince) ∨ (x.openStep = 3 ∧ x.negFb = true ∧ late x.openSince) ∨ (x.conn = .connected ∧ x.preDrive = false ∧ x.preFb = true ∧ late x.stepSince))) ∧
  (∃ (t : Nat) (k : Fin 2) (s : State),
    let u := s.at t
    let i := k.val
    let x := u.str i
    x.negFb = false ∧ x.posFb = false ∧ x.preFb = false) :=
  ⟨⟨0, 0, .neg, withStr { conn := .precharging, negDrive := true, step := 2 }, by (try dsimp only); decide +kernel⟩,
   ⟨0, 0, .pos, withStr { conn := .precharging, posDrive := true, step := 5 }, by (try dsimp only); decide +kernel⟩,
   ⟨0, 0, .pre, withStr { conn := .precharging, preDrive := true, step := 3 }, by (try dsimp only); decide +kernel⟩,
   ⟨0, 0, .neg, withStr { conn := .opening }, by (try dsimp only); decide +kernel⟩,
   ⟨0, 0, .neg, (inMode .ready), by (try dsimp only); decide +kernel⟩,
   ⟨0, 0, withStr { conn := .opening }, by (try dsimp only); decide +kernel⟩,
   ⟨0, 0, (inMode .ready), by (try dsimp only); decide +kernel⟩,
   ⟨State.reset.nat (Obj.closeTimeout 1) * ms, 0, withStr { step := 5 }, by (try dsimp only); decide +kernel⟩,
   ⟨0, 0, (inMode .ready), by (try dsimp only); decide +kernel⟩,
   ⟨State.reset.nat (Obj.prechargeCheckTime1 1) * ms, 0, withStr { step := 4 }, by (try dsimp only); decide +kernel⟩,
   ⟨State.reset.nat (Obj.prechargeCheckTime2 1) * ms, 0, withStr { step := 4 }, by (try dsimp only); decide +kernel⟩,
   ⟨State.reset.nat (Obj.prechargeTimeout 1) * ms, 0, withStr { step := 4 }, by (try dsimp only); decide +kernel⟩,
   ⟨0, 0, (inMode .ready), by (try dsimp only); decide +kernel⟩,
   ⟨20000000, 0, withStr { openStep := 1 }, by (try dsimp only); decide +kernel⟩,
   ⟨0, 0, (inMode .ready), by (try dsimp only); decide +kernel⟩,
   ⟨State.reset.nat (Obj.openTimeout 1) * ms, 0, withStr { openStep := 2, posFb := true }, by (try dsimp only); decide +kernel⟩,
   ⟨0, 0, (inMode .ready), by (try dsimp only); decide +kernel⟩⟩

theorem witness_ControlTickRunsTheLoop :
  (∃ (t : Nat) (s : State),
    let u := s.at t
    u.counting = true) ∧
  (∃ (t : Nat) (s : State),
    let u := s.at t
    u.counting = false) ∧
  (∃ (c : Inst), c.omin ≤ c.omax) ∧
  (∃ (t : Nat) (s : State),
    let u := s.at t
    (u.mode = .ready ∨ u.mode = .shaping)) ∧
  (∃ (t : Nat) (s : State),
    let u := s.at t
    u.mode ≠ .ready ∧ u.mode ≠ .shaping) ∧
  (∃ (t : Nat) (i : Fin 64) (s : State) (e : _),
    let u := s.at t
    (u.eng.commits.find? (fun e => e.1 = i.val) = some e) ∧ e.2 + 2 * us ≤ u.now) ∧
  (∃ (t : Nat) (i : Fin 64) (s : State) (e : _),
    let u := s.at t
    (u.eng.commits.find? (fun e => e.1 = i.val) = some e) ∧ u.now < e.2 + 2 * us) :=
  ⟨⟨0, (inMode .ready), by (try dsimp only); decide +kernel⟩,
   ⟨0, (inMode .boot), by (try dsimp only); decide +kernel⟩,
   ⟨{}, by decide +kernel⟩,
   ⟨0, (inMode .ready), by (try dsimp only); decide +kernel⟩,
   ⟨0, (inMode .standby), by (try dsimp only); decide +kernel⟩,
   ⟨2000, 63, onEng ((inMode .ready)) (fun p => { p with commits := [(63, 0)] }), (63, 0), by (try dsimp only); decide +kernel⟩,
   ⟨1999, 63, onEng ((inMode .ready)) (fun p => { p with commits := [(63, 0)] }), (63, 0), by (try dsimp only); decide +kernel⟩⟩

theorem witness_SetpointFramesKeepTheRampLimit :
  (∃ (t : Nat) (s : State),
    let u := s.at t
    (u.counting && u.framing) = true ∧ u.mode = .safe) ∧
  (∃ (t : Nat) (s : State),
    let u := s.at t
    (u.counting && u.framing) = true ∧ u.energising = true) ∧
  (∃ (t : Nat) (s : State),
    let u := s.at t
    (u.counting && u.framing) = true ∧ u.mode = .standby ∧ u.energising = false) ∧
  (∃ (t : Nat) (s : State),
    let u := s.at t
    (u.counting && u.framing) = true ∧ (u.mode = .ready ∨ u.mode = .shaping)) ∧
  (∃ (t : Nat) (s : State),
    let u := s.at t
    (u.counting && u.framing) = false) ∧
  (∃ (l : Nat) (v : Nat) (imax : Nat) (pPrev : Nat) (m0 : Nat) (m1 : Nat) (i : Nat), 0 < v ∧ ((limTry (limStep l) v imax pPrev m1 i).isSome = true ∨ (limTry (limStep l) v imax pPrev m0 i).isSome = true)) ∧
  (∃ (t : Nat) (b : Fin 2) (s : State),
    let u := s.at t
    let x := u.bus b.val
    x.sent = true) ∧
  (∃ (t : Nat) (b : Fin 2) (s : State),
    let u := s.at t
    let x := u.bus b.val
    x.sent = false) ∧
  (∃ (t : Nat) (id : Nat) (b : Fin 2) (fd : Bool) (bytes : List Nat) (s : State),
    let u := s.at t
    u.counting = true ∧ (fd = false ∨ bytes.length ≠ 8 ∨ id < 0x100 ∨ 0x10C ≤ id ∨ (id - 0x100) / 6 ≠ b.val ∨ listGet 0 bytes 1 % 16 ≠ 0)) ∧
  (∃ (t : Nat) (id : Nat) (b : Fin 2) (r : Fin 12) (fd : Bool) (bytes : List Nat) (s : State),
    let u := s.at t
    let x := u.bus b.val
    u.counting = true ∧ fd = true ∧ bytes.length = 8 ∧ id = 0x100 + r.val ∧ r.val / 6 = b.val ∧ listGet 0 bytes 1 % 16 = 0 ∧ (u.rect r.val).owed = true ∧ u.now ≤ x.sof + 85600) ∧
  (∃ (t : Nat) (r : Fin 12) (s : State),
    let u := s.at t
    (u.rect r.val).owed = true ∧ (u.bus (r.val / 6)).sof + 85600 ≤ u.now) ∧
  (∃ (t : Nat) (r : Fin 12) (s : State),
    let u := s.at t
    (u.rect r.val).owed = false) ∧
  (∃ (t : Nat) (b : Fin 2) (s : State),
    let u := s.at t
    let x := u.bus b.val
    x.busOff = false) ∧
  (∃ (t : Nat) (t0 : Nat) (s : State),
    let u := s.at t
    u.boot.softSince = some t0 ∧ u.energising = true ∧ u.nat Obj.energiseStep = 3 ∧ t0 + 10 * ms ≤ u.now) ∧
  (∃ (t : Nat) (s : State),
    let u := s.at t
    u.boot.softSince = none) :=
  ⟨⟨0, (inMode .safe), by (try dsimp only); decide +kernel⟩,
   ⟨0, (((inMode .standby)).setNat (Obj.energiseStep) 3), by (try dsimp only); decide +kernel⟩,
   ⟨0, onBoot ((inMode .standby)) (fun p => { p with failStep := 2 }), by (try dsimp only); decide +kernel⟩,
   ⟨0, (inMode .ready), by (try dsimp only); decide +kernel⟩,
   ⟨0, (inMode .standby), by (try dsimp only); decide +kernel⟩,
   ⟨2250, 800000, 10000000, 0, 63, 63, 117, by decide +kernel⟩,
   ⟨0, 1, onEng ((inMode .ready)) (fun p => { p with busB := { sent := true } }), by (try dsimp only); decide +kernel⟩,
   ⟨0, 0, (inMode .ready), by (try dsimp only); decide +kernel⟩,
   ⟨0, 0, 0, false, [], (inMode .ready), by (try dsimp only); decide +kernel⟩,
   ⟨85600, 0x10B, 1, 11, true, List.replicate 8 0, onEng ((inMode .ready)) (fun p => { p with rects := [(11, { owed := true })] }), by (try dsimp only); decide +kernel⟩,
   ⟨85600, 11, onEng ((inMode .ready)) (fun p => { p with rects := [(11, { owed := true })] }), by (try dsimp only); decide +kernel⟩,
   ⟨0, 0, (inMode .ready), by (try dsimp only); decide +kernel⟩,
   ⟨0, 0, (inMode .ready), by (try dsimp only); decide +kernel⟩,
   ⟨10000000, 0, ((onBoot ((inMode .standby)) (fun p => { p with softSince := some 0 })).setNat (Obj.energiseStep) 3), by (try dsimp only); decide +kernel⟩,
   ⟨0, (inMode .ready), by (try dsimp only); decide +kernel⟩⟩

theorem witness_ModuleRequestsChangeTheMode :
  (∃ (t : Nat) (role : Role) (s : State),
    let u := s.at t
    let k := Obj.moduleRequest
    let ok := fun (v : Nat) => u.accepts role k (numBytes k v)
    let free := u.nat k = 0
    ok 1 ∧ u.mode = .standby ∧ free ∧ u.energiseRefused = false) ∧
  (∃ (t : Nat) (role : Role) (s : State),
    let u := s.at t
    let k := Obj.moduleRequest
    let ok := fun (v : Nat) => u.accepts role k (numBytes k v)
    let free := u.nat k = 0
    ok 1 ∧ (u.mode ≠ .standby ∨ ¬free ∨ u.energiseRefused = true)) ∧
  (∃ (t : Nat) (role : Role) (s : State),
    let u := s.at t
    let k := Obj.moduleRequest
    let ok := fun (v : Nat) => u.accepts role k (numBytes k v)
    let free := u.nat k = 0
    ok 2 ∧ u.mode = .ready ∧ free) ∧
  (∃ (t : Nat) (role : Role) (s : State),
    let u := s.at t
    let k := Obj.moduleRequest
    let ok := fun (v : Nat) => u.accepts role k (numBytes k v)
    let free := u.nat k = 0
    ok 2 ∧ (u.mode ≠ .ready ∨ ¬free)) ∧
  (∃ (t : Nat) (role : Role) (s : State),
    let u := s.at t
    let k := Obj.moduleRequest
    let ok := fun (v : Nat) => u.accepts role k (numBytes k v)
    let free := u.nat k = 0
    ok 3 ∧ u.mode = .shaping ∧ free) ∧
  (∃ (t : Nat) (role : Role) (s : State),
    let u := s.at t
    let k := Obj.moduleRequest
    let ok := fun (v : Nat) => u.accepts role k (numBytes k v)
    let free := u.nat k = 0
    ok 3 ∧ (u.mode ≠ .shaping ∨ ¬free)) ∧
  (∃ (t : Nat) (role : Role) (s : State),
    let u := s.at t
    let k := Obj.moduleRequest
    let ok := fun (v : Nat) => u.accepts role k (numBytes k v)
    let free := u.nat k = 0
    let shared := u.domsWhere (fun d => d.state = 3)
    ok 4 ∧ (u.mode = .ready ∨ u.mode = .shaping) ∧ free ∧ (role = .service ∨ shared = [])) ∧
  (∃ (t : Nat) (role : Role) (s : State),
    let u := s.at t
    let k := Obj.moduleRequest
    let ok := fun (v : Nat) => u.accepts role k (numBytes k v)
    let free := u.nat k = 0
    let shared := u.domsWhere (fun d => d.state = 3)
    ok 4 ∧ ((u.mode ≠ .ready ∧ u.mode ≠ .shaping) ∨ ¬free ∨ (role ≠ .service ∧ shared ≠ []))) ∧
  (∃ (t : Nat) (role : Role) (s : State),
    let u := s.at t
    let k := Obj.moduleRequest
    let ok := fun (v : Nat) => u.accepts role k (numBytes k v)
    let free := u.nat k = 0
    ok 5 ∧ u.mode = .standby ∧ free ∧ u.stack.cal.string = 0 ∧ u.pins.wakeLatch = false ∧ (role = .service ∨ u.socShort = false)) ∧
  (∃ (t : Nat) (role : Role) (s : State),
    let u := s.at t
    let k := Obj.moduleRequest
    let ok := fun (v : Nat) => u.accepts role k (numBytes k v)
    ok 5 ∧ (u.mode ≠ .standby ∨ u.pins.wakeLatch = true)) ∧
  (∃ (t : Nat) (role : Role) (s : State),
    let u := s.at t
    let k := Obj.moduleRequest
    let ok := fun (v : Nat) => u.accepts role k (numBytes k v)
    ok 6 ∧ (u.mode = .seed ∨ (u.mode = .safe ∧ u.busDown = true ∧ u.boot.thermalLatch = false))) ∧
  (∃ (t : Nat) (role : Role) (s : State),
    let u := s.at t
    let k := Obj.moduleRequest
    let ok := fun (v : Nat) => u.accepts role k (numBytes k v)
    ok 6 ∧ u.mode ≠ .seed ∧ (u.mode ≠ .safe ∨ u.busDown = false ∨ u.boot.thermalLatch = true)) :=
  ⟨⟨0, .operator, prepared, by (try dsimp only [State.accepts, State.acceptsOver]); decide +kernel⟩,
   ⟨0, .operator, (inMode .ready), by (try dsimp only [State.accepts, State.acceptsOver]); decide +kernel⟩,
   ⟨0, .operator, (inMode .ready), by (try dsimp only [State.accepts, State.acceptsOver]); decide +kernel⟩,
   ⟨0, .operator, (inMode .standby), by (try dsimp only [State.accepts, State.acceptsOver]); decide +kernel⟩,
   ⟨0, .operator, (inMode .shaping), by (try dsimp only [State.accepts, State.acceptsOver]); decide +kernel⟩,
   ⟨0, .operator, (inMode .ready), by (try dsimp only [State.accepts, State.acceptsOver]); decide +kernel⟩,
   ⟨0, .operator, (inMode .ready), by (try dsimp only [State.accepts, State.acceptsOver]); decide +kernel⟩,
   ⟨0, .operator, (inMode .standby), by (try dsimp only [State.accepts, State.acceptsOver]); decide +kernel⟩,
   ⟨0, .service, (inMode .standby), by (try dsimp only [State.accepts, State.acceptsOver]); decide +kernel⟩,
   ⟨0, .operator, (inMode .ready), by (try dsimp only [State.accepts, State.acceptsOver]); decide +kernel⟩,
   ⟨0, .service, (inMode .safe), by (try dsimp only [State.accepts, State.acceptsOver]); decide +kernel⟩,
   ⟨0, .service, (inMode .ready), by (try dsimp only [State.accepts, State.acceptsOver]); decide +kernel⟩⟩

theorem witness_EngineCommandsAndTrace :
  (∃ (t : Nat) (role : Role) (i : Fin 64) (s : State),
    let u := s.at t
    u.accepts role (Obj.commit i.val) (numBytes (Obj.commit i.val) 1)) ∧
  (∃ (t : Nat) (role : Role) (s : State),
    let u := s.at t
    let tc := Obj.traceControl
    u.accepts role tc (numBytes tc 0)) ∧
  (∃ (t : Nat) (role : Role) (s : State),
    let u := s.at t
    let tc := Obj.traceControl
    u.accepts role tc (numBytes tc 1)) ∧
  (∃ (t : Nat) (role : Role) (s : State),
    let u := s.at t
    let tc := Obj.traceControl
    u.accepts role tc (numBytes tc 2)) ∧
  (∃ (t : Nat) (role : Role) (s : State),
    let u := s.at t
    let tc := Obj.traceControl
    u.accepts role tc (numBytes tc 3)) ∧
  (∃ (t : Nat) (n : Nat) (role : Role) (s : State),
    let u := s.at t
    let p := u.phase n
    u.accepts role Obj.phaseClear (numBytes Obj.phaseClear n) ∧ n < 48 ∧ bitOf u.pins.gdFaultLow (n / 8) = false ∧ bitOf u.conv.streamFault n = false ∧ p.faulted = true ∧ u.mode = .standby) ∧
  (∃ (t : Nat) (n : Nat) (role : Role) (s : State),
    let u := s.at t
    u.accepts role Obj.phaseClear (numBytes Obj.phaseClear n) ∧ n < 48 ∧ (bitOf u.pins.gdFaultLow (n / 8) = true ∨ bitOf u.conv.streamFault n = true)) ∧
  (∃ (t : Nat) (role : Role) (k : Fin 2) (s : State),
    let u := s.at t
    let lc := Obj.lockoutClear (k.val + 1)
    let x := u.str k.val
    u.accepts role lc (numBytes lc 1) ∧ x.conn = .lockedOut ∧ x.negFb = false ∧ x.posFb = false ∧ x.preFb = false) ∧
  (∃ (t : Nat) (role : Role) (k : Fin 2) (s : State),
    let u := s.at t
    let lc := Obj.lockoutClear (k.val + 1)
    let x := u.str k.val
    u.accepts role lc (numBytes lc 1) ∧ (x.conn ≠ .lockedOut ∨ x.negFb = true ∨ x.posFb = true ∨ x.preFb = true)) ∧
  (∃ (t : Nat) (role : Role) (s : State),
    let u := s.at t
    let at_ := Obj.authorityTransferRequest
    u.accepts role at_ (numBytes at_ 1) ∧ (u.mode = .ready ∨ u.mode = .shaping) ∧ u.holder ≠ 0 ∧ u.healthy (2 - u.holder) = true ∧ u.hold.transferTo = 0) ∧
  (∃ (t : Nat) (role : Role) (s : State),
    let u := s.at t
    let at_ := Obj.authorityTransferRequest
    u.accepts role at_ (numBytes at_ 1) ∧ (u.mode ≠ .ready ∧ u.mode ≠ .shaping ∨ u.holder = 0 ∨ u.healthy (2 - u.holder) = false)) ∧
  (∃ (t : Nat) (s : State),
    let u := s.at t
    let q := u.eng.trace
    q.state = 1) ∧
  (∃ (t : Nat) (s : State),
    let u := s.at t
    let q := u.eng.trace
    q.state = 0) ∧
  (∃ (t : Nat) (c : Fin 8) (s : State),
    let u := s.at t
    let q := u.eng.trace
    q.state = 4 ∧ (setBit q.readMask c.val true = 255 ∧ q.normal = true)) ∧
  (∃ (t : Nat) (c : Fin 8) (s : State),
    let u := s.at t
    let q := u.eng.trace
    q.state = 4 ∧ (¬(setBit q.readMask c.val true = 255 ∧ q.normal = true))) ∧
  (∃ (t : Nat) (s : State),
    let u := s.at t
    let q := u.eng.trace
    q.state ≠ 4) :=
  ⟨⟨0, .operator, 63, (inMode .ready), by (try dsimp only [State.accepts, State.acceptsOver]); decide +kernel⟩,
   ⟨0, .operator, (inMode .ready), by (try dsimp only [State.accepts, State.acceptsOver]); decide +kernel⟩,
   ⟨0, .operator, (inMode .ready), by (try dsimp only [State.accepts, State.acceptsOver]); decide +kernel⟩,
   ⟨0, .operator, (inMode .ready), by (try dsimp only [State.accepts, State.acceptsOver]); decide +kernel⟩,
   ⟨0, .operator, (inMode .ready), by (try dsimp only [State.accepts, State.acceptsOver]); decide +kernel⟩,
   ⟨0, 47, .service, onConv ((inMode .standby)) (fun p => { p with phases := [(47, { faulted := true })] }), by (try dsimp only [State.accepts, State.acceptsOver]); decide +kernel⟩,
   ⟨0, 47, .service, onPins ((inMode .standby)) (fun p => { p with gdFaultLow := 32 }), by (try dsimp only [State.accepts, State.acceptsOver]); decide +kernel⟩,
   ⟨0, .service, 0, withStr { conn := .lockedOut }, by (try dsimp only [State.accepts, State.acceptsOver]); decide +kernel⟩,
   ⟨0, .service, 0, (inMode .ready), by (try dsimp only [State.accepts, State.acceptsOver]); decide +kernel⟩,
   ⟨0, .service, onHold ((inMode .ready)) (fun p => { p with latchA := true }), by (try dsimp only [State.accepts, State.acceptsOver]); decide +kernel⟩,
   ⟨0, .service, (inMode .ready), by (try dsimp only [State.accepts, State.acceptsOver]); decide +kernel⟩,
   ⟨0, onEng ((inMode .ready)) (fun p => { p with trace := { state := 1 } }), by (try dsimp only); decide +kernel⟩,
   ⟨0, (inMode .ready), by (try dsimp only); decide +kernel⟩,
   ⟨0, 7, onEng ((inMode .ready)) (fun p => { p with trace := { state := 4, readMask := 127, normal := true } }), by (try dsimp only); decide +kernel⟩,
   ⟨0, 7, onEng ((inMode .ready)) (fun p => { p with trace := { state := 4, readMask := 63, normal := true } }), by (try dsimp only); decide +kernel⟩,
   ⟨0, (inMode .ready), by (try dsimp only); decide +kernel⟩⟩

theorem witness_FaultsAreAcknowledgedAndBlocksTested :
  (∃ (t : Nat) (role : Role) (b : Fin 194) (s : State),
    let u := s.at t
    let x := b.val
    let ka := Obj.acknowledge x
    let one := fun (k : Nat) => u.accepts role k (numBytes k 1)
    one ka) ∧
  (∃ (c : _), c < 16) ∧
  (∃ (b : Fin 194) (y : _),
    let x := b.val
    y ≠ x) ∧
  (∃ (t : Nat) (role : Role) (s : State),
    let u := s.at t
    let one := fun (k : Nat) => u.accepts role k (numBytes k 1)
    one Obj.acknowledgeAll2F00) ∧
  (∃ (t : Nat) (role : Role) (b : Fin 194) (s : State),
    let u := s.at t
    let x := b.val
    let kb := Obj.blockCommand x
    let one := fun (k : Nat) => u.accepts role k (numBytes k 1)
    one kb ∧ commandNamed x = true ∧ u.nat (Obj.blockState x) = 2 ∧ (commandIdle x = false ∨ u.mode = .standby ∨ u.mode = .ready)) ∧
  (∃ (t : Nat) (role : Role) (b : Fin 194) (s : State),
    let u := s.at t
    let x := b.val
    let kb := Obj.blockCommand x
    let one := fun (k : Nat) => u.accepts role k (numBytes k 1)
    one kb ∧ (commandNamed x = false ∨ u.nat (Obj.blockState x) ≠ 2)) ∧
  (∃ (t : Nat) (role : Role) (r : Fin 16) (s : State),
    let u := s.at t
    let kr := Obj.railClear r.val
    let one := fun (k : Nat) => u.accepts role k (numBytes k 1)
    let idle := ∀ d ∈ railDoms r.val, u.domState d ≠ 1 ∧ u.domState d ≠ 2
    one kr ∧ u.mode = .standby ∧ idle ∧ (u.nat (Obj.railState r.val) = 4 ∨ u.nat (Obj.railState r.val) = 5)) ∧
  (∃ (t : Nat) (role : Role) (r : Fin 16) (s : State),
    let u := s.at t
    let kr := Obj.railClear r.val
    let one := fun (k : Nat) => u.accepts role k (numBytes k 1)
    one kr ∧ u.mode ≠ .standby) ∧
  (∃ (t : Nat) (b : Fin 194) (s : State),
    let u := s.at t
    let x := b.val
    u.nat (Obj.blockState x) ≠ 4) ∧
  (∃ (t : Nat) (b : Fin 194) (s : State),
    let u := s.at t
    let x := b.val
    u.nat (Obj.blockState x) = 4) ∧
  (∃ (t : Nat) (b : Fin 194) (echoed : Bool) (s : State),
    let u := s.at t
    let x := b.val
    (echoed = true ∨ u.nat (Obj.blockState x) ≠ 1)) ∧
  (∃ (t : Nat) (b : Fin 194) (s : State),
    let u := s.at t
    let x := b.val
    u.nat (Obj.blockState x) = 1) :=
  ⟨⟨0, .operator, 193, (inMode .ready), by (try dsimp only [State.accepts, State.acceptsOver]); decide +kernel⟩,
   ⟨15, by decide +kernel⟩,
   ⟨0, 1, by (try dsimp only); decide +kernel⟩,
   ⟨0, .operator, (inMode .ready), by (try dsimp only [State.accepts, State.acceptsOver]); decide +kernel⟩,
   ⟨0, .service, 11, (((inMode .ready)).setNat (Obj.blockState 11) 2), by (try dsimp only [State.accepts, State.acceptsOver]); decide +kernel⟩,
   ⟨0, .service, 1, (inMode .ready), by (try dsimp only [State.accepts, State.acceptsOver]); decide +kernel⟩,
   ⟨0, .service, 15, (((inMode .standby)).setNat (Obj.railState 15) 5), by (try dsimp only [State.accepts, State.acceptsOver]); decide +kernel⟩,
   ⟨0, .service, 0, (inMode .ready), by (try dsimp only [State.accepts, State.acceptsOver]); decide +kernel⟩,
   ⟨0, 0, (inMode .ready), by (try dsimp only); decide +kernel⟩,
   ⟨0, 193, (((inMode .ready)).setNat (Obj.blockState 193) 4), by (try dsimp only); decide +kernel⟩,
   ⟨0, 0, true, (inMode .ready), by (try dsimp only); decide +kernel⟩,
   ⟨0, 193, (((inMode .ready)).setNat (Obj.blockState 193) 1), by (try dsimp only); decide +kernel⟩⟩

theorem witness_DictionaryWritesApplyWholeOrNotAtAll :
  (∃ (t : Nat) (idx : Nat) (sub : Nat) (path : Path) (role : Role) (b : List Nat) (s : State),
    let u := s.at t
    path ≠ .broadcast ∧ u.served path = true ∧ u.writeRefused role [] idx sub b ≠ 0) ∧
  (∃ (t : Nat) (path : Path) (role : Role) (b : List Nat) (s : State),
    let u := s.at t
    path ≠ .broadcast ∧ u.served path = true ∧ u.writeRefused role [] 0x2900 1 b = 0 ∧ u.stateRefused 0x2900 1 (leNat b) = false) ∧
  (∃ (t : Nat) (path : Path) (s : State),
    let u := s.at t
    u.served path = false) ∧
  (∃ (t : Nat) (s : State),
    let u := s.at t
    u.served .broadcast = true) ∧
  (∃ (t : Nat) (idx : Nat) (role : Role) (vals : List (Nat × List Nat)) (s : State),
    let u := s.at t
    let l := vals.map (fun e => (idx, e.1, e.2))
    let rows := (rowsOf idx).filter (fun r => decide (r.idxLo ≤ idx ∧ idx ≤ r.idxHi))
    u.served .coe = true ∧ rows ≠ [] ∧ (∀ r ∈ rows, r.cmd = false) ∧ preopOnly idx = false ∧ u.setRefused role l = none) ∧
  (∃ (t : Nat) (idx : Nat) (role : Role) (vals : List (Nat × List Nat)) (s : State) (e : _),
    let u := s.at t
    let l := vals.map (fun e => (idx, e.1, e.2))
    let rows := (rowsOf idx).filter (fun r => decide (r.idxLo ≤ idx ∧ idx ≤ r.idxHi))
    u.served .coe = true ∧ rows ≠ [] ∧ (∀ r ∈ rows, r.cmd = false) ∧ u.setRefused role l = some e) ∧
  (∃ (t : Nat) (role : Role) (s : State) (n : _),
    let u := s.at t
    u.accepts role Obj.storeParameters (numBytes Obj.storeParameters n) ∧ u.dict.storing = none) ∧
  (∃ (t : Nat) (role : Role) (c : StoredCfg) (s : State) (n : _),
    let u := s.at t
    u.accepts role Obj.storeParameters (numBytes Obj.storeParameters n) ∧ u.dict.storing = some c) ∧
  (∃ (t : Nat) (role : Role) (s : State) (n : _),
    let u := s.at t
    u.accepts role Obj.restoreDefaults (numBytes Obj.restoreDefaults n) ∧ u.dict.storing = none) ∧
  (∃ (t : Nat) (c : StoredCfg) (s : State),
    let u := s.at t
    u.dict.storing = some c) ∧
  (∃ (t : Nat) (s : State),
    let u := s.at t
    u.dict.storing = none) ∧
  (∃ (t : Nat) (s : State),
    let u := s.at t
    u.served .process = true ∧ u.mode ≠ .seed ∧ u.dict.esc ≠ .op) ∧
  (∃ (t : Nat) (s : State),
    let u := s.at t
    u.mode = .seed) :=
  ⟨⟨0, 0x1234, 0, .coe, .operator, [], (inMode .ready), by (try dsimp only); decide +kernel⟩,
   ⟨0, .coe, .operator, [16, 39, 0, 0], (inMode .ready), by (try dsimp only); decide +kernel⟩,
   ⟨0, .coe, (inMode .off), by (try dsimp only); decide +kernel⟩,
   ⟨0, (inMode .ready), by (try dsimp only); decide +kernel⟩,
   ⟨0, 0x2900, .operator, [(1, [16, 39, 0, 0])], (inMode .ready), by (try dsimp only); decide +kernel⟩,
   ⟨0, 0x2900, .operator, [(1, [])], (inMode .ready), (0x06070010, 0x2900, 1), by (try dsimp only); decide +kernel⟩,
   ⟨0, .operator, (inMode .ready), 0x65766173, by (try dsimp only [State.accepts, State.acceptsOver]); decide +kernel⟩,
   ⟨0, .operator, {}, onDict ((inMode .ready)) (fun p => { p with storing := some {} }), 0x65766173, by (try dsimp only [State.accepts, State.acceptsOver]); decide +kernel⟩,
   ⟨0, .operator, (inMode .ready), 0x64616F6C, by (try dsimp only [State.accepts, State.acceptsOver]); decide +kernel⟩,
   ⟨0, {}, onDict ((inMode .ready)) (fun p => { p with storing := some {} }), by (try dsimp only); decide +kernel⟩,
   ⟨0, (inMode .ready), by (try dsimp only); decide +kernel⟩,
   ⟨0, (inMode .ready), by (try dsimp only); decide +kernel⟩,
   ⟨0, (inMode .seed), by (try dsimp only); decide +kernel⟩⟩

theorem witness_EtherCatStatesAndFiles :
  (∃ (t : Nat) (req : EscState) (s : State),
    let u := s.at t
    u.running = true ∧ u.escPermitted req = true) ∧
  (∃ (t : Nat) (req : EscState) (s : State),
    let u := s.at t
    u.running = true ∧ u.escPermitted req = false) ∧
  (∃ (t : Nat) (s : State),
    let u := s.at t
    u.running = false) ∧
  (∃ (t : Nat) (s : State),
    let u := s.at t
    u.mode = .ready) ∧
  (∃ (t : Nat) (s : State),
    let u := s.at t
    u.mode = .seed) ∧
  (∃ (t : Nat) (s : State),
    let u := s.at t
    u.dict.esc = .op) ∧
  (∃ (t : Nat) (s : State),
    let u := s.at t
    u.dict.esc ≠ .op) ∧
  (∃ (pw : Nat), pw ≠ 0) ∧
  (∃ (t : Nat) (s : State),
    let u := s.at t
    u.dict.esc = .boot) ∧
  (∃ (t : Nat) (s : State),
    let u := s.at t
    u.dict.esc ≠ .boot ∧ u.standbyToSafe = false) ∧
  (∃ (t : Nat) (k : Fin 16) (s : State),
    let u := s.at t
    u.dict.esc ≠ .boot ∧ u.standbyToSafe = true ∧ (u.slot k.val).state ≠ 1) ∧
  (∃ (t : Nat) (k : Fin 16) (b : List Nat) (s : State),
    let u := s.at t
    u.dict.esc ≠ .boot ∧ u.standbyToSafe = true ∧ (u.slot k.val).state = 1 ∧ (u.slot k.val).size < b.length) ∧
  (∃ (t : Nat) (k : Fin 16) (b : List Nat) (s : State),
    let u := s.at t
    u.dict.esc ≠ .boot ∧ u.standbyToSafe = true ∧ (u.slot k.val).state = 1 ∧ b.length ≤ (u.slot k.val).size) ∧
  (∃ (t : Nat) (role : Role) (c : StoredCfg) (s : State),
    let u := s.at t
    foeRole role = true ∧ u.dict.esc ≠ .boot ∧ (u.standbyToSafe = true ∨ u.mode = .seed) ∧ u.storedNow = some c) ∧
  (∃ (t : Nat) (role : Role) (s : State),
    let u := s.at t
    foeRole role = true ∧ u.dict.esc ≠ .boot ∧ (u.standbyToSafe = true ∨ u.mode = .seed) ∧ u.storedNow = none) ∧
  (∃ (t : Nat) (role : Role) (s : State),
    let u := s.at t
    foeRole role = true ∧ u.dict.esc ≠ .boot ∧ (u.mode ≠ .standby ∨ u.dict.storing.isSome = true)) ∧
  (∃ (t : Nat) (role : Role) (b : List Nat) (s : State),
    let u := s.at t
    foeRole role = true ∧ u.dict.esc ≠ .boot ∧ u.mode = .standby ∧ u.dict.storing = none ∧ u.configHeader b = false) ∧
  (∃ (t : Nat) (role : Role) (b : List Nat) (s : State),
    let u := s.at t
    let r := parseRecords (leNat (slice b 8 4)) (b.drop 16)
    foeRole role = true ∧ u.dict.esc ≠ .boot ∧ u.mode = .standby ∧ u.dict.storing = none ∧ u.configHeader b = true ∧ r.2 = true ∧ u.configRefused r.1 = none) ∧
  (∃ (t : Nat) (role : Role) (b : List Nat) (s : State) (e : _),
    let u := s.at t
    let r := parseRecords (leNat (slice b 8 4)) (b.drop 16)
    foeRole role = true ∧ u.dict.esc ≠ .boot ∧ u.mode = .standby ∧ u.dict.storing = none ∧ u.configHeader b = true ∧ u.configRefused r.1 = some e) :=
  ⟨⟨0, .op, (inMode .ready), by (try dsimp only); decide +kernel⟩,
   ⟨0, .boot, (inMode .ready), by (try dsimp only); decide +kernel⟩,
   ⟨0, (inMode .off), by (try dsimp only); decide +kernel⟩,
   ⟨0, (inMode .ready), by (try dsimp only); decide +kernel⟩,
   ⟨0, (inMode .seed), by (try dsimp only); decide +kernel⟩,
   ⟨0, onDict ((inMode .ready)) (fun p => { p with esc := .op }), by (try dsimp only); decide +kernel⟩,
   ⟨0, (inMode .ready), by (try dsimp only); decide +kernel⟩,
   ⟨1, by decide +kernel⟩,
   ⟨0, onDict ((inMode .ready)) (fun p => { p with esc := .boot }), by (try dsimp only); decide +kernel⟩,
   ⟨0, (inMode .off), by (try dsimp only); decide +kernel⟩,
   ⟨0, 15, (inMode .ready), by (try dsimp only); decide +kernel⟩,
   ⟨0, 15, List.replicate 65 0, { (inMode .ready) with pecan := { slots := [(15, { state := 1, size := 64 })] } }, by (try dsimp only); decide +kernel⟩,
   ⟨0, 15, List.replicate 64 0, { (inMode .ready) with pecan := { slots := [(15, { state := 1, size := 64 })] } }, by (try dsimp only); decide +kernel⟩,
   ⟨0, .operator, {}, onDict ((inMode .ready)) (fun p => { p with storedA := some {} }), by (try dsimp only); decide +kernel⟩,
   ⟨0, .operator, (inMode .ready), by (try dsimp only); decide +kernel⟩,
   ⟨0, .operator, (inMode .ready), by (try dsimp only); decide +kernel⟩,
   ⟨0, .operator, [], (inMode .standby), by (try dsimp only); decide +kernel⟩,
   ⟨0, .operator, cfgFile, (inMode .standby), by (try dsimp only); decide +kernel⟩,
   ⟨0, .operator, cfgBad, (inMode .standby), (0x1234, 0), by (try dsimp only); decide +kernel⟩⟩

theorem witness_EstimatorTakesReleasedValues :
  (∃ (t : Nat) (k : Fin 2) (cell : Fin 288) (rd : CellRead) (s : State),
    let u := s.at t
    let key := 288 * k.val + cell.val
    let w : State := { u with stack := { u.stack with pendingEst := u.stack.pendingEst.eraseP (fun e => e.1 = key) } }
    let e0 := w.countTo k.val cell.val (w.estCell key) rd
    let v := listGet 0 rd.cells (cell.val % 16)
    let x := w.estInputs k.val cell.val rd
    let fitted := match w.ocv with
      | none => w.setEstCell key e0
      | some o =>
        let r := w.pullSoc k.val o (w.fitCell o e0 x rd) x
        (w.setEstCell key r.1).calSample k.val cell.val r.1.converged r.2
    let y := fitted.cellExtremes k.val cell.val v
    let bad := v < 10 * y.nat Obj.cellVoltageTripMin ∨ 10 * y.nat Obj.cellVoltageTripMax < v
    (u.stack.pendingEst.find? (fun e => e.1 = key) = some (key, rd)) ∧ bad) ∧
  (∃ (t : Nat) (k : Fin 2) (cell : Fin 288) (rd : CellRead) (s : State),
    let u := s.at t
    let key := 288 * k.val + cell.val
    let w : State := { u with stack := { u.stack with pendingEst := u.stack.pendingEst.eraseP (fun e => e.1 = key) } }
    let e0 := w.countTo k.val cell.val (w.estCell key) rd
    let v := listGet 0 rd.cells (cell.val % 16)
    let x := w.estInputs k.val cell.val rd
    let fitted := match w.ocv with
      | none => w.setEstCell key e0
      | some o =>
        let r := w.pullSoc k.val o (w.fitCell o e0 x rd) x
        (w.setEstCell key r.1).calSample k.val cell.val r.1.converged r.2
    let y := fitted.cellExtremes k.val cell.val v
    let bad := v < 10 * y.nat Obj.cellVoltageTripMin ∨ 10 * y.nat Obj.cellVoltageTripMax < v
    (u.stack.pendingEst.find? (fun e => e.1 = key) = some (key, rd)) ∧ (¬bad) ∧ y.cellTempOwn k.val cell.val = none) ∧
  (∃ (t : Nat) (k : Fin 2) (cell : Fin 288) (rd : CellRead) (s : State) (c : _),
    let u := s.at t
    let key := 288 * k.val + cell.val
    let w : State := { u with stack := { u.stack with pendingEst := u.stack.pendingEst.eraseP (fun e => e.1 = key) } }
    let e0 := w.countTo k.val cell.val (w.estCell key) rd
    let v := listGet 0 rd.cells (cell.val % 16)
    let x := w.estInputs k.val cell.val rd
    let fitted := match w.ocv with
      | none => w.setEstCell key e0
      | some o =>
        let r := w.pullSoc k.val o (w.fitCell o e0 x rd) x
        (w.setEstCell key r.1).calSample k.val cell.val r.1.converged r.2
    let y := fitted.cellExtremes k.val cell.val v
    let bad := v < 10 * y.nat Obj.cellVoltageTripMin ∨ 10 * y.nat Obj.cellVoltageTripMax < v
    (u.stack.pendingEst.find? (fun e => e.1 = key) = some (key, rd)) ∧ (¬bad) ∧ y.cellTempOwn k.val cell.val = some c) ∧
  (∃ (t : Nat) (k : Fin 2) (cell : Fin 288) (s : State),
    let u := s.at t
    let key := 288 * k.val + cell.val
    (u.stack.pendingEst.find? (fun e => e.1 = key) = none)) ∧
  (∃ (t : Nat) (s : State),
    let u := s.at t
    u.ringsRun = false) ∧
  (∃ (t : Nat) (s : State),
    let u := s.at t
    u.nat Obj.reportMode = 0) ∧
  (∃ (t : Nat) (s : State),
    let u := s.at t
    u.shadowing = true) ∧
  (∃ (t : Nat) (differ : Bool) (s : State),
    let u := s.at t
    (u.shadowing = false ∨ differ = false)) ∧
  (∃ (t : Nat) (s : State),
    let u := s.at t
    u.ringsRun = true ∧ u.stack.lastPersist + 600 ≤ u.powered) ∧
  (∃ (t : Nat) (s : State),
    let u := s.at t
    u.powered < u.stack.lastPersist + 600) ∧
  (∃ (t : Nat) (k : Fin 2) (s : State),
    let u := s.at t
    u.connected k.val = true) ∧
  (∃ (t : Nat) (k : Fin 2) (s : State),
    let u := s.at t
    u.connected k.val = false) :=
  ⟨⟨0, 1, 287, { goodRead with cells := [] }, onStack (inMode .ready) (fun p => { p with pendingEst := [(575, { goodRead with cells := [] })] }), by (try dsimp only); decide +kernel⟩,
   ⟨0, 1, 287, goodRead, onStack (inMode .ready) (fun p => { p with pendingEst := [(575, goodRead)] }), by (try dsimp only); decide +kernel⟩,
   ⟨0, 1, 287, goodRead, warmCell, 250, by (try dsimp only); decide +kernel⟩,
   ⟨0, 0, 0, (inMode .ready), by (try dsimp only); decide +kernel⟩,
   ⟨0, (inMode .off), by (try dsimp only); decide +kernel⟩,
   ⟨0, (inMode .ready), by (try dsimp only); decide +kernel⟩,
   ⟨0, (inMode .ready), by (try dsimp only); decide +kernel⟩,
   ⟨0, false, (inMode .ready), by (try dsimp only); decide +kernel⟩,
   ⟨600000000000, (inMode .ready), by (try dsimp only); decide +kernel⟩,
   ⟨599999999999, (inMode .ready), by (try dsimp only); decide +kernel⟩,
   ⟨0, 1, ((inMode .ready)).setStr 1 { conn := .connected }, by (try dsimp only); decide +kernel⟩,
   ⟨0, 1, (inMode .ready), by (try dsimp only); decide +kernel⟩⟩

theorem witness_CalibrationRunsAndRecordsAreCleared :
  (∃ (t : Nat) (role : Role) (k : Fin 2) (s : State),
    let u := s.at t
    let rq := Obj.calibrationRequest
    let c := u.stack.cal
    let i := k.val + 1
    let may := (u.mode = .ready ∨ u.mode = .shaping) ∧ c.string = 0 ∧ (u.str k.val).conn ≠ .lockedOut ∧ ∀ j, j < u.cellCount k.val → (u.estCell (288 * k.val + j)).converged = true
    u.accepts role rq (numBytes rq i) ∧ u.operated.contains k.val = true ∧ may) ∧
  (∃ (t : Nat) (role : Role) (k : Fin 2) (s : State),
    let u := s.at t
    let rq := Obj.calibrationRequest
    let c := u.stack.cal
    let i := k.val + 1
    let may := (u.mode = .ready ∨ u.mode = .shaping) ∧ c.string = 0 ∧ (u.str k.val).conn ≠ .lockedOut ∧ ∀ j, j < u.cellCount k.val → (u.estCell (288 * k.val + j)).converged = true
    u.accepts role rq (numBytes rq i) ∧ u.operated.contains k.val = true ∧ (¬may)) ∧
  (∃ (t : Nat) (role : Role) (s : State),
    let u := s.at t
    let rq := Obj.calibrationRequest
    u.accepts role rq (numBytes rq 0)) ∧
  (∃ (t : Nat) (role : Role) (b : List Nat) (s : State),
    let u := s.at t
    u.accepts role Obj.ocvTable b ∧ ocvCheck b = 0) ∧
  (∃ (t : Nat) (role : Role) (b : List Nat) (s : State),
    let u := s.at t
    u.accepts role Obj.ocvTable b ∧ ocvCheck b ≠ 0) ∧
  (∃ (t : Nat) (role : Role) (k : Fin 2) (s : State),
    let u := s.at t
    let lt := Obj.lifetimeClear (k.val + 1)
    u.accepts role lt (numBytes lt 0xA5)) ∧
  (∃ (t : Nat) (n : Nat) (s : State),
    let u := s.at t
    u.served .coe = true ∧ n < 256 ∧ n ≠ 0xA5) ∧
  (∃ (t : Nat) (v : Nat) (s : State),
    let u := s.at t
    let c := u.stack.cal
    c.string ≠ 0 ∧ c.heldSince = none ∧ c.phase = 1 ∧ u.cellVMax (c.string - 1) = some v) ∧
  (∃ (t : Nat) (v : Nat) (s : State),
    let u := s.at t
    let c := u.stack.cal
    c.string ≠ 0 ∧ c.heldSince = none ∧ c.phase = 3 ∧ u.cellVMin (c.string - 1) = some v) ∧
  (∃ (t : Nat) (s : State),
    let u := s.at t
    let c := u.stack.cal
    c.string ≠ 0 ∧ c.heldSince = none ∧ (c.phase = 2 ∨ c.phase = 4) ∧ u.nat Obj.endpointAverage * sec ≤ u.calElapsed ∧ u.calAverage (c.string - 1) = none) ∧
  (∃ (t : Nat) (s : State) (l : _),
    let u := s.at t
    let c := u.stack.cal
    c.string ≠ 0 ∧ c.heldSince = none ∧ c.phase = 2 ∧ u.nat Obj.endpointAverage * sec ≤ u.calElapsed ∧ u.calAverage (c.string - 1) = some l) ∧
  (∃ (t : Nat) (s : State) (l : _),
    let u := s.at t
    let c := u.stack.cal
    c.string ≠ 0 ∧ c.heldSince = none ∧ c.phase = 4 ∧ u.nat Obj.endpointAverage * sec ≤ u.calElapsed ∧ u.calAverage (c.string - 1) = some l) ∧
  (∃ (t : Nat) (s : State),
    let u := s.at t
    let c := u.stack.cal
    c.string ≠ 0 ∧ c.heldSince = none ∧ c.began + u.nat Obj.calibrationTimeout * sec ≤ u.now) ∧
  (∃ (t : Nat) (s : State),
    let u := s.at t
    let c := u.stack.cal
    c.string = 0) :=
  ⟨⟨0, .operator, 1, converged1, by (try dsimp only [State.accepts, State.acceptsOver]); decide +kernel⟩,
   ⟨0, .operator, 1, (inMode .ready), by (try dsimp only [State.accepts, State.acceptsOver]); decide +kernel⟩,
   ⟨0, .operator, (inMode .ready), by (try dsimp only [State.accepts, State.acceptsOver]); decide +kernel⟩,
   ⟨0, .operator, ocvFile, (inMode .ready), by (try dsimp only [State.accepts, State.acceptsOver]); decide +kernel⟩,
   ⟨0, .operator, [], (inMode .ready), by (try dsimp only [State.accepts, State.acceptsOver]); decide +kernel⟩,
   ⟨0, .service, 1, (inMode .ready), by (try dsimp only [State.accepts, State.acceptsOver]); decide +kernel⟩,
   ⟨0, 0xA4, (inMode .ready), by (try dsimp only); decide +kernel⟩,
   ⟨0, 0, cal 1, by (try dsimp only); decide +kernel⟩,
   ⟨0, 0, cal 3, by (try dsimp only); decide +kernel⟩,
   ⟨((inMode .ready)).nat Obj.endpointAverage * sec, cal 2, by (try dsimp only); decide +kernel⟩,
   ⟨((inMode .ready)).nat Obj.endpointAverage * sec, calDone 2, calList ((calDone 2).at (((inMode .ready)).nat Obj.endpointAverage * sec)), ⟨by decide +kernel, by decide +kernel, by decide +kernel, by decide +kernel, calList_some _ (by decide +kernel)⟩⟩,
   ⟨((inMode .ready)).nat Obj.endpointAverage * sec, calDone 4, calList ((calDone 4).at (((inMode .ready)).nat Obj.endpointAverage * sec)), ⟨by decide +kernel, by decide +kernel, by decide +kernel, by decide +kernel, calList_some _ (by decide +kernel)⟩⟩,
   ⟨((inMode .ready)).nat Obj.calibrationTimeout * sec, cal 1, by (try dsimp only); decide +kernel⟩,
   ⟨0, (inMode .ready), by (try dsimp only); decide +kernel⟩⟩

theorem witness_KeysImagesAndFusesChangeOnlyBySignature :
  (∃ (t : Nat) (role : Role) (path : Path) (b : List Nat) (s : State),
    let u := s.at t
    let ku := Obj.keyUpdate
    let b1 := withByte 4 1 b
    let coe := decide (path = .coe)
    u.acceptsOver path role ku b1 ∧ b.length = 240 ∧ u.keyRecordOk coe b1 = true ∧ u.keyStateRefused (if path = .coe then 1 else 3) b1 = false) ∧
  (∃ (t : Nat) (role : Role) (path : Path) (b : List Nat) (s : State),
    let u := s.at t
    let ku := Obj.keyUpdate
    let b2 := withByte 4 2 b
    let coe := decide (path = .coe)
    u.acceptsOver path role ku b2 ∧ b.length = 240 ∧ u.keyRecordOk coe b2 = true ∧ u.keyStateRefused (if path = .coe then 1 else 3) b2 = false) ∧
  (∃ (t : Nat) (role : Role) (path : Path) (port : Fin 4) (b : List Nat) (s : State),
    let u := s.at t
    let ku := Obj.keyUpdate
    let b3 := withByte 4 3 b
    let coe := decide (path = .coe)
    u.acceptsOver path role ku b3 ∧ b.length = 240 ∧ u.keyRecordOk coe b3 = true ∧ u.keyStateRefused (if path = .coe then port.val else 3) b3 = false) ∧
  (∃ (t : Nat) (role : Role) (path : Path) (b : List Nat) (s : State),
    let u := s.at t
    let ku := Obj.keyUpdate
    let b1 := withByte 4 1 b
    let coe := decide (path = .coe)
    u.acceptsOver path role ku b1 ∧ b.length = 240 ∧ u.keyRecordOk coe b1 = false) ∧
  (∃ (t : Nat) (v : Nat) (role : Role) (s : State),
    let u := s.at t
    let rc := Obj.rollbackCommit
    u.accepts role rc (numBytes rc v) ∧ v ≤ 63 ∧ max u.dict.fusesA u.dict.fusesB < v ∧ u.mode = .standby ∧ u.halfGone 0 = false ∧ u.halfGone 1 = false ∧ u.boot.stageA ≠ 0 ∧ u.boot.stageB ≠ 0 ∧ (∀ x ∈ [u.dict.imagesA, u.dict.imagesB], v ≤ activeRollback 1 x.mainActive ∧ v ≤ activeRollback 2 x.seedActive)) ∧
  (∃ (t : Nat) (v : Nat) (role : Role) (s : State),
    let u := s.at t
    let rc := Obj.rollbackCommit
    u.accepts role rc (numBytes rc v) ∧ v ≤ max u.dict.fusesA u.dict.fusesB ∧ v ≤ 63) ∧
  (∃ (t : Nat) (role : Role) (b : List Nat) (s : State),
    let u := s.at t
    let ar := Obj.authorKeyRemove
    u.accepts role ar b ∧ (∃ e ∈ u.dict.authors, keyId e.2 = b) ∧ b ≠ keyId (zheudKey 4)) ∧
  (∃ (t : Nat) (role : Role) (b : List Nat) (s : State),
    let u := s.at t
    (role = .operator ∨ role = .service) ∧ (u.mode = .standby ∨ u.mode = .seed) ∧ u.imageCheck 1 b ≠ 0) ∧
  (∃ (t : Nat) (h : Half) (s : State),
    let u := s.at t
    u.running = true ∧ u.halfGone (halfIdx h) = false) :=
  ⟨⟨0, .operator, .coe, keyUpd 1 false, (inMode .standby), by (try dsimp only [State.acceptsOver]); decide +kernel⟩,
   ⟨0, .operator, .coe, keyUpd 2 true, onDict ((inMode .standby)) (fun p => { p with opKeys := [(0, tkey), (1, [])] }), by (try dsimp only [State.acceptsOver]); decide +kernel⟩,
   ⟨0, .operator, .coe, 1, keyUpd 3 true, onDict ((inMode .standby)) (fun p => { p with opKeys := [(0, tkey), (1, [])], sessions := [(1, { level := 2 })] }), by (try dsimp only [State.acceptsOver]); decide +kernel⟩,
   ⟨0, .operator, .coe, List.replicate 240 0, (inMode .ready), by (try dsimp only [State.acceptsOver]); decide +kernel⟩,
   ⟨0, 63, .service, onDict ((inMode .standby)) (fun p => { p with imagesA := { mainActive := some { kind := 1, rollback := 63, ordering := 3, version := 0, bytes := [] }, seedActive := some { kind := 2, rollback := 63, ordering := 3, version := 0, bytes := [] } }, imagesB := { mainActive := some { kind := 1, rollback := 63, ordering := 3, version := 0, bytes := [] }, seedActive := some { kind := 2, rollback := 63, ordering := 3, version := 0, bytes := [] } } }), by (try dsimp only [State.accepts, State.acceptsOver]); decide +kernel⟩,
   ⟨0, 0, .service, (inMode .ready), by (try dsimp only [State.accepts, State.acceptsOver]); decide +kernel⟩,
   by
    by_cases h : keyId tkey = keyId (zheudKey 4)
    · exact ⟨0, .operator, keyId tkey2, twoAuthors, by dsimp only [State.accepts, State.acceptsOver]; decide +kernel, by decide +kernel, fun hb => absurd (hb.trans h.symm) (by decide +kernel)⟩
    · exact ⟨0, .operator, keyId tkey, twoAuthors, by dsimp only [State.accepts, State.acceptsOver]; decide +kernel, by decide +kernel, h⟩,
   ⟨0, .operator, [], (inMode .standby), by (try dsimp only); decide +kernel⟩,
   ⟨0, .b, (inMode .ready), by (try dsimp only); decide +kernel⟩⟩

theorem witness_KeysImagesAndFusesChangeOnlyBySignature_6 (h : zheudKey 1 = tkey) :
  ∃ (t : Nat) (role : Role) (b : List Nat) (s : State) (i : _),
    let u := s.at t
    let ac := Obj.authorCertificate
    u.accepts role ac b ∧ b.length = 224 ∧ (recordOk b 96 1 (b.take 96) (fun id => if id = keyId (zheudKey 1) then some (zheudKey 1) else none) = true) ∧ ((List.range 15).find? (fun i => u.dict.authors.all (fun e => e.1 != i + 1)) = some i) :=
  ⟨0, .operator, (tkey ++ signRec 1 tkey), (inMode .ready), 0, ⟨by dsimp only [State.accepts, State.acceptsOver]; decide +kernel, by decide +kernel, by rw [h]; decide +kernel, by decide +kernel⟩⟩

theorem witness_KeysImagesAndFusesChangeOnlyBySignature_8 (h : zheudKey 0 = tkey) :
  ∃ (t : Nat) (role : Role) (b : List Nat) (s : State),
    let u := s.at t
    (role = .operator ∨ role = .service) ∧ (u.mode = .standby ∨ u.mode = .seed) ∧ u.imageCheck 1 b = 0 :=
  ⟨0, .operator, fwMain, { (inMode .standby) with dict := { opKeys := [(0, tkey)] } }, ⟨.inl rfl, by decide +kernel, by unfold State.imageCheck; rw [h]; decide +kernel⟩⟩

theorem witness_KeysImagesAndFusesChangeOnlyBySignature_9 (h : zheudKey 0 = tkey) :
  ∃ (t : Nat) (role : Role) (b : List Nat) (s : State),
    let u := s.at t
    (role = .operator ∨ role = .service) ∧ (u.mode = .standby ∨ u.mode = .seed) ∧ u.imageCheck 2 b = 0 :=
  ⟨0, .operator, fwSeed, { (inMode .standby) with dict := { opKeys := [(0, tkey)] } }, ⟨.inl rfl, by decide +kernel, by unfold State.imageCheck; rw [h]; decide +kernel⟩⟩

theorem witness_SessionsAdmissionAndTheTap :
  (∃ (t : Nat) (v : Nat) (role : Role) (s : State),
    let u := s.at t
    let ss := Obj.sessionSetup
    u.accepts role ss (numBytes ss v) ∧ (v / 16 = 1 ∨ (v / 16 = 2 ∧ v % 16 ≠ 3)) ∧ v % 16 ≤ 3 ∧ u.dict.lockUntil = 0 ∧ u.sessionLevel (v % 16) = 0) ∧
  (∃ (t : Nat) (v : Nat) (role : Role) (s : State),
    let u := s.at t
    let ss := Obj.sessionSetup
    u.accepts role ss (numBytes ss v) ∧ (v / 16 = 1 ∨ (v / 16 = 2 ∧ v % 16 ≠ 3)) ∧ v % 16 ≤ 3 ∧ (u.dict.lockUntil ≠ 0 ∨ u.sessionLevel (v % 16) ≠ 0)) ∧
  (∃ (t : Nat) (role : Role) (b : List Nat) (s : State),
    let u := s.at t
    let sr := Obj.sessionResponse
    let c := u.dict.challenge
    u.accepts role sr b ∧ (b.length = 128 ∨ b.length = 256) ∧ c ≠ [] ∧ u.now ≤ u.dict.challengeAt + 600 * sec ∧ u.sessionLevel (listGet 0 c 5) = 0 ∧ u.responseOk b = true) ∧
  (∃ (t : Nat) (role : Role) (b : List Nat) (s : State),
    let u := s.at t
    let sr := Obj.sessionResponse
    let c := u.dict.challenge
    u.accepts role sr b ∧ (b.length = 128 ∨ b.length = 256) ∧ c ≠ [] ∧ u.now ≤ u.dict.challengeAt + 600 * sec ∧ u.sessionLevel (listGet 0 c 5) = 0 ∧ u.responseOk b = false) ∧
  (∃ (t : Nat) (v : Nat) (role : Role) (s : State),
    let u := s.at t
    let sl := Obj.sessionLock
    u.accepts role sl (numBytes sl v) ∧ v < 256) ∧
  (∃ (t : Nat) (tg : Fin 4) (s : State),
    let u := s.at t
    let x := (smGet (fun _ => {}) u.dict.sessions tg.val : Session)
    x.level ≠ 0 ∧ x.openedAt + u.nat Obj.sessionLimit * sec ≤ u.now) ∧
  (∃ (t : Nat) (tg : Fin 4) (s : State),
    let u := s.at t
    let x := (smGet (fun _ => {}) u.dict.sessions tg.val : Session)
    x.level = 0) ∧
  (∃ (t : Nat) (s : State),
    let u := s.at t
    u.dict.lockUntil ≠ 0 ∧ u.dict.lockUntil ≤ u.powered) ∧
  (∃ (t : Nat) (k : Fin 16) (b : List Nat) (s : State),
    let u := s.at t
    u.served .mirror = true ∧ u.laneUp (36 + k.val) = true ∧ u.writeRefused .agent [] 0x3103 3 b = 0) ∧
  (∃ (t : Nat) (k : Fin 16) (s : State),
    let u := s.at t
    u.laneUp (36 + k.val) = false) ∧
  (∃ (t : Nat) (k : Fin 16) (ticket : List Nat) (dev : List Nat) (s : State),
    let u := s.at t
    let a := (smGet (fun _ => {}) u.dict.admits k.val : Admit)
    u.laneUp (36 + k.val) = true ∧ a.admitted = false ∧ a.failedAt = 0 ∧ u.ticketOk k.val ticket dev = false) ∧
  (∃ (t : Nat) (s : State),
    let u := s.at t
    u.tapOn = true ∧ u.scanAllowed = true) ∧
  (∃ (t : Nat) (s : State),
    let u := s.at t
    u.tapOn = true ∧ u.scanAllowed = false) :=
  ⟨⟨0, 19, .service, (inMode .ready), by (try dsimp only [State.accepts, State.acceptsOver]); decide +kernel⟩,
   ⟨0, 16, .service, onDict ((inMode .ready)) (fun p => { p with lockUntil := 1 }), by (try dsimp only [State.accepts, State.acceptsOver]); decide +kernel⟩,
   ⟨0, .service, signRec 2 challenge1, onDict ((inMode .ready)) (fun p => { p with challenge := challenge1, opKeys := [(0, tkey)] }), by (try dsimp only [State.accepts, State.acceptsOver]); decide +kernel⟩,
   ⟨0, .service, List.replicate 128 0, onDict ((inMode .ready)) (fun p => { p with challenge := challenge1, opKeys := [(0, tkey)] }), by (try dsimp only [State.accepts, State.acceptsOver]); decide +kernel⟩,
   ⟨0, 15, .service, (inMode .ready), by (try dsimp only [State.accepts, State.acceptsOver]); decide +kernel⟩,
   ⟨((inMode .ready)).nat Obj.sessionLimit * sec, 3, onDict ((inMode .ready)) (fun p => { p with sessions := [(3, { level := 1 })] }), by (try dsimp only); decide +kernel⟩,
   ⟨0, 3, (inMode .ready), by (try dsimp only); decide +kernel⟩,
   ⟨600000000000, onDict ((inMode .ready)) (fun p => { p with lockUntil := 600 }), by (try dsimp only); decide +kernel⟩,
   ⟨0, 15, List.replicate 48 0, (((inMode .ready)).setNat (Obj.linkState 51) 3), by (try dsimp only); decide +kernel⟩,
   ⟨0, 0, (inMode .ready), by (try dsimp only); decide +kernel⟩,
   ⟨0, 15, [], [], (((inMode .ready)).setNat (Obj.linkState 51) 3), by (try dsimp only); decide +kernel⟩,
   ⟨0, onDict ((inMode .ready)) (fun p => { p with sessions := [(0, { level := 2 })] }), by (try dsimp only); decide +kernel⟩,
   ⟨0, (inMode .ready), by (try dsimp only); decide +kernel⟩⟩

theorem witness_SessionsAdmissionAndTheTap_11 (h : (admitting.randomBytes 48).1 = List.replicate 48 0) :
  ∃ (t : Nat) (k : Fin 16) (ticket : List Nat) (dev : List Nat) (sig : List Nat) (s : State),
    let u := s.at t
    let a := (smGet (fun _ => {}) u.dict.admits k.val : Admit)
    let r := u.randomBytes 48
    let peer := linkPeerLane (u.nat Obj.hallDimensions) (u.nat Obj.shelfNumber) k.val
    u.laneUp (36 + k.val) = true ∧ a.admitted = false ∧ a.failedAt = 0 ∧ u.ticketOk k.val ticket dev = true ∧ ecVerify dev (admitDigest r.1 (u.nat Obj.hallDomainId) (u.nat (Obj.peerShelf (36 + k.val))) peer) sig = true :=
  ⟨0, 15, ticket1, tkey, answer1, admitting, ⟨by decide +kernel, by decide +kernel, by decide +kernel, by decide +kernel, by rw [show ((admitting.at 0).randomBytes 48).1 = _ from h]; decide +kernel⟩⟩

theorem witness_HistoryRequestsAnswerTheirResult :
  (∃ (t : Nat) (role : Role) (b : List Nat) (s : State),
    let u := s.at t
    let kc := Obj.channelRequest
    let op := fun (n : Nat) => withByte 0 n b
    let may := fun (n : Nat) => u.accepts role kc (op n) ∧ b.length = 32 ∧ u.channelRole role (op n) = true
    u.histBusy = false ∧ may 1) ∧
  (∃ (t : Nat) (role : Role) (b : List Nat) (s : State),
    let u := s.at t
    let kc := Obj.channelRequest
    let op := fun (n : Nat) => withByte 0 n b
    let may := fun (n : Nat) => u.accepts role kc (op n) ∧ b.length = 32 ∧ u.channelRole role (op n) = true
    let c := leNat (slice b 2 2)
    let r := u.ringDef c
    u.histBusy = false ∧ may 2 ∧ u.channelBad c = none ∧ r.state ≠ 0 ∧ u.ringRead c = false ∧ ((u.removeRing c).channelDone 2 0 c).histBusy = false) ∧
  (∃ (t : Nat) (role : Role) (b : List Nat) (s : State),
    let u := s.at t
    let kc := Obj.channelRequest
    let op := fun (n : Nat) => withByte 0 n b
    let may := fun (n : Nat) => u.accepts role kc (op n) ∧ b.length = 32 ∧ u.channelRole role (op n) = true
    let c := leNat (slice b 2 2)
    let r := u.ringDef c
    u.histBusy = false ∧ may 2 ∧ u.channelBad c = none ∧ r.state ≠ 0 ∧ u.ringRead c = true) ∧
  (∃ (t : Nat) (role : Role) (b : List Nat) (s : State),
    let u := s.at t
    let kc := Obj.channelRequest
    let op := fun (n : Nat) => withByte 0 n b
    let may := fun (n : Nat) => u.accepts role kc (op n) ∧ b.length = 32 ∧ u.channelRole role (op n) = true
    u.histBusy = false ∧ may 3) ∧
  (∃ (t : Nat) (role : Role) (b : List Nat) (s : State),
    let u := s.at t
    let kc := Obj.channelRequest
    let op := fun (n : Nat) => withByte 0 n b
    let may := fun (n : Nat) => u.accepts role kc (op n) ∧ b.length = 32 ∧ u.channelRole role (op n) = true
    let c := leNat (slice b 2 2)
    u.histBusy = false ∧ may 4 ∧ u.channelBad c = none) ∧
  (∃ (t : Nat) (role : Role) (b : List Nat) (s : State),
    let u := s.at t
    let kw := Obj.windowRequest
    let op := fun (n : Nat) => withByte 0 n b
    let mayW := fun (n : Nat) => u.accepts role kw (op n) ∧ b.length = 32 ∧ u.windowRole role (op n) = true
    u.histBusy = false ∧ mayW 1) ∧
  (∃ (t : Nat) (role : Role) (b : List Nat) (s : State) (d : _),
    let u := s.at t
    let kw := Obj.windowRequest
    let op := fun (n : Nat) => withByte 0 n b
    let mayW := fun (n : Nat) => u.accepts role kw (op n) ∧ b.length = 32 ∧ u.windowRole role (op n) = true
    let c := leNat (slice b 2 2)
    u.histBusy = false ∧ mayW 2 ∧ u.window c = some d) ∧
  (∃ (t : Nat) (role : Role) (b : List Nat) (s : State) (d : _),
    let u := s.at t
    let kw := Obj.windowRequest
    let op := fun (n : Nat) => withByte 0 n b
    let mayW := fun (n : Nat) => u.accepts role kw (op n) ∧ b.length = 32 ∧ u.windowRole role (op n) = true
    let c := leNat (slice b 2 2)
    u.histBusy = false ∧ mayW 3 ∧ u.window c = some d) ∧
  (∃ (t : Nat) (role : Role) (b : List Nat) (s : State),
    let u := s.at t
    let kw := Obj.windowRequest
    let op := fun (n : Nat) => withByte 0 n b
    let mayW := fun (n : Nat) => u.accepts role kw (op n) ∧ b.length = 32 ∧ u.windowRole role (op n) = true
    let c := leNat (slice b 2 2)
    u.histBusy = false ∧ mayW 3 ∧ u.window c = none) ∧
  (∃ (t : Nat) (role : Role) (b : List Nat) (s : State),
    let u := s.at t
    let kc := Obj.channelRequest
    let op := fun (n : Nat) => withByte 0 n b
    let may := fun (n : Nat) => u.accepts role kc (op n) ∧ b.length = 32 ∧ u.channelRole role (op n) = true
    u.histBusy = true ∧ may 1) ∧
  (∃ (t : Nat) (role : Role) (b : List Nat) (s : State),
    let u := s.at t
    let kw := Obj.windowRequest
    let op := fun (n : Nat) => withByte 0 n b
    let mayW := fun (n : Nat) => u.accepts role kw (op n) ∧ b.length = 32 ∧ u.windowRole role (op n) = true
    u.histBusy = true ∧ mayW 1) ∧
  (∃ (t : Nat) (b : List Nat) (s : State),
    let u := s.at t
    let op := fun (n : Nat) => withByte 0 n b
    let c := leNat (slice b 2 2)
    let r := u.ringDef c
    chanKnown c = true ∧ reqRingReserved (op 1) = true ∧ (reqRing (op 1)).ok = true ∧ (reqRing (op 1)).levels ≠ 0 ∧ (chanFree c = true ∨ (reqRing (op 1)).owner = 0) ∧ r.state ≠ 0 ∧ b.length = 32) ∧
  (∃ (t : Nat) (b : List Nat) (s : State),
    let u := s.at t
    let op := fun (n : Nat) => withByte 0 n b
    let c := leNat (slice b 2 2)
    let r := u.ringDef c
    chanFree c = true ∧ chanKnown c = true ∧ reqRingReserved (op 1) = true ∧ (reqRing (op 1)).levels = 0 ∧ (reqRing (op 1)).owner = 0 ∧ r.state = 0 ∧ b.length = 32) ∧
  (∃ (t : Nat) (b : List Nat) (s : State) (d : _),
    let u := s.at t
    let c := leNat (slice b 2 2)
    u.window c = some d) ∧
  (∃ (t : Nat) (role : Role) (s : State),
    let u := s.at t
    let kf := Obj.forecasterHandle
    u.accepts role kf (numBytes kf 255)) ∧
  (∃ (t : Nat) (h : Nat) (role : Role) (s : State),
    let u := s.at t
    let kf := Obj.forecasterHandle
    u.accepts role kf (numBytes kf h) ∧ h < 255 ∧ u.bindable h = false) ∧
  (∃ (t : Nat) (h : Nat) (role : Role) (s : State),
    let u := s.at t
    let kf := Obj.forecasterHandle
    u.accepts role kf (numBytes kf h) ∧ h < 255 ∧ u.bindable h = true) :=
  ⟨⟨0, .operator, List.replicate 32 0, (inMode .ready), by (try dsimp only [State.accepts, State.acceptsOver]); decide +kernel⟩,
   ⟨0, .operator, [0, 0, 0, 16] ++ List.replicate 28 0, onHist ((inMode .ready)) (fun p => { p with rings := [(0x1000, { state := 2 })] }), by (try dsimp only [State.accepts, State.acceptsOver]); decide +kernel⟩,
   ⟨0, .operator, [0, 0, 0, 16] ++ List.replicate 28 0, { onHist ((inMode .ready)) (fun p => { p with rings := [(0x1000, { state := 2 })] }) with pecan := { arrays := [(0, { xfers := [{ xfer1 with ring := 0x1001 }] })] } }, by (try dsimp only [State.accepts, State.acceptsOver]); decide +kernel⟩,
   ⟨0, .operator, List.replicate 32 0, (inMode .ready), by (try dsimp only [State.accepts, State.acceptsOver]); decide +kernel⟩,
   ⟨0, .operator, List.replicate 32 0, (inMode .ready), by (try dsimp only [State.accepts, State.acceptsOver]); decide +kernel⟩,
   ⟨0, .operator, List.replicate 32 0, (inMode .ready), by (try dsimp only [State.accepts, State.acceptsOver]); decide +kernel⟩,
   ⟨0, .operator, List.replicate 32 0, onHist ((inMode .ready)) (fun p => { p with windows := [(0, { anchor := 0, channel := 0, level := 0, owner := 0, domain := 0, start := 0, samples := 64 })] }), { anchor := 0, channel := 0, level := 0, owner := 0, domain := 0, start := 0, samples := 64 }, by (try dsimp only [State.accepts, State.acceptsOver]); decide +kernel⟩,
   ⟨0, .operator, List.replicate 32 0, onHist ((inMode .ready)) (fun p => { p with windows := [(0, { anchor := 0, channel := 0, level := 0, owner := 0, domain := 0, start := 0, samples := 64 })] }), { anchor := 0, channel := 0, level := 0, owner := 0, domain := 0, start := 0, samples := 64 }, by (try dsimp only [State.accepts, State.acceptsOver]); decide +kernel⟩,
   ⟨0, .operator, List.replicate 32 0, (inMode .ready), by (try dsimp only [State.accepts, State.acceptsOver]); decide +kernel⟩,
   ⟨0, .operator, List.replicate 32 0, onHist ((inMode .ready)) (fun p => { p with rings := [(0x1000, { deleting := true })] }), by (try dsimp only [State.accepts, State.acceptsOver]); decide +kernel⟩,
   ⟨0, .operator, List.replicate 32 0, onHist ((inMode .ready)) (fun p => { p with rings := [(0x1000, { deleting := true })] }), by (try dsimp only [State.accepts, State.acceptsOver]); decide +kernel⟩,
   ⟨0, chanReq 1, onHist ((inMode .ready)) (fun p => { p with rings := [(0x1000, { state := 2 })] }), by (try dsimp only); decide +kernel⟩,
   ⟨0, chanReq 0, (inMode .ready), by (try dsimp only); decide +kernel⟩,
   ⟨0, [], onHist ((inMode .ready)) (fun p => { p with windows := [(0, { anchor := 0, channel := 0, level := 0, owner := 0, domain := 0, start := 0, samples := 64 })] }), { anchor := 0, channel := 0, level := 0, owner := 0, domain := 0, start := 0, samples := 64 }, by (try dsimp only); decide +kernel⟩,
   ⟨0, .operator, (inMode .ready), by (try dsimp only [State.accepts, State.acceptsOver]); decide +kernel⟩,
   ⟨0, 254, .operator, (inMode .ready), by (try dsimp only [State.accepts, State.acceptsOver]); decide +kernel⟩,
   ⟨0, 0, .operator, binds, by (try dsimp only [State.accepts, State.acceptsOver]); decide +kernel⟩⟩

theorem witness_RingsStacksAndPublications :
  (∃ (t : Nat) (c : Nat) (s : State),
    let u := s.at t
    let r := u.ringDef c
    r.live = false) ∧
  (∃ (q : RingDef), q.n0 ≠ 0 ∧ q.late ≠ 0 ∧ q.head + 1 < q.late) ∧
  (∃ (t : Nat) (c : Nat) (s : State),
    let u := s.at t
    let r := u.ringDef c
    r.deleting = true ∧ u.ringRead c = false) ∧
  (∃ (t : Nat) (c : Nat) (s : State),
    let u := s.at t
    let r := u.ringDef c
    r.deleting = false) ∧
  (∃ (t : Nat) (k : Fin 8) (s : State),
    let u := s.at t
    (u.nat (Obj.stackState k.val) = 1 ∨ u.nat (Obj.stackState k.val) = 2)) ∧
  (∃ (t : Nat) (k : Fin 8) (s : State),
    let u := s.at t
    u.nat (Obj.stackState k.val) = 3) ∧
  (∃ (t : Nat) (k : Fin 8) (s : State),
    let u := s.at t
    u.nat (Obj.stackState k.val) = 2) ∧
  (∃ (t : Nat) (k : Fin 8) (s : State),
    let u := s.at t
    u.nat (Obj.stackState k.val) = 2) ∧
  (∃ (t : Nat) (k : Fin 8) (s : State),
    let u := s.at t
    u.nat (Obj.stackState k.val) ≠ 2) ∧
  (∃ (t : Nat) (c : Nat) (s : State),
    let u := s.at t
    let r := u.ringDef c
    r.live = true ∧ r.mirrorAt = 255) ∧
  (∃ (t : Nat) (port : Fin 16) (p : Fin 128) (bytes : List Nat) (s : State),
    let u := s.at t
    port.val < 4 ∧ u.fc.bound = p.val ∧ pubOk port.val bytes = true) ∧
  (∃ (t : Nat) (port : Fin 16) (p : Fin 128) (bytes : List Nat) (s : State),
    let u := s.at t
    port.val < 4 ∧ (u.fc.bound ≠ p.val ∨ pubOk port.val bytes = false)) ∧
  (∃ (port : Fin 16), 6 ≤ port.val) ∧
  (∃ (t : Nat) (s : State),
    let u := s.at t
    u.histT % 250 ≠ 0) ∧
  (∃ (t : Nat) (s : State),
    let u := s.at t
    u.histT % 250 = 0 ∧ 250 ≤ u.histT) :=
  ⟨⟨0, 0, (inMode .ready), by (try dsimp only); decide +kernel⟩,
   ⟨{ late := 5, head := 3 }, by decide +kernel⟩,
   ⟨0, 0, onHist ((inMode .ready)) (fun p => { p with rings := [(0, { deleting := true })] }), by (try dsimp only); decide +kernel⟩,
   ⟨0, 0, (inMode .ready), by (try dsimp only); decide +kernel⟩,
   ⟨0, 7, (((inMode .ready)).setNat (Obj.stackState 7) 1), by (try dsimp only); decide +kernel⟩,
   ⟨0, 7, (((inMode .ready)).setNat (Obj.stackState 7) 3), by (try dsimp only); decide +kernel⟩,
   ⟨0, 7, (((inMode .ready)).setNat (Obj.stackState 7) 2), by (try dsimp only); decide +kernel⟩,
   ⟨0, 7, (((inMode .ready)).setNat (Obj.stackState 7) 2), by (try dsimp only); decide +kernel⟩,
   ⟨0, 0, (inMode .ready), by (try dsimp only); decide +kernel⟩,
   ⟨0, 0, onHist ((inMode .ready)) (fun p => { p with rings := [(0, { state := 2 })] }), by (try dsimp only); decide +kernel⟩,
   ⟨0, 3, 127, List.replicate 64 0, { (inMode .ready) with fc := { bound := 127 } }, by (try dsimp only); decide +kernel⟩,
   ⟨0, 3, 0, [], (inMode .ready), by (try dsimp only); decide +kernel⟩,
   ⟨6, by decide +kernel⟩,
   ⟨1000, (inMode .ready), by (try dsimp only); decide +kernel⟩,
   ⟨250000, (inMode .ready), by (try dsimp only); decide +kernel⟩⟩

theorem witness_ArraysWakeTestAndFault :
  (∃ (t : Nat) (cause : Nat) (g : Fin 128) (s : State),
    let u := s.at t
    let i := g.val
    let a := u.arr i
    let live := a.power ≠ 5 ∧ a.power ≠ 6 ∧ u.nat (Obj.dieState (dieOf i)) = 1
    live ∧ 1 ≤ cause ∧ cause ≤ 9) ∧
  (∃ (t : Nat) (g : Fin 128) (s : State),
    let u := s.at t
    let i := g.val
    let a := u.arr i
    (a.power = 5 ∨ a.power = 6)) ∧
  (∃ (t : Nat) (g : Fin 128) (s : State) (w : _),
    let u := s.at t
    let i := g.val
    let a := u.arr i
    a.wakeAt = some w ∧ w ≤ u.now ∧ 1 ≤ a.power ∧ a.power ≤ 3 ∧ a.entering = 0) ∧
  (∃ (t : Nat) (g : Fin 128) (s : State),
    let u := s.at t
    let i := g.val
    let a := u.arr i
    a.wakeAt = none) ∧
  (∃ (t : Nat) (g : Fin 128) (s : State),
    let u := s.at t
    let i := g.val
    let a := u.arr i
    a.power = 4 ∧ a.wakeDone ≤ u.now ∧ a.wakeFrom ≤ 1 ∧ a.demand = true) ∧
  (∃ (t : Nat) (g : Fin 128) (s : State),
    let u := s.at t
    let i := g.val
    let a := u.arr i
    a.power = 4 ∧ a.wakeDone ≤ u.now ∧ 2 ≤ a.wakeFrom ∧ a.demand = true) ∧
  (∃ (t : Nat) (g : Fin 128) (s : State),
    let u := s.at t
    let i := g.val
    let a := u.arr i
    a.power ≠ 4) ∧
  (∃ (t : Nat) (g : Fin 128) (s : State),
    let u := s.at t
    let i := g.val
    let a := u.arr i
    a.wakeFrom = 2) ∧
  (∃ (t : Nat) (g : Fin 128) (s : State),
    let u := s.at t
    let i := g.val
    let a := u.arr i
    a.entering ≠ 0 ∧ a.entryDone ≤ u.now ∧ a.power ≤ 3 ∧ a.demand = false ∧ a.wakeAt = none) ∧
  (∃ (t : Nat) (g : Fin 128) (s : State),
    let u := s.at t
    let i := g.val
    let a := u.arr i
    a.entering = 0) ∧
  (∃ (t : Nat) (g : Fin 128) (s : State),
    let u := s.at t
    let i := g.val
    let a := u.arr i
    a.testSince = none ∧ a.power = 0 ∧ u.nat (Obj.dieState (dieOf i)) = 1) ∧
  (∃ (t : Nat) (g : Fin 128) (s : State) (w : _),
    let u := s.at t
    let i := g.val
    let a := u.arr i
    a.testSince = some w) ∧
  (∃ (t : Nat) (line : Nat) (g : Fin 128) (s : State),
    let u := s.at t
    let i := g.val
    let a := u.arr i
    let live := a.power ≠ 5 ∧ a.power ≠ 6 ∧ u.nat (Obj.dieState (dieOf i)) = 1
    live ∧ a.power ≠ 3 ∧ line < 65536) ∧
  (∃ (t : Nat) (g : Fin 128) (s : State),
    let u := s.at t
    let i := g.val
    let a := u.arr i
    (a.power = 0 ∨ a.power = 1)) ∧
  (∃ (t : Nat) (role : Role) (g : Fin 128) (s : State),
    let u := s.at t
    let i := g.val
    let a := u.arr i
    let kc := Obj.arrayCommand i
    u.accepts role kc (numBytes kc 1) ∧ a.power = 5 ∧ u.lost (i / 64) = false ∧ u.reacted (i / 64) = false ∧ u.nat (Obj.dieState (dieOf i)) = 1) ∧
  (∃ (t : Nat) (role : Role) (g : Fin 128) (s : State),
    let u := s.at t
    let i := g.val
    let a := u.arr i
    let kc := Obj.arrayCommand i
    u.accepts role kc (numBytes kc 1) ∧ a.power ≠ 5) ∧
  (∃ (t : Nat) (role : Role) (g : Fin 128) (s : State),
    let u := s.at t
    let i := g.val
    let a := u.arr i
    let kc := Obj.arrayCommand i
    u.accepts role kc (numBytes kc 2) ∧ a.power ≠ 5 ∧ a.power ≠ 6) :=
  ⟨⟨0, 9, 127, arrs {  }, by (try dsimp only); decide +kernel⟩,
   ⟨0, 127, arrs { power := 6 }, by (try dsimp only); decide +kernel⟩,
   ⟨0, 127, arrs { wakeAt := some 0 }, 0, by (try dsimp only); decide +kernel⟩,
   ⟨0, 0, (inMode .ready), by (try dsimp only); decide +kernel⟩,
   ⟨0, 127, arrs { power := 4, wakeFrom := 1, demand := true }, by (try dsimp only); decide +kernel⟩,
   ⟨0, 127, arrs { power := 4, wakeFrom := 2, demand := true }, by (try dsimp only); decide +kernel⟩,
   ⟨0, 0, (inMode .ready), by (try dsimp only); decide +kernel⟩,
   ⟨0, 127, arrs { wakeFrom := 2 }, by (try dsimp only); decide +kernel⟩,
   ⟨0, 127, arrs { power := 0, entering := 3 }, by (try dsimp only); decide +kernel⟩,
   ⟨0, 0, (inMode .ready), by (try dsimp only); decide +kernel⟩,
   ⟨0, 127, arrs { power := 0 }, by (try dsimp only); decide +kernel⟩,
   ⟨0, 127, arrs { testSince := some 0 }, 0, by (try dsimp only); decide +kernel⟩,
   ⟨0, 65535, 127, arrs { power := 0 }, by (try dsimp only); decide +kernel⟩,
   ⟨0, 127, arrs { power := 1 }, by (try dsimp only); decide +kernel⟩,
   ⟨0, .service, 127, arrs { power := 5 }, by (try dsimp only [State.accepts, State.acceptsOver]); decide +kernel⟩,
   ⟨0, .service, 127, arrs {  }, by (try dsimp only [State.accepts, State.acceptsOver]); decide +kernel⟩,
   ⟨0, .service, 127, arrs { power := 4 }, by (try dsimp only [State.accepts, State.acceptsOver]); decide +kernel⟩⟩

theorem witness_DieLinksPointsAndHalts :
  (∃ (t : Nat) (l : Fin 7) (s : State),
    let u := s.at t
    let i := l.val
    u.nat (Obj.eastLinkState i) = 1) ∧
  (∃ (t : Nat) (l : Fin 7) (s : State),
    let u := s.at t
    let i := l.val
    u.nat (Obj.eastLinkState i) ≠ 1) ∧
  (∃ (l : Fin 7) (w : State),
    let i := l.val
    (∀ x ∈ w.pecan.linkDown, x.1 ≠ i)) ∧
  (∃ (t : Nat) (l : Fin 7) (e : Nat × Nat) (s : State),
    let u := s.at t
    let i := l.val
    (u.pecan.linkDown.find? (fun e => e.1 = i) = some e) ∧ e.2 - 1 + sec ≤ u.now) ∧
  (∃ (t : Nat) (l : Fin 7) (e : Nat × Nat) (s : State),
    let u := s.at t
    let i := l.val
    (u.pecan.linkDown.find? (fun e => e.1 = i) = some e) ∧ u.now < e.2 - 1 + sec) ∧
  (∃ (t : Nat) (l : Fin 7) (e : Nat × Nat) (s : State),
    let u := s.at t
    let i := l.val
    (u.pecan.linkUp.find? (fun e => e.1 = i) = some e) ∧ e.2 - 1 + sec ≤ u.now) ∧
  (∃ (t : Nat) (l : Fin 7) (e : Nat × Nat) (s : State),
    let u := s.at t
    let i := l.val
    (u.pecan.linkUp.find? (fun e => e.1 = i) = some e) ∧ u.now < e.2 - 1 + sec) ∧
  (∃ (t : Nat) (l : Fin 7) (_e : Nat × Nat) (s : State),
    let u := s.at t
    let i := l.val
    (u.pecan.linkUp.find? (fun e => e.1 = i) = none)) ∧
  (∃ (t : Nat) (s : State),
    let u := s.at t
    let off := u.mode = .off ∨ u.mode = .ship ∨ u.boot.inReset = true
    off) ∧
  (∃ (t : Nat) (s : State),
    let u := s.at t
    let off := u.mode = .off ∨ u.mode = .ship ∨ u.boot.inReset = true
    (¬off)) ∧
  (∃ (d : Fin 8) (w : State), (∀ f ∈ w.floors d.val, f = none)) ∧
  (∃ (d : Fin 8) (w : State) (f : _), some f ∈ w.floors d.val) ∧
  (∃ (t : Nat) (c : Nat) (te : Nat) (d : Fin 8) (s : State),
    let u := s.at t
    let q := u.diePt d.val
    let r := ((u.floors d.val).filterMap id).foldl max (max c (u.nat Obj.fastestPoint2D00))
    u.nextRise d.val = some (te, c) ∧ u.nat (Obj.dieState d.val) = 1 ∧ r < q.target ∧ te ≤ u.now + u.riseTime d.val r + u.nat Obj.wakeMargin * 1000) ∧
  (∃ (t : Nat) (c : Nat) (te : Nat) (d : Fin 8) (s : State),
    let u := s.at t
    let r := ((u.floors d.val).filterMap id).foldl max (max c (u.nat Obj.fastestPoint2D00))
    u.nextRise d.val = some (te, c) ∧ u.now + u.riseTime d.val r + u.nat Obj.wakeMargin * 1000 < te) ∧
  (∃ (t : Nat) (d : Fin 8) (s : State),
    let u := s.at t
    u.nextRise d.val = none) ∧
  (∃ (t : Nat) (d : Fin 8) (s : State),
    let u := s.at t
    let q := u.diePt d.val
    q.slowSince ≠ 0 ∧ q.slowSince - 1 + u.nat Obj.pointHoldTime * 1000 ≤ u.now ∧ q.target < u.computedPoint d.val ∧ u.nat (Obj.dieState d.val) = 1) ∧
  (∃ (t : Nat) (d : Fin 8) (s : State),
    let u := s.at t
    let q := u.diePt d.val
    q.slowSince = 0) ∧
  (∃ (t : Nat) (s : State),
    let u := s.at t
    ((smGet (fun _ => {}) u.dict.sessions 0 : Session).level ≠ 0)) ∧
  (∃ (t : Nat) (s : State),
    let u := s.at t
    ((smGet (fun _ => {}) u.dict.sessions 0 : Session).level = 0)) :=
  ⟨⟨0, 6, (((inMode .ready)).setNat (Obj.eastLinkState 6) 1), by (try dsimp only); decide +kernel⟩,
   ⟨0, 0, (inMode .ready), by (try dsimp only); decide +kernel⟩,
   ⟨6, (inMode .ready), by (try dsimp only); decide +kernel⟩,
   ⟨1000000000, 6, (6, 1), { (inMode .ready) with pecan := { linkDown := [(6, 1)] } }, by (try dsimp only); decide +kernel⟩,
   ⟨999999999, 6, (6, 1), { (inMode .ready) with pecan := { linkDown := [(6, 1)] } }, by (try dsimp only); decide +kernel⟩,
   ⟨1000000000, 6, (6, 1), { (inMode .ready) with pecan := { linkUp := [(6, 1)] } }, by (try dsimp only); decide +kernel⟩,
   ⟨999999999, 6, (6, 1), { (inMode .ready) with pecan := { linkUp := [(6, 1)] } }, by (try dsimp only); decide +kernel⟩,
   ⟨0, 0, (0, 0), (inMode .ready), by (try dsimp only); decide +kernel⟩,
   ⟨0, (inMode .off), by (try dsimp only); decide +kernel⟩,
   ⟨0, (inMode .ready), by (try dsimp only); decide +kernel⟩,
   ⟨0, (inMode .ready), by decide +kernel⟩,
   ⟨0, onPow ((inMode .ready)) (fun p => { p with alertOn := true }), 7, by decide +kernel⟩,
   ⟨0, 2, 1000, 0, rising1, ⟨by decide +kernel, by decide +kernel, by decide +kernel, by
    refine Nat.le_trans ?_ (Nat.le_add_left _ _)
    decide +kernel⟩⟩,
   ⟨0, 2, 1000000000, 0, rising2, ⟨by decide +kernel, by
    rw [riseTime_same _ _ _ (by decide +kernel)]
    decide +kernel⟩⟩,
   ⟨0, 0, (inMode .ready), by (try dsimp only); decide +kernel⟩,
   ⟨1000000, 7, (({ (inMode .ready) with pow := { dies := [(7, { target := 0, slowSince := 1 })] } }).setNat (Obj.dieState 7) 1), by (try dsimp only); decide +kernel⟩,
   ⟨0, 0, (inMode .ready), by (try dsimp only); decide +kernel⟩,
   ⟨0, onDict (inMode .ready) (fun d => { d with sessions := [(0, { level := 1 })] }), by (try dsimp only); decide +kernel⟩,
   ⟨0, (inMode .ready), by (try dsimp only); decide +kernel⟩⟩

theorem witness_SlotsAndProgramsObeyTheirCommands :
  (∃ (t : Nat) (st : Nat) (role : Role) (k : Fin 16) (s : State),
    let u := s.at t
    let ks := Obj.slotCommand k.val
    let x := u.slot k.val
    let mine := x.foreign role = false
    let okS := fun (n : Nat) => u.accepts role ks (numBytes ks n) ∧ mine
    let all := sumN ((u.pecan.slots.filter (fun e => e.2.state != 0)).map (fun e => e.2.size))
    okS 1 ∧ x.state = 0 ∧ x.size ≠ 0 ∧ all + x.size ≤ 8589934592 ∧ (tagOf role = 0 ∨ u.slotOf (tagOf role) = none) ∧ u.bulkStack (List.range 8) x.size = some st) ∧
  (∃ (t : Nat) (role : Role) (k : Fin 16) (s : State),
    let u := s.at t
    let ks := Obj.slotCommand k.val
    let x := u.slot k.val
    let mine := x.foreign role = false
    let okS := fun (n : Nat) => u.accepts role ks (numBytes ks n) ∧ mine
    okS 1 ∧ x.state ≠ 0) ∧
  (∃ (t : Nat) (role : Role) (k : Fin 16) (s : State),
    let u := s.at t
    let ks := Obj.slotCommand k.val
    let x := u.slot k.val
    let mine := x.foreign role = false
    let okS := fun (n : Nat) => u.accepts role ks (numBytes ks n) ∧ mine
    okS 2 ∧ x.state = 1) ∧
  (∃ (t : Nat) (role : Role) (k : Fin 16) (s : State),
    let u := s.at t
    let ks := Obj.slotCommand k.val
    let x := u.slot k.val
    let mine := x.foreign role = false
    let okS := fun (n : Nat) => u.accepts role ks (numBytes ks n) ∧ mine
    okS 2 ∧ x.state ≠ 1) ∧
  (∃ (t : Nat) (role : Role) (k : Fin 16) (s : State),
    let u := s.at t
    let ks := Obj.slotCommand k.val
    let x := u.slot k.val
    let mine := x.foreign role = false
    let okS := fun (n : Nat) => u.accepts role ks (numBytes ks n) ∧ mine
    okS 3 ∧ (x.state = 1 ∨ x.state = 3 ∨ x.state = 4)) ∧
  (∃ (t : Nat) (role : Role) (k : Fin 16) (s : State),
    let u := s.at t
    let ks := Obj.slotCommand k.val
    let x := u.slot k.val
    let mine := x.foreign role = false
    let okS := fun (n : Nat) => u.accepts role ks (numBytes ks n) ∧ mine
    okS 3 ∧ (x.state = 2 ∨ x.state = 5)) ∧
  (∃ (t : Nat) (k : Fin 16) (s : State) (c : _) (n : _) (o : _),
    let u := s.at t
    let x := u.slot k.val
    x.state = 2 ∧ u.verifyImage x.bytes x.size = .error (c, n, o)) ∧
  (∃ (t : Nat) (k : Fin 16) (s : State) (lane : _) (n : _) (id : _) (decls : _),
    let u := s.at t
    let x := u.slot k.val
    x.state = 2 ∧ u.verifyImage x.bytes x.size = .ok (lane, n, id, decls)) ∧
  (∃ (t : Nat) (k : Fin 16) (s : State),
    let u := s.at t
    let x := u.slot k.val
    x.state ≠ 2) ∧
  (∃ (t : Nat) (role : Role) (k : Fin 16) (b : List Nat) (s : State),
    let u := s.at t
    let kl := Obj.loadRequest
    let x := u.slot k.val
    u.accepts role kl b ∧ b.length = 64 ∧ (u.mode = .standby ∨ u.mode = .ready ∨ u.mode = .shaping ∨ u.mode = .hold) ∧ u.pecan.load = none ∧ listGet 0 b 0 = k.val ∧ x.state = 3 ∧ u.badRequest b x = false) ∧
  (∃ (t : Nat) (role : Role) (b : List Nat) (s : State),
    let u := s.at t
    let kl := Obj.loadRequest
    u.accepts role kl b ∧ b.length = 64 ∧ (u.mode = .safe ∨ u.pecan.load.isSome = true)) ∧
  (∃ (t : Nat) (s : State),
    let u := s.at t
    u.pecan.load = none) ∧
  (∃ (t : Nat) (s : State) (l : _) (q : _),
    let u := s.at t
    u.pecan.load = some l ∧ ((u.prog l.handle).parts.find? (fun q => !u.inService q.array || !u.healthy (q.array / 64)) = some q)) ∧
  (∃ (t : Nat) (role : Role) (h : Fin 128) (s : State),
    let u := s.at t
    let kp := Obj.programCommand h.val
    let p := u.prog h.val
    let okP := fun (n : Nat) => u.accepts role kp (numBytes kp n)
    okP 1 ∧ p.state = pgLoaded) ∧
  (∃ (t : Nat) (role : Role) (h : Fin 128) (s : State),
    let u := s.at t
    let kp := Obj.programCommand h.val
    let p := u.prog h.val
    let okP := fun (n : Nat) => u.accepts role kp (numBytes kp n)
    okP 1 ∧ p.state ≠ pgLoaded ∧ p.state ≠ pgStopped) ∧
  (∃ (t : Nat) (role : Role) (h : Fin 128) (s : State),
    let u := s.at t
    let kp := Obj.programCommand h.val
    let p := u.prog h.val
    let okP := fun (n : Nat) => u.accepts role kp (numBytes kp n)
    okP 2 ∧ p.state = pgRunning ∧ p.quiet = true) ∧
  (∃ (t : Nat) (role : Role) (h : Fin 128) (s : State),
    let u := s.at t
    let kp := Obj.programCommand h.val
    let p := u.prog h.val
    let okP := fun (n : Nat) => u.accepts role kp (numBytes kp n)
    okP 2 ∧ p.state = pgRunning ∧ p.quiet = false) ∧
  (∃ (t : Nat) (role : Role) (h : Fin 128) (s : State),
    let u := s.at t
    let kp := Obj.programCommand h.val
    let p := u.prog h.val
    let okP := fun (n : Nat) => u.accepts role kp (numBytes kp n)
    okP 2 ∧ p.state ≠ pgRunning) ∧
  (∃ (t : Nat) (role : Role) (h : Fin 128) (s : State),
    let u := s.at t
    let kp := Obj.programCommand h.val
    let p := u.prog h.val
    let okP := fun (n : Nat) => u.accepts role kp (numBytes kp n)
    okP 3 ∧ (p.state = pgLoaded ∨ p.state = pgRunning ∨ p.state = pgStopped) ∧ p.quiet = true) ∧
  (∃ (t : Nat) (role : Role) (h : Fin 128) (s : State),
    let u := s.at t
    let kp := Obj.programCommand h.val
    let p := u.prog h.val
    let okP := fun (n : Nat) => u.accepts role kp (numBytes kp n)
    okP 3 ∧ (p.state = pgLoaded ∨ p.state = pgRunning ∨ p.state = pgStopped) ∧ p.quiet = false) ∧
  (∃ (t : Nat) (role : Role) (h : Fin 128) (s : State),
    let u := s.at t
    let kp := Obj.programCommand h.val
    let p := u.prog h.val
    let okP := fun (n : Nat) => u.accepts role kp (numBytes kp n)
    okP 4 ∧ p.state = pgRunning ∧ p.lane = 2 ∧ p.trigger = 1) ∧
  (∃ (t : Nat) (role : Role) (h : Fin 128) (s : State),
    let u := s.at t
    let kp := Obj.programCommand h.val
    let p := u.prog h.val
    let okP := fun (n : Nat) => u.accepts role kp (numBytes kp n)
    okP 4 ∧ p.trigger ≠ 1) :=
  ⟨⟨0, 0, .operator, 15, (({ (inMode .ready) with pecan := { slots := [(15, { size := 64 })] } }).setNat (Obj.stackState 0) 2), by (try dsimp only [State.accepts, State.acceptsOver]); decide +kernel⟩,
   ⟨0, .operator, 15, { (inMode .ready) with pecan := { slots := [(15, { state := 1 })] } }, by (try dsimp only [State.accepts, State.acceptsOver]); decide +kernel⟩,
   ⟨0, .operator, 15, { (inMode .ready) with pecan := { slots := [(15, { state := 1 })] } }, by (try dsimp only [State.accepts, State.acceptsOver]); decide +kernel⟩,
   ⟨0, .operator, 0, (inMode .ready), by (try dsimp only [State.accepts, State.acceptsOver]); decide +kernel⟩,
   ⟨0, .operator, 15, { (inMode .ready) with pecan := { slots := [(15, { state := 4 })] } }, by (try dsimp only [State.accepts, State.acceptsOver]); decide +kernel⟩,
   ⟨0, .operator, 15, { (inMode .ready) with pecan := { slots := [(15, { state := 5 })] } }, by (try dsimp only [State.accepts, State.acceptsOver]); decide +kernel⟩,
   ⟨0, 15, { (inMode .ready) with pecan := { slots := [(15, { state := 2 })] } }, 0x63, 0, 0, ⟨by decide +kernel, eq_error (by decide +kernel)⟩⟩,
   by
    by_cases h : keyId (zheudKey 4) = keyId (pubKey 1)
    · exact ⟨0, 15, verifying 2, _, _, _, _, by decide +kernel, verifyImage_ok _ _ _ (by decide +kernel) (imageSigned_author _ _ (pubKey 2) (by decide +kernel) (fun hb => absurd (h.symm.trans hb) (by decide +kernel)) (by decide +kernel) (by decide +kernel) (by decide +kernel)) (by decide +kernel) (by decide +kernel)⟩
    · exact ⟨0, 15, verifying 1, _, _, _, _, by decide +kernel, verifyImage_ok _ _ _ (by decide +kernel) (imageSigned_author _ _ (pubKey 1) (by decide +kernel) h (by decide +kernel) (by decide +kernel) (by decide +kernel)) (by decide +kernel) (by decide +kernel)⟩,
   ⟨0, 0, (inMode .ready), by (try dsimp only); decide +kernel⟩,
   ⟨0, .operator, 0, List.replicate 64 0, { (inMode .ready) with pecan := { slots := [(0, { state := 3, lane := 1 })] } }, by (try dsimp only [State.accepts, State.acceptsOver]); decide +kernel⟩,
   ⟨0, .operator, List.replicate 64 0, (inMode .safe), by (try dsimp only [State.accepts, State.acceptsOver]); decide +kernel⟩,
   ⟨0, (inMode .ready), by (try dsimp only); decide +kernel⟩,
   ⟨0, { (inMode .ready) with pecan := { progs := [(0, { parts := [part1] })], load := some { slot := 0, handle := 0, req := [] } } }, { slot := 0, handle := 0, req := [] }, part1, by (try dsimp only); decide +kernel⟩,
   ⟨0, .operator, 127, { (inMode .ready) with pecan := { progs := [(127, { state := pgLoaded })] } }, by (try dsimp only [State.accepts, State.acceptsOver]); decide +kernel⟩,
   ⟨0, .operator, 0, (inMode .ready), by (try dsimp only [State.accepts, State.acceptsOver]); decide +kernel⟩,
   ⟨0, .operator, 127, { (inMode .ready) with pecan := { progs := [(127, { state := pgRunning })] } }, by (try dsimp only [State.accepts, State.acceptsOver]); decide +kernel⟩,
   ⟨0, .operator, 127, { (inMode .ready) with pecan := { progs := [(127, { state := pgRunning, parts := [part1] })] } }, by (try dsimp only [State.accepts, State.acceptsOver]); decide +kernel⟩,
   ⟨0, .operator, 0, (inMode .ready), by (try dsimp only [State.accepts, State.acceptsOver]); decide +kernel⟩,
   ⟨0, .operator, 127, { (inMode .ready) with pecan := { progs := [(127, { state := pgStopped })] } }, by (try dsimp only [State.accepts, State.acceptsOver]); decide +kernel⟩,
   ⟨0, .operator, 127, { (inMode .ready) with pecan := { progs := [(127, { state := pgRunning, parts := [part1] })] } }, by (try dsimp only [State.accepts, State.acceptsOver]); decide +kernel⟩,
   ⟨0, .operator, 127, { (inMode .ready) with pecan := { progs := [(127, { state := pgRunning, lane := 2, trigger := 1 })] } }, by (try dsimp only [State.accepts, State.acceptsOver]); decide +kernel⟩,
   ⟨0, .operator, 0, (inMode .ready), by (try dsimp only [State.accepts, State.acceptsOver]); decide +kernel⟩⟩

theorem witness_TicksSlicesAndTheScheduler :
  (∃ (t : Nat) (h : Fin 128) (s : State),
    let u := s.at t
    let p := u.prog h.val
    let at_ := u.hall / us
    (p.lane ≠ 1 ∨ p.state ≠ pgRunning ∨ at_ % u.progPeriod h.val ≠ 0)) ∧
  (∃ (t : Nat) (h : Fin 128) (s : State),
    let u := s.at t
    let p := u.prog h.val
    let at_ := u.hall / us
    p.lane = 1 ∧ p.state = pgRunning ∧ at_ % u.progPeriod h.val = 0 ∧ p.primed = false) ∧
  (∃ (t : Nat) (h : Fin 128) (s : State),
    let u := s.at t
    let p := u.prog h.val
    let at_ := u.hall / us
    let d := u.demandAll (p.parts.map (·.array))
    p.lane = 1 ∧ p.state = pgRunning ∧ at_ % u.progPeriod h.val = 0 ∧ p.primed = true ∧ p.quiet = true ∧ d.1 = true) ∧
  (∃ (t : Nat) (h : Fin 128) (s : State),
    let u := s.at t
    let p := u.prog h.val
    let at_ := u.hall / us
    p.lane = 1 ∧ p.state = pgRunning ∧ at_ % u.progPeriod h.val = 0 ∧ p.primed = true ∧ p.quiet = false) ∧
  (∃ (t : Nat) (g : Fin 128) (r : PartRef) (q : PartSt) (s : State),
    let u := s.at t
    let x := u.prog r.handle
    u.curPart g.val = some (r, q) ∧ x.lane = 1 ∧ x.stopPending ≠ 3) ∧
  (∃ (t : Nat) (g : Fin 128) (r : PartRef) (q : PartSt) (s : State),
    let u := s.at t
    let x := u.prog r.handle
    u.curPart g.val = some (r, q) ∧ x.lane = 1 ∧ x.stopPending = 3) ∧
  (∃ (t : Nat) (g : Fin 128) (r : PartRef) (q : PartSt) (s : State),
    let u := s.at t
    let x := u.prog r.handle
    u.curPart g.val = some (r, q) ∧ x.lane = 2 ∧ x.stopPending ≠ 3) ∧
  (∃ (t : Nat) (g : Fin 128) (s : State),
    let u := s.at t
    u.curPart g.val = none) ∧
  (∃ (t : Nat) (h : Fin 128) (s : State),
    let u := s.at t
    let p := u.prog h.val
    p.trigger = 2 ∧ p.state = pgRunning ∧ p.lastPeriodic + p.period * us ≤ u.hall) ∧
  (∃ (t : Nat) (h : Fin 128) (s : State),
    let u := s.at t
    let p := u.prog h.val
    p.trigger ≠ 2) ∧
  (∃ (n : Nat) (s15 : Nat) (s13 : Nat) (d : Nat), d < 16 ∧ n < 2 ^ 32 ∧ s15 < 2 ^ 32 ∧ s13 < 2 ^ 32) :=
  ⟨⟨0, 0, (inMode .ready), by (try dsimp only); decide +kernel⟩,
   ⟨0, 0, runs 1 arr1, by (try dsimp only); decide +kernel⟩,
   ⟨0, 0, progs { state := pgRunning, lane := 1, primed := true, parts := [{ part1 with busy := false }] }, by (try dsimp only); decide +kernel⟩,
   ⟨0, 0, progs { state := pgRunning, lane := 1, primed := true, parts := [part1] }, by (try dsimp only); decide +kernel⟩,
   ⟨0, 0, ref1, part1, runs 1 arr1, by (try dsimp only); decide +kernel⟩,
   ⟨0, 0, ref1, part1, progs { state := pgRunning, lane := 1, stopPending := 3, parts := [part1] }, by (try dsimp only); decide +kernel⟩,
   ⟨0, 0, ref1, part1, runs 2 arr1, by (try dsimp only); decide +kernel⟩,
   ⟨0, 0, (inMode .ready), by (try dsimp only); decide +kernel⟩,
   ⟨10000, 0, progs { state := pgRunning, trigger := 2, period := 10 }, by (try dsimp only); decide +kernel⟩,
   ⟨0, 0, (inMode .ready), by (try dsimp only); decide +kernel⟩,
   ⟨2 ^ 32 - 1, 0, 0, 15, by decide +kernel⟩⟩

theorem witness_RailsStartTripAndAreCalibrated :
  (∃ (t : Nat) (r : Fin 16) (s : State),
    let u := s.at t
    let i := r.val
    let st := u.nat (Obj.railState i)
    st = 1) ∧
  (∃ (t : Nat) (r : Fin 16) (s : State),
    let u := s.at t
    let i := r.val
    let st := u.nat (Obj.railState i)
    let n := u.nat (Obj.activePhaseCount i)
    st = 2 ∧ railLeast i < n) ∧
  (∃ (t : Nat) (r : Fin 16) (s : State),
    let u := s.at t
    let i := r.val
    let st := u.nat (Obj.railState i)
    let n := u.nat (Obj.activePhaseCount i)
    st = 2 ∧ n < railPhases i) ∧
  (∃ (t : Nat) (r : Fin 16) (s : State),
    let u := s.at t
    let i := r.val
    let st := u.nat (Obj.railState i)
    st ≠ 2) ∧
  (∃ (t : Nat) (r : Fin 16) (s : State),
    let u := s.at t
    let i := r.val
    let st := u.nat (Obj.railState i)
    let n := u.nat (Obj.activePhaseCount i)
    st = 2 ∧ n ≤ railLeast i) ∧
  (∃ (t : Nat) (r : Fin 16) (s : State),
    let u := s.at t
    let i := r.val
    let st := u.nat (Obj.railState i)
    let n := u.nat (Obj.activePhaseCount i)
    st = 2 ∧ railPhases i ≤ n) ∧
  (∃ (t : Nat) (r : Fin 16) (s : State),
    let u := s.at t
    let i := r.val
    let st := u.nat (Obj.railState i)
    let q := u.rail i
    let late := u.now :: q.hiccups.filter (fun t => decide (u.now ≤ t + sec))
    (st = 1 ∨ st = 2) ∧ late.length < 3) ∧
  (∃ (t : Nat) (r : Fin 16) (s : State),
    let u := s.at t
    let i := r.val
    let st := u.nat (Obj.railState i)
    let q := u.rail i
    let late := u.now :: q.hiccups.filter (fun t => decide (u.now ≤ t + sec))
    (st = 1 ∨ st = 2) ∧ 3 ≤ late.length) ∧
  (∃ (t : Nat) (r : Fin 16) (s : State),
    let u := s.at t
    let i := r.val
    let st := u.nat (Obj.railState i)
    st ≠ 1 ∧ st ≠ 2) ∧
  (∃ (t : Nat) (r : Fin 16) (s : State) (at_ : _),
    let u := s.at t
    let i := r.val
    let st := u.nat (Obj.railState i)
    let q := u.rail i
    q.retryAt = some at_ ∧ st = 3 ∧ at_ ≤ u.now) ∧
  (∃ (t : Nat) (r : Fin 16) (s : State) (at_ : _),
    let u := s.at t
    let i := r.val
    let st := u.nat (Obj.railState i)
    let q := u.rail i
    q.retryAt = some at_ ∧ st = 3 ∧ u.now < at_) ∧
  (∃ (t : Nat) (r : Fin 16) (s : State),
    let u := s.at t
    let i := r.val
    let st := u.nat (Obj.railState i)
    st ≠ 4 ∧ st ≠ 0) ∧
  (∃ (t : Nat) (r : Fin 16) (s : State),
    let u := s.at t
    let i := r.val
    let st := u.nat (Obj.railState i)
    (st = 4 ∨ st = 0)) ∧
  (∃ (t : Nat) (r : Fin 16) (s : State),
    let u := s.at t
    let i := r.val
    let st := u.nat (Obj.railState i)
    let d := railDie i
    let p := (u.diePt d).target
    st = 2 ∧ d < 8 ∧ p ≠ u.nat (Obj.operatingPoint d)) ∧
  (∃ (k : Rat) (m : Nat) (e : Nat), e ≠ 0 ∧ 1 / 2 ≤ k + ((m : Rat) / e - k) / 8 ∧ k + ((m : Rat) / e - k) / 8 ≤ 2) :=
  ⟨⟨0, 15, { (((inMode .ready)).setNat (Obj.railState 15) 1) with pow := { rails := [(15, {  })] } }, by (try dsimp only); decide +kernel⟩,
   ⟨0, 15, { (((((inMode .ready)).setNat (Obj.railState 15) 2)).setNat (Obj.activePhaseCount 15) 2) with pow := { rails := [(15, {  })] } }, by (try dsimp only); decide +kernel⟩,
   ⟨0, 15, { (((((inMode .ready)).setNat (Obj.railState 15) 2)).setNat (Obj.activePhaseCount 15) 1) with pow := { rails := [(15, {  })] } }, by (try dsimp only); decide +kernel⟩,
   ⟨0, 0, (inMode .ready), by (try dsimp only); decide +kernel⟩,
   ⟨0, 15, { (((((inMode .ready)).setNat (Obj.railState 15) 2)).setNat (Obj.activePhaseCount 15) 1) with pow := { rails := [(15, {  })] } }, by (try dsimp only); decide +kernel⟩,
   ⟨0, 15, { (((((inMode .ready)).setNat (Obj.railState 15) 2)).setNat (Obj.activePhaseCount 15) 2) with pow := { rails := [(15, {  })] } }, by (try dsimp only); decide +kernel⟩,
   ⟨0, 15, { (((inMode .ready)).setNat (Obj.railState 15) 2) with pow := { rails := [(15, {  })] } }, by (try dsimp only); decide +kernel⟩,
   ⟨1000000000, 15, { (((inMode .ready)).setNat (Obj.railState 15) 1) with pow := { rails := [(15, { hiccups := [0, 0] })] } }, by (try dsimp only); decide +kernel⟩,
   ⟨0, 0, (inMode .ready), by (try dsimp only); decide +kernel⟩,
   ⟨5, 15, { (((inMode .ready)).setNat (Obj.railState 15) 3) with pow := { rails := [(15, { retryAt := some 5 })] } }, 5, by (try dsimp only); decide +kernel⟩,
   ⟨4, 15, { (((inMode .ready)).setNat (Obj.railState 15) 3) with pow := { rails := [(15, { retryAt := some 5 })] } }, 5, by (try dsimp only); decide +kernel⟩,
   ⟨0, 15, { (((inMode .ready)).setNat (Obj.railState 15) 5) with pow := { rails := [(15, {  })] } }, by (try dsimp only); decide +kernel⟩,
   ⟨0, 15, (((inMode .ready)).setNat (Obj.railState 15) 4), by (try dsimp only); decide +kernel⟩,
   ⟨0, 0, (((((inMode .ready)).setNat (Obj.railState 0) 2)).setNat (Obj.operatingPoint 0) 7), by (try dsimp only); decide +kernel⟩,
   ⟨1, 1, 1, by decide +kernel⟩⟩

theorem witness_AlertsLimitsTemperaturesAndEnergy :
  (∃ (t : Nat) (s : State),
    let u := s.at t
    u.pins.ibcAlertLow = false) ∧
  (∃ (t : Nat) (s : State),
    let u := s.at t
    u.pins.ibcAlertLow = true) ∧
  (∃ (t : Nat) (s : State),
    let u := s.at t
    let p := u.pow
    p.alertOn = true ∧ u.pins.ibcAlertLow = false ∧ p.holdUntil ≤ u.now) ∧
  (∃ (t : Nat) (s : State),
    let u := s.at t
    let p := u.pow
    p.alertOn = false) ∧
  (∃ (t : Nat) (d : Fin 8) (s : State),
    let u := s.at t
    let q := u.diePt d.val
    q.recoveryUntil ≠ 0 ∧ q.recoveryUntil ≤ u.now) ∧
  (∃ (t : Nat) (d : Fin 8) (s : State),
    let u := s.at t
    let q := u.diePt d.val
    q.recoveryUntil = 0) ∧
  (∃ (t : Nat) (s : State),
    let u := s.at t
    let p := u.pow
    let avg := sumN p.estHist / p.estHist.length
    p.estHist ≠ [] ∧ u.nat Obj.packagePowerLimit2D00 < avg) ∧
  (∃ (t : Nat) (s : State),
    let u := s.at t
    let p := u.pow
    p.estHist = []) ∧
  (∃ (t : Nat) (s : State),
    let u := s.at t
    let awake := u.mode ≠ .off ∧ u.mode ≠ .ship ∧ u.boot.inReset = false
    (¬awake)) ∧
  (∃ (t : Nat) (c : Fin 64) (r : Reading) (s : State),
    let u := s.at t
    let awake := u.mode ≠ .off ∧ u.mode ≠ .ship ∧ u.boot.inReset = false
    awake ∧ c.val ≠ u.lastChan ∧ (u.chanUnused c.val = true ∨ u.chanLost c.val = true ∨ u.readingFits c.val r = false)) ∧
  (∃ (t : Nat) (c : Fin 64) (r : Reading) (s : State),
    let u := s.at t
    let awake := u.mode ≠ .off ∧ u.mode ≠ .ship ∧ u.boot.inReset = false
    awake ∧ c.val ≠ (u.readChan c.val r).lastChan ∧ u.chanUnused c.val = false ∧ u.chanLost c.val = false ∧ u.readingFits c.val r = true) ∧
  (∃ (t : Nat) (d : Fin 8) (s : State),
    let u := s.at t
    let q := u.diePt d.val
    q.thermalOn = true ∧ u.throttled d.val = false ∧ max q.lastThrottle q.lastRelax + u.nat Obj.throttleRelax * 1000 ≤ u.now) ∧
  (∃ (t : Nat) (d : Fin 8) (s : State),
    let u := s.at t
    let q := u.diePt d.val
    q.thermalOn = false) :=
  ⟨⟨0, (inMode .ready), by (try dsimp only); decide +kernel⟩,
   ⟨0, onPins ((inMode .ready)) (fun p => { p with ibcAlertLow := true }), by (try dsimp only); decide +kernel⟩,
   ⟨0, onPow ((inMode .ready)) (fun p => { p with alertOn := true }), by (try dsimp only); decide +kernel⟩,
   ⟨0, (inMode .ready), by (try dsimp only); decide +kernel⟩,
   ⟨1, 7, { (inMode .ready) with pow := { dies := [(7, { recoveryUntil := 1 })] } }, by (try dsimp only); decide +kernel⟩,
   ⟨0, 0, (inMode .ready), by (try dsimp only); decide +kernel⟩,
   ⟨0, onPow ((inMode .ready)) (fun p => { p with estHist := [4000000000] }), by (try dsimp only); decide +kernel⟩,
   ⟨0, (inMode .ready), by (try dsimp only); decide +kernel⟩,
   ⟨0, (inMode .off), by (try dsimp only); decide +kernel⟩,
   ⟨0, 60, .onDieFault, (((inMode .ready)).setNat (Obj.sensorType 60) 0), by (try dsimp only); decide +kernel⟩,
   ⟨0, 60, .onDieFault, (((inMode .ready)).setNat (Obj.sensorType 60) 3), by (try dsimp only); decide +kernel⟩,
   ⟨((inMode .ready)).nat Obj.throttleRelax * 1000, 7, { (inMode .ready) with pow := { dies := [(7, { thermalOn := true, thermalFloor := 1 })] } }, by (try dsimp only); decide +kernel⟩,
   ⟨0, 0, (inMode .ready), by (try dsimp only); decide +kernel⟩⟩

theorem witness_RingCommandsTakeOneCounterEach :
  (∃ (r : RingSt), r.counter < 255) ∧
  (∃ (r : RingSt), 255 ≤ r.counter) ∧
  (∃ (t : Nat) (k : Fin 2) (c : RCmd) (q : List RCmd) (s : State),
    let u := s.at t
    let r := u.ring k.val
    let go := fun (c : RCmd) => (u.ringWorked k.val = true ∨ c.op = rgEnumerate) ∧ r.busyUntil ≤ u.now ∧ u.ringFits k.val c = true ∧ u.ringReady k.val c = true
    u.ringsRun = true ∧ r.out = none ∧ r.queue = c :: q ∧ go c ∧ c.op ≠ rgEnumerate) ∧
  (∃ (t : Nat) (k : Fin 2) (c : RCmd) (q : List RCmd) (s : State),
    let u := s.at t
    let r := u.ring k.val
    let go := fun (c : RCmd) => (u.ringWorked k.val = true ∨ c.op = rgEnumerate) ∧ r.busyUntil ≤ u.now ∧ u.ringFits k.val c = true ∧ u.ringReady k.val c = true
    u.ringsRun = true ∧ r.out = none ∧ r.queue = c :: q ∧ go c ∧ c.op = rgEnumerate) ∧
  (∃ (t : Nat) (k : Fin 2) (s : State),
    let u := s.at t
    let r := u.ring k.val
    (u.ringsRun = false ∨ r.out ≠ none ∨ r.queue = [] ∨ u.now < r.busyUntil)) ∧
  (∃ (t : Nat) (k : Fin 2) (c : RCmd) (s : State),
    let u := s.at t
    let r := u.ring k.val
    r.out = some c ∧ c.sentAt + u.ringPatience k.val c ≤ u.now ∧ c.tries < 3 ∧ u.ringFits k.val c = true) :=
  ⟨⟨{ counter := 254 }, by decide +kernel⟩,
   ⟨{ counter := 255 }, by decide +kernel⟩,
   ⟨0, 0, { op := 0x21, addr := 1, payload := [], counter := 5 }, {}, ringed 2 { queue := [{ op := 0x21, addr := 1, payload := [], counter := 5 }] }, by (try dsimp only); decide +kernel⟩,
   ⟨0, 0, { op := 1, addr := 0, payload := [1, 0, 0, 0] }, {}, ringed 1 { queue := [{ op := 1, addr := 0, payload := [1, 0, 0, 0] }] }, by (try dsimp only); decide +kernel⟩,
   ⟨0, 0, (inMode .ready), by (try dsimp only); decide +kernel⟩,
   ⟨436000, 0, { op := 0x21, addr := 1, payload := [], tries := 2 }, ringed 2 { out := some { op := 0x21, addr := 1, payload := [], tries := 2 } }, by (try dsimp only); decide +kernel⟩⟩

theorem witness_MeasurementsAndResponsesOnTheRings :
  (∃ (t : Nat) (delay : Nat) (length : Nat) (s : State),
    let u := s.at t
    let due := u.operated.filter u.measureDue
    u.ringsRun = true ∧ due ≠ [] ∧ 2000 ≤ delay ∧ delay ≤ 20000 ∧ 200 ≤ length ∧ length ≤ 65535) ∧
  (∃ (t : Nat) (delay : Nat) (length : Nat) (s : State),
    let u := s.at t
    let due := u.operated.filter u.measureDue
    (u.ringsRun = false ∨ due = [] ∨ delay < 2000 ∨ 65535 < length)) ∧
  (∃ (t : Nat) (k : Fin 2) (b : List Nat) (s : State),
    let u := s.at t
    let r := u.ring k.val
    ringFrameOk b = false ∧ r.out = none) ∧
  (∃ (t : Nat) (k : Fin 2) (b : List Nat) (c : RCmd) (s : State),
    let u := s.at t
    let r := u.ring k.val
    ringFrameOk b = false ∧ r.out = some c) ∧
  (∃ (t : Nat) (k : Fin 2) (b : List Nat) (c : RCmd) (s : State),
    let u := s.at t
    let r := u.ring k.val
    let h := fun (i : Nat) => listGet 0 b i
    let hit := c.isBroadcast = false ∧ h 1 = c.addr ∧ h 2 = c.counter ∧ h 3 = c.op
    ringFrameOk b = true ∧ ringReserved b = false ∧ h 0 / 64 = 2 ∧ r.out = some c ∧ (¬hit)) ∧
  (∃ (t : Nat) (k : Fin 2) (b : List Nat) (c : RCmd) (s : State),
    let u := s.at t
    let r := u.ring k.val
    let p := slice b 5 (listGet 0 b 4)
    let h := fun (i : Nat) => listGet 0 b i
    let hit := c.isBroadcast = false ∧ h 1 = c.addr ∧ h 2 = c.counter ∧ h 3 = c.op
    ringFrameOk b = true ∧ ringReserved b = false ∧ h 0 / 64 = 2 ∧ r.out = some c ∧ hit ∧ listGet 0 p 0 = 0) ∧
  (∃ (t : Nat) (k : Fin 2) (b : List Nat) (c : RCmd) (s : State),
    let u := s.at t
    let r := u.ring k.val
    let p := slice b 5 (listGet 0 b 4)
    let h := fun (i : Nat) => listGet 0 b i
    let hit := c.isBroadcast = false ∧ h 1 = c.addr ∧ h 2 = c.counter ∧ h 3 = c.op
    ringFrameOk b = true ∧ ringReserved b = false ∧ h 0 / 64 = 2 ∧ r.out = some c ∧ hit ∧ listGet 0 p 0 ≠ 0 ∧ c.op ≠ rgReadCells) ∧
  (∃ (t : Nat) (k : Fin 2) (c : RCmd) (s : State),
    let u := s.at t
    let r := u.ring k.val
    let late := r.out = some c ∧ c.sentAt + u.ringPatience k.val c ≤ u.now ∧ 3 ≤ c.tries
    late ∧ c.op ≠ rgEnumerate ∧ c.op ≠ rgReadCells ∧ c.isBroadcast = false) ∧
  (∃ (t : Nat) (k : Fin 2) (c : RCmd) (s : State),
    let u := s.at t
    let r := u.ring k.val
    let late := r.out = some c ∧ c.sentAt + u.ringPatience k.val c ≤ u.now ∧ 3 ≤ c.tries
    late ∧ c.op ≠ rgEnumerate ∧ c.isBroadcast = true) ∧
  (∃ (t : Nat) (k : Fin 2) (atB : Bool) (b : List Nat) (c : RCmd) (s : State),
    let u := s.at t
    let r := u.ring k.val
    let p := slice b 5 (listGet 0 b 4)
    let h := fun (i : Nat) => listGet 0 b i
    let acks := beNat (slice p (p.length - 3) 3)
    let mine := c.isBroadcast = true ∧ h 0 = 64 + (if c.fromB then 32 else 0) ∧ h 1 = c.addr ∧ h 2 = c.counter ∧ h 3 = c.op
    ringFrameOk b = true ∧ ringReserved b = false ∧ r.out = some c ∧ mine ∧ c.op ≠ rgEnumerate ∧ atB = (c.fromB || decide (u.ringMode k.val = rmClosed)) ∧ ((u.reachedBy k.val c.fromB).all (fun a => bitOf acks (a - 1)) = true ∨ 3 ≤ c.tries)) ∧
  (∃ (t : Nat) (k : Fin 2) (atB : Bool) (b : List Nat) (c : RCmd) (s : State),
    let u := s.at t
    let r := u.ring k.val
    let p := slice b 5 (listGet 0 b 4)
    let h := fun (i : Nat) => listGet 0 b i
    let acks := beNat (slice p (p.length - 3) 3)
    let mine := c.isBroadcast = true ∧ h 0 = 64 + (if c.fromB then 32 else 0) ∧ h 1 = c.addr ∧ h 2 = c.counter ∧ h 3 = c.op
    ringFrameOk b = true ∧ ringReserved b = false ∧ r.out = some c ∧ mine ∧ c.op ≠ rgEnumerate ∧ atB = (c.fromB || decide (u.ringMode k.val = rmClosed)) ∧ ((u.reachedBy k.val c.fromB).all (fun a => bitOf acks (a - 1)) = false) ∧ c.tries < 3) ∧
  (∃ (t : Nat) (k : Fin 2) (b : List Nat) (c : RCmd) (s : State),
    let u := s.at t
    let r := u.ring k.val
    let h := fun (i : Nat) => listGet 0 b i
    let mine := c.isBroadcast = true ∧ h 0 = 64 + (if c.fromB then 32 else 0) ∧ h 1 = c.addr ∧ h 2 = c.counter ∧ h 3 = c.op
    ringFrameOk b = true ∧ ringReserved b = false ∧ r.out = some c ∧ mine ∧ c.op = rgEnumerate) ∧
  (∃ (t : Nat) (k : Fin 2) (atB : Bool) (s : State),
    let u := s.at t
    let r := u.ring k.val
    let quiet := u.ringsRun = true ∧ u.portOk k.val atB = true ∧ r.asleep = false ∧ r.busyUntil ≤ u.now
    quiet) ∧
  (∃ (t : Nat) (k : Fin 2) (atB : Bool) (s : State),
    let u := s.at t
    let r := u.ring k.val
    let quiet := u.ringsRun = true ∧ u.portOk k.val atB = true ∧ r.asleep = false ∧ r.busyUntil ≤ u.now
    (¬quiet)) :=
  ⟨⟨0, 20000, 65535, ringed 2 {  }, by (try dsimp only); decide +kernel⟩,
   ⟨0, 1999, 0, ringed 2 {  }, by (try dsimp only); decide +kernel⟩,
   ⟨0, 0, [], (inMode .ready), by (try dsimp only); decide +kernel⟩,
   ⟨0, 0, [], { op := 0x21, addr := 1, payload := [], counter := 5 }, ringed 2 { out := some { op := 0x21, addr := 1, payload := [], counter := 5 } }, by (try dsimp only); decide +kernel⟩,
   ⟨0, 0, rframe [128, 1, 6, 0x21, 0], { op := 0x21, addr := 1, payload := [], counter := 5 }, ringed 2 { out := some { op := 0x21, addr := 1, payload := [], counter := 5 } }, by (try dsimp only); decide +kernel⟩,
   ⟨0, 0, rframe [128, 1, 5, 0x21, 1, 0], { op := 0x21, addr := 1, payload := [], counter := 5 }, ringed 2 { out := some { op := 0x21, addr := 1, payload := [], counter := 5 } }, by (try dsimp only); decide +kernel⟩,
   ⟨0, 0, rframe [128, 1, 5, 0x21, 1, 7], { op := 0x21, addr := 1, payload := [], counter := 5 }, ringed 2 { out := some { op := 0x21, addr := 1, payload := [], counter := 5 } }, by (try dsimp only); decide +kernel⟩,
   ⟨436000, 0, {  op := 0x21, addr := 1, payload := [], counter := 5 , tries := 3 }, ringed 2 { out := some {  op := 0x21, addr := 1, payload := [], counter := 5 , tries := 3 } }, by (try dsimp only); decide +kernel⟩,
   ⟨75000, 0, {  op := 0x20, addr := 255, payload := [], counter := 5, tries := 3 }, ringed 2 { out := some {  op := 0x20, addr := 255, payload := [], counter := 5, tries := 3 } }, by (try dsimp only); decide +kernel⟩,
   ⟨0, 0, true, rframe [64, 255, 5, 0x20, 3, 0, 0, 0], { op := 0x20, addr := 255, payload := [], counter := 5, tries := 1 }, ringed 2 { out := some { op := 0x20, addr := 255, payload := [], counter := 5, tries := 1 } }, by (try dsimp only); decide +kernel⟩,
   ⟨0, 0, true, rframe [64, 255, 5, 0x20, 3, 0, 0, 0], { op := 0x20, addr := 255, payload := [], counter := 5, tries := 1 }, (((ringed 2 { out := some { op := 0x20, addr := 255, payload := [], counter := 5, tries := 1 } })).setNat (Obj.sliceState 0) 1), by (try dsimp only); decide +kernel⟩,
   ⟨0, 0, rframe [64, 0, 0, 1, 1, 2], { op := 1, addr := 0, payload := [] }, ringed 2 { out := some { op := 1, addr := 0, payload := [] } }, by (try dsimp only); decide +kernel⟩,
   ⟨0, 0, false, (inMode .ready), by (try dsimp only); decide +kernel⟩,
   ⟨0, 0, false, (inMode .off), by (try dsimp only); decide +kernel⟩⟩

theorem witness_RingsBreakCloseReconnectAndBalance :
  (∃ (t : Nat) (k : Fin 2) (s : State),
    let u := s.at t
    let worked := u.ringWorked k.val = true
    let closed := u.ringMode k.val = rmClosed
    worked ∧ closed) ∧
  (∃ (t : Nat) (k : Fin 2) (s : State),
    let u := s.at t
    let worked := u.ringWorked k.val = true
    let closed := u.ringMode k.val = rmClosed
    worked ∧ (¬closed)) ∧
  (∃ (t : Nat) (k : Fin 2) (s : State),
    let u := s.at t
    let worked := u.ringWorked k.val = true
    (¬worked)) ∧
  (∃ (k : Fin 2) (w : State) (p : Bool), w.portOk k.val p = true ∧ (w.portOk k.val false = true → p = false)) ∧
  (∃ (t : Nat) (k : Fin 2) (s : State),
    let u := s.at t
    let both := u.ringMode k.val = rmSplit ∧ u.portOk k.val false = true ∧ u.portOk k.val true = true
    both) ∧
  (∃ (t : Nat) (k : Fin 2) (s : State),
    let u := s.at t
    let both := u.ringMode k.val = rmSplit ∧ u.portOk k.val false = true ∧ u.portOk k.val true = true
    (¬both)) ∧
  (∃ (t : Nat) (k : Fin 2) (s : State),
    let u := s.at t
    let r := u.ring k.val
    let worked := u.ringWorked k.val = true
    worked ∧ r.enumerating = false) ∧
  (∃ (k : Fin 2) (w : State) (n : Nat), w.operated.contains k.val = true ∧ w.slicesOf k.val < n) ∧
  (∃ (t : Nat) (k : Fin 2) (s : State),
    let u := s.at t
    u.staleCell k.val = none) ∧
  (∃ (t : Nat) (k : Fin 2) (s : State),
    let u := s.at t
    let r := u.ring k.val
    r.measFault = true) ∧
  (∃ (t : Nat) (k : Fin 2) (s : State) (c : Nat),
    let u := s.at t
    let r := u.ring k.val
    u.staleCell k.val = some c ∧ u.operated.contains k.val = true ∧ r.measFault = false ∧ u.ringsRun = true ∧ u.stack.cal.string ≠ k.val + 1) ∧
  (∃ (t : Nat) (k : Fin 2) (s : State),
    let u := s.at t
    let r := u.ring k.val
    let conn := (u.mode = .ready ∨ u.mode = .shaping) ∧ u.operated.contains k.val = true ∧ (u.str k.val).conn = .opened ∧ u.staleCell k.val = none
    let due := r.releasedSince ≠ 0 ∧ r.releasedSince - 1 + sec ≤ u.now ∧ (r.lastAttempt = 0 ∨ r.lastAttempt - 1 + 60 * sec ≤ u.now)
    conn ∧ due) ∧
  (∃ (t : Nat) (k : Fin 2) (s : State),
    let u := s.at t
    let r := u.ring k.val
    let conn := (u.mode = .ready ∨ u.mode = .shaping) ∧ u.operated.contains k.val = true ∧ (u.str k.val).conn = .opened ∧ u.staleCell k.val = none
    let due := r.releasedSince ≠ 0 ∧ r.releasedSince - 1 + sec ≤ u.now ∧ (r.lastAttempt = 0 ∨ r.lastAttempt - 1 + 60 * sec ≤ u.now)
    (¬conn ∨ ¬due)) ∧
  (∃ (t : Nat) (s : State),
    let u := s.at t
    let runs := u.fidelityModes = true ∨ u.mode = .standby ∨ u.mode = .seed
    runs) ∧
  (∃ (t : Nat) (s : State),
    let u := s.at t
    let runs := u.fidelityModes = true ∨ u.mode = .standby ∨ u.mode = .seed
    (¬runs)) ∧
  (∃ (k : Fin 2) (w : State) (a : Nat), (w.nat Obj.balanceTempLimit : Int) * 10 ≤ w.sliceHottest (sliceIdx k.val a)) :=
  ⟨⟨0, 0, ringed 2 {  }, by (try dsimp only); decide +kernel⟩,
   ⟨0, 0, ringed 3 {  }, by (try dsimp only); decide +kernel⟩,
   ⟨0, 0, (inMode .ready), by (try dsimp only); decide +kernel⟩,
   ⟨0, (inMode .ready), false, by decide +kernel⟩,
   ⟨0, 0, ringed 3 {  }, by (try dsimp only); decide +kernel⟩,
   ⟨0, 0, (inMode .ready), by (try dsimp only); decide +kernel⟩,
   ⟨0, 0, ringed 2 {  }, by (try dsimp only); decide +kernel⟩,
   ⟨0, (inMode .ready), 19, by decide +kernel⟩,
   ⟨0, 0, (((inMode .ready)).setNat (Obj.slicesPerString1) 0), by (try dsimp only); decide +kernel⟩,
   ⟨0, 0, ringed 2 { measFault := true }, by (try dsimp only); decide +kernel⟩,
   ⟨0, 0, (inMode .ready), 0, by (try dsimp only); decide +kernel⟩,
   ⟨1000000000, 0, (((ringed 2 { releasedSince := 1 })).setNat (Obj.slicesPerString1) 0), by (try dsimp only); decide +kernel⟩,
   ⟨0, 0, (inMode .ready), by (try dsimp only); decide +kernel⟩,
   ⟨0, (inMode .ready), by (try dsimp only); decide +kernel⟩,
   ⟨0, (inMode .safe), by (try dsimp only); decide +kernel⟩,
   ⟨0, ((inMode .ready)).setBlob (Obj.temperatures 0) [127, 255], 1, by decide +kernel⟩⟩

theorem witness_WordOperationsFollowTheirTable :
  (∃ (t : Nat) (f : Frame) (s : State),
    let u := s.at t
    let w := frameWord f
    let go := fun (op : Nat) => u.syncService = true ∧ f.payload.length = (if op = 0x25 then 8 else 0) ∧ u.wordCheck op w f.tenant = none ∧ u.queueCheck op w f.tenant f.operand = none
    go 0x20) ∧
  (∃ (t : Nat) (f : Frame) (s : State),
    let u := s.at t
    let w := frameWord f
    let go := fun (op : Nat) => u.syncService = true ∧ f.payload.length = (if op = 0x25 then 8 else 0) ∧ u.wordCheck op w f.tenant = none ∧ u.queueCheck op w f.tenant f.operand = none
    go 0x21) ∧
  (∃ (t : Nat) (f : Frame) (s : State),
    let u := s.at t
    let w := frameWord f
    let go := fun (op : Nat) => u.syncService = true ∧ f.payload.length = (if op = 0x25 then 8 else 0) ∧ u.wordCheck op w f.tenant = none ∧ u.queueCheck op w f.tenant f.operand = none
    go 0x22) ∧
  (∃ (t : Nat) (f : Frame) (s : State),
    let u := s.at t
    let w := frameWord f
    let go := fun (op : Nat) => u.syncService = true ∧ f.payload.length = (if op = 0x25 then 8 else 0) ∧ u.wordCheck op w f.tenant = none ∧ u.queueCheck op w f.tenant f.operand = none
    go 0x23) ∧
  (∃ (t : Nat) (f : Frame) (s : State),
    let u := s.at t
    let w := frameWord f
    let go := fun (op : Nat) => u.syncService = true ∧ f.payload.length = (if op = 0x25 then 8 else 0) ∧ u.wordCheck op w f.tenant = none ∧ u.queueCheck op w f.tenant f.operand = none
    go 0x24) ∧
  (∃ (t : Nat) (f : Frame) (s : State),
    let u := s.at t
    let w := frameWord f
    let go := fun (op : Nat) => u.syncService = true ∧ f.payload.length = (if op = 0x25 then 8 else 0) ∧ u.wordCheck op w f.tenant = none ∧ u.queueCheck op w f.tenant f.operand = none
    go 0x25) ∧
  (∃ (t : Nat) (f : Frame) (s : State) (c : Nat),
    let u := s.at t
    let w := frameWord f
    u.syncService = true ∧ f.payload = [] ∧ u.wordCheck 0x24 w f.tenant = some c) ∧
  (∃ (t : Nat) (f : Frame) (s : State) (c : Nat),
    let u := s.at t
    let w := frameWord f
    u.syncService = true ∧ f.payload = [] ∧ u.wordCheck 0x24 w f.tenant = none ∧ u.queueCheck 0x24 w f.tenant f.operand = some c) ∧
  (∃ (t : Nat) (s : State),
    let u := s.at t
    u.syncService = false) :=
  ⟨⟨0, { tenant := 1 }, pooled { alloc := true, tenant := 1,  }, by (try dsimp only); decide +kernel⟩,
   ⟨0, { tenant := 1 }, pooled { alloc := true, tenant := 1,  }, by (try dsimp only); decide +kernel⟩,
   ⟨0, { tenant := 1 }, pooled { alloc := true, tenant := 1,  }, by (try dsimp only); decide +kernel⟩,
   ⟨0, { tenant := 1 }, pooled { alloc := true, tenant := 1,  }, by (try dsimp only); decide +kernel⟩,
   ⟨0, { tenant := 1 }, pooled { alloc := true, tenant := 1,  }, by (try dsimp only); decide +kernel⟩,
   ⟨0, { tenant := 1, payload := List.replicate 8 0 }, pooled { alloc := true, tenant := 1 }, by (try dsimp only); decide +kernel⟩,
   ⟨0, {}, (inMode .ready), syWordNotAllocated, by (try dsimp only); decide +kernel⟩,
   ⟨0, { tenant := 1, operand := 1 }, onPool (pooled { alloc := true, tenant := 1 }) (fun p => { p with queues := [{ head := 0, tail := 1, n := 0 }] }), syQueueFull, by (try dsimp only); decide +kernel⟩,
   ⟨0, (inMode .safe), by (try dsimp only); decide +kernel⟩⟩

theorem witness_WatchesRegisterFireAndCancel :
  (∃ (t : Nat) (f : Frame) (s : State) (c : Nat),
    let u := s.at t
    let v := addrOffset f.addr / 32
    u.watchRefused v f = some c) ∧
  (∃ (t : Nat) (f : Frame) (s : State),
    let u := s.at t
    let v := addrOffset f.addr / 32
    u.watchRefused v f = none) ∧
  (∃ (t : Nat) (f : Frame) (s : State),
    let u := s.at t
    let v := addrOffset f.addr / 32
    let e := u.desc v
    u.syncService = true ∧ f.payload.length = 32 ∧ addrOffset f.addr % 32 = 0 ∧ u.watchRows v f.tenant = none ∧ e.armed = true) ∧
  (∃ (g : WDesc), g.cond = 1) ∧
  (∃ (g : WDesc), g.cond = 2) ∧
  (∃ (g : WDesc), g.cond = 3) ∧
  (∃ (g : WDesc), g.cond = 4) ∧
  (∃ (g : WDesc), g.cond = 5) ∧
  (∃ (g : WDesc), g.cond = 6) ∧
  (∃ (g : WDesc), g.cond = 7) ∧
  (∃ (y : State) (w : Nat) (p : PWord), p.data = (y.word w).data ∧ p.full = (y.word w).full ∧ p.gen = (y.word w).gen) ∧
  (∃ (t : Nat) (f : Frame) (s : State),
    let u := s.at t
    let v := addrOffset f.addr / 32
    u.syncService = true ∧ f.payload = [] ∧ addrOffset f.addr % 32 = 0 ∧ u.watchRows v f.tenant = none) ∧
  (∃ (t : Nat) (f : Frame) (s : State) (c : Nat),
    let u := s.at t
    let v := addrOffset f.addr / 32
    u.syncService = true ∧ f.payload = [] ∧ addrOffset f.addr % 32 = 0 ∧ u.watchRows v f.tenant = some c) ∧
  (∃ (t : Nat) (x : Nat) (s : State),
    let u := s.at t
    let q := u.word x
    q.alloc = true ∧ q.poisoned = false ∧ u.poolLost (x / 131072) = false) ∧
  (∃ (t : Nat) (x : Nat) (s : State),
    let u := s.at t
    (u.desc x).alloc = true ∧ u.watchLost (x / 32768) = false) :=
  ⟨⟨0, {}, (inMode .ready), rsLengthInvalid, by (try dsimp only); decide +kernel⟩,
   ⟨0, { tenant := 1, payload := [0, 0, 0, 0, 1] ++ List.replicate 13 0 ++ [0, 32] ++ List.replicate 12 0 }, onPool (inMode .ready) (fun p => { p with descs := [(0, { alloc := true, tenant := 1 })], words := [(0, { alloc := true, tenant := 1 })] }), by (try dsimp only); decide +kernel⟩,
   ⟨0, { tenant := 1, payload := [0, 0, 0, 0, 1] ++ List.replicate 13 0 ++ [0, 32] ++ List.replicate 12 0 }, onPool (inMode .ready) (fun p => { p with descs := [(0, { alloc := true, tenant := 1, armed := true })], words := [(0, { alloc := true, tenant := 1 })] }), by (try dsimp only); decide +kernel⟩,
   ⟨{ cond := 1 }, by decide +kernel⟩,
   ⟨{ cond := 2 }, by decide +kernel⟩,
   ⟨{ cond := 3 }, by decide +kernel⟩,
   ⟨{ cond := 4 }, by decide +kernel⟩,
   ⟨{ cond := 5 }, by decide +kernel⟩,
   ⟨{ cond := 6 }, by decide +kernel⟩,
   ⟨{ cond := 7 }, by decide +kernel⟩,
   ⟨(inMode .ready), 0, {}, by decide +kernel⟩,
   ⟨0, { tenant := 1, payload := [] }, onPool (inMode .ready) (fun p => { p with descs := [(0, { alloc := true, tenant := 1 })], words := [(0, { alloc := true, tenant := 1 })] }), by (try dsimp only); decide +kernel⟩,
   ⟨0, {}, (inMode .ready), syWordNotAllocated, by (try dsimp only); decide +kernel⟩,
   ⟨0, 131072, onPool (inMode .ready) (fun p => { p with words := [(131072, { alloc := true })] }), by (try dsimp only); decide +kernel⟩,
   ⟨0, 65535, onPool (inMode .ready) (fun p => { p with descs := [(65535, { alloc := true })] }), by (try dsimp only); decide +kernel⟩⟩

theorem witness_ArrivalsCountAndReleasesAreReleased :
  (∃ (t : Nat) (f : Frame) (s : State),
    let u := s.at t
    let w := frameWord f
    let pre := u.syncService = true ∧ f.payload = [] ∧ u.wordCheck opArrive w f.tenant = none
    let slot := u.domSlot (f.operand / 2 ^ 48)
    pre ∧ slot = none) ∧
  (∃ (t : Nat) (f : Frame) (s : State) (i : Nat),
    let u := s.at t
    let w := frameWord f
    let pre := u.syncService = true ∧ f.payload = [] ∧ u.wordCheck opArrive w f.tenant = none
    let slot := u.domSlot (f.operand / 2 ^ 48)
    let d := u.dom i
    slot = some i ∧ pre ∧ d.state = 4) ∧
  (∃ (t : Nat) (f : Frame) (s : State) (i : Nat),
    let u := s.at t
    let w := frameWord f
    let pre := u.syncService = true ∧ f.payload = [] ∧ u.wordCheck opArrive w f.tenant = none
    let slot := u.domSlot (f.operand / 2 ^ 48)
    let d := u.dom i
    slot = some i ∧ pre ∧ d.state = 5) ∧
  (∃ (t : Nat) (f : Frame) (s : State) (i : Nat),
    let u := s.at t
    let w := frameWord f
    let pre := u.syncService = true ∧ f.payload = [] ∧ u.wordCheck opArrive w f.tenant = none
    let slot := u.domSlot (f.operand / 2 ^ 48)
    let d := u.dom i
    slot = some i ∧ pre ∧ (d.state = 1 ∨ d.state = 2)) ∧
  (∃ (t : Nat) (f : Frame) (s : State) (i : Nat),
    let u := s.at t
    let w := frameWord f
    let pre := u.syncService = true ∧ f.payload = [] ∧ u.wordCheck opArrive w f.tenant = none
    let slot := u.domSlot (f.operand / 2 ^ 48)
    let d := u.dom i
    slot = some i ∧ pre ∧ d.state = 3 ∧ u.nodeFor d f w = none) ∧
  (∃ (t : Nat) (f : Frame) (s : State) (i : Nat),
    let u := s.at t
    let w := frameWord f
    let p := u.word w
    let pre := u.syncService = true ∧ f.payload = [] ∧ u.wordCheck opArrive w f.tenant = none
    let slot := u.domSlot (f.operand / 2 ^ 48)
    let ahead := (f.operand / 2 ^ 32 + 65536 - p.gen) % 65536
    let d := u.dom i
    slot = some i ∧ pre ∧ d.state = 3 ∧ u.nodeFor d f w ≠ none ∧ 1 ≤ ahead ∧ ahead ≤ 32767) ∧
  (∃ (t : Nat) (f : Frame) (s : State) (i : Nat),
    let u := s.at t
    let w := frameWord f
    let p := u.word w
    let pre := u.syncService = true ∧ f.payload = [] ∧ u.wordCheck opArrive w f.tenant = none
    let slot := u.domSlot (f.operand / 2 ^ 48)
    let ahead := (f.operand / 2 ^ 32 + 65536 - p.gen) % 65536
    let d := u.dom i
    slot = some i ∧ pre ∧ d.state = 3 ∧ u.nodeFor d f w ≠ none ∧ 32768 ≤ ahead) ∧
  (∃ (t : Nat) (f : Frame) (s : State) (i : Nat) (n : TrayNode),
    let u := s.at t
    let w := frameWord f
    let p := u.word w
    let pre := u.syncService = true ∧ f.payload = [] ∧ u.wordCheck opArrive w f.tenant = none
    let slot := u.domSlot (f.operand / 2 ^ 48)
    let ahead := (f.operand / 2 ^ 32 + 65536 - p.gen) % 65536
    let d := u.dom i
    slot = some i ∧ pre ∧ d.state = 3 ∧ u.nodeFor d f w = some (.tray n) ∧ ahead = 0 ∧ n.arrived.contains f.srcEp = true) ∧
  (∃ (t : Nat) (f : Frame) (s : State) (i : Nat) (n : TrayNode),
    let u := s.at t
    let w := frameWord f
    let p := u.word w
    let pre := u.syncService = true ∧ f.payload = [] ∧ u.wordCheck opArrive w f.tenant = none
    let slot := u.domSlot (f.operand / 2 ^ 48)
    let ahead := (f.operand / 2 ^ 32 + 65536 - p.gen) % 65536
    let d := u.dom i
    slot = some i ∧ pre ∧ d.state = 3 ∧ u.nodeFor d f w = some (.tray n) ∧ ahead = 0 ∧ n.arrived.contains f.srcEp = false) ∧
  (∃ (t : Nat) (f : Frame) (s : State) (i : Nat) (n : HallNode),
    let u := s.at t
    let w := frameWord f
    let p := u.word w
    let pre := u.syncService = true ∧ f.payload = [] ∧ u.wordCheck opArrive w f.tenant = none
    let slot := u.domSlot (f.operand / 2 ^ 48)
    let ahead := (f.operand / 2 ^ 32 + 65536 - p.gen) % 65536
    let d := u.dom i
    slot = some i ∧ pre ∧ d.state = 3 ∧ u.nodeFor d f w = some (.hall n) ∧ ahead = 0 ∧ n.arrived.contains f.srcShelf = false) ∧
  (∃ (y : State) (n : TrayNode) (x : _), (y.word n.word).data + 1 < n.count ∧ x ≠ n.word) ∧
  (∃ (x : Nat) (z : _), z ≠ x) ∧
  (∃ (t : Nat) (f : Frame) (s : State),
    let u := s.at t
    let slot := u.domSlot (f.operand / 2 ^ 48)
    slot = none) ∧
  (∃ (t : Nat) (f : Frame) (s : State) (i : Nat),
    let u := s.at t
    let slot := u.domSlot (f.operand / 2 ^ 48)
    let ep := f.operand / 2 ^ 32 % 65536
    let d := u.dom i
    let top := if d.halls.isEmpty then 0 else (d.halls.map (·.level)).foldl max 0
    let mine := d.state = 3 ∧ d.hallRelease = some ep ∧ u.parentOf d top = some f.srcShelf ∧ f.srcEp = 0x1000
    slot = some i ∧ mine) ∧
  (∃ (t : Nat) (f : Frame) (s : State) (i : Nat),
    let u := s.at t
    let slot := u.domSlot (f.operand / 2 ^ 48)
    let ep := f.operand / 2 ^ 32 % 65536
    let d := u.dom i
    let top := if d.halls.isEmpty then 0 else (d.halls.map (·.level)).foldl max 0
    let mine := d.state = 3 ∧ d.hallRelease = some ep ∧ u.parentOf d top = some f.srcShelf ∧ f.srcEp = 0x1000
    slot = some i ∧ (¬mine)) ∧
  (∃ (t : Nat) (s : State),
    let u := s.at t
    let iv := u.nat Obj.waveInterval * 1000
    let tick := u.pool.pending ≠ [] ∧ u.pool.tickFrom < u.now ∧ (u.now - u.pool.tickFrom) % max 1 iv = 0
    tick) ∧
  (∃ (t : Nat) (s : State),
    let u := s.at t
    let iv := u.nat Obj.waveInterval * 1000
    let tick := u.pool.pending ≠ [] ∧ u.pool.tickFrom < u.now ∧ (u.now - u.pool.tickFrom) % max 1 iv = 0
    (¬tick)) ∧
  (∃ (t : Nat) (link : Fin 36) (s : State),
    let u := s.at t
    let lr := smGet (fun _ => {}) u.pool.learn link.val
    let eps := lr.eps.eraseDups
    let learns := u.nat Obj.weightLearning = 1 ∧ eps ≠ [] ∧ lr.lastAt + 40000 ≤ u.now
    learns) ∧
  (∃ (t : Nat) (link : Fin 36) (s : State),
    let u := s.at t
    let lr := smGet (fun _ => {}) u.pool.learn link.val
    let eps := lr.eps.eraseDups
    let learns := u.nat Obj.weightLearning = 1 ∧ eps ≠ [] ∧ lr.lastAt + 40000 ≤ u.now
    (¬learns)) :=
  ⟨⟨0, { tenant := 1 }, pooled { alloc := true, tenant := 1, managed := 1 }, by (try dsimp only); decide +kernel⟩,
   ⟨0, { tenant := 1, srcEp := 0, srcShelf := 0, operand := 7 * 2 ^ 48 + 0 }, domd { id := 7, state := 4, tenant := 1 }, 0, by (try dsimp only); decide +kernel⟩,
   ⟨0, { tenant := 1, srcEp := 0, srcShelf := 0, operand := 7 * 2 ^ 48 + 0 }, domd { id := 7, state := 5, tenant := 1 }, 0, by (try dsimp only); decide +kernel⟩,
   ⟨0, { tenant := 1, srcEp := 0, srcShelf := 0, operand := 7 * 2 ^ 48 + 0 }, domd { id := 7, state := 2, tenant := 1 }, 0, by (try dsimp only); decide +kernel⟩,
   ⟨0, { tenant := 1, srcEp := 0, srcShelf := 0, operand := 7 * 2 ^ 48 + 0 }, domd { id := 7, state := 3, tenant := 1 }, 0, by (try dsimp only); decide +kernel⟩,
   ⟨0, { tenant := 1, srcEp := 0, srcShelf := 0, operand := 7 * 2 ^ 48 + 32767 * 2 ^ 32 }, domd { id := 7, state := 3, tenant := 1, trays := [{ link := 0, word := 0, first := 0, count := 1 }] }, 0, by (try dsimp only); decide +kernel⟩,
   ⟨0, { tenant := 1, srcEp := 0, srcShelf := 0, operand := 7 * 2 ^ 48 + 32768 * 2 ^ 32 }, domd { id := 7, state := 3, tenant := 1, trays := [{ link := 0, word := 0, first := 0, count := 1 }] }, 0, by (try dsimp only); decide +kernel⟩,
   ⟨0, { tenant := 1, srcEp := 0, srcShelf := 0, operand := 7 * 2 ^ 48 + 0 }, domd { id := 7, state := 3, tenant := 1, trays := [{  link := 0, word := 0, first := 0, count := 1 , arrived := [0] }] }, 0, {  link := 0, word := 0, first := 0, count := 1 , arrived := [0] }, by (try dsimp only); decide +kernel⟩,
   ⟨0, { tenant := 1, srcEp := 0, srcShelf := 0, operand := 7 * 2 ^ 48 + 0 }, domd { id := 7, state := 3, tenant := 1, trays := [{ link := 0, word := 0, first := 0, count := 1 }] }, 0, { link := 0, word := 0, first := 0, count := 1 }, by (try dsimp only); decide +kernel⟩,
   ⟨0, { tenant := 1, srcEp := 0x1000, srcShelf := 1, operand := 7 * 2 ^ 48 + 0 }, domd { id := 7, state := 3, tenant := 1, halls := [{ level := 1, word := 0, children := [1] }] }, 0, { level := 1, word := 0, children := [1] }, by (try dsimp only); decide +kernel⟩,
   ⟨(inMode .ready), { link := 0, word := 0, first := 0, count := 2 }, 1, by decide +kernel⟩,
   ⟨0, 1, by decide +kernel⟩,
   ⟨0, {}, (inMode .ready), by (try dsimp only); decide +kernel⟩,
   ⟨0, { srcEp := 0x1000, operand := 7 * 2 ^ 48 }, below, 0, by (try dsimp only); decide +kernel⟩,
   ⟨0, { tenant := 1, srcEp := 0, srcShelf := 0, operand := 7 * 2 ^ 48 + 0 }, domd { id := 7, state := 3, tenant := 1 }, 0, by (try dsimp only); decide +kernel⟩,
   ⟨((inMode .ready)).nat Obj.waveInterval * 1000, onPool (inMode .ready) (fun p => { p with pending := [{ dom := 0, tenant := 0, deadline := 0, done := 0, episode := 0, remaining := [] }] }), by (try dsimp only); decide +kernel⟩,
   ⟨0, (inMode .ready), by (try dsimp only); decide +kernel⟩,
   ⟨40000, 35, (((onPool (inMode .ready) (fun p => { p with learn := [(35, { eps := [1] })] }))).setNat (Obj.weightLearning) 1), by (try dsimp only); decide +kernel⟩,
   ⟨0, 0, (inMode .ready), by (try dsimp only); decide +kernel⟩⟩

theorem witness_TenantsOpenCloseAndHoldResources :
  (∃ (t : Nat) (role : Role) (k : Fin 64) (s : State),
    let u := s.at t
    let kc := Obj.tenantCommand k.val
    let cmd := fun (v : Nat) => u.accepts role kc (numBytes kc v)
    cmd 1 ∧ (u.tenantOpenCmd k.val).1 = 0) ∧
  (∃ (t : Nat) (role : Role) (k : Fin 64) (s : State),
    let u := s.at t
    let kc := Obj.tenantCommand k.val
    let st := u.nat (Obj.tenantState k.val)
    let tag := u.nat (Obj.tenantTag k.val)
    let cmd := fun (v : Nat) => u.accepts role kc (numBytes kc v)
    cmd 1 ∧ (st ≠ 0 ∨ tag = 0 ∨ tag = 255 ∨ (u.slotOf tag).isSome = true)) ∧
  (∃ (t : Nat) (role : Role) (k : Fin 64) (s : State),
    let u := s.at t
    let kc := Obj.tenantCommand k.val
    let st := u.nat (Obj.tenantState k.val)
    let tag := u.nat (Obj.tenantTag k.val)
    let cmd := fun (v : Nat) => u.accepts role kc (numBytes kc v)
    cmd 2 ∧ st = 1 ∧ u.domsOf tag = []) ∧
  (∃ (t : Nat) (role : Role) (k : Fin 64) (s : State),
    let u := s.at t
    let kc := Obj.tenantCommand k.val
    let st := u.nat (Obj.tenantState k.val)
    let tag := u.nat (Obj.tenantTag k.val)
    let cmd := fun (v : Nat) => u.accepts role kc (numBytes kc v)
    cmd 2 ∧ (st ≠ 1 ∨ u.domsOf tag ≠ [])) ∧
  (∃ (t : Nat) (role : Role) (k : Fin 64) (s : State),
    let u := s.at t
    let kc := Obj.tenantCommand k.val
    let st := u.nat (Obj.tenantState k.val)
    let cmd := fun (v : Nat) => u.accepts role kc (numBytes kc v)
    cmd 3 ∧ st = 1) ∧
  (∃ (t : Nat) (role : Role) (k : Fin 64) (s : State),
    let u := s.at t
    let kc := Obj.tenantCommand k.val
    let st := u.nat (Obj.tenantState k.val)
    let cmd := fun (v : Nat) => u.accepts role kc (numBytes kc v)
    cmd 3 ∧ st ≠ 1) ∧
  (∃ (t : Nat) (s : State),
    let u := s.at t
    u.served .coe = true) ∧
  (∃ (t : Nat) (role : Role) (k : Fin 64) (s : State),
    let u := s.at t
    let kc := Obj.tenantCommand k.val
    let st := u.nat (Obj.tenantState k.val)
    let cmd := fun (v : Nat) => u.accepts role kc (numBytes kc v)
    cmd 4 ∧ role = .service ∧ st = 3) ∧
  (∃ (t : Nat) (role : Role) (k : Fin 64) (s : State),
    let u := s.at t
    let kc := Obj.tenantCommand k.val
    let st := u.nat (Obj.tenantState k.val)
    let cmd := fun (v : Nat) => u.accepts role kc (numBytes kc v)
    cmd 4 ∧ role = .service ∧ st ≠ 3) ∧
  (∃ (t : Nat) (role : Role) (k : Fin 64) (req : List Nat) (s : State),
    let u := s.at t
    let ka := Obj.allocRequest k.val
    let b := fun (op : Nat) => withByte 0 op req
    let okb := fun (op : Nat) => u.accepts role ka (b op) ∧ allocBad (b op) = 0
    okb 1) ∧
  (∃ (t : Nat) (role : Role) (k : Fin 64) (req : List Nat) (s : State),
    let u := s.at t
    let ka := Obj.allocRequest k.val
    let b := fun (op : Nat) => withByte 0 op req
    let okb := fun (op : Nat) => u.accepts role ka (b op) ∧ allocBad (b op) = 0
    okb 2) ∧
  (∃ (t : Nat) (role : Role) (k : Fin 64) (req : List Nat) (s : State),
    let u := s.at t
    let ka := Obj.allocRequest k.val
    let b := fun (op : Nat) => withByte 0 op req
    let okb := fun (op : Nat) => u.accepts role ka (b op) ∧ allocBad (b op) = 0
    okb 3) ∧
  (∃ (t : Nat) (role : Role) (k : Fin 64) (req : List Nat) (s : State),
    let u := s.at t
    let ka := Obj.allocRequest k.val
    let b := fun (op : Nat) => withByte 0 op req
    let okb := fun (op : Nat) => u.accepts role ka (b op) ∧ allocBad (b op) = 0
    okb 4) ∧
  (∃ (t : Nat) (role : Role) (k : Fin 64) (req : List Nat) (s : State),
    let u := s.at t
    let ka := Obj.allocRequest k.val
    let b := fun (op : Nat) => withByte 0 op req
    let okb := fun (op : Nat) => u.accepts role ka (b op) ∧ allocBad (b op) = 0
    okb 5) ∧
  (∃ (t : Nat) (role : Role) (k : Fin 64) (req : List Nat) (s : State),
    let u := s.at t
    let ka := Obj.allocRequest k.val
    let b := fun (op : Nat) => withByte 0 op req
    let okb := fun (op : Nat) => u.accepts role ka (b op) ∧ allocBad (b op) = 0
    okb 6) ∧
  (∃ (k : Fin 64) (v : State) (x : List Nat), v.nat (Obj.wordQuota k.val) < (v.wordsOf (v.nat (Obj.tenantTag k.val))).length + leNat (slice x 4 4)) ∧
  (∃ (k : Fin 64) (v : State) (x : List Nat) (c : Nat), v.freeRefused (v.nat (Obj.tenantTag k.val)) (leNat (slice x 8 4)) (leNat (slice x 4 4)) = some c) ∧
  (∃ (v : State) (x : Nat), (v.word x).quarantined = false ∧ v.wordLost x = false ∧ wordClean (v.word x) = false) ∧
  (∃ (t : Nat) (role : Role) (val : List Nat) (s : State),
    let u := s.at t
    let kw := Obj.wordSet
    let w := leNat (slice val 0 4)
    let p := u.word w
    u.accepts role kw val ∧ val.length = 16 ∧ listGet 0 val 4 ≤ 1 ∧ listGet 0 val 5 = 0 ∧ w < 262144 ∧ p.alloc = true ∧ u.wordLost w = false ∧ p.managed = 0) ∧
  (∃ (t : Nat) (role : Role) (val : List Nat) (s : State),
    let u := s.at t
    let kw := Obj.wordSet
    let w := leNat (slice val 0 4)
    let p := u.word w
    let full := bitOf (listGet 0 val 4) 0
    let gen := leNat (slice val 6 2)
    u.accepts role kw val ∧ val.length = 16 ∧ listGet 0 val 4 ≤ 1 ∧ listGet 0 val 5 = 0 ∧ w < 262144 ∧ (p.alloc = false ∨ u.wordLost w = true ∨ (p.managed ≠ 0 ∧ (full ≠ p.full ∨ gen ≠ p.gen)))) :=
  ⟨⟨0, .operator, 63, (((inMode .ready)).setNat (Obj.tenantTag 63) 5), by (try dsimp only [State.accepts, State.acceptsOver]); decide +kernel⟩,
   ⟨0, .operator, 0, (inMode .ready), by (try dsimp only [State.accepts, State.acceptsOver]); decide +kernel⟩,
   ⟨0, .operator, 63, (((((inMode .ready)).setNat (Obj.tenantTag 63) 5)).setNat (Obj.tenantState 63) 1), by (try dsimp only [State.accepts, State.acceptsOver]); decide +kernel⟩,
   ⟨0, .operator, 0, (inMode .ready), by (try dsimp only [State.accepts, State.acceptsOver]); decide +kernel⟩,
   ⟨0, .operator, 63, (((((inMode .ready)).setNat (Obj.tenantTag 63) 5)).setNat (Obj.tenantState 63) 1), by (try dsimp only [State.accepts, State.acceptsOver]); decide +kernel⟩,
   ⟨0, .operator, 0, (inMode .ready), by (try dsimp only [State.accepts, State.acceptsOver]); decide +kernel⟩,
   ⟨0, (inMode .ready), by (try dsimp only); decide +kernel⟩,
   ⟨0, .service, 63, (((((inMode .ready)).setNat (Obj.tenantTag 63) 5)).setNat (Obj.tenantState 63) 3), by (try dsimp only [State.accepts, State.acceptsOver]); decide +kernel⟩,
   ⟨0, .service, 0, (inMode .ready), by (try dsimp only [State.accepts, State.acceptsOver]); decide +kernel⟩,
   ⟨0, .operator, 63, [0, 0, 0, 0, 1, 0, 0, 0] ++ List.replicate 8 0 ++ [1, 0, 0, 0] ++ List.replicate 12 0, (inMode .ready), by (try dsimp only [State.accepts, State.acceptsOver]); decide +kernel⟩,
   ⟨0, .operator, 63, [0, 0, 0, 0, 1, 0, 0, 0] ++ List.replicate 8 0 ++ [1, 0, 0, 0] ++ List.replicate 12 0, (inMode .ready), by (try dsimp only [State.accepts, State.acceptsOver]); decide +kernel⟩,
   ⟨0, .operator, 63, [0, 0, 0, 0, 1, 0, 0, 0] ++ List.replicate 8 0 ++ [1, 0, 0, 0] ++ List.replicate 12 0, (inMode .ready), by (try dsimp only [State.accepts, State.acceptsOver]); decide +kernel⟩,
   ⟨0, .operator, 63, [0, 0, 0, 0, 1, 0, 0, 0] ++ List.replicate 8 0 ++ [1, 0, 0, 0] ++ List.replicate 12 0, (inMode .ready), by (try dsimp only [State.accepts, State.acceptsOver]); decide +kernel⟩,
   ⟨0, .operator, 63, [0, 0, 0, 0, 1, 0, 0, 0] ++ List.replicate 8 0 ++ [1, 0, 0, 0] ++ List.replicate 12 0, (inMode .ready), by (try dsimp only [State.accepts, State.acceptsOver]); decide +kernel⟩,
   ⟨0, .operator, 63, [0, 0, 0, 0, 1, 0, 0, 0] ++ List.replicate 8 0 ++ [1, 0, 0, 0] ++ List.replicate 12 0, (inMode .ready), by (try dsimp only [State.accepts, State.acceptsOver]); decide +kernel⟩,
   ⟨0, (inMode .ready), List.replicate 8 255, by decide +kernel⟩,
   ⟨0, (inMode .ready), [0, 0, 0, 0, 1, 0, 0, 0], syWordNotAllocated, by decide +kernel⟩,
   ⟨pooled { alloc := true, full := true }, 0, by decide +kernel⟩,
   ⟨0, .service, List.replicate 16 0, pooled { alloc := true }, by (try dsimp only [State.accepts, State.acceptsOver]); decide +kernel⟩,
   ⟨0, .service, List.replicate 16 0, (inMode .ready), by (try dsimp only [State.accepts, State.acceptsOver]); decide +kernel⟩⟩

theorem witness_DomainsAreCreatedAndClosedInStages :
  (∃ (t : Nat) (role : Role) (b : List Nat) (s : State),
    let u := s.at t
    let kc := Obj.domainCreate
    u.accepts role kc b ∧ u.createBusy = true) ∧
  (∃ (t : Nat) (role : Role) (b : List Nat) (s : State) (e : Nat),
    let u := s.at t
    let kc := Obj.domainCreate
    let own := u.own
    u.accepts role kc b ∧ u.createBusy = false ∧ descCheck own b = some e) ∧
  (∃ (t : Nat) (role : Role) (b : List Nat) (s : State),
    let u := s.at t
    let kc := Obj.domainCreate
    let own := u.own
    u.accepts role kc b ∧ u.createBusy = false ∧ descCheck own b = none) ∧
  (∃ (t : Nat) (id : Nat) (role : Role) (s : State) (i : Nat),
    let u := s.at t
    let kx := Obj.domainClose
    let own := u.own
    u.accepts role kx (numBytes kx id) ∧ id < 65536 ∧ u.domSlot id = some i ∧ (u.dom i).home = own ∧ ((u.dom i).state = 3 ∨ (u.dom i).state = 4)) ∧
  (∃ (t : Nat) (id : Nat) (role : Role) (s : State),
    let u := s.at t
    let kx := Obj.domainClose
    u.accepts role kx (numBytes kx id) ∧ id < 65536 ∧ u.domSlot id = none) ∧
  (∃ (shelf : Nat) (b : List Nat), listGet 0 b 0 = 1 ∧ 8 ≤ b.length ∧ anyNonzero (slice b 4 4) = false ∧ listGet 0 b 1 ≠ shelf) ∧
  (∃ (t : Nat) (shelf : Nat) (b : List Nat) (s : State),
    let u := s.at t
    let own := u.own
    let told := fun (n : Nat) => listGet 0 b 0 = n ∧ 8 ≤ b.length ∧ anyNonzero (slice b 4 4) = false ∧ (n < 6 → listGet 0 b 1 = shelf)
    told 1 ∧ descCheck own (b.drop 8) = none) ∧
  (∃ (t : Nat) (shelf : Nat) (b : List Nat) (s : State) (i : Nat),
    let u := s.at t
    let nid := leNat (slice b 2 2)
    let told := fun (n : Nat) => listGet 0 b 0 = n ∧ 8 ≤ b.length ∧ anyNonzero (slice b 4 4) = false ∧ (n < 6 → listGet 0 b 1 = shelf)
    u.domSlot nid = some i ∧ told 2) ∧
  (∃ (t : Nat) (shelf : Nat) (b : List Nat) (s : State) (i : Nat),
    let u := s.at t
    let nid := leNat (slice b 2 2)
    let told := fun (n : Nat) => listGet 0 b 0 = n ∧ 8 ≤ b.length ∧ anyNonzero (slice b 4 4) = false ∧ (n < 6 → listGet 0 b 1 = shelf)
    u.domSlot nid = some i ∧ told 3) ∧
  (∃ (t : Nat) (shelf : Nat) (b : List Nat) (s : State) (i : Nat),
    let u := s.at t
    let nid := leNat (slice b 2 2)
    let told := fun (n : Nat) => listGet 0 b 0 = n ∧ 8 ≤ b.length ∧ anyNonzero (slice b 4 4) = false ∧ (n < 6 → listGet 0 b 1 = shelf)
    u.domSlot nid = some i ∧ told 4) ∧
  (∃ (t : Nat) (shelf : Nat) (b : List Nat) (s : State) (i : Nat),
    let u := s.at t
    let nid := leNat (slice b 2 2)
    let told := fun (n : Nat) => listGet 0 b 0 = n ∧ 8 ≤ b.length ∧ anyNonzero (slice b 4 4) = false ∧ (n < 6 → listGet 0 b 1 = shelf)
    u.domSlot nid = some i ∧ told 5 ∧ ((u.dom i).state = 3 ∨ (u.dom i).state = 4)) ∧
  (∃ (t : Nat) (shelf : Nat) (b : List Nat) (s : State) (i : Nat),
    let u := s.at t
    let nid := leNat (slice b 2 2)
    let told := fun (n : Nat) => listGet 0 b 0 = n ∧ 8 ≤ b.length ∧ anyNonzero (slice b 4 4) = false ∧ (n < 6 → listGet 0 b 1 = shelf)
    u.domSlot nid = some i ∧ told 6) ∧
  (∃ (t : Nat) (shelf : Nat) (b : List Nat) (s : State),
    let u := s.at t
    let nid := leNat (slice b 2 2)
    let told := fun (n : Nat) => listGet 0 b 0 = n ∧ 8 ≤ b.length ∧ anyNonzero (slice b 4 4) = false ∧ (n < 6 → listGet 0 b 1 = shelf)
    u.domSlot nid = none ∧ told 2) ∧
  (∃ (t : Nat) (shelf : Nat) (b : List Nat) (s : State),
    let u := s.at t
    let nid := leNat (slice b 2 2)
    let told := fun (n : Nat) => listGet 0 b 0 = n ∧ 8 ≤ b.length ∧ anyNonzero (slice b 4 4) = false ∧ (n < 6 → listGet 0 b 1 = shelf)
    u.domSlot nid = none ∧ told 3) ∧
  (∃ (t : Nat) (shelf : Nat) (b : List Nat) (s : State),
    let u := s.at t
    let nid := leNat (slice b 2 2)
    let told := fun (n : Nat) => listGet 0 b 0 = n ∧ 8 ≤ b.length ∧ anyNonzero (slice b 4 4) = false ∧ (n < 6 → listGet 0 b 1 = shelf)
    u.domSlot nid = none ∧ told 4) ∧
  (∃ (y : State) (i : Nat), ((y.dom i).state = 3 ∨ (y.dom i).state = 2)) ∧
  (∃ (t : Nat) (s : State) (e : Creation) (m : Nat),
    let u := s.at t
    u.pool.create = some e ∧ e.failed = none ∧ e.since + 10000000 ≤ u.now ∧ (e.members.find? (fun y => !e.answered.contains y) = some m)) ∧
  (∃ (t : Nat) (s : State),
    let u := s.at t
    u.pool.create = none) ∧
  (∃ (t : Nat) (x : Fin 128) (s : State),
    let u := s.at t
    let d := u.dom x.val
    d.state = 1 ∧ d.prepSince + 100000000 ≤ u.now) ∧
  (∃ (t : Nat) (x : Fin 128) (s : State),
    let u := s.at t
    let d := u.dom x.val
    (d.state ≠ 1 ∨ u.now < d.prepSince + 100000000)) ∧
  (∃ (t : Nat) (x : Fin 128) (s : State) (y : Nat),
    let u := s.at t
    let d := u.dom x.val
    d.closedAt = some y ∧ d.state = 5 ∧ y + 1000000000 ≤ u.now ∧ u.slotOf d.tenant = none) ∧
  (∃ (t : Nat) (x : Fin 128) (s : State),
    let u := s.at t
    let d := u.dom x.val
    (d.closedAt = none ∨ d.state ≠ 5)) :=
  ⟨⟨0, .operator, [], onPool (inMode .ready) (fun p => { p with create := some { desc := [], id := 1, tenant := 1 } }), by (try dsimp only [State.accepts, State.acceptsOver]); decide +kernel⟩,
   ⟨0, .operator, [], (inMode .ready), syDescriptorInvalid, by (try dsimp only [State.accepts, State.acceptsOver]); decide +kernel⟩,
   ⟨0, .operator, ([1, 0, 1, 0, 1, 0, 0, 0, 1, 0, 0, 0, 0, 0, 0, 0] ++ [0, 0, 0, 0, 0, 0, 0, 0, 1, 0] ++ List.replicate 70 0), (inMode .ready), by (try dsimp only [State.accepts, State.acceptsOver]); decide +kernel⟩,
   ⟨0, 7, .operator, domd { id := 7, state := 3 }, 0, by (try dsimp only [State.accepts, State.acceptsOver]); decide +kernel⟩,
   ⟨0, 65535, .operator, (inMode .ready), by (try dsimp only [State.accepts, State.acceptsOver]); decide +kernel⟩,
   ⟨1, [1, 0, 0, 0, 0, 0, 0, 0], by decide +kernel⟩,
   ⟨0, 0, [1, 0, 0, 0, 0, 0, 0, 0] ++ ([1, 0, 1, 0, 1, 0, 0, 0, 1, 0, 0, 0, 0, 0, 0, 0] ++ [0, 0, 0, 0, 0, 0, 0, 0, 1, 0] ++ List.replicate 70 0), (inMode .ready), by (try dsimp only); decide +kernel⟩,
   ⟨0, 0, [2, 0, 7, 0, 0, 0, 0, 0], domd { id := 7, state := 3 }, 0, by (try dsimp only); decide +kernel⟩,
   ⟨0, 0, [3, 0, 7, 0, 0, 0, 0, 0], domd { id := 7, state := 3 }, 0, by (try dsimp only); decide +kernel⟩,
   ⟨0, 0, [4, 0, 7, 0, 0, 0, 0, 0], domd { id := 7, state := 3 }, 0, by (try dsimp only); decide +kernel⟩,
   ⟨0, 0, [5, 0, 7, 0, 0, 0, 0, 0], domd { id := 7, state := 3 }, 0, by (try dsimp only); decide +kernel⟩,
   ⟨0, 0, [6, 0, 7, 0, 0, 0, 0, 0], domd { id := 7, state := 3 }, 0, by (try dsimp only); decide +kernel⟩,
   ⟨0, 0, [2, 0, 7, 0, 0, 0, 0, 0], (inMode .ready), by (try dsimp only); decide +kernel⟩,
   ⟨0, 0, [3, 0, 7, 0, 0, 0, 0, 0], (inMode .ready), by (try dsimp only); decide +kernel⟩,
   ⟨0, 0, [4, 0, 7, 0, 0, 0, 0, 0], (inMode .ready), by (try dsimp only); decide +kernel⟩,
   ⟨domd { id := 7, state := 3 }, 0, by decide +kernel⟩,
   ⟨10000000, onPool (inMode .ready) (fun p => { p with create := some { desc := [], id := 1, tenant := 1, members := [0, 1], answered := [0] } }), { desc := [], id := 1, tenant := 1, members := [0, 1], answered := [0] }, 1, by (try dsimp only); decide +kernel⟩,
   ⟨0, (inMode .ready), by (try dsimp only); decide +kernel⟩,
   ⟨100000000, 127, onPool (inMode .ready) (fun p => { p with doms := [(127, { state := 1 })] }), by (try dsimp only); decide +kernel⟩,
   ⟨0, 0, (inMode .ready), by (try dsimp only); decide +kernel⟩,
   ⟨1000000000, 127, onPool (inMode .ready) (fun p => { p with doms := [(127, { state := 5, closedAt := some 0 })] }), 0, by (try dsimp only); decide +kernel⟩,
   ⟨0, 0, (inMode .ready), by (try dsimp only); decide +kernel⟩⟩

theorem witness_LinksComeUpAndSendWithinCredits :
  (∃ (t : Nat) (n : Fin 52) (s : State),
    let u := s.at t
    let k := n.val
    let l := u.lane k
    let st := u.laneState k
    st = 1 ∧ l.cageRefused = false) ∧
  (∃ (t : Nat) (n : Fin 52) (s : State),
    let u := s.at t
    let k := n.val
    let st := u.laneState k
    st ≠ 1) ∧
  (∃ (t : Nat) (n : Fin 52) (s : State),
    let u := s.at t
    let k := n.val
    let l := u.lane k
    let st := u.laneState k
    l.pcs = true ∧ (st = 2 ∨ st = 4) ∧ l.lastInit + 10000 ≤ u.now) ∧
  (∃ (t : Nat) (n : Fin 52) (s : State),
    let u := s.at t
    let k := n.val
    let l := u.lane k
    (l.pcs = false ∨ u.now < l.lastInit + 10000)) ∧
  (∃ (t : Nat) (n : Fin 52) (f : Frame) (s : State),
    let u := s.at t
    let k := n.val
    let l := u.lane k
    let st := u.laneState k
    let b := f.payload
    let shaped := l.pcs = true ∧ b.length = 32 ∧ listGet 0 b 1 / 2 = 0 ∧ listGet 0 b 2 = 0 ∧ anyNonzero (slice b 20 12) = false
    let r := u.initReason k b
    shaped ∧ (st = 2 ∨ st = 4) ∧ r ≠ 0 ∧ u.nat (Obj.linkState k) ≠ r * 256 + 4) ∧
  (∃ (t : Nat) (n : Fin 52) (f : Frame) (s : State),
    let u := s.at t
    let k := n.val
    let l := u.lane k
    let st := u.laneState k
    let b := f.payload
    let shaped := l.pcs = true ∧ b.length = 32 ∧ listGet 0 b 1 / 2 = 0 ∧ listGet 0 b 2 = 0 ∧ anyNonzero (slice b 20 12) = false
    let r := u.initReason k b
    shaped ∧ (st = 2 ∨ st = 4) ∧ r = 0) ∧
  (∃ (t : Nat) (n : Fin 52) (s : State),
    let u := s.at t
    let k := n.val
    let l := u.lane k
    l.pcs = false) ∧
  (∃ (n : Fin 52) (y : State),
    let k := n.val
    y.laneState k = 2 ∧ (y.lane k).gotSeen = true ∧ (y.lane k).sentSeen = true) ∧
  (∃ (n : Fin 52) (y : State),
    let k := n.val
    ((y.lane k).gotSeen = false ∨ (y.lane k).sentSeen = false)) ∧
  (∃ (t : Nat) (n : Fin 52) (s : State),
    let u := s.at t
    let k := n.val
    let st := u.laneState k
    st ≠ 3) ∧
  (∃ (t : Nat) (n : Fin 52) (s : State),
    let u := s.at t
    let k := n.val
    let l := u.lane k
    let st := u.laneState k
    let due := (∃ x, l.unreportedSince = some x ∧ x + 500 ≤ u.now) ∨ l.lastCredit + 10000 ≤ u.now
    st = 3 ∧ due) ∧
  (∃ (t : Nat) (n : Fin 52) (s : State),
    let u := s.at t
    let k := n.val
    let l := u.lane k
    let st := u.laneState k
    let due := (∃ x, l.unreportedSince = some x ∧ x + 500 ≤ u.now) ∨ l.lastCredit + 10000 ≤ u.now
    (st ≠ 3 ∨ ¬due)) ∧
  (∃ (t : Nat) (n : Fin 52) (cor : Nat) (unc : Nat) (s : State),
    let u := s.at t
    let k := n.val
    let c := u.codewords k cor unc
    c.laneState k = 3) ∧
  (∃ (t : Nat) (n : Fin 52) (cor : Nat) (unc : Nat) (s : State),
    let u := s.at t
    let k := n.val
    let c := u.codewords k cor unc
    c.laneState k < 2) ∧
  (∃ (t : Nat) (n : Fin 52) (s : State) (q : QFrame),
    let u := s.at t
    let k := n.val
    let l := u.lane k
    l.pcs = true ∧ u.pick k = some q) ∧
  (∃ (t : Nat) (n : Fin 52) (s : State),
    let u := s.at t
    let k := n.val
    let l := u.lane k
    (l.pcs = false ∨ u.pick k = none)) ∧
  (∃ (n : Fin 52) (y : State) (q : QFrame),
    let k := n.val
    y.pick k = some q ∧ (y.lane k).vc0Run < 16) ∧
  (∃ (q : QFrame), isLinkOp q.frame.op = false) ∧
  (∃ (t : Nat) (i : Nat) (n : Fin 52) (s : State) (q : QFrame),
    let u := s.at t
    let k := n.val
    let l := u.lane k
    let wait := u.now - q.at_
    let ripe := isLinkOp q.frame.op = false ∧ isFlowOp q.frame.op = false ∧ ((q.frame.vc = 2 ∧ q.promo = 0 ∧ 50000 ≤ wait) ∨ (q.frame.vc = 3 ∧ q.promo = 0 ∧ 50000 ≤ wait) ∨ (q.frame.vc = 3 ∧ q.promo = 1 ∧ 100000 ≤ wait))
    l.txq[i]? = some q ∧ ripe) ∧
  (∃ (t : Nat) (i : Nat) (n : Fin 52) (s : State) (q : QFrame),
    let u := s.at t
    let k := n.val
    let l := u.lane k
    let wait := u.now - q.at_
    let ripe := isLinkOp q.frame.op = false ∧ isFlowOp q.frame.op = false ∧ ((q.frame.vc = 2 ∧ q.promo = 0 ∧ 50000 ≤ wait) ∨ (q.frame.vc = 3 ∧ q.promo = 0 ∧ 50000 ≤ wait) ∨ (q.frame.vc = 3 ∧ q.promo = 1 ∧ 100000 ≤ wait))
    l.txq[i]? = some q ∧ (¬ripe)) :=
  ⟨⟨0, 51, (((inMode .ready)).setNat (Obj.linkState 51) 1), by (try dsimp only); decide +kernel⟩,
   ⟨0, 0, (inMode .ready), by (try dsimp only); decide +kernel⟩,
   ⟨10000, 51, (((onFab (inMode .ready) (fun p => { p with lanes := [(51, { pcs := true })] }))).setNat (Obj.linkState 51) 2), by (try dsimp only); decide +kernel⟩,
   ⟨0, 0, (inMode .ready), by (try dsimp only); decide +kernel⟩,
   ⟨0, 51, { payload := List.replicate 32 0 }, (((onFab (inMode .ready) (fun p => { p with lanes := [(51, { pcs := true })] }))).setNat (Obj.linkState 51) 2), by (try dsimp only); decide +kernel⟩,
   ⟨0, 35, { payload := [2, 0, 0, 0, 0, 0, 0, 0, 0, 4, 0, 17, 0, 17, 0, 17, 1] ++ List.replicate 15 0 }, (((onFab (inMode .ready) (fun p => { p with lanes := [(35, { pcs := true })] }))).setNat (Obj.linkState 35) 2), by (try dsimp only); decide +kernel⟩,
   ⟨0, 0, (inMode .ready), by (try dsimp only); decide +kernel⟩,
   ⟨51, (((onFab (inMode .ready) (fun p => { p with lanes := [(51, { gotSeen := true, sentSeen := true })] }))).setNat (Obj.linkState 51) 2), by (try dsimp only); decide +kernel⟩,
   ⟨0, (inMode .ready), by (try dsimp only); decide +kernel⟩,
   ⟨0, 0, (inMode .ready), by (try dsimp only); decide +kernel⟩,
   ⟨10000, 51, (((inMode .ready)).setNat (Obj.linkState 51) 3), ⟨by decide +kernel, Or.inr (by decide +kernel)⟩⟩,
   ⟨0, 0, (inMode .ready), Or.inl (by decide +kernel)⟩,
   ⟨0, 51, 0, 0, (((inMode .ready)).setNat (Obj.linkState 51) 3), by (try dsimp only); decide +kernel⟩,
   ⟨0, 0, 0, 0, (inMode .ready), by (try dsimp only); decide +kernel⟩,
   ⟨0, 51, (((onFab (inMode .ready) (fun p => { p with lanes := [(51, { pcs := true, txq := [{ at_ := 0, frame := { op := opLinkCredit } }] })] }))).setNat (Obj.linkState 51) 3), { at_ := 0, frame := { op := opLinkCredit } }, by (try dsimp only); decide +kernel⟩,
   ⟨0, 0, (inMode .ready), by (try dsimp only); decide +kernel⟩,
   ⟨51, (((onFab (inMode .ready) (fun p => { p with lanes := [(51, { pcs := true, txq := [{ at_ := 0, frame := { op := opLinkCredit } }] })] }))).setNat (Obj.linkState 51) 3), { at_ := 0, frame := { op := opLinkCredit } }, by (try dsimp only); decide +kernel⟩,
   ⟨{ at_ := 0, frame := { op := opRead } }, by decide +kernel⟩,
   ⟨100000, 0, 51, (((onFab (inMode .ready) (fun p => { p with lanes := [(51, { txq := [{ at_ := 0, promo := 1, frame := { op := opRead, vc := 3 } }] })] }))).setNat (Obj.linkState 51) 3), { at_ := 0, promo := 1, frame := { op := opRead, vc := 3 } }, by (try dsimp only); decide +kernel⟩,
   ⟨99999, 0, 51, (((onFab (inMode .ready) (fun p => { p with lanes := [(51, { txq := [{ at_ := 0, promo := 1, frame := { op := opRead, vc := 3 } }] })] }))).setNat (Obj.linkState 51) 3), { at_ := 0, promo := 1, frame := { op := opRead, vc := 3 } }, by (try dsimp only); decide +kernel⟩⟩

theorem witness_HallTimeFollowsItsRoot :
  (∃ (t : Nat) (n : Fin 52) (s : State),
    let u := s.at t
    let k := n.val
    u.laneUp k = true) ∧
  (∃ (t : Nat) (n : Fin 52) (s : State),
    let u := s.at t
    let k := n.val
    u.laneUp k = false) ∧
  (∃ (t : Nat) (s : State),
    let u := s.at t
    let idle := u.isRoot = true ∨ u.now < u.fab.lastSync + 125000
    idle) ∧
  (∃ (t : Nat) (s : State) (m : Nat),
    let u := s.at t
    let idle := u.isRoot = true ∨ u.now < u.fab.lastSync + 125000
    (¬idle) ∧ u.parentLane = some m) ∧
  (∃ (t : Nat) (n : Fin 52) (f : Frame) (s : State) (t1 : Nat),
    let u := s.at t
    let k := n.val
    let hall := u.hall
    let fits := u.isRoot = false ∧ u.parentLane = some k ∧ f.payload.length = 16 ∧ beNat (f.payload.take 8) = t1
    let off : Int := (((beNat (slice f.payload 8 8) : Int) - t1) - ((f.operand : Int) - (hall : Int))) / 2
    let first := u.fab.htLocked = false
    u.fab.syncT1 = some t1 ∧ fits ∧ ((first ∧ (0 ≤ off ∨ u.anyTenantOpen = false)) ∨ 1000000 < off) ∧ off ≠ 0) ∧
  (∃ (t : Nat) (n : Fin 52) (f : Frame) (s : State) (t1 : Nat),
    let u := s.at t
    let k := n.val
    let hall := u.hall
    let fits := u.isRoot = false ∧ u.parentLane = some k ∧ f.payload.length = 16 ∧ beNat (f.payload.take 8) = t1
    let off : Int := (((beNat (slice f.payload 8 8) : Int) - t1) - ((f.operand : Int) - (hall : Int))) / 2
    let first := u.fab.htLocked = false
    u.fab.syncT1 = some t1 ∧ fits ∧ (¬first) ∧ off ≤ 1000000) ∧
  (∃ (t : Nat) (n : Fin 52) (f : Frame) (s : State) (t1 : Nat),
    let u := s.at t
    let k := n.val
    let fits := u.isRoot = false ∧ u.parentLane = some k ∧ f.payload.length = 16 ∧ beNat (f.payload.take 8) = t1
    u.fab.syncT1 = some t1 ∧ (¬fits)) ∧
  (∃ (t : Nat) (s : State),
    let u := s.at t
    u.fab.syncT1 = none) ∧
  (∃ (t : Nat) (v : Nat) (role : Role) (s : State),
    let u := s.at t
    let key := Obj.hallTimeSet
    u.accepts role key (numBytes key v) ∧ v < 2 ^ 63 ∧ u.hallTimeNow = 3 ∧ u.anyTenantOpen = false) ∧
  (∃ (t : Nat) (v : Nat) (role : Role) (x : Bool) (s : State),
    let u := s.at t
    let key := Obj.hallTimeSet
    u.accepts role key (numBytes key v) ∧ (u.hallTimeNow ≠ 3 ∨ u.anyTenantOpen = true ∨ x = true)) :=
  ⟨⟨0, 51, (((inMode .ready)).setNat (Obj.linkState 51) 3), by (try dsimp only); decide +kernel⟩,
   ⟨0, 0, (inMode .ready), by (try dsimp only); decide +kernel⟩,
   ⟨0, (inMode .ready), by (try dsimp only); decide +kernel⟩,
   ⟨125000, halled 1, 36, by (try dsimp only); decide +kernel⟩,
   ⟨0, 36, { payload := List.replicate 16 0, operand := 0 }, onFab (halled 1) (fun p => { p with syncT1 := some 0, htOffset := 1000 }), 0, by (try dsimp only); decide +kernel⟩,
   ⟨0, 36, { payload := List.replicate 16 0 }, onFab (halled 1) (fun p => { p with syncT1 := some 0, htLocked := true }), 0, by (try dsimp only); decide +kernel⟩,
   ⟨0, 0, {}, onFab (inMode .ready) (fun p => { p with syncT1 := some 0 }), 0, by (try dsimp only); decide +kernel⟩,
   ⟨0, (inMode .ready), by (try dsimp only); decide +kernel⟩,
   ⟨0, 2 ^ 63 - 1, .operator, (inMode .ready), by (try dsimp only [State.accepts, State.acceptsOver]); decide +kernel⟩,
   ⟨0, 0, .operator, true, (inMode .ready), by (try dsimp only [State.accepts, State.acceptsOver]); decide +kernel⟩⟩

theorem witness_FlowsDeliverInOrderOrFail :
  (∃ (f : Frame) (g : FlowSt),
    let d := (f.seq + 65536 - g.cum) % 65536
    (d = 0 ∨ 32768 ≤ d)) ∧
  (∃ (f : Frame) (g : FlowSt),
    let d := (f.seq + 65536 - g.cum) % 65536
    256 < d ∧ d < 32768) ∧
  (∃ (f : Frame) (g : FlowSt),
    let d := (f.seq + 65536 - g.cum) % 65536
    1 ≤ d ∧ d ≤ 256 ∧ (∃ h ∈ g.held, h.seq = f.seq)) ∧
  (∃ (f : Frame) (g : FlowSt),
    let d := (f.seq + 65536 - g.cum) % 65536
    1 ≤ d ∧ d ≤ 256 ∧ (∀ h ∈ g.held, h.seq ≠ f.seq)) ∧
  (∃ (m : Nat) (g : FlowSt) (j : Nat) (e : Frame),
    let r := flowDrain m g
    r.1[j]? = some e) ∧
  (∃ (t : Nat) (cor : Nat) (unc : Nat) (n : Fin 52) (b : List Nat) (s : State),
    let u := s.at t
    let k := n.val
    let c := u.codewords k cor unc
    (c.lane k).pcs = true ∧ envelopeOk (c.lane k).ether b = false) ∧
  (∃ (t : Nat) (cor : Nat) (unc : Nat) (n : Fin 52) (s : State),
    let u := s.at t
    let k := n.val
    let c := u.codewords k cor unc
    (c.lane k).pcs = false) ∧
  (∃ (t : Nat) (flow : Nat) (s : State) (d : Nat),
    let u := s.at t
    let x := u.flow flow
    x.ackDue = some d ∧ d ≤ u.now) ∧
  (∃ (t : Nat) (flow : Nat) (s : State) (d : Nat),
    let u := s.at t
    let x := u.flow flow
    x.ackDue = some d ∧ u.now < d) ∧
  (∃ (t : Nat) (flow : Nat) (s : State),
    let u := s.at t
    let x := u.flow flow
    x.ackDue = none) ∧
  (∃ (t : Nat) (flow : Nat) (seq : Nat) (s : State) (e : Unacked),
    let u := s.at t
    let x := u.flow flow
    let limit := 1000 * u.nat (if flowNode flow < 64 then Obj.retryTimeoutTray else Obj.retryTimeoutHall)
    x.resetting = none ∧ (x.unacked.find? (fun e => e.frame.seq = seq) = some e) ∧ u.now < e.sentAt + limit) ∧
  (∃ (t : Nat) (flow : Nat) (seq : Nat) (s : State) (e : Unacked),
    let u := s.at t
    let x := u.flow flow
    let limit := 1000 * u.nat (if flowNode flow < 64 then Obj.retryTimeoutTray else Obj.retryTimeoutHall)
    x.resetting = none ∧ (x.unacked.find? (fun e => e.frame.seq = seq) = some e) ∧ e.sentAt + limit ≤ u.now ∧ e.tries < 8) ∧
  (∃ (t : Nat) (flow : Nat) (seq : Nat) (s : State) (e : Unacked),
    let u := s.at t
    let x := u.flow flow
    let limit := 1000 * u.nat (if flowNode flow < 64 then Obj.retryTimeoutTray else Obj.retryTimeoutHall)
    x.resetting = none ∧ (x.unacked.find? (fun e => e.frame.seq = seq) = some e) ∧ e.sentAt + limit ≤ u.now ∧ 8 ≤ e.tries) ∧
  (∃ (t : Nat) (flow : Nat) (s : State) (d : Nat),
    let u := s.at t
    let x := u.flow flow
    x.downSince = some d ∧ 64 ≤ flowNode flow ∧ d + 1000000 ≤ u.now) ∧
  (∃ (t : Nat) (flow : Nat) (s : State),
    let u := s.at t
    let x := u.flow flow
    x.downSince = none) :=
  ⟨⟨{ seq := 32767 }, {}, by (try dsimp only); decide +kernel⟩,
   ⟨{ seq := 256 }, {}, by (try dsimp only); decide +kernel⟩,
   ⟨{ seq := 5 }, { held := [{ seq := 5 }] }, by (try dsimp only); decide +kernel⟩,
   ⟨{ seq := 255 }, {}, by (try dsimp only); decide +kernel⟩,
   ⟨1, { held := [{}] }, 0, {}, by (try dsimp only); decide +kernel⟩,
   ⟨0, 0, 0, 51, [], (((onFab (inMode .ready) (fun p => { p with lanes := [(51, { pcs := true })] }))).setNat (Obj.linkState 51) 3), by (try dsimp only); decide +kernel⟩,
   ⟨0, 0, 0, 0, (inMode .ready), by (try dsimp only); decide +kernel⟩,
   ⟨7, 5, onFab (inMode .ready) (fun p => { p with flows := [(5, { ackDue := some 7 })] }), 7, by (try dsimp only); decide +kernel⟩,
   ⟨6, 5, onFab (inMode .ready) (fun p => { p with flows := [(5, { ackDue := some 7 })] }), 7, by (try dsimp only); decide +kernel⟩,
   ⟨0, 0, (inMode .ready), by (try dsimp only); decide +kernel⟩,
   ⟨9999, 5, 0, onFab (inMode .ready) (fun p => { p with flows := [(5, { unacked := [{ frame := {}, lane := 0, sentAt := 0, tries := 0 }] })] }), { frame := {}, lane := 0, sentAt := 0, tries := 0 }, by (try dsimp only); decide +kernel⟩,
   ⟨10000, 5, 0, onFab (inMode .ready) (fun p => { p with flows := [(5, { unacked := [{ frame := {}, lane := 0, sentAt := 0, tries := 7 }] })] }), { frame := {}, lane := 0, sentAt := 0, tries := 7 }, by (try dsimp only); decide +kernel⟩,
   ⟨10000, 5, 0, onFab (inMode .ready) (fun p => { p with flows := [(5, { unacked := [{ frame := {}, lane := 0, sentAt := 0, tries := 8 }] })] }), { frame := {}, lane := 0, sentAt := 0, tries := 8 }, by (try dsimp only); decide +kernel⟩,
   ⟨1000000, 1279, onFab (inMode .ready) (fun p => { p with flows := [(1279, { downSince := some 0 })] }), 0, by (try dsimp only); decide +kernel⟩,
   ⟨0, 0, (inMode .ready), by (try dsimp only); decide +kernel⟩⟩

theorem witness_RequestsAreCheckedAndAnswered :
  (∃ (t : Nat) (n : Fin 52) (f : Frame) (s : State),
    let u := s.at t
    let k := n.val
    let rd : Frame := { f with op := opRead }
    f.first = true ∧ u.frameCheck k rd ≠ 0 ∧ f.last = true) ∧
  (∃ (t : Nat) (n : Fin 52) (f : Frame) (s : State),
    let u := s.at t
    let k := n.val
    let rd : Frame := { f with op := opRead }
    let here := addrShelf f.addr = u.own ∨ addrRegion f.addr = 15
    f.first = true ∧ u.frameCheck k rd = 0 ∧ here ∧ addrRegion f.addr ≠ 15) ∧
  (∃ (t : Nat) (n : Fin 52) (f : Frame) (s : State),
    let u := s.at t
    let k := n.val
    let rd : Frame := { f with op := opRead }
    let here := addrShelf f.addr = u.own ∨ addrRegion f.addr = 15
    f.first = true ∧ f.last = true ∧ u.frameCheck k rd = 0 ∧ (¬here) ∧ (u.route (addrShelf f.addr) 0).isSome = true) ∧
  (∃ (t : Nat) (n : Fin 52) (f : Frame) (s : State),
    let u := s.at t
    let k := n.val
    let rd : Frame := { f with op := opRead }
    let here := addrShelf f.addr = u.own ∨ addrRegion f.addr = 15
    f.first = true ∧ f.last = true ∧ u.frameCheck k rd = 0 ∧ (¬here) ∧ (u.route (addrShelf f.addr) 0).isNone = true) ∧
  (∃ (n : Fin 52) (y : State) (g : Frame),
    let k := n.val
    isHall k = false ∧ (g.srcShelf ≠ y.own ∨ y.epOnLink k g.srcEp = false)) ∧
  (∃ (n : Fin 52) (y : State) (g : Frame),
    let k := n.val
    g.op = opRead ∧ y.frameCheck k g = 0) ∧
  (∃ (f : Frame), f.first = false ∧ f.last = true) ∧
  (∃ (f : Frame), f.first = false ∧ f.last = false) ∧
  (∃ (t : Nat) (n : Fin 52) (f : Frame) (s : State),
    let u := s.at t
    let k := n.val
    let wr : Frame := { f with op := opWrite }
    f.first = true ∧ f.last = true ∧ u.frameCheck k wr ≠ 0) ∧
  (∃ (t : Nat) (n : Fin 52) (f : Frame) (s : State),
    let u := s.at t
    let k := n.val
    let wr : Frame := { f with op := opWrite }
    let here := addrShelf f.addr = u.own ∨ addrRegion f.addr = 15
    f.first = true ∧ f.last = true ∧ u.frameCheck k wr = 0 ∧ (¬here) ∧ (u.route (addrShelf f.addr) 0).isSome = true) ∧
  (∃ (t : Nat) (n : Fin 52) (f : Frame) (s : State),
    let u := s.at t
    let k := n.val
    let wr : Frame := { f with op := opWrite }
    let here := addrShelf f.addr = u.own ∨ addrRegion f.addr = 15
    f.first = true ∧ f.last = true ∧ u.frameCheck k wr = 0 ∧ here ∧ addrRegion f.addr = 15) ∧
  (∃ (t : Nat) (n : Fin 52) (f : Frame) (s : State),
    let u := s.at t
    let k := n.val
    let wr : Frame := { f with op := opWrite }
    let here := addrShelf f.addr = u.own ∨ addrRegion f.addr = 15
    f.first = true ∧ f.last = true ∧ u.frameCheck k wr = 0 ∧ here ∧ addrRegion f.addr = 4) ∧
  (∃ (y : State) (g : Frame), g.signal = true ∧ 1 ≤ g.signalOp ∧ y.syncService = true) ∧
  (∃ (t : Nat) (f : Frame) (s : State),
    let u := s.at t
    let mine := field f.addr 51 44 = u.own
    (¬mine)) ∧
  (∃ (t : Nat) (f : Frame) (s : State) (m : Nat),
    let u := s.at t
    let end_ := field f.addr 43 28
    let mine := field f.addr 51 44 = u.own
    mine ∧ u.trayOf end_ = some m) ∧
  (∃ (t : Nat) (f : Frame) (s : State),
    let u := s.at t
    let end_ := field f.addr 43 28
    let mine := field f.addr 51 44 = u.own
    mine ∧ u.trayOf end_ = none ∧ end_ = 0x1000 ∧ f.op = opRelease) ∧
  (∃ (t : Nat) (f : Frame) (s : State),
    let u := s.at t
    let end_ := field f.addr 43 28
    let mine := field f.addr 51 44 = u.own
    mine ∧ u.trayOf end_ = none ∧ end_ = 0x1000 ∧ f.op = opWriteResponse) ∧
  (∃ (t : Nat) (f : Frame) (s : State),
    let u := s.at t
    let end_ := field f.addr 43 28
    let mine := field f.addr 51 44 = u.own
    mine ∧ u.trayOf end_ = none ∧ end_ ≠ 0x1000) ∧
  (∃ (t : Nat) (n : Fin 52) (f : Frame) (s : State) (l : Nat),
    let u := s.at t
    let k := n.val
    let dims := u.nat Obj.hallDimensions
    isHall k = true ∧ baseLink dims (k - 36) = some l ∧ u.frameCheck k f ≠ 0) ∧
  (∃ (t : Nat) (n : Fin 52) (f : Frame) (s : State) (l : Nat),
    let u := s.at t
    let k := n.val
    let dims := u.nat Obj.hallDimensions
    isHall k = true ∧ baseLink dims (k - 36) = some l ∧ u.frameCheck k f = 0) :=
  ⟨⟨0, 0, {}, (inMode .ready), by (try dsimp only); decide +kernel⟩,
   ⟨0, 0, { op := opRead, srcEp := 0x2000, vc := 1, operand := 8 }, (((inMode .ready)).setNat (Obj.operatorTrayLinks) 1), by (try dsimp only); decide +kernel⟩,
   ⟨0, 0, { op := opRead, srcEp := 0x2000, vc := 1, operand := 8, addr := 2 ^ 44 }, (((halled 0)).setNat (Obj.operatorTrayLinks) 1), by (try dsimp only); decide +kernel⟩,
   ⟨0, 0, { op := opRead, srcEp := 0x2000, vc := 1, operand := 8, addr := 255 * 2 ^ 44 }, (((halled 0)).setNat (Obj.operatorTrayLinks) 1), by (try dsimp only); decide +kernel⟩,
   ⟨35, (inMode .ready), {}, by (try dsimp only); decide +kernel⟩,
   ⟨0, (((inMode .ready)).setNat (Obj.operatorTrayLinks) 1), { op := opRead, srcEp := 0x2000, vc := 1, operand := 8 }, by (try dsimp only); decide +kernel⟩,
   ⟨{ first := false }, by decide +kernel⟩,
   ⟨{ first := false, last := false }, by decide +kernel⟩,
   ⟨0, 0, {}, (inMode .ready), by (try dsimp only); decide +kernel⟩,
   ⟨0, 0, { srcEp := 0x2000, vc := 1, addr := 2 ^ 44 + 4 * 2 ^ 40 }, (((halled 0)).setNat (Obj.operatorTrayLinks) 1), by (try dsimp only); decide +kernel⟩,
   ⟨0, 0, { srcEp := 0x2000, vc := 1, addr := 15 * 2 ^ 40 + 4 * 2 ^ 36 }, (((inMode .ready)).setNat (Obj.operatorTrayLinks) 1), by (try dsimp only); decide +kernel⟩,
   ⟨0, 0, { srcEp := 0x2000, vc := 1, addr := 4 * 2 ^ 40 }, (((inMode .ready)).setNat (Obj.operatorTrayLinks) 1), by (try dsimp only); decide +kernel⟩,
   ⟨(inMode .ready), { signal := true, signalOp := 3 }, by decide +kernel⟩,
   ⟨0, { addr := 2 ^ 44 }, (inMode .ready), by (try dsimp only); decide +kernel⟩,
   ⟨0, { addr := 0x2000 * 2 ^ 28 }, (inMode .ready), 0, by (try dsimp only); decide +kernel⟩,
   ⟨0, { op := opRelease, addr := 0x1000 * 2 ^ 28 }, (inMode .ready), by (try dsimp only); decide +kernel⟩,
   ⟨0, { op := opWriteResponse, addr := 0x1000 * 2 ^ 28 }, (inMode .ready), by (try dsimp only); decide +kernel⟩,
   ⟨0, { addr := 0x1001 * 2 ^ 28 }, (inMode .ready), by (try dsimp only); decide +kernel⟩,
   ⟨0, 36, { addr := 2 ^ 52 }, halled 0, 0, by (try dsimp only); decide +kernel⟩,
   ⟨0, 36, { op := opWrite, vc := 1, srcEp := 0x1000, addr := 15 * 2 ^ 40 + 4 * 2 ^ 36 }, halled 0, 0, by (try dsimp only); decide +kernel⟩⟩

theorem witness_AStepRunsTheFrontCommand :
  ∃ (c : Instr) (d : Instr) (q : List Instr) (s : State) (t : State), exec c { s with pending := d :: q } = .next { t with pending := d :: q } :=
  ⟨.sNop 0 0, .sNop 0 1, {}, State.reset, State.reset, rfl⟩

theorem witness_EveryStepKeepsTheInvariant :
  (∃ (s : State) (t : State), step s = .next t ∧ s.canon) ∧
  (∃ (s : State) (t : State), step s = .next t ∧ s.oneAuthority) :=
  ⟨⟨State.reset, State.reset, ⟨rfl, by decide +kernel, by decide +kernel⟩⟩,
   ⟨State.reset, State.reset, ⟨rfl, by unfold State.oneAuthority; decide +kernel⟩⟩⟩

end Sys2Proof.Tests
end

section
/-! SUPPORT. What a command and a step can answer, said once, and the runs of steps that follow from it. -/

namespace Sys2Proof.Machine

/-- Every command of the table answers a next state that keeps what Kept says: one arm of the dispatch, one lemma of Laws/KeptExec1 to
KeptExec3. -/
theorem exec_answers (c : Instr) (s : State) : Answers s (exec c s) :=
  match c with
  | .energise t role => execEnergise_kept t role s
  | .shape t role => execShape_kept t role s
  | .unshape t role => execUnshape_kept t role s
  | .deEnergise t role => execDeEnergise_kept t role s
  | .ship t role => execShip_kept t role s
  | .restartFromSeedOrSafe t role => execRestartFromSeedOrSafe_kept t role s
  | .registerWrite t path role idx sub val => execRegisterWrite_kept t path role idx sub val s
  | .completeAccessWrite t role idx vals => execCompleteAccessWrite_kept t role idx vals s
  | .controlTick t inp => execControlTick_kept t inp s
  | .stringShareUpdate t => execStringShareUpdate_kept t s
  | .setpointFrame t differ => execSetpointFrame_kept t differ s
  | .setpointFrameError t bus => execSetpointFrameError_kept t bus s
  | .rectifierReport t bus fdBase id bytes => execRectifierReport_kept t bus fdBase id bytes s
  | .reportDeadline t r => execReportDeadline_kept t r s
  | .canBusOff t bus => execCanBusOff_kept t bus s
  | .handoverInjection t => execHandoverInjection_kept t s
  | .releaseFeedforward t w => execReleaseFeedforward_kept t w s
  | .instanceCommit t role j => execInstanceCommit_kept t role j s
  | .instanceSwap t j => execInstanceSwap_kept t j s
  | .traceStop t role => execTraceStop_kept t role s
  | .traceArmSingle t role => execTraceArmSingle_kept t role s
  | .traceArmNormal t role => execTraceArmNormal_kept t role s
  | .traceForceTrigger t role => execTraceForceTrigger_kept t role s
  | .traceSample t => execTraceSample_kept t s
  | .traceRearm t c => execTraceRearm_kept t c s
  | .clampHeldAssert t => execClampHeldAssert_kept t s
  | .reserveEnd t => execReserveEnd_kept t s
  | .pwmHalfPeriod t n valley => execPwmHalfPeriod_kept t n valley s
  | .cycleByCycleLimit t n positive => execCycleByCycleLimit_kept t n positive s
  | .persistentCurrentLimit t n => execPersistentCurrentLimit_kept t n s
  | .stringOverCurrent t x => execStringOverCurrent_kept t x s
  | .busOverVoltage t ch => execBusOverVoltage_kept t ch s
  | .busUnderVoltage t => execBusUnderVoltage_kept t s
  | .gateDriverFault t b => execGateDriverFault_kept t b s
  | .streamFault t c => execStreamFault_kept t c s
  | .phaseShed t x => execPhaseShed_kept t x s
  | .muxHoldExpiry t => execMuxHoldExpiry_kept t s
  | .muxChangeover t => execMuxChangeover_kept t s
  | .contactorFeedbackChange t x k closed => execContactorFeedbackChange_kept t x k closed s
  | .closeTimeout t x => execCloseTimeout_kept t x s
  | .prechargeCheck1 t x => execPrechargeCheck1_kept t x s
  | .prechargeCheck2 t x => execPrechargeCheck2_kept t x s
  | .prechargeTimeout t x => execPrechargeTimeout_kept t x s
  | .breakWaitTimeout t x => execBreakWaitTimeout_kept t x s
  | .openTimeout t x => execOpenTimeout_kept t x s
  | .phaseClear t role n => execPhaseClear_kept t role n s
  | .lockoutClear t role x v => execLockoutClear_kept t role x v s
  | .feedPresent t f => execFeedPresent_kept t f s
  | .feedsRemoved t => execFeedsRemoved_kept t s
  | .oneFeedLost t f => execOneFeedLost_kept t f s
  | .supplyLossContactorRelease t => execSupplyLossContactorRelease_kept t s
  | .safePoint t => execSafePoint_kept t s
  | .shelfReset t => execShelfReset_kept t s
  | .shelfResetRelease t => execShelfResetRelease_kept t s
  | .protectorTrip t => execProtectorTrip_kept t s
  | .coolantSeated t => execCoolantSeated_kept t s
  | .coolantInterlockLost t => execCoolantInterlockLost_kept t s
  | .supplyAlert t => execSupplyAlert_kept t s
  | .alertHoldEnd t => execAlertHoldEnd_kept t s
  | .wakeLatchSet t => execWakeLatchSet_kept t s
  | .discreteInputUpdate t gdLow protLow => execDiscreteInputUpdate_kept t gdLow protLow s
  | .cageAssemblyRead t cage optical active milliwatts => execCageAssemblyRead_kept t cage optical active milliwatts s
  | .aliveToggle t h => execAliveToggle_kept t h s
  | .otherHalfAliveTimeout t h => execOtherHalfAliveTimeout_kept t h s
  | .halfLevelReport t h => execHalfLevelReport_kept t h s
  | .crossLinkSilence t => execCrossLinkSilence_kept t s
  | .oscillatorLost t h => execOscillatorLost_kept t h s
  | .authorityTransferRequest t role v => execAuthorityTransferRequest_kept t role v s
  | .eligibilityExchange t => execEligibilityExchange_kept t s
  | .winnerLatchSet t => execWinnerLatchSet_kept t s
  | .fallbackLatchSet t => execFallbackLatchSet_kept t s
  | .holdTimeout t => execHoldTimeout_kept t s
  | .crossLinkDown t c => execCrossLinkDown_kept t c s
  | .channelRestored t c => execChannelRestored_kept t c s
  | .domainOnRequest t d => execDomainOnRequest_kept t d s
  | .domainOffRequest t d fault => execDomainOffRequest_kept t d fault s
  | .powerGoodTimeout t d => execPowerGoodTimeout_kept t d s
  | .pcsLock t lane => execPcsLock_kept t lane s
  | .linkInitTimer t lane => execLinkInitTimer_kept t lane s
  | .linkInit t lane f => execLinkInit_kept t lane f s
  | .linkCredit t lane f => execLinkCredit_kept t lane f s
  | .creditReturnTimer t lane => execCreditReturnTimer_kept t lane s
  | .timeSync t lane f => execTimeSync_kept t lane f s
  | .timeSyncExchange t => execTimeSyncExchange_kept t s
  | .timeSyncReply t lane f => execTimeSyncReply_kept t lane f s
  | .hallTimeSet t role v hallTenantOpen => execHallTimeSet_kept t role v hallTenantOpen s
  | .flowFrameReceive t lane corrected uncorrectable fcsOk bytes => execFlowFrameReceive_kept t lane corrected uncorrectable fcsOk bytes s
  | .ack t lane f => execAck_kept t lane f s
  | .ackTimer t flow => execAckTimer_kept t flow s
  | .flowReset t lane f => execFlowReset_kept t lane f s
  | .retryTimeout t flow seq => execRetryTimeout_kept t flow seq s
  | .routeDownTimeout t flow => execRouteDownTimeout_kept t flow s
  | .laneDown t lane corrected uncorrectable => execLaneDown_kept t lane corrected uncorrectable s
  | .transmitSelect t lane => execTransmitSelect_kept t lane s
  | .framePromotion t lane j => execFramePromotion_kept t lane j s
  | .read t lane f => execRead_kept t lane f s
  | .write t lane fs => execWrite_kept t lane fs s
  | .returnFrame t f => execReturnFrame_kept t f s
  | .broadcastReceive t lane f => execBroadcastReceive_kept t lane f s
  | .writeIfEmptyFill t f => execWriteIfEmptyFill_kept t f s
  | .consume t f => execConsume_kept t f s
  | .readLeaveFull t f => execReadLeaveFull_kept t f s
  | .forcedWrite t f => execForcedWrite_kept t f s
  | .fetchAdd t f => execFetchAdd_kept t f s
  | .compareSwap t f => execCompareSwap_kept t f s
  | .arrive t f => execArrive_kept t f s
  | .release t f => execRelease_kept t f s
  | .watchRegister t f => execWatchRegister_kept t f s
  | .watchCancel t f => execWatchCancel_kept t f s
  | .poolScan t single bad badDesc => execPoolScan_kept t single bad badDesc s
  | .tenantOpen t role k => execTenantOpen_kept t role k s
  | .tenantClose t role k => execTenantClose_kept t role k s
  | .tenantForceClose t role k => execTenantForceClose_kept t role k s
  | .clearQuarantine t role k => execClearQuarantine_kept t role k s
  | .allocateWords t role k req => execAllocateWords_kept t role k req s
  | .freeWords t role k req => execFreeWords_kept t role k req s
  | .declareQueue t role k req => execDeclareQueue_kept t role k req s
  | .undeclareQueue t role k req => execUndeclareQueue_kept t role k req s
  | .allocateDescriptors t role k req => execAllocateDescriptors_kept t role k req s
  | .freeDescriptors t role k req => execFreeDescriptors_kept t role k req s
  | .wordSet t role val => execWordSet_kept t role val s
  | .domainCreate t role desc => execDomainCreate_kept t role desc s
  | .domainPrepare t shelf val => execDomainPrepare_kept t shelf val s
  | .domainCommit t shelf val => execDomainCommit_kept t shelf val s
  | .domainOpen t shelf val => execDomainOpen_kept t shelf val s
  | .domainAbort t shelf val => execDomainAbort_kept t shelf val s
  | .domainCloseNotice t shelf val => execDomainCloseNotice_kept t shelf val s
  | .domainBrokenNotice t shelf val => execDomainBrokenNotice_kept t shelf val s
  | .peerTimeout t => execPeerTimeout_kept t s
  | .prepareExpiry t x => execPrepareExpiry_kept t x s
  | .domainClose t role id => execDomainClose_kept t role id s
  | .trayNodeFree t x => execTrayNodeFree_kept t x s
  | .waveInterval t => execWaveInterval_kept t s
  | .weightUpdate t link meanBefore meanAfter => execWeightUpdate_kept t link meanBefore meanAfter s
  | .arrayWakeStart t g => execArrayWakeStart_kept t g s
  | .arrayWakeDone t g pass => execArrayWakeDone_kept t g pass s
  | .arraySelfTest t g pass => execArraySelfTest_kept t g pass s
  | .arrayFault t g cause => execArrayFault_kept t g cause s
  | .arrayReturnToService t role g => execArrayReturnToService_kept t role g s
  | .arrayOutOfService t role g => execArrayOutOfService_kept t role g s
  | .dieLinkDown t d => execDieLinkDown_kept t d s
  | .dieLinkRetrain t d up => execDieLinkRetrain_kept t d up s
  | .dieLinkRestored t d => execDieLinkRestored_kept t d s
  | .sNop g slot => execSNop_kept g slot s
  | .sAddi g d a imm => execSAddi_kept g d a imm s
  | .sAdd g d a b => execSAdd_kept g d a b s
  | .sSub g d a b => execSSub_kept g d a b s
  | .sAnd g d a b => execSAnd_kept g d a b s
  | .sOr g d a b => execSOr_kept g d a b s
  | .sXor g d a b => execSXor_kept g d a b s
  | .sAndi g d a imm => execSAndi_kept g d a imm s
  | .sShl g d a amount => execSShl_kept g d a amount s
  | .sShr g d a amount => execSShr_kept g d a amount s
  | .sMovhi g d imm => execSMovhi_kept g d imm s
  | .sLoop g a target => execSLoop_kept g a target s
  | .sBr g target => execSBr_kept g target s
  | .sBrz g a target => execSBrz_kept g a target s
  | .sBrnz g a target => execSBrnz_kept g a target s
  | .sBrlt g a b target => execSBrlt_kept g a b target s
  | .sSkip g n => execSSkip_kept g n s
  | .sWaitf g a b => execSWaitf_kept g a b s
  | .sWaitfSatisfied g => execSWaitfSatisfied_kept g s
  | .sYield t g => execSYield_kept t g s
  | .sEnd t g => execSEnd_kept t g s
  | .sRdsys g d sel => execSRdsys_kept g d sel s
  | .sPhase g n => execSPhase_kept g n s
  | .setmode g os fmt f add => execSetmode_kept g os fmt f add s
  | .setref g north r => execSetref_kept g north r s
  | .tileload g a offset e => execTileload_kept g a offset e s
  | .wsvec g a offset e => execWsvec_kept g a offset e s
  | .osrun g a b k => execOsrun_kept g a b k s
  | .drain g a offset => execDrain_kept g a offset s
  | .edgest g a offset => execEdgest_kept g a offset s
  | .edgeclr g => execEdgeclr_kept g s
  | .loadcurve g table => execLoadcurve_kept g table s
  | .vadd g d a b => execVadd_kept g d a b s
  | .vsub g d a b => execVsub_kept g d a b s
  | .vmin g d a b => execVmin_kept g d a b s
  | .vmax g d a b => execVmax_kept g d a b s
  | .vcmp g d a b cond => execVcmp_kept g d a b cond s
  | .vsel g d a b m => execVsel_kept g d a b m s
  | .vlogic g d a b op => execVlogic_kept g d a b op s
  | .vshl g d a sh => execVshl_kept g d a sh s
  | .vshr g d a sh => execVshr_kept g d a sh s
  | .vmul g d a b sh => execVmul_kept g d a b sh s
  | .vmac g d a b sh => execVmac_kept g d a b sh s
  | .vglmul g d a b fmt => execVglmul_kept g d a b fmt s
  | .vglcmp g d a b fmt cond => execVglcmp_kept g d a b fmt cond s
  | .vcvt g d a target source x => execVcvt_kept g d a target source x s
  | .vlut g d a table interp => execVlut_kept g d a table interp s
  | .vred g d a op => execVred_kept g d a op s
  | .vmovs g d x => execVmovs_kept g d x s
  | .vext g x a lane expo => execVext_kept g x a lane expo s
  | .vidx g d => execVidx_kept g d s
  | .vld g v a offset => execVld_kept g v a offset s
  | .vst g v a offset => execVst_kept g v a offset s
  | .vld8 g v a offset sub => execVld8_kept g v a offset sub s
  | .vst8 g v a offset sub => execVst8_kept g v a offset sub s
  | .vldx g v a offset => execVldx_kept g v a offset s
  | .vstx g v a offset => execVstx_kept g v a offset s
  | .expld g a offset sub => execExpld_kept g a offset sub s
  | .tload g table a offset => execTload_kept g table a offset s
  | .xfer g a offset => execXfer_kept g a offset s
  | .xferComplete t g j => execXferComplete_kept t g j s
  | .sld g d a offset => execSld_kept g d a offset s
  | .sst g d a offset => execSst_kept g d a offset s
  | .slotOpen t role k => execSlotOpen_kept t role k s
  | .slotVerify t role k => execSlotVerify_kept t role k s
  | .slotVerificationComplete t k => execSlotVerificationComplete_kept t k s
  | .slotDiscard t role k => execSlotDiscard_kept t role k s
  | .loadRequest t role req => execLoadRequest_kept t role req s
  | .loadComplete t => execLoadComplete_kept t s
  | .programStart t role h => execProgramStart_kept t role h s
  | .programStop t role h => execProgramStop_kept t role h s
  | .programUnload t role h => execProgramUnload_kept t role h s
  | .programRunNow t role h => execProgramRunNow_kept t role h s
  | .fastTick t => execFastTick_kept t s
  | .tickOverrun t g => execTickOverrun_kept t g s
  | .sliceOverrun t g => execSliceOverrun_kept t g s
  | .periodicTrigger t h => execPeriodicTrigger_kept t h s
  | .schedulerTick t => execSchedulerTick_kept t s
  | .ringSlotAdvance t ch => execRingSlotAdvance_kept t ch s
  | .channelDefine t role req => execChannelDefine_kept t role req s
  | .channelDelete t role req => execChannelDelete_kept t role req s
  | .ringDeleteComplete t ch => execRingDeleteComplete_kept t ch s
  | .channelQuery t role req => execChannelQuery_kept t role req s
  | .channelSetGrants t role req => execChannelSetGrants_kept t role req s
  | .windowDefine t role req => execWindowDefine_kept t role req s
  | .windowFree t role req => execWindowFree_kept t role req s
  | .windowQuery t role req => execWindowQuery_kept t role req s
  | .stackFailure t k cause => execStackFailure_kept t k cause s
  | .patrolScrub t k corrected rows bad passEnd => execPatrolScrub_kept t k corrected rows bad passEnd s
  | .forecasterBind t role h => execForecasterBind_kept t role h s
  | .portPublication t port h stamp bytes => execPortPublication_kept t port h stamp bytes s
  | .binEvaluation t => execBinEvaluation_kept t s
  | .measurementCycle t delay length => execMeasurementCycle_kept t delay length s
  | .ringCommandIssue t k => execRingCommandIssue_kept t k s
  | .ringResponse t k bytes => execRingResponse_kept t k bytes s
  | .ringFrameReturn t k atB bytes => execRingFrameReturn_kept t k atB bytes s
  | .responseTimeout t k => execResponseTimeout_kept t k s
  | .ringBreak t k => execRingBreak_kept t k s
  | .ringClose t k => execRingClose_kept t k s
  | .linkPulse t k atB => execLinkPulse_kept t k atB s
  | .sliceReenumerate t k => execSliceReenumerate_kept t k s
  | .stackMeasurementFault t k => execStackMeasurementFault_kept t k s
  | .stringReconnect t k => execStringReconnect_kept t k s
  | .balanceInterval t => execBalanceInterval_kept t s
  | .estimatorUpdate t k cell => execEstimatorUpdate_kept t k cell s
  | .limitUpdate t => execLimitUpdate_kept t s
  | .socReportUpdate t => execSocReportUpdate_kept t s
  | .estimatorCompare t differ => execEstimatorCompare_kept t differ s
  | .persistentStateWrite t => execPersistentStateWrite_kept t s
  | .lifetimeUpdate t k => execLifetimeUpdate_kept t k s
  | .calibrationStart t role v => execCalibrationStart_kept t role v s
  | .calibrationAbort t role => execCalibrationAbort_kept t role s
  | .calibrationPhaseEnd t => execCalibrationPhaseEnd_kept t s
  | .calibrationTimeout t => execCalibrationTimeout_kept t s
  | .ocvTableWrite t role bytes => execOcvTableWrite_kept t role bytes s
  | .lifetimeClear t role k v => execLifetimeClear_kept t role k v s
  | .railHiccup t r => execRailHiccup_kept t r s
  | .railRetry t r => execRailRetry_kept t r s
  | .railOverVoltage t r => execRailOverVoltage_kept t r s
  | .railPowerGood t r => execRailPowerGood_kept t r s
  | .railTargetReached t r => execRailTargetReached_kept t r s
  | .railPhaseShed t r => execRailPhaseShed_kept t r s
  | .railPhaseAdd t r => execRailPhaseAdd_kept t r s
  | .railClear t role r v => execRailClear_kept t role r v s
  | .pointEvaluation t railMilliamps => execPointEvaluation_kept t railMilliamps s
  | .pointEarlyRise t d => execPointEarlyRise_kept t d s
  | .pointHoldExpiry t d => execPointHoldExpiry_kept t d s
  | .powerLimitCheck t => execPowerLimitCheck_kept t s
  | .railCalibration t r millivolts milliamps milliwatts => execRailCalibration_kept t r millivolts milliamps milliwatts s
  | .energyInterval t => execEnergyInterval_kept t s
  | .railRecoveryEnd t d => execRailRecoveryEnd_kept t d s
  | .housekeepingReading t c r => execHousekeepingReading_kept t c r s
  | .throttleRelax t d => execThrottleRelax_kept t d s
  | .blockAcknowledge t role b v => execBlockAcknowledge_kept t role b v s
  | .acknowledgeAll t role v => execAcknowledgeAll_kept t role v s
  | .blockReturnToService t role b v => execBlockReturnToService_kept t role b v s
  | .blockTestComplete t b pass => execBlockTestComplete_kept t b pass s
  | .interruptTestPulse t b echoed => execInterruptTestPulse_kept t b echoed s
  | .recoveryWindowEnd t => execRecoveryWindowEnd_kept t s
  | .bootStageComplete t h ok failed => execBootStageComplete_kept t h ok failed s
  | .bootTimeout t => execBootTimeout_kept t s
  | .bootRestart t => execBootRestart_kept t s
  | .rectifierAnswerTimeout t => execRectifierAnswerTimeout_kept t s
  | .softStartComplete t => execSoftStartComplete_kept t s
  | .softStartTimeout t => execSoftStartTimeout_kept t s
  | .deenergiseTimeout t => execDeenergiseTimeout_kept t s
  | .escStateRequest t req => execEscStateRequest_kept t req s
  | .smWatchdog t => execSmWatchdog_kept t s
  | .sdoInformation t role => execSdoInformation_kept t role s
  | .processDataRefresh t outputs => execProcessDataRefresh_kept t outputs s
  | .storeParameters t role v => execStoreParameters_kept t role v s
  | .storeComplete t => execStoreComplete_kept t s
  | .restoreDefaults t role v => execRestoreDefaults_kept t role v s
  | .foeSlotWrite t password k bytes => execFoeSlotWrite_kept t password k bytes s
  | .fwmain t role password bytes => execFwmain_kept t role password bytes s
  | .fwseed t role password bytes => execFwseed_kept t role password bytes s
  | .configRead t role password => execConfigRead_kept t role password s
  | .configWrite t role password bytes => execConfigWrite_kept t role password bytes s
  | .keyEnrol t role path rec => execKeyEnrol_kept t role path rec s
  | .keyRevoke t role path rec => execKeyRevoke_kept t role path rec s
  | .keyStoreReset t role path port rec => execKeyStoreReset_kept t role path port rec s
  | .rollbackCommit t role v => execRollbackCommit_kept t role v s
  | .authorCertificate t role bytes => execAuthorCertificate_kept t role bytes s
  | .authorKeyRemove t role keyId => execAuthorKeyRemove_kept t role keyId s
  | .protectedRegisterWrite t h reg => execProtectedRegisterWrite_kept t h reg s
  | .admissionRetry t k ticket devKey sig => execAdmissionRetry_kept t k ticket devKey sig s
  | .admissionChallenge t k bytes => execAdmissionChallenge_kept t k bytes s
  | .sessionSetup t role v => execSessionSetup_kept t role v s
  | .sessionResponse t role bytes => execSessionResponse_kept t role bytes s
  | .sessionLock t role v => execSessionLock_kept t role v s
  | .sessionLimit t k => execSessionLimit_kept t k s
  | .unlockLockoutEnd t => execUnlockLockoutEnd_kept t s
  | .idcode t => execIdcode_kept t s
  | .bypass t instr => execBypass_kept t instr s
  | .samplePreload t bits => execSamplePreload_kept t bits s
  | .extest t bits => execExtest_kept t bits s
  | .supplyLossRestart t => execSupplyLossRestart_kept t s
  | .ibcAlertRise t => execIbcAlertRise_kept t s
  | .busOffRecovery t bus => execBusOffRecovery_kept t bus s
  | .domainOutOfRegulation t d => execDomainOutOfRegulation_kept t d s
  | .arrayStoreScrub t g bundle line errors => execArrayStoreScrub_kept t g bundle line errors s
  | .lookupTableCompare t g upset => execLookupTableCompare_kept t g upset s
  | .debugReset t => execDebugReset_kept t s
  | .dieHalt t d => execDieHalt_kept t d s
  | .powerStateEntryComplete t g => execPowerStateEntryComplete_kept t g s
  | .railOutsideWindow t r => execRailOutsideWindow_kept t r s

@[simp] theorem step_of_pending_nil {s : State} (h : s.pending = []) : step s = .next s := by
  simp only [step, h]

@[simp] theorem step_of_pending_cons {s : State} {c : Instr} {q : List Instr} (h : s.pending = c :: q) :
    step s = exec c { s with pending := q } := by
  simp only [step, h]

/-- A step, idling included, answers a next state that keeps what Kept says from the state without its front command on. -/
theorem step_answers (s : State) : Answers { s with pending := s.pending.tail } (step s) := by
  cases h : s.pending with
  | nil =>
    rw [step_of_pending_nil h, List.tail_nil, ← h]
    exact ⟨s, rfl, Kept.refl s⟩
  | cons c q =>
    rw [step_of_pending_cons h]
    exact exec_answers c _

/-- A step takes the front command off the queue and puts none on it. -/
theorem exists_step_pending_tail (s : State) : ∃ t, step s = .next t ∧ t.pending = s.pending.tail := by
  obtain ⟨t, ht, hk⟩ := step_answers s
  exact ⟨t, ht, hk.pending⟩

theorem State.goesOn_always (s : State) : s.goesOn := by
  obtain ⟨t, ht, -⟩ := exists_step_pending_tail s
  exact ⟨t, ht⟩

/-- Any number of steps can be made, and each takes one command off the queue's front. -/
theorem exists_steps_pending_drop (n : Nat) (s : State) : ∃ t, Steps n s t ∧ t.pending = s.pending.drop n := by
  induction n generalizing s with
  | zero => exact ⟨s, .done s, rfl⟩
  | succ n ih =>
    obtain ⟨t, hst, hq⟩ := exists_step_pending_tail s
    obtain ⟨u, htu, hu⟩ := ih t
    exact ⟨u, .more hst htu, by rw [hu, hq, List.drop_tail]⟩

/-- Settles O59: every arm of the dispatch answers a next state, so a step does, and the runs follow by induction on their length. -/
theorem noCommandStopsTheBlock : Obligations.NoCommandStopsTheBlock := by
  refine ⟨State.goesOn_always, fun c s => ?_, exists_steps_pending_drop⟩
  obtain ⟨t, ht, -⟩ := exec_answers c s
  exact ⟨t, ht⟩

end Sys2Proof.Machine
end

section
/-! SUPPORT. The module's requests: a write of ModuleRequest through the dictionary server, and the condition under which each of the
six requests is taken (R24, R25, Table 1.8). -/

namespace Sys2Proof.Machine

/-- ModuleRequest is an unsigned byte, which reads back the number that was written as its bytes. -/
theorem exists_desc_moduleRequest {v : Nat} (hv : v < 256) :
    ∃ r, descOf (Obj.moduleRequest / 256) (Obj.moduleRequest % 256) = some r ∧ r.ty.value (numBytes Obj.moduleRequest v) = v := by
  refine ⟨_, rfl, ?_⟩
  change ((v % 256 + 256 * 0 : Nat) : Int) = v
  omega

/-- A write of ModuleRequest that reaches its object's rule is judged by Table 1.8. -/
theorem State.dictEffect_moduleRequest {s : State} {v : Nat} (h : s.stateRefused 0x3000 2 v = false) (path : Path) (port : Nat) (role : Role)
    (b : List Nat) : s.dictEffect path port role 0x3000 2 v b = s.request role v := by
  unfold State.dictEffect
  exact if_neg (Bool.eq_false_iff.mp h)

/-- The effect of an accepted write of request `v` is what Table 1.8 says of it. -/
theorem State.exists_desc_request {s : State} {role : Role} {v : Nat} (hv : v < 256)
    (h : s.accepts role Obj.moduleRequest (numBytes Obj.moduleRequest v)) :
    ∃ r, descOf (Obj.moduleRequest / 256) (Obj.moduleRequest % 256) = some r ∧
      s.dictEffect (rolePath role) 1 role (Obj.moduleRequest / 256) (Obj.moduleRequest % 256)
        (r.ty.value (numBytes Obj.moduleRequest v)) (numBytes Obj.moduleRequest v) = s.request role v := by
  obtain ⟨r, hd, hval⟩ := exists_desc_moduleRequest hv
  obtain ⟨-, -, hst⟩ := h
  simp only [hd, hval] at hst
  exact ⟨r, hd, by rw [hval]; exact State.dictEffect_moduleRequest hst _ _ _ _⟩

/-- Where the condition `p` under which a request is taken holds, its accepted write is applied. -/
theorem State.cmdWrite_request_taken {s u : State} {role : Role} {v : Nat} {p : Prop} [Decidable p]
    (hr : s.request role v = if p then (0, u) else (abState, s)) (hv : v < 256)
    (h : s.accepts role Obj.moduleRequest (numBytes Obj.moduleRequest v)) (hp : p) :
    (.next (s.cmdWrite role Obj.moduleRequest v) : Res) = .next (u.applied role Obj.moduleRequest) := by
  obtain ⟨r, hd, he⟩ := State.exists_desc_request hv h
  exact congrArg _ (State.reqWrite_applied h hd (he.trans (hr.trans (if_pos hp))))

/-- Where it does not hold, the write is refused by state. -/
theorem State.cmdWrite_request_refused {s u : State} {role : Role} {v : Nat} {p : Prop} [Decidable p]
    (hr : s.request role v = if p then (0, u) else (abState, s)) (hv : v < 256)
    (h : s.accepts role Obj.moduleRequest (numBytes Obj.moduleRequest v)) (hp : ¬p) :
    (.next (s.cmdWrite role Obj.moduleRequest v) : Res) = .next (s.declined Obj.moduleRequest 0x08000022) := by
  obtain ⟨r, hd, he⟩ := State.exists_desc_request hv h
  have hw := State.reqWrite_declined h hd (he.trans (hr.trans (if_neg hp))) (by decide) (by decide)
  exact congrArg _ hw

/-! When each request is taken: R24, R25, R430, R504, R508, Table 1.8 -/

theorem State.request_energise (s : State) (role : Role) :
    s.request role 1 =
      if s.mode = .standby ∧ s.nat Obj.moduleRequest = 0 ∧ s.energiseRefused = false then (0, s.energiseBegin) else (abState, s) := by
  cases hm : s.mode
  case standby => grind [State.request]
  all_goals simp [State.request, hm]

theorem State.request_shape (s : State) (role : Role) :
    s.request role 2 = if s.mode = .ready ∧ s.nat Obj.moduleRequest = 0 then (0, { s with mode := .shaping }) else (abState, s) := by
  cases hm : s.mode <;> simp [State.request, hm]

theorem State.request_unshape (s : State) (role : Role) :
    s.request role 3 =
      if s.mode = .shaping ∧ s.nat Obj.moduleRequest = 0 then (0, ({ s with mode := .ready } : State).flushPending) else (abState, s) := by
  cases hm : s.mode <;> simp [State.request, hm]

theorem State.request_deEnergise (s : State) (role : Role) :
    s.request role 4 =
      if (s.mode = .ready ∨ s.mode = .shaping) ∧ s.nat Obj.moduleRequest = 0 ∧
          (role = .service ∨ s.domsWhere (fun d => d.state = 3) = []) then (0, s.shutBegin) else (abState, s) := by
  cases hm : s.mode
  case ready | shaping => grind [State.request]
  all_goals simp [State.request, hm]

theorem State.request_ship (s : State) (role : Role) :
    s.request role 5 =
      if s.mode = .standby ∧ s.nat Obj.moduleRequest = 0 ∧ s.stack.cal.string = 0 ∧ s.pins.wakeLatch = false ∧
          (role = .service ∨ s.socShort = false) then (0, s.shipBegin) else (abState, s) := by
  cases hm : s.mode
  case standby => grind [State.request]
  all_goals simp [State.request, hm]

theorem State.request_restart (s : State) (role : Role) :
    s.request role 6 =
      if s.mode = .seed ∨ (s.mode = .safe ∧ s.busDown = true ∧ s.boot.thermalLatch = false) then (0, s.reset_ 3) else (abState, s) := by
  cases hm : s.mode <;> simp [State.request, hm]

/-! The six commands -/

/-- Settles O27: each command is a write of its request's number, which takes effect exactly where Table 1.8 takes the request. -/
theorem moduleRequestsChangeTheMode : Obligations.ModuleRequestsChangeTheMode := by
  intro t role s u k ok free no shared
  have energise := u.request_energise role
  have shape := u.request_shape role
  have unshape := u.request_unshape role
  have deEnergise := u.request_deEnergise role
  have ship := u.request_ship role
  have restart := u.request_restart role
  refine ⟨fun h hm hf hr => ?_, fun h hn => ?_, fun h hm hf => ?_, fun h hn => ?_, fun h hm hf => ?_, fun h hn => ?_,
    fun h hm hf hs => ?_, fun h hn => ?_, fun h hm hf hc hw hs => ?_, fun h hn => ?_, fun h hm => ?_, fun h hm hn => ?_⟩
  · exact State.cmdWrite_request_taken energise (by decide) h ⟨hm, hf, hr⟩
  · exact State.cmdWrite_request_refused energise (by decide) h (by grind)
  · exact State.cmdWrite_request_taken shape (by decide) h ⟨hm, hf⟩
  · exact State.cmdWrite_request_refused shape (by decide) h (by grind)
  · exact State.cmdWrite_request_taken unshape (by decide) h ⟨hm, hf⟩
  · exact State.cmdWrite_request_refused unshape (by decide) h (by grind)
  · exact State.cmdWrite_request_taken deEnergise (by decide) h ⟨hm, hf, hs⟩
  · exact State.cmdWrite_request_refused deEnergise (by decide) h (by grind)
  · exact State.cmdWrite_request_taken ship (by decide) h ⟨hm, hf, hc, hw, hs⟩
  · exact State.cmdWrite_request_refused ship (by decide) h (by grind)
  · exact State.cmdWrite_request_taken restart (by decide) h hm
  · exact State.cmdWrite_request_refused restart (by decide) h (by grind)

end Sys2Proof.Machine
end

section
/-! SUPPORT. The state after reset: every object that has no entry reads its default. -/

namespace Sys2Proof.Machine

/-- Reset leaves no entry in the object store, so each object reads the default of its table. -/
theorem State.nat_reset (k : Nat) : State.reset.nat k = (objDefault k).toNat := rfl

theorem State.canon_reset : State.reset.canon := ⟨rfl, rfl⟩

theorem State.oneAuthority_reset : State.reset.oneAuthority := fun h => Bool.false_ne_true h.1

/-- Settles O57: the fields as State.reset gives them, and the objects as their tables' Default columns give them. -/
theorem resetIsTheStartOfBoot : Obligations.ResetIsTheStartOfBoot := by
  refine ⟨rfl, rfl, rfl, rfl, rfl, rfl, State.canon_reset, State.oneAuthority_reset, rfl, rfl, ?_⟩
  simp only [State.nat_reset]
  decide

end Sys2Proof.Machine
end

section
/-! SUPPORT. What a step keeps: every clause is a field of Kept. -/

namespace Sys2Proof.Machine

/-- Settles O58: a step answers one next state, and that state keeps what Kept says from the state without its front command on. -/
theorem everyStepKeepsTheInvariant : Obligations.EveryStepKeepsTheInvariant := by
  intro s t h
  obtain ⟨u, hu, hk⟩ := step_answers s
  obtain rfl : t = u := Host.Outcome.next.inj (h.symm.trans hu)
  exact ⟨hk.pending, hk.now, hk.out, hk.free, hk.canon, hk.authority⟩

end Sys2Proof.Machine
end

section
/-! SUPPORT. Re-election in Hold: the latches, the half elected, and the four timed steps (R491, R492). -/

namespace Sys2Proof.Machine

/-! Latches -/

@[simp] theorem State.followClock_hold (s : State) : s.followClock.hold = s.hold := by
  unfold State.followClock
  dsimp only
  split <;> rfl

@[simp] theorem State.followClock_mode (s : State) : s.followClock.mode = s.mode := by
  unfold State.followClock
  dsimp only
  split <;> rfl

@[simp] theorem State.setLatches_mode (s : State) (a b : Bool) : (s.setLatches a b).mode = s.mode := State.followClock_mode _

@[simp] theorem State.setLatches_latchA (s : State) (a b : Bool) : (s.setLatches a b).hold.latchA = a :=
  congrArg HoldSt.latchA (State.followClock_hold _)

@[simp] theorem State.setLatches_latchB (s : State) (a b : Bool) : (s.setLatches a b).hold.latchB = b :=
  congrArg HoldSt.latchB (State.followClock_hold _)

theorem State.setLatch_zero {s : State} (h : s.hold.latchB = false) : s.setLatch 0 = s.setLatches true false := by
  simp [State.setLatch, h]

theorem State.setLatch_one {s : State} (h : s.hold.latchA = false) : s.setLatch 1 = s.setLatches false true := by
  simp [State.setLatch, h]

/-! The half elected -/

/-- Half A takes part in the election. -/
def State.standsA (s : State) : Prop := s.hold.eligA = true ∧ s.halfGone 0 = false

/-- Half B takes part: alone only with the supervisor channel up or a half lost. -/
def State.standsB (s : State) : Prop :=
  s.hold.eligB = true ∧ s.halfGone 1 = false ∧ (s.supUp = true ∨ s.lost 0 = true ∨ s.lost 1 = true)

theorem State.holdWinner_eq_zero {s : State} (ha : s.standsA) (hb : s.standsB → s.hold.cntA ≤ s.hold.cntB) : s.holdWinner = some 0 := by
  obtain ⟨he, hg⟩ := ha
  unfold State.standsB at hb
  unfold State.holdWinner elect
  grind

theorem State.holdWinner_eq_one {s : State} (hb : s.standsB) (ha : s.standsA → s.hold.cntB < s.hold.cntA) : s.holdWinner = some 1 := by
  obtain ⟨he, hg, hc⟩ := hb
  unfold State.standsA at ha
  unfold State.holdWinner elect
  grind

theorem State.holdWinner_eq_none {s : State} (ha : ¬s.standsA) (hb : ¬s.standsB) : s.holdWinner = none := by
  unfold State.standsA at ha
  unfold State.standsB at hb
  unfold State.holdWinner elect
  grind

/-- The election's phase has no part in its result. -/
theorem State.holdWinner_phase (s : State) (n : Nat) :
    ({ s with hold := { s.hold with phase := n } } : State).holdWinner = s.holdWinner := rfl

/-! The timed steps -/

theorem State.holdExchange_due {s : State} (hm : s.mode = .hold) (hp : s.hold.phase = 1) (ht : s.hold.tH + 10 * us ≤ s.now) :
    s.holdExchange = { s with hold := { s.hold with
      phase := 2, eligA := s.healthy 0, eligB := s.healthy 1, cntA := s.unackOf 0, cntB := s.unackOf 1 } } :=
  if_pos ⟨hm, hp, ht⟩

theorem State.holdExchange_early {s : State} (ht : s.now < s.hold.tH + 10 * us) : s.holdExchange = s :=
  if_neg fun ⟨_, _, h⟩ => absurd h (Nat.not_le_of_lt ht)

/-- Step 3 when it is due: the winner, if there is one, sets its latch. -/
theorem State.holdWin_due {s : State} (hm : s.mode = .hold) (hp : s.hold.phase = 2) (ht : s.hold.tH + 20 * us ≤ s.now) :
    s.holdWin =
      s.holdWinner.elim { s with hold := { s.hold with phase := 3 } } (State.setLatch { s with hold := { s.hold with phase := 3 } }) := by
  unfold State.holdWin
  rw [if_pos ⟨hm, hp, ht⟩]
  dsimp only
  rw [State.holdWinner_phase s 3]
  cases s.holdWinner <;> rfl

/-- Step 5 when it is due and no latch is set: the half that was not elected. -/
theorem State.holdFallback_due {s : State} (hm : s.mode = .hold) (hp : s.hold.phase = 3) (ht : s.hold.tH + 30 * us ≤ s.now)
    (hh : s.holder = 0) :
    let w : State := { s with hold := { s.hold with phase := 4 } }
    (s.holdWinner = some 0 → s.hold.eligB = true → s.supUp = true → s.halfGone 1 = false → s.holdFallback = w.setLatch 1) ∧
    (s.holdWinner = some 1 → s.hold.eligA = true → s.halfGone 0 = false → s.holdFallback = w.setLatch 0) ∧
    (s.holdWinner = none → s.holdFallback = w) := by
  unfold State.holdFallback
  rw [if_pos ⟨hm, hp, ht, hh⟩]
  dsimp only
  rw [State.holdWinner_phase s 4]
  refine ⟨fun hw he hs hg => ?_, fun hw he hg => ?_, fun hw => ?_⟩
  · rw [hw]
    exact if_pos (by rw [Bool.and_eq_true, Bool.and_eq_true, Bool.not_eq_true']; exact ⟨⟨he, hs⟩, hg⟩)
  · rw [hw]
    exact if_pos (by rw [Bool.and_eq_true, Bool.not_eq_true']; exact ⟨he, hg⟩)
  · rw [hw]

/-! Safe at the end of a Hold -/

theorem State.dropWindow_mode (s : State) (w : Nat) : (s.dropWindow w).mode = s.mode := by
  unfold State.dropWindow
  dsimp only
  repeat' split
  all_goals rfl

theorem State.dropFcWindows_mode (s : State) : s.dropFcWindows.mode = s.mode := by
  unfold State.dropFcWindows
  dsimp only
  split
  · rfl
  · rw [State.setNat_mode]
    exact State.forEach_frame State.mode _ (fun s i => s.dropWindow_mode _) (List.range 38) s

theorem State.escLeaveBoot_mode (s : State) : s.escLeaveBoot.mode = s.mode := by
  unfold State.escLeaveBoot
  split <;> rfl

/-- Only a module without power does not enter Safe. -/
theorem State.enterSafe_mode {s : State} (ho : s.mode ≠ .off) (hs : s.mode ≠ .ship) (cls code b : Nat) :
    (s.enterSafe cls code b).mode = .safe := by
  by_cases h : s.mode = .safe
  · rw [State.enterSafe, if_pos (Or.inl h), h]
  · have hn : ¬(s.mode = .safe ∨ s.mode = .off ∨ s.mode = .ship) := not_or.mpr ⟨h, not_or.mpr ⟨ho, hs⟩⟩
    simp only [State.enterSafe, if_neg hn, State.escLeaveBoot_mode, State.dropFcWindows_mode]

theorem State.holdSafe_mode {s : State} (h : s.mode = .hold) : s.holdSafe.mode = .safe :=
  have hm : (s.writeLastHold 0).mode = .hold := h
  State.enterSafe_mode (by simp [hm]) (by simp [hm]) 0 12 _

theorem State.holdExpire_due {s : State} (hm : s.mode = .hold) (ht : s.hold.tH + 50 * us ≤ s.now) (hh : s.holder = 0) :
    s.holdExpire = s.holdSafe := if_pos ⟨hm, ht, hh⟩

theorem State.holdExpire_early {s : State} (ht : s.now < s.hold.tH + 50 * us) : s.holdExpire = s :=
  if_neg fun ⟨_, h, _⟩ => absurd h (Nat.not_le_of_lt ht)

/-- Settles O19: each timed step by its condition, the election by the halves that stand, a latch set by the gate of setLatch. -/
theorem holdElectsAtMostOneHalf : Obligations.HoldElectsAtMostOneHalf := by
  intro t s u
  refine ⟨fun hm hp ht => congrArg _ (State.holdExchange_due hm hp ht), fun ht => congrArg _ (State.holdExchange_early ht),
    fun hm hp ht => ?_, fun hm hp ht hh => ?_, fun hm ht hh => ?_, fun ht => congrArg _ (State.holdExpire_early ht),
    fun w hb => ?_, fun w ha => ?_⟩
  · intro w a b
    have hw : exec (.winnerLatchSet t) s = .next (u.holdWinner.elim w w.setLatch) := congrArg _ (State.holdWin_due hm hp ht)
    refine ⟨fun ha hab => ?_, fun hb hba => ?_, fun ha hb => ?_⟩
    · rw [hw, State.holdWinner_eq_zero ha hab, Option.elim_some]
    · rw [hw, State.holdWinner_eq_one hb hba, Option.elim_some]
    · rw [hw, State.holdWinner_eq_none ha hb, Option.elim_none]
  · intro w
    obtain ⟨zero, one, none⟩ := State.holdFallback_due hm hp ht hh
    exact ⟨fun hw he hs hg => congrArg _ (zero hw he hs hg), fun hw he hg => congrArg _ (one hw he hg), fun hw => congrArg _ (none hw)⟩
  · refine ⟨u.holdSafe, congrArg _ (State.holdExpire_due hm ht hh), rfl, ?_⟩
    rw [State.holdSafe_mode hm]
    decide
  · rw [State.setLatch_zero hb]
    simp
  · rw [State.setLatch_one ha]
    simp

end Sys2Proof.Machine
end

section
/-! SUPPORT. Halves that are watched: ALIVE edges and their absence, reports, the cross-link and the oscillators (R37, R68, R486 to
R490). -/

namespace Sys2Proof.Machine

/-- A bit that is written reads as written. -/
@[simp] theorem bitOf_setBit_same (v i : Nat) (b : Bool) : bitOf (setBit v i b) i = b := by
  have hadd : (v + 2 ^ i) / 2 ^ i = v / 2 ^ i + 1 := Nat.add_div_right v (Nat.two_pow_pos i)
  have hsub : (v - 2 ^ i) / 2 ^ i = v / 2 ^ i - 1 := by simpa using Nat.sub_mul_div v (2 ^ i) 1
  by_cases h : v / 2 ^ i % 2 = 1
  · have hc : (v / 2 ^ i - 1) % 2 ≠ 1 := by omega
    cases b <;> simp [setBit, bitOf, h, hsub, hc]
  · have hs : (v / 2 ^ i + 1) % 2 = 1 := by omega
    cases b <;> simp [setBit, bitOf, h, hadd, hs]

/-! ALIVE -/

/-- Past Boot and with power the control engines run, so that a level's ticks are judged. -/
def State.judgesTicks (s : State) : Prop := s.mode ≠ .boot ∧ s.mode ≠ .seed ∧ s.mode ≠ .off ∧ s.mode ≠ .ship

/-- The pins after an edge of a half's ALIVE pin at instant `now`. -/
def PinSt.edged (p : PinSt) (now : Nat) : Half → PinSt
  | .a => { p with aliveA := !p.aliveA, edgeA := now, ticksA := 0 }
  | .b => { p with aliveB := !p.aliveB, edgeB := now, ticksB := 0 }

theorem State.aliveToggle_edge {s : State} {h : Half} (hon : s.aliveOn (halfIdx h) = true)
    (hk : 8 ≤ s.aliveTicks (halfIdx h) ∨ ¬s.judgesTicks) : s.aliveToggle (halfIdx h) = { s with pins := s.pins.edged s.now h } := by
  have hn : ¬(s.aliveTicks (halfIdx h) < 8 ∧ s.judgesTicks) := fun ⟨hl, hj⟩ => hk.elim (Nat.not_le_of_lt hl) (fun hk => hk hj)
  unfold State.aliveToggle
  rw [if_pos hon]
  cases h <;> exact if_neg hn

theorem State.aliveToggle_starved {s : State} {h : Nat} (hon : s.aliveOn h = true) (hk : s.aliveTicks h < 8) (hj : s.judgesTicks) :
    s.aliveToggle h = s.raise (97 * h + 1) 2 5 0 lvHalf := by
  unfold State.aliveToggle
  rw [if_pos hon]
  exact if_pos ⟨hk, hj⟩

theorem State.aliveToggle_stopped {s : State} {h : Nat} (hon : s.aliveOn h = false) : s.aliveToggle h = s := by
  simp [State.aliveToggle, hon]

theorem State.aliveTimeout_due {s : State} {h : Nat} (hr : s.running = true) (hon : s.aliveOn h = true)
    (ht : s.aliveEdge h + 15 * us ≤ s.now) (hg : s.halfGone (1 - h) = false) : s.aliveTimeout h = s.halfLost h := by
  simp [State.aliveTimeout, hr, hon, ht, hg]

theorem State.aliveTimeout_early {s : State} {h : Nat} (ht : s.now < s.aliveEdge h + 15 * us) : s.aliveTimeout h = s := by
  simp [State.aliveTimeout, Nat.not_le_of_lt ht]

/-! Reports and the cross-link -/

theorem State.levelReport_heard {s : State} {h : Nat} (hr : s.reacted h = true) (hl : s.lost h = false) (hc : s.hold.channels ≠ 0)
    (hg : s.halfGone (1 - h) = false) : s.levelReport h = s.halfLost h := by
  simp [State.levelReport, hr, hl, hc, hg]

theorem State.crossSilence_due {s : State} (hr : s.running = true) (hb : s.mode ≠ .boot) (hs : s.mode ≠ .seed)
    (hc : s.hold.channels = 0) (ha : s.halfGone 0 = false) (hg : s.halfGone 1 = false) (ht : s.hold.silentSince + 30 * us ≤ s.now)
    (hon : s.aliveOn 0 = true)
    (he : s.now < s.aliveEdge 0 + 15 * us) : s.crossSilence = s.raise (97 + 10) 3 5 0 lvHalf := by
  simp [State.crossSilence, hr, hb, hs, hc, ha, hg, ht, hon, he, blSupervisor]

theorem State.crossSilence_connected {s : State} (hc : s.hold.channels ≠ 0) : s.crossSilence = s := by
  simp [State.crossSilence, hc]

/-- The pins with a half's reference oscillator lost. -/
def PinSt.withoutOsc (p : PinSt) : Half → PinSt
  | .a => { p with oscA := false }
  | .b => { p with oscB := false }

theorem State.oscLost_running {s : State} (hr : s.running = true) (h : Half) :
    s.oscLost (halfIdx h) = ({ s with pins := s.pins.withoutOsc h } : State).raise (97 * halfIdx h) 5 9 0 lvHalf := by
  unfold State.oscLost
  rw [if_pos hr]
  cases h <;> rfl

/-- The supervisor and fabric channels fail at their own port; the array channel is a die link. -/
theorem State.channelFault_up {s : State} {c : Nat} (hc : bitOf s.hold.channels c = true) (h2 : c < 2) :
    s.channelFault c = (s.raise (s.block (if c = 0 then 10 else 20)) 3 6 c lvBlock true).channelDown c := by
  unfold State.channelFault
  rw [if_pos hc, if_neg (Nat.ne_of_lt h2)]

theorem State.channelFault_down {s : State} {c : Nat} (hc : bitOf s.hold.channels c = false) : s.channelFault c = s := by
  simp [State.channelFault, hc]

theorem State.channelDown_channel (s : State) (c : Nat) : bitOf (s.channelDown c).hold.channels c = false := bitOf_setBit_same ..

/-- A channel that comes back returns its ports to service; what else the module is stays. -/
theorem State.channelBack_down {s : State} {c : Nat} (hc : bitOf s.hold.channels c = false) (h2 : c < 2) (hla : s.lost 0 = false)
    (hlb : s.lost 1 = false) (hra : s.reacted 0 = false) (hrb : s.reacted 1 = false) :
    bitOf (s.channelBack c).hold.channels c = true ∧ (s.channelBack c).mode = s.mode ∧ (s.channelBack c).pins = s.pins := by
  have port (s : State) (b : Nat) :
      let t := if s.nat (Obj.blockState b) = 2 then (s.setNat (Obj.blockState b) 1).openRecovery sec else s
      t.mode = s.mode ∧ t.pins = s.pins := by
    dsimp only
    split <;> exact ⟨rfl, rfl⟩
  unfold State.channelBack
  rw [if_neg (by simp [hc, hla, hlb, hra, hrb]), if_neg (Nat.ne_of_lt h2)]
  refine ⟨bitOf_setBit_same .., ?_, ?_⟩
  · exact State.forEach_frame State.mode _ (fun s b => (port s b).1) _ s
  · exact State.forEach_frame State.pins _ (fun s b => (port s b).2) _ s

/-- Settles O18: each watch by its condition. -/
theorem halvesAreWatchedAndLost : Obligations.HalvesAreWatchedAndLost := by
  intro t h c s u i timed
  refine ⟨fun hon hk => ?_, fun hon hk hj => congrArg _ (State.aliveToggle_starved hon hk hj),
    fun hon => congrArg _ (State.aliveToggle_stopped hon), fun hr hon ht hg => congrArg _ (State.aliveTimeout_due hr hon ht hg),
    fun ht => congrArg _ (State.aliveTimeout_early ht), fun hr hl hc hg => congrArg _ (State.levelReport_heard hr hl hc hg),
    fun hr hb hs hc ha hg ht hon he => congrArg _ (State.crossSilence_due hr hb hs hc ha hg ht hon he),
    fun hc => congrArg _ (State.crossSilence_connected hc), fun hr => ?_,
    fun hc h2 => ?_, fun hc => congrArg _ (State.channelFault_down hc), fun hc h2 hla hlb hra hrb => ?_,
    fun ht => congrArg _ (if_pos ht), fun ht => congrArg _ (if_neg (Nat.not_le_of_lt ht))⟩
  · cases h <;> exact congrArg _ (State.aliveToggle_edge hon hk)
  · cases h <;> exact congrArg _ (State.oscLost_running hr _)
  · have hv := State.channelFault_up hc h2
    exact ⟨u.channelFault c.val, rfl, hv, hv ▸ State.channelDown_channel _ c.val⟩
  · exact ⟨u.channelBack c, rfl, State.channelBack_down hc h2 hla hlb hra hrb⟩

end Sys2Proof.Machine
end

section
/-! SUPPORT. Board inputs and cages: the protector, the coolant, the wake latch, the 100 µs refresh, the assemblies
(R31, R32, R67 to R77, R433). -/

namespace Sys2Proof.Machine

/-! What a reset keeps: R516 -/

/-- A filter that passes every entry of a key leaves what the key reads. -/
theorem smGet_filter {α : Type} (d : Nat → α) (p : Nat × α → Bool) {q : Nat} (hp : ∀ v, p (q, v) = true) :
    ∀ m, smGet d (m.filter p) q = smGet d m q
  | [] => rfl
  | (k, w) :: r => by
    have ih := smGet_filter d p hp r
    by_cases hk : k = q
    · subst hk
      rw [List.filter_cons_of_pos (hp w), smGet, smGet, if_pos rfl, if_pos rfl]
    · rw [List.filter_cons, smGet, if_neg hk]
      split
      · rw [smGet, if_neg hk, ih]
      · exact ih

theorem State.nat_resetTo (s : State) (cause : Nat) {k : Nat} (hk : nvNums.contains k = true) : (s.resetTo cause).nat k = s.nat k := by
  refine congrArg Int.toNat (smGet_filter objDefault _ (fun v => ?_) s.objs)
  rw [hk, Bool.true_or]

/-- A nonvolatile number that a reset does not itself bring up to date reads on through it. -/
theorem State.nat_reset_ (s : State) (cause : Nat) {k : Nat} (hk : nvNums.contains k = true) (hp : k ≠ Obj.poweredTime)
    (hb : k ≠ Obj.bootCount) : (s.reset_ cause).nat k = s.nat k := by
  have hc : k ≠ Obj.resetCause := by
    rintro rfl
    exact absurd hk (by decide)
  have hs : ((s.setNat Obj.poweredTime (s.powered % 2 ^ 32)).count Obj.bootCount).nat k = s.nat k := by
    rw [State.nat_count, if_neg hb, State.nat_setNat_ne _ _ hp]
  have hr : ∀ t : State, t.nat k = s.nat k → ((t.resetTo cause).setNat Obj.resetCause cause).nat k = s.nat k := fun t ht => by
    rw [State.nat_setNat_ne _ _ hc, State.nat_resetTo t cause hk, ht]
  unfold State.reset_
  dsimp only
  split <;> exact hr _ hs

/-- A reset has begun Boot with the cause recorded. -/
theorem State.boot_reset_ (s : State) (cause : Nat) : (s.reset_ cause).mode = .boot ∧ (s.reset_ cause).nat Obj.resetCause = cause := by
  unfold State.reset_
  dsimp only
  split <;> exact ⟨rfl, State.nat_setNat_same ..⟩

/-- A reset closes the input relay and leaves the wake latch. -/
theorem State.pins_reset_ (s : State) (cause : Nat) :
    (s.reset_ cause).pins.relayOpen = false ∧ (s.reset_ cause).pins.wakeLatch = s.pins.wakeLatch := by
  unfold State.reset_
  dsimp only
  split <;> exact ⟨rfl, rfl⟩

/-! The inputs -/

theorem State.protTrip_running {s : State} (hr : s.running = true) :
    s.protTrip = ({ s with pins := { s.pins with protTripLow := true } } : State).raise (s.block blBoot) 10 8 0 lvModule := if_pos hr

theorem State.coolantBack_elsewhere {s : State} (hb : s.mode ≠ .boot) (hs : s.mode ≠ .standby) (h3 : s.boot.stageA ≠ 3)
    (h3' : s.boot.stageB ≠ 3) : s.coolantBack = { s with pins := { s.pins with coolantSeated := true } } := by
  simp [State.coolantBack, hb, hs, h3, h3']

theorem State.coolantGone_energised {s : State} (h : s.mode = .ready ∨ s.mode = .shaping ∨ s.mode = .hold) :
    s.coolantGone = ({ s with pins := { s.pins with coolantSeated := false } } : State).raise (s.block blBoot) 10 8 0 lvModule := if_pos h

theorem State.wake_powered {s : State} (hm : s.mode ≠ .ship) (h0 : s.boot.shipStep = 0) :
    s.wake = { s with pins := { s.pins with wakeLatch := true } } := by
  simp [State.wake, hm, h0]

/-- In Ship the wake latch counts the wake and resets the module; the state that is reset differs in no object. -/
theorem State.wake_ship {s : State} (hm : s.mode = .ship) :
    ∃ w : State, s.wake = (w.count Obj.shipCount).reset_ 1 ∧ w.pins.wakeLatch = true ∧ w.objs = s.objs :=
  ⟨_, if_pos hm, rfl, rfl⟩

/-- The pins as the refresh sees them: what has gone high is no longer held low. -/
def State.pinsSeen (s : State) (gd : Nat) (prot : Bool) : State :=
  { s with pins := { s.pins with gdFaultLow := s.pins.gdFaultLow &&& gd, protTripLow := s.pins.protTripLow && prot } }

theorem State.discreteUpdate_running {s : State} (hr : s.running = true) (gd : Nat) (prot : Bool) :
    s.discreteUpdate gd prot = (s.pinsSeen gd prot).setNat Obj.discreteInputs2011 (s.pinsSeen gd prot).discreteNow := if_pos hr

theorem State.discreteUpdate_stopped {s : State} (hr : s.running = false) (gd : Nat) (prot : Bool) : s.discreteUpdate gd prot = s :=
  if_neg (Bool.eq_false_iff.mp hr)

/-! The cages: R77 -/

/-- The lanes of a cage. -/
def cageLanes (cage : Nat) : List Nat := (List.range 8).map (fun i => 36 + 8 * cage + i)

/-- A cage marked operated or refused, and its lanes with it. -/
def State.cageMarked (s : State) (cage : Nat) (ok : Bool) : State :=
  let s1 :=
    if cage = 0 then { s with pins := { s.pins with cage0 := if ok then 1 else 2 } }
    else { s with pins := { s.pins with cage1 := if ok then 1 else 2 } }
  s1.forEach (cageLanes cage) (fun s n => s.setLane n { s.lane n with cageRefused := !ok })

/-- The mark is one of the pins' record alone. -/
theorem State.cageMarked_fin (s : State) (cage : Fin 2) (ok : Prop) [Decidable ok] :
    s.cageMarked cage.val (decide ok) = ({ s with
      pins :=
        if cage = 0 then { s.pins with cage0 := if ok then 1 else 2 }
        else { s.pins with cage1 := if ok then 1 else 2 } } : State).forEach
        (cageLanes cage.val) (fun s n => s.setLane n { s.lane n with cageRefused := decide ¬ok }) := by
  unfold State.cageMarked
  rw [decide_not]
  by_cases h : ok
  · by_cases hc : cage = 0 <;> simp only [h, hc, decide_true, if_true, if_false, Fin.val_eq_zero_iff]
  · by_cases hc : cage = 0 <;> simp only [h, hc, decide_false, Bool.false_eq_true, if_true, if_false, Fin.val_eq_zero_iff]

theorem State.cageRead_operated (s : State) (cage : Nat) {optical : Bool} (active : Bool) {mw : Nat}
    (h : optical = false ∧ mw ≤ 3500) :
    s.cageRead cage optical active mw = (s.cageMarked cage true).forEach (cageLanes cage)
      (fun s n => if s.laneState n = 0 ∨ (s.laneState n = 4 ∧ (s.lane n).pcs = false) then s.laneStart n else s) := by
  simp [State.cageRead, State.cageMarked, cageLanes, h]

theorem State.cageRead_refused (s : State) (cage : Nat) {optical : Bool} (active : Bool) {mw : Nat}
    (h : ¬(optical = false ∧ mw ≤ 3500)) :
    let d := (s.cageMarked cage false).forEach (cageLanes cage) (fun s n => if s.laneState n = 5 then s else s.laneDrop n 4 7)
    s.cageRead cage optical active mw = d.raise (d.laneBlock (36 + 8 * cage)) 9 7 cage lvBlock := by
  have hok : (!optical && (!active || decide (mw ≤ 3500)) && decide (mw ≤ 3500)) = false := by
    cases optical <;> simp_all
  simp [State.cageRead, State.cageMarked, cageLanes, hok]

/-- Settles O17: each input by its condition; a wake from Ship by what the reset keeps. -/
theorem pinsAndCagesAreReported : Obligations.PinsAndCagesAreReported := by
  intro t mw gd prot optical active cage s u
  refine ⟨fun hr => congrArg _ (State.protTrip_running hr), fun hb hs h3 h3' => congrArg _ (State.coolantBack_elsewhere hb hs h3 h3'),
    fun h => congrArg _ (State.coolantGone_energised h), fun hm h0 => congrArg _ (State.wake_powered hm h0),
    fun hm => ?_, fun hr => ?_, fun hr => congrArg _ (State.discreteUpdate_stopped hr gd prot), ?_⟩
  · obtain ⟨w, hw, hl, ho⟩ := State.wake_ship hm
    obtain ⟨boot, cause⟩ := State.boot_reset_ (w.count Obj.shipCount) 1
    obtain ⟨relay, latch⟩ := State.pins_reset_ (w.count Obj.shipCount) 1
    refine ⟨_, congrArg Host.Outcome.next hw, boot, relay, latch.trans hl, cause, ?_⟩
    rw [State.nat_reset_ _ 1 (by decide) (by decide) (by decide), State.nat_count, if_pos rfl]
    unfold State.nat State.num
    rw [ho]
  · exact ⟨_, congrArg Host.Outcome.next (State.discreteUpdate_running hr gd prot), rfl, rfl, State.nat_setNat_same ..,
      fun k hk => State.nat_setNat_ne _ _ hk⟩
  · refine ⟨u.cageRead cage.val optical active mw, rfl, ?_⟩
    intro ok lanes w
    have hw : w = u.cageMarked cage.val (decide ok) := (State.cageMarked_fin u cage ok).symm
    refine ⟨fun hok => ?_, fun hok => ?_⟩
    · rw [hw, decide_eq_true hok]
      exact State.cageRead_operated u cage.val active hok
    · have hw' : w = u.cageMarked cage.val false := by rw [hw, decide_eq_false hok]
      have hd := State.cageRead_refused u cage.val active hok
      rw [← hw'] at hd
      exact hd

end Sys2Proof.Machine
end

section
/-! SUPPORT. Power domains and what ends late: requests, power-good, regulation, Boot, energising and the fall of the bus (R39 to R41, R445,
R501 to R511). -/

namespace Sys2Proof.Machine

/-! Requests: R41 -/

theorem State.domainRequestOn_granted {s : State} {d : Nat} (hr : s.running = true) (hq : s.reqNow d ≠ 3)
    (hc : s.pins.coolantSeated = true ∨ d = 24) (hg : s.halfGone (domHalf d) = false) (hb : s.blockSafe (domHalf d) 6 = false)
    (ht : ¬(s.mode = .safe ∧ s.boot.thermalLatch = true)) : s.domainRequestOn d = (s.keepReq d 1).domainOn d := by
  have hs : (decide (s.mode = .safe) && s.boot.thermalLatch) = false :=
    Bool.eq_false_iff.mpr fun h => ht (by rwa [Bool.and_eq_true, decide_eq_true_eq] at h)
  have hc' : (s.pins.coolantSeated || decide (d = 24)) = true := by rwa [Bool.or_eq_true, decide_eq_true_eq]
  unfold State.domainRequestOn
  rw [hr, hc', hg, hb, hs, bne_iff_ne.mpr hq]
  rfl

/-- An off request by a fault at the same instant prevails. -/
theorem State.domainRequestOn_overruled {s : State} {d : Nat} (hq : s.reqNow d = 3) : s.domainRequestOn d = s := by
  simp [State.domainRequestOn, hq]

theorem State.domainRequestOn_uncooled {s : State} {d : Nat} (hc : s.pins.coolantSeated = false) (hd : d ≠ 24) :
    s.domainRequestOn d = s := by
  simp [State.domainRequestOn, hc, hd]

theorem State.domainRequestOff_granted {s : State} {d : Nat} {fault : Bool} (hr : s.running = true)
    (hq : fault = true ∨ s.reqNow d ≠ 1) :
    s.domainRequestOff d fault = (s.keepReq d (if fault then 3 else 2)).domainOff d fault :=
  if_pos (by simp [hr, hq])

/-- Between ordinary requests at one instant the on request prevails. -/
theorem State.domainRequestOff_overruled {s : State} {d : Nat} (hq : s.reqNow d = 1) : s.domainRequestOff d false = s := by
  simp [State.domainRequestOff, hq]

/-! Domains that fail: R40, R445 -/

theorem State.powerGoodLate_starting {s : State} {d : Nat} (hd : s.domState d = 2) :
    s.powerGoodLate d =
      if ∀ e ∈ railDoms (domRail d), (s.leftOff d).domState e ≠ 1 ∧ (s.leftOff d).domState e ≠ 2 then
        (s.leftOff d).stopRail (domRail d)
      else s.leftOff d := by
  simp [State.powerGoodLate, hd]

theorem State.powerGoodLate_settled {s : State} {d : Nat} (hd : s.domState d ≠ 2) : s.powerGoodLate d = s := if_neg hd

theorem State.outOfRegulation_die {s : State} {d : Nat} (hd : d < 24) (h1 : s.domState d = 1) :
    s.outOfRegulation d = (s.raise (97 * domHalf d + 6) 5 9 d lvBlock).domainOff d true := by
  unfold State.outOfRegulation
  rw [if_neg (Decidable.not_not.mpr h1), if_neg (by omega), if_neg (by omega)]

theorem State.outOfRegulation_fabric {s : State} {d : Nat} (hl : 24 ≤ d) (hd : d < 28) (h1 : s.domState d = 1) :
    s.outOfRegulation d = s.raise (97 * domHalf d + 6) 5 9 d lvHalf := by
  unfold State.outOfRegulation
  rw [if_neg (Decidable.not_not.mpr h1), if_neg (by omega), if_pos hl]

/-- The Hazel domains are on whenever the module has power. -/
theorem State.outOfRegulation_hazel {s : State} {d : Nat} (hd : 28 ≤ d) (hr : s.running = true) :
    s.outOfRegulation d = s.raise (97 * (d % 2) + 6) 5 9 d lvHalf := by
  have h1 : s.domState d = 1 := if_pos hd
  unfold State.outOfRegulation
  rw [if_neg (Decidable.not_not.mpr h1), if_pos hd, if_pos hr]

theorem State.outOfRegulation_off {s : State} {d : Nat} (h1 : s.domState d ≠ 1) : s.outOfRegulation d = s := if_pos h1

/-! Boot: R501, R503 -/

/-- The time that a Boot has spent in stage 3. -/
def State.stage3Spent (s : State) : Nat :=
  s.boot.stage3Time + if s.boot.stageA = 3 ∨ s.boot.stageB = 3 then s.now - s.boot.stage3Since else 0

theorem State.bootLate_due {s : State} (hm : s.mode = .boot) (hi : s.boot.inReset = false) (hr : s.boot.restartAt = none)
    (ht : s.boot.since + s.stage3Spent + 30 * sec ≤ s.now) :
    s.bootLate = s.bootFail 3 ((if s.boot.stageA = 7 then 0 else 1) + if s.boot.stageB = 7 then 0 else 2) s.bootStageNow := by
  unfold State.stage3Spent at ht
  simp [State.bootLate, hm, hi, hr, ht]

theorem State.bootLate_early {s : State} (ht : s.now < s.boot.since + s.stage3Spent + 30 * sec) : s.bootLate = s := by
  unfold State.stage3Spent at ht
  simp [State.bootLate, Nat.not_le_of_lt ht]

theorem State.bootAgain_eq {s : State} {r : Nat} (hm : s.mode = .boot) (hr : s.boot.restartAt = some r) :
    s.bootAgain = if r ≤ s.now then (s.reset_ 4).domainOn 24 else s := by
  unfold State.bootAgain
  rw [hm, hr]

/-! Energising and the fall of the bus: R508 to R511 -/

theorem State.answerLate_due {s : State} (he : s.energising = true) (h2 : s.nat Obj.energiseStep = 2)
    (ht : s.boot.stepSince + 10 * ms ≤ s.now) (hn : s.notAnswering ≠ 0) : s.answerLate = s.failEnergise 4 s.notAnswering :=
  if_pos ⟨he, h2, ht, hn⟩

theorem State.softLate_due {s : State} (he : s.energising = true) (h3 : s.nat Obj.energiseStep = 3)
    (ht : s.boot.stepSince + s.nat Obj.busSoftStartTimeout * ms ≤ s.now) :
    s.softLate = s.failEnergise 5 (s.nat Obj.busVoltage2910 / 1000) :=
  if_pos ⟨he, h3, ht⟩

theorem State.busLate_shutDown {s : State} (hb : s.busDown = false) (h4 : s.boot.shutStep = 4)
    (ht : s.boot.shutSince + s.nat Obj.deenergiseTimeout * ms ≤ s.now) :
    s.busLate = (s.shutRecord 1 2 s.boot.shutBegan).raise (s.block 2) 6 5 (s.nat Obj.busVoltage2910 / 1000) lvModule := by
  unfold State.busLate
  dsimp only
  rw [if_neg (Bool.eq_false_iff.mp hb), if_pos ⟨h4, ht⟩]
  rfl

theorem State.busLate_failed {s : State} (hb : s.busDown = false) (h4 : s.boot.shutStep ≠ 4) (h2 : s.boot.failStep = 2)
    (ht : s.boot.failSince + s.nat Obj.deenergiseTimeout * ms ≤ s.now) :
    s.busLate = s.raise (s.block 2) 6 5 (s.nat Obj.busVoltage2910 / 1000) lvModule := by
  unfold State.busLate
  dsimp only
  rw [if_neg (Bool.eq_false_iff.mp hb), if_neg (fun h => h4 h.1), if_pos ⟨h2, ht⟩]
  rfl

theorem State.busLate_down {s : State} (hb : s.busDown = true) : s.busLate = s := if_pos hb

/-- Settles O20: each request, loss and time limit by its condition. -/
theorem powerDomainsAndLateStarts : Obligations.PowerDomainsAndLateStarts := by
  intro t d fault s u x b spent
  exact ⟨fun hr hq hc hg hb ht => congrArg _ (State.domainRequestOn_granted hr hq hc hg hb ht),
    fun hq => congrArg _ (State.domainRequestOn_overruled hq),
    fun hc hd => congrArg _ (State.domainRequestOn_uncooled hc hd),
    fun hr hq => congrArg _ (State.domainRequestOff_granted hr hq),
    fun hq => congrArg _ (State.domainRequestOff_overruled hq),
    fun hd => congrArg _ (State.powerGoodLate_starting hd),
    fun hd => congrArg _ (State.powerGoodLate_settled hd),
    fun hd h1 => congrArg _ (State.outOfRegulation_die hd h1),
    fun hl hd h1 => congrArg _ (State.outOfRegulation_fabric hl hd h1),
    fun hd hr => congrArg _ (State.outOfRegulation_hazel hd hr),
    fun _ h1 => congrArg _ (State.outOfRegulation_off h1),
    fun hm hi hr ht => congrArg _ (State.bootLate_due hm hi hr ht),
    fun ht => congrArg _ (State.bootLate_early ht),
    fun r hm hr => ⟨fun ht => congrArg _ ((State.bootAgain_eq hm hr).trans (if_pos ht)),
      fun ht => congrArg _ ((State.bootAgain_eq hm hr).trans (if_neg (Nat.not_le_of_lt ht)))⟩,
    fun he h2 ht hn => congrArg _ (State.answerLate_due he h2 ht hn),
    fun he h3 ht => congrArg _ (State.softLate_due he h3 ht),
    fun hb h4 ht => congrArg _ (State.busLate_shutDown hb h4 ht),
    fun hb h4 h2 ht => congrArg _ (State.busLate_failed hb h4 h2 ht),
    fun hb => congrArg _ (State.busLate_down hb)⟩

end Sys2Proof.Machine
end

section
/-! SUPPORT. Commands of the control engine that are writes of one byte: commit, trace control, phase clear, lock-out clear, planned
transfer; and the trace's samples (R51, R317, R347, R366, R373). -/

namespace Sys2Proof.Machine

/-! A command that writes a byte -/

/-- The object is an unsigned byte. -/
def isByteObj (key : Nat) : Prop := (descOf (key / 256) (key % 256)).map (·.ty) = some (.num 8 false)

/-- A byte reads back the number that was written. -/
theorem isByteObj.exists_desc {key : Nat} (h : isByteObj key) {v : Nat} (hv : v < 256) :
    ∃ r, descOf (key / 256) (key % 256) = some r ∧ r.ty.value (numBytes key v) = v := by
  obtain ⟨r, hd, ht⟩ := Option.map_eq_some_iff.mp h
  refine ⟨r, hd, ?_⟩
  have hn : numBytes key v = [v % 256] := by
    unfold numBytes objBits
    simp only [hd, ht]
    rfl
  rw [hn, ht]
  change ((v % 256 + 256 * 0 : Nat) : Int) = v
  omega

/-- The server accepts the write of byte `v` and no state bars it: what the object's rule answers then decides. -/
theorem State.accepts_byte {s : State} {role : Role} {key v : Nat} (hk : isByteObj key) (hv : v < 256)
    (h : s.accepts role key (numBytes key v)) :
    s.stateRefused (key / 256) (key % 256) v = false ∧
      ∃ r, descOf (key / 256) (key % 256) = some r ∧ r.ty.value (numBytes key v) = v := by
  obtain ⟨r, hd, hval⟩ := hk.exists_desc hv
  obtain ⟨-, -, hst⟩ := h
  simp only [hd, hval] at hst
  exact ⟨hst, r, hd, hval⟩

/-- An accepted write of a byte that the object's rule `f` applies. -/
theorem State.cmdWrite_byte_applied {s u : State} {role : Role} {key v : Nat} {f : Nat × State} (hk : isByteObj key) (hv : v < 256)
    (h : s.accepts role key (numBytes key v))
    (he : s.stateRefused (key / 256) (key % 256) v = false →
      s.dictEffect (rolePath role) 1 role (key / 256) (key % 256) v (numBytes key v) = f) (hf : f = (0, u)) :
    s.cmdWrite role key v = u.applied role key := by
  obtain ⟨hst, r, hd, hval⟩ := State.accepts_byte hk hv h
  rw [State.cmdWrite_eq]
  exact State.reqWrite_applied h hd (by rw [hval, he hst, hf])

/-- An accepted write of a byte that the object's rule `f` refuses by state. -/
theorem State.cmdWrite_byte_refused {s u : State} {role : Role} {key v : Nat} {f : Nat × State} (hk : isByteObj key) (hv : v < 256)
    (h : s.accepts role key (numBytes key v))
    (he : s.stateRefused (key / 256) (key % 256) v = false →
      s.dictEffect (rolePath role) 1 role (key / 256) (key % 256) v (numBytes key v) = f) (hf : f = (abState, u)) :
    s.cmdWrite role key v = u.declined key 0x08000022 := by
  obtain ⟨hst, r, hd, hval⟩ := State.accepts_byte hk hv h
  rw [State.cmdWrite_eq]
  exact State.reqWrite_declined h hd (by rw [hval, he hst, hf]) (by decide) (by decide)

/-! The five objects and their rules -/

/-- Commit of index `i` is subindex 14 of object 0x2940 + `i`. -/
theorem commit_key (i : Nat) : Obj.commit i / 256 = 0x2940 + i ∧ Obj.commit i % 256 = 14 := by
  unfold Obj.commit
  omega

theorem isByteObj_commit (i : Fin 64) : isByteObj (Obj.commit i.val) := by
  have row : ∀ i : Fin 64, (descOf (0x2940 + i.val) 14).map (·.ty) = some (.num 8 false) := by decide
  obtain ⟨hidx, hsub⟩ := commit_key i.val
  rw [isByteObj, hidx, hsub, row]

theorem isByteObj_traceControl : isByteObj Obj.traceControl := rfl
theorem isByteObj_phaseClear : isByteObj Obj.phaseClear := rfl
theorem isByteObj_authorityTransferRequest : isByteObj Obj.authorityTransferRequest := rfl

/-- LockoutClear of string `n` is subindex 13 of object 0x2A20 + `n`. -/
theorem lockoutClear_key (n : Nat) : Obj.lockoutClear n / 256 = 0x2A20 + n ∧ Obj.lockoutClear n % 256 = 13 := by
  unfold Obj.lockoutClear
  omega

theorem isByteObj_lockoutClear (k : Fin 2) : isByteObj (Obj.lockoutClear (k.val + 1)) := by
  unfold isByteObj
  decide +revert

section
variable {s : State} {path : Path} {port : Nat} {role : Role} {v : Nat} {b : List Nat}

theorem State.dictEffect_commit (i : Fin 64) (h : s.stateRefused (Obj.commit i.val / 256) (Obj.commit i.val % 256) v = false) :
    s.dictEffect path port role (Obj.commit i.val / 256) (Obj.commit i.val % 256) v b = s.commitInst i.val v := by
  obtain ⟨hidx, hsub⟩ := commit_key i.val
  rw [hidx, hsub] at h ⊢
  unfold State.dictEffect
  rw [if_neg (Bool.eq_false_iff.mp h)]
  split
  case h_31 =>
    rw [if_neg (by omega), if_neg (by omega), if_neg (by omega), if_neg (by omega), if_neg (by omega), if_pos (by omega),
      Nat.add_sub_cancel_left, Int.toNat_natCast]
  all_goals contradiction

theorem State.dictEffect_traceControl (h : s.stateRefused 0x2930 1 v = false) :
    s.dictEffect path port role 0x2930 1 v b = s.traceControl v := by
  unfold State.dictEffect
  exact if_neg (Bool.eq_false_iff.mp h)

theorem State.dictEffect_phaseClear (h : s.stateRefused 0x2A00 0x14 v = false) :
    s.dictEffect path port role 0x2A00 0x14 v b = s.phaseClear v := by
  unfold State.dictEffect
  exact if_neg (Bool.eq_false_iff.mp h)

theorem State.dictEffect_lockoutClear_string1 {idx sub : Nat} (hi : idx = 0x2A21) (hs : sub = 13) (h : s.stateRefused idx sub v = false) :
    s.dictEffect path port role idx sub v b = s.lockoutClear 0 v := by
  subst hi hs
  unfold State.dictEffect
  exact if_neg (Bool.eq_false_iff.mp h)

theorem State.dictEffect_lockoutClear_string2 {idx sub : Nat} (hi : idx = 0x2A22) (hs : sub = 13) (h : s.stateRefused idx sub v = false) :
    s.dictEffect path port role idx sub v b = s.lockoutClear 1 v := by
  subst hi hs
  unfold State.dictEffect
  exact if_neg (Bool.eq_false_iff.mp h)

theorem State.dictEffect_lockoutClear (k : Fin 2)
    (h : s.stateRefused (Obj.lockoutClear (k.val + 1) / 256) (Obj.lockoutClear (k.val + 1) % 256) v = false) :
    s.dictEffect path port role (Obj.lockoutClear (k.val + 1) / 256) (Obj.lockoutClear (k.val + 1) % 256) v b = s.lockoutClear k.val v := by
  obtain ⟨hidx, hsub⟩ := lockoutClear_key (k.val + 1)
  obtain rfl | rfl : k = 0 ∨ k = 1 := by omega
  · exact State.dictEffect_lockoutClear_string1 hidx hsub h
  · exact State.dictEffect_lockoutClear_string2 hidx hsub h

theorem State.dictEffect_authorityTransferRequest (h : s.stateRefused 0x2F10 2 v = false) :
    s.dictEffect path port role 0x2F10 2 v b = s.transferRequest v := by
  unfold State.dictEffect
  exact if_neg (Bool.eq_false_iff.mp h)

end

/-! The rules -/

theorem State.phaseClear_standby {s : State} {n : Nat} (hn : n < 48) (hg : bitOf s.pins.gdFaultLow (n / 8) = false)
    (hs : bitOf s.conv.streamFault n = false) (hp : (s.phase n).faulted = true) (hm : s.mode = .standby) :
    s.phaseClear n = (0, (s.setPhase n { s.phase n with faulted := false, readd := false }).refreshClamps) := by
  simp [State.phaseClear, Nat.not_le_of_lt hn, hg, hs, hp, hm]

theorem State.phaseClear_faultHeld {s : State} {n : Nat} (hn : n < 48)
    (h : bitOf s.pins.gdFaultLow (n / 8) = true ∨ bitOf s.conv.streamFault n = true) : s.phaseClear n = (abState, s) := by
  unfold State.phaseClear
  rw [if_neg (Nat.not_le_of_lt hn)]
  exact if_pos (Or.inr h)

theorem State.lockoutClear_open {s : State} {k : Nat} (hc : (s.str k).conn = .lockedOut) (hn : (s.str k).negFb = false)
    (hp : (s.str k).posFb = false) (hr : (s.str k).preFb = false) :
    s.lockoutClear k 1 = (0, s.setStr k { s.str k with conn := .opened, lockCause := 0, failCause := 0 }) := by
  simp [State.lockoutClear, StringSt.anyFb, hc, hn, hp, hr]

theorem State.lockoutClear_refused {s : State} {k : Nat}
    (h : (s.str k).conn ≠ .lockedOut ∨ (s.str k).negFb = true ∨ (s.str k).posFb = true ∨ (s.str k).preFb = true) :
    s.lockoutClear k 1 = (abState, s) := by
  have hn : ¬((s.str k).conn = .lockedOut ∧ !(s.str k).anyFb) := by
    rintro ⟨hc, hf⟩
    obtain h | h | h | h := h
    · exact h hc
    all_goals simp [StringSt.anyFb, h] at hf
  unfold State.lockoutClear
  exact (if_neg (Decidable.not_not.mpr rfl)).trans (if_neg hn)

theorem State.transferRequest_granted {s : State} (hm : s.mode = .ready ∨ s.mode = .shaping) (h0 : s.holder ≠ 0)
    (hh : s.healthy (2 - s.holder) = true) (ht : s.hold.transferTo = 0) :
    s.transferRequest 1 = (0, { s with hold := { s.hold with transferTo := 3 - s.holder } }) := by
  have hn : ¬(s.mode ≠ .ready ∧ s.mode ≠ .shaping) := fun ⟨hr, hs⟩ => hm.elim hr hs
  simp [State.transferRequest, hn, h0, hh, ht]

theorem State.transferRequest_refused {s : State}
    (h : s.mode ≠ .ready ∧ s.mode ≠ .shaping ∨ s.holder = 0 ∨ s.healthy (2 - s.holder) = false) :
    s.transferRequest 1 = (abState, s) := by
  unfold State.transferRequest
  refine (if_neg (Decidable.not_not.mpr rfl)).trans (if_pos (h.imp_right (Or.imp_right fun hh => Or.inl ?_)))
  rw [hh]
  rfl

/-! The trace -/

theorem State.traceSample_preTrigger {s : State} (h : s.eng.trace.state = 1) :
    let q := s.eng.trace
    let vs := (List.range 8).map (fun c => s.traceValue (s.nat (Obj.channelSource c)))
    s.traceSample = { s with eng := { s.eng with trace := { q with
      last := vs.getD (s.nat Obj.triggerSource % 256 % 8) 0, mark := s.traceMark, event := false
      data := (q.data.zip vs).map (fun e => e.1 ++ [e.2]), count := q.count + 1
      state := if s.nat Obj.preTrigger ≤ q.count + 1 then 2 else 1 } } } := by
  unfold State.traceSample
  exact (if_pos (Or.inl h)).trans (if_pos h)

theorem State.traceSample_idle {s : State} (h : s.eng.trace.state = 0) : s.traceSample = s := by
  simp [State.traceSample, h]

/-- A channel read after the trace is complete: with the last of them a normal trace arms again. -/
theorem State.traceRead_complete {s : State} (h : s.eng.trace.state = 4) (c : Nat) :
    s.traceRead c =
      if setBit s.eng.trace.readMask c true = 255 ∧ s.eng.trace.normal = true then s.traceArm true
      else { s with eng := { s.eng with trace := { s.eng.trace with readMask := setBit s.eng.trace.readMask c true } } } := if_pos h

theorem State.traceRead_incomplete {s : State} (h : s.eng.trace.state ≠ 4) (c : Nat) : s.traceRead c = s := if_neg h

/-- Settles O28: each command is a write of one byte, answered by its object's rule; the trace by its state. -/
theorem engineCommandsAndTrace : Obligations.EngineCommandsAndTrace := by
  intro t n role i k c s u q tc lc at_ vs x p
  have trace {v : Nat} {w : State} (hv : v < 256) (h : u.accepts role tc (numBytes tc v)) (he : u.traceControl v = (0, w)) :
      u.cmdWrite role tc v = w.applied role tc :=
    State.cmdWrite_byte_applied (key := Obj.traceControl) isByteObj_traceControl hv h State.dictEffect_traceControl he
  refine ⟨fun h => ?_, fun h => ?_, fun h => ?_, fun h => ?_, fun h => ?_, fun h hn hg hs hp hm => ?_, fun h hn hf => ?_,
    fun h hc hn hp hr => ?_, fun h hf => ?_, fun h hm h0 hh ht => ?_, fun h hf => ?_, fun h => congrArg _ (State.traceSample_preTrigger h),
    fun h => congrArg _ (State.traceSample_idle h), fun h => ⟨fun hr => ?_, fun hr => ?_⟩,
    fun h => congrArg _ (State.traceRead_incomplete h c.val)⟩
  · exact congrArg _ (State.cmdWrite_byte_applied (isByteObj_commit i) (by decide) h (State.dictEffect_commit i) rfl)
  · exact congrArg _ (trace (by decide) h rfl)
  · exact congrArg _ (trace (by decide) h rfl)
  · exact congrArg _ (trace (by decide) h rfl)
  · exact congrArg _ (trace (by decide) h rfl)
  · exact congrArg _ (State.cmdWrite_byte_applied (key := Obj.phaseClear) isByteObj_phaseClear (by omega) h State.dictEffect_phaseClear
      (State.phaseClear_standby hn hg hs hp hm))
  · exact congrArg _ (State.cmdWrite_byte_refused (key := Obj.phaseClear) isByteObj_phaseClear (by omega) h State.dictEffect_phaseClear
      (State.phaseClear_faultHeld hn hf))
  · exact congrArg _ (State.cmdWrite_byte_applied (key := Obj.lockoutClear (k.val + 1)) (isByteObj_lockoutClear k) (by decide) h
      (State.dictEffect_lockoutClear k) (State.lockoutClear_open hc hn hp hr))
  · exact congrArg _ (State.cmdWrite_byte_refused (key := Obj.lockoutClear (k.val + 1)) (isByteObj_lockoutClear k) (by decide) h
      (State.dictEffect_lockoutClear k) (State.lockoutClear_refused hf))
  · exact congrArg _ (State.cmdWrite_byte_applied (key := Obj.authorityTransferRequest) isByteObj_authorityTransferRequest (by decide) h
      State.dictEffect_authorityTransferRequest (State.transferRequest_granted hm h0 hh ht))
  · exact congrArg _ (State.cmdWrite_byte_refused (key := Obj.authorityTransferRequest) isByteObj_authorityTransferRequest (by decide) h
      State.dictEffect_authorityTransferRequest (State.transferRequest_refused hf))
  · exact congrArg _ ((State.traceRead_complete h c.val).trans (if_pos hr))
  · exact congrArg _ ((State.traceRead_complete h c.val).trans (if_neg hr))

end Sys2Proof.Machine
end

section
/-! SUPPORT. Resets: SHELF_RST_N and the debug port (R73, R505, R516, R549). -/

namespace Sys2Proof.Machine

/-! What a reset keeps, and what it starts again: R516 -/

/-- A state with SHELF_RST_N seen low or high (R73). -/
def State.withRstLow (s : State) (low : Bool) : State := { s with boot := { s.boot with inReset := low } }

theorem State.withRstLow_self {s : State} {low : Bool} (h : s.boot.inReset = low) : s.withRstLow low = s := by
  subst h
  rfl

theorem State.nat_withRstLow (s : State) (low : Bool) (k : Nat) : (s.withRstLow low).nat k = s.nat k := rfl

theorem State.blob_withRstLow (s : State) (low : Bool) (k : Nat) : (s.withRstLow low).blob k = s.blob k := rfl

/-- A reset source's counts brought up to date, and the failed-start count as the source leaves it (R505, R516). -/
def State.counted (s : State) (lastClear sinceClear : Nat) : State :=
  let s1 := (s.setNat Obj.poweredTime (s.powered % 2 ^ 32)).count Obj.bootCount
  { s1 with boot := { s1.boot with lastClear := lastClear, sinceClear := sinceClear } }

/-- Every source does the same but for the failed-start count, which two of them clear (R505). -/
theorem State.exists_counted_reset_ (s : State) (cause : Nat) :
    ∃ m n, s.reset_ cause = ((s.counted m n).resetTo cause).setNat Obj.resetCause cause := by
  by_cases hc : cause = 1 ∨ cause = 3
  · refine ⟨((((s.setNat Obj.poweredTime (s.powered % 2 ^ 32)).count Obj.bootCount).clearFails.resetTo cause).setNat
      Obj.resetCause cause).nat Obj.poweredTime, 0, ?_⟩
    unfold State.reset_
    simp only [if_pos hc]
    rfl
  · refine ⟨s.boot.lastClear, s.boot.sinceClear, ?_⟩
    unfold State.reset_
    simp only [if_neg hc]
    rfl

theorem State.bootCount_counted (s : State) (m n : Nat) : (s.counted m n).nat Obj.bootCount = (s.nat Obj.bootCount + 1) % 2 ^ 32 := by
  have h := State.nat_count (s.setNat Obj.poweredTime (s.powered % 2 ^ 32)) Obj.bootCount Obj.bootCount 1
  rw [if_pos rfl, State.nat_setNat_ne _ _ (by decide)] at h
  exact h

theorem State.poweredTime_counted (s : State) (m n : Nat) : (s.counted m n).nat Obj.poweredTime = s.powered % 2 ^ 32 := by
  have h := State.nat_count (s.setNat Obj.poweredTime (s.powered % 2 ^ 32)) Obj.bootCount Obj.poweredTime 1
  rw [if_neg (by decide), State.nat_setNat_same] at h
  exact h

/-- A nonvolatile number reads after a reset what the counts brought up to date left. -/
theorem State.nat_reset_counted (s : State) (cause : Nat) {k : Nat} (hk : nvNums.contains k = true) :
    ∃ m n, (s.reset_ cause).nat k = (s.counted m n).nat k := by
  obtain ⟨m, n, h⟩ := s.exists_counted_reset_ cause
  have hc : k ≠ Obj.resetCause := by
    rintro rfl
    exact absurd hk (by decide)
  exact ⟨m, n, by rw [h, State.nat_setNat_ne _ _ hc, State.nat_resetTo _ cause hk]⟩

/-- Every reset counts as a boot (log entry 159). -/
theorem State.bootCount_reset_ (s : State) (cause : Nat) :
    (s.reset_ cause).nat Obj.bootCount = (s.nat Obj.bootCount + 1) % 2 ^ 32 := by
  obtain ⟨m, n, h⟩ := s.nat_reset_counted cause (k := Obj.bootCount) (by decide)
  rw [h, State.bootCount_counted]

theorem State.poweredTime_reset_ (s : State) (cause : Nat) : (s.reset_ cause).nat Obj.poweredTime = s.powered % 2 ^ 32 := by
  obtain ⟨m, n, h⟩ := s.nat_reset_counted cause (k := Obj.poweredTime) (by decide)
  rw [h, State.poweredTime_counted]

/-- A nonvolatile byte string reads on through a reset. -/
theorem State.blob_reset_ (s : State) (cause : Nat) {k : Nat} (hk : nvBlobs.contains k = true) : (s.reset_ cause).blob k = s.blob k := by
  obtain ⟨m, n, h⟩ := s.exists_counted_reset_ cause
  rw [h]
  exact smGet_filter blobDefault _ (fun _ => hk) s.blobs

/-- The record of authority and Hold starts again, with neither latch set. -/
theorem State.hold_reset_ (s : State) (cause : Nat) : (s.reset_ cause).hold = { noneSince := s.now } := by
  obtain ⟨m, n, h⟩ := s.exists_counted_reset_ cause
  rw [h]
  rfl

/-- What the block holds beside the module, its queue, what was sent and its clock, goes on. -/
theorem State.queue_reset_ (s : State) (cause : Nat) :
    (s.reset_ cause).pending = s.pending ∧ (s.reset_ cause).out = s.out ∧ (s.reset_ cause).now = s.now := by
  obtain ⟨m, n, h⟩ := s.exists_counted_reset_ cause
  rw [h]
  simp [State.resetTo, State.counted]

/-- The pool of words, the arrays, the history memory, the power domains, the fault queues and the lanes start empty. -/
theorem State.volatile_reset_ (s : State) (cause : Nat) :
    (s.reset_ cause).pool = {} ∧ (s.reset_ cause).pecan = {} ∧ (s.reset_ cause).hist = {} ∧ (s.reset_ cause).pow = {} ∧
      (s.reset_ cause).flt.queues = [] ∧ (s.reset_ cause).flt.unack = [] ∧ (s.reset_ cause).fab.lanes = [] := by
  obtain ⟨m, n, h⟩ := s.exists_counted_reset_ cause
  rw [h]
  exact ⟨rfl, rfl, rfl, rfl, rfl, rfl, rfl⟩

/-- The gate enables fall; the feeds are what they were. -/
theorem State.drives_reset_ (s : State) (cause : Nat) :
    (s.reset_ cause).pins.gden = 0 ∧ (s.reset_ cause).pins.feedA = s.pins.feedA ∧ (s.reset_ cause).pins.feedB = s.pins.feedB := by
  obtain ⟨m, n, h⟩ := s.exists_counted_reset_ cause
  rw [h]
  exact ⟨rfl, rfl, rfl⟩

/-- Boot's clock starts, the failed-start log stays (R502), and the reset itself leaves SHELF_RST_N high. -/
theorem State.bootRecord_reset_ (s : State) (cause : Nat) :
    (s.reset_ cause).boot.since = s.now ∧ (s.reset_ cause).boot.failLog = s.boot.failLog ∧ (s.reset_ cause).boot.inReset = false := by
  obtain ⟨m, n, h⟩ := s.exists_counted_reset_ cause
  rw [h]
  exact ⟨rfl, rfl, rfl⟩

/-- Both halves begin at stage 1, neither toggling ALIVE, unless the reset is the restart after a failed start (R503). -/
theorem State.stages_reset_ (s : State) {cause : Nat} (h4 : cause ≠ 4) :
    (s.reset_ cause).boot.stageA = 1 ∧ (s.reset_ cause).boot.stageB = 1 ∧
      (s.reset_ cause).pins.aliveOnA = false ∧ (s.reset_ cause).pins.aliveOnB = false := by
  obtain ⟨m, n, h⟩ := s.exists_counted_reset_ cause
  rw [h]
  simp [State.resetTo, h4]

/-! The sources -/

theorem State.shelfReset_powered {s : State} (ho : s.mode ≠ .off) (hs : s.mode ≠ .ship) : s.shelfReset = (s.reset_ 2).withRstLow true :=
  if_neg (not_or.mpr ⟨ho, hs⟩)

theorem State.shelfReset_unpowered {s : State} (h : s.mode = .off ∨ s.mode = .ship) : s.shelfReset = s := if_pos h

theorem State.shelfRise_held {s : State} (h : s.boot.inReset = true) :
    s.shelfRise = { s with boot := { s.boot with inReset := false, since := s.now } } := if_pos h

theorem State.shelfRise_released {s : State} (h : s.boot.inReset = false) : s.shelfRise = s := if_neg (Bool.eq_false_iff.mp h)

/-- Settles O16: a reset by what it keeps and starts again; the two edges of the pin and the debug port by their conditions. -/
theorem resetsStartBootAndLoseVolatileState : Obligations.ResetsStartBootAndLoseVolatileState := by
  intro t s u after
  have begun (cause : Nat) (hold : Bool) (h4 : cause ≠ 4) : after cause hold ((u.reset_ cause).withRstLow hold) := by
    obtain ⟨boot, recorded⟩ := State.boot_reset_ u cause
    obtain ⟨stageA, stageB, aliveA, aliveB⟩ := State.stages_reset_ u h4
    obtain ⟨since, failLog, -⟩ := State.bootRecord_reset_ u cause
    obtain ⟨gden, feedA, feedB⟩ := State.drives_reset_ u cause
    obtain ⟨pool, pecan, hist, pow, queues, unack, lanes⟩ := State.volatile_reset_ u cause
    obtain ⟨pending, out, now⟩ := State.queue_reset_ u cause
    have held := State.hold_reset_ u cause
    exact ⟨boot, rfl, stageA, stageB, since, failLog, congrArg HoldSt.latchA held, congrArg HoldSt.latchB held, gden, aliveA, aliveB,
      feedA, feedB, pool, pecan, hist, pow, queues, unack, lanes, pending, out, now, (State.nat_withRstLow ..).trans recorded,
      (State.nat_withRstLow ..).trans (State.bootCount_reset_ u cause),
      (State.nat_withRstLow ..).trans (State.poweredTime_reset_ u cause),
      (State.blob_withRstLow ..).trans (State.blob_reset_ u cause (by decide))⟩
  refine ⟨fun ho hs => ⟨_, congrArg Host.Outcome.next (State.shelfReset_powered ho hs), begun 2 true (by decide)⟩,
    fun h => congrArg _ (State.shelfReset_unpowered h), fun h => congrArg _ (State.shelfRise_held h),
    fun h => congrArg _ (State.shelfRise_released h), fun hl hr => ⟨u.reset_ 6, congrArg Host.Outcome.next (if_pos ⟨hl, hr⟩), ?_⟩,
    fun h => congrArg _ (if_neg fun hd => hd.1 h)⟩
  obtain ⟨-, -, high⟩ := State.bootRecord_reset_ u 6
  rw [← State.withRstLow_self high]
  exact begun 6 false (by decide)

end Sys2Proof.Machine
end

section
/-! SUPPORT. A lane's bring-up, its credits and its transmitter (R91 to R93, R95, R96, R127). -/

namespace Sys2Proof.Machine

/-! A lane or a flow after a write -/

@[simp] theorem State.lane_setLane_same (s : State) (n : Nat) (l : LaneSt) : (s.setLane n l).lane n = l :=
  (State.lane_setLane ..).trans (if_pos rfl)
@[simp] theorem State.lane_setFlow (s : State) (k n : Nat) (g : FlowSt) : (s.setFlow k g).lane n = s.lane n := rfl
@[simp] theorem State.lane_setAdmit (s : State) (k n : Nat) (a : Admit) : (s.setAdmit k a).lane n = s.lane n := rfl
@[simp] theorem State.lane_emit (s : State) (o : Output) (n : Nat) : (s.emit o).lane n = s.lane n := rfl
@[simp] theorem State.lane_count (s : State) (k j n : Nat) : (s.count k j).lane n = s.lane n := rfl

/-! Bring-up: R91, R92 -/

theorem State.laneUp_iff {s : State} {n : Nat} : s.laneUp n = true ↔ s.laneState n = 3 := decide_eq_true_iff

theorem State.laneUp_eq_false {s : State} {n : Nat} (h : s.laneState n ≠ 3) : s.laneUp n = false := decide_eq_false h

theorem State.laneState_setLaneState (s : State) (n reason : Nat) {st : Nat} (h : st < 256) :
    (s.setLaneState n st reason).laneState n = st := by
  unfold State.laneState State.setLaneState
  rw [State.nat_setNat_same]
  omega

theorem State.pcsLock_training {s : State} {n : Nat} (hs : s.laneState n = 1) (hc : (s.lane n).cageRefused = false) :
    s.pcsLock n = ((s.setLaneState n 2 0).setLane n {
      pcs := true, lastInit := s.now, ether := s.nat Obj.etherType, shelf := s.nat Obj.shelfNumber
      domain := s.nat Obj.hallDomainId, dims := s.nat Obj.hallDimensions }).sendInit n := by
  unfold State.pcsLock
  exact if_pos ⟨hs, by rw [hc]; rfl⟩

theorem State.pcsLock_elsewhere {s : State} {n : Nat} (hs : s.laneState n ≠ 1) : s.pcsLock n = s := by
  unfold State.pcsLock
  exact if_neg fun h => hs h.1

theorem State.initTimer_due {s : State} {n : Nat} (hp : (s.lane n).pcs = true) (hs : s.laneState n = 2 ∨ s.laneState n = 4)
    (ht : (s.lane n).lastInit + 10000 ≤ s.now) : s.initTimer n = s.sendInit n := by
  have hdue : (s.lane n).lastInit + 10 * us ≤ s.now := ht
  simp [State.initTimer, hp, hs, hdue]

theorem State.initTimer_early {s : State} {n : Nat} (h : (s.lane n).pcs = false ∨ s.now < (s.lane n).lastInit + 10000) :
    s.initTimer n = s := by
  unfold State.initTimer
  refine if_neg fun hd => ?_
  simp only [Bool.and_eq_true, decide_eq_true_eq] at hd
  obtain ⟨⟨hp, -⟩, ht⟩ := hd
  obtain h | h := h
  · exact Bool.false_ne_true (h.symm.trans hp)
  · exact absurd ht (Nat.not_le_of_lt h)

/-- The payload of a LinkInit has its length, and its reserved bits are zero (Table 4.8). -/
def initShaped (b : List Nat) : Prop :=
  b.length = 32 ∧ listGet 0 b 1 / 2 = 0 ∧ listGet 0 b 2 = 0 ∧ anyNonzero (slice b 20 12) = false

section
variable {s : State} {n : Nat} {f : Frame}

theorem State.linkInit_unlocked (h : (s.lane n).pcs = false) : s.linkInit n f = s := by
  simp [State.linkInit, h]

/-- A lane in Init or Refused has nothing to drop for a LinkInit; a reason that is new to it is a fault of its port group. -/
theorem State.linkInit_refused (hp : (s.lane n).pcs = true) (hs : s.laneState n = 2 ∨ s.laneState n = 4) (hb : initShaped f.payload)
    {r : Nat} (hr : s.initReason n f.payload = r) (h0 : r ≠ 0) (hn : s.nat (Obj.linkState n) ≠ r * 256 + 4) :
    s.linkInit n f =
      let v := (s.setLaneState n 4 r).setLane n { s.lane n with peerSeen := true, gotSeen := false }
      v.raise (v.laneBlock n) clConfig r n lvBlock := by
  obtain ⟨hlen, hseen, hzero, hrest⟩ := hb
  have hup : s.laneUp n = false := State.laneUp_eq_false (by omega)
  have hlow : ¬s.laneState n < 2 ∧ s.laneState n ≠ 5 := by omega
  simp [State.linkInit, hp, hlow, hlen, hseen, hzero, hrest, hup, hr, h0, hn]

/-- What a lane learns from a LinkInit that nothing refuses (Table 4.8). -/
def LaneSt.met (l : LaneSt) (b : List Nat) : LaneSt :=
  let cr := fun (i : Nat) => beNat (slice b (8 + 2 * i) 2)
  { l with
    peerSeen := true, gotSeen := l.gotSeen || bitOf (listGet 0 b 1) 0
    adv := { v0 := cr 0, v1 := cr 1, v2 := cr 2, v3 := cr 3 }, maxPayload := beNat (slice b 16 2) }

theorem State.linkInit_taken (hp : (s.lane n).pcs = true) (hs : s.laneState n = 2 ∨ s.laneState n = 4) (hb : initShaped f.payload)
    (hr : s.initReason n f.payload = 0) :
    s.linkInit n f =
      let v := (s.setLaneState n 2 0).setLane n ((s.lane n).met f.payload)
      (if isHall n then v.setNat (Obj.peerShelf n) (listGet 0 f.payload 3) else v).laneTryUp n := by
  obtain ⟨hlen, hseen, hzero, hrest⟩ := hb
  have hup : s.laneUp n = false := State.laneUp_eq_false (by omega)
  have hlow : ¬s.laneState n < 2 ∧ s.laneState n ≠ 5 := by omega
  simp [State.linkInit, hp, hlow, hlen, hseen, hzero, hrest, hup, hr, LaneSt.met]

end

theorem State.laneTryUp_unmet {s : State} {n : Nat} (h : (s.lane n).gotSeen = false ∨ (s.lane n).sentSeen = false) :
    s.laneTryUp n = s := by
  obtain h | h := h <;> simp [State.laneTryUp, h]

theorem State.laneState_laneTryUp {s : State} {n : Nat} (hs : s.laneState n = 2) (hg : (s.lane n).gotSeen = true)
    (hn : (s.lane n).sentSeen = true) : (s.laneTryUp n).laneState n = 3 := by
  have hup := s.laneState_setLaneState n 0 (st := 3) (by decide)
  unfold State.laneTryUp
  rw [if_pos (by simp [hs, hg, hn])]
  dsimp only
  split <;> exact hup

/-- Coming Up, a lane keeps what it has consumed of its peer's buffer. -/
theorem State.consumed_laneTryUp (s : State) (n : Nat) : ((s.laneTryUp n).lane n).consumed = (s.lane n).consumed := by
  unfold State.laneTryUp
  dsimp only
  split
  · split <;> simp
  · rfl

/-! Credits: R93 -/

theorem State.linkCredit_up {s : State} {n : Nat} (h : s.laneState n = 3) (f : Frame) :
    s.linkCredit n f = s.setLane n { s.lane n with returned :=
      { v0 := f.operand / 2 ^ 48 % 65536, v1 := f.operand / 2 ^ 32 % 65536
        v2 := f.operand / 2 ^ 16 % 65536, v3 := f.operand % 65536 } } := if_pos (State.laneUp_iff.mpr h)

theorem State.linkCredit_down {s : State} {n : Nat} (h : s.laneState n ≠ 3) (f : Frame) : s.linkCredit n f = s :=
  if_neg fun hu => h (State.laneUp_iff.mp hu)

/-- A lane owes its peer a LinkCredit: blocks have been unreported for 500 ns, or the last one went 10 µs ago. -/
def State.creditDue (s : State) (n : Nat) : Prop :=
  (∃ x, (s.lane n).unreportedSince = some x ∧ x + 500 ≤ s.now) ∨ (s.lane n).lastCredit + 10000 ≤ s.now

/-- Only an Up lane that owes a LinkCredit sends one. -/
theorem State.creditTimer_due {s : State} {n : Nat} (hs : s.laneState n = 3) (hd : s.creditDue n) : s.creditTimer n = s.sendCredit n := by
  unfold State.creditDue at hd
  unfold State.creditTimer
  cases hx : (s.lane n).unreportedSince <;> grind [State.laneUp_iff]

theorem State.creditTimer_idle {s : State} {n : Nat} (h : s.laneState n ≠ 3 ∨ ¬s.creditDue n) : s.creditTimer n = s := by
  unfold State.creditDue at h
  unfold State.creditTimer
  cases hx : (s.lane n).unreportedSince <;> grind [State.laneUp_iff]

/-! Loss of the lane: R127 -/

theorem State.laneFails_up {s : State} {n : Nat} (h : s.laneState n = 3) :
    s.laneFails n = (s.laneDrop n 1 0).raise (s.laneBlock n) clCommunication 2 n lvBlock := if_pos h

theorem State.laneFails_down {s : State} {n : Nat} (h : s.laneState n < 2) : s.laneFails n = s := by
  have h3 : s.laneState n ≠ 3 := by omega
  have h24 : ¬(s.laneState n = 2 ∨ s.laneState n = 4) := by omega
  unfold State.laneFails
  exact (if_neg h3).trans (if_neg fun hd => h24 hd.1)

/-! The transmitter: R95, R96 -/

theorem leastBy_eq_none {f : Nat → List Nat} {l : List Nat} (h : leastBy f l = none) : l = [] := by
  cases l with
  | nil => rfl
  | cons a r => grind [leastBy]

/-- Ordered by themselves alone, numbers have their minimum as the least. -/
theorem leastBy_singleton_isLeast {l : List Nat} {v : Nat} (h : leastBy (fun v => [v]) l = some v) : v ∈ l ∧ ∀ a ∈ l, v ≤ a := by
  induction l generalizing v with
  | nil => cases h
  | cons a r ih =>
    unfold leastBy at h
    cases hr : leastBy (fun v => [v]) r with
    | none =>
      obtain rfl := leastBy_eq_none hr
      grind
    | some b =>
      obtain ⟨hm, hb⟩ := ih hr
      have hlt : List.lex [b] [a] = decide (b < a) := by simp [List.lex]
      grind

/-- What the transmitter picks from: the frames that compete, without those of VC0 when 16 of them went and others wait (R96). -/
def State.contenders (s : State) (n : Nat) : List QFrame :=
  let c := (s.lane n).txq.filter (s.competes n)
  if 16 ≤ (s.lane n).vc0Run ∧ !(c.filter (fun q => decide (3 ≤ frameLevel q))).isEmpty then
    c.filter (fun q => decide (frameLevel q ≠ 2))
  else c

theorem State.pick_eq_bind (s : State) (n : Nat) :
    s.pick n = (leastLevel (s.contenders n)).bind fun v => (s.contenders n).find? (fun q => frameLevel q = v) := by
  unfold State.pick State.contenders
  dsimp only
  split
  all_goals
    rename_i h
    rw [h]
    rfl

/-- The frame picked is of the least level among those that the transmitter picks from. -/
theorem State.pick_isLeast {s : State} {n : Nat} {q : QFrame} (h : s.pick n = some q) :
    q ∈ s.contenders n ∧ ∀ z ∈ s.contenders n, frameLevel q ≤ frameLevel z := by
  rw [State.pick_eq_bind, Option.bind_eq_some_iff] at h
  obtain ⟨v, hv, hfind⟩ := h
  have hq : frameLevel q = v := by simpa using List.find?_some hfind
  obtain ⟨-, hle⟩ := leastBy_singleton_isLeast hv
  exact ⟨List.mem_of_find?_eq_some hfind, fun z hz => hq ▸ hle _ (List.mem_map_of_mem hz)⟩

theorem State.mem_contenders {s : State} {n : Nat} {q : QFrame} (h : q ∈ s.contenders n) :
    q ∈ (s.lane n).txq ∧ s.competes n q = true := by
  unfold State.contenders at h
  dsimp only at h
  split at h
  · exact List.mem_filter.mp (List.mem_filter.mp h).1
  · exact List.mem_filter.mp h

theorem State.contenders_of_vc0Run_lt {s : State} {n : Nat} (h : (s.lane n).vc0Run < 16) :
    s.contenders n = (s.lane n).txq.filter (s.competes n) := if_neg fun hc => absurd hc.1 (Nat.not_le_of_lt h)

theorem State.transmitSelect_picked {s : State} {n : Nat} {q : QFrame} (hp : (s.lane n).pcs = true) (hq : s.pick n = some q) :
    s.transmitSelect n = s.transmit n q := by
  simp [State.transmitSelect, hp, hq]

theorem State.transmitSelect_idle {s : State} {n : Nat} (h : (s.lane n).pcs = false ∨ s.pick n = none) : s.transmitSelect n = s := by
  obtain h | h := h <;> simp [State.transmitSelect, h]

theorem State.consumed_transmit (s : State) (n : Nat) {q : QFrame} (hq : isLinkOp q.frame.op = false) :
    ((s.transmit n q).lane n).consumed =
      (s.lane n).consumed.set q.frame.vc (((s.lane n).consumed.get q.frame.vc + frameBlocks q.frame) % 65536) := by
  unfold State.transmit
  extract_lets l fl sent f0 f link lvl l1 s1 kept s2 fab s3 s4
  have h2 : s2.lane n = l1 := by unfold s2; split <;> simp [s1]
  have h3 : s3.lane n = l1 := by unfold s3; split <;> exact h2
  have h4 : s4.lane n = l1 := by unfold s4; split <;> exact h3
  have hf : f.op = q.frame.op ∧ f.vc = q.frame.vc ∧ f.payload = q.frame.payload := by unfold f; split <;> exact ⟨rfl, rfl, rfl⟩
  obtain ⟨hop, hvc, hpay⟩ := hf
  rw [State.consumed_laneTryUp, State.lane_emit, h4]
  simp [l1, link, hop, hvc, hq, frameBlocks, frameBytes, hpay, l]

/-- A queued frame has waited long enough for its next promotion (R95). -/
def QFrame.ripe (q : QFrame) (wait : Nat) : Prop :=
  isLinkOp q.frame.op = false ∧ isFlowOp q.frame.op = false ∧
    ((q.frame.vc = 2 ∧ q.promo = 0 ∧ 50000 ≤ wait) ∨ (q.frame.vc = 3 ∧ q.promo = 0 ∧ 50000 ≤ wait) ∨
      (q.frame.vc = 3 ∧ q.promo = 1 ∧ 100000 ≤ wait))

theorem State.promote_ripe {s : State} {n i : Nat} {q : QFrame} (hq : (s.lane n).txq[i]? = some q) (h : q.ripe (s.now - q.at_)) :
    s.promote n i = (s.setLane n { s.lane n with txq := (s.lane n).txq.set i { q with promo := q.promo + 1 } }).count
      (Obj.agedPromotions n) := by
  unfold QFrame.ripe at h
  unfold State.promote
  grind

theorem State.promote_unripe {s : State} {n i : Nat} {q : QFrame} (hq : (s.lane n).txq[i]? = some q) (h : ¬q.ripe (s.now - q.at_)) :
    s.promote n i = s := by
  unfold QFrame.ripe at h
  unfold State.promote
  grind

/-- Settles O52: the bring-up, the credits, the loss and the transmitter of a lane, each by its own lemma. -/
theorem linksComeUpAndSendWithinCredits : Obligations.LinksComeUpAndSendWithinCredits := by
  intro t i n f cor unc s u k l st b cr shaped r met c due
  refine ⟨fun hs hc => congrArg _ (State.pcsLock_training hs hc), fun hs => congrArg _ (State.pcsLock_elsewhere hs),
    fun hp hs ht => congrArg _ (State.initTimer_due hp hs ht), fun h => congrArg _ (State.initTimer_early h),
    fun hb hs h0 hn => congrArg _ (State.linkInit_refused hb.1 hs hb.2 rfl h0 hn),
    fun hb hs hr => congrArg _ (State.linkInit_taken hb.1 hs hb.2 hr), fun hp => congrArg _ (State.linkInit_unlocked hp),
    fun y hs hg hn => State.laneState_laneTryUp hs hg hn, fun y h => State.laneTryUp_unmet h,
    fun hs => congrArg _ (State.linkCredit_up hs f), fun hs => congrArg _ (State.linkCredit_down hs f),
    fun hs hd => congrArg _ (State.creditTimer_due hs hd), fun h => congrArg _ (State.creditTimer_idle h),
    fun hc => congrArg _ (State.laneFails_up hc), fun hc => congrArg _ (State.laneFails_down hc),
    fun q hp hq => congrArg _ (State.transmitSelect_picked hp hq), fun h => congrArg _ (State.transmitSelect_idle h),
    fun y q hq => ?_, fun y q hq => State.consumed_transmit y k hq, fun q hq =>
      ⟨fun h => congrArg _ (State.promote_ripe hq h), fun h => congrArg _ (State.promote_unripe hq h)⟩⟩
  obtain ⟨hmem, hle⟩ := State.pick_isLeast hq
  obtain ⟨htx, hcomp⟩ := State.mem_contenders hmem
  refine ⟨htx, hcomp, fun hrun z hz hcz => hle z ?_⟩
  rw [State.contenders_of_vc0Run_lt hrun]
  exact List.mem_filter.mpr ⟨hz, hcz⟩

end Sys2Proof.Machine
end

section
/-! SUPPORT. Flows: the receive window, acknowledgement, retransmission and failure (R83, R98, R100 to R102). -/

namespace Sys2Proof.Machine

/-! The receive window: R98 -/

section
variable {g : FlowSt} {f : Frame}

theorem flowArrive_received (h : (f.seq + 65536 - g.cum) % 65536 = 0 ∨ 32768 ≤ (f.seq + 65536 - g.cum) % 65536) :
    flowArrive g f = (0, g) := if_pos h

theorem flowArrive_beyond (h : 256 < (f.seq + 65536 - g.cum) % 65536) (hlt : (f.seq + 65536 - g.cum) % 65536 < 32768) :
    flowArrive g f = (1, g) := by
  unfold flowArrive
  exact (if_neg (by omega)).trans (if_pos h)

/-- Inside the window a frame is held once. -/
theorem flowArrive_within (h : 1 ≤ (f.seq + 65536 - g.cum) % 65536) (hle : (f.seq + 65536 - g.cum) % 65536 ≤ 256) :
    flowArrive g f = if ∃ e ∈ g.held, e.seq = f.seq then (2, g) else (3, { g with held := g.held ++ [f] }) := by
  unfold flowArrive
  refine (if_neg (by omega)).trans ((if_neg (by omega)).trans ?_)
  simp only [List.any_eq_true, decide_eq_true_eq]

end

/-- A flow after it has given one held frame. -/
def FlowSt.given (g : FlowSt) (x : Frame) : FlowSt :=
  { g with cum := x.seq, held := g.held.filter (fun h => h.seq != x.seq), sinceAck := g.sinceAck + 1 }

/-- The frame given next is held and follows Cumulative. -/
theorem flowDrain_succ (m : Nat) (g : FlowSt) :
    flowDrain (m + 1) g = ([], g) ∨
    ∃ x ∈ g.held, x.seq = (g.cum + 1) % 65536 ∧ flowDrain (m + 1) g = (x :: (flowDrain m (g.given x)).1, (flowDrain m (g.given x)).2) := by
  rw [flowDrain]
  split
  · exact Or.inl rfl
  · rename_i x hx
    exact Or.inr ⟨x, List.mem_of_find?_eq_some hx, by simpa using List.find?_some hx, rfl⟩

theorem flowDrain_cum (m : Nat) (g : FlowSt) : (flowDrain m g).2.cum % 65536 = (g.cum + (flowDrain m g).1.length) % 65536 := by
  induction m generalizing g with
  | zero => rfl
  | succ m ih =>
    obtain h | ⟨x, -, hseq, h⟩ := flowDrain_succ m g
    · rw [h]; rfl
    · have hcum : (g.given x).cum = x.seq := rfl
      rw [h, List.length_cons, ih, hcum, hseq]
      omega

theorem flowDrain_getElem? (m : Nat) {g : FlowSt} {j : Nat} {e : Frame} (h : (flowDrain m g).1[j]? = some e) :
    e.seq = (g.cum + 1 + j) % 65536 ∧ e ∈ g.held := by
  induction m generalizing g j with
  | zero => simp [flowDrain] at h
  | succ m ih =>
    obtain hd | ⟨x, hx, hseq, hd⟩ := flowDrain_succ m g
    · simp [hd] at h
    · rw [hd] at h
      cases j with
      | zero =>
        obtain rfl : x = e := by simpa using h
        exact ⟨hseq, hx⟩
      | succ j =>
        obtain ⟨he, hm⟩ := ih (g := g.given x) (by simpa using h)
        have hcum : (g.given x).cum = x.seq := rfl
        exact ⟨by omega, (List.mem_filter.mp hm).1⟩

/-- Giving held frames holds no new one and leaves the sending side as it was. -/
theorem flowDrain_frame (m : Nat) (g : FlowSt) :
    (∀ e ∈ (flowDrain m g).2.held, e ∈ g.held) ∧ (flowDrain m g).2.unacked = g.unacked ∧ (flowDrain m g).2.next = g.next := by
  induction m generalizing g with
  | zero => exact ⟨fun _ h => h, rfl, rfl⟩
  | succ m ih =>
    obtain h | ⟨x, -, -, h⟩ := flowDrain_succ m g
    · rw [h]
      exact ⟨fun _ h => h, rfl, rfl⟩
    · obtain ⟨held, unacked, next⟩ := ih (g.given x)
      rw [h]
      exact ⟨fun e he => (List.mem_filter.mp (held e he)).1, unacked, next⟩

/-! Frames that are dropped: R83 -/

section
variable {s : State} {n : Nat}

theorem State.rxFrame_unlocked (h : (s.lane n).pcs = false) (ok : Bool) (b : List Nat) : s.rxFrame n ok b = s := by
  simp [State.rxFrame, h]

theorem State.rxFrame_fcsError (h : (s.lane n).pcs = true) (b : List Nat) :
    s.rxFrame n false b = (s.countDiscard n).count (Obj.fcsErrors n) := by
  simp [State.rxFrame, h]

theorem State.rxFrame_envelopeError (h : (s.lane n).pcs = true) {b : List Nat} (hb : envelopeOk (s.lane n).ether b = false) :
    s.rxFrame n true b = s.countDiscard n := by
  simp [State.rxFrame, h, hb]

end

/-! Acknowledgement and retransmission: R100 to R102 -/

@[simp] theorem State.flow_setFlow_same (s : State) (k : Nat) (g : FlowSt) : (s.setFlow k g).flow k = g :=
  (State.flow_setFlow ..).trans (if_pos rfl)

@[simp] theorem State.flow_enqueue (s : State) (n k : Nat) (f : Frame) : (s.enqueue n f).flow k = s.flow k := by
  unfold State.enqueue
  split <;> rfl

@[simp] theorem State.enqueue_pool (s : State) (n : Nat) (f : Frame) : (s.enqueue n f).pool = s.pool := by
  unfold State.enqueue
  split <;> rfl

/-- A frame sent again stays the one it was, and unacknowledged. -/
theorem State.unacked_frames_retransmit (s : State) (k : Nat) (u : Unacked) :
    ((s.retransmit k u).flow k).unacked.map (·.frame) = (s.flow k).unacked.map (·.frame) := by
  unfold State.retransmit
  dsimp only
  split
  all_goals
    simp only [State.flow_enqueue, State.flow_setFlow_same, List.map_map]
    exact List.map_congr_left fun v _ => by dsimp only [Function.comp_apply]; split <;> rfl

theorem State.cum_retransmit (s : State) (k : Nat) (u : Unacked) : ((s.retransmit k u).flow k).cum = (s.flow k).cum := by
  unfold State.retransmit
  dsimp only
  split <;> simp

theorem State.retransmit_pool (s : State) (k : Nat) (u : Unacked) : (s.retransmit k u).pool = s.pool := by
  unfold State.retransmit
  dsimp only
  split <;> simp

/-- The unacknowledged frames that an Ack with Cumulative `cum` does not cover (R100). -/
def FlowSt.uncovered (g : FlowSt) (cum : Nat) : List Unacked :=
  g.unacked.filter (fun u => !decide ((cum + 65536 - u.frame.seq) % 65536 < 32768))

theorem FlowSt.mem_uncovered {g : FlowSt} {cum : Nat} {e : Unacked} :
    e ∈ g.uncovered cum ↔ e ∈ g.unacked ∧ 32768 ≤ (cum + 65536 - e.frame.seq) % 65536 := by
  simp [FlowSt.uncovered]

theorem State.unacked_frames_ackIn (s : State) (k : Nat) (f : Frame) :
    ((s.ackIn k f).flow k).unacked.map (·.frame) = ((s.flow k).uncovered (f.operand % 65536)).map (·.frame) := by
  unfold State.ackIn
  extract_lets fl cum past held left rst s1 again
  rw [State.forEach_frame (fun t => (t.flow k).unacked.map (·.frame)) _ (fun t u => t.unacked_frames_retransmit k u)]
  simp [s1, left, fl, past, cum, FlowSt.uncovered]

theorem State.cum_ackIn (s : State) (k : Nat) (f : Frame) : ((s.ackIn k f).flow k).cum = (s.flow k).cum := by
  unfold State.ackIn
  extract_lets fl cum past held left rst s1 again
  rw [State.forEach_frame (fun t => (t.flow k).cum) _ (fun t u => t.cum_retransmit k u)]
  simp [s1, fl]

theorem State.ackIn_pool (s : State) (k : Nat) (f : Frame) : (s.ackIn k f).pool = s.pool :=
  State.forEach_frame State.pool _ (fun t u => t.retransmit_pool k u) _ _

/-- What is unacknowledged after an Ack was so before, and the Ack does not cover it. -/
theorem State.exists_uncovered_of_mem_ackIn {s : State} {k : Nat} {f : Frame} {e : Unacked} (h : e ∈ ((s.ackIn k f).flow k).unacked) :
    ∃ g ∈ (s.flow k).uncovered (f.operand % 65536), g.frame = e.frame := by
  have hm := List.mem_map_of_mem (f := Unacked.frame) h
  rw [State.unacked_frames_ackIn] at hm
  exact List.mem_map.mp hm

theorem State.ackTimer_due {s : State} {k d : Nat} (hd : (s.flow k).ackDue = some d) (h : d ≤ s.now) : s.ackTimer k = s.sendAck k := by
  simp [State.ackTimer, hd, h]

theorem State.ackTimer_early {s : State} {k d : Nat} (hd : (s.flow k).ackDue = some d) (h : s.now < d) : s.ackTimer k = s := by
  simp [State.ackTimer, hd, Nat.not_le_of_lt h]

theorem State.ackTimer_none {s : State} {k : Nat} (hd : (s.flow k).ackDue = none) : s.ackTimer k = s := by
  simp [State.ackTimer, hd]

/-- With no FlowReset outstanding only the frame named can be late. -/
theorem State.retryDue_found {s : State} {k seq : Nat} {e : Unacked} (hr : (s.flow k).resetting = none)
    (he : (s.flow k).unacked.find? (fun u => u.frame.seq = seq) = some e) :
    s.retryDue k seq =
      if s.now < e.sentAt + s.retryTimeout k then s else if 8 ≤ e.tries then s.flowExhausted k else s.retransmit k e := by
  unfold State.retryDue
  simp only [hr, he]

theorem State.routeTimeout_due {s : State} {k d : Nat} (hd : (s.flow k).downSince = some d) (hk : 64 ≤ flowNode k)
    (h : d + 1000000 ≤ s.now) : s.routeTimeout k = s.flowFail k := by
  have hdue : d + ms ≤ s.now := h
  simp [State.routeTimeout, hd, hk, hdue]

theorem State.routeTimeout_none {s : State} {k : Nat} (hd : (s.flow k).downSince = none) : s.routeTimeout k = s := by
  simp [State.routeTimeout, hd]

/-- Settles O54: the receive window, the frames dropped, and the acknowledgement, retransmission and failure of a flow. -/
theorem flowsDeliverInOrderOrFail : Obligations.FlowsDeliverInOrderOrFail := by
  intro t flow seq cor unc n f ok b s u k c fk fl x limit
  refine ⟨fun g => ⟨flowArrive_received, flowArrive_beyond, fun h hle hheld => (flowArrive_within h hle).trans (if_pos hheld),
      fun h hle hheld => (flowArrive_within h hle).trans (if_neg fun ⟨e, he, heq⟩ => hheld e he heq)⟩,
    fun m g => ?_, fun hp => congrArg _ (State.rxFrame_fcsError hp b), fun hp hb => congrArg _ (State.rxFrame_envelopeError hp hb),
    fun hp => congrArg _ (State.rxFrame_unlocked hp ok b), ?_, fun d hd h => congrArg _ (State.ackTimer_due hd h),
    fun d hd h => congrArg _ (State.ackTimer_early hd h), fun hd => congrArg _ (State.ackTimer_none hd), rfl,
    fun e hr he => ?_, fun d hd hk h => congrArg _ (State.routeTimeout_due hd hk h), fun hd => congrArg _ (State.routeTimeout_none hd)⟩
  · obtain ⟨held, unacked, next⟩ := flowDrain_frame m g
    exact ⟨flowDrain_cum m g, fun j e => flowDrain_getElem? m, held, unacked, next⟩
  · refine ⟨u.ackIn fk f, rfl, fun e he => ?_, fun e he => ?_, State.cum_ackIn u fk f, State.ackIn_pool u fk f⟩
    all_goals
      obtain ⟨g, hg, hge⟩ := State.exists_uncovered_of_mem_ackIn he
      obtain ⟨hmem, hpast⟩ := FlowSt.mem_uncovered.mp hg
    · exact ⟨g, hmem, hge⟩
    · rwa [hge] at hpast
  · have found := State.retryDue_found hr he
    exact ⟨fun h => congrArg _ (found.trans (if_pos h)),
      fun h h8 => congrArg _ (found.trans ((if_neg (Nat.not_lt_of_le h)).trans (if_neg (Nat.not_le_of_lt h8)))),
      fun h h8 => congrArg _ (found.trans ((if_neg (Nat.not_lt_of_le h)).trans (if_pos h8)))⟩

end Sys2Proof.Machine
end

section
/-! SUPPORT. Requests: their checks, what a request of one frame comes to, its signal, and where return frames and broadcasts go (R87,
R89, R90, R104, R106, R108, R109, R111, R113, R116, R117). -/

namespace Sys2Proof.Machine

/-! The checks: R87, R110, R113 -/

/-- A source that its tray link does not have is refused before anything else. -/
theorem State.frameCheck_sourceInvalid {s : State} {n : Nat} {f : Frame} (hn : isHall n = false)
    (h : f.srcShelf ≠ s.own ∨ s.epOnLink n f.srcEp = false) : s.frameCheck n f = rsSourceInvalid := by
  unfold State.frameCheck
  exact if_pos (by obtain h | h := h <;> simp [hn, h])

theorem opPermitted_read {f : Frame} (ho : f.op = opRead) (h : opPermitted f = true) : 1 ≤ f.vc ∧ addrRegion f.addr ≤ 6 := by
  simpa [opPermitted, ho] using h

/-- A check that answers no refusal has not been failed. -/
theorem not_and_eq_zero_of_ite {p : Prop} [Decidable p] {c r : Nat} (h : (if p then c else r) = 0) (hc : c ≠ 0 := by decide) :
    ¬p ∧ r = 0 := by
  split at h
  · exact absurd h hc
  · exact ⟨‹_›, h⟩

/-- A Read that passes every check is a bulk one of whole words in a region below 7, of at most 16 MiB and in one frame. -/
theorem State.read_of_frameCheck_eq_zero {s : State} {n : Nat} {f : Frame} (ho : f.op = opRead) (h : s.frameCheck n f = 0) :
    1 ≤ f.vc ∧ addrRegion f.addr ≤ 6 ∧ f.addr % 8 = 0 ∧ 8 ≤ f.operand ∧ f.operand ≤ 2 ^ 24 ∧ f.operand % 8 = 0 ∧
      f.first = true ∧ f.last = true := by
  unfold State.frameCheck at h
  -- one line per check, in the order of frameCheck
  obtain ⟨-, h⟩ := not_and_eq_zero_of_ite h
  obtain ⟨-, h⟩ := not_and_eq_zero_of_ite h
  obtain ⟨-, h⟩ := not_and_eq_zero_of_ite h
  obtain ⟨-, h⟩ := not_and_eq_zero_of_ite h
  obtain ⟨permitted, h⟩ := not_and_eq_zero_of_ite h
  obtain ⟨aligned, h⟩ := not_and_eq_zero_of_ite h
  obtain ⟨length, h⟩ := not_and_eq_zero_of_ite h
  obtain ⟨-, h⟩ := not_and_eq_zero_of_ite h
  obtain ⟨single, -⟩ := not_and_eq_zero_of_ite h
  obtain ⟨hvc, hregion⟩ := opPermitted_read ho (by simpa using permitted)
  have hw : f.op ≠ opWrite := by rw [ho]; decide
  have hframe : f.first = true ∧ f.last = true := by simpa [hw] using single
  exact ⟨hvc, hregion, by omega, by omega, by omega, by omega, hframe⟩

/-! A request of one frame: R104, R106, R108, R111 -/

/-- A request ends on this shelf: its address lies here, or is a broadcast's. -/
def State.isHere (s : State) (f : Frame) : Prop := addrShelf f.addr = s.own ∨ addrRegion f.addr = 15

section
variable {s : State} {n : Nat} {f : Frame}

theorem State.xferFrame_refused (hf : f.first = true) (hl : f.last = true) (hc : s.frameCheck n f ≠ 0) :
    s.xferFrame n none f = (none, s.refuseRequest n f (s.frameCheck n f)) := by
  simp [State.xferFrame, hf, hl, hc]

theorem State.xferFrame_routeless (hf : f.first = true) (hl : f.last = true) (hc : s.frameCheck n f = 0) (he : ¬s.isHere f)
    (hr : (s.route (addrShelf f.addr) 0).isNone = true) : s.xferFrame n none f = (none, s.refuseRequest n f rsRouteDown) := by
  obtain ⟨hs, h15⟩ := not_or.mp he
  simp [State.xferFrame, hf, hl, hc, hs, h15, Option.isNone_iff_eq_none.mp hr]

theorem State.xferFrame_resent (hf : f.first = true) (hl : f.last = true) (hc : s.frameCheck n f = 0) (he : ¬s.isHere f)
    (hr : (s.route (addrShelf f.addr) 0).isSome = true) : s.xferFrame n none f = (none, s.newTid.2.resend f s.newTid.1) := by
  obtain ⟨hs, h15⟩ := not_or.mp he
  obtain ⟨m, hm⟩ := Option.isSome_iff_exists.mp hr
  simp [State.xferFrame, hf, hl, hc, hs, h15, hm]

theorem State.xferFrame_read (ho : f.op = opRead) (hf : f.first = true) (hc : s.frameCheck n f = 0) (he : s.isHere f) :
    s.xferFrame n none f = (none, s.readHere f) := by
  obtain hs | h15 := he
  · simp [State.xferFrame, hf, hc, hs, ho]
  · simp [State.xferFrame, hf, hc, h15, ho]

theorem State.xferFrame_broadcast (ho : f.op = opWrite) (hf : f.first = true) (hc : s.frameCheck n f = 0) (h15 : addrRegion f.addr = 15) :
    s.xferFrame n none f = (none, (s.broadcastHere f true).broadcastCopies f (fun _ => true)) := by
  have hop : opWrite ≠ opRead := by decide
  simp [State.xferFrame, hf, hc, h15, ho, hop]

/-- A Write of one frame to the dictionary mirror. -/
theorem State.xferFrame_mirrorWrite (ho : f.op = opWrite) (hf : f.first = true) (hl : f.last = true) (hc : s.frameCheck n f = 0)
    (he : s.isHere f) (h4 : addrRegion f.addr = 4) :
    s.xferFrame n none f = (none, s.writeEnd n f
      { head := f, ranges := [(addrOffset f.addr, f.payload.length)], parts := [(addrOffset f.addr, f.payload)], frames := 1 }) := by
  have hs : addrShelf f.addr = s.own := he.resolve_right (by omega)
  have hop : opWrite ≠ opRead := by decide
  simp [State.xferFrame, State.writeFrame, hf, hl, hc, hs, ho, hop, h4]

/-- A last frame that belongs to no transfer is refused (R104), any other is dropped. -/
theorem State.xferFrame_strayLast (hf : f.first = false) (hl : f.last = true) :
    s.xferFrame n none f = (none, s.refuseRequest n f rsTransferInvalid) := by
  simp [State.xferFrame, hf, hl]

theorem State.xferFrame_strayMiddle (hf : f.first = false) (hl : f.last = false) :
    s.xferFrame n none f = (none, s.countDiscard n) := by
  simp [State.xferFrame, hf, hl]

end

/-! The signal of a Write: R106, R107 -/

/-- The operation on its word that a signal of operation 1, 2 or 3 asks for. -/
def signalWordOp (k : Nat) : Nat := if k = 1 then opFetchAdd else if k = 2 then opWriteIfEmptyFill else opForcedWrite

/-- A signal asks its word once; a refusal that no answer carries is counted. -/
theorem State.signal_asked {s : State} {f : Frame} (hs : f.signal = true) (h1 : 1 ≤ f.signalOp) (hy : s.syncService = true) :
    s.signal f =
      let r := s.wordOp (signalWordOp f.signalOp) f.operand 0 f.tenant f.signalWord
      if r.1.1 = 0 then ((0, 0), r.2)
      else ((rsSignalRejected, r.1.1),
        if f.respReq then r.2 else { r.2 with fab := { r.2.fab with signalFailures := r.2.fab.signalFailures + 1 } }) := by
  have h0 : f.signalOp ≠ 0 := by omega
  unfold State.signal
  rw [if_neg (by simp [hs]), if_neg h0]
  dsimp only
  rw [if_pos hy]
  rfl

theorem State.signal_answer {s : State} {f : Frame} (hs : f.signal = true) (h1 : 1 ≤ f.signalOp) (hy : s.syncService = true) :
    let r := s.wordOp (signalWordOp f.signalOp) f.operand 0 f.tenant f.signalWord
    (s.signal f).1 = (if r.1.1 = 0 then (0, 0) else (rsSignalRejected, r.1.1)) ∧ (s.signal f).2.pool = r.2.pool := by
  rw [State.signal_asked hs h1 hy]
  generalize s.wordOp (signalWordOp f.signalOp) f.operand 0 f.tenant f.signalWord = r
  by_cases hr : r.1.1 = 0
  · simp [hr]
  · by_cases ha : f.respReq = true <;> simp [hr, ha]

/-! Return frames: R90 -/

section
variable {s : State} {f : Frame}

theorem State.returnFrame_onward (h : field f.addr 51 44 ≠ s.own) : s.returnFrame f = (s.onward (field f.addr 51 44) f).getD s := if_pos h

theorem State.returnFrame_tray {m : Nat} (h : field f.addr 51 44 = s.own) (ht : s.trayOf (field f.addr 43 28) = some m) :
    s.returnFrame f = (s.ownTid f).2.sendFlow (flowKey (trayNode m) f.vc) (s.ownTid f).1 := by
  simp [State.returnFrame, h, ht]

theorem State.returnFrame_agent (h : field f.addr 51 44 = s.own) (ht : s.trayOf (field f.addr 43 28) = none) :
    s.returnFrame f =
      if field f.addr 43 28 = 0x1000 ∧ f.op = opRelease then s.releaseIn f
      else if field f.addr 43 28 = 0x1000 ∧ f.op = opWriteResponse then s.peerAnswer f.tid f.srcShelf f.result
      else s := by
  simp [State.returnFrame, h, ht]

end

/-! Broadcasts: R117 -/

theorem State.broadcastIn_tray {s : State} {n : Nat} {f : Frame} (hn : isHall n = false) : s.broadcastIn n f = s := by
  simp [State.broadcastIn, hn]

theorem State.broadcastIn_hall {s : State} {n b : Nat} {f : Frame} (hn : isHall n = true)
    (hb : baseLink (s.nat Obj.hallDimensions) (n - 36) = some b) :
    s.broadcastIn n f = if s.frameCheck n f ≠ 0 then s.countDiscard n
      else (s.broadcastHere f false).broadcastCopies f (fun e => decide (linkDim (s.nat Obj.hallDimensions) b < e)) := by
  simp [State.broadcastIn, hn, hb]

/-- Settles O55: the checks, a request of one frame, the signal, return frames and broadcasts, each by its own lemma. -/
theorem requestsAreCheckedAndAnswered : Obligations.RequestsAreCheckedAndAnswered := by
  intro t n f s u k rd wr here data end_ mine dims
  have read {p : Option XferIn} {v : State} (h : u.xferFrame k none rd = (p, v)) : exec (.read t n f) s = .next v :=
    congrArg (fun r : Option XferIn × State => (.next r.2 : Res)) h
  have write {p : Option XferIn} {v : State} (h : u.xferFrame k none wr = (p, v)) : exec (.write t n [f]) s = .next v :=
    congrArg (fun r : Option XferIn × State => (.next r.2 : Res)) h
  have returned {v : State} (h : u.returnFrame f = v) : exec (.returnFrame t f) s = .next v := congrArg _ h
  refine ⟨fun hf hc hl => read (State.xferFrame_refused hf hl hc), fun hf hc hh _ => read (State.xferFrame_read rfl hf hc hh),
    fun hf hl hc hh hr => read (State.xferFrame_resent hf hl hc hh hr),
    fun hf hl hc hh hr => read (State.xferFrame_routeless hf hl hc hh hr),
    fun y g hn h => State.frameCheck_sourceInvalid hn h, fun y g ho h => State.read_of_frameCheck_eq_zero ho h, rfl,
    fun hf hl => write (State.xferFrame_strayLast hf hl), fun hf hl => write (State.xferFrame_strayMiddle hf hl),
    fun hf hl hc => write (State.xferFrame_refused hf hl hc), fun hf hl hc hh hr => write (State.xferFrame_resent hf hl hc hh hr),
    fun hf _ hc _ h15 => write (State.xferFrame_broadcast rfl hf hc h15),
    fun hf hl hc hh h4 => write (State.xferFrame_mirrorWrite rfl hf hl hc hh h4), fun y g hs h1 hy => State.signal_answer hs h1 hy,
    fun hm => returned (State.returnFrame_onward hm), fun m hm ht => returned (State.returnFrame_tray hm ht),
    fun hm ht he ho => returned ((State.returnFrame_agent hm ht).trans (if_pos ⟨he, ho⟩)),
    fun hm ht he ho => returned ((State.returnFrame_agent hm ht).trans ((if_neg ?_).trans (if_pos ⟨he, ho⟩))),
    fun hm ht he => returned ((State.returnFrame_agent hm ht).trans ((if_neg fun h => he h.1).trans (if_neg fun h => he h.1))),
    fun hn => congrArg _ (State.broadcastIn_tray hn), fun l hn hb =>
      ⟨fun hc => congrArg _ ((State.broadcastIn_hall hn hb).trans (if_pos hc)),
        fun hc => congrArg _ ((State.broadcastIn_hall hn hb).trans (if_neg fun h => h hc))⟩⟩
  rintro ⟨-, hrel⟩
  exact absurd (ho.symm.trans hrel) (by decide)

end Sys2Proof.Machine
end

section
/-! SUPPORT. The six word operations: what passes Table 5.2, what each does to its word, and the SyncResponse (R85, R132, Tables 5.2, 5.3). -/

namespace Sys2Proof.Machine

/-- The answer to a word operation: with the code of a failed precondition the word as it stands, else its data before and its full bit and
generation after. -/
def State.answerWord (s : State) (f : Frame) : Except Nat PWord → State
  | .error c => s.syncResponse f c (s.word (frameWord f)).data (s.word (frameWord f)).full (s.word (frameWord f)).gen
  | .ok q => (s.putWord (frameWord f) q).syncResponse f rsOk (s.word (frameWord f)).data q.full q.gen

section
variable {s : State} {op : Nat} {f : Frame}

theorem State.syncOp_unserved (h : s.syncService = false) : s.syncOp op f = s.answerWord f (.error rsStateRefused) := by
  unfold State.syncOp
  exact if_pos (by rw [h]; rfl)

variable (hs : s.syncService = true) (hl : f.payload.length = if op = opCompareSwap then 8 else 0)
include hs hl

/-- Served and of the right length, an operation answers what its word operation comes to. -/
theorem State.syncOp_served :
    s.syncOp op f =
      let r := s.wordOp op f.operand (leNat (f.payload.take 8)) f.tenant (frameWord f)
      r.2.syncResponse f r.1.1 r.1.2.1 r.1.2.2.1 r.1.2.2.2 := by
  unfold State.syncOp
  exact (if_neg (by simp [hs])).trans (if_neg (not_not_intro hl))

theorem State.syncOp_refused {c : Nat} (hc : s.wordCheck op (frameWord f) f.tenant = some c) :
    s.syncOp op f = s.answerWord f (.error c) := by
  rw [State.syncOp_served hs hl]
  simp only [State.wordOp, hc]
  rfl

theorem State.syncOp_outOfBounds {c : Nat} (hc : s.wordCheck op (frameWord f) f.tenant = none)
    (hq : s.queueCheck op (frameWord f) f.tenant f.operand = some c) : s.syncOp op f = s.answerWord f (.error c) := by
  rw [State.syncOp_served hs hl]
  simp only [State.wordOp, hc, hq]
  rfl

/-- Where no row of Table 5.2 refuses it, an operation answers as Table 5.3 says. -/
theorem State.syncOp_passed (hc : s.wordCheck op (frameWord f) f.tenant = none)
    (hq : s.queueCheck op (frameWord f) f.tenant f.operand = none) :
    s.syncOp op f = s.answerWord f (wordEffect op f.operand (leNat (f.payload.take 8)) (s.word (frameWord f))) := by
  rw [State.syncOp_served hs hl]
  simp only [State.wordOp, hc, hq]
  cases wordEffect op f.operand (leNat (f.payload.take 8)) (s.word (frameWord f)) <;> rfl

end

/-! What each operation does to its word: Table 5.3 -/

section
variable (d n : Nat) (p : PWord)

theorem wordEffect_writeIfEmptyFill :
    wordEffect opWriteIfEmptyFill d n p = if p.full then .error syNotEmpty else .ok { p with data := d, full := true } := rfl

theorem wordEffect_consume :
    wordEffect opConsume d n p =
      if p.full then .ok { p with data := 0, full := false, gen := (p.gen + 1) % 65536 } else .error syNotFull := rfl

theorem wordEffect_readLeaveFull : wordEffect opReadLeaveFull d n p = if p.full then .ok p else .error syNotFull := rfl

theorem wordEffect_forcedWrite :
    wordEffect opForcedWrite d n p = .ok { p with data := d, full := true, gen := (p.gen + 1) % 65536 } := rfl

theorem wordEffect_fetchAdd : wordEffect opFetchAdd d n p = .ok { p with data := (p.data + d) % 2 ^ 64 } := rfl

theorem wordEffect_compareSwap :
    wordEffect opCompareSwap d n p = if p.data = d then .ok { p with data := n } else .error syCompareFailed := rfl

end

/-- Settles O47: an operation that passes its checks answers by Table 5.3's effect on its word, whose precondition is a condition on the word. -/
theorem wordOperationsFollowTheirTable : Obligations.WordOperationsFollowTheirTable := by
  intro t f s u w p go done no
  have passed {op : Nat} (h : go op) {e : Except Nat PWord} (he : wordEffect op f.operand (leNat (f.payload.take 8)) p = e) :
      u.syncOp op f = u.answerWord f e := by
    obtain ⟨hs, hl, hc, hq⟩ := h
    rw [State.syncOp_passed hs hl hc hq]
    exact congrArg _ he
  have either (c : Prop) [Decidable c] (x y : Except Nat PWord) :
      (.next (u.answerWord f (if c then x else y)) : Res) = if c then .next (u.answerWord f x) else .next (u.answerWord f y) :=
    apply_ite (fun e => (.next (u.answerWord f e) : Res)) c x y
  refine ⟨fun h => (congrArg _ (passed h (wordEffect_writeIfEmptyFill ..))).trans (either ..),
    fun h => (congrArg _ (passed h (wordEffect_consume ..))).trans (either ..),
    fun h => (congrArg _ (passed h (wordEffect_readLeaveFull ..))).trans (either ..),
    fun h => congrArg _ (passed h (wordEffect_forcedWrite ..)), fun h => congrArg _ (passed h (wordEffect_fetchAdd ..)),
    fun h => (congrArg _ (passed h (wordEffect_compareSwap ..))).trans (either ..),
    fun c hs hf hc => congrArg _ (State.syncOp_refused hs (congrArg List.length hf) hc),
    fun c hs hf hc hq => congrArg _ (State.syncOp_outOfBounds hs (congrArg List.length hf) hc hq),
    fun h => congrArg _ (State.syncOp_unserved h), fun v q x => State.word_putWord v w x q, fun v r d g b => rfl⟩

end Sys2Proof.Machine
end

section
/-! SUPPORT. Watches: registering, the condition, cancelling, and the background scan of words and descriptors (R128, R143 to R145, R148,
R149, R494, Tables 5.9 to 5.11a). -/

namespace Sys2Proof.Machine

/-! Registering and cancelling: R148, R149 -/

section
variable {s : State} {f : Frame} {v : Nat}

theorem State.watchRegister_refused {c : Nat} (h : s.watchRefused (addrOffset f.addr / 32) f = some c) :
    s.watchRegister f = s.syncResponse f c 0 false 0 := by
  simp only [State.watchRegister, h]

/-- A descriptor that nothing refuses is armed, answered with its word, and fired where its condition holds already. -/
theorem State.watchRegister_armed (h : s.watchRefused (addrOffset f.addr / 32) f = none) :
    s.watchRegister f =
      let v := addrOffset f.addr / 32
      let d := watchOf f.payload (s.desc v).tenant
      let a := (s.setDesc v d).syncWord f rsOk d.word
      if watchTrue d (a.word d.word) then a.fireWatch v (a.word d.word) else a := by
  simp only [State.watchRegister, h]

theorem State.watchRefused_inUse (hs : s.syncService = true) (hl : f.payload.length = 32) (ha : addrOffset f.addr % 32 = 0)
    (hr : s.watchRows v f.tenant = none) (h : (s.desc v).armed = true) : s.watchRefused v f = some syWatchInUse := by
  simp [State.watchRefused, hs, hl, ha, hr, h]

variable (hs : s.syncService = true) (hp : f.payload = []) (ha : addrOffset f.addr % 32 = 0)
include hs hp ha

theorem State.watchCancel_refused {c : Nat} (hr : s.watchRows (addrOffset f.addr / 32) f.tenant = some c) :
    s.watchCancel f = s.syncResponse f c 0 false 0 := by
  simp [State.watchCancel, hs, hp, ha, hr]

theorem State.watchCancel_held (hr : s.watchRows (addrOffset f.addr / 32) f.tenant = none) :
    s.watchCancel f =
      let v := addrOffset f.addr / 32
      if (s.desc v).armed then (s.disarm v).syncWord f rsOk (s.desc v).word else s.syncResponse f syWatchNotArmed 0 false 0 := by
  simp [State.watchCancel, hs, hp, ha, hr]

end

/-! The condition: R144, R145, Table 5.10 -/

section
variable {d : WDesc} (w : PWord)

theorem watchTrue_full (h : d.cond = 1) : watchTrue d w = w.full := by
  simp [watchTrue, h]

theorem watchTrue_empty (h : d.cond = 2) : watchTrue d w = !w.full := by
  simp [watchTrue, h]

theorem watchTrue_atLeast (h : d.cond = 3) : watchTrue d w = true ↔ d.threshold ≤ w.data := by
  simp [watchTrue, h]

theorem watchTrue_atLeast_signed (h : d.cond = 4) : watchTrue d w = true ↔ toSigned 64 d.threshold ≤ toSigned 64 w.data := by
  simp [watchTrue, h]

theorem watchTrue_equal (h : d.cond = 5) : watchTrue d w = true ↔ w.data = d.threshold := by
  simp [watchTrue, h]

theorem watchTrue_genChanged (h : d.cond = 6) : watchTrue d w = true ↔ w.gen ≠ d.ref := by
  simp [watchTrue, h]

theorem watchTrue_genReached (h : d.cond = 7) : watchTrue d w = true ↔ (w.gen + 65536 - d.ref) % 65536 < 32768 := by
  simp [watchTrue, h]

end

/-- A write that leaves data, full bit and generation evaluates no watch. -/
theorem State.putWord_unchanged {s : State} {w : Nat} {p : PWord} (hd : p.data = (s.word w).data) (hf : p.full = (s.word w).full)
    (hg : p.gen = (s.word w).gen) : s.putWord w p = s.setWord w p :=
  if_pos ⟨hd.symm, hf.symm, hg.symm⟩

/-! The background scan: R128, R494 -/

/-- The state with `ws` as its words. -/
def State.withWords (s : State) (ws : List (Nat × PWord)) : State := { s with pool := { s.pool with words := ws } }

theorem State.withWords_setWord (s : State) (w : Nat) (p : PWord) (ws : List (Nat × PWord)) :
    (s.setWord w p).withWords ws = s.withWords ws := rfl

/-- Words written back as they stand: each reads as before, and nothing but the words' store is touched. -/
theorem State.forEach_setWord_self (s : State) (l : List Nat) :
    let y := s.forEach l (fun s w => s.setWord w (s.word w))
    (∀ w, y.word w = s.word w) ∧ y = s.withWords y.pool.words := by
  intro y
  refine ⟨fun w => State.forEach_frame (fun v => v.word w) _ (fun v x => ?_) l s,
    State.forEach_frame (fun v => v.withWords y.pool.words) (fun s w => s.setWord w (s.word w)) (fun v x => v.withWords_setWord x _ _) l s⟩
  rw [State.word_setWord]
  split
  · next h => rw [h]
  · rfl

theorem State.poisonWord_bad {s : State} {w : Nat} (ha : (s.word w).alloc = true) (hp : (s.word w).poisoned = false)
    (hl : s.poolLost (w / dieWords) = false) :
    s.poisonWord w = (s.setWord w { s.word w with poisoned := true }).raise (97 * (w / dieWords) + blPool) clStorage 2 w lvBlock :=
  if_neg (by simp [ha, hp, hl])

theorem State.badDescriptor_bad {s : State} {v : Nat} (ha : (s.desc v).alloc = true) (hl : s.watchLost (v / dieDescs) = false) :
    s.badDescriptor v = s.raise (97 * (v / dieDescs) + blWatch) clStorage 2 v lvBlock true :=
  if_neg (by simp [ha, hl])

/-- Settles O48: registering and cancelling by their refusals, the condition by its number, a firing by the descriptor's kind, the scan by
what it finds. -/
theorem watchesRegisterFireAndCancel : Obligations.WatchesRegisterFireAndCancel := by
  intro t x f single s u v e d a q
  refine ⟨fun c h => congrArg _ (State.watchRegister_refused h), fun h => congrArg _ (State.watchRegister_armed h),
    fun hs hl ha hr h => State.watchRefused_inUse hs hl ha hr h, fun g w h => watchTrue_full w h, fun g w h => watchTrue_empty w h,
    fun g w h => watchTrue_atLeast w h, fun g w h => watchTrue_atLeast_signed w h, fun g w h => watchTrue_equal w h,
    fun g w h => watchTrue_genChanged w h, fun g w h => watchTrue_genReached w h, fun y w k => State.fireWatch_armed y k w,
    fun y w k => State.fireWatch_words y k w, fun y w p hd hf hg => State.putWord_unchanged hd hf hg,
    fun hs hp ha hr => congrArg _ (State.watchCancel_held hs hp ha hr),
    fun c hs hp ha hr => congrArg _ (State.watchCancel_refused hs hp ha hr), ⟨_, rfl, State.forEach_setWord_self u _⟩,
    fun ha hp hl => congrArg _ (State.poisonWord_bad ha hp hl), fun ha hl => congrArg _ (State.badDescriptor_bad ha hl)⟩

end Sys2Proof.Machine
end

section
/-! SUPPORT. Arrivals, releases from the parent, the pacer's ticks and the learned weights (R150 to R152, R155, R163, R165, Tables 5.2, 5.12). -/

namespace Sys2Proof.Machine

/-! The checks of an Arrive: R155 -/

/-- An Arrive that rows 1 to 6 of Table 5.2 let pass. -/
def State.arriveOk (s : State) (f : Frame) : Prop :=
  s.syncService = true ∧ f.payload = [] ∧ s.wordCheck opArrive (frameWord f) f.tenant = none

/-- How many episodes an Arrive is ahead of the node word it names, modulo 65,536. -/
def State.arriveAhead (s : State) (f : Frame) : Nat := (f.operand / 2 ^ 32 + 65536 - (s.word (frameWord f)).gen) % 65536

/-- The node has counted the source of a frame in this episode. -/
def Node.hasArrival (f : Frame) : Node → Bool
  | .tray n => n.arrived.contains f.srcEp
  | .hall n => n.arrived.contains f.srcShelf

section
variable {s : State} {f : Frame}

theorem State.arrive_refused {c : Nat} (h : s.arriveCheck f = .error c) : s.arrive f = s.syncWord f c (frameWord f) := by
  simp only [State.arrive, h]

/-- An arrival counted at a tray node: the count before it and the generation after it are answered. -/
theorem State.arrive_tray {i : Nat} {n : TrayNode} (h : s.arriveCheck f = .ok (i, .tray n)) :
    s.arrive f =
      let p := s.word (frameWord f)
      (s.syncResponse f rsOk p.data p.full (if n.count ≤ p.data + 1 then (p.gen + 1) % 65536 else p.gen)).arriveTray i n f.srcEp := by
  simp only [State.arrive, h, decide_eq_true_eq]

/-- An arrival counted at a hall node. -/
theorem State.arrive_hall {i : Nat} {n : HallNode} (h : s.arriveCheck f = .ok (i, .hall n)) :
    s.arrive f =
      let p := s.word (frameWord f)
      (s.syncResponse f rsOk p.data p.full (if n.children.length ≤ p.data + 1 then (p.gen + 1) % 65536 else p.gen)).arriveHall i n
        f.srcShelf p.gen := by
  simp only [State.arrive, h, decide_eq_true_eq]

variable (ok : s.arriveOk f)
include ok

theorem State.arriveCheck_noDomain (hi : s.domSlot (f.operand / 2 ^ 48) = none) : s.arriveCheck f = .error syDomainNotOpen := by
  obtain ⟨hs, hp, hc⟩ := ok
  simp only [State.arriveCheck, hs, hp, hc, hi]
  rfl

variable {i : Nat} (hi : s.domSlot (f.operand / 2 ^ 48) = some i)
include hi

theorem State.arriveCheck_broken (h : (s.dom i).state = 4) : s.arriveCheck f = .error syDomainBroken := by
  obtain ⟨hs, hp, hc⟩ := ok
  simp [-Nat.reducePow, State.arriveCheck, hs, hp, hc, hi, h]

theorem State.arriveCheck_closed (h : (s.dom i).state = 5) : s.arriveCheck f = .error syDomainClosed := by
  obtain ⟨hs, hp, hc⟩ := ok
  simp [-Nat.reducePow, State.arriveCheck, hs, hp, hc, hi, h]

theorem State.arriveCheck_notYetOpen (h : (s.dom i).state = 1 ∨ (s.dom i).state = 2) : s.arriveCheck f = .error syDomainNotOpen := by
  obtain ⟨hs, hp, hc⟩ := ok
  obtain h | h := h <;> simp [-Nat.reducePow, State.arriveCheck, hs, hp, hc, hi, h]

variable (h3 : (s.dom i).state = 3)
include h3

theorem State.arriveCheck_notBound (hn : s.nodeFor (s.dom i) f (frameWord f) = none) : s.arriveCheck f = .error syNotBound := by
  obtain ⟨hs, hp, hc⟩ := ok
  simp [-Nat.reducePow, State.arriveCheck, hs, hp, hc, hi, h3, hn]

/-- A source that is bound to the node is judged by its episode, then by whether the node has counted it already. -/
theorem State.arriveCheck_bound {n : Node} (hn : s.nodeFor (s.dom i) f (frameWord f) = some n) :
    s.arriveCheck f =
      if s.arriveAhead f ≠ 0 then .error (if s.arriveAhead f ≤ 32767 then syEpisodeAhead else syEpisodeStale)
      else if n.hasArrival f then .error syDuplicateArrival else .ok (i, n) := by
  obtain ⟨hs, hp, hc⟩ := ok
  simp only [State.arriveCheck, hs, hp, hc, hi, h3, hn]
  cases n <;> rfl

theorem State.arriveCheck_otherEpisode (hn : s.nodeFor (s.dom i) f (frameWord f) ≠ none) (ha : s.arriveAhead f ≠ 0) :
    s.arriveCheck f = .error (if s.arriveAhead f ≤ 32767 then syEpisodeAhead else syEpisodeStale) := by
  obtain ⟨n, hn⟩ := Option.ne_none_iff_exists'.mp hn
  exact (State.arriveCheck_bound ok hi h3 hn).trans (if_pos ha)

variable {n : Node} (hn : s.nodeFor (s.dom i) f (frameWord f) = some n) (ha : s.arriveAhead f = 0)
include hn ha

theorem State.arriveCheck_twice (h : n.hasArrival f = true) : s.arriveCheck f = .error syDuplicateArrival :=
  (State.arriveCheck_bound ok hi h3 hn).trans ((if_neg (not_not_intro ha)).trans (if_pos h))

theorem State.arriveCheck_first (h : n.hasArrival f = false) : s.arriveCheck f = .ok (i, n) :=
  (State.arriveCheck_bound ok hi h3 hn).trans ((if_neg (not_not_intro ha)).trans (if_neg (by simp [h])))

end

/-! The count: R151 -/

/-- An arrival that does not complete its tray node raises the count in the node's word by one, and no other word changes. -/
theorem State.word_arriveTray {s : State} {i e : Nat} {n : TrayNode} (h : (s.word n.word).data + 1 < n.count) (x : Nat) :
    (s.arriveTray i n e).word x = if x = n.word then { s.word n.word with data := (s.word n.word).data + 1 } else s.word x := by
  unfold State.arriveTray
  exact (congrArg (fun v : State => v.word x) (if_neg (Nat.not_le_of_lt h))).trans (State.word_nodeCount ..)

/-! A release from the parent: R152 -/

/-- The domain in slot `i` waits for this release, and it comes from the parent of its highest node here. -/
def State.releaseAwaited (s : State) (f : Frame) (i : Nat) : Prop :=
  let d := s.dom i
  let top := if d.halls.isEmpty then 0 else (d.halls.map (·.level)).foldl max 0
  d.state = 3 ∧ d.hallRelease = some (f.operand / 2 ^ 32 % 65536) ∧ s.parentOf d top = some f.srcShelf ∧ f.srcEp = 0x1000

section
variable {s : State} {f : Frame}

theorem State.releaseIn_noDomain (hi : s.domSlot (f.operand / 2 ^ 48) = none) : s.releaseIn f = s := by
  simp only [State.releaseIn, hi]

variable {i : Nat} (hi : s.domSlot (f.operand / 2 ^ 48) = some i)
include hi

theorem State.releaseIn_awaited (h : s.releaseAwaited f i) : s.releaseIn f = s.releaseDown i (f.operand / 2 ^ 32 % 65536) := by
  simp only [State.releaseIn, hi]
  exact if_pos h

theorem State.releaseIn_unawaited (h : ¬s.releaseAwaited f i) : s.releaseIn f = s := by
  simp only [State.releaseIn, hi]
  exact if_neg h

end

/-! The pacer's ticks and the weights: R163, R165 -/

/-- Releases are pending and an interval counted from the first of them ends now. -/
def State.waveDue (s : State) : Prop :=
  s.pool.pending ≠ [] ∧ s.pool.tickFrom < s.now ∧ (s.now - s.pool.tickFrom) % max 1 (s.nat Obj.waveInterval * us) = 0

theorem State.waveTick_due {s : State} (h : s.waveDue) : s.waveTick = s.runWaves := by
  obtain ⟨hp, ht, hm⟩ := h
  exact if_neg (by simp [hp, ht, hm])

theorem State.waveTick_idle {s : State} (h : ¬s.waveDue) : s.waveTick = s :=
  if_pos (by simpa only [State.waveDue, Classical.not_and_iff_not_or_not, Classical.not_not, Nat.not_lt, List.isEmpty_iff] using h)

theorem ite_lt_ite_lt_eq_max_min {lo hi : Rat} (h : lo ≤ hi) (r : Rat) :
    (if r < lo then lo else if hi < r then hi else r) = max lo (min hi r) := by
  grind

/-- Weight learning is on, link `link` has released participants, and 40 µs have passed since the last of them. -/
def State.learnDue (s : State) (link : Nat) : Prop :=
  let l := smGet (fun _ => {}) s.pool.learn link
  s.nat Obj.weightLearning = 1 ∧ l.eps.eraseDups ≠ [] ∧ l.lastAt + 40 * us ≤ s.now

theorem State.weightUpdate_due {s : State} {link : Nat} (h : s.learnDue link) (before after : Int) :
    s.weightUpdate link before after =
      let eps := (smGet (fun _ => {}) s.pool.learn link).eps.eraseDups
      let r : Rat := max (1 / 4) (min 4 (((after - before : Int) : Rat) / (s.weightSum eps : Rat)))
      let v := s.forEach eps (fun s e => s.setWeight e (learnWeight (s.weight e) r))
      { v with pool := { v.pool with learn := smErase v.pool.learn link } } := by
  obtain ⟨hw, he, ht⟩ := h
  unfold State.weightUpdate
  simp only [ite_lt_ite_lt_eq_max_min (show (1 / 4 : Rat) ≤ 4 by grind)]
  exact if_neg (by simp [hw, he, ht])

theorem State.weightUpdate_idle {s : State} {link : Nat} (h : ¬s.learnDue link) (before after : Int) :
    s.weightUpdate link before after = s :=
  if_pos (by simpa only [State.learnDue, Classical.not_and_iff_not_or_not, Classical.not_not, Nat.not_le] using h)

theorem learnWeight_mem (w : Nat) (r : Rat) : 1 ≤ learnWeight w r ∧ learnWeight w r ≤ 65535 := by
  unfold learnWeight
  omega

/-- Settles O49: an Arrive by the first check that it fails or the node that counts it, the rest by their conditions. -/
theorem arrivalsCountAndReleasesAreReleased : Obligations.ArrivalsCountAndReleasesAreReleased := by
  intro t f link before after s u w p pre slot ahead no ep iv tick lr eps r0 ratio learns
  have refused {c : Nat} (h : u.arriveCheck f = .error c) : exec (.arrive t f) s = no c := congrArg _ (State.arrive_refused h)
  refine ⟨fun ok hi => refused (State.arriveCheck_noDomain ok hi), fun i hi ok => ⟨fun h => refused (State.arriveCheck_broken ok hi h),
    fun h => refused (State.arriveCheck_closed ok hi h), fun h => refused (State.arriveCheck_notYetOpen ok hi h),
    fun h3 hn => refused (State.arriveCheck_notBound ok hi h3 hn), fun h3 hn h1 h2 => ?_, fun h3 hn h2 => ?_,
    fun n h3 hn ha h => refused (State.arriveCheck_twice ok hi h3 hn ha h),
    fun n h3 hn ha h => congrArg _ (State.arrive_tray (State.arriveCheck_first ok hi h3 hn ha h)),
    fun n h3 hn ha h => congrArg _ (State.arrive_hall (State.arriveCheck_first ok hi h3 hn ha h))⟩,
    fun y i e n h => ?_, fun y x => ?_, fun hi => congrArg _ (State.releaseIn_noDomain hi),
    fun i hi => ⟨fun h => congrArg _ (State.releaseIn_awaited hi h), fun h => congrArg _ (State.releaseIn_unawaited hi h)⟩,
    fun h => congrArg _ (State.waveTick_due h), fun h => congrArg _ (State.waveTick_idle h),
    fun h => congrArg _ (State.weightUpdate_due h before after), fun h => congrArg _ (State.weightUpdate_idle h before after),
    learnWeight_mem⟩
  · have he := State.arriveCheck_otherEpisode ok hi h3 hn (Nat.ne_of_gt h1)
    exact refused (he.trans (congrArg _ (if_pos h2)))
  · have he := State.arriveCheck_otherEpisode ok hi h3 hn (Nat.ne_of_gt (Nat.lt_of_lt_of_le (by decide) h2))
    exact refused (he.trans (congrArg _ (if_neg (Nat.not_le_of_lt h2))))
  · simp only [State.word_arriveTray h]
    simp +contextual
  · simp only [State.word_nodeReset]
    simp +contextual

end Sys2Proof.Machine
end

section
/-! SUPPORT. Tenant commands, allocation requests and WordSet: each a write through the dictionary server, and what its object's rule answers
(R129, R134 to R136, R138, R139, R141, R142, R528, Tables 5.6 and 5.7). -/

namespace Sys2Proof.Machine

/-! A command whose object's rule looks at the bytes only -/

section
variable {s u : State} {role : Role} {key : Nat} {b : List Nat} {f : Nat × State}

theorem State.stateRefused_of_accepts {r : ObjRow} (h : s.accepts role key b) (hd : descOf (key / 256) (key % 256) = some r) :
    s.stateRefused (key / 256) (key % 256) (r.ty.value b) = false := by
  obtain ⟨-, -, hst⟩ := h
  simpa only [hd] using hst

variable (hk : (descOf (key / 256) (key % 256)).isSome = true) (h : s.accepts role key b)
  (he : ∀ v, s.stateRefused (key / 256) (key % 256) v = false →
    s.dictEffect (rolePath role) 1 role (key / 256) (key % 256) v b = f)
include hk h he

/-- An accepted write of bytes that the object's rule `f` applies. -/
theorem State.reqWrite_rule_applied (hf : f = (0, u)) : s.reqWrite role key b = u.applied role key := by
  obtain ⟨r, hd⟩ := Option.isSome_iff_exists.mp hk
  exact State.reqWrite_applied h hd ((he _ (State.stateRefused_of_accepts h hd)).trans hf)

/-- An accepted write of bytes that the object's rule `f` refuses by state. -/
theorem State.reqWrite_rule_refused (hf : f = (abState, u)) : s.reqWrite role key b = u.declined key 0x08000022 := by
  obtain ⟨r, hd⟩ := Option.isSome_iff_exists.mp hk
  exact State.reqWrite_declined h hd ((he _ (State.stateRefused_of_accepts h hd)).trans hf) (by decide) (by decide)

end

/-- A write that rows 1 to 9 of Table 19.4 refuse. -/
theorem State.regWrite_refused {s : State} {path : Path} {port : Nat} {role : Role} {key : Nat} {b : List Nat} {c : Nat}
    (hs : s.served path = true) (hw : s.writeRefused role [] (key / 256) (key % 256) b = c) (h0 : c ≠ 0) (hn : c ≠ abWaits) :
    s.regWrite path port role (key / 256) (key % 256) b = s.declined key (c % 2 ^ 32) := by
  have hk : key / 256 * 256 + key % 256 = key := by omega
  unfold State.regWrite State.dictWrite State.declined
  simp [hs, hw, h0, hn, hk, abNone]

/-! The tenant's objects: Table 5.6 -/

/-- TenantCommand of slot `k` is subindex 3 of object 0x2300 + `k`, AllocRequest subindex 10. -/
theorem tenantCommand_key (k : Nat) : Obj.tenantCommand k / 256 = 0x2300 + k ∧ Obj.tenantCommand k % 256 = 3 := by
  unfold Obj.tenantCommand
  omega

theorem allocRequest_key (k : Nat) : Obj.allocRequest k / 256 = 0x2300 + k ∧ Obj.allocRequest k % 256 = 10 := by
  unfold Obj.allocRequest
  omega

/-- The row of TenantCommand in Table 5.6: an operator and the service role may write it. -/
def tenantCommandRow : ObjRow := ⟨0x2300, 0x233F, 3, 3, .num 8 false, 2, 1, 2, 1, 0, 0, .enum [1, 2, 3, 4], true, false⟩

theorem descOf_tenantCommand (k : Fin 64) :
    descOf (Obj.tenantCommand k.val / 256) (Obj.tenantCommand k.val % 256) = some tenantCommandRow := by
  decide +revert

theorem isByteObj_tenantCommand (k : Fin 64) : isByteObj (Obj.tenantCommand k.val) := by
  unfold isByteObj
  rw [descOf_tenantCommand]
  rfl

/-- Value 4 of TenantCommand is reserved to the service role (R528). -/
theorem serviceOnly_tenantCommand (k : Fin 64) : serviceOnly (Obj.tenantCommand k.val / 256) (Obj.tenantCommand k.val % 256) 4 = true := by
  obtain ⟨hidx, hsub⟩ := tenantCommand_key k.val
  have hle : 0x2300 + k.val ≤ 0x233F := by omega
  simp [serviceOnly, hidx, hsub, hle]

theorem any_rowsOf_tenantCommand (k : Fin 64) :
    (rowsOf (Obj.tenantCommand k.val / 256)).any
      (fun r => decide (r.idxLo ≤ Obj.tenantCommand k.val / 256 ∧ Obj.tenantCommand k.val / 256 ≤ r.idxHi)) = true := by
  decide +revert

theorem isSome_descOf_allocRequest (k : Fin 64) :
    (descOf (Obj.allocRequest k.val / 256) (Obj.allocRequest k.val % 256)).isSome = true := by
  decide +revert

section
variable {s : State} {path : Path} {port : Nat} {role : Role} {v : Int} {b : List Nat}

theorem State.dictEffect_tenantCommand (k : Fin 64)
    (h : s.stateRefused (Obj.tenantCommand k.val / 256) (Obj.tenantCommand k.val % 256) v = false) :
    s.dictEffect path port role (Obj.tenantCommand k.val / 256) (Obj.tenantCommand k.val % 256) v b = s.tenantCommand role k.val v.toNat := by
  obtain ⟨hidx, hsub⟩ := tenantCommand_key k.val
  rw [hidx, hsub] at h ⊢
  unfold State.dictEffect
  rw [if_neg (Bool.eq_false_iff.mp h)]
  split
  case h_31 => rw [if_pos (by omega), Nat.add_sub_cancel_left]
  all_goals omega

theorem State.dictEffect_allocRequest (k : Fin 64)
    (h : s.stateRefused (Obj.allocRequest k.val / 256) (Obj.allocRequest k.val % 256) v = false) :
    s.dictEffect path port role (Obj.allocRequest k.val / 256) (Obj.allocRequest k.val % 256) v b = s.allocRequest k.val b := by
  obtain ⟨hidx, hsub⟩ := allocRequest_key k.val
  rw [hidx, hsub] at h ⊢
  unfold State.dictEffect
  rw [if_neg (Bool.eq_false_iff.mp h)]
  split
  case h_31 => rw [if_neg (by omega), if_pos (by omega), Nat.add_sub_cancel_left]
  all_goals omega

theorem State.dictEffect_wordSet (h : s.stateRefused 0x2202 1 v = false) : s.dictEffect path port role 0x2202 1 v b = s.wordSet b := by
  unfold State.dictEffect
  exact if_neg (Bool.eq_false_iff.mp h)

end

/-! Tenant commands: R134, R135, R139, R528 -/

theorem State.tenantOpenCmd_refused {s : State} {k : Nat}
    (h : s.nat (Obj.tenantState k) ≠ 0 ∨ s.nat (Obj.tenantTag k) = 0 ∨ s.nat (Obj.tenantTag k) = tagService ∨
      (s.slotOf (s.nat (Obj.tenantTag k))).isSome = true) : s.tenantOpenCmd k = (abState, s) := by
  unfold State.tenantOpenCmd
  exact if_pos (h.imp_right (Or.imp_right (Or.imp_right Or.inl)))

theorem State.tenantCloseCmd_done {s : State} {k : Nat} (hs : s.nat (Obj.tenantState k) = 1)
    (hd : s.domsOf (s.nat (Obj.tenantTag k)) = []) : s.tenantCloseCmd k = (0, (s.tenantLeave k).tenantFinish k) :=
  if_neg (by simp [hs, hd])

theorem State.tenantCloseCmd_refused {s : State} {k : Nat}
    (h : s.nat (Obj.tenantState k) ≠ 1 ∨ s.domsOf (s.nat (Obj.tenantTag k)) ≠ []) : s.tenantCloseCmd k = (abState, s) := if_pos h

/-- A force close of an open slot is taken, whether it ends at once or waits for tray nodes that still refuse. -/
theorem State.tenantForceCmd_taken {s : State} {k : Nat} (hs : s.nat (Obj.tenantState k) = 1) :
    s.tenantForceCmd k = (0, (s.tenantForceCmd k).2) := by
  refine Prod.ext ?_ rfl
  unfold State.tenantForceCmd
  rw [if_neg (not_not_intro hs)]
  exact apply_ite Prod.fst _ _ _ |>.trans (ite_self _)

theorem State.tenantForceCmd_refused {s : State} {k : Nat} (hs : s.nat (Obj.tenantState k) ≠ 1) : s.tenantForceCmd k = (abState, s) :=
  if_pos hs

/-- The service role empties and frees the quarantined words of the slot's tag, and the slot is Closed. -/
theorem State.clearQuarantineCmd_done {s : State} {k : Nat} (hs : s.nat (Obj.tenantState k) = 3) :
    s.clearQuarantineCmd k =
      let l := (s.pool.words.filter (fun e => e.2.quarantined && e.2.tenant = s.nat (Obj.tenantTag k))).map (·.1)
      (0, ((s.forEach l (fun s w => s.setWord w {})).setNat (Obj.leftoverWords k) 0).setNat (Obj.tenantState k) 0) :=
  if_neg (not_not_intro hs)

theorem State.clearQuarantineCmd_refused {s : State} {k : Nat} (hs : s.nat (Obj.tenantState k) ≠ 3) : s.clearQuarantineCmd k = (abState, s) :=
  if_pos hs

/-- An operator may write TenantCommand as such: rows 1 to 5 of Table 19.4 find nothing. -/
theorem State.accessRefused_tenantCommand_operator (s : State) (k : Fin 64) :
    s.accessRefused .operator (Obj.tenantCommand k.val / 256) (Obj.tenantCommand k.val % 256) true = abNone := by
  have hfixed : onDieFixed (Obj.tenantCommand k.val / 256) (Obj.tenantCommand k.val % 256) = false := by
    obtain ⟨hidx, hsub⟩ := tenantCommand_key k.val
    simp [onDieFixed, hsub]
  unfold State.accessRefused
  simp only [any_rowsOf_tenantCommand, descOf_tenantCommand, hfixed]
  rfl

theorem State.writeRefused_clearQuarantine_operator (s : State) (k : Fin 64) :
    s.writeRefused .operator [] (Obj.tenantCommand k.val / 256) (Obj.tenantCommand k.val % 256) (numBytes (Obj.tenantCommand k.val) 4) =
      abRole := by
  have hb : numBytes (Obj.tenantCommand k.val) 4 = [4] := by
    unfold numBytes objBits
    rw [descOf_tenantCommand]
    rfl
  unfold State.writeRefused
  rw [descOf_tenantCommand, State.accessRefused_tenantCommand_operator, hb]
  exact (if_neg (by decide)).trans (if_pos ⟨rfl, by decide, serviceOnly_tenantCommand k⟩)

/-! Allocation requests: R129, R136, R138, R142 -/

theorem length_of_allocBad_eq_zero {b : List Nat} (h : allocBad b = 0) : b.length = 32 := by
  refine Decidable.byContradiction fun hl => ?_
  exact absurd ((if_pos hl).symm.trans h) (by decide)

/-- A well-formed request with its op byte replaced carries that op. -/
theorem listGet_withByte_of_allocBad {op : Nat} {b : List Nat} (h : allocBad (withByte 0 op b) = 0) : listGet 0 (withByte 0 op b) 0 = op := by
  have hl := length_of_allocBad_eq_zero h
  cases b with
  | nil => cases hl
  | cons x l => rfl

/-- The operation of each number (Table 5.7). -/
def State.allocOp (s : State) (k : Nat) (b : List Nat) : Nat → State
  | 1 => s.allocWordsOp k b
  | 2 => s.freeWordsOp k b
  | 3 => s.declareQueueOp k b
  | 4 => s.undeclareQueueOp k b
  | 5 => s.allocDescsOp k b
  | _ => s.freeDescsOp k b

/-- A well-formed request runs its operation for an open tenant, and for any other leaves TenantNotOpen in AllocResult. -/
theorem State.allocRequest_wellFormed {s : State} {k : Nat} {b : List Nat} (h : allocBad b = 0) :
    s.allocRequest k b =
      (0, if s.nat (Obj.tenantState k) = 1 then s.allocOp k b (listGet 0 b 0) else s.allocDone k (listGet 0 b 0) syTenantNotOpen 0 0) := by
  unfold State.allocRequest
  rw [if_neg (not_not_intro h)]
  by_cases hs : s.nat (Obj.tenantState k) = 1
  · exact (if_neg (not_not_intro hs)).trans (congrArg _ (if_pos hs).symm)
  · exact (if_pos hs).trans (congrArg _ (if_neg hs).symm)

theorem State.allocWordsOp_quota {s : State} {k : Nat} {b : List Nat}
    (h : s.nat (Obj.wordQuota k) < (s.wordsOf (s.nat (Obj.tenantTag k))).length + leNat (slice b 4 4)) :
    s.allocWordsOp k b = s.allocDone k 1 syQuotaExceeded 0 0 := if_pos h

/-- Allocated words are empty, zero and of generation zero; every other word stays. -/
theorem State.word_allocWords (s : State) (base n tag m x : Nat) :
    (s.allocWords base n tag m).word x =
      if base ≤ x ∧ x < base + n then { alloc := true, tenant := tag, managed := m } else s.word x := by
  induction n with
  | zero => exact (if_neg (by omega)).symm
  | succ n ih =>
    have hlast : s.allocWords base (n + 1) tag m =
        (s.allocWords base n tag m).setWord (base + n) { alloc := true, tenant := tag, managed := m } := by
      simp [State.allocWords, State.forEach, List.range_succ]
    rw [hlast, State.word_setWord, ih]
    by_cases hx : x = base + n
    · rw [if_pos hx, if_pos (by omega)]
    · rw [if_neg hx]
      exact ite_congr (propext (by omega)) (fun _ => rfl) (fun _ => rfl)

theorem State.freeWordsOp_refused {s : State} {k c : Nat} {b : List Nat}
    (h : s.freeRefused (s.nat (Obj.tenantTag k)) (leNat (slice b 8 4)) (leNat (slice b 4 4)) = some c) :
    s.freeWordsOp k b = s.allocDone k 2 c (leNat (slice b 8 4)) 0 := by
  simp only [State.freeWordsOp, h]

/-- A word that is not left clean is counted and quarantined as it stands (R138). -/
theorem State.freeWord_unclean {s : State} {w : Nat} (hq : (s.word w).quarantined = false) (hl : s.wordLost w = false)
    (hc : wordClean (s.word w) = false) :
    (s.freeWord w).1 = 1 ∧ (s.freeWord w).2.word w = { s.word w with quarantined := true } := by
  unfold State.freeWord
  simp [hq, hl, hc, State.word_setWord]

/-! WordSet: R141 -/

section
variable {s : State} {b : List Nat} (hlen : b.length = 16) (hfull : listGet 0 b 4 ≤ 1) (hres : listGet 0 b 5 = 0)
  (hw : leNat (slice b 0 4) < 262144)
include hlen hfull hres hw

/-- A word that no domain manages takes data, full bit and generation, and is poisoned no more. -/
theorem State.wordSet_done (ha : (s.word (leNat (slice b 0 4))).alloc = true) (hl : s.wordLost (leNat (slice b 0 4)) = false)
    (hm : (s.word (leNat (slice b 0 4))).managed = 0) :
    s.wordSet b =
      let w := leNat (slice b 0 4)
      (0, (s.putWord w { s.word w with
        data := leNat (slice b 8 8), full := bitOf (listGet 0 b 4) 0, gen := leNat (slice b 6 2), poisoned := false }).event
          (97 * (w / dieWords) + blPool) 12 w) := by
  simp [State.wordSet, hlen, Nat.not_lt_of_le hfull, hres, Nat.not_le_of_lt hw, ha, hl, hm]

theorem State.wordSet_refused
    (h : (s.word (leNat (slice b 0 4))).alloc = false ∨ s.wordLost (leNat (slice b 0 4)) = true ∨
      ((s.word (leNat (slice b 0 4))).managed ≠ 0 ∧
        (bitOf (listGet 0 b 4) 0 ≠ (s.word (leNat (slice b 0 4))).full ∨
          leNat (slice b 6 2) ≠ (s.word (leNat (slice b 0 4))).gen))) : s.wordSet b = (abState, s) := by
  unfold State.wordSet
  rw [if_neg (not_not_intro hlen), if_neg (by omega), if_neg (Nat.not_le_of_lt hw)]
  exact if_pos (by simpa [or_assoc] using h)

end

/-- Settles O50: each command is a write through the server, answered by its object's rule; the operations by their lemmas. -/
theorem tenantsOpenCloseAndHoldResources : Obligations.TenantsOpenCloseAndHoldResources := by
  intro t role k req val s u kc ka kw st tag cmd b okb run shut w p full gen
  have taken {n : Nat} {v : State} {r : Role} (hn : n < 256) (h : u.accepts r kc (numBytes kc n)) (hf : u.tenantCommand r k.val n = (0, v)) :
      (.next (u.cmdWrite r kc n) : Res) = .next (v.applied r kc) :=
    congrArg _ (State.cmdWrite_byte_applied (isByteObj_tenantCommand k) hn h (State.dictEffect_tenantCommand k) hf)
  have refused {n : Nat} {r : Role} (hn : n < 256) (h : u.accepts r kc (numBytes kc n)) (hf : u.tenantCommand r k.val n = (abState, u)) :
      (.next (u.cmdWrite r kc n) : Res) = .next (u.declined kc 0x08000022) :=
    congrArg _ (State.cmdWrite_byte_refused (isByteObj_tenantCommand k) hn h (State.dictEffect_tenantCommand k) hf)
  have requested {op : Nat} (h : okb op) :
      (.next (u.reqWrite role ka (b op)) : Res) = if st = 1 then run (u.allocOp k.val (b op) op) else shut op := by
    obtain ⟨hacc, hbad⟩ := h
    have hw := State.reqWrite_rule_applied (isSome_descOf_allocRequest k) hacc (fun _ => State.dictEffect_allocRequest k)
      (State.allocRequest_wellFormed hbad)
    rw [listGet_withByte_of_allocBad hbad] at hw
    exact (congrArg _ hw).trans (apply_ite run _ _ _)
  refine ⟨fun h h0 => taken (by decide) h (Prod.ext h0 rfl),
    fun h hr => refused (by decide) h (State.tenantOpenCmd_refused hr),
    fun h hs hd => taken (by decide) h (State.tenantCloseCmd_done hs hd),
    fun h hr => refused (by decide) h (State.tenantCloseCmd_refused hr),
    fun h hs => taken (by decide) h (State.tenantForceCmd_taken hs),
    fun h hs => refused (by decide) h (State.tenantForceCmd_refused hs),
    fun h => congrArg _ (State.regWrite_refused h (State.writeRefused_clearQuarantine_operator u k) (by decide) (by decide)),
    ?_, ?_, requested, requested, requested, requested, requested, requested, fun v x h => State.allocWordsOp_quota h,
    fun v base n g m x => State.word_allocWords v base n g m x, fun v x c h => State.freeWordsOp_refused h, fun v x hq hl hc => ?_,
    fun h hlen hfull hres hw ha hl hm => ?_, fun h hlen hfull hres hw hr => ?_⟩
  · rintro h rfl hs
    exact taken (by decide) h (State.clearQuarantineCmd_done hs)
  · rintro h rfl hs
    exact refused (by decide) h (State.clearQuarantineCmd_refused hs)
  · obtain ⟨h1, hw⟩ := State.freeWord_unclean hq hl hc
    exact ⟨h1, by rw [hw], by rw [hw]⟩
  · exact congrArg _ (State.reqWrite_rule_applied (key := Obj.wordSet) rfl h (fun _ => State.dictEffect_wordSet)
      (State.wordSet_done hlen hfull hres hw ha hl hm))
  · exact congrArg _ (State.reqWrite_rule_refused (key := Obj.wordSet) rfl h (fun _ => State.dictEffect_wordSet)
      (State.wordSet_refused hlen hfull hres hw hr))

end Sys2Proof.Machine
end

section
/-! SUPPORT. Barrier domains: the home's commands, the members' notices, and the times that run out (R139, R156 to R158, R160, R161). -/

namespace Sys2Proof.Machine

/-! What a tenant event and the freeing of tree words leave alone -/

theorem State.fireWatch_doms (s : State) (v : Nat) (w : PWord) : (s.fireWatch v w).pool.doms = s.pool.doms := by
  unfold State.fireWatch
  dsimp only
  split
  · rfl
  · rw [State.sendReturn_pool]
    rfl

theorem State.putWord_doms (s : State) (w : Nat) (p : PWord) : (s.putWord w p).pool.doms = s.pool.doms := by
  unfold State.putWord
  dsimp only
  split
  · rfl
  · refine (State.forEach_frame (fun v => v.pool.doms) _ (fun v x => ?_) _ _).trans rfl
    dsimp only
    split
    · exact State.fireWatch_doms ..
    · rfl

theorem State.tenantEvent_doms (s : State) (tag code detail : Nat) : (s.tenantEvent tag code detail).pool.doms = s.pool.doms := by
  unfold State.tenantEvent
  split
  · unfold State.bumpWord
    dsimp only
    split
    · exact State.putWord_doms ..
    · rfl
  · rfl

theorem State.dom_tenantEvent (s : State) (tag code detail i : Nat) : (s.tenantEvent tag code detail).dom i = s.dom i := by
  unfold State.dom
  rw [State.tenantEvent_doms]

theorem State.disarmWord_objs (s : State) (w : Nat) : (s.disarmWord w).objs = s.objs :=
  State.forEach_frame (fun v => v.objs) (fun v (e : Nat × WDesc) => v.disarm e.1) (fun _ _ => rfl) _ s

theorem State.domainFree_objs (s : State) (i : Nat) : (s.domainFree i).objs = s.objs :=
  State.forEach_frame (fun v => v.objs) (fun v w => (v.disarmWord w).setWord w {}) (fun v w => v.disarmWord_objs w) _ s

/-- The slot of a tag is read from the objects alone. -/
theorem State.slotOf_congr {s u : State} (h : u.objs = s.objs) (tag : Nat) : u.slotOf tag = s.slotOf tag := by
  unfold State.slotOf State.nat State.num
  rw [h]

/-! A domain's slot after each operation of a member: R157, R160, R161 -/

section
variable (s : State) (i : Nat)

@[simp] theorem State.dom_setDom_same (d : Dom) : (s.setDom i d).dom i = d := by rw [State.dom_setDom, if_pos rfl]

theorem State.dom_memberCommit : ((s.memberCommit i).dom i).state = 2 := by
  unfold State.memberCommit
  simp

theorem State.dom_memberOpen : ((s.memberOpen i).dom i).state = 3 := by
  unfold State.memberOpen
  simp [State.dom_tenantEvent]

theorem State.dom_memberAbort : (s.memberAbort i).dom i = {} := State.dom_setDom_same ..

theorem State.dom_memberClose : ((s.memberClose i true).dom i).state = 5 := by
  unfold State.memberClose
  simp

theorem State.dom_breakDomain (h : (s.dom i).state = 3 ∨ (s.dom i).state = 2) : ((s.breakDomain i false).dom i).state = 4 := by
  unfold State.breakDomain
  simp [h, State.dom_tenantEvent]

end

/-! The home's commands: R156 to R158, R160 -/

section
variable {s : State} {b : List Nat}

theorem State.domainCreate_busy (h : s.createBusy = true) :
    s.domainCreate b = (abState, s.setDomainResult (descId b) syCreationBusy s.own 1) := if_pos h

theorem State.domainCreate_invalid {e : Nat} (h : s.createBusy = false) (hd : descCheck s.own b = some e) :
    s.domainCreate b = (0, s.setDomainResult (descId b) e s.own 1) := by
  simp [State.domainCreate, h, hd]

/-- A good descriptor begins stage 2, and this shelf answers for itself at once. -/
theorem State.domainCreate_begun (h : s.createBusy = false) (hd : descCheck s.own b = none) :
    s.domainCreate b =
      let c : Creation := { desc := b, id := descId b, tenant := descTenant b, members := (descShelves b).map (·.1) }
      let r := ((s.setCreate (some c)).createStage c 2).memberStage 1 s.own (descId b) b
      (0, if r.1 = rsOk then State.createAnswer 4 r.2 s.own else r.2.createFail r.1 s.own) := by
  simp [State.domainCreate, h, hd]

theorem State.domainClose_unknown {id : Nat} (hi : s.domSlot id = none) : s.domainClose id = (abState, s) := by
  simp only [State.domainClose, hi]

/-- The home of an open or broken domain tells the other members and closes its own part. -/
theorem State.domainClose_home {id i : Nat} (hi : s.domSlot id = some i) (hh : (s.dom i).home = s.own)
    (hs : (s.dom i).state = 3 ∨ (s.dom i).state = 4) :
    s.domainClose id =
      (0, (s.forEach ((s.dom i).members.filter (· != s.own)) (fun v m =>
        if (v.route m 0).isSome then (v.sendNotice m 5 v.own id []).2 else v)).memberClose i true) := by
  simp only [State.domainClose, hi]
  exact if_neg (by simp [hh, hs])

variable {path : Path} {port : Nat} {role : Role} {v : Int}

theorem State.dictEffect_domainCreate {u : State} {c : Nat} (hf : s.domainCreate b = (c, u)) (h : s.stateRefused 0x2210 1 v = false) :
    s.dictEffect path port role 0x2210 1 v b = (c, u.refreshStep) := by
  have he : s.dictEffect path port role 0x2210 1 v b = ((s.domainCreate b).1, (s.domainCreate b).2.refreshStep) := by
    unfold State.dictEffect
    exact if_neg (Bool.eq_false_iff.mp h)
  rw [he, hf]

theorem State.dictEffect_domainClose (h : s.stateRefused 0x2210 3 v = false) :
    s.dictEffect path port role 0x2210 3 v b = ((s.domainClose v.toNat).1, (s.domainClose v.toNat).2.refreshStep) := by
  unfold State.dictEffect
  exact if_neg (Bool.eq_false_iff.mp h)

end

/-- DomainClose is an unsigned 16-bit number, which reads back the DomainId that was written as its bytes. -/
theorem exists_desc_domainClose {id : Nat} (h : id < 65536) :
    ∃ r, descOf (Obj.domainClose / 256) (Obj.domainClose % 256) = some r ∧ r.ty.value (numBytes Obj.domainClose id) = id := by
  refine ⟨_, rfl, ?_⟩
  change ((id % 256 + 256 * (id / 256 % 256 + 256 * 0) : Nat) : Int) = id
  omega

section
variable {s u : State} {role : Role} {id : Nat} (hid : id < 65536) (h : s.accepts role Obj.domainClose (numBytes Obj.domainClose id))
include hid h

/-- What an accepted write of DomainClose comes to is what the rule says of the DomainId. -/
theorem State.exists_desc_dictEffect_domainClose :
    ∃ r, descOf (Obj.domainClose / 256) (Obj.domainClose % 256) = some r ∧
      s.dictEffect (rolePath role) 1 role (Obj.domainClose / 256) (Obj.domainClose % 256) (r.ty.value (numBytes Obj.domainClose id))
        (numBytes Obj.domainClose id) = ((s.domainClose id).1, (s.domainClose id).2.refreshStep) := by
  obtain ⟨r, hd, hval⟩ := exists_desc_domainClose hid
  have hst := State.stateRefused_of_accepts h hd
  rw [hval] at hst
  exact ⟨r, hd, by rw [hval]; exact State.dictEffect_domainClose hst⟩

theorem State.cmdWrite_domainClose_applied (hf : s.domainClose id = (0, u)) :
    s.cmdWrite role Obj.domainClose id = u.refreshStep.applied role Obj.domainClose := by
  obtain ⟨r, hd, he⟩ := State.exists_desc_dictEffect_domainClose hid h
  rw [State.cmdWrite_eq]
  exact State.reqWrite_applied h hd (by rw [he, hf])

theorem State.cmdWrite_domainClose_refused (hf : s.domainClose id = (abState, u)) :
    s.cmdWrite role Obj.domainClose id = u.refreshStep.declined Obj.domainClose 0x08000022 := by
  obtain ⟨r, hd, he⟩ := State.exists_desc_dictEffect_domainClose hid h
  rw [State.cmdWrite_eq]
  exact State.reqWrite_declined (c := abState) h hd (by rw [he, hf]) (by decide) (by decide)

end

/-! Notices: R157, R160, R161 -/

/-- A DomainPeer value of stage `n` with a whole header, which names its sender as the home up to stage 5. -/
def isNotice (shelf : Nat) (b : List Nat) (n : Nat) : Prop :=
  listGet 0 b 0 = n ∧ 8 ≤ b.length ∧ anyNonzero (slice b 4 4) = false ∧ (n < 6 → listGet 0 b 1 = shelf)

section
variable {s : State} {shelf n : Nat} {b : List Nat}

theorem isNotice.home (h : isNotice shelf b n) (hn : n < 6) : listGet 0 b 1 = shelf := by
  obtain ⟨-, -, -, hh⟩ := h
  exact hh hn

theorem State.notice_foreign (h1 : listGet 0 b 0 = 1) (hlen : 8 ≤ b.length) (hz : anyNonzero (slice b 4 4) = false)
    (hh : listGet 0 b 1 ≠ shelf) : s.notice 1 shelf b = s.emit (.answer rsRoleDenied Obj.domainPeer) := by
  simp [State.notice, State.domainPeer, h1, Nat.not_lt_of_le hlen, hz, hh]

/-- A prepare with a good descriptor is answered as this member prepares it. -/
theorem State.notice_prepare (h : isNotice shelf b 1) (hd : descCheck s.own (b.drop 8) = none) :
    s.notice 1 shelf b =
      let q := s.memberStage 1 shelf (descId (b.drop 8)) (b.drop 8)
      q.2.emit (.answer q.1 Obj.domainPeer) := by
  obtain ⟨h1, hlen, hz, hh⟩ := h
  simp [State.notice, State.domainPeer, h1, Nat.not_lt_of_le hlen, hz, hh (by decide), hd]

/-- A notice of a later stage is answered as this member takes the stage. -/
theorem State.notice_later (h : isNotice shelf b n) (h2 : 2 ≤ n) (h6 : n ≤ 6) :
    s.notice n shelf b =
      let q := s.memberStage n (listGet 0 b 1) (leNat (slice b 2 2)) (b.drop 8)
      q.2.refreshStep.emit (.answer q.1 Obj.domainPeer) := by
  obtain ⟨rfl, hlen, hz, hh⟩ := h
  have hpeer : s.domainPeer shelf b =
      let q := s.memberStage (listGet 0 b 0) (listGet 0 b 1) (leNat (slice b 2 2)) (b.drop 8)
      (q.1, q.2.refreshStep) :=
    (if_neg (Nat.not_lt_of_le hlen)).trans ((if_neg (by simp [hz]; omega)).trans
      ((if_neg fun ⟨h, hne⟩ => hne (hh h)).trans (if_neg (by omega))))
  unfold State.notice
  rw [if_pos rfl, hpeer]

end

section
variable {s : State} {home id : Nat} {b : List Nat}

theorem State.memberStage_unknown {n : Nat} (hn : n ≠ 1) (hi : s.domSlot id = none) :
    s.memberStage n home id b = (if 4 ≤ n then rsOk else rsStateRefused, s) := by
  simp only [State.memberStage, if_neg hn, hi]

variable {i : Nat} (hi : s.domSlot id = some i)
include hi

theorem State.memberStage_commit :
    s.memberStage 2 home id b = if (s.dom i).state = 1 then (rsOk, s.memberCommit i) else (rsStateRefused, s) := by
  simp [State.memberStage, hi]

theorem State.memberStage_open :
    s.memberStage 3 home id b = if (s.dom i).state = 2 then (rsOk, s.memberOpen i) else (rsStateRefused, s) := by
  simp [State.memberStage, hi]

theorem State.memberStage_abort :
    s.memberStage 4 home id b = (rsOk, if (s.dom i).state = 1 ∨ (s.dom i).state = 2 then s.memberAbort i else s) := by
  simp [State.memberStage, hi]

theorem State.memberStage_close (hs : (s.dom i).state = 3 ∨ (s.dom i).state = 4) :
    s.memberStage 5 home id b = (rsOk, s.memberClose i (decide (home = s.own))) := by
  obtain hs | hs := hs <;> simp [State.memberStage, hi, hs]

theorem State.memberStage_broken : s.memberStage 6 home id b = (rsOk, s.breakDomain i false) := by
  simp [State.memberStage, hi]

end

/-! Times that run out: R157, R160 -/

section
variable {s : State}

theorem State.peerTimeout_late {c : Creation} {m : Nat} (hc : s.pool.create = some c) (hf : c.failed = none) (ht : c.since + 10 * ms ≤ s.now)
    (hm : c.members.find? (fun y => !c.answered.contains y) = some m) : s.peerTimeout = (s.createFail syPeerTimeout m).refreshStep := by
  simp only [State.peerTimeout, hc, hf, hm]
  exact if_pos ⟨rfl, ht⟩

theorem State.peerTimeout_idle (hc : s.pool.create = none) : s.peerTimeout = s := by
  simp only [State.peerTimeout, hc]

variable {i : Nat}

/-- The slot of a closed domain is freed after a second; no tenant is left to be closed with it. -/
theorem State.trayFree_late {y : Nat} (hc : (s.dom i).closedAt = some y) (h5 : (s.dom i).state = 5) (ht : y + sec ≤ s.now)
    (hn : s.slotOf (s.dom i).tenant = none) : s.trayFree i = s.domainFree i := by
  have hslot : (s.domainFree i).slotOf (s.dom i).tenant = none := (State.slotOf_congr (s.domainFree_objs i) _).trans hn
  simp only [State.trayFree, hc, hslot]
  exact if_pos ⟨h5, ht⟩

theorem State.trayFree_idle (h : (s.dom i).closedAt = none ∨ (s.dom i).state ≠ 5) : s.trayFree i = s := by
  unfold State.trayFree
  dsimp only
  split
  · rfl
  · next c hc => exact if_neg fun ⟨h5, _⟩ => h.elim (fun h => Option.some_ne_none c (hc.symm.trans h)) (fun h => h h5)

end

/-- Settles O51: the home's commands by their rules, a notice by the stage that the member takes, the times by their conditions. -/
theorem domainsAreCreatedAndClosedInStages : Obligations.DomainsAreCreatedAndClosedInStages := by
  intro t shelf id role x b s u kc kx own c s1 r nid told ans d
  have later {n code : Nat} {v : State} (h : told n) (h2 : 2 ≤ n) (h6 : n ≤ 6)
      (hq : u.memberStage n (listGet 0 b 1) nid (b.drop 8) = (code, v)) : (.next (u.notice n shelf b) : Res) = ans code v := by
    refine (congrArg Host.Outcome.next (State.notice_later h h2 h6)).trans ?_
    rw [hq]
  have step {v w : State} (h : v = w) : (.next v : Res) = .next w := congrArg _ h
  refine ⟨fun h hb => step (State.reqWrite_rule_refused (key := Obj.domainCreate) rfl h
      (fun _ => State.dictEffect_domainCreate (State.domainCreate_busy hb)) rfl),
    fun e h hb hd => step (State.reqWrite_rule_applied (key := Obj.domainCreate) rfl h
      (fun _ => State.dictEffect_domainCreate (State.domainCreate_invalid hb hd)) rfl),
    fun h hb hd => step (State.reqWrite_rule_applied (key := Obj.domainCreate) rfl h
      (fun _ => State.dictEffect_domainCreate (State.domainCreate_begun hb hd)) rfl),
    fun i h hid hi hh hs => step (State.cmdWrite_domainClose_applied hid h (State.domainClose_home hi hh hs)),
    fun h hid hi => step (State.cmdWrite_domainClose_refused hid h (State.domainClose_unknown hi)),
    fun h1 hlen hz hh => step (State.notice_foreign h1 hlen hz hh),
    fun h hd => step (State.notice_prepare h hd),
    fun i hi => ⟨fun h => ?_, fun h => ?_, fun h => later h (by decide) (by decide) (State.memberStage_abort hi), fun h hs => ?_,
      fun h => later h (by decide) (by decide) (State.memberStage_broken hi)⟩,
    fun hi => ⟨fun h => later h (by decide) (by decide) (State.memberStage_unknown (by decide) hi),
      fun h => later h (by decide) (by decide) (State.memberStage_unknown (by decide) hi),
      fun h => later h (by decide) (by decide) (State.memberStage_unknown (by decide) hi)⟩,
    fun y i => ⟨y.dom_memberCommit i, y.dom_memberOpen i, y.dom_memberAbort i, y.dom_memberClose i, y.dom_breakDomain i⟩,
    fun e m hc hf ht hm => step (State.peerTimeout_late hc hf ht hm), fun hc => step (State.peerTimeout_idle hc),
    fun h1 ht => step (if_pos ⟨h1, ht⟩), fun h => step (if_neg ?_),
    fun y hc h5 ht hn => step (State.trayFree_late hc h5 ht hn), fun h => step (State.trayFree_idle h)⟩
  · split
    · next hs => exact later h (by decide) (by decide) ((State.memberStage_commit hi).trans (if_pos hs))
    · next hs => exact later h (by decide) (by decide) ((State.memberStage_commit hi).trans (if_neg hs))
  · split
    · next hs => exact later h (by decide) (by decide) ((State.memberStage_open hi).trans (if_pos hs))
    · next hs => exact later h (by decide) (by decide) ((State.memberStage_open hi).trans (if_neg hs))
  · have hq : u.memberStage 5 (listGet 0 b 1) nid (b.drop 8) = (rsOk, u.memberClose i (decide (shelf = own))) := by
      rw [isNotice.home h (by decide)]
      exact State.memberStage_close hi hs
    exact later h (by decide) (by decide) hq
  · rintro ⟨h1, ht⟩
    exact h.elim (fun h => h h1) (fun h => Nat.not_lt_of_le ht h)

end Sys2Proof.Machine
end

section
/-! SUPPORT. A slot operation that goes through, and the A slot: tiles, vectors, runs, drains and edge sums (R171 to R173, R211 to R216, R235,
Table 8.7). -/

namespace Sys2Proof.Machine

/-! Indexed lists -/

/-- The element at index `i` of a list over a range stands beside `i`. -/
theorem zipIdx_map_range {α : Type} (n : Nat) (f : Nat → α) : ((List.range n).map f).zipIdx = (List.range n).map (fun i => (f i, i)) :=
  List.ext_getElem (by simp) (by simp)

/-! A slot operation that goes through: R235 -/

section
variable {s : State} {g : Nat} {r : PartRef} {q : PartSt} {x y : ArrSt}

/-- A slot operation whose effect is `y` with flags `fl`. -/
theorem State.slotOp_ok {reads : List Nat} {f : ArrSt → PartSt → Except Nat (ArrSt × Nat)} {fl : Nat} (h : s.issues g reads r q x)
    (hf : f x q = .ok (y, fl)) : s.slotOp g reads f = (s.setArr g y).raiseFlags g r fl := by
  rw [State.slotOp_issues h, hf]

/-- The same without a flag. -/
theorem State.slotOp_quiet {reads : List Nat} {f : ArrSt → PartSt → Except Nat (ArrSt × Nat)} (h : s.issues g reads r q x)
    (hf : f x q = .ok (y, 0)) : s.slotOp g reads f = s.setArr g y := by
  rw [State.slotOp_ok h hf, State.raiseFlags_zero]

/-! The cells and the edges: R172, R173, R211 to R216 -/

theorem ArrSt.loadTile_sound {a offset e : Nat} (h : x.sound q ((x.sreg a + offset) % 2 ^ 32) 64) :
    x.loadTile q a offset e =
      (let rows := (List.range 64).map (fun i => x.lineOps true x.refN (e + x.expStep * i) (x.own q ((x.sreg a + offset) % 2 ^ 32) i))
       let cells := rows.zipIdx.flatMap (fun w => w.1.1.zipIdx.map (fun c => (w.2 * 64 + c.2, c.1)))
       .ok ({ x.swapTile x.cyc with shadow := some { completeAt := x.cyc + 66, ref := x.refN, cells := cells } },
         rows.foldl (fun m w => m ||| w.2) 0)) := by
  unfold ArrSt.loadTile
  rw [ArrSt.partLines_sound h]
  dsimp only
  rw [zipIdx_map_range 64 (x.own q _), List.map_map]
  rfl

/-- The bytes of 64 sums fill four lines. -/
theorem sumLines_length (l : List Int) : (sumLines l).length = 4 := by
  simp [sumLines]

theorem ArrSt.storeEdge_in {a offset : Nat} (h : (x.sreg a + offset) % 2 ^ 32 + 4 ≤ q.decl.storeLines) :
    x.storeEdge q a offset =
      .ok (x.withLines q ((x.sreg a + offset) % 2 ^ 32) (sumLines ((List.range 64).map (fun j => (x.edgeAt j).v))), 0) := by
  unfold ArrSt.storeEdge
  rw [ArrSt.putLines_in (by rw [sumLines_length]; exact h)]

theorem length_flatMap_sumLines (n : Nat) (f : Nat → List Int) : ((List.range n).flatMap (fun i => sumLines (f i))).length = 4 * n := by
  induction n with
  | zero => rfl
  | succ n ih => rw [List.range_succ, List.flatMap_append, List.length_append, ih, List.flatMap_singleton, sumLines_length, Nat.mul_succ]

/-- Writing lines changes the store and the poison alone. -/
theorem ArrSt.withLines_frame {β : Type} (p : ArrSt → β) (h : ∀ a l v, p (ArrSt.setLine a l v) = p a) (rel : Nat) (ls : List (List Nat)) :
    p (x.withLines q rel ls) = p x := by
  unfold ArrSt.withLines
  generalize ls.zipIdx = l
  induction l generalizing x with
  | nil => rfl
  | cons e l ih => rw [List.foldl_cons, ih, h]

theorem ArrSt.withLines_ready (rel : Nat) (ls : List (List Nat)) : (x.withLines q rel ls).ready = x.ready :=
  ArrSt.withLines_frame ArrSt.ready (fun _ _ _ => rfl) rel ls

theorem ArrSt.withLines_cyc (rel : Nat) (ls : List (List Nat)) : (x.withLines q rel ls).cyc = x.cyc :=
  ArrSt.withLines_frame ArrSt.cyc (fun _ _ _ => rfl) rel ls

theorem ArrSt.drainCells_in {a offset : Nat} (h : (x.sreg a + offset) % 2 ^ 32 + 256 ≤ q.decl.storeLines) :
    x.drainCells q a offset =
      (let rows := (List.range 64).flatMap (fun i => sumLines ((List.range 64).map (fun c => (x.cellSum (i * 64 + c)).v)))
       .ok ({ x.withLines q ((x.sreg a + offset) % 2 ^ 32) rows with
         psum := [], pSeed := 0, ready := smSet (fun _ => 0) x.ready rkOs (x.cyc + 64) }, 0)) := by
  unfold ArrSt.drainCells
  dsimp only
  rw [ArrSt.putLines_in (by rw [length_flatMap_sumLines]; exact h)]
  simp only [ArrSt.busy, ArrSt.withLines_ready, ArrSt.withLines_cyc]

/-- A vector meets the tile that is complete two cycles after issue. -/
theorem ArrSt.wsVector_sound {a offset e : Nat} (h : x.sound q ((x.sreg a + offset) % 2 ^ 32) 1) :
    x.wsVector q a offset e =
      (let y := x.swapTile (x.cyc + 2)
       let ops := y.lineOps false y.refW e (x.own q ((x.sreg a + offset) % 2 ^ 32) 0)
       let sums := (List.range 64).map (columnSum y ops.1)
       let z := y.edgeTake (sums.map (·.1)) (columnExp y.fmt y.frame y.refW y.weightRef)
       .ok (z.1.busy rkEdge 135, sums.foldl (fun m c => m ||| c.2) (ops.2 ||| z.2))) := by
  unfold ArrSt.wsVector
  rw [ArrSt.partLines_sound h]
  rfl

/-- Step `i` of a run meets line `i` from each edge's first on. -/
theorem ArrSt.osRun_sound {a b k : Nat} (ha : x.sound q (x.sreg a) k) (hb : x.sound q (x.sreg b) k) :
    x.osRun q a b k =
      (let z := (List.range k).foldl (fun (acc : Flagged ArrSt) i =>
         ((acc.1.osStep i (x.own q (x.sreg a) i) (x.own q (x.sreg b) i)).1,
           acc.2 ||| (acc.1.osStep i (x.own q (x.sreg a) i) (x.own q (x.sreg b) i)).2))
         ({ x with psumX := columnExp x.fmt x.frame x.refW x.refN }, 0)
       .ok (z.1.busy rkOs (k + 128), z.2)) := by
  unfold ArrSt.osRun
  rw [ArrSt.partLines_sound ha, ArrSt.partLines_sound hb]
  dsimp only
  rw [List.zip_map', zipIdx_map_range, List.foldl_map]

end

/-- Settles O7: each operation by what it does to its array where the lines it names are sound; the order of DRAIN's rows and the width of
SETREF's operand are log entries 54 and 152. -/
theorem edgeOperationsRunTheArray : Obligations.EdgeOperationsRunTheArray := by
  intro s g os add north fmt f a offset e table r q x line
  have step {v w : State} (h : v = w) : (.next v : Res) = .next w := congrArg _ h
  refine ⟨fun h => step (State.slotPure_issues h _), fun h => step (State.slotPure_issues h _), fun h => step (State.slotPure_issues h _),
    fun h => step (State.slotPure_issues h _), fun h hs => step (State.slotOp_ok h (ArrSt.loadTile_sound hs)),
    fun h hl => step (State.slotOp_quiet h (ArrSt.storeEdge_in hl)), fun h hl => step (State.slotOp_quiet h (ArrSt.drainCells_in hl))⟩

/-- Settles O8: the vector and the run by what they do to their array where their lines are sound. -/
theorem vectorsMeetTheTileAndRunsFillTheCells : Obligations.VectorsMeetTheTileAndRunsFillTheCells := by
  intro s g a b offset e k r q x line
  exact ⟨fun h hs => congrArg Host.Outcome.next (State.slotOp_ok h (ArrSt.wsVector_sound hs)),
    fun h ha hb => congrArg Host.Outcome.next (State.slotOp_ok h (ArrSt.osRun_sound ha hb))⟩

end Sys2Proof.Machine
end

section
/-! SUPPORT. The V slot: conversions, lookups, reductions and moves (R179, R219, R224, R235, R236, Table 8.8). -/

namespace Sys2Proof.Machine

/-! A conversion gives a code to each lane: R236 -/

theorem length_glEncodeBlock (f : Nat) (T : List Nat) (fixed : Option Int) (xs : List Lin) : (glEncodeBlock f T fixed xs).1.length = xs.length := by
  cases fixed <;> simp [glEncodeBlock]

theorem length_mxEncodeBlock (c : Nat) (xs : List Lin) : (mxEncodeBlock c xs).1.length = xs.length := by
  simp [mxEncodeBlock]

theorem length_vcvtBlock (tgt src n : Nat) (X : Int) (fixed : Option Int) (D T : List Nat) (ls : List (Nat × Bool)) :
    (vcvtBlock tgt src n X fixed D T ls).1.length = ls.length := by
  unfold vcvtBlock
  dsimp only
  split
  · simp
  · split
    · simp
    · split
      · simp [length_mxEncodeBlock]
      · simp [length_glEncodeBlock]

theorem ArrSt.length_convert (x : ArrSt) (a target source c : Nat) : (x.convert a target source c).1.length = 64 := by
  simp [ArrSt.convert, length_vcvtBlock]

/-- A list is its elements by index. -/
theorem eq_map_range_getD {l : List Nat} {n : Nat} (h : l.length = n) : l = (List.range n).map (fun i => l.getD i 0) :=
  List.ext_getElem (by simp [h]) (fun i h1 _ => by simp [h1])

theorem replicate_eq_map_range (n v : Nat) : List.replicate n v = (List.range n).map (fun _ => v) := by
  rw [List.map_const', List.length_range]

/-- A write of a scalar register changes neither the cycle nor what else is ready. -/
theorem ArrSt.busy_setS (x : ArrSt) (i v k lat : Nat) :
    (x.setS i v).busy k lat = { x.setS i v with ready := smSet (fun _ => 0) x.ready k (x.cyc + lat) } := by
  unfold ArrSt.busy ArrSt.setS
  by_cases h : i = 0
  · rw [if_pos h]
  · rw [if_neg h]

/-- A lookup fills Vd from the table's entries, and keeps the table busy for four cycles (R179). -/
theorem State.lookup_issues {s : State} {g a t : Nat} {r : PartRef} {q : PartSt} {x : ArrSt} (h : s.issues g [rkV a, rkT t, rkLook t] r q x)
    (d : Nat) (interp : Bool) :
    s.lookup g d a t interp = s.setArr g { x.vecDone d 8 (fun l => x.lookupLane t interp (x.lane a l)) with
      ready := smSet (fun _ => 0) (smSet (fun _ => 0) x.ready (rkV d) (x.cyc + 8)) (rkLook t) (x.cyc + 4) } := by
  refine State.slotOp_quiet h ?_
  simp only [ArrSt.vec, List.map_map]
  rfl

/-- Settles O10: each operation by the lanes that it gives its register. -/
theorem vectorsConvertLookUpReduceAndMove : Obligations.VectorsConvertLookUpReduceAndMove := by
  intro s g d a c lane target source table interp expo op r q x done
  have step {v w : State} (h : v = w) : (.next v : Res) = .next w := congrArg _ h
  refine ⟨fun h => step (State.vecOp_issues h _ _ _ _ (eq_map_range_getD (ArrSt.length_convert ..))), fun h => step (State.lookup_issues h _ _),
    fun h => ⟨step (State.vecOp_issues h _ _ _ _ (replicate_eq_map_range ..)), step ((State.slotPure_issues h _).trans (congrArg _ (ArrSt.busy_setS ..)))⟩,
    fun h => step (State.vecOp_issues h _ _ _ _ (replicate_eq_map_range ..)), fun h => step (State.vecOp_issues h _ _ _ _ (List.map_id' _).symm)⟩

end Sys2Proof.Machine
end

section
/-! SUPPORT. The M slot: loads and stores of the part's lines (R180, R197, R239, Table 8.9). -/

namespace Sys2Proof.Machine

section
variable {s : State} {g : Nat} {r : PartRef} {q : PartSt} {x y : ArrSt} {a offset : Nat} {reads : List Nat}

theorem flatten_map_range_one (f : Nat → List Nat) : ((List.range 1).map f).flatten = f 0 := by simp

/-- A load of one line. -/
theorem State.loadOp_line (h : s.issues g (a :: reads) r q x) (hs : x.sound q ((x.sreg a + offset) % 2 ^ 32) 1) (f : ArrSt → List Nat → ArrSt) :
    s.loadOp g a offset 1 reads f = s.setArr g (f x (x.own q ((x.sreg a + offset) % 2 ^ 32) 0)) := by
  rw [State.loadOp_issues h hs, flatten_map_range_one]

/-- A load of four lines. -/
theorem State.loadOp_fourLines (h : s.issues g (a :: reads) r q x) (hs : x.sound q ((x.sreg a + offset) % 2 ^ 32) 4)
    (f : ArrSt → List Nat → ArrSt) :
    s.loadOp g a offset 4 reads f = s.setArr g (f x
      (x.own q ((x.sreg a + offset) % 2 ^ 32) 0 ++ x.own q ((x.sreg a + offset) % 2 ^ 32) 1 ++
        x.own q ((x.sreg a + offset) % 2 ^ 32) 2 ++ x.own q ((x.sreg a + offset) % 2 ^ 32) 3)) := by
  rw [State.loadOp_issues h hs]
  simp [List.range_succ]

theorem ArrSt.busy_tableSrc (k lat : Nat) (m : List (Nat × Nat)) :
    ({ y.busy k lat with tableSrc := m } : ArrSt) = { y with ready := smSet (fun _ => 0) y.ready k (y.cyc + lat), tableSrc := m } := rfl

theorem ArrSt.tload_sound {t : Nat} (h : x.sound q ((x.sreg a + offset) % 2 ^ 32) 256) :
    x.tload q t a offset =
      (let line := q.base + (x.sreg a + offset) % 2 ^ 32
       let y := x.loadTable t line
       .ok ({ y with ready := smSet (fun _ => 0) y.ready (rkT t) (y.cyc + 64), tableSrc := smPut x.tableSrc t line }, 0)) := by
  unfold ArrSt.tload ArrSt.addr
  rw [ArrSt.partLines_sound h]
  dsimp only
  rw [ArrSt.busy_tableSrc]

/-- Key 71 is the north edge's exponent buffer, key 70 the west's. -/
theorem rkExp_decide (p : Prop) [Decidable p] : rkExp (decide p) = if p then 71 else 70 := by
  by_cases h : p <;> simp [h]

end

/-- Settles O11: each load by the lines it reads. -/
theorem storeLoadsFillRegisters : Obligations.StoreLoadsFillRegisters := by
  intro s g v d a offset sub3 sub8 table r q x p done
  have step {v w : State} (h : v = w) : (.next v : Res) = .next w := congrArg _ h
  refine ⟨fun h => ⟨fun hs => step (State.loadOp_fourLines h hs _), fun hs => ⟨step (State.loadOp_line h hs _), step ?_,
    ?_⟩⟩, fun h hs => step (State.slotOp_quiet h ?_), fun h hs => ?_⟩
  · rw [← rkExp_decide]
    exact State.loadOp_line h hs _
  · exact step (State.loadOp_line h hs _)
  · dsimp only [ArrSt.addr]
    rw [ArrSt.partLines_sound hs]
    simp only [flatten_map_range_one]
    rfl
  · exact step (State.slotOp_quiet h (ArrSt.tload_sound hs))

/-- Settles O12: each store by the lines it writes, and the bytes that a write leaves alone. -/
theorem storesWriteTheirLinesOnly : Obligations.StoresWriteTheirLinesOnly := by
  intro s g v d a offset sub3 r q x p
  have step {v w : State} (h : v = w) : (.next v : Res) = .next w := congrArg _ h
  refine ⟨fun h => ⟨fun hl => step (State.slotOp_quiet h ?_), fun hl => step (State.slotOp_quiet h ?_), fun hl => step (State.slotOp_quiet h ?_)⟩,
    fun h hl => step (State.slotOp_quiet h ?_), fun rel b w l hl => ArrSt.withBytes_line x q rel b w hl,
    fun rel ls l hl => ArrSt.withLines_line x q rel ls hl⟩
  · dsimp only [ArrSt.addr]
    rw [ArrSt.putLines_in (by simp only [List.length_map, List.length_range]; exact hl)]
  · dsimp only [ArrSt.addr]
    by_cases h0 : sub3.val = 0
    · rw [if_pos h0, if_pos h0, ArrSt.putLines_in hl]
    · rw [if_neg h0, if_neg h0, ArrSt.putBytes_in hl]
  · dsimp only [ArrSt.addr]
    rw [ArrSt.putBytes_in hl]
  · dsimp only [ArrSt.addr]
    rw [ArrSt.putBytes_in hl]

end Sys2Proof.Machine
end

section
/-! SUPPORT. Transfers: their start and their completion (R183, R237, R288, Table 8.11). -/

namespace Sys2Proof.Machine

section
variable {s : State} {g : Nat} {r : PartRef} {q : PartSt} {x : ArrSt}

theorem State.issues.curPart {reads : List Nat} (h : s.issues g reads r q x) : s.curPart g = some (r, q) := h.1

/-! The start: R237 -/

section
variable {a offset : Nat} (h : s.issues g [a] r q x) (hs : x.sound q ((x.sreg a + offset) % 2 ^ 32) 1)
include h hs

/-- A descriptor that names a transfer adds it to the outstanding ones. -/
theorem State.xfer_started {f : Xfer} (hn : x.xfers.length < 8) (hd : s.xferOf r q (x.own q ((x.sreg a + offset) % 2 ^ 32) 0) = .ok (some f)) :
    s.xfer g a offset = s.setArr g { x with xfers := x.xfers ++ [f] } := by
  unfold State.xfer
  rw [h.curPart]
  refine State.slotOp_quiet h ?_
  dsimp only [ArrSt.addr]
  rw [ArrSt.partLines_sound hs]
  dsimp only
  rw [if_neg (Nat.not_le_of_lt hn), flatten_map_range_one, hd]

/-- A ninth transfer is not issued. -/
theorem State.xfer_waits (hn : 8 ≤ x.xfers.length) : s.xfer g a offset = s.setArr g x := by
  unfold State.xfer
  rw [h.curPart]
  refine State.slotOp_quiet h ?_
  dsimp only [ArrSt.addr]
  rw [ArrSt.partLines_sound hs]
  exact if_pos hn

end

/-! The completion: R183, R288 -/

section
variable {i : Nat} {f : Xfer} (h : (s.arr g).xfers[i]? = some f)
include h

/-- A bad block ends the transfer without its flag and stops the program (log entry 153). -/
theorem State.xferDone_bad (hb : s.xferBad g f = true) :
    s.xferDone g i = (s.setArr g { s.arr g with xfers := (s.arr g).xfers.eraseIdx i }).stopNow f.handle 0x7B pgStopped := by
  unfold State.xferDone
  dsimp only
  rw [h]
  exact if_pos hb

/-- The data reach the place that the kind names, and then the flag value its line. -/
theorem State.xferDone_delivered {b : List Nat} (hb : s.xferBad g f = false) (hd : s.xferData g f = some b) :
    s.xferDone g i =
      (let w := s.setArr g { s.arr g with xfers := (s.arr g).xfers.eraseIdx i }
       let z := if f.kind = 3 then w.putStack (dieOf g) f.remote b
         else if f.kind = 1 then w.setArr f.dstArray ((w.arr f.dstArray).setLines f.remote b)
         else w.setArr g ((w.arr g).setLines f.localLine b)
       z.setArr f.flagArray { z.arr f.flagArray with
         store := smSet (fun _ => List.replicate 64 0) (z.arr f.flagArray).store f.flagLine
           (leBytes 8 f.flagValue ++ ((z.arr f.flagArray).line f.flagLine).drop 8) }) := by
  unfold State.xferDone
  dsimp only
  rw [h]
  dsimp only
  rw [if_neg (Bool.eq_false_iff.mp hb), hd]

end
end

/-- Settles O14: a start by its descriptor, a completion by its data; a bad block by R288 and log entry 153. -/
theorem transfersStartAndDeliver : Obligations.TransfersStartAndDeliver := by
  intro t s g a offset i r q x f b
  have step {v w : State} (h : v = w) : (.next v : Res) = .next w := congrArg _ h
  exact ⟨fun h hs => ⟨fun hn hd => step (State.xfer_started h hs hn hd), fun hn => step (State.xfer_waits h hs hn)⟩,
    fun h hb => step (State.xferDone_bad h hb), fun h hb hd => step (State.xferDone_delivered h hb hd)⟩

end Sys2Proof.Machine
end

section
/-! SUPPORT. Faults, self-tests, wakes, entries and scrubs of an array, and ArrayCommand (R191, R192, R194 to R198, R201, R580, Table 6.16). -/

namespace Sys2Proof.Machine

section
variable {s : State} {g : Nat}

@[simp] theorem State.arr_setArr_same (s : State) (g : Nat) (a : ArrSt) : (s.setArr g a).arr g = a := by rw [State.arr_setArr, if_pos rfl]

/-! Faults: R198 -/

/-- The array is neither faulted nor lost, and its die is on. -/
def State.faultable (s : State) (g : Nat) : Prop := (s.arr g).power ≠ 5 ∧ (s.arr g).power ≠ 6 ∧ s.nat (Obj.dieState (dieOf g)) = 1

/-- A fault of Table 6.16 is recorded and raised with the array's reaction. -/
theorem State.arrayFault_faultable {cause : Nat} (h : s.faultable g) (h1 : 1 ≤ cause) (h9 : cause ≤ 9) :
    s.arrayFault g cause = (s.setNat (Obj.lastFault g) cause).raise (arrayBlock g) (arrayClass cause) cause g lvBlock true := by
  obtain ⟨h5, h6, hd⟩ := h
  unfold State.arrayFault
  exact if_neg (by simp [h5, h6, hd]; omega)

theorem State.arrayFault_out {cause : Nat} (h : (s.arr g).power = 5 ∨ (s.arr g).power = 6) : s.arrayFault g cause = s :=
  if_pos (h.imp_right Or.inl)

/-! Wakes and entries: R191, R192, R194 -/

/-- A new power state brings the array's clock up to date and changes nothing else of it. -/
theorem State.arr_setPower (s : State) (g st : Nat) : (s.setPower g st).arr g = { s.arr g with mark := s.now, power := st } := by
  unfold State.setPower State.accountArr
  simp

theorem State.wakeStart_due {w : Nat} (hw : (s.arr g).wakeAt = some w) (ht : w ≤ s.now) (h1 : 1 ≤ (s.arr g).power) (h3 : (s.arr g).power ≤ 3)
    (he : (s.arr g).entering = 0) : s.wakeStart g = s.startWake g := by
  unfold State.wakeStart
  dsimp only
  rw [hw]
  exact if_pos ⟨ht, h1, h3, he⟩

theorem State.wakeStart_unscheduled (hw : (s.arr g).wakeAt = none) : s.wakeStart g = s := by
  unfold State.wakeStart
  dsimp only
  rw [hw]

section
variable (h4 : (s.arr g).power = 4) (ht : (s.arr g).wakeDone ≤ s.now) (hd : (s.arr g).demand = true)
include h4 ht

/-- A failed self-test faults the array that woke from Nap or Sleep. -/
theorem State.wakeDone_failed (h2 : 2 ≤ (s.arr g).wakeFrom) : s.wakeDone g false = (s.wakeContents g).arrayFault g 3 := by
  unfold State.wakeDone
  dsimp only
  rw [if_pos ⟨h4, ht⟩, if_neg (by simp only [Bool.false_or, decide_eq_true_eq]; omega)]

include hd

/-- From Active or Idle nothing has to be brought back and no test has run. -/
theorem State.wakeDone_shallow (h1 : (s.arr g).wakeFrom ≤ 1) (pass : Bool) : s.wakeDone g pass = s.setPower g 0 := by
  have hc : s.wakeContents g = s := by
    unfold State.wakeContents
    dsimp only
    rw [if_neg (by omega), if_neg (by omega)]
  unfold State.wakeDone
  dsimp only
  rw [if_pos ⟨h4, ht⟩, if_pos (by simp [h1]), if_pos hd, if_neg (by omega), hc]

theorem State.wakeDone_passed (h2 : 2 ≤ (s.arr g).wakeFrom) :
    s.wakeDone g true =
      (let w := (s.wakeContents g).setPower g 0
       w.setArr g { w.arr g with lastSelfTest := w.now }) := by
  unfold State.wakeDone
  dsimp only
  rw [if_pos ⟨h4, ht⟩, Bool.true_or, if_pos rfl, if_pos hd, if_pos h2]

end

theorem State.wakeDone_awake (pass : Bool) (h4 : (s.arr g).power ≠ 4) : s.wakeDone g pass = s := if_neg (fun ⟨h, _⟩ => h4 h)

/-- A wake from Nap brings back the tables and the CCR that were saved. -/
theorem State.wakeContents_nap (h : (s.arr g).wakeFrom = 2) :
    s.wakeContents g = s.setArr g { s.arr g with tables := (s.arr g).savedTables, ccr := (s.arr g).savedCcr } := if_pos h

/-- What an entry keeps: Nap saves the tables and the CCR, Sleep loses the store. -/
def ArrSt.entered (a : ArrSt) (c : Nat) : ArrSt :=
  let b := { a with power := c, entering := 0 }
  if c = 2 then { b with savedTables := a.tables, savedCcr := a.ccr } else if c = 3 then { b with store := [], poison := [] } else b

/-- An entry that nothing demands back ends in the state entered. -/
theorem State.entryComplete_settled (he : (s.arr g).entering ≠ 0) (ht : (s.arr g).entryDone ≤ s.now) (h3 : (s.arr g).power ≤ 3)
    (hd : (s.arr g).demand = false) (hw : (s.arr g).wakeAt = none) :
    (s.entryComplete g).arr g = ArrSt.entered { s.arr g with mark := s.now } (s.arr g).entering := by
  unfold State.entryComplete
  dsimp only
  rw [if_pos ⟨he, ht, h3⟩, State.arr_setPower, if_neg (by simp [hd, hw]), State.arr_setArr_same]
  rfl

theorem State.entryComplete_none (h : (s.arr g).entering = 0) : s.entryComplete g = s := if_neg (fun ⟨hc, _⟩ => hc h)

/-- Whatever the entry keeps, the array is in the state entered and enters none. -/
theorem ArrSt.entered_power (a : ArrSt) (c : Nat) : (a.entered c).power = c ∧ (a.entered c).entering = 0 := by
  unfold ArrSt.entered
  dsimp only
  split
  · exact ⟨rfl, rfl⟩
  · split
    · exact ⟨rfl, rfl⟩
    · exact ⟨rfl, rfl⟩

/-! Self-tests: R196, R580 -/

theorem State.selfTest_passed (ht : (s.arr g).testSince = none) (hp : (s.arr g).power = 0) (hd : s.nat (Obj.dieState (dieOf g)) = 1) :
    s.selfTest g true = s.setArr g { s.arr g with lastSelfTest := s.now } := by
  unfold State.selfTest
  dsimp only
  rw [if_neg (by simp [ht]), if_pos ⟨hp, hd⟩, if_pos rfl]

theorem State.selfTest_failed (ht : (s.arr g).testSince = none) (hp : (s.arr g).power = 0) (hd : s.nat (Obj.dieState (dieOf g)) = 1) :
    s.selfTest g false = (s.setNat (Obj.lastFault g) 3).raise (arrayBlock g) clComputation 3 g lvBlock true := by
  unfold State.selfTest
  dsimp only
  rw [if_neg (by simp [ht]), if_pos ⟨hp, hd⟩, if_neg Bool.false_ne_true]
  exact State.arrayFault_faultable ⟨by omega, by omega, hd⟩ (by decide) (by decide)

/-- A test asked for by ArrayCommand 1 ends instead of the regular one. -/
theorem State.selfTest_asked {w : Nat} (pass : Bool) (ht : (s.arr g).testSince = some w) : s.selfTest g pass = s.arrayTestDone g pass :=
  if_pos (by rw [ht]; rfl)

/-! Scrubbing: R195, R197 -/

section
variable (h : s.faultable g) (h3 : (s.arr g).power ≠ 3)
include h h3

theorem State.scrubLine_clean (bundle : Bool) (line : Nat) : s.scrubLine g bundle line 0 = s := by
  obtain ⟨h5, h6, hd⟩ := h
  unfold State.scrubLine
  simp [h3, h5, h6, hd]

theorem State.scrubLine_corrected (bundle : Bool) (line : Nat) : s.scrubLine g bundle line 1 = s.count (Obj.correctedErrors2480 g) := by
  obtain ⟨h5, h6, hd⟩ := h
  unfold State.scrubLine
  simp [h3, h5, h6, hd]

/-- An uncorrectable error in bundle memory. -/
theorem State.scrubLine_bundle (line : Nat) : s.scrubLine g true line 2 = (s.count (Obj.uncorrectedErrors g)).arrayFault g 7 := by
  obtain ⟨h5, h6, hd⟩ := h
  unfold State.scrubLine
  simp [h3, h5, h6, hd]

/-- An uncorrectable error in a store line. -/
theorem State.scrubLine_store {line : Nat} (hl : line < 65536) : s.scrubLine g false line 2 = s.lineBad g line := by
  obtain ⟨h5, h6, hd⟩ := h
  unfold State.scrubLine
  simp [h3, h5, h6, hd, hl]

end

/-- A table that differs from its store copy after the upset of an entry faults the array. -/
theorem State.tableCompare_upset (hp : (s.arr g).power = 0 ∨ (s.arr g).power = 1) (e v : Nat) :
    s.tableCompare g (some (e, v)) =
      (let b : ArrSt := { s.arr g with tables := smPut (s.arr g).tables (e % 16384) (v % 2 ^ 32) }
       if ∀ x ∈ b.tableSrc, b.tableMatches x.1 x.2 = true then s.setArr g b else (s.setArr g b).arrayFault g 6) := by
  unfold State.tableCompare
  dsimp only
  rw [if_pos hp]
  simp only [List.all_eq_true]

end

/-! ArrayCommand: R201, R580 -/

/-- ArrayCommand of array `g` is subindex 12 of object 0x2480 + `g`. -/
theorem arrayCommand_key (g : Nat) : Obj.arrayCommand g / 256 = 0x2480 + g ∧ Obj.arrayCommand g % 256 = 12 := by
  unfold Obj.arrayCommand
  omega

theorem isByteObj_arrayCommand (g : Fin 128) : isByteObj (Obj.arrayCommand g.val) := by
  have row : ∀ g : Fin 128, (descOf (0x2480 + g.val) 12).map (·.ty) = some (.num 8 false) := by decide
  obtain ⟨hidx, hsub⟩ := arrayCommand_key g.val
  rw [isByteObj, hidx, hsub, row]

theorem State.dictEffect_arrayCommand {s : State} {path : Path} {port : Nat} {role : Role} {v : Nat} {b : List Nat} (g : Fin 128)
    (h : s.stateRefused (Obj.arrayCommand g.val / 256) (Obj.arrayCommand g.val % 256) v = false) :
    s.dictEffect path port role (Obj.arrayCommand g.val / 256) (Obj.arrayCommand g.val % 256) v b = s.arrayCmd g.val v := by
  obtain ⟨hidx, hsub⟩ := arrayCommand_key g.val
  rw [hidx, hsub] at h ⊢
  unfold State.dictEffect
  rw [if_neg (Bool.eq_false_iff.mp h)]
  split
  case h_31 => rw [if_neg (by omega), if_neg (by omega), if_pos (by omega), Nat.add_sub_cancel_left, Int.toNat_natCast]
  all_goals omega

section
variable {s : State} {g : Nat}

/-- A faulted array in a half and on a die that stand is tested. -/
theorem State.arrayCmd_return (h5 : (s.arr g).power = 5) (hl : s.lost (g / 64) = false) (hr : s.reacted (g / 64) = false)
    (hd : s.nat (Obj.dieState (dieOf g)) = 1) :
    s.arrayCmd g 1 = (0, ((s.setArr g { s.arr g with testSince := some s.now }).setNat (Obj.arrayCommand g) 1).setNat
      (Obj.blockState (arrayBlock g)) 4) :=
  if_neg (by simp [h5, hl, hr, hd])

theorem State.arrayCmd_return_refused (h5 : (s.arr g).power ≠ 5) : s.arrayCmd g 1 = (abState, s) := if_pos (Or.inl h5)

/-- An array in service is taken out of it without an entry in its fault queue (log entry 52). -/
theorem State.arrayCmd_out (h5 : (s.arr g).power ≠ 5) (h6 : (s.arr g).power ≠ 6) :
    s.arrayCmd g 2 = (0, ((s.arrayOut g 5).setNat (Obj.blockState (arrayBlock g)) 2).runReplacements) :=
  if_neg (by simp [h5, h6])

end

/-- Settles O38: each event of an array by its condition, ArrayCommand as a write of one byte; the class of a fault by its cause (log entry 124). -/
theorem arraysWakeTestAndFault : Obligations.ArraysWakeTestAndFault := by
  intro t cause line e v role g pass s u i a kc live cls
  have step {v w : State} (h : v = w) : (.next v : Res) = .next w := congrArg _ h
  have ret := State.dictEffect_arrayCommand (s := u) (path := rolePath role) (port := 1) (role := role) (v := 1) (b := numBytes kc 1) g
  have out := State.dictEffect_arrayCommand (s := u) (path := rolePath role) (port := 1) (role := role) (v := 2) (b := numBytes kc 2) g
  refine ⟨fun h h1 h9 => step (State.arrayFault_faultable h h1 h9), fun h => step (State.arrayFault_out h),
    fun w hw ht h1 h3 he => step (State.wakeStart_due hw ht h1 h3 he), fun hw => step (State.wakeStart_unscheduled hw),
    fun h4 ht h1 hd => step (State.wakeDone_shallow h4 ht hd h1 pass),
    fun h4 ht h2 hd => ⟨step (State.wakeDone_passed h4 ht hd h2), step (State.wakeDone_failed h4 ht h2)⟩,
    fun h4 => step (State.wakeDone_awake pass h4), State.wakeContents_nap, fun he ht h3 hd hw => ⟨_, rfl, ?_⟩,
    fun he => step (State.entryComplete_none he),
    fun ht hp hd => ⟨step (State.selfTest_passed ht hp hd), step (State.selfTest_failed ht hp hd)⟩,
    fun w hw => step (State.selfTest_asked pass hw),
    fun h h3 => ⟨step (State.scrubLine_corrected h h3 false line), step (State.scrubLine_clean h h3 false line),
      step (State.scrubLine_bundle h h3 line), fun hl => step (State.scrubLine_store h h3 hl)⟩,
    fun hp => step (State.tableCompare_upset hp e v),
    fun h h5 hl hr hd => step (State.cmdWrite_byte_applied (isByteObj_arrayCommand g) (by decide) h ret (State.arrayCmd_return h5 hl hr hd)),
    fun h h5 => step (State.cmdWrite_byte_refused (isByteObj_arrayCommand g) (by decide) h ret (State.arrayCmd_return_refused h5)),
    fun h h5 h6 => step (State.cmdWrite_byte_applied (isByteObj_arrayCommand g) (by decide) h out (State.arrayCmd_out h5 h6))⟩
  rw [State.entryComplete_settled he ht h3 hd hw]
  obtain ⟨hpow, hent⟩ := ArrSt.entered_power { u.arr i with mark := u.now } (u.arr i).entering
  refine ⟨hpow, hent, fun hc => ?_, fun hc => ?_⟩
  · rw [hc]
    rfl
  · rw [hc]
    exact ⟨rfl, rfl⟩

end Sys2Proof.Machine
end

section
/-! SUPPORT. Die links, operating points and halts (R185, R446 to R449, R564). -/

namespace Sys2Proof.Machine

/-! Sparse maps: what a write puts in and an erasure takes out -/

theorem mem_smPut {α : Type} (q : Nat) (v : α) (m : List (Nat × α)) : (q, v) ∈ smPut m q v := by
  induction m with
  | nil => exact List.mem_singleton.mpr rfl
  | cons e m ih =>
    unfold smPut
    split
    · exact List.mem_cons_self
    · split
      · exact List.mem_cons_self
      · exact List.mem_cons_of_mem _ ih

theorem ne_of_mem_smErase {α : Type} {q : Nat} {m : List (Nat × α)} {x : Nat × α} (h : x ∈ smErase m q) : x.1 ≠ q := by
  obtain ⟨-, hp⟩ := List.mem_filter.mp h
  simpa using hp

section
variable {s : State} {d : Nat}

/-! Die links: R185 -/

theorem State.linkFails_up (h : s.nat (Obj.eastLinkState d) = 1) : s.linkFails d = (s.count (Obj.eastLinkRetries d) 8).dieLinkFault d := if_pos h

theorem State.linkFails_down (h : s.nat (Obj.eastLinkState d) ≠ 1) : s.linkFails d = s := if_neg h

/-- A link that is not down already faults the exchange nodes of both dies. -/
theorem State.dieLinkFault_fresh (h : ∀ x ∈ s.pecan.linkDown, x.1 ≠ d) :
    s.dieLinkFault d =
      ((s.raise (exchangeBlock d) clCommunication 6 d lvBlock).raise (exchangeBlock (d + 1)) clCommunication 6 d lvBlock).dieLinkDown d :=
  if_neg (by simpa using fun b (hm : (d, b) ∈ s.pecan.linkDown) => h _ hm rfl)

/-- The record of the links that have come up, after an attempt at link `d`. -/
def State.retrained (s : State) (d : Nat) (up : Bool) : List (Nat × Nat) :=
  if up then (if s.pecan.linkUp.any (fun e => e.1 = d) then s.pecan.linkUp else smPut s.pecan.linkUp d (s.now + 1)) else smErase s.pecan.linkUp d

section
variable {e : Nat × Nat}

/-- A second after the last attempt the next is made and noted (log entry 133). -/
theorem State.linkRetrain_due (hf : s.pecan.linkDown.find? (fun e => e.1 = d) = some e) (ht : e.2 - 1 + sec ≤ s.now) (up : Bool) :
    s.linkRetrain d up = { s with pecan := { s.pecan with linkDown := smPut s.pecan.linkDown d (s.now + 1), linkUp := s.retrained d up } } := by
  unfold State.linkRetrain
  rw [hf]
  exact if_pos ht

theorem State.linkRetrain_early (hf : s.pecan.linkDown.find? (fun e => e.1 = d) = some e) (ht : s.now < e.2 - 1 + sec) (up : Bool) :
    s.linkRetrain d up = s := by
  unfold State.linkRetrain
  rw [hf]
  exact if_neg (Nat.not_le_of_lt ht)

theorem State.linkRestored_due (hf : s.pecan.linkUp.find? (fun e => e.1 = d) = some e) (ht : e.2 - 1 + sec ≤ s.now) :
    s.linkRestored d = s.dieLinkBack d := by
  unfold State.linkRestored
  rw [hf]
  exact if_pos ht

theorem State.linkRestored_early (hf : s.pecan.linkUp.find? (fun e => e.1 = d) = some e) (ht : s.now < e.2 - 1 + sec) : s.linkRestored d = s := by
  unfold State.linkRestored
  rw [hf]
  exact if_neg (Nat.not_le_of_lt ht)

end

theorem State.linkRestored_down (hf : s.pecan.linkUp.find? (fun e => e.1 = d) = none) : s.linkRestored d = s := by
  unfold State.linkRestored
  rw [hf]

theorem State.retrained_failed : ∀ x ∈ s.retrained d false, x.1 ≠ d := fun _ h => ne_of_mem_smErase h

theorem State.retrained_up : ∃ x ∈ s.retrained d true, x.1 = d := by
  unfold State.retrained
  rw [if_pos rfl]
  split
  · next h => simpa using h
  · exact ⟨_, mem_smPut d _ _, rfl⟩

/-! Operating points: R446 to R449 -/

theorem State.evalPoints_off {amps : List Nat} (h : s.mode = .off ∨ s.mode = .ship ∨ s.boot.inReset = true) : s.evalPoints amps = s := if_pos h

/-- Each die's throttling is judged, its point evaluated, and the power estimated. -/
theorem State.evalPoints_on {amps : List Nat} (h : ¬(s.mode = .off ∨ s.mode = .ship ∨ s.boot.inReset = true)) :
    s.evalPoints amps =
      (let w : State := { s with pow := { s.pow with lastPoint := s.now } }
       (w.forEach (List.range 8) (fun v d =>
         ((v.throttleTimes d (s.now / 1000 - s.pow.lastPoint / 1000)).railThrottle d (listGet 0 amps d)).evalDie d)).estimate) := if_neg h

/-- With no floor active the point is the requested one, no faster than the fastest allowed. -/
theorem State.computedPoint_free (h : ∀ f ∈ s.floors d, f = none) :
    s.computedPoint d = max (s.nat (Obj.requestedPoint d)) (s.nat Obj.fastestPoint2D00) := by
  have hn : (s.floors d).filterMap id = [] := by simpa [List.filterMap_eq_nil_iff] using h
  unfold State.computedPoint
  rw [hn]
  rfl

theorem le_foldl_max {f : Nat} (l : List Nat) : ∀ {m : Nat}, f ≤ m ∨ f ∈ l → f ≤ l.foldl max m := by
  induction l with
  | nil => exact fun h => h.resolve_right List.not_mem_nil
  | cons a l ih =>
    rintro m (h | h)
    · exact ih (Or.inl (Nat.le_trans h (Nat.le_max_left _ _)))
    · rcases List.mem_cons.mp h with rfl | h
      · exact ih (Or.inl (Nat.le_max_right _ _))
      · exact ih (Or.inr h)

/-- The point is no faster than an active floor. -/
theorem State.floor_le_computedPoint {f : Nat} (h : some f ∈ s.floors d) : f ≤ s.computedPoint d :=
  le_foldl_max _ (Or.inr (List.mem_filterMap.mpr ⟨some f, h, rfl⟩))

/-- The point to which a rise ahead of an event that prefers point `c` goes. -/
def State.risePoint (s : State) (d c : Nat) : Nat := ((s.floors d).filterMap id).foldl max (max c (s.nat Obj.fastestPoint2D00))

section
variable {te c : Nat} (hn : s.nextRise d = some (te, c))
include hn

theorem State.earlyRise_due (hd : s.nat (Obj.dieState d) = 1) (hr : s.risePoint d c < (s.diePt d).target)
    (ht : te ≤ s.now + s.riseTime d (s.risePoint d c) + s.nat Obj.wakeMargin * 1000) :
    s.earlyRise d = (s.setDiePt d { s.diePt d with slowSince := 0 }).changePoint d (s.risePoint d c) := by
  unfold State.earlyRise
  rw [hn]
  exact if_pos ⟨hd, hr, ht⟩

theorem State.earlyRise_early (ht : s.now + s.riseTime d (s.risePoint d c) + s.nat Obj.wakeMargin * 1000 < te) : s.earlyRise d = s := by
  unfold State.earlyRise
  rw [hn]
  exact if_neg (fun ⟨_, _, h⟩ => Nat.not_le_of_lt ht h)

end

theorem State.earlyRise_none (hn : s.nextRise d = none) : s.earlyRise d = s := by
  unfold State.earlyRise
  rw [hn]

theorem State.holdOver_due (h0 : (s.diePt d).slowSince ≠ 0) (ht : (s.diePt d).slowSince - 1 + s.nat Obj.pointHoldTime * 1000 ≤ s.now)
    (hc : (s.diePt d).target < s.computedPoint d) (hd : s.nat (Obj.dieState d) = 1) :
    s.holdOver d = (s.setDiePt d { s.diePt d with slowSince := 0 }).changePoint d (s.computedPoint d) := if_pos ⟨h0, ht, hc, hd⟩

theorem State.holdOver_none (h0 : (s.diePt d).slowSince = 0) : s.holdOver d = s := if_neg (fun ⟨h, _⟩ => h h0)

/-! Halts: R564 -/

theorem State.haltDie_session (h : (smGet (fun _ => {}) s.dict.sessions 0 : Session).level ≠ 0) :
    s.haltDie d = { s with pecan := { s.pecan with halted := smPut s.pecan.halted d true } } := if_pos h

theorem State.haltDie_locked (h : (smGet (fun _ => {}) s.dict.sessions 0 : Session).level = 0) : s.haltDie d = s := if_neg (not_not_intro h)

end

/-- Settles O39: each event of a link and of a die's point by its condition; a second between attempts and eight retries a failure are log
entry 133. -/
theorem dieLinksPointsAndHalts : Obligations.DieLinksPointsAndHalts := by
  intro t c te d l up amps e s u i q off
  have step {v w : State} (h : v = w) : (.next v : Res) = .next w := congrArg _ h
  refine ⟨fun h => step (State.linkFails_up h), fun h => step (State.linkFails_down h), fun w h => State.dieLinkFault_fresh h,
    fun hf => ⟨fun ht => ⟨_, step (State.linkRetrain_due hf ht up), rfl, rfl, ?_, ?_⟩, fun ht => step (State.linkRetrain_early hf ht up)⟩,
    fun hf => ⟨fun ht => step (State.linkRestored_due hf ht), fun ht => step (State.linkRestored_early hf ht)⟩,
    fun hf => step (State.linkRestored_down hf), fun h => step (State.evalPoints_off h), fun h => step (State.evalPoints_on h),
    fun w h => State.computedPoint_free h, fun w f h => State.floor_le_computedPoint h,
    fun hn => ⟨fun hd hr ht => step (State.earlyRise_due hn hd hr ht), fun ht => step (State.earlyRise_early hn ht)⟩,
    fun hn => step (State.earlyRise_none hn), fun h0 ht hc hd => step (State.holdOver_due h0 ht hc hd), fun h0 => step (State.holdOver_none h0),
    fun h => step (State.haltDie_session h), fun h => step (State.haltDie_locked h)⟩
  · rintro rfl
    exact State.retrained_failed
  · rintro rfl
    exact State.retrained_up

end Sys2Proof.Machine
end

section
/-! SUPPORT. Ticks of the fast lane, overruns, and the scheduler of the slow lane (R187, R188, R234, R249, R250, R254 to R256). -/

namespace Sys2Proof.Machine

/-! A boundary of a fast-lane program: R249 -/

section
variable {s : State} {h : Nat}

theorem State.tickProg_elsewhere (hn : (s.prog h).lane ≠ 1 ∨ (s.prog h).state ≠ pgRunning ∨ s.hall / us % s.progPeriod h ≠ 0) :
    s.tickProg h = s := if_pos hn

section
variable (hl : (s.prog h).lane = 1) (hr : (s.prog h).state = pgRunning) (hb : s.hall / us % s.progPeriod h = 0)
include hl hr hb

/-- A program that is not primed takes its inputs. -/
theorem State.tickProg_unprimed (hp : (s.prog h).primed = false) : s.tickProg h = s.takeAll h (s.prog h).ticks := by
  unfold State.tickProg
  dsimp only
  rw [if_neg (by simp [hl, hr, hb]), if_pos (by simp [hp])]

/-- With its parts at rest and its arrays awake, a program starts its tick and takes the next inputs. -/
theorem State.tickProg_starts (hp : (s.prog h).primed = true) (hq : (s.prog h).quiet = true)
    (hd : (s.demandAll ((s.prog h).parts.map (·.array))).1 = true) :
    s.tickProg h =
      ((s.demandAll ((s.prog h).parts.map (·.array))).2.startTick h (s.prog h).ticks).takeAll h ((s.prog h).ticks + 1) := by
  unfold State.tickProg
  dsimp only
  rw [if_neg (by simp [hl, hr, hb]), if_neg (by simp [hp]), if_neg (by simp [hq, hd])]

/-- A part that still runs costs the program a tick (log entry 106). -/
theorem State.tickProg_skips (hp : (s.prog h).primed = true) (hq : (s.prog h).quiet = false) :
    s.tickProg h = (s.setProg h { s.prog h with skipped := ((s.prog h).skipped + 1) % 2 ^ 32 }).takeAll h ((s.prog h).ticks + 1) := by
  unfold State.tickProg
  simp only [hq]
  rw [if_neg (by simp [hl, hr, hb]), if_neg (by simp [hp]), if_pos (by simp)]
  rfl

end

/-! Periods of the slow lane: R254 -/

theorem State.periodicDue_passed (ht : (s.prog h).trigger = 2) (hr : (s.prog h).state = pgRunning)
    (hp : (s.prog h).lastPeriodic + (s.prog h).period * us ≤ s.hall) :
    s.periodicDue h =
      (s.setProg h { s.prog h with lastPeriodic := (s.prog h).lastPeriodic + (s.prog h).period * us }).triggerRun h := if_pos ⟨ht, hr, hp⟩

theorem State.periodicDue_untriggered (ht : (s.prog h).trigger ≠ 2) : s.periodicDue h = s := if_neg (fun ⟨hc, _⟩ => ht hc)

end

/-! Overruns: R250, R255 -/

section
variable {s : State} {g lane : Nat}

theorem State.overrun_idle (reason : Nat) (hc : s.curPart g = none) : s.overrun g lane reason = s := by
  unfold State.overrun
  rw [hc]

section
variable {r : PartRef} {q : PartSt} (hc : s.curPart g = some (r, q))
include hc

/-- A part of the other lane is not judged. -/
theorem State.overrun_otherLane (reason : Nat) (hl : (s.prog r.handle).lane ≠ lane) : s.overrun g lane reason = s := by
  unfold State.overrun
  rw [hc]
  exact if_pos hl

/-- The program's longest part is noted, and the program stopped with the reason. -/
theorem State.overrun_stops (reason : Nat) (hl : (s.prog r.handle).lane = lane) (hu : (s.prog r.handle).stopPending ≠ 3) :
    s.overrun g lane reason =
      (s.setProg r.handle { s.prog r.handle with maxCycles := max (s.prog r.handle).maxCycles q.decl.declared }).stopNow r.handle reason
        pgStopped := by
  unfold State.overrun
  rw [hc]
  exact (if_neg (not_not_intro hl)).trans (if_neg hu)

/-- A program whose unload waits is unloaded instead (log entry 110). -/
theorem State.overrun_unloads (reason : Nat) (hl : (s.prog r.handle).lane = lane) (hu : (s.prog r.handle).stopPending = 3) :
    s.overrun g lane reason =
      (s.setProg r.handle { s.prog r.handle with maxCycles := max (s.prog r.handle).maxCycles q.decl.declared }).unload r.handle := by
  unfold State.overrun
  rw [hc]
  exact (if_neg (not_not_intro hl)).trans (if_pos hu)

end
end

/-! The registers at the start of a tick: R234 -/

/-- S13 to S15 carry what the tick starts with; every other scalar reads zero. -/
theorem ArrSt.sreg_fresh (a : ArrSt) (r : PartRef) (pc k d : Nat) {n s15 s13 : Nat} (hn : n < 2 ^ 32) (h15 : s15 < 2 ^ 32) (h13 : s13 < 2 ^ 32) :
    (a.fresh r pc n s15 s13 k).sreg d = if d = 14 then n else if d = 15 then s15 else if d = 13 then s13 else 0 := by
  have h0 : ∀ b : ArrSt, b.sregs = [] → b.sreg d = 0 := fun b hb => by simp [ArrSt.sreg, hb, smGet]
  unfold ArrSt.fresh
  rw [ArrSt.setS_sreg, ArrSt.setS_sreg, ArrSt.setS_sreg, Nat.mod_eq_of_lt hn, Nat.mod_eq_of_lt h15, Nat.mod_eq_of_lt h13, h0 _ rfl]
  grind

/-- Settles O41: each boundary, overrun and trigger by its condition, the registers of a tick by its start. The skipped tick is log entry 106, the
pending unload log entry 110. -/
theorem ticksSlicesAndTheScheduler : Obligations.TicksSlicesAndTheScheduler := by
  intro t g h r q s u p at_ x
  have step {v w : State} (h : v = w) : (.next v : Res) = .next w := congrArg _ h
  refine ⟨rfl, fun hn => State.tickProg_elsewhere hn,
    fun hl hr hb => ⟨fun hp => State.tickProg_unprimed hl hr hb hp, fun hp hq hd => State.tickProg_starts hl hr hb hp hq hd,
      fun hp hq => State.tickProg_skips hl hr hb hp hq⟩,
    fun hc => ⟨fun hl hu => step (State.overrun_stops hc _ hl hu), fun hl hu => step (State.overrun_unloads hc _ hl hu),
      fun hl hu => step (State.overrun_stops hc _ hl hu), fun hl => step (State.overrun_otherLane hc _ ?_),
      fun hl => step (State.overrun_otherLane hc _ ?_)⟩,
    fun hc => ⟨step (State.overrun_idle _ hc), step (State.overrun_idle _ hc)⟩, fun ht hr hp => step (State.periodicDue_passed ht hr hp),
    fun ht => step (State.periodicDue_untriggered ht), rfl,
    fun a pc n s15 s13 k d _ hn h15 h13 => ⟨ArrSt.sreg_fresh a r pc k d hn h15 h13, rfl, rfl, rfl, rfl⟩⟩
  · exact fun h1 => absurd (hl.symm.trans h1) (by decide)
  · exact fun h2 => absurd (hl.symm.trans h2) (by decide)

end Sys2Proof.Machine
end

section
/-! SUPPORT. The V slot: the lane-wise operations (R218, R220, R235, Table 8.8). -/

namespace Sys2Proof.Machine

section
variable {s : State} {g : Nat} {reads : List Nat} {r : PartRef} {q : PartSt} {x : ArrSt}

/-- An operation whose lane `l` is `F x l` raises the flags of all its lanes. -/
theorem State.vecLanes_issues (h : s.issues g reads r q x) (d lat : Nat) (F : ArrSt → Nat → Flagged Nat) :
    s.vecOp g reads d lat (fun y => joinFlags ((List.range 64).map (F y))) =
      (s.setArr g (x.vecDone d lat (fun l => (F x l).1))).raiseFlags g r (lanesFlags (F x)) := by
  rw [State.vecOp_issues h d lat _ (fun l => (F x l).1) (by rw [joinFlags_range]), joinFlags_range, lanesFlags]

/-- Lanes without a flag raise none together. -/
theorem lanesFlags_zero (v : Nat → Nat) : lanesFlags (fun l => (v l, 0)) = 0 := by
  unfold lanesFlags
  induction List.range 64 with
  | nil => rfl
  | cons l ls ih =>
    rw [List.foldl_cons, Nat.or_zero]
    exact ih

/-- An operation whose lane `l` is `v x l` and raises no flag. -/
theorem State.vecQuiet_issues (h : s.issues g reads r q x) (d lat : Nat) (v : ArrSt → Nat → Nat) :
    s.vecOp g reads d lat (fun y => ((List.range 64).map (v y), 0)) =
      (s.setArr g (x.vecDone d lat (v x))).raiseFlags g r (lanesFlags (fun l => (v x l, 0))) := by
  rw [State.vecOp_issues h d lat _ (v x) rfl, lanesFlags_zero]

end

/-- Settles O9: the operations on two registers and on one by their shared rules, VSEL and VMAC by the lanes of their three operands. -/
theorem vectorOperationsWriteEveryLane : Obligations.VectorOperationsWriteEveryLane := by
  intro s g d a b m cond op fmt r q x A B done
  have step {v w : State} (h : v = w) : (.next v : Res) = .next w := congrArg _ h
  refine ⟨fun h => ?two, fun h => ?one, fun h => ?vsel, fun h => ?vmac⟩
  case two =>
    have lanes (lat : Nat) (f : Nat → Nat → Flagged Nat) := step (State.vec2_issues h d.val lat f)
    exact ⟨lanes 2 _, lanes 2 _, lanes 2 _, lanes 2 _, lanes 2 _, lanes 2 _, lanes 4 _, lanes 2 _, lanes 2 _⟩
  case one =>
    have lanes (f : Nat → Flagged Nat) := step (State.vec1_issues h d.val 2 f)
    exact ⟨lanes _, lanes _⟩
  case vsel => exact step (State.vecQuiet_issues h d.val 2 _)
  case vmac => exact step (State.vecLanes_issues h d.val 4 _)

end Sys2Proof.Machine
end

section
/-! SUPPORT. The registers of an array, its loop stack, and the S slot (R220, R233 to R235, R238, R447, Tables 8.6 and 8.10). -/

namespace Sys2Proof.Machine

/-! Registers: R234 -/

/-- Lane `l` of register `w` has key `64 w + l`, so a write of register `d` reaches the lanes of `d` alone. -/
theorem ArrSt.lane_setVec (x : ArrSt) {v : List Nat} {l : Nat} (hv : v.length = 64) (hl : l < 64) (d w : Nat) :
    (x.setVec d v).lane w l = if w = d then v.getD l 0 % 2 ^ 32 else x.lane w l := by
  refine (setVec_get (d * 64) v x.vregs 0 (w * 64 + l)).trans ?_
  by_cases hw : w = d
  · have hk : w * 64 + l - d * 64 - 0 = l := by omega
    rw [if_pos hw, if_pos (by omega), hk]
  · rw [if_neg hw, if_neg (by omega)]
    rfl

/-- Settles O2: the scalar registers by the write of one key, the vector registers by the write of 64 keys. -/
theorem registersReadBackWhatWasWritten : Obligations.RegistersReadBackWhatWasWritten :=
  ⟨ArrSt.setS_sreg, fun x d w _ _ hv hl => x.lane_setVec hv hl d w⟩

/-! The loop stack: R235 -/

section
variable {f : LoopFrame} {rest : List LoopFrame} {pc : Nat}

theorem nextPc_again (hp : f.last = pc) (hl : 1 < f.left) : nextPc (f :: rest) pc = ({ f with left := f.left - 1 } :: rest, f.first) := by
  rw [nextPc, if_pos hp, if_pos hl]

/-- A loop whose passes are used up leaves the choice to the loops around it. -/
theorem nextPc_done (hp : f.last = pc) (hl : f.left ≤ 1) : nextPc (f :: rest) pc = nextPc rest pc := by
  rw [nextPc, if_pos hp, if_neg (Nat.not_lt_of_le hl)]

/-- Only the innermost loop is asked whether it ends here. -/
theorem nextPc_inside (hp : f.last ≠ pc) : nextPc (f :: rest) pc = (f :: rest, pc + 1) := by
  rw [nextPc, if_neg hp]

theorem nextPc_of_forall_ne (h : ∀ e ∈ rest, e.last ≠ pc) : nextPc rest pc = (rest, pc + 1) := by
  cases rest with
  | nil => rfl
  | cons e rest => exact nextPc_inside (h e List.mem_cons_self)

end

/-- Settles O4: the three cases of the innermost loop; where it is done, the loops around it go on to the next bundle. -/
theorem loopsRepeatTheirBody : Obligations.LoopsRepeatTheirBody := fun _ _ _ =>
  ⟨nextPc_again, fun hp hl ho => (nextPc_done hp hl).trans (nextPc_of_forall_ne ho), nextPc_inside⟩

/-! Operations on the scalar registers: R220, R235 -/

section
variable {s : State} {g : Nat} {reads : List Nat} {r : PartRef} {q : PartSt} {x : ArrSt}

/-- A scalar operation that raises no flag. -/
theorem State.scalarQuiet_issues (h : s.issues g reads r q x) (d : Nat) (v : ArrSt → Nat) :
    s.scalarOp g reads d (fun y => (v y, 0)) = s.setArr g (x.scalarDone d (v x)) := by
  rw [State.scalarOp_issues h, State.raiseFlags_zero]

/-- An operation on two registers. -/
theorem State.scalar2_issues {a b : Nat} (h : s.issues g [a, b] r q x) (d : Nat) (f : Nat → Nat → Nat) :
    s.scalar2 g d a b f = s.setArr g (x.scalarDone d (f (x.sreg a) (x.sreg b))) := State.scalarQuiet_issues h d _

end

/-- Settles O1: each operation by the value that it gives its register; SHR alone can raise flags. -/
theorem scalarOperationsWriteTheirRegister : Obligations.ScalarOperationsWriteTheirRegister := by
  intro s g d a b imm amount r q x
  have step {v w : State} (h : v = w) : (.next v : Res) = .next w := congrArg _ h
  refine ⟨fun h => ?two, fun h => ?one, fun h => step (State.scalarQuiet_issues h d.val _)⟩
  case two =>
    have done (f : Nat → Nat → Nat) := step (State.scalar2_issues h d.val f)
    exact ⟨done _, done _, done _, done _, done _⟩
  case one =>
    have done (v : ArrSt → Nat) := step (State.scalarQuiet_issues h d.val v)
    exact ⟨done _, done _, done _, step (State.scalarOp_issues h d.val _)⟩

/-! The sequencer: R233, R235, Table 8.6 -/

theorem ArrSt.advance_eq_nextBundle (x : ArrSt) (n : Nat) : x.advance n = x.nextBundle (1 + n) := by
  unfold ArrSt.advance ArrSt.nextBundle
  rw [Nat.add_assoc]

/-- A branch on a condition that can be told. -/
theorem ArrSt.branchIf_decide (x : ArrSt) (p : Prop) [Decidable p] (target : Nat) :
    x.branchIf (decide p) target = if p then { x with pc := target, cyc := x.cyc + 2 } else x.nextBundle 1 := by
  unfold ArrSt.branchIf
  simp only [decide_eq_true_eq]
  rfl

/-- Settles O3: each operation by where it puts the sequencer; the slot operation leaves the rest of the state. -/
theorem sequencerOperationsMoveTheBundle : Obligations.SequencerOperationsMoveTheBundle := by
  intro s g a b slot target n r q x
  have goes {reads : List Nat} (h : s.issues g.val reads r q x) (f : ArrSt → ArrSt) {y : ArrSt} (hy : f x = y) :
      (.next (s.slotPure g.val reads f) : Res) = .next (s.setArr g.val y) := by rw [State.slotPure_issues h, hy]
  refine ⟨fun h => ⟨goes h _ rfl, goes h _ rfl, goes h _ (x.advance_eq_nextBundle _)⟩,
    fun h => ⟨goes h _ rfl, goes h _ (x.branchIf_decide ..), goes h _ ?brnz⟩, fun h => goes h _ (x.branchIf_decide ..)⟩
  case brnz => exact (x.branchIf_decide ..).trans (ite_not ..)

/-! WAITF and RDSYS: R235, Table 8.10 -/

section
variable {s : State} {g : Nat} {r : PartRef} {q : PartSt} {x : ArrSt}

theorem ArrSt.waitFlag_sound {a : Nat} (b : Nat) (h : x.sound q (x.sreg a) 1) :
    x.waitFlag q a b = .ok (if x.sreg b ≤ leNat ((x.own q (x.sreg a) 0).take 8) then x.nextBundle 1
      else { x with waitf := some (q.base + x.sreg a, x.sreg b) }, 0) := by
  unfold ArrSt.waitFlag
  rw [ArrSt.partLines_sound h]
  exact (apply_ite (fun y => Except.ok (y, 0)) _ _ _).symm

theorem State.waitDone_reached {line level : Nat} (hc : s.curPart g = some (r, q)) (hw : (s.arr g).waitf = some (line, level))
    (hl : level ≤ leNat (((s.arr g).line line).take 8)) :
    s.waitDone g = s.setArr g (({ s.arr g with waitf := none } : ArrSt).nextBundle 1) := by
  unfold State.waitDone
  rw [hc, hw]
  exact if_pos hl

/-- A selector that Table 8.10 does not list reads a free value (log entry 16). -/
theorem State.sysValue_unlisted {sel : Nat} (hs : 13 < sel) (s : State) (g : Nat) (r : PartRef) (q : PartSt) :
    s.sysValue g sel r q = Config.number s.freeCtr % 2 ^ 32 := by
  obtain ⟨n, rfl⟩ := Nat.exists_eq_add_of_le' hs
  rfl

section
variable {sel : Nat} (h : s.issues g (if sel = 9 ∨ sel = 10 ∨ sel = 11 then [68] else []) r q x)
include h

theorem State.readSys_listed (d : Nat) (hs : sel ≤ 13) : s.readSys g d sel = s.setArr g (x.scalarDone d (s.sysValue g sel r q)) := by
  unfold State.readSys
  simp only [h.curPart]
  rw [if_neg (Nat.not_lt_of_le hs)]
  exact State.scalarQuiet_issues h d _

theorem State.readSys_unlisted (d : Nat) (hs : 13 < sel) :
    s.readSys g d sel = ({ s with freeCtr := s.freeCtr + 1 } : State).setArr g (x.scalarDone d (Config.number s.freeCtr % 2 ^ 32)) := by
  have hd : ({ s with freeCtr := s.freeCtr + 1 } : State).issues g (if sel = 9 ∨ sel = 10 ∨ sel = 11 then [68] else []) r q x := h
  unfold State.readSys
  simp only [h.curPart]
  rw [if_pos hs, State.sysValue_unlisted hs]
  exact State.scalarQuiet_issues hd d _

end

/-! The part that runs, and PHASE: R235, R447 -/

/-- A part runs where its die is not halted and its array names it. -/
theorem State.curPart_eq_some : s.curPart g = some (r, q) ↔ s.dieHalted (dieOf g) = false ∧ (s.arr g).cur = some r ∧
    (s.prog r.handle).parts.find? (fun e => decide (e.copyB = r.copyB ∧ e.idx = r.part)) = some q := by
  unfold State.curPart
  grind

/-- Neither reason for which the sequencer does nothing holds: no WAITF waits, and the part is inside its bound. -/
theorem not_waits_or_past (hw : (s.arr g).waitf = none) (hb : (s.arr g).cyc < q.decl.declared) :
    ¬((s.arr g).waitf.isSome = true ∨ q.decl.declared ≤ (s.arr g).cyc) := by
  rw [hw]
  exact fun hn => hn.elim Bool.noConfusion (Nat.not_le_of_lt hb)

/-- What a change of a part leaves in place: its name in the program and what it declares. -/
def PartSt.Renews (f : PartSt → PartSt) : Prop := ∀ e, (f e).copyB = e.copyB ∧ (f e).idx = e.idx ∧ (f e).decl = e.decl

theorem ProgSt.find_setPart {p : ProgSt} {b : Bool} {i : Nat} {f : PartSt → PartSt} (hf : PartSt.Renews f)
    (h : p.parts.find? (fun e => decide (e.copyB = b ∧ e.idx = i)) = some q) :
    (p.setPart b i f).parts.find? (fun e => decide (e.copyB = b ∧ e.idx = i)) = some (f q) := by
  have named (e : PartSt) : (if e.copyB = b ∧ e.idx = i then f e else e).copyB = e.copyB ∧
      (if e.copyB = b ∧ e.idx = i then f e else e).idx = e.idx := by
    obtain ⟨hb, hi, -⟩ := hf e
    split
    · exact ⟨hb, hi⟩
    · exact ⟨rfl, rfl⟩
  have hq : q.copyB = b ∧ q.idx = i := by simpa using List.find?_some h
  unfold ProgSt.setPart
  simp only [List.find?_map, Function.comp_def, (named _).1, (named _).2, h, Option.map_some, if_pos hq]

theorem State.issues.updPart {reads : List Nat} {f : PartSt → PartSt} (h : s.issues g reads r q x) (hf : PartSt.Renews f) :
    (s.updPart r f).issues g reads r (f q) x := by
  obtain ⟨hc, hw, hb, hx, hy⟩ := h
  obtain ⟨hh, ha, hq⟩ := State.curPart_eq_some.mp hc
  have hp : (s.updPart r f).prog r.handle = (s.prog r.handle).setPart r.copyB r.part f := by rw [State.updPart, State.prog_setProg, if_pos rfl]
  obtain ⟨-, -, hd⟩ := hf q
  refine ⟨State.curPart_eq_some.mpr ⟨hh, ha, ?_⟩, hw, hd ▸ hb, hx, hd ▸ hy⟩
  rw [hp]
  exact ProgSt.find_setPart hf hq

theorem State.enterPhase_issues (h : s.issues g [] r q x) (n : Nat) :
    s.enterPhase g n = (s.updPart r (fun e => { e with phase := n })).setArr g (x.nextBundle 1) := by
  have hu := h.updPart (f := fun e => { e with phase := n }) (fun _ => ⟨rfl, rfl, rfl⟩)
  obtain ⟨hc, hw, hb, -⟩ := h
  unfold State.enterPhase
  rw [hc]
  exact (if_neg (not_waits_or_past hw hb)).trans (State.slotPure_issues hu _)

end

/-- Settles O5: WAITF by its line, the wait's end by its word, RDSYS by its selector and PHASE by the part it changes. That an unlisted selector
reads a free value is log entry 16. -/
theorem flagWaitsAndSystemValues : Obligations.FlagWaitsAndSystemValues := by
  intro s g d a b n sel r q x
  have step {v w : State} (h : v = w) : (.next v : Res) = .next w := congrArg _ h
  exact ⟨fun h hs => step (State.slotOp_quiet h (ArrSt.waitFlag_sound b.val hs)), fun _ _ hc hw hl => step (State.waitDone_reached hc hw hl),
    fun h => ⟨fun hs => step (State.readSys_listed h d.val hs), fun hs => step (State.readSys_unlisted h d.val hs)⟩,
    ⟨rfl, rfl, rfl, rfl, rfl, rfl, rfl, rfl, rfl⟩, fun h => step (State.enterPhase_issues h n.val)⟩

end Sys2Proof.Machine
end

section
/-! SUPPORT. The end of a tick and of a slice (R246, R251, R255 to R258). -/

namespace Sys2Proof.Machine

section
variable {s : State} {g : Nat} {r : PartRef} {q : PartSt}

/-- Whatever the part leaves to its program, its array is free. -/
theorem State.leaveArray_cur (ended pc : Nat) : ((s.leaveArray g r q ended pc).arr g).cur = none :=
  congrArg ArrSt.cur (State.arr_setArr_same _ g _)

section
variable (hc : s.curPart g = some (r, q)) (hw : (s.arr g).waitf = none) (hb : (s.arr g).cyc < q.decl.declared)
include hc hw hb

/-- END in the fast lane: the outputs, the array, the tick's count, a stop that waited, and the array's power state. -/
theorem State.endPart_fast (hl : (s.prog r.handle).lane = 1) :
    s.endPart g =
      (let w := (s.forEach q.decl.outputs (fun s o => s.publishOut g r.handle q o)).leaveArray g r q 1 0
       let p := w.prog r.handle
       ((if p.quiet then w.setProg r.handle { p with completions := (p.completions + 1) % 2 ^ 32, ticks := p.ticks + 1 } else w).stopDue
         r.handle).rechoose g) := by
  unfold State.endPart
  rw [hc]
  dsimp only
  rw [if_neg (not_waits_or_past hw hb), if_pos hl]

/-- END in the slow lane. -/
theorem State.endPart_slow (hl : (s.prog r.handle).lane = 2) :
    s.endPart g = (((s.leaveArray g r q 1 0).sliceEnd r.handle).stopDue r.handle).rechoose g := by
  unfold State.endPart
  rw [hc]
  dsimp only
  rw [if_neg (not_waits_or_past hw hb), if_neg (by rw [hl]; decide)]

theorem State.yieldPart_slow (hl : (s.prog r.handle).lane = 2) :
    s.yieldPart g = (((s.leaveArray g r q 2 ((s.arr g).pc + 1)).sliceEnd r.handle).stopDue r.handle).rechoose g := by
  unfold State.yieldPart
  rw [hc]
  dsimp only
  rw [if_neg (by simpa [hw, hl] using hb)]

end
end

/-- Settles O6: END by its lane, YIELD in the slow lane. -/
theorem tickAndSliceEndFreeTheArray : Obligations.TickAndSliceEndFreeTheArray := by
  intro t s g r q u hc hw hb
  have step {v w : State} (h : v = w) : (.next v : Res) = .next w := congrArg _ h
  exact ⟨fun hl => step (State.endPart_fast hc hw hb hl),
    fun hl => ⟨step (State.endPart_slow hc hw hb hl), step (State.yieldPart_slow hc hw hb hl)⟩, State.leaveArray_cur 1 0⟩

end Sys2Proof.Machine
end

section
/-! SUPPORT. EtherCAT states and files: the state request, the watchdog of SM2, staging slots and CONFIG (R240, R521, R522, R545, R546, Tables 19.2
and 19.13). -/

namespace Sys2Proof.Machine

section
variable {s : State}

/-! States: R521, R522 -/

theorem State.escRequest_stopped (h : s.running = false) (e : EscState) : s.escRequest e = s := by
  unfold State.escRequest
  rw [h]
  rfl

section
variable (hr : s.running = true) {e : EscState}
include hr

theorem State.escRequest_permitted (hp : s.escPermitted e = true) :
    s.escRequest e = { s with dict := { s.dict with esc := e, alStatus := 0 } } := by
  unfold State.escRequest
  rw [hr, hp]
  rfl

theorem State.escRequest_refused (hp : s.escPermitted e = false) :
    s.escRequest e = ({ s with dict := { s.dict with alStatus := 0x0011 } } : State).emit (.alStatus 0x0011) := by
  unfold State.escRequest
  rw [hr, hp]
  rfl

end

/-- In Ready every state is permitted but BOOT. -/
theorem State.escPermitted_ready (h : s.mode = .ready) : s.escPermitted .op = true ∧ s.escPermitted .boot = false := by
  simp [State.escPermitted, escRank, h]

/-- In Seed nothing above PREOP is permitted but BOOT. -/
theorem State.escPermitted_seed (h : s.mode = .seed) :
    s.escPermitted .boot = true ∧ s.escPermitted .preop = true ∧ s.escPermitted .safeop = false := by
  simp [State.escPermitted, escRank, h]

theorem State.watchdog_op (h : s.dict.esc = .op) :
    s.watchdog =
      (({ s with dict := { s.dict with esc := .safeop, alStatus := 0x001B } } : State).emit (.alStatus 0x001B)).event s.escBlock 5 0 := if_pos h

theorem State.watchdog_idle (h : s.dict.esc ≠ .op) : s.watchdog = s := if_neg h

/-! The checks of Table 19.13 that come first -/

section
variable {pw : Nat} (hp : pw ≠ 0) (role : Role) (k : Nat) (b : List Nat)
include hp

theorem State.foeSlot_password : s.foeSlot pw k b = s.emit (.foe 0x8002 []) := if_pos hp
theorem State.configRead_password : s.configRead role pw = s.emit (.foe 0x8002 []) := if_pos (Or.inl hp)
theorem State.configWrite_password : s.configWrite role pw b = s.emit (.foe 0x8002 []) := if_pos (Or.inl hp)

end

/-! Staging slots: R240 -/

section
variable {k : Nat} {b : List Nat}

theorem State.foeSlot_boot (h : s.dict.esc = .boot) : s.foeSlot 0 k b = s.emit (.foe 0x8001 []) := by
  unfold State.foeSlot
  rw [if_neg (not_not_intro rfl), if_pos h]

section
variable (hb : s.dict.esc ≠ .boot)
include hb

/-- Outside BOOT a write without a password is judged by the module's state, the slot's state and its size, in this order. -/
theorem State.foeSlot_judged :
    s.foeSlot 0 k b =
      if s.standbyToSafe = false then s.emit (.foe 0x8004 [])
      else if (s.slot k).state ≠ 1 then s.emit (.foe 0x8004 (hexText 2 0x61))
      else if (s.slot k).size < b.length then s.emit (.foe 0x8003 [])
      else ((s.stageBytes k b).slotVerify k).2.emit (.foe 0 []) := by
  unfold State.foeSlot
  rw [if_neg (not_not_intro rfl), if_neg hb]
  simp only [Bool.not_eq_true']

theorem State.foeSlot_wrongMode (hm : s.standbyToSafe = false) : s.foeSlot 0 k b = s.emit (.foe 0x8004 []) :=
  (State.foeSlot_judged hb).trans (if_pos hm)

section
variable (hm : s.standbyToSafe = true)
include hm

theorem State.foeSlot_notOpen (hs : (s.slot k).state ≠ 1) : s.foeSlot 0 k b = s.emit (.foe 0x8004 (hexText 2 0x61)) := by
  rw [State.foeSlot_judged hb, if_neg (ne_false_of_eq_true hm), if_pos hs]

variable (hs : (s.slot k).state = 1)
include hs

theorem State.foeSlot_tooLong (hl : (s.slot k).size < b.length) : s.foeSlot 0 k b = s.emit (.foe 0x8003 []) := by
  rw [State.foeSlot_judged hb, if_neg (ne_false_of_eq_true hm), if_neg (not_not_intro hs), if_pos hl]

theorem State.foeSlot_staged (hl : b.length ≤ (s.slot k).size) :
    s.foeSlot 0 k b = ((s.stageBytes k b).slotVerify k).2.emit (.foe 0 []) := by
  rw [State.foeSlot_judged hb, if_neg (ne_false_of_eq_true hm), if_neg (not_not_intro hs), if_neg (Nat.not_lt_of_le hl)]

end
end
end

/-! The file CONFIG: R546 -/

/-- Without a password the operator and the service role pass the first check of a file. -/
theorem not_password_or_barred {role : Role} (hf : foeRole role = true) : ¬((0 : Nat) ≠ 0 ∨ (!foeRole role) = true) := by simp [hf]

/-- In Seed and from Standby to Safe the module's state lets a file be read. -/
theorem not_barred_mode (hm : s.standbyToSafe = true ∨ s.mode = .seed) : ¬((!s.standbyToSafe) = true ∧ s.mode ≠ .seed) := by
  rintro ⟨hs, hn⟩
  rw [hm.resolve_right hn] at hs
  exact absurd hs (by decide)

section
variable {role : Role} {b : List Nat} (hf : foeRole role = true) (hb : s.dict.esc ≠ .boot)
include hf hb

section
variable (hm : s.standbyToSafe = true ∨ s.mode = .seed)
include hm

theorem State.configRead_stored {c : StoredCfg} (hc : s.storedNow = some c) : s.configRead role 0 = s.emit (.foeData (configFile c)) := by
  unfold State.configRead
  rw [if_neg (not_password_or_barred hf), if_neg hb, if_neg (not_barred_mode hm), hc]

theorem State.configRead_unstored (hc : s.storedNow = none) : s.configRead role 0 = s.emit (.foe 0x8001 []) := by
  unfold State.configRead
  rw [if_neg (not_password_or_barred hf), if_neg hb, if_neg (not_barred_mode hm), hc]

end

theorem State.configWrite_wrongState (hm : s.mode ≠ .standby ∨ s.dict.storing.isSome = true) :
    s.configWrite role 0 b = s.emit (.foe 0x8004 []) := by
  unfold State.configWrite
  rw [if_neg (not_password_or_barred hf), if_neg hb, if_pos hm]

/-- A file that Standby takes up: its header is judged first, then its records, and a sound one is applied in full and stored. -/
theorem State.configWrite_taken (hm : s.mode = .standby) (hn : s.dict.storing = none) :
    let r := parseRecords (leNat (slice b 8 4)) (b.drop 16)
    (s.configHeader b = false → s.configWrite role 0 b = (s.count Obj.refusedWrites).emit (.foe 0x800B [])) ∧
    (s.configHeader b = true → r.2 = true → s.configRefused r.1 = none →
      s.configWrite role 0 b = ((s.applySet r.1).noteWrite .config 0 0).storeBegin true) ∧
    (∀ e, s.configHeader b = true → s.configRefused r.1 = some e →
      s.configWrite role 0 b = (s.count Obj.refusedWrites).emit (.foe 0x800B (hexText 4 e.1 ++ hexText 2 e.2))) := by
  unfold State.configWrite
  rw [if_neg (not_password_or_barred hf), if_neg hb, if_neg (by simp [hm, hn])]
  refine ⟨fun hh => ?header, fun hh hr hc => ?sound, fun e hh hc => ?refused⟩
  case header => rw [hh]; rfl
  case sound => simp only [hh, hr, hc]; rfl
  case refused => simp only [hh, hc]; rfl

end
end

/-- Settles O31: states by what Table 19.2 permits, files by the first check of Table 19.13 that they fail. The answer to a file
that fails a check is log entry 115, the state request's judgement by Table 19.2 alone 118, the watchdog's code 5 in the ESC block's queue 158. -/
theorem etherCatStatesAndFiles : Obligations.EtherCatStatesAndFiles := by
  intro t pw req k role b c s u foe r
  have step {v w : State} (h : v = w) : (.next v : Res) = .next w := congrArg _ h
  refine ⟨fun hr hp => step (State.escRequest_permitted hr hp), fun hr hp => ⟨_, step (State.escRequest_refused hr hp), rfl, rfl⟩,
    fun h => step (State.escRequest_stopped h req), State.escPermitted_ready, State.escPermitted_seed, fun h => step (State.watchdog_op h),
    fun h => step (State.watchdog_idle h),
    fun hp => ⟨step (State.foeSlot_password hp _ b), step (State.configRead_password hp role), step (State.configWrite_password hp role b)⟩,
    fun h => step (State.foeSlot_boot h), fun hb hm => step (State.foeSlot_wrongMode hb hm), fun hb hm hs => step (State.foeSlot_notOpen hb hm hs),
    fun hb hm hs => ⟨fun hl => step (State.foeSlot_tooLong hb hm hs hl), fun hl => step (State.foeSlot_staged hb hm hs hl)⟩,
    fun hf hb hm => ⟨fun hc => step (State.configRead_stored hf hb hm hc), fun hc => step (State.configRead_unstored hf hb hm hc)⟩,
    fun hf hb hm => step (State.configWrite_wrongState hf hb hm), fun hf hb hm hn => ?taken⟩
  case taken =>
    obtain ⟨header, sound, refused⟩ := State.configWrite_taken (b := b) hf hb hm hn
    exact ⟨fun hh => step (header hh), fun hh hr hc => step (sound hh hr hc), fun e hh hc => step (refused e hh hc)⟩

end Sys2Proof.Machine
end

section
/-! SUPPORT. Channel requests with a reserved field that is not zero (R276, Tables 9.4 and 9.5). -/

namespace Sys2Proof.Machine

theorem State.dictEffect_channelRequest {s : State} {path : Path} {port : Nat} {role : Role} {v : Int} {b : List Nat}
    (h : s.stateRefused 0x2701 1 v = false) : s.dictEffect path port role 0x2701 1 v b = s.channelRequest role b := by
  unfold State.dictEffect
  exact if_neg (Bool.eq_false_iff.mp h)

/-- Where no delete waits, a request other than a definition that has a reserved field nonzero only writes HistoryParameterInvalid. -/
theorem State.channelRequest_reserved {s : State} {role : Role} {b : List Nat} (hl : b.length = 32) (hr : s.channelRole role b = true)
    (hb : s.histBusy = false) (hz : reqRingReserved b = false) (ho : listGet 0 b 0 ≠ 1) :
    s.channelRequest role b = (0, s.channelDone (listGet 0 b 0) hsParameterInvalid (leNat (slice b 2 2))) := by
  simp [State.channelRequest, hl, hr, hb, hz, ho]

/-- The same as the dictionary server answers it. -/
theorem State.reqWrite_channelRequest_reserved {s : State} {role : Role} {b : List Nat} (h : s.accepts role Obj.channelRequest b)
    (hl : b.length = 32) (hr : s.channelRole role b = true) (hb : s.histBusy = false) (hz : reqRingReserved b = false)
    (ho : listGet 0 b 0 ≠ 1) :
    s.reqWrite role Obj.channelRequest b =
      (s.channelDone (listGet 0 b 0) hsParameterInvalid (leNat (slice b 2 2))).applied role Obj.channelRequest :=
  State.reqWrite_rule_applied (key := Obj.channelRequest) rfl h (fun _ => State.dictEffect_channelRequest)
    (State.channelRequest_reserved hl hr hb hz ho)

/-- The result code of a channel request, byte 1 of ChannelResult (Table 9.4). -/
def State.channelCode (s : State) : Nat := listGet 0 (s.blob Obj.channelResult) 1

/-- The record of a write leaves the result as the request wrote it. -/
theorem State.channelCode_applied (s : State) (role : Role) (op code c : Nat) :
    ((s.channelDone op code c).applied role Obj.channelRequest).channelCode = code := by
  have hres : ((s.channelDone op code c).applied role Obj.channelRequest).blob Obj.channelResult = s.channelResultBytes op code c :=
    ((State.blob_setBlob ..).trans (if_neg (by decide))).trans ((State.blob_setBlob ..).trans (if_pos rfl))
  rw [State.channelCode, hres]
  rfl

/-- A module in Ready, both halves started. -/
def readyModule : State := { mode := .ready, boot := { stageA := 7, stageB := 7 } }

/-- A query of channel 0 whose first reserved bit of Options is set. -/
def reservedQuery : List Nat := 3 :: 4 :: List.replicate 30 0

/-- Refutes O36: a query with a reserved bit set is answered HistoryParameterInvalid (0x5E), as Table 9.5 has it; the statement, which
asks nothing of the reserved fields, claims code 0. Its clauses on deletes, grants, WINDOW_FREE and WINDOW_QUERY lack the same condition. -/
theorem not_historyRequestsAnswerTheirResult : ¬ Obligations.HistoryRequestsAnswerTheirResult := by
  intro holds
  have hacc : (readyModule.at 0).accepts .operator Obj.channelRequest reservedQuery := by
    unfold State.accepts State.acceptsOver
    decide
  have hbusy : (readyModule.at 0).histBusy = false := rfl
  have answered : exec (.channelQuery 0 .operator reservedQuery) readyModule =
      .next (((readyModule.at 0).channelDone 3 hsParameterInvalid 0).applied .operator Obj.channelRequest) :=
    congrArg _ (State.reqWrite_channelRequest_reserved hacc rfl rfl hbusy rfl (by decide))
  obtain ⟨requests, -⟩ := holds 0 0 .operator reservedQuery readyModule
  obtain ⟨-, -, -, query, -⟩ := requests hbusy
  have claimed := query ⟨hacc, rfl, rfl⟩
  have hcode := congrArg State.channelCode (Host.Outcome.next.inj (answered.symm.trans claimed))
  rw [State.channelCode_applied, State.channelCode_applied] at hcode
  exact absurd hcode (by decide)

end Sys2Proof.Machine
end

section
/-! SUPPORT. Rings that advance and end, stacks that fail and are scrubbed, publications and bins (R272, R279, R287 to R289, R296, R300). -/

namespace Sys2Proof.Machine

/-! A ring's head: R272 -/

theorem RingDef.atPos_put_same (r : RingDef) (l p : Nat) (v : Int) : (r.put l p v).atPos l p = v := smGet_smSet_same ..

theorem RingDef.advanceOne_head (r : RingDef) : r.advanceOne.head = r.head + 1 := by
  unfold RingDef.advanceOne
  dsimp only
  split <;> rfl

/-- Until the head is as far as the late window, entering a slot only puts the gap code there. -/
theorem RingDef.advanceOne_early {r : RingDef} (h : r.head + 1 < r.late) :
    r.advanceOne = ({ r with head := r.head + 1 } : RingDef).put 0 ((r.head + 1) % r.n0) gapVal := if_pos h

theorem RingDef.foldl_advanceOne_head (r : RingDef) (n : Nat) :
    ((List.range n).foldl (fun r _ => r.advanceOne) r).head = r.head + n := by
  induction n with
  | zero => rfl
  | succ n ih => rw [List.range_succ, List.foldl_append, List.foldl_cons, List.foldl_nil, RingDef.advanceOne_head, ih, Nat.add_assoc]

/-- The head never goes back. -/
theorem RingDef.advance_head (r : RingDef) (t : Nat) : (r.advance t).head = max r.head (t / r.period) := by
  unfold RingDef.advance
  rw [RingDef.foldl_advanceOne_head]
  omega

section
variable {s : State} {c : Nat}

theorem State.advanceRing_live (h : (s.ringDef c).live = true) : s.advanceRing c = s.setRingDef c ((s.ringDef c).advance s.histT) := if_pos h

theorem State.advanceRing_dead (h : (s.ringDef c).live = false) : s.advanceRing c = s := if_neg (Bool.eq_false_iff.mp h)

/-! The end of a delete: R279 -/

theorem State.deleteComplete_due (hd : (s.ringDef c).deleting = true) (hr : s.ringRead c = false) :
    s.deleteComplete c = ((s.removeRing c).channelDone 2 0 c).answerKey Obj.channelRequest 0 :=
  if_pos ⟨hd, by rw [hr]; rfl⟩

theorem State.deleteComplete_none (hd : (s.ringDef c).deleting = false) : s.deleteComplete c = s :=
  if_neg fun h => Bool.false_ne_true (hd.symm.trans h.1)

end

/-! Stacks: R287 to R289 -/

section
variable {s : State} {k : Nat}

theorem State.stackFails_working (h : s.nat (Obj.stackState k) = 1 ∨ s.nat (Obj.stackState k) = 2) (f : StackFail) :
    s.stackFails k f = s.raise (stackBlock k) (stackCause f).1 (stackCause f).2 k lvBlock true := if_pos h

/-- A failed stack does not fail again. -/
theorem State.stackFails_failed (h : s.nat (Obj.stackState k) = 3) (f : StackFail) : s.stackFails k f = s :=
  if_neg (by rw [h]; decide)

theorem State.stackOk_iff : s.stackOk k = true ↔ s.nat (Obj.stackState k) = 2 := decide_eq_true_iff

theorem State.patrol_corrected (h : s.nat (Obj.stackState k) = 2) (n : Nat) (rows : List Nat) :
    s.patrol k n rows none false = (s.count (Obj.correctedErrors2710 k) n).markRows k rows := by
  simp [State.patrol, State.stackOk_iff.mpr h]

theorem State.patrol_passEnd (h : s.nat (Obj.stackState k) = 2) (n : Nat) (rows : List Nat) :
    s.patrol k n rows none true = ((s.count (Obj.correctedErrors2710 k) n).markRows k rows).count (Obj.scrubPasses k) := by
  simp [State.patrol, State.stackOk_iff.mpr h]

theorem State.patrol_uncorrectable (h : s.nat (Obj.stackState k) = 2) (n : Nat) (rows : List Nat) (b : BadBlock) :
    s.patrol k n rows (some b) false = ((s.count (Obj.correctedErrors2710 k) n).markRows k rows).stackError k b := by
  simp [State.patrol, State.stackOk_iff.mpr h]

theorem State.patrol_elsewhere (h : s.nat (Obj.stackState k) ≠ 2) (n : Nat) (rows : List Nat) (bad : Option BadBlock) (passEnd : Bool) :
    s.patrol k n rows bad passEnd = s := if_neg (mt State.stackOk_iff.mp h)

end

theorem correctedErrors_ne_rowsToRepair (k : Nat) : Obj.correctedErrors2710 k ≠ Obj.rowsToRepair k := by
  unfold Obj.correctedErrors2710 Obj.rowsToRepair
  omega

/-- The rows with corrected errors are no part of the count of the errors. -/
theorem State.nat_markRows (s : State) (k : Nat) (rows : List Nat) {j : Nat} (hj : j ≠ Obj.rowsToRepair k) :
    (s.markRows k rows).nat j = s.nat j := State.nat_setNat_ne _ _ hj

/-- An uncorrectable error in a ring without a mirror makes the samples of its burst gaps (R288). -/
theorem State.badBlock_ring {s : State} {c : Nat} (hl : (s.ringDef c).live = true) (hm : (s.ringDef c).mirrorAt = 255) (k l p : Nat) (o : Bool) :
    s.badBlock k (.ring c l p o) = s.setRingDef c ((s.ringDef c).loseBurst l p) := if_pos (by rw [hl, hm]; rfl)

/-! Publications and bins: R296, R300 -/

section
variable {s : State} {p h : Nat} {b : List Nat} (stamp : Nat)

theorem State.publishPort_accepted (hp : p < 4) (hh : s.fc.bound = h) (hb : pubOk p b = true) :
    s.publishPort p h stamp b = s.setPort p { s.port p with nextBytes := b, nextStamp := stamp, nextValid := true } := by
  unfold State.publishPort
  rw [if_pos hp, if_pos ⟨hh, hb⟩]

theorem State.publishPort_rejected (hp : p < 4) (h' : s.fc.bound ≠ h ∨ pubOk p b = false) :
    s.publishPort p h stamp b = s.count Obj.rejectedPublications := by
  unfold State.publishPort
  rw [if_pos hp, if_neg fun ⟨hh, hb⟩ => h'.elim (fun hn => hn hh) (fun hn => Bool.false_ne_true (hn.symm.trans hb))]

theorem State.publishPort_noPort (hp : 6 ≤ p) : s.publishPort p h stamp b = s.count Obj.rejectedPortPublications := by
  unfold State.publishPort
  rw [if_neg (by omega), if_neg fun hc => absurd hc.1 (by omega)]

end

theorem State.binEnd_inside {s : State} (h : s.histT % 250 ≠ 0) : s.binEnd = s := if_neg fun hc => h hc.1

theorem State.binEnd_due {s : State} (h : s.histT % 250 = 0) (h' : 250 ≤ s.histT) : s.binEnd = s.evaluateBin (s.histT - 250) := if_pos ⟨h, h'⟩

/-- Outside Ready and Shaping a bin is not judged; the sums start again. -/
theorem State.evaluateBin_unjudged {s : State} (hr : s.mode ≠ .ready) (hs : s.mode ≠ .shaping) (b : Nat) :
    s.evaluateBin b = { s with fc := { s.fc with binSum := 0, binCount := 0 } } := if_neg fun h => h.1.elim hr hs

/-- Settles O37: each command by the condition of its operation; the head by induction on the slots it enters. The class and code of a
stack failure for training and for 16 errors are log entry 59, a publication on a port of 6 or more 142, a burst lost without a mirror 154. -/
theorem ringsStacksAndPublications : Obligations.RingsStacksAndPublications := by
  intro t c n h stamp k port p f bytes s u r a
  have step {v w : State} (h : v = w) : (.next v : Res) = .next w := congrArg _ h
  refine ⟨fun hl => step (State.advanceRing_live hl), fun hl => step (State.advanceRing_dead hl),
    fun q _ => ⟨q.advance_head h, q.advanceOne_head, fun _ he => ?entered⟩,
    fun hd hr => step (State.deleteComplete_due hd hr), fun hd => step (State.deleteComplete_none hd),
    fun hk => step ?failed, fun hk => step (State.stackFails_failed hk f), fun hk => ?patrol,
    fun hk rows bad e => step (State.patrol_elsewhere hk n rows bad e), fun l q o hl hm => State.badBlock_ring hl hm k.val l q o,
    fun hp hh hb => step (State.publishPort_accepted stamp hp hh hb), fun hp hn => step (State.publishPort_rejected stamp hp hn),
    fun hp => step (State.publishPort_noPort stamp hp), fun hb => step (State.binEnd_inside hb),
    fun hb h0 => ⟨_, step (State.binEnd_due hb h0), rfl, fun ⟨hr, hs⟩ => State.evaluateBin_unjudged hr hs _⟩⟩
  case entered => rw [RingDef.advanceOne_early he, RingDef.atPos_put_same]
  case failed =>
    refine (State.stackFails_working hk f).trans ?_
    cases f <;> rfl
  case patrol =>
    refine ⟨step (State.patrol_corrected hk n []), step (State.patrol_passEnd hk n []), ?_,
      fun b => step (State.patrol_uncorrectable hk n [] b)⟩
    rw [State.nat_markRows _ _ _ (correctedErrors_ne_rowsToRepair k), State.nat_count, if_pos rfl]

end Sys2Proof.Machine
end

section
/-! SUPPORT. PWM half-periods, the clamp-held signal and the reserve's end, string shares, sheds, the authority multiplexer (R325, R336,
R350 to R353, R358, R359, R365, R366, R374). -/

namespace Sys2Proof.Machine

section
variable {s : State} {n k t0 : Nat}

/-! Half-periods: R350, R358 -/

theorem State.pwmHalf_peak (h : s.counting = true) : s.pwmHalf n false = s.pwmLoad n false := if_pos h

theorem State.pwmHalf_valley (h : s.counting = true) : s.pwmHalf n true = (s.pwmLoad n true).pwmValley n := if_pos h

theorem State.pwmHalf_stopped (h : s.counting = false) (valley : Bool) : s.pwmHalf n valley = s := if_neg (Bool.eq_false_iff.mp h)

theorem State.phase_setPhase_same (s : State) (n : Nat) (p : PhaseSt) : (s.setPhase n p).phase n = p :=
  (State.phase_setPhase ..).trans (if_pos rfl)

/-- A phase that is not active is not the first active one of a string. -/
theorem State.activeOf_head_ne (h : (s.phase n).active = false) : (s.activeOf k).head? ≠ some n := fun hn =>
  Bool.false_ne_true (h.symm.trans (List.mem_filter.mp (List.mem_of_head? hn)).2)

/-- A valley asserts GDEN where that waited (R375). -/
def State.valleyGates (s : State) : State :=
  if s.conv.gdenAtValley = true ∧ (s.mode = .ready ∨ s.mode = .shaping) then
    { s with pins := { s.pins with gden := s.gdenMask }, conv := { s.conv with gdenAtValley := false } }
  else s

theorem State.phase_valleyGates (s : State) (n : Nat) : s.valleyGates.phase n = s.phase n := by
  unfold State.valleyGates
  split <;> rfl

/-- A phase that is shed goes idle (R358). -/
def State.shedNow (s : State) (n : Nat) : State := (s.idlePhase n).setPhase n { (s.idlePhase n).phase n with shed := true }

theorem State.phase_shedNow (s : State) (n : Nat) :
    ((s.shedNow n).phase n).active = false ∧ ((s.shedNow n).phase n).shed = true := by
  rw [State.shedNow, State.phase_setPhase_same, State.idlePhase, State.phase_setPhase_same]
  exact ⟨rfl, rfl⟩

/-- A phase marked for it is shed at its valley. It then leads its string no more, so the valley works no lags and no clamp. -/
theorem State.pwmValley_shed (ha : (s.phase n).active = true) (hs : (s.phase n).shedNext = true) :
    s.pwmValley n = (s.shedNow n).valleyGates := by
  have marked : (s.phase n).active = true ∧ (s.phase n).shedNext = true := ⟨ha, hs⟩
  have off : ((s.shedNow n).valleyGates.phase n).active = false := by rw [State.phase_valleyGates, (s.phase_shedNow n).1]
  unfold State.pwmValley
  dsimp only
  rw [if_pos marked]
  exact if_neg (State.activeOf_head_ne off)

/-! Counts: R351, R353 -/

/-- A full duty of 16,384 is PR counts. -/
theorem count_le_pr {d pr : Nat} (hd : d ≤ 16384) : (d * pr + 8192) / 16384 ≤ pr := by
  have hm : d * pr ≤ 16384 * pr := Nat.mul_le_mul_right pr hd
  omega

theorem State.pwmCounts_le (s : State) {d pr : Nat} (hd : d ≤ 16384) : s.pwmCounts d pr ≤ pr := by
  have hc := count_le_pr (pr := pr) hd
  unfold State.pwmCounts
  dsimp only
  split
  · split
    · exact Nat.zero_le pr
    · exact Nat.le_refl pr
  · exact hc

/-- Without a minimum pulse no pulse is too short. -/
theorem State.pwmCounts_noMinimum (h : s.nat Obj.minPulse = 0) (d pr : Nat) : s.pwmCounts d pr = (d * pr + 8192) / 16384 := by
  unfold State.pwmCounts
  rw [h]
  exact if_neg fun hm => hm.elim (fun h => Nat.not_lt_zero _ h.2) (fun h => Nat.not_lt_zero _ h.2)

/-! The clamp-held signal and the reserve: R336, R365 -/

theorem State.clampAssert_eq :
    s.clampAssert =
      if s.conv.clampHeld = false ∧ (5 ≤ s.conv.clampRun1 ∨ 5 ≤ s.conv.clampRun2) then
        (({ s with conv := { s.conv with clampHeld := true } } : State).setNat Obj.clampHeld 1).reserveInput
      else s := by
  unfold State.clampAssert
  simp only [Bool.and_eq_true, Bool.not_eq_true', Bool.or_eq_true, decide_eq_true_eq]

theorem State.reserveEnd_pending (h : s.eng.reserveClear = some t0) :
    s.reserveEnd = if t0 + 10 * ms ≤ s.now then { s with eng := { s.eng with reserve := false, reserveClear := none } } else s := by
  unfold State.reserveEnd
  rw [h]

/-! String shares: R325 -/

theorem State.updateShares_oneString (h : s.isS2 = false) : s.updateShares.eng.w1 = 32768 ∧ s.updateShares.eng.w2 = 0 := by
  simp [State.updateShares, h]

/-- The first share is never more than the whole, so the second is the rest of it. -/
theorem State.updateShares_twoStrings (h : s.isS2 = true) : s.updateShares.eng.w1 + s.updateShares.eng.w2 = 32768 := by
  have hw : s.updateShares.eng.w2 = 32768 - s.updateShares.eng.w1 := by simp [State.updateShares, h]
  have hle : s.updateShares.eng.w1 ≤ 32768 := by
    simp only [State.updateShares, State.setNat_eng]
    repeat' split
    all_goals omega
  omega

/-! Sheds: R358 -/

theorem State.phaseShed_idle (h : (if k = 0 then s.conv.shedSince1 else s.conv.shedSince2) = none) : s.phaseShed k = s := by
  unfold State.phaseShed
  rw [h]

theorem State.phaseShed_due {m : Nat} (h : (if k = 0 then s.conv.shedSince1 else s.conv.shedSince2) = some t0)
    (hc : s.shedCondition k = true) (ht : t0 + s.nat Obj.shedDelay2A00 * us ≤ s.now) (hm : s.longestActive k = some m) :
    s.phaseShed k =
      (let w := (s.setPhase m { s.phase m with shedNext := true }).count Obj.phaseSheds
       if k = 0 then { w with conv := { w.conv with shedSince1 := some s.now } }
       else { w with conv := { w.conv with shedSince2 := some s.now } }) := by
  unfold State.phaseShed
  rw [h]
  dsimp only
  rw [if_pos (by simp [hc, ht]), hm]

/-! The authority multiplexer: R374 -/

theorem State.muxExpire_due (ha : s.hold.latchA = false) (hb : s.hold.latchB = false) (ht : s.hold.noneSince + 600 ≤ s.now) :
    s.muxExpire = { s with conv := { s.conv with mux := 0 } } := if_pos (by simp [ha, hb, ht])

theorem State.muxExpire_latched (h : s.hold.latchA = true ∨ s.hold.latchB = true) : s.muxExpire = s :=
  if_neg (by obtain h | h := h <;> simp [h])

theorem State.muxChange_eq :
    s.muxChange = { s with conv := { s.conv with mux :=
      match s.hold.latchA, s.hold.latchB with
      | true, true => 0
      | true, false => 1
      | false, true => 2
      | false, false => s.conv.mux } } := by
  unfold State.muxChange
  cases s.hold.latchA <;> cases s.hold.latchB <;> rfl

end

/-- Settles O22: a half-period by its kind, the other commands by the condition of each operation. -/
theorem pwmPeriodsClampsAndShares : Obligations.PwmPeriodsClampsAndShares := by
  intro t t0 m n k s u p load since due
  have step {v w : State} (h : v = w) : (.next v : Res) = .next w := congrArg _ h
  refine ⟨fun hc => step (State.pwmHalf_peak hc), fun hc => step (State.pwmHalf_valley hc),
    fun hc valley => step (State.pwmHalf_stopped hc valley), fun w ha hs => ?shed,
    fun d pr hd _ => ⟨u.pwmCounts_le hd, fun hm => State.pwmCounts_noMinimum hm d pr⟩,
    fun hd => step (State.clampAssert_eq.trans (if_pos hd)), fun hd => step (State.clampAssert_eq.trans (if_neg hd)),
    fun hr ht => step ((State.reserveEnd_pending hr).trans (if_pos ht)),
    fun hr ht => step ((State.reserveEnd_pending hr).trans (if_neg (Nat.not_le_of_lt ht))),
    ⟨_, rfl, rfl, State.updateShares_oneString, State.updateShares_twoStrings, rfl⟩, fun hs hc ht hm => step ?due,
    fun hs => step (State.phaseShed_idle ?idle), fun ha hb ht => step (State.muxExpire_due ha hb ht),
    fun hl => step (State.muxExpire_latched hl), step State.muxChange_eq⟩
  case shed =>
    rw [State.pwmValley_shed ha hs, State.phase_valleyGates]
    exact w.phase_shedNow n
  case due =>
    obtain rfl | rfl : k = 0 ∨ k = 1 := by omega
    · exact State.phaseShed_due hs hc ht hm
    · exact State.phaseShed_due hs hc ht hm
  case idle =>
    obtain rfl | rfl : k = 0 ∨ k = 1 := by omega
    · exact hs
    · exact hs

end Sys2Proof.Machine
end

section
/-! SUPPORT. The control tick: compensator arithmetic, clamps, injections, the release feed-forward, the swap of a compensator's copies
(R51, R315, R317, R320, R321, R323, R324). -/

namespace Sys2Proof.Machine

/-! Compensators: R315 -/

theorem clampI_mem {lo hi : Int} (h : lo ≤ hi) (v : Int) : lo ≤ clampI lo hi v ∧ clampI lo hi v ≤ hi := by
  unfold clampI
  repeat' split
  all_goals omega

/-- The sum of products of R315 for the error `e`. -/
def Inst.accOf (c h : Inst) (e : Int) : Int :=
  let term := fun (k x : Int) (j : Nat) =>
    (k * x + if c.shifts / 2 ^ (5 * j) % 32 = 0 then 0 else 2 ^ (c.shifts / 2 ^ (5 * j) % 32 - 1)) / 2 ^ (c.shifts / 2 ^ (5 * j) % 32)
  term c.b0 e 0 + term c.b1 h.e1 1 + term c.b2 h.e2 2 + term c.a1 h.u1 4 + term c.a2 h.u2 5 +
    if c.kind = 2 then term c.b3 h.e3 3 + term c.a3 h.u3 6 else 0

theorem natCast_two_pow (n : Nat) : ((2 ^ n : Nat) : Int) = 2 ^ n := Int.natCast_pow 2 n

/-- Half of the last place, which rounds half up; nothing where nothing is shifted out. -/
theorem natCast_half (n : Nat) : ((if n = 0 then 0 else 2 ^ (n - 1) : Nat) : Int) = if n = 0 then 0 else 2 ^ (n - 1) := by
  split
  · rfl
  · exact natCast_two_pow _

theorem engTerm_shiftField (c x : Int) (w j : Nat) :
    engTerm c x (shiftField w j) =
      (c * x + if w / 2 ^ (5 * j) % 32 = 0 then 0 else 2 ^ (w / 2 ^ (5 * j) % 32 - 1)) / 2 ^ (w / 2 ^ (5 * j) % 32) := by
  unfold engTerm shiftField
  rw [natCast_half, natCast_two_pow]

theorem Inst.compute_eq (c h : Inst) (ref fb : Int) :
    c.compute h ref fb =
      (let e := sat32 (ref - fb)
       let u := clampI c.omin c.omax (sat32 (c.accOf h e))
       ({ h with e0 := e, e1 := e, e2 := h.e1, e3 := h.e2, u1 := u, u2 := h.u1, u3 := h.u2 }, u != c.accOf h e)) := by
  have third (a b c : Int) (p : Prop) [Decidable p] : (if p then a + b + c else a) = a + if p then b + c else 0 := by
    split
    · exact Int.add_assoc a b c
    · exact (Int.add_zero a).symm
  unfold Inst.compute Inst.accOf
  simp only [engTerm_shiftField, third]

section
variable {s : State}

/-! The tick: R320 -/

theorem State.controlTick_stopped (h : s.counting = false) (inp : TickIn) : s.controlTick inp = s := if_neg (Bool.eq_false_iff.mp h)

theorem State.controlTick_counting (h : s.counting = true) (inp : TickIn) :
    s.controlTick inp =
      (let a := s.transferTick.computeTick inp
       let b := (a.energyTick.forEach a.operated State.chargeTick).judgeChange.judgeRatings s.eng.rack
       let c := ((b.forEach b.operated State.shedTick).softTick).forEach b.operated State.contactorTick
       (c.wayDown.compareTick inp).latchTick inp.readA inp.readB) := if_pos h

/-! P_conv: R323 -/

theorem State.num_setNat_ne (s : State) {k j : Nat} (v : Nat) (h : j ≠ k) : (s.setNat k v).num j = s.num j :=
  (State.num_setNum ..).trans (if_neg h)

/-- Whatever power the loop asks for, it is clamped into what is in force in either direction. -/
theorem State.loopTick_power (s : State) :
    ∃ w, s.loopTick.num Obj.converterPowerRef2910 = min (max w (-(s.clampNow false : Int))) (s.clampNow true : Int) :=
  ⟨_, (State.num_setNat_ne _ _ (by decide)).trans
    ((State.num_setNat_ne _ _ (by decide)).trans ((State.num_setNum ..).trans (if_pos rfl)))⟩

theorem State.loopTick_clamped (s : State) :
    -(s.clampNow false : Int) ≤ s.loopTick.num Obj.converterPowerRef2910 ∧
      s.loopTick.num Obj.converterPowerRef2910 ≤ (s.clampNow true : Int) := by
  obtain ⟨w, hw⟩ := s.loopTick_power
  rw [hw]
  omega

/-! Injections: R321, R324 -/

/-- Handovers that stay are those that are not due. -/
theorem State.takeHandovers_eq (s : State) :
    s.takeHandovers =
      (let due := fun (e : Nat × Int) => decide (e.1 / 2 + s.nat Obj.rectifierLag * us ≤ s.now)
       let base := s.eng.hoBase + sumI ((s.eng.handovers.filter due).map (·.2))
       { s with eng := { s.eng with
         handovers := s.eng.handovers.filter (fun e => !due e), hoBase := base
         hoPend := s.eng.hoPend - (watts base - watts s.eng.hoBase) } }) := by
  have stay (e : Nat × Int) : decide (s.now < e.1 / 2 + s.nat Obj.rectifierLag * us) =
      !decide (e.1 / 2 + s.nat Obj.rectifierLag * us ≤ s.now) := (decide_eq_decide.mpr Nat.not_le.symm).trans decide_not
  unfold State.takeHandovers
  simp only [stay]

/-- A state but for its phases. -/
def State.withPhases (s : State) (l : List (Nat × PhaseSt)) : State := { s with conv := { s.conv with phases := l } }

theorem State.withPhases_of_frame {s v : State} (h : v.withPhases [] = s.withPhases []) : v = s.withPhases v.conv.phases := by
  have hv : (v.withPhases []).withPhases v.conv.phases = (s.withPhases []).withPhases v.conv.phases := by rw [h]
  exact hv

theorem State.releaseFF_idle (hr : s.mode ≠ .ready) (hs : s.mode ≠ .shaping) (w : Nat) : s.releaseFF w = s :=
  if_neg fun h => h.elim hr hs

theorem State.withPhases_writeCompare (s : State) (n : Nat) (d : Int) (l : List (Nat × PhaseSt)) :
    (s.writeCompare n d).withPhases l = s.withPhases l := rfl

/-- The part of a release of `w` watts in the compare values of string `k`'s active phases. -/
def State.releaseString (w : Nat) (s : State) (k : Nat) : State :=
  let di := mulShiftI (s.sharePower k w) (if k = 0 then s.eng.k1 else s.eng.k2) 24
  let dd := mulShiftI di (s.num Obj.releaseDutyGain) 16
  s.forEach (s.activeOf k) (fun s n => s.writeCompare n ((s.phase n).cmpNew + dd))

theorem State.releaseString_frame (w : Nat) (s : State) (k : Nat) : (State.releaseString w s k).withPhases [] = s.withPhases [] :=
  State.forEach_frame (·.withPhases []) _ (fun s n => s.withPhases_writeCompare n _ []) _ s

/-- In Ready and Shaping the release's watts are pending, and beside them only compare values of phases change. -/
theorem State.releaseFF_eq (h : s.mode = .ready ∨ s.mode = .shaping) (w : Nat) :
    ∃ l, s.releaseFF w = { s.withPhases l with eng := { s.eng with relPend := s.eng.relPend + w } } := by
  have strings : s.forEach s.operated (State.releaseString w) = s.withPhases _ :=
    State.withPhases_of_frame (State.forEach_frame (·.withPhases []) _ (State.releaseString_frame w) _ s)
  exact ⟨_, (if_pos h).trans (congrArg (fun v : State => { v with eng := { v.eng with relPend := v.eng.relPend + w } }) strings)⟩

/-! The swap: R317 -/

theorem State.swapInst_pending {i : Nat} {e : Nat × Nat} (h : s.eng.commits.find? (fun e => e.1 = i) = some e) :
    s.swapInst i =
      if e.2 + 2 * us ≤ s.now then
        let x : State := { s with eng := { s.eng with commits := s.eng.commits.filter (fun e => e.1 != i) } }
        (x.setInst i (x.staged i)).setNat (Obj.commit i) 0
      else s := by
  unfold State.swapInst
  rw [h]

end

/-- Settles O25: the tick by its definition, a compensator by the sum of R315, the injections and the swap by what is due. -/
theorem controlTickRunsTheLoop : Obligations.ControlTickRunsTheLoop := by
  intro t w inp i s u due base
  have step {v w : State} (h : v = w) : (.next v : Res) = .next w := congrArg _ h
  refine ⟨fun hc => step (State.controlTick_counting hc inp), fun hc => step (State.controlTick_stopped hc inp),
    fun c h ref fb hm => ?compute, u.loopTick_clamped, step u.takeHandovers_eq, fun hm => ?release,
    fun hr hs => step (State.releaseFF_idle hr hs w),
    fun e he => ⟨fun ht => step ((State.swapInst_pending he).trans (if_pos ht)),
      fun ht => step ((State.swapInst_pending he).trans (if_neg (Nat.not_le_of_lt ht)))⟩⟩
  case compute =>
    rw [Inst.compute_eq]
    exact ⟨rfl, (clampI_mem hm _).1, (clampI_mem hm _).2, bne_iff_ne⟩
  case release =>
    obtain ⟨l, hl⟩ := State.releaseFF_eq hm w
    exact ⟨_, step hl, rfl, rfl, rfl⟩

end Sys2Proof.Machine
end

section
/-! SUPPORT. Set-point frames and their errors, the limiter, rectifier reports, bus-off, the soft start's end (R328, R329, R331, R332,
R335, R509). -/

namespace Sys2Proof.Machine

/-! The limiter: R335 -/

section
variable {step v imax p mask req i : Nat}

/-- An admissible integer keeps the bus power within one step and lies under the cap. -/
theorem limTry_admissible (hv : 0 < v) (h : limTry step v imax p mask req = some i) :
    p ≤ popMask mask * i * v + step ∧ popMask mask * i * v ≤ p + step ∧ i ≤ imax := by
  unfold limTry at h
  dsimp only at h
  by_cases hn : popMask mask = 0
  case pos =>
    rw [if_pos hn] at h
    obtain ⟨hp, hi⟩ := Option.ite_none_right_eq_some.mp h
    obtain rfl : 0 = i := Option.some.inj hi
    simpa using hp
  case neg =>
    rw [if_neg hn] at h
    obtain ⟨hle, hi⟩ := Option.ite_none_right_eq_some.mp h
    have hd : 0 < popMask mask * v := Nat.mul_pos (Nat.pos_of_ne_zero hn) hv
    have value := Option.some.inj hi
    have low : (p - step + popMask mask * v - 1) / (popMask mask * v) ≤ i := by omega
    have high : i ≤ (p + step) / (popMask mask * v) := by omega
    have cap : i ≤ imax := by omega
    have power : popMask mask * i * v = i * (popMask mask * v) := by
      rw [Nat.mul_comm (popMask mask) i, Nat.mul_assoc]
    have down := (Nat.div_le_iff_le_mul_add_pred hd).mp low
    have up := (Nat.le_div_iff_mul_le hd).mp high
    rw [Nat.mul_comm (popMask mask * v) i] at down
    rw [power]
    omega

end

section
variable {l v imax p m0 m1 req i : Nat}

theorem limVal_requested (h : limTry (limStep l) v imax p m1 req = some i) :
    limVal l v imax p m0 m1 req = { i := i, p := popMask m1 * i * v, mask := m1, deferred := false, clamped := i != req } := by
  simp only [limVal, h]

theorem limVal_deferred (h1 : limTry (limStep l) v imax p m1 req = none) (h0 : limTry (limStep l) v imax p m0 req = some i) :
    limVal l v imax p m0 m1 req = { i := i, p := popMask m0 * i * v, mask := m0, deferred := m1 != m0, clamped := i != req } := by
  simp only [limVal, h1, h0]

/-- A value with an admissible integer, of the mask requested or else of the mask before. -/
theorem limVal_within (hv : 0 < v)
    (h : (limTry (limStep l) v imax p m1 req).isSome = true ∨ (limTry (limStep l) v imax p m0 req).isSome = true) :
    let o := limVal l v imax p m0 m1 req
    o.p = popMask o.mask * o.i * v ∧ p ≤ o.p + l * 250000 ∧ o.p ≤ p + l * 250000 ∧ o.i ≤ imax ∧
      (o.mask = m1 ∨ (o.mask = m0 ∧ o.deferred = true)) ∧ (o.clamped = true ↔ o.i ≠ req) := by
  cases h1 : limTry (limStep l) v imax p m1 req with
  | some i =>
    obtain ⟨down, up, cap⟩ := limTry_admissible hv h1
    rw [limVal_requested h1]
    exact ⟨rfl, down, up, cap, Or.inl rfl, bne_iff_ne⟩
  | none =>
    rw [h1] at h
    obtain ⟨i, h0⟩ := Option.isSome_iff_exists.mp (h.resolve_left Bool.false_ne_true)
    obtain ⟨down, up, cap⟩ := limTry_admissible hv h0
    have other : m1 ≠ m0 := fun hm => by rw [hm, h0] at h1; exact Option.some_ne_none i h1
    rw [limVal_deferred h1 h0]
    exact ⟨rfl, down, up, cap, Or.inr ⟨rfl, bne_iff_ne.mpr other⟩, bne_iff_ne⟩

end

section
variable {s : State}

/-! Frames: R329 -/

/-- The shadow's frame is compared with the holder's (R342). -/
def State.framesCompared (s : State) (differ : Bool) : State := if differ = true ∧ s.shadowing = true then s.mismatch else s

theorem State.framesCompared_mode (s : State) (differ : Bool) : (s.framesCompared differ).mode = s.mode := by
  unfold State.framesCompared
  split <;> rfl

theorem State.energising_mismatch (s : State) : s.mismatch.energising = s.energising := by
  have step : s.mismatch.nat Obj.energiseStep = s.nat Obj.energiseStep := State.nat_setNat_ne _ _ (by decide)
  unfold State.energising
  rw [step]
  rfl

theorem State.framesCompared_energising (s : State) (differ : Bool) : (s.framesCompared differ).energising = s.energising := by
  unfold State.framesCompared
  split
  · exact s.energising_mismatch
  · rfl

/-- The frames of the mode, and of the sequence in Standby. -/
def State.modeFrame (s : State) : State :=
  if s.mode = .safe then s.safeFrame
  else if s.energising = true then s.startFrame
  else if s.mode = .standby then s.failFrame
  else s.planFrame

/-- After the frames a shut-down goes on. -/
def State.frameDone (s : State) : State :=
  if s.showCmd.boot.shutStep = 2 ∧ s.showCmd.cmdZero = true then s.showCmd.shutOpen.wayDown else s.showCmd.wayDown

theorem State.gridFrame_due (h : (s.counting && s.framing) = true) (differ : Bool) :
    s.gridFrame differ = (s.framesCompared differ).modeFrame.frameDone := by
  unfold State.gridFrame State.framesCompared
  rw [if_pos h]
  simp only [Bool.and_eq_true]
  rfl

theorem State.gridFrame_none (h : (s.counting && s.framing) = false) (differ : Bool) : s.gridFrame differ = s :=
  if_neg (Bool.eq_false_iff.mp h)

theorem State.energising_standby (h : s.energising = true) : s.mode = .standby := of_decide_eq_true (Bool.and_eq_true_iff.mp h).1

theorem State.energising_elsewhere (h : s.mode ≠ .standby) : s.energising = false :=
  Bool.eq_false_iff.mpr fun he => h (State.energising_standby he)

theorem State.modeFrame_safe (h : s.mode = .safe) : s.modeFrame = s.safeFrame := if_pos h

theorem State.modeFrame_energising (h : s.energising = true) : s.modeFrame = s.startFrame := by
  have notSafe : s.mode ≠ .safe := by rw [State.energising_standby h]; decide
  exact (if_neg notSafe).trans (if_pos h)

theorem State.modeFrame_standby (h : s.mode = .standby) (he : s.energising = false) : s.modeFrame = s.failFrame := by
  unfold State.modeFrame
  rw [h, he]
  rfl

theorem State.modeFrame_running (h : s.mode = .ready ∨ s.mode = .shaping) : s.modeFrame = s.planFrame := by
  have idle : s.energising = false := State.energising_elsewhere (by obtain h | h := h <;> rw [h] <;> decide)
  unfold State.modeFrame
  rw [idle]
  obtain h | h := h <;> rw [h] <;> rfl

/-! Errors: R332 -/

section
variable {b : Nat}

/-- The object that shows a bus's limiter state. -/
def limiterShown (b : Nat) : Nat := if b = 0 then Obj.limiterStateA else Obj.limiterStateB

/-- The limiter of bus `b` as it was before the last frame, whose handovers are taken back. -/
def State.undoFrame (s : State) (b : Nat) : State :=
  let x := s.bus b
  let s1 := s.setBus b { x with pPrev := x.pOld, maskPrev := x.maskOld, sent := false, zeroSent := x.zeroSent && x.pOld = 0 }
  { s1 with eng := { s1.eng with handovers := s1.eng.handovers.filter (fun e => !(e.1 % 2 = b && decide (x.sof + 50 * us ≤ e.1 / 2))) } }

theorem State.frameError_sent (h : (s.bus b).sent = true) :
    s.frameError b = (((s.undoFrame b).setNat (limiterShown b) (s.bus b).pOld).count Obj.setpointFramesLost).showCmd := if_pos h

theorem State.frameError_unsent (h : (s.bus b).sent = false) : s.frameError b = s := if_neg (Bool.eq_false_iff.mp h)

theorem State.bus_undoFrame (s : State) (b : Nat) :
    (s.undoFrame b).bus b =
      { s.bus b with pPrev := (s.bus b).pOld, maskPrev := (s.bus b).maskOld, sent := false
                     zeroSent := (s.bus b).zeroSent && (s.bus b).pOld = 0 } := by
  by_cases hb : b = 0 <;> simp [State.undoFrame, State.setBus, State.bus, hb]

/-- Beside the engine's records nothing is undone. -/
theorem State.undoFrame_frame (s : State) (b : Nat) : s.undoFrame b = { s with eng := (s.undoFrame b).eng } := by
  by_cases hb : b = 0 <;> simp [State.undoFrame, State.setBus, hb]

theorem State.nat_undoFrame (s : State) (b k : Nat) : (s.undoFrame b).nat k = s.nat k := by
  rw [State.undoFrame_frame]
  rfl

/-- The commanded power is shown in watts, whatever it is. -/
theorem State.showCmd_eq (s : State) : ∃ w, s.showCmd = { s.setNum Obj.commandedInput2911 w with eng := { s.eng with pCmd := w } } :=
  ⟨_, rfl⟩

theorem State.nat_showCmd (s : State) {k : Nat} (h : k ≠ Obj.commandedInput2911) : s.showCmd.nat k = s.nat k := by
  obtain ⟨w, hw⟩ := s.showCmd_eq
  rw [hw]
  exact congrArg Int.toNat ((s.num_setNum _ k w).trans (if_neg h))

theorem State.bus_showCmd (s : State) (b : Nat) : s.showCmd.bus b = s.bus b := by
  obtain ⟨w, hw⟩ := s.showCmd_eq
  rw [hw]
  rfl

theorem State.showCmd_frame (s : State) : s.showCmd = { s with eng := s.showCmd.eng, objs := s.showCmd.objs } := by
  obtain ⟨w, hw⟩ := s.showCmd_eq
  rw [hw]
  rfl

theorem State.bus_setNat (s : State) (k v b : Nat) : (s.setNat k v).bus b = s.bus b := rfl

theorem limiterShown_ne_lost (b : Nat) : limiterShown b ≠ Obj.setpointFramesLost := by
  unfold limiterShown
  split <;> decide

theorem limiterShown_ne_commanded (b : Nat) : limiterShown b ≠ Obj.commandedInput2911 := by
  unfold limiterShown
  split <;> decide

theorem State.frameError_bus (h : (s.bus b).sent = true) : (s.frameError b).bus b = (s.undoFrame b).bus b := by
  rw [State.frameError_sent h, State.bus_showCmd, State.count, State.bus_setNat, State.bus_setNat]

theorem State.frameError_shown (h : (s.bus b).sent = true) : (s.frameError b).nat (limiterShown b) = (s.bus b).pOld := by
  rw [State.frameError_sent h, State.nat_showCmd _ (limiterShown_ne_commanded b), State.nat_count, if_neg (limiterShown_ne_lost b),
    State.nat_setNat_same]

theorem State.frameError_lost (h : (s.bus b).sent = true) :
    (s.frameError b).nat Obj.setpointFramesLost = (s.nat Obj.setpointFramesLost + 1) % 2 ^ 32 := by
  rw [State.frameError_sent h, State.nat_showCmd _ (by decide), State.nat_count, if_pos rfl,
    State.nat_setNat_ne _ _ (limiterShown_ne_lost b).symm, State.nat_undoFrame]

theorem State.frameError_frame (h : (s.bus b).sent = true) :
    s.frameError b = { s with eng := (s.frameError b).eng, objs := (s.frameError b).objs } := by
  rw [State.frameError_sent h, State.showCmd_frame, State.undoFrame_frame]
  rfl

/-! Reports: R331 -/

section
variable {r id : Nat} {fd : Bool} {bytes : List Nat}

/-- A frame that no table gives the bus is counted and ignored. -/
theorem State.reportFrame_foreign (hc : s.counting = true)
    (h : fd = false ∨ bytes.length ≠ 8 ∨ id < 0x100 ∨ 0x10C ≤ id ∨ (id - 0x100) / 6 ≠ b ∨ listGet 0 bytes 1 % 16 ≠ 0) :
    s.reportFrame b fd id bytes = s.count Obj.canFramesIgnored := by
  unfold State.reportFrame
  dsimp only
  rw [if_neg (by rw [hc]; decide), if_pos (by simpa [or_assoc] using h)]

/-- A report of the bus that is owed and comes in time is judged by its counter and its fault bit. -/
theorem State.reportFrame_inTime (hc : s.counting = true) (hl : bytes.length = 8) (hr : r < 12)
    (hb : r / 6 = b) (hf : listGet 0 bytes 1 % 16 = 0) (ho : (s.rect r).owed = true) (ht : s.now ≤ (s.bus b).sof + 85600) :
    s.reportFrame b true (0x100 + r) bytes =
      (let y := s.rect r
       let p := divRound ((beNat (slice bytes 2 2) * beNat (slice bytes 4 4) : Nat) : Int) 100000
       let z := (s.setRect r { y with power := p, status := listGet 0 bytes 1, fault := bitOf (listGet 0 bytes 1) 7, missed := false }).setBlob
         (Obj.rectifierReport r) bytes
       (z.publish (0x24 + r) p).judgeReport r (decide (listGet 0 bytes 0 = y.owedCounter) && !bitOf (listGet 0 bytes 1) 7)) := by
  have own : ¬(!true || bytes.length != 8 || decide (0x100 + r < 0x100) || decide (0x10C ≤ 0x100 + r) || decide (r / 6 ≠ b) ||
      listGet 0 bytes 1 % 16 != 0) = true := by simp [hl, hb, hf]; omega
  have inSlot : ((s.rect r).owed && decide (s.now ≤ (s.bus b).sof + reportLate)) = true :=
    Bool.and_eq_true_iff.mpr ⟨ho, decide_eq_true ht⟩
  unfold State.reportFrame
  simp only [Nat.add_sub_cancel_left]
  rw [if_neg (by rw [hc]; decide), if_neg own, if_pos inSlot, if_pos inSlot]

theorem State.reportMissed_due (ho : (s.rect r).owed = true) (ht : (s.bus (r / 6)).sof + 85600 ≤ s.now) :
    s.reportMissed r = ((s.setRect r { s.rect r with missed := true }).count (Obj.missedReports r)).judgeReport r false :=
  if_pos (Bool.and_eq_true_iff.mpr ⟨ho, decide_eq_true ht⟩)

theorem State.reportMissed_answered (h : (s.rect r).owed = false) : s.reportMissed r = s := if_neg (by simp [h])

end

/-! Bus-off and the end of the soft start: R328, R509 -/

theorem State.canBusOff_sending (h : (s.bus b).busOff = false) :
    s.canBusOff b =
      ((s.setBus b { s.bus b with busOff := true }).count Obj.busOffEvents).raise (97 * (s.bus b).owner + 9) 3 6 b lvBlock :=
  if_neg (Bool.eq_false_iff.mp h)

end

theorem State.softDone_due {t0 : Nat} (h : s.boot.softSince = some t0) (he : s.energising = true) (h3 : s.nat Obj.energiseStep = 3)
    (ht : t0 + 10 * ms ≤ s.now) :
    s.softDone =
      (let z := s.setNat Obj.energiseStep 4
       ({ z with conv := { z.conv with uvArmed := true }, boot := { z.boot with stepSince := z.now } } : State).goConnect) := by
  unfold State.softDone
  rw [h]
  exact if_pos ⟨he, h3, ht⟩

theorem State.softDone_unsettled (h : s.boot.softSince = none) : s.softDone = s := by
  unfold State.softDone
  rw [h]

end

/-- Settles O26: frames by the mode, the limiter by the mask that admits an integer, reports by their slot. That a frame of no table or
of the other bus is counted and ignored is log entry 137. -/
theorem setpointFramesKeepTheRampLimit : Obligations.SetpointFramesKeepTheRampLimit := by
  intro t t0 id b r differ fd bytes s u w after x shown
  have step {v w : State} (h : v = w) : (.next v : Res) = .next w := congrArg _ h
  have mode : w.mode = u.mode := u.framesCompared_mode differ
  have sequence : w.energising = u.energising := u.framesCompared_energising differ
  refine ⟨fun hg => ?frames, fun hg => step (State.gridFrame_none hg differ), fun _ _ _ _ _ _ _ hv h => limVal_within hv h,
    fun hs => ⟨_, rfl, (State.frameError_bus hs).trans (u.bus_undoFrame b.val), State.frameError_shown hs, State.frameError_lost hs,
      State.frameError_frame hs⟩,
    fun hs => step (State.frameError_unsent hs), fun hc h => step (State.reportFrame_foreign hc h), ?report,
    fun ho ht => step (State.reportMissed_due ho ht), fun ho => step (State.reportMissed_answered ho),
    fun hb => step (State.canBusOff_sending hb), rfl, fun h he h3 ht => step (State.softDone_due h he h3 ht),
    fun h => step (State.softDone_unsettled h)⟩
  case frames =>
    have sent {f : State} (hf : w.modeFrame = f) : exec (.setpointFrame t differ) s = .next (after f) :=
      step ((State.gridFrame_due hg differ).trans (congrArg after hf))
    exact ⟨fun hm => sent (State.modeFrame_safe (mode.trans hm)), fun he => sent (State.modeFrame_energising (sequence.trans he)),
      fun hm he => sent (State.modeFrame_standby (mode.trans hm) (sequence.trans he)),
      fun hm => sent (State.modeFrame_running (by rwa [mode]))⟩
  case report =>
    intro hc hfd hl hid hb hf ho ht
    subst hfd hid
    exact step (State.reportFrame_inTime hc hl r.isLt hb hf ho ht)

end Sys2Proof.Machine
end

section
/-! SUPPORT. The converter's protections: cut half-periods, the persistent limit, string over-current, bus over- and under-voltage,
gate-driver and stream faults (R363, R364, R366, R372, R484, Table 12.1). -/

namespace Sys2Proof.Machine

section
variable {s : State} {n k c b : Nat}

/-! Cut half-periods -/

theorem State.cbcCut_first (hl : s.pwmLive = true) (ha : (s.phase n).active = true) (hc : (s.phase n).cut = false) (positive : Bool) :
    s.cbcCut n positive =
      ((s.setPhase n { s.phase n with cut := true, cutPeriod := true, cutHigh := !positive }).count Obj.cbcEvents).event
        (s.block 2) 8 n := if_pos (by simp [hl, ha, hc])

theorem State.cbcCut_idle (ha : (s.phase n).active = false) (positive : Bool) : s.cbcCut n positive = s := if_neg (by simp [ha])

theorem State.persistentLimit_reached (hl : s.pwmLive = true) (ha : (s.phase n).active = true) (hr : 7 ≤ (s.phase n).cutRun)
    (hc : (s.phase n).cutPeriod = true) :
    s.persistentLimit n = ((s.faultPhase n).refreshClamps).raise (s.block 2) 6 8 n lvBlock := if_pos (by simp [hl, ha, hr, hc])

theorem State.persistentLimit_idle (ha : (s.phase n).active = false) : s.persistentLimit n = s := if_neg (by simp [ha])

theorem State.phase_faultPhase (s : State) (n : Nat) :
    ((s.faultPhase n).phase n).faulted = true ∧ ((s.faultPhase n).phase n).active = false := by
  rw [State.faultPhase, State.phase_setPhase_same, State.idlePhase, State.phase_setPhase_same]
  exact ⟨rfl, rfl⟩

/-! String over-current: R370, R372 -/

/-- Only a string in its connection sequence ends it with cause 9. -/
theorem State.connectCause9_elsewhere {was : Conn} (h : was ≠ .precharging) (s : State) (k : Nat) : s.connectCause9 k was = s := if_neg h

theorem State.stringOver_live (hl : s.pwmLive = true) (hc : (s.str k).conn ≠ .precharging) :
    s.stringOver k = (let w := s.dropString k false 9; w.raise (w.block 2) 6 8 (k + 1) lvBlock) :=
  (if_pos hl).trans (State.connectCause9_elsewhere hc _ k)

theorem State.stringOver_stopped (hl : s.pwmLive = false) : s.stringOver k = s := if_neg (Bool.eq_false_iff.mp hl)

/-! The bus voltage -/

theorem State.busOver_live (hl : s.pwmLive = true) (hc : bitOf s.conv.streamFault c = false) :
    s.busOver c = s.gdenOff.raise (s.block 2) 6 8 c lvModule := if_pos (by simp [hl, hc])

theorem State.busOver_stopped (hl : s.pwmLive = false) : s.busOver c = s := if_neg (by simp [hl])

/-- Outside Standby no energising runs that an under-voltage could fail. -/
theorem State.busUnder_armed (hl : s.pwmLive = true) (hu : s.conv.uvArmed = true)
    (hc : ¬(bitOf s.conv.streamFault 52 = true ∧ bitOf s.conv.streamFault 53 = true)) (hm : s.mode ≠ .standby) :
    s.busUnder = s.gdenOff.raise (s.block 2) 6 8 0 lvModule := by
  have acts : (s.pwmLive && s.conv.uvArmed && !(bitOf s.conv.streamFault 52 && bitOf s.conv.streamFault 53)) = true := by
    simp only [hl, hu, Bool.true_and, Bool.not_eq_true', Bool.eq_false_iff, ne_eq, Bool.and_eq_true]
    exact hc
  have still : ¬s.energising = true := by simp [State.energising_elsewhere hm]
  unfold State.busUnder
  dsimp only
  rw [if_pos acts, if_neg hm, if_neg still]
  rfl

theorem State.busUnder_unarmed (hu : s.conv.uvArmed = false) : s.busUnder = s := if_neg (by simp [hu])

/-! Gate drivers -/

/-- GD_FLT_Nb of board `b` reads low. -/
def State.driverLow (s : State) (b : Nat) : State := { s with pins := { s.pins with gdFaultLow := setBit s.pins.gdFaultLow b true } }

theorem State.gateDriver_live (hl : s.pwmLive = true) :
    s.gateDriver b =
      (let gd := s.driverLow b
       let w : State := { gd with pins := { gd.pins with gden := setBit gd.pins.gden b false } }
       let x := (w.forEach ((List.range 8).map (8 * b + ·)) State.faultPhase).refreshClamps
       x.raise (x.block 2) 6 7 b lvBlock) := if_pos hl

theorem State.gateDriver_stopped (hl : s.pwmLive = false) : s.gateDriver b = s.driverLow b := if_neg (Bool.eq_false_iff.mp hl)

/-! Stream faults: R363 -/

/-- The fault of stream `c` is marked and counted. -/
def State.markStream (s : State) (c : Nat) : State :=
  ({ s with conv := { s.conv with streamFault := setBit s.conv.streamFault c true } } : State).count (Obj.streamFaults c)

/-- No counter of stream faults is the state of half A's first block, by which a half reads as reacted. -/
theorem State.block_markStream (s : State) (c l : Nat) : (s.markStream c).block l = s.block l := by
  have reacted : (s.markStream c).reacted 0 = s.reacted 0 := by
    have apart : Obj.blockState (97 * 0) ≠ Obj.streamFaults c := by simp only [Obj.blockState, Obj.streamFaults]; omega
    simp only [State.reacted, State.markStream, State.count, State.nat_setNat_ne _ _ apart]
    rfl
  unfold State.block State.workHalf
  rw [reacted]
  rfl

/-- The reaction to a marked fault of stream `c`: of a phase, of a string, or of a bus channel. -/
def State.reactStream (s : State) (c : Nat) : State :=
  if c < 48 then ((s.faultPhase c).refreshClamps).raise (s.block 3) 4 7 c lvBlock
  else if c < 52 then
    let k := (c - 48) % 2
    ((s.dropString k true 9).raise (s.block 3) 4 7 c lvBlock).connectCause9 k (s.str k).conn
  else if (bitOf s.conv.streamFault 52 && bitOf s.conv.streamFault 53) = true then s.gdenOff.raise (s.block 3) 4 7 c lvModule
  else s.raise (s.block 3) 4 7 c lvBlock

theorem State.reactStream_phase (h : c < 48) :
    s.reactStream c = ((s.faultPhase c).refreshClamps).raise (s.block 3) 4 7 c lvBlock := if_pos h

theorem State.reactStream_bus (h : 52 ≤ c) :
    s.reactStream c =
      if bitOf s.conv.streamFault 52 = true ∧ bitOf s.conv.streamFault 53 = true then s.gdenOff.raise (s.block 3) 4 7 c lvModule
      else s.raise (s.block 3) 4 7 c lvBlock := by
  have notPhase : ¬c < 48 := by omega
  have notString : ¬c < 52 := by omega
  unfold State.reactStream
  rw [if_neg notPhase, if_neg notString]
  simp only [Bool.and_eq_true]

theorem State.streamFaulted_known (h : bitOf s.conv.streamFault c = true) : s.streamFaulted c = s := if_pos (by simp [h])

section
variable (hc : s.counting = true) (hn : bitOf s.conv.streamFault c = false)
include hc hn

theorem State.stream_fresh : ¬(!s.counting || bitOf s.conv.streamFault c) = true := by simp [hc, hn]

theorem State.streamFaulted_stopped (hl : s.pwmLive = false) : s.streamFaulted c = s.markStream c :=
  (if_neg (State.stream_fresh hc hn)).trans (if_neg (Bool.eq_false_iff.mp hl))

/-- While the protections act a marked fault is reacted to. -/
theorem State.streamFaulted_live (hl : s.pwmLive = true) : s.streamFaulted c = (s.markStream c).reactStream c :=
  (if_neg (State.stream_fresh hc hn)).trans (if_pos hl)

theorem State.streamFaulted_phase (hl : s.pwmLive = true) (h : c < 48) :
    s.streamFaulted c = (((s.markStream c).faultPhase c).refreshClamps).raise (s.block 3) 4 7 c lvBlock := by
  rw [State.streamFaulted_live hc hn hl, State.reactStream_phase h, State.block_markStream]

theorem State.streamFaulted_bus (hl : s.pwmLive = true) (h : 52 ≤ c) :
    s.streamFaulted c =
      if bitOf (s.markStream c).conv.streamFault 52 = true ∧ bitOf (s.markStream c).conv.streamFault 53 = true then
        (s.markStream c).gdenOff.raise (s.block 3) 4 7 c lvModule
      else (s.markStream c).raise (s.block 3) 4 7 c lvBlock := by
  rw [State.streamFaulted_live hc hn hl, State.reactStream_bus h, State.block_markStream]

end

end

/-- Settles O23: each protection by the condition under which it acts. -/
theorem converterProtectionsAct : Obligations.ConverterProtectionsAct := by
  intro t n k ch b c positive s u p idle marked gd
  have step {v w : State} (h : v = w) : (.next v : Res) = .next w := congrArg _ h
  exact ⟨fun hl ha hc => step (State.cbcCut_first hl ha hc positive),
    fun hl ha hr hc => ⟨_, step (State.persistentLimit_reached hl ha hr hc), rfl, u.phase_faultPhase n.val⟩,
    fun ha => ⟨step (State.cbcCut_idle ha positive), step (State.persistentLimit_idle ha)⟩,
    fun hl hc => step (State.stringOver_live hl hc), fun hl hc => step (State.busOver_live hl hc),
    fun hl hu hc hm => step (State.busUnder_armed hl hu hc hm), fun hu => step (State.busUnder_unarmed hu),
    fun hl => ⟨step (State.gateDriver_stopped hl), step (State.stringOver_stopped hl), step (State.busOver_stopped hl)⟩,
    fun hl => step (State.gateDriver_live hl), fun hc hn hl => step (State.streamFaulted_stopped hc hn hl),
    fun hc hn hl h => step (State.streamFaulted_phase hc hn hl h), fun hc hl h hn => step (State.streamFaulted_bus hc hn hl h),
    fun h => step (State.streamFaulted_known h)⟩

end Sys2Proof.Machine
end

section
/-! SUPPORT. Contactor feedbacks, the time limits of a connection, its precharge checks, the wait for the break current, welds
(R368 to R373). -/

namespace Sys2Proof.Machine

section
variable {s : State} {k : Nat} {c : Contactor}

/-! Feedbacks: R368, R371, R373 -/

/-- The drive of a contactor. -/
def StringSt.drive (x : StringSt) : Contactor → Bool
  | .neg => x.negDrive
  | .pos => x.posDrive
  | .pre => x.preDrive

/-- A string whose feedback of `c` reads `closed`. -/
def StringSt.withFb (x : StringSt) (c : Contactor) (closed : Bool) : StringSt :=
  match c with
  | .neg => { x with negFb := closed }
  | .pos => { x with posFb := closed }
  | .pre => { x with preFb := closed }

/-- The feedback of `c` of string `k` reads `closed`. -/
def State.readFb (s : State) (k : Nat) (c : Contactor) (closed : Bool) : State := s.setStr k ((s.str k).withFb c closed)

theorem State.str_setStr_same (s : State) (k : Nat) (v : StringSt) : (s.setStr k v).str k = v :=
  (State.str_setStr ..).trans (if_pos Iff.rfl)

theorem State.str_readFb (s : State) (k : Nat) (c : Contactor) (closed : Bool) :
    (s.readFb k c closed).str k = (s.str k).withFb c closed := State.str_setStr_same ..

/-- A drive that closes or is refused leaves the connection where it is. -/
theorem State.conn_driveClosed (s : State) (k : Nat) (c : Contactor) : ((s.driveClosed k c).str k).conn = (s.str k).conn := by
  unfold State.driveClosed
  split
  · rfl
  · split
    · rw [State.str_setStr_same]
      cases c <;> rfl
    · rfl

theorem State.connectStep_neg (h : (s.str k).step = 2) :
    s.connectStep k .neg = (s.setStr k { s.str k with step := 3, stepSince := s.now }).driveClosed k .pre := by
  unfold State.connectStep
  simp only [h]

theorem State.connectStep_pre (h : (s.str k).step = 3) :
    s.connectStep k .pre = s.setStr k { s.str k with step := 4, preSince := s.now } := by
  unfold State.connectStep
  simp only [h]

theorem State.connectStep_pos (h : (s.str k).step = 5) : s.connectStep k .pos = (s.connectDone k).goConnect := by
  unfold State.connectStep
  simp only [h]

theorem State.feedbackChange_driven (hd : (s.str k).drive c = true) (hc : (s.str k).conn = .precharging) :
    s.feedbackChange k c true =
      (let w := (s.readFb k c true).connectStep k c
       if (w.str k).conn = .connected then w.joinString k else w) := by
  have driven : s.feedbackChange k c true =
      (let w := (s.readFb k c true).connectStep k c
       if (s.str k).conn = .precharging ∧ (w.str k).conn = .connected then w.joinString k else w) := if_pos hd
  rw [driven]
  simp only [hc, true_and]

/-- A step that leaves the string unconnected joins nothing. -/
theorem State.feedbackChange_step {w : State} (hd : (s.str k).drive c = true) (hc : (s.str k).conn = .precharging)
    (hw : (s.readFb k c true).connectStep k c = w) (h : (w.str k).conn ≠ .connected) : s.feedbackChange k c true = w := by
  rw [State.feedbackChange_driven hd hc, hw]
  exact if_neg h

theorem State.feedbackChange_neg (hd : (s.str k).negDrive = true) (hc : (s.str k).conn = .precharging) (h2 : (s.str k).step = 2) :
    s.feedbackChange k .neg true =
      ((s.readFb k .neg true).setStr k { s.str k with negFb := true, step := 3, stepSince := s.now }).driveClosed k .pre := by
  refine State.feedbackChange_step hd hc ?moved ?unconnected
  case moved =>
    rw [State.connectStep_neg (by rw [State.str_readFb]; exact h2), State.str_readFb, State.readFb, State.setStr_now]
    rfl
  case unconnected =>
    rw [State.conn_driveClosed, State.str_setStr_same]
    simp [hc]

theorem State.feedbackChange_pre (hd : (s.str k).preDrive = true) (hc : (s.str k).conn = .precharging) (h3 : (s.str k).step = 3) :
    s.feedbackChange k .pre true = (s.readFb k .pre true).setStr k { s.str k with preFb := true, step := 4, preSince := s.now } := by
  refine State.feedbackChange_step hd hc ?moved ?unconnected
  case moved =>
    rw [State.connectStep_pre (by rw [State.str_readFb]; exact h3), State.str_readFb, State.readFb, State.setStr_now]
    rfl
  case unconnected =>
    rw [State.str_setStr_same]
    simp [hc]

theorem State.feedbackChange_pos (hd : (s.str k).posDrive = true) (hc : (s.str k).conn = .precharging) (h5 : (s.str k).step = 5) :
    s.feedbackChange k .pos true =
      (let w := ((s.readFb k .pos true).connectDone k).goConnect
       if (w.str k).conn = .connected then w.joinString k else w) := by
  have driven : (s.str k).drive .pos = true := hd
  rw [State.feedbackChange_driven driven hc, State.connectStep_pos (by rw [State.str_readFb]; exact h5)]

section
variable (hd : (s.str k).drive c = false)
include hd

theorem State.feedbackChange_undriven_opening (hc : (s.str k).conn = .opening) : s.feedbackChange k c true = s.readFb k c true :=
  (if_neg (Bool.eq_false_iff.mp hd)).trans (if_pos hc)

theorem State.feedbackChange_undriven (hc : (s.str k).conn ≠ .opening) : s.feedbackChange k c true = (s.readFb k c true).weld k :=
  (if_neg (Bool.eq_false_iff.mp hd)).trans (if_neg hc)

end

theorem State.feedbackChange_opened_opening (hc : (s.str k).conn = .opening) :
    s.feedbackChange k c false = ((s.readFb k c false).advanceOpening k).wayDown := if_pos hc

theorem State.feedbackChange_opened (hc : (s.str k).conn ≠ .opening) : s.feedbackChange k c false = s.readFb k c false := if_neg hc

/-! Time limits of a connection: R368 to R370 -/

theorem State.closeTimeout_due (h : (s.str k).step = 2 ∨ (s.str k).step = 3 ∨ (s.str k).step = 5)
    (ht : (s.str k).stepSince + s.nat (Obj.closeTimeout (k + 1)) * ms ≤ s.now) : s.closeTimeout k = s.connectFault k 1 := if_pos ⟨h, ht⟩

theorem State.closeTimeout_settled (h2 : (s.str k).step ≠ 2) (h3 : (s.str k).step ≠ 3) (h5 : (s.str k).step ≠ 5) : s.closeTimeout k = s :=
  if_neg fun h => h.1.elim h2 fun h => h.elim h3 h5

theorem State.precheck1_due (h : (s.str k).step = 4) (hd : (s.str k).check1Done = false)
    (ht : (s.str k).preSince + s.nat (Obj.prechargeCheckTime1 (k + 1)) * ms ≤ s.now) :
    s.precheck1 k =
      (let w := s.setStr k { s.str k with check1Done := true }
       if s.vConvAtLeast k (s.nat (Obj.prechargeLevel1 (k + 1))) (s.vStackNow k) = true then w.tickMatch k else w.connectFault k 2) :=
  if_pos ⟨h, by simp [hd], ht⟩

theorem State.precheck2_due (h : (s.str k).step = 4) (hd : (s.str k).check2Done = false)
    (ht : (s.str k).preSince + s.nat (Obj.prechargeCheckTime2 (k + 1)) * ms ≤ s.now) :
    s.precheck2 k =
      (let w := s.setStr k { s.str k with check2Done := true }
       if s.vConvAtLeast k (s.nat (Obj.prechargeLevel2 (k + 1))) (s.vStackNow k) = true then w.tickMatch k else w.connectFault k 4) :=
  if_pos ⟨h, by simp [hd], ht⟩

theorem State.prechargeOver_due (h : (s.str k).step = 4)
    (ht : (s.str k).preSince + s.nat (Obj.prechargeTimeout (k + 1)) * ms ≤ s.now) :
    s.prechargeOver k = if ((s.tickMatch k).str k).step = 4 then (s.tickMatch k).connectFault k 5 else s.tickMatch k := if_pos ⟨h, ht⟩

section
variable (h : (s.str k).step ≠ 4)
include h

theorem State.precheck1_elsewhere : s.precheck1 k = s := if_neg fun hc => h hc.1

theorem State.precheck2_elsewhere : s.precheck2 k = s := if_neg fun hc => h hc.1

theorem State.prechargeOver_elsewhere : s.prechargeOver k = s := if_neg fun hc => h hc.1

end

/-! Openings and welds: R371, R373 -/

theorem State.breakWait_due (h : (s.str k).openStep = 1) (ht : (s.str k).openSince + 20 * ms ≤ s.now) :
    s.breakWait k =
      ((((if s.nat (Obj.contactorBreakCurrent (k + 1)) < (s.num (Obj.value (48 + k))).natAbs then
            s.count (Obj.operationsUnderLoad (k + 1))
          else s).setStr k
        { s.str k with openStep := 2, openSince := s.now, posDrive := false, preDrive := false }).advanceOpening k).wayDown) := by
  have due : (s.str k).openStep = 1 ∧ (s.str k).openSince + 20 * ms ≤ s.now := ⟨h, ht⟩
  unfold State.breakWait
  simp only [if_pos due, decide_eq_true_eq]

theorem State.breakWait_elsewhere (h : (s.str k).openStep ≠ 1) : s.breakWait k = s := if_neg fun hc => h hc.1

/-- A feedback of string `k` still reads closed OpenTimeout after its drive opened. -/
def State.stuckClosed (s : State) (k : Nat) : Prop :=
  let x := s.str k
  let late := fun since : Nat => since + s.nat (Obj.openTimeout (k + 1)) * ms ≤ s.now
  (x.openStep = 2 ∧ (x.posFb = true ∨ x.preFb = true) ∧ late x.openSince) ∨
    (x.openStep = 3 ∧ x.negFb = true ∧ late x.openSince) ∨
    (x.conn = .connected ∧ x.preDrive = false ∧ x.preFb = true ∧ late x.stepSince)

theorem State.openTimeout_stuck (h : s.stuckClosed k) : s.openTimeout k = s.weld k :=
  if_pos (by simpa [State.stuckClosed, and_assoc, or_assoc] using h)

/-- Where every feedback reads open no contactor is welded. -/
theorem State.openTimeout_open (hn : (s.str k).negFb = false) (hp : (s.str k).posFb = false) (hr : (s.str k).preFb = false) :
    s.openTimeout k = s := if_neg (by simp [hn, hp, hr])

end

/-- Settles O24: a feedback by its direction, its drive and the connection's state, each time limit by its step. -/
theorem contactorsConnectAndOpenStrings : Obligations.ContactorsConnectAndOpenStrings := by
  intro t k c s u i x drive read late
  have step {v w : State} (h : v = w) : (.next v : Res) = .next w := congrArg _ h
  have drives : drive = (u.str i).drive c := by cases c <;> rfl
  have reads (closed : Bool) : read closed = u.readFb i c closed := by cases c <;> rfl
  rw [drives]
  refine ⟨fun hd hc hn h => ?negCloses, fun hd hc hp h => ?posCloses, fun hd hc hp h => ?preCloses,
    fun hd hc => step ((State.feedbackChange_undriven_opening hd hc).trans (reads true).symm), fun hd hc => ?weld,
    fun hc => ?opening, fun hc => step ((State.feedbackChange_opened hc).trans (reads false).symm),
    fun h ht => step (State.closeTimeout_due h ht), fun h2 h3 h5 => step (State.closeTimeout_settled h2 h3 h5),
    fun h hd ht => step (State.precheck1_due h hd ht), fun h hd ht => step (State.precheck2_due h hd ht),
    fun h ht => step (State.prechargeOver_due h ht),
    fun h => ⟨step (State.precheck1_elsewhere h), step (State.precheck2_elsewhere h), step (State.prechargeOver_elsewhere h)⟩,
    fun h ht => step (State.breakWait_due h ht), fun h => step (State.breakWait_elsewhere h),
    fun h => step (State.openTimeout_stuck h), fun hn hp hr => step (State.openTimeout_open hn hp hr)⟩
  case negCloses => subst hn; exact step (State.feedbackChange_neg hd hc h)
  case posCloses => subst hp; exact step (State.feedbackChange_pos hd hc h)
  case preCloses => subst hp; exact step (State.feedbackChange_pre hd hc h)
  case weld => rw [reads]; exact step (State.feedbackChange_undriven hd hc)
  case opening => rw [reads]; exact step (State.feedbackChange_opened_opening hc)

end Sys2Proof.Machine
end

section
/-! SUPPORT. The queue and the words of the command table (log entries 1 and 2). -/

namespace Sys2Proof.Machine

/-- Settles O56: the front command runs on the queue's rest, and what it leaves waiting is the next to run. -/
theorem aStepRunsTheFrontCommand : Obligations.AStepRunsTheFrontCommand := by
  intro c d q s t
  have front (a : Instr) (r : List Instr) (v : State) : step { v with pending := a :: r } = exec a { v with pending := r } :=
    step_of_pending_cons rfl
  exact ⟨front c q s, step_of_pending_nil rfl, fun h => ⟨(front c (d :: q) s).trans h, front d q t⟩⟩

/-- No row of the table has bits. -/
theorem decodeTableWord_none (nbits w : Nat) : decodeTableWord nbits w = none := rfl

/-- Settles O60: with no word that spells a command, placing a word changes nothing. -/
theorem noWordSpellsACommand : Obligations.NoWordSpellsACommand := by
  intro nbits w s
  refine ⟨decodeTableWord_none nbits w, ?_⟩
  unfold State.withFetchWord
  rw [decodeTableWord_none]

end Sys2Proof.Machine
end

section
/-! SUPPORT. Commands on the stack rings: what a ring reads after a write, the frame that leaves, the cycle of a measurement, and the
judgement of what comes back (R380, R384 to R390, R397). -/

namespace Sys2Proof.Machine

/-! A ring after a write -/

section
variable (s : State) (k : Nat)

@[simp] theorem State.ring_setRing_same (r : RingSt) : (s.setRing k r).ring k = r :=
  (State.ring_setRing s k k r).trans (if_pos Iff.rfl)

/-- A write to one string's ring leaves the other string's. -/
theorem State.ring_setRing_other (k : Fin 2) (r : RingSt) : (s.setRing k.val r).ring (1 - k.val) = s.ring (1 - k.val) :=
  (State.ring_setRing ..).trans (if_neg (by omega))

@[simp] theorem State.setRing_setRing (r r' : RingSt) : (s.setRing k r).setRing k r' = s.setRing k r' := by
  unfold State.setRing
  split <;> rfl

@[simp] theorem State.nat_setRing (r : RingSt) (j : Nat) : (s.setRing k r).nat j = s.nat j := by
  unfold State.nat State.num
  rw [State.setRing_objs]

@[simp] theorem State.ring_setNum (j : Nat) (v : Int) : (s.setNum j v).ring k = s.ring k := rfl
@[simp] theorem State.ring_setNat (j v : Nat) : (s.setNat j v).ring k = s.ring k := rfl
@[simp] theorem State.ring_count (j n : Nat) : (s.count j n).ring k = s.ring k := rfl
@[simp] theorem State.ring_emit (o : Output) : (s.emit o).ring k = s.ring k := rfl
@[simp] theorem State.ring_withdraw (a n j : Nat) : (s.withdraw j a n).ring k = s.ring k := rfl

/-- A counter and a ring are written in either order. -/
theorem State.count_setRing (r : RingSt) (j n : Nat) : (s.setRing k r).count j n = (s.count j n).setRing k r := by
  unfold State.setRing
  split <;> rfl

@[simp] theorem State.slicesOf_setRing (j : Nat) (r : RingSt) : (s.setRing k r).slicesOf j = s.slicesOf j := State.nat_setRing ..
@[simp] theorem State.slicesOf_count_retransmissions (j n : Nat) : (s.count (Obj.retransmissions2B10 (k + 1)) n).slicesOf j = s.slicesOf j := by
  unfold State.slicesOf Obj.retransmissions2B10 Obj.slicesPerString1 Obj.slicesPerString2
  rw [State.nat_count, if_neg]
  split <;> omega

end

/-! Sending: R384, R386 -/

/-- The next value of a ring's counter is never 0. -/
theorem RingSt.nextCounter_mem (r : RingSt) : 1 ≤ r.nextCounter ∧ r.nextCounter ≤ 255 := by
  unfold RingSt.nextCounter
  split <;> omega

theorem RingSt.nextCounter_below {r : RingSt} (h : r.counter < 255) : r.nextCounter = r.counter + 1 := if_neg (by omega)

theorem RingSt.nextCounter_wraps {r : RingSt} (h : 255 ≤ r.counter) : r.nextCounter = 1 := if_pos h

section
variable {s : State} {k : Nat} {c : RCmd} {q : List RCmd}

/-- A frame occupies the ring for its time on the wire, its way round and the gap (R386). -/
theorem State.ringSend_setRing (r : RingSt) :
    (s.setRing k r).ringSend k c =
      (s.setRing k { r with busyUntil := s.now + ringFrameTime c.payload.length + (s.slicesOf k + 1) * us + 4 * us }).emit
        (.ringFrame k c.fromB c.bytes) := by
  unfold State.ringSend
  simp

theorem State.ringIssue_sends (ho : (s.ring k).out = none) (hq : (s.ring k).queue = c :: q) (hw : s.ringWorked k = true ∨ c.op = rgEnumerate)
    (hb : (s.ring k).busyUntil ≤ s.now) (hf : s.ringFits k c = true) (hr : s.ringReady k c = true) :
    let n := if c.op = rgEnumerate then 0 else (s.ring k).nextCounter
    let c1 := { c with counter := n, tries := 1, sentAt := s.now }
    s.ringIssue k = (s.setRing k { s.ring k with
      queue := q, out := some c1, counter := if c.op = rgEnumerate then (s.ring k).counter else n }).ringSend k c1 := by
  have go : ((s.ringWorked k || c.op = rgEnumerate) && decide ((s.ring k).busyUntil ≤ s.now) && s.ringFits k c && s.ringReady k c) = true := by
    simpa [hb, hf, hr] using hw
  unfold State.ringIssue
  simp only [ho, hq]
  exact if_pos go

/-- With a command out, with none waiting or with the ring busy nothing is sent. -/
theorem State.ringIssue_waits (h : (s.ring k).out ≠ none ∨ (s.ring k).queue = [] ∨ s.now < (s.ring k).busyUntil) : s.ringIssue k = s := by
  unfold State.ringIssue
  dsimp only
  split
  next c q ho hq =>
    have hb : ¬(s.ring k).busyUntil ≤ s.now := by
      obtain h | h | h := h
      · exact absurd ho h
      · exact absurd (hq.symm.trans h) (List.cons_ne_nil c q)
      · exact Nat.not_le_of_lt h
    exact if_neg (by simp [hb])
  next => rfl

/-- A retransmission is the same frame again, one try more. -/
theorem State.ringRetry_eq :
    s.ringRetry k c = ((s.setRing k { s.ring k with
        out := some { c with tries := c.tries + 1, sentAt := s.now }
        busyUntil := s.now + ringFrameTime c.payload.length + (s.slicesOf k + 1) * us + 4 * us }).count
      (Obj.retransmissions2B10 (k + 1))).emit (.ringFrame k c.fromB c.bytes) := by
  unfold State.ringRetry
  dsimp only
  rw [State.count_setRing, State.ringSend_setRing, State.count_setRing]
  simp only [State.count_now, State.slicesOf_count_retransmissions]
  rfl

theorem State.ringTimeout_due (ho : (s.ring k).out = some c) (ht : c.sentAt + s.ringPatience k c ≤ s.now) :
    s.ringTimeout k =
      if c.tries < 3 then (if s.ringFits k c then s.ringRetry k c else s)
      else if c.op = rgEnumerate then (s.ringDone k).enumReturn k c.fromB c.fromB 0
      else if c.isBroadcast then s.broadcastDone k c 0
      else
        let s1 := (s.ringDone k).ringResult k c c.addr
          (if c.sawMismatch then rrCounterMismatch else if c.sawCrc then rrCrcError else rrNoResponse) 0
        if c.op = rgReadCells then s1.readFailed k c.addr else s1 := by
  unfold State.ringTimeout
  simp only [ho]
  exact if_neg (by omega)

end

/-! What a measurement cycle writes to its ring: R388, R390 -/

/-- The counter, the measurements and the start of the cycle: what the traffic of a ring leaves alone. -/
def RingSt.cycle (r : RingSt) : Nat × Nat × Meas × Meas × Option Nat := (r.counter, r.measId, r.prevMeas, r.meas, r.cycleAt)

section
variable (s : State) (k : Nat)

theorem State.cycle_ringPush (c : RCmd) : ((s.ringPush k c).ring k).cycle = (s.ring k).cycle := by
  unfold State.ringPush
  rw [State.ring_setRing_same]
  rfl

theorem State.cycle_ringTo (a op : Nat) (p : List Nat) : ((s.ringTo k a op p).ring k).cycle = (s.ring k).cycle := State.cycle_ringPush ..

theorem State.cycle_ringSend (c : RCmd) : ((s.ringSend k c).ring k).cycle = (s.ring k).cycle := by
  unfold State.ringSend
  rw [State.ring_emit, State.ring_setRing_same]
  rfl

theorem State.cycle_dropRead (a : Nat) : ((s.dropRead k a).ring k).cycle = (s.ring k).cycle := by
  unfold State.dropRead
  split
  · rw [State.ring_withdraw, State.ring_setRing_same]
    rfl
  · rfl

theorem State.cycle_readFailed (a : Nat) : ((s.readFailed k a).ring k).cycle = (s.ring k).cycle := s.cycle_dropRead k a

theorem State.now_readFailed (a : Nat) : (s.readFailed k a).now = s.now := by
  unfold State.readFailed State.dropRead
  split
  · exact State.setRing_now ..
  · rfl

theorem State.now_dropReadouts : (s.dropReadouts k).now = s.now :=
  (State.forEach_frame State.now _ (fun v a => v.now_readFailed k a) _ _).trans (State.setRing_now ..)

theorem State.cycle_dropReadouts : ((s.dropReadouts k).ring k).cycle = (s.ring k).cycle := by
  unfold State.dropReadouts
  refine (State.forEach_frame (fun v => (v.ring k).cycle) _ (fun v a => v.cycle_readFailed k a) _ _).trans ?_
  rw [State.ring_setRing_same]
  rfl

/-- A cycle's measurement on ring `k`: the next id and counter, from the delay for the length (R388, R390). -/
theorem State.cycle_sendMeasure (delay length : Nat) :
    let r := s.ring k
    let id := (r.measId + 1) % 256
    let start := s.now + 72 * us + delay * 50
    ((s.sendMeasure k delay length).ring k).cycle = (r.nextCounter, id, r.meas,
      { id := id, start := start, stop := start + length * 50, openWire := decide ((s.dropReadouts k).nat Obj.openWireEnable = 1) }, some s.now) := by
  unfold State.sendMeasure
  refine (State.forEach_frame (fun v => (v.ring k).cycle) _ (fun v a => v.cycle_ringTo k a _ _) _ _).trans ?_
  refine (State.forEach_frame (fun v => (v.ring k).cycle) _ (fun v b => v.cycle_ringSend k _) _ _).trans ?_
  rw [State.ring_setRing_same]
  have h := s.cycle_dropReadouts k
  simp only [RingSt.cycle, Prod.mk.injEq] at h ⊢
  obtain ⟨hc, hi, -, hm, -⟩ := h
  simp only [RingSt.nextCounter, hc, hi, hm, State.now_dropReadouts, and_self]

end

/-- Settles O44: the counter of each command that ring `k` sends, by what lets it leave. -/
theorem ringCommandsTakeOneCounterEach : Obligations.RingCommandsTakeOneCounterEach := by
  refine ⟨fun r => ⟨RingSt.nextCounter_below, RingSt.nextCounter_wraps, r.nextCounter_mem⟩, fun t k c q s => ?_⟩
  intro u r go busy sent
  have issue (h : u.ringsRun = true) : exec (.ringCommandIssue t k) s = .next (u.ringIssue k.val) := congrArg _ (if_pos h)
  refine ⟨fun hr ho hq ⟨hw, hb, hf, hd⟩ hn => ?_, fun hr ho hq ⟨hw, hb, hf, hd⟩ hn => ?_, fun h => ?_, fun ho ht h3 hf => ?_,
    fun w delay length => ?_, u.ring_setRing_other k⟩
  · rw [issue hr, State.ringIssue_sends ho hq hw hb hf hd, State.ringSend_setRing]
    simp only [if_neg hn]
    rfl
  · rw [issue hr, State.ringIssue_sends ho hq hw hb hf hd, State.ringSend_setRing]
    simp only [if_pos hn]
    rfl
  · obtain h | h := h
    · exact congrArg _ (if_neg (by simp [u, h]))
    · exact congrArg _ ((congrArg (fun v => if u.ringsRun then v else u) (State.ringIssue_waits h)).trans (ite_self u))
  · show (.next (u.ringTimeout k.val) : Res) = _
    rw [State.ringTimeout_due ho ht, if_pos h3, if_pos hf, State.ringRetry_eq]
    unfold sent State.setRing
    split <;> rfl
  · exact congrArg Prod.fst (w.cycle_sendMeasure k.val delay length)

/-! The cycle and what comes back: R380, R386 to R388, R397 -/

section
variable {s : State} {k : Nat} {b : List Nat} {c : RCmd} {delay length : Nat}

theorem State.measureCycle_due (hr : s.ringsRun = true) (hd : s.operated.filter s.measureDue ≠ []) (h1 : 2000 ≤ delay) (h2 : delay ≤ 20000)
    (h3 : 200 ≤ length) (h4 : length ≤ 65535) :
    s.measureCycle delay length =
      (s.forEach (s.operated.filter s.measureDue) (fun s k => s.sendMeasure k delay length)).count Obj.measurementCycles :=
  if_pos ⟨hr, by simpa using hd, h1, h2, h3, h4⟩

theorem State.measureCycle_none (h : s.ringsRun = false ∨ s.operated.filter s.measureDue = [] ∨ delay < 2000 ∨ 65535 < length) :
    s.measureCycle delay length = s := by
  refine if_neg fun ⟨hr, hd, h1, _, _, h4⟩ => ?_
  obtain h | h | h | h := h
  · exact absurd (hr.symm.trans h) (by decide)
  · simp [h] at hd
  · omega
  · omega

/-- A bad frame is counted, and noted with the command that is out. -/
theorem State.ringResponse_corrupt (hf : ringFrameOk b = false) (ho : (s.ring k).out = some c) :
    s.ringResponse k b = (s.count (Obj.crcErrors (k + 1))).setRing k { s.ring k with out := some { c with sawCrc := true } } := by
  simp [State.ringResponse, hf, ho]

theorem State.ringResponse_corrupt_idle (hf : ringFrameOk b = false) (ho : (s.ring k).out = none) :
    s.ringResponse k b = s.count (Obj.crcErrors (k + 1)) := by
  simp [State.ringResponse, hf, ho]

theorem State.frameReturn_corrupt (hf : ringFrameOk b = false) (ho : (s.ring k).out = some c) (atB : Bool) :
    s.frameReturn k atB b = (s.count (Obj.crcErrors (k + 1))).setRing k { s.ring k with out := some { c with sawCrc := true } } := by
  simp [State.frameReturn, hf, ho]

/-- The received frame answers the command: its address, counter and opcode. -/
def RCmd.answeredBy (c : RCmd) (b : List Nat) : Prop :=
  c.isBroadcast = false ∧ listGet 0 b 1 = c.addr ∧ listGet 0 b 2 = c.counter ∧ listGet 0 b 3 = c.op

theorem RCmd.answeredBy_iff :
    c.answeredBy b ↔ ¬(c.isBroadcast = true ∨ listGet 0 b 1 ≠ c.addr ∨ listGet 0 b 2 ≠ c.counter ∨ listGet 0 b 3 ≠ c.op) := by
  simp [RCmd.answeredBy]

section
variable (hf : ringFrameOk b = true) (hr : ringReserved b = false) (ho : (s.ring k).out = some c)
include hf hr ho

theorem State.ringResponse_mismatch (h2 : listGet 0 b 0 / 64 = 2) (hn : ¬c.answeredBy b) :
    s.ringResponse k b =
      (s.count (Obj.counterMismatches (k + 1))).setRing k { s.ring k with out := some { c with sawMismatch := true } } := by
  unfold State.ringResponse
  simp only [hf, hr, ho, h2]
  exact if_pos (Decidable.not_not.mp (mt RCmd.answeredBy_iff.mpr hn))

/-- An answer is judged by its Status: its results are kept with 0, else the slice has refused. -/
theorem State.ringResponse_hit (h2 : listGet 0 b 0 / 64 = 2) (hh : c.answeredBy b) :
    s.ringResponse k b =
      let p := slice b 5 (listGet 0 b 4)
      if listGet 0 p 0 ≠ 0 then
        let s2 := (s.ringDone k).ringResult k c c.addr rrSliceRefused (listGet 0 p 0)
        if c.op = rgReadCells then s2.readFailed k c.addr else s2
      else ((s.ringDone k).ringAccept k c p).ringResult k c c.addr (ringCode c p) 0 := by
  unfold State.ringResponse
  simp only [hf, hr, ho, h2]
  exact if_neg (RCmd.answeredBy_iff.mp hh)

/-- The module's own frame comes back: an enumeration with its hops, a broadcast at its port with its acknowledgements. -/
theorem State.frameReturn_mine (atB : Bool)
    (hm : c.isBroadcast = true ∧ listGet 0 b 0 = 64 + (if c.fromB then 32 else 0) ∧ listGet 0 b 1 = c.addr ∧ listGet 0 b 2 = c.counter ∧
      listGet 0 b 3 = c.op) :
    s.frameReturn k atB b =
      let p := slice b 5 (listGet 0 b 4)
      if c.op = rgEnumerate then (s.ringDone k).enumReturn k c.fromB atB (listGet 0 p 0 - 1)
      else if atB != (c.fromB || s.ringMode k = rmClosed) then s
      else
        let acks := beNat (slice p (p.length - 3) 3)
        if (s.reachedBy k c.fromB).all (fun a => bitOf acks (a - 1)) ∨ 3 ≤ c.tries then s.broadcastDone k c acks
        else s.ringRetry k c := by
  obtain ⟨hb, h0, h1, h2, h3⟩ := hm
  unfold State.frameReturn
  simp only [hf, hr, ho, hb, h0, h1, h2, h3, decide_true, Bool.and_self]
  rfl

end

end

/-- Settles O45: a cycle by its condition, a response by its shape and its match, a return by its opcode and acknowledgements. -/
theorem measurementsAndResponsesOnTheRings : Obligations.MeasurementsAndResponsesOnTheRings := by
  intro t delay length k atB b c s u r due p h crc wrong hit acks mine late quiet
  have step {v w : State} (h : v = w) : (.next v : Res) = .next w := congrArg _ h
  refine ⟨fun hr hd h1 h2 h3 h4 => step (State.measureCycle_due hr hd h1 h2 h3 h4), fun h => step (State.measureCycle_none h),
    fun w => ?measured, fun hf ho => step (State.ringResponse_corrupt_idle hf ho),
    fun hf ho => ⟨step (State.ringResponse_corrupt hf ho), step (State.frameReturn_corrupt hf ho atB)⟩,
    fun hf hr h2 ho hn => step (State.ringResponse_mismatch hf hr ho h2 hn),
    fun hf hr h2 ho hh h0 => step ((State.ringResponse_hit hf hr ho h2 hh).trans (if_neg (not_not_intro h0))),
    fun hf hr h2 ho hh h0 hc => step ((State.ringResponse_hit hf hr ho h2 hh).trans ((if_pos h0).trans (if_neg hc))),
    fun ⟨ho, ht, h3⟩ he hc hb => step ((State.ringTimeout_due ho ht).trans ?alone),
    fun ⟨ho, ht, h3⟩ he hb => step ((State.ringTimeout_due ho ht).trans ?broadcast),
    fun hf hr ho hm he ha => ⟨fun hd => step ((State.frameReturn_mine hf hr ho atB hm).trans ?acked),
      fun hd h3 => step ((State.frameReturn_mine hf hr ho atB hm).trans ?again)⟩,
    fun hf hr ho hm he => step ((State.frameReturn_mine hf hr ho atB hm).trans (if_pos he)),
    fun hq => step (if_pos ?quiet), fun hq => step (if_neg ?loud)⟩
  case measured =>
    have hc := w.cycle_sendMeasure k.val delay length
    simp only [RingSt.cycle, Prod.mk.injEq] at hc
    obtain ⟨-, hi, hp, hm, ht⟩ := hc
    refine ⟨hi, ht, hp, ?_⟩
    rw [hi, hm]
    exact ⟨rfl, rfl, rfl⟩
  case alone => rw [if_neg (by omega), if_neg he, if_neg (by simp [hb]), if_neg hc]
  case broadcast => rw [if_neg (by omega), if_neg he, if_pos hb]
  case acked => exact (if_neg he).trans ((if_neg (by simp [ha])).trans (if_pos hd))
  case again => exact (if_neg he).trans ((if_neg (by simp [ha])).trans (if_neg (not_or_intro (Bool.eq_false_iff.mp hd) (Nat.not_le_of_lt h3))))
  case quiet =>
    obtain ⟨hr, hp, hs, hb⟩ := hq
    exact ⟨hr, hp, by simpa using hs, hb⟩
  case loud => exact fun ⟨hr, hp, hs, hb⟩ => hq ⟨hr, hp, by simpa using hs, hb⟩

end Sys2Proof.Machine
end

section
/-! SUPPORT. A ring that finds too many slices while the module enters Safe (R401, R484, R488). -/

namespace Sys2Proof.Machine

/-- Ready in a recovery window with two configuration faults unacknowledged, ring 1 Closed: one more such fault reacts at module level. -/
def closedBeforeSafe : State :=
  { readyModule with flt := { unack := [(clConfig, 2)], recoveryUntil := 1 }, objs := [(Obj.ringMode 1, rmClosed)] }

/-- The configuration fault escalates, and entering Safe stops the balancing of ring 1, which still reads Closed: the broadcast Balance
waits in the queue that the mismatch has cleared. -/
theorem State.ringMismatch_queues_balance :
    ((closedBeforeSafe.ringMismatch 0 false).ring 0).queue.map (·.op) = [rgBalance] := by
  rfl

/-- Refutes O46: the clause on an enumeration with more slices than configured claims that nothing waits on the ring afterwards. Where the
fault it raises brings the module to Safe, a broadcast Balance waits there. -/
theorem not_ringsBreakCloseReconnectAndBalance : ¬ Obligations.RingsBreakCloseReconnectAndBalance := by
  intro holds
  obtain ⟨-, -, -, -, -, -, -, -, mismatch, -⟩ := holds 0 0 State.reset
  have hop : closedBeforeSafe.operated.contains 0 = true := by decide
  obtain ⟨hv, -, hq, -⟩ := mismatch closedBeforeSafe (closedBeforeSafe.slicesOf 0 + 1) false false hop (Nat.lt_succ_self _)
  rw [hv] at hq
  exact List.cons_ne_nil _ _ (State.ringMismatch_queues_balance.symm.trans (congrArg (List.map RCmd.op) hq))

end Sys2Proof.Machine
end

section
/-! SUPPORT. The estimator's instants: one released value, the reported value, the comparison and the records (R406, R407, R415, R419,
R420, R423, R428, R429). -/

namespace Sys2Proof.Machine

/-! One released value: R406, R415, R423 -/

section
variable (s : State) (k cell key : Nat) (rd : CellRead)

/-- The value that waits under `key` is taken. -/
def State.estTaken : State :=
  { s with stack := { s.stack with pendingEst := s.stack.pendingEst.eraseP (fun e => e.1 = key) } }

/-- The cell's count, and with a table its fit and its pull toward the table, after the value is taken. -/
def State.estFitted : State :=
  let w := s.estTaken key
  let e0 := w.countTo k cell (w.estCell key) rd
  match w.ocv with
  | none => w.setEstCell key e0
  | some o =>
    let r := w.pullSoc k o (w.fitCell o e0 (w.estInputs k cell rd) rd) (w.estInputs k cell rd)
    (w.setEstCell key r.1).calSample k cell r.1.converged r.2

/-- The voltage of the cell in the result, 0.1 mV. -/
def CellRead.volts : Nat := listGet 0 rd.cells (cell % 16)

/-- The extremes kept as well. -/
def State.estSeen : State := (s.estFitted k cell key rd).cellExtremes k cell (rd.volts cell)

/-- The voltage is outside the trip limits. -/
def State.voltTrips (v : Nat) : Prop := v < 10 * s.nat Obj.cellVoltageTripMin ∨ 10 * s.nat Obj.cellVoltageTripMax < v

variable {s k cell key rd}

section
variable (h : s.stack.pendingEst.find? (fun e => e.1 = key) = some (key, rd))
include h

theorem State.estTake_trips (hv : (s.estSeen k cell key rd).voltTrips (rd.volts cell)) :
    s.estTake k cell key = (s.estSeen k cell key rd).cellTrip k cell (rd.volts cell) := by
  unfold State.estTake
  simp only [h]
  exact if_pos hv

theorem State.estTake_unmeasured (hv : ¬(s.estSeen k cell key rd).voltTrips (rd.volts cell))
    (ht : (s.estSeen k cell key rd).cellTempOwn k cell = none) : s.estTake k cell key = s.estSeen k cell key rd := by
  unfold State.estTake
  simp only [h]
  refine (if_neg hv).trans (if_neg ?_)
  show ¬((match (s.estSeen k cell key rd).cellTempOwn k cell with | some t => _ | none => false) = true)
  rw [ht]
  exact Bool.false_ne_true

theorem State.estTake_measured {c : Int} (hv : ¬(s.estSeen k cell key rd).voltTrips (rd.volts cell))
    (ht : (s.estSeen k cell key rd).cellTempOwn k cell = some c) :
    s.estTake k cell key =
      if (s.estSeen k cell key rd).num Obj.cellTempTrip ≤ c then (s.estSeen k cell key rd).cellTrip k cell (toPattern 16 c)
      else s.estSeen k cell key rd := by
  unfold State.estTake
  simp only [h]
  refine (if_neg hv).trans ?_
  show (if (match (s.estSeen k cell key rd).cellTempOwn k cell with | some t => _ | none => false) = true then
    (s.estSeen k cell key rd).cellTrip k cell (toPattern 16 (((s.estSeen k cell key rd).cellTempOwn k cell).getD 0)) else _) = _
  simp only [ht, decide_eq_true_eq]
  rfl

end

theorem State.estTake_none (h : s.stack.pendingEst.find? (fun e => e.1 = key) = none) : s.estTake k cell key = s := by
  unfold State.estTake
  simp only [h]

end

/-! The reported value: R419 -/

@[simp] theorem State.estStr_setEstStr_same (s : State) (k : Nat) (e : EstString) : (s.setEstStr k e).estStr k = e := by
  unfold State.setEstStr State.estStr
  by_cases hk : k = 0 <;> simp [hk]

@[simp] theorem State.estStr_setNat (s : State) (j v k : Nat) : (s.setNat j v).estStr k = s.estStr k := rfl

/-- In ReportMode 0 the reported value goes to the estimate by at most ReportRate. -/
theorem stepTo_mem {x step est : Rat} (h : 0 ≤ step) :
    x - step ≤ (if x + step < est then x + step else if est < x - step then x - step else est) ∧
      (if x + step < est then x + step else if est < x - step then x - step else est) ≤ x + step := by
  split_ifs <;> constructor <;> linarith

theorem State.reportSoc_rateLimited {s : State} (h : s.nat Obj.reportMode = 0) (k : Nat) :
    let e := s.estStr k
    let step : Rat := (s.nat Obj.reportRate : Rat) / 600
    let est := e.soc * 10000
    let r := if e.reported + step < est then e.reported + step else if est < e.reported - step then e.reported - step else est
    s.reportSoc k =
      (s.setEstStr k { e with reported := r, repSum := 0, repN := 0 }).setNat (Obj.socReported (k + 1)) (ratRound r).toNat := by
  unfold State.reportSoc
  simp only [h, if_true]

theorem State.reportSoc_frame (s : State) (k : Nat) :
    s.reportSoc k = { s with stack := (s.reportSoc k).stack, objs := (s.reportSoc k).objs } := by
  unfold State.reportSoc State.setEstStr
  dsimp only
  split <;> rfl

/-- Settles O32: a waiting value by its limits, the reported value by its step, the rest by what each instant waits for. -/
theorem estimatorTakesReleasedValues : Obligations.EstimatorTakesReleasedValues := by
  intro t k cell rd differ s u key w e0 v x fitted y bad
  have step {a b : State} (h : a = b) : (.next a : Res) = .next b := congrArg _ h
  refine ⟨fun h => ⟨fun hv => step (State.estTake_trips h hv), fun hv ht => step (State.estTake_unmeasured h hv ht),
    fun c hv ht => step (State.estTake_measured h hv ht)⟩, fun h => step (State.estTake_none h),
    fun h => ⟨step (if_pos h), step (if_pos h)⟩, fun h => ⟨step (if_neg (Bool.eq_false_iff.mp h)), step (if_neg (Bool.eq_false_iff.mp h))⟩,
    fun h => ?reported, fun h => step (if_pos ⟨h, rfl⟩), fun h => step (if_neg ?_), fun h hp => step (if_pos ⟨h, hp⟩),
    fun h => step (if_neg fun hd => absurd h (Nat.not_lt_of_le hd.2)), fun h => step (if_pos h), fun h => step (if_neg (Bool.eq_false_iff.mp h))⟩
  case reported =>
    intro step r
    have hs : (0 : Rat) ≤ step := by positivity
    have hr := State.reportSoc_rateLimited h k.val
    have frame := u.reportSoc_frame k.val
    obtain ⟨low, high⟩ := stepTo_mem (x := (u.estStr k.val).reported) (est := (u.estStr k.val).soc * 10000) hs
    refine ⟨?_, ?_, ?_, ?_, frame⟩
    · simpa [r, hr] using low
    · simpa [r, hr] using high
    · simp [r, hr]
    · simp only [r, hr, State.estStr_setNat, State.estStr_setEstStr_same, State.nat_setNat_same]
  · rintro ⟨hs, hd⟩
    obtain h | h := h
    · exact absurd (hs.symm.trans h) (by decide)
    · exact absurd (hd.symm.trans h) (by decide)

end Sys2Proof.Machine
end

section
/-! SUPPORT. A write that its object's rule refuses with a code of its own (Table 19.4). -/

namespace Sys2Proof.Machine

section
variable {s u : State} {role : Role} {key c : Nat} {f : Nat × State}

/-- An accepted write of a byte that the object's rule `f` refuses with code `c`. -/
theorem State.cmdWrite_byte_declined {v : Nat} (hk : isByteObj key) (hv : v < 256) (h : s.accepts role key (numBytes key v))
    (he : s.stateRefused (key / 256) (key % 256) v = false →
      s.dictEffect (rolePath role) 1 role (key / 256) (key % 256) v (numBytes key v) = f)
    (hf : f = (c, u)) (h0 : c ≠ 0) (hw : c ≠ abWaits) : s.cmdWrite role key v = u.declined key (c % 2 ^ 32) := by
  obtain ⟨hst, r, hd, hval⟩ := State.accepts_byte hk hv h
  rw [State.cmdWrite_eq]
  exact State.reqWrite_declined h hd (by rw [hval, he hst, hf]) h0 hw

/-- An accepted write of bytes that the object's rule `f` refuses with code `c`. -/
theorem State.reqWrite_rule_declined {b : List Nat} (hk : (descOf (key / 256) (key % 256)).isSome = true) (h : s.accepts role key b)
    (he : ∀ v, s.stateRefused (key / 256) (key % 256) v = false →
      s.dictEffect (rolePath role) 1 role (key / 256) (key % 256) v b = f)
    (hf : f = (c, u)) (h0 : c ≠ 0) (hw : c ≠ abWaits) : s.reqWrite role key b = u.declined key (c % 2 ^ 32) := by
  obtain ⟨r, hd⟩ := Option.isSome_iff_exists.mp hk
  exact State.reqWrite_declined h hd ((he _ (State.stateRefused_of_accepts h hd)).trans hf) h0 hw

end

end Sys2Proof.Machine
end

section
/-! SUPPORT. Calibration, the OCV table and LifetimeClear: the objects, their rules, and the phases of a calibration (R409, R424 to R427,
R429, Table 14.1). -/

namespace Sys2Proof.Machine

/-! The three objects -/

theorem isByteObj_calibrationRequest : isByteObj Obj.calibrationRequest := rfl

/-- LifetimeClear of string `n` is subindex 12 of object 0x2C40 + `n`. -/
theorem lifetimeClear_key (n : Nat) : Obj.lifetimeClear n / 256 = 0x2C40 + n ∧ Obj.lifetimeClear n % 256 = 12 := by
  unfold Obj.lifetimeClear
  omega

/-- The row of LifetimeClear in Table 14.5. -/
def lifetimeClearRow : ObjRow := ⟨0x2C41, 0x2C42, 12, 12, .num 8 false, 1, 0, 2, 1, 0, 0, .enum [0xA5], true, false⟩

theorem descOf_lifetimeClear (k : Fin 2) :
    descOf (Obj.lifetimeClear (k.val + 1) / 256) (Obj.lifetimeClear (k.val + 1) % 256) = some lifetimeClearRow := by
  decide +revert

theorem isByteObj_lifetimeClear (k : Fin 2) : isByteObj (Obj.lifetimeClear (k.val + 1)) := by
  unfold isByteObj
  rw [descOf_lifetimeClear]
  rfl

section
variable {s : State} {path : Path} {port : Nat} {role : Role} {b : List Nat}

theorem State.dictEffect_calibrationRequest {v : Nat} (h : s.stateRefused 0x2C01 1 v = false) :
    s.dictEffect path port role 0x2C01 1 v b = s.calRequest v := by
  unfold State.dictEffect
  exact if_neg (Bool.eq_false_iff.mp h)

theorem State.dictEffect_ocvTable {v : Int} (h : s.stateRefused 0x2C02 1 v = false) :
    s.dictEffect path port role 0x2C02 1 v b = s.ocvWrite b := by
  unfold State.dictEffect
  exact if_neg (Bool.eq_false_iff.mp h)

theorem State.dictEffect_lifetimeClear {v : Nat} (k : Fin 2)
    (h : s.stateRefused (Obj.lifetimeClear (k.val + 1) / 256) (Obj.lifetimeClear (k.val + 1) % 256) v = false) :
    s.dictEffect path port role (Obj.lifetimeClear (k.val + 1) / 256) (Obj.lifetimeClear (k.val + 1) % 256) v b = s.lifetimeClear k.val v := by
  obtain ⟨hidx, hsub⟩ := lifetimeClear_key (k.val + 1)
  rw [hidx, hsub] at h ⊢
  unfold State.dictEffect
  rw [if_neg (Bool.eq_false_iff.mp h)]
  obtain rfl | rfl : k = 0 ∨ k = 1 := by omega
  · rfl
  · rfl

/-- The service role may write LifetimeClear as such: rows 1 to 5 of Table 19.4 find nothing. -/
theorem State.accessRefused_lifetimeClear_service (k : Fin 2) :
    s.accessRefused .service (Obj.lifetimeClear (k.val + 1) / 256) (Obj.lifetimeClear (k.val + 1) % 256) true = abNone := by
  have hrow : (rowsOf (Obj.lifetimeClear (k.val + 1) / 256)).any
      (fun r => decide (r.idxLo ≤ Obj.lifetimeClear (k.val + 1) / 256 ∧ Obj.lifetimeClear (k.val + 1) / 256 ≤ r.idxHi)) = true := by
    decide +revert
  have hfixed : onDieFixed (Obj.lifetimeClear (k.val + 1) / 256) (Obj.lifetimeClear (k.val + 1) % 256) = false := by
    decide +revert
  unfold State.accessRefused
  simp only [hrow, descOf_lifetimeClear, hfixed]
  rfl

/-- Its Meaning asks nothing beyond the descriptor. -/
theorem State.meaningRefused_lifetimeClear (k : Fin 2) (v : Int) :
    s.meaningRefused [] (Obj.lifetimeClear (k.val + 1) / 256) (Obj.lifetimeClear (k.val + 1) % 256) v b = abNone := by
  obtain ⟨hidx, hsub⟩ := lifetimeClear_key (k.val + 1)
  rw [hidx, hsub]
  unfold State.meaningRefused
  dsimp only
  split
  case h_18 =>
    rw [if_neg (by omega), if_neg (by omega), if_neg (by omega), if_neg (by omega), if_neg (by omega)]
  all_goals omega

/-- A byte other than 0xA5 is a value that LifetimeClear does not take (row 8 of Table 19.4). -/
theorem State.writeRefused_lifetimeClear_service {n : Nat} (k : Fin 2) (hn : n < 256) (h : n ≠ 0xA5) :
    s.writeRefused .service [] (Obj.lifetimeClear (k.val + 1) / 256) (Obj.lifetimeClear (k.val + 1) % 256)
      (numBytes (Obj.lifetimeClear (k.val + 1)) n) = abValue := by
  have hlen : (numBytes (Obj.lifetimeClear (k.val + 1)) n).length = 1 := by
    unfold numBytes objBits
    rw [descOf_lifetimeClear]
    rfl
  obtain ⟨r, hd, hval⟩ := (isByteObj_lifetimeClear k).exists_desc hn
  obtain rfl : lifetimeClearRow = r := Option.some.inj ((descOf_lifetimeClear k).symm.trans hd)
  have hen : ¬(n : Int) = 0xA5 := by omega
  unfold State.writeRefused State.valueRefused
  simp only [hd, hval, hlen, State.accessRefused_lifetimeClear_service, State.meaningRefused_lifetimeClear]
  simp [lifetimeClearRow, ObjType.lengthOk, hen]

end

/-! A calibration's start: R424 -/

/-- A calibration of string `k` may start: Ready or Shaping, none running, the string not LockedOut, every cell converged. -/
def State.mayCalibrate (s : State) (k : Nat) : Prop :=
  (s.mode = .ready ∨ s.mode = .shaping) ∧ s.stack.cal.string = 0 ∧ (s.str k).conn ≠ .lockedOut ∧
    ∀ j, j < s.cellCount k → (s.estCell (288 * k + j)).converged = true

/-- The ground on which `calRequest` refuses is that a calibration may not start. -/
theorem State.mayCalibrate_iff (s : State) (k : Nat) :
    s.mayCalibrate k ↔ ((s.mode != .ready && s.mode != .shaping) || s.stack.cal.string != 0 || decide ((s.str k).conn = .lockedOut) ||
      (List.range (s.cellCount k)).any (fun i => !(s.estCell (288 * k + i)).converged)) = false := by
  simp [State.mayCalibrate, and_assoc, Classical.or_iff_not_imp_left]

/-- Phase 1 of a calibration of string `k` begins, with balancing of the string stopped. -/
def State.calBegun (s : State) (k : Nat) : State :=
  let w := (s.balanceStop k).setNat Obj.calibrationResult 0
  ({ w with stack := { w.stack with cal := { string := k + 1, began := w.now } } } : State).calPhase 1

section
variable {s : State} (k : Fin 2) (hop : s.operated.contains k.val = true)
include hop

theorem State.calRequest_string :
    s.calRequest (k.val + 1) =
      if ((s.mode != .ready && s.mode != .shaping) || s.stack.cal.string != 0 || decide ((s.str k.val).conn = .lockedOut) ||
        (List.range (s.cellCount k.val)).any (fun i => !(s.estCell (288 * k.val + i)).converged)) = true then (abState, s)
      else (abNone, s.calBegun k.val) := by
  unfold State.calRequest
  rw [if_neg (by omega), if_neg (by omega), Nat.add_sub_cancel, hop]
  rfl

theorem State.calRequest_starts (h : s.mayCalibrate k.val) : s.calRequest (k.val + 1) = (0, s.calBegun k.val) :=
  (State.calRequest_string k hop).trans (if_neg (Bool.eq_false_iff.mp ((s.mayCalibrate_iff k.val).mp h)))

theorem State.calRequest_refused (h : ¬s.mayCalibrate k.val) : s.calRequest (k.val + 1) = (abState, s) :=
  (State.calRequest_string k hop).trans (if_pos (Bool.eq_true_of_not_eq_false (mt (s.mayCalibrate_iff k.val).mpr h)))

end

/-! A calibration's phases: R425 to R427 -/

section
variable {s : State} (hs : s.stack.cal.string ≠ 0) (hh : s.stack.cal.heldSince = none)
include hs hh

theorem State.calPhaseEnd_full {v : Nat} (hp : s.stack.cal.phase = 1) (hv : s.cellVMax (s.stack.cal.string - 1) = some v) :
    s.calPhaseEnd = if 10 * s.nat Obj.calibrationFullVoltage ≤ v then s.calPhase 2 else s := by
  simp [State.calPhaseEnd, hs, hh, hp, hv]

theorem State.calPhaseEnd_empty {v : Nat} (hp : s.stack.cal.phase = 3) (hv : s.cellVMin (s.stack.cal.string - 1) = some v) :
    s.calPhaseEnd = if v ≤ 10 * s.nat Obj.calibrationEmptyVoltage then s.calPhase 4 else s := by
  simp [State.calPhaseEnd, hs, hh, hp, hv]

variable (ht : s.nat Obj.endpointAverage * sec ≤ s.calElapsed)
include ht

/-- An endpoint phase without enough windows ends the calibration. -/
theorem State.calPhaseEnd_short (hp : s.stack.cal.phase = 2 ∨ s.stack.cal.phase = 4) (ha : s.calAverage (s.stack.cal.string - 1) = none) :
    s.calPhaseEnd = s.calEnd 5 := by
  obtain hp | hp := hp <;> simp [State.calPhaseEnd, hs, hh, hp, ha, Nat.not_lt_of_le ht]

theorem State.calPhaseEnd_top {l : List (Nat × Rat)} (hp : s.stack.cal.phase = 2) (ha : s.calAverage (s.stack.cal.string - 1) = some l) :
    s.calPhaseEnd = ({ s with stack := { s.stack with cal := { s.stack.cal with sFull := l } } } : State).calPhase 3 := by
  simp [State.calPhaseEnd, hs, hh, hp, ha, Nat.not_lt_of_le ht]

theorem State.calPhaseEnd_bottom {l : List (Nat × Rat)} (hp : s.stack.cal.phase = 4) (ha : s.calAverage (s.stack.cal.string - 1) = some l) :
    s.calPhaseEnd =
      ({ s with stack := { s.stack with cal := { s.stack.cal with sEmpty := l, phase := 5 } } } : State).calApply (s.stack.cal.string - 1) := by
  simp [State.calPhaseEnd, hs, hh, hp, ha, Nat.not_lt_of_le ht]

end

theorem State.calPhaseEnd_none {s : State} (h : s.stack.cal.string = 0) : s.calPhaseEnd = s := if_pos (Or.inl h)

/-- Settles O33: each write by its object's rule, each end of a phase by the phase that runs. -/
theorem calibrationRunsAndRecordsAreCleared : Obligations.CalibrationRunsAndRecordsAreCleared := by
  intro t n v role k b s u rq lt c i may w cleared
  have step {a b : State} (h : a = b) : (.next a : Res) = .next b := congrArg _ h
  have hi : i < 256 := by omega
  have request := isByteObj_calibrationRequest
  have clear := isByteObj_lifetimeClear k
  refine ⟨fun h hop hm => step (State.cmdWrite_byte_applied (key := Obj.calibrationRequest) request hi h State.dictEffect_calibrationRequest
      (State.calRequest_starts k hop hm)),
    fun h hop hm => step (State.cmdWrite_byte_refused (key := Obj.calibrationRequest) request hi h State.dictEffect_calibrationRequest
      (State.calRequest_refused k hop hm)),
    fun h => step (State.cmdWrite_byte_applied (key := Obj.calibrationRequest) request (by decide) h State.dictEffect_calibrationRequest rfl),
    fun h => ⟨fun h0 => step (State.reqWrite_rule_applied (key := Obj.ocvTable) rfl h (fun _ => State.dictEffect_ocvTable) (if_pos h0)),
      fun h0 => step (State.reqWrite_rule_declined (key := Obj.ocvTable) rfl h (fun _ => State.dictEffect_ocvTable) (if_neg h0)
        (by decide) (by decide))⟩,
    fun h => step (State.cmdWrite_byte_applied clear (by decide) h (State.dictEffect_lifetimeClear k) rfl),
    fun hs hn h => step (State.regWrite_refused hs (State.writeRefused_lifetimeClear_service k hn h) (by decide) (by decide)),
    fun hs hh => ⟨fun hp hv => step (State.calPhaseEnd_full hs hh hp hv), fun hp hv => step (State.calPhaseEnd_empty hs hh hp hv),
      fun hp ht ha => step (State.calPhaseEnd_short hs hh ht hp ha), fun l hp ht ha => step (State.calPhaseEnd_top hs hh ht hp ha),
      fun l hp ht ha => step (State.calPhaseEnd_bottom hs hh ht hp ha), fun ht => step (if_pos ⟨hs, ht⟩)⟩,
    fun h => ⟨step (State.calPhaseEnd_none h), step (if_neg fun hc => hc.1 h)⟩⟩

end Sys2Proof.Machine
end

section
/-! SUPPORT. Acknowledging, block tests, rails cleared and test pulses: the objects, their rules, and what each leaves alone (R444, R482,
R486, R487, R580, Tables 17.5 and 17.5a). -/

namespace Sys2Proof.Machine

/-! The objects of a block and of a rail -/

/-- Acknowledge of block `b` is subindex 7 of object 0x2F20 + `b`, BlockCommand subindex 9. -/
theorem acknowledge_key (b : Nat) : Obj.acknowledge b / 256 = 0x2F20 + b ∧ Obj.acknowledge b % 256 = 7 := by
  unfold Obj.acknowledge
  omega

theorem blockCommand_key (b : Nat) : Obj.blockCommand b / 256 = 0x2F20 + b ∧ Obj.blockCommand b % 256 = 9 := by
  unfold Obj.blockCommand
  omega

/-- RailClear of rail `r` is subindex 14 of object 0x2D20 + `r`. -/
theorem railClear_key (r : Nat) : Obj.railClear r / 256 = 0x2D20 + r ∧ Obj.railClear r % 256 = 14 := by
  unfold Obj.railClear
  omega

/-- The records of the 194 blocks (Table 17.2). -/
theorem rowsOf_block (b : Fin 194) : rowsOf (0x2F20 + b.val) = rows2F20 := by
  unfold rowsOf
  rw [if_neg (by omega), if_neg (by omega), if_neg (by omega), if_pos (by omega), if_pos (by omega), if_neg (by omega), if_pos (by omega)]

theorem isByteObj_acknowledge (b : Fin 194) : isByteObj (Obj.acknowledge b.val) := by
  obtain ⟨hidx, hsub⟩ := acknowledge_key b.val
  have hlo : 0x2F20 + b.val ≤ 0x2FE1 := by omega
  simp [isByteObj, hidx, hsub, descOf, rowsOf_block, rows2F20, findRow, hlo]

theorem isByteObj_blockCommand (b : Fin 194) : isByteObj (Obj.blockCommand b.val) := by
  obtain ⟨hidx, hsub⟩ := blockCommand_key b.val
  have hlo : 0x2F20 + b.val ≤ 0x2FE1 := by omega
  simp [isByteObj, hidx, hsub, descOf, rowsOf_block, rows2F20, findRow, hlo]

theorem isByteObj_railClear (r : Fin 16) : isByteObj (Obj.railClear r.val) := by
  unfold isByteObj
  decide +revert

theorem isByteObj_acknowledgeAll : isByteObj Obj.acknowledgeAll2F00 := rfl

section
variable {s : State} {path : Path} {port : Nat} {role : Role} {v : Nat} {l : List Nat}

theorem State.dictEffect_acknowledge (b : Fin 194)
    (h : s.stateRefused (Obj.acknowledge b.val / 256) (Obj.acknowledge b.val % 256) v = false) :
    s.dictEffect path port role (Obj.acknowledge b.val / 256) (Obj.acknowledge b.val % 256) v l = s.ackWrite b.val v := by
  obtain ⟨hidx, hsub⟩ := acknowledge_key b.val
  rw [hidx, hsub] at h ⊢
  unfold State.dictEffect
  rw [if_neg (Bool.eq_false_iff.mp h)]
  split
  case h_31 =>
    rw [if_neg (by omega), if_neg (by omega), if_neg (by omega), if_neg (by omega), if_neg (by omega), if_neg (by omega), if_neg (by omega),
      if_pos (by omega), Nat.add_sub_cancel_left, Int.toNat_natCast]
  all_goals omega

theorem State.dictEffect_blockCommand (b : Fin 194)
    (h : s.stateRefused (Obj.blockCommand b.val / 256) (Obj.blockCommand b.val % 256) v = false) :
    s.dictEffect path port role (Obj.blockCommand b.val / 256) (Obj.blockCommand b.val % 256) v l = s.blockCommand b.val v := by
  obtain ⟨hidx, hsub⟩ := blockCommand_key b.val
  rw [hidx, hsub] at h ⊢
  unfold State.dictEffect
  rw [if_neg (Bool.eq_false_iff.mp h)]
  split
  case h_31 =>
    rw [if_neg (by omega), if_neg (by omega), if_neg (by omega), if_neg (by omega), if_neg (by omega), if_neg (by omega), if_neg (by omega),
      if_neg (by omega), if_pos (by omega), Nat.add_sub_cancel_left, Int.toNat_natCast]
  all_goals omega

theorem State.dictEffect_railClear (r : Fin 16)
    (h : s.stateRefused (Obj.railClear r.val / 256) (Obj.railClear r.val % 256) v = false) :
    s.dictEffect path port role (Obj.railClear r.val / 256) (Obj.railClear r.val % 256) v l = s.railClear r.val v := by
  obtain ⟨hidx, hsub⟩ := railClear_key r.val
  rw [hidx, hsub] at h ⊢
  unfold State.dictEffect
  rw [if_neg (Bool.eq_false_iff.mp h)]
  split
  case h_31 =>
    rw [if_neg (by omega), if_neg (by omega), if_neg (by omega), if_neg (by omega), if_neg (by omega), if_neg (by omega), if_pos (by omega),
      Nat.add_sub_cancel_left, Int.toNat_natCast]
  all_goals omega

theorem State.dictEffect_acknowledgeAll (h : s.stateRefused 0x2F00 9 v = false) :
    s.dictEffect path port role 0x2F00 9 v l = s.ackAll v := by
  unfold State.dictEffect
  exact if_neg (Bool.eq_false_iff.mp h)

end

/-! What an acknowledgement clears: R482 -/

/-- A key that a filter takes out reads as its default. -/
theorem smGet_filter_out {α : Type} (d : Nat → α) (p : Nat × α → Bool) {q : Nat} (hp : ∀ v, p (q, v) = false) (m : List (Nat × α)) :
    smGet d (m.filter p) q = d q := by
  induction m with
  | nil => rfl
  | cons e r ih =>
    obtain ⟨k, v⟩ := e
    rw [List.filter_cons]
    split
    next hk =>
      have hne : k ≠ q := fun h => absurd (hk.symm.trans (h ▸ hp v)) (by decide)
      rw [smGet, if_neg hne, ih]
    next => exact ih

section
variable (w : State) (x : Nat)

theorem State.unackCls_ackBlock {c : Nat} (hc : c < 16) : (w.ackBlock x).unackCls x c = 0 :=
  smGet_filter_out (fun _ => 0) (fun e => e.1 / 16 != x) (by intro v; simp; omega) _

theorem State.queue_ackBlock (y : Nat) :
    (w.ackBlock x).queue y = if y = x then (w.queue x).map (fun e => { e with unack := false }) else w.queue y :=
  State.queue_setQueue w x y _

theorem State.ackBlock_frame : w.ackBlock x = { w with flt := (w.ackBlock x).flt, objs := (w.ackBlock x).objs } := rfl

end

/-! The rules of RailClear and BlockCommand: R444, R486 -/

theorem State.railClear_latched {s : State} {r : Nat} (hm : s.mode = .standby) (hd : ∀ d ∈ railDoms r, s.domState d ≠ 1 ∧ s.domState d ≠ 2)
    (hl : s.nat (Obj.railState r) = 4 ∨ s.nat (Obj.railState r) = 5) :
    s.railClear r 1 = (0, (s.setNat (Obj.railState r) 0).setRail r { s.rail r with hiccups := [], retryAt := none }) := by
  have idle : ¬(s.mode ≠ .standby ∨ (railDoms r).any (fun d => s.domState d = 1 ∨ s.domState d = 2) = true) := by
    simpa [hm] using hd
  exact (if_neg (by decide)).trans ((if_neg idle).trans (if_pos hl))

theorem State.railClear_elsewhere {s : State} {r : Nat} (hm : s.mode ≠ .standby) : s.railClear r 1 = (abState, s) :=
  (if_neg (by decide)).trans (if_pos (Or.inl hm))

theorem State.blockCommand_tests {s : State} {b : Nat} (hn : commandNamed b = true) (h2 : s.nat (Obj.blockState b) = 2)
    (hi : commandIdle b = false ∨ s.mode = .standby ∨ s.mode = .ready) :
    s.blockCommand b 1 =
      (0, let w := (s.setNat (Obj.blockState b) 4).setNat (Obj.blockCommand b) 1
        { w with flt := { w.flt with tests := smPut w.flt.tests b (w.now + 1) } }) := by
  have go : ¬((!commandNamed b || s.nat (Obj.blockState b) ≠ 2 || (commandIdle b && s.mode != .standby && s.mode != .ready)) = true) := by
    obtain hi | hi | hi := hi <;> simp [hn, h2, hi]
  exact (if_neg (by decide)).trans (if_neg go)

theorem State.blockCommand_refused {s : State} {b : Nat} (h : commandNamed b = false ∨ s.nat (Obj.blockState b) ≠ 2) :
    s.blockCommand b 1 = (abState, s) := by
  refine (if_neg (by decide)).trans (if_pos ?_)
  obtain h | h := h <;> simp [h]

/-- Settles O29: each write by its object's rule, the end of a test by its result. -/
theorem faultsAreAcknowledgedAndBlocksTested : Obligations.FaultsAreAcknowledgedAndBlocksTested := by
  intro t role b r pass echoed s u x ka kb kr one idle
  have step {v w : State} (h : v = w) : (.next v : Res) = .next w := congrArg _ h
  have byteOne : 1 < 256 := by decide
  refine ⟨fun h => step (State.cmdWrite_byte_applied (isByteObj_acknowledge b) byteOne h (State.dictEffect_acknowledge b) rfl),
    fun w => ⟨State.nat_setNat_same .., fun c hc => w.unackCls_ackBlock x hc, fun e he => ?marks,
      fun y hy => (w.queue_ackBlock x y).trans (if_neg hy), w.ackBlock_frame x⟩,
    fun h => step (State.cmdWrite_byte_applied (key := Obj.acknowledgeAll2F00) isByteObj_acknowledgeAll byteOne h
      State.dictEffect_acknowledgeAll rfl),
    fun h hn h2 hi => step (State.cmdWrite_byte_applied (isByteObj_blockCommand b) byteOne h (State.dictEffect_blockCommand b)
      (State.blockCommand_tests hn h2 hi)),
    fun h hf => step (State.cmdWrite_byte_refused (isByteObj_blockCommand b) byteOne h (State.dictEffect_blockCommand b)
      (State.blockCommand_refused hf)),
    fun h hm hd hl => step (State.cmdWrite_byte_applied (isByteObj_railClear r) byteOne h (State.dictEffect_railClear r)
      (State.railClear_latched hm hd hl)),
    fun h hm => step (State.cmdWrite_byte_refused (isByteObj_railClear r) byteOne h (State.dictEffect_railClear r)
      (State.railClear_elsewhere hm)),
    fun h => step (if_pos h), fun h => ⟨step (if_neg (not_not_intro h)), step (if_neg (not_not_intro h))⟩,
    fun h => step (if_pos h), fun h => step (if_neg ?pulse)⟩
  case marks =>
    rw [w.queue_ackBlock x, if_pos rfl] at he
    obtain ⟨e', -, rfl⟩ := List.mem_map.mp he
    rfl
  case pulse => rintro (he | hb); exacts [absurd he (by decide), hb h]

end Sys2Proof.Machine
end

section
/-! SUPPORT. Rails: what an entry in a block's history leaves of the power state, each protection and step of a rail, and its calibration
(R440 to R444, R449, R454, R494, Tables 15.3 and 15.7). -/

namespace Sys2Proof.Machine

/-! An event does not touch the power state: R145, R481 -/

section
variable (s : State)

@[simp] theorem State.sendFlow_pow (key : Nat) (f : Frame) (w : Option Nat) : (s.sendFlow key f w).pow = s.pow := by
  unfold State.sendFlow
  dsimp only
  split <;> rfl

@[simp] theorem State.sendReturn_pow (shelf ep vc : Nat) (f : Frame) (w : Option Nat) : (s.sendReturn shelf ep vc f w).pow = s.pow := by
  unfold State.sendReturn
  split
  · split
    · exact State.sendFlow_pow ..
    · rfl
  · exact State.sendFlow_pow ..

@[simp] theorem State.fireWatch_pow (v : Nat) (w : PWord) : (s.fireWatch v w).pow = s.pow := by
  unfold State.fireWatch
  dsimp only
  split
  · rfl
  · exact State.sendReturn_pow ..

@[simp] theorem State.evalWatches_pow (w : Nat) (old new : PWord) : (s.evalWatches w old new).pow = s.pow := by
  unfold State.evalWatches
  refine State.forEach_frame State.pow (fun s v => if !watchTrue (s.desc v) old && watchTrue (s.desc v) new then s.fireWatch v new else s)
    (fun u v => ?_) _ s
  split
  · exact State.fireWatch_pow ..
  · rfl

@[simp] theorem State.putWord_pow (w : Nat) (new : PWord) : (s.putWord w new).pow = s.pow := by
  unfold State.putWord
  dsimp only
  split
  · rfl
  · exact State.evalWatches_pow ..

@[simp] theorem State.bumpWord_pow (w : Nat) : (s.bumpWord w).pow = s.pow := by
  unfold State.bumpWord
  dsimp only
  split
  · exact State.putWord_pow ..
  · rfl

@[simp] theorem State.pushEntry_pow (b : Nat) (e : HEntry) : (s.pushEntry b e).pow = s.pow := by
  unfold State.pushEntry
  dsimp only
  split <;> rfl

@[simp] theorem State.interrupt_pow (b cls code level : Nat) : (s.interrupt b cls code level).pow = s.pow := by
  unfold State.interrupt
  dsimp only
  split
  · rfl
  · rw [State.bumpWord_pow]
    split <;> rfl

@[simp] theorem State.event_pow (b code detail : Nat) : (s.event b code detail).pow = s.pow :=
  (State.interrupt_pow ..).trans (State.pushEntry_pow ..)

/-- Judging the operating conditions moves their own three marks only. -/
theorem State.judgeConditions_marks : ∃ since back out, s.judgeConditions =
    { s with pow := { s.pow with outsideSince := since, insideSince := back, outside := out } } := by
  unfold State.judgeConditions
  dsimp only
  split_ifs <;> exact ⟨_, _, _, rfl⟩

theorem State.rails_judgeConditions : s.judgeConditions.pow.rails = s.pow.rails := by
  obtain ⟨_, _, _, h⟩ := s.judgeConditions_marks
  rw [h]

end

/-! The steps of one rail: R442 to R444 -/

section
variable {s : State} {r : Nat}

theorem State.railShed_regulating (h2 : s.nat (Obj.railState r) = 2) (hn : railLeast r < s.nat (Obj.activePhaseCount r)) :
    s.railShed r = s.setNat (Obj.activePhaseCount r) (s.nat (Obj.activePhaseCount r) - 1) := if_pos ⟨h2, hn⟩

theorem State.railAdd_regulating (h2 : s.nat (Obj.railState r) = 2) (hn : s.nat (Obj.activePhaseCount r) < railPhases r) :
    s.railAdd r = s.setNat (Obj.activePhaseCount r) (s.nat (Obj.activePhaseCount r) + 1) := if_pos ⟨h2, hn⟩

/-- The hiccups of the last second, this one included. -/
def State.hiccupsNow (s : State) (r : Nat) : List Nat := s.now :: (s.rail r).hiccups.filter (fun t => decide (s.now ≤ t + sec))

section
variable (h : s.nat (Obj.railState r) = 1 ∨ s.nat (Obj.railState r) = 2)
include h

theorem State.railHiccup_again (hl : (s.hiccupsNow r).length < 3) :
    let w := ((s.count (Obj.hiccupEvents r)).railTrip r 3).railAbandon r
    s.railHiccup r = (w.setRail r { w.rail r with hiccups := s.hiccupsNow r, retryAt := some (w.now + 20 * ms) }).railFault r := by
  have hf : decide (3 ≤ (s.hiccupsNow r).length) = false := decide_eq_false (Nat.not_le_of_lt hl)
  unfold State.hiccupsNow at hf
  unfold State.railHiccup
  simp only [if_pos h, hf]
  rfl

theorem State.railHiccup_third (hl : 3 ≤ (s.hiccupsNow r).length) :
    let w := ((s.count (Obj.hiccupEvents r)).railTrip r 5).railAbandon r
    s.railHiccup r =
      ((w.setRail r { w.rail r with hiccups := s.hiccupsNow r, retryAt := none }).forEach
        ((railDoms r).filter (fun d => s.domState d = 2)) State.leftOff).railFault r := by
  have hf : decide (3 ≤ (s.hiccupsNow r).length) = true := decide_eq_true hl
  unfold State.hiccupsNow at hf
  unfold State.railHiccup
  simp only [if_pos h, hf]
  rfl

end

theorem State.railRetry_waiting {t : Nat} (hr : (s.rail r).retryAt = some t) :
    s.railRetry r = if s.nat (Obj.railState r) = 3 ∧ t ≤ s.now then s.startRail r else s := by
  simp [State.railRetry, hr]

end

/-! Calibration: R454 -/

/-- The factor of a rail stays between 0.5 and 2. -/
theorem factorStep_mem (k : Rat) (m : Nat) {e : Nat} (he : e ≠ 0) : 1 / 2 ≤ factorStep k m e ∧ factorStep k m e ≤ 2 := by
  unfold factorStep
  rw [if_neg he]
  dsimp only
  split_ifs <;> constructor <;> linarith

/-- Between the bounds it moves an eighth of the way. -/
theorem factorStep_within {k : Rat} {m e : Nat} (he : e ≠ 0) (hlo : 1 / 2 ≤ k + ((m : Rat) / e - k) / 8)
    (hhi : k + ((m : Rat) / e - k) / 8 ≤ 2) : factorStep k m e = k + ((m : Rat) / e - k) / 8 :=
  (if_neg he).trans ((if_neg (not_lt_of_ge hlo)).trans (if_neg (not_lt_of_ge hhi)))

/-- What a rail's calibration leaves of the rail. -/
theorem State.rail_calibrate (s : State) (r mv ma mw : Nat) :
    let q := s.rail r
    let est := if q.estN = 0 then 0 else q.estSum / q.estN
    ∃ n, (s.calibrate r mv ma mw).rail r =
      { q with measured := mw, factor := factorStep q.factor mw est, estSum := 0, estN := 0, clamped := n } := by
  unfold State.calibrate State.rail
  rw [State.rails_judgeConditions]
  dsimp only
  rw [apply_ite State.pow, State.event_pow, ite_self, apply_ite State.pow, State.setNat_pow, ite_self]
  exact ⟨_, smGet_smSet_same ..⟩

/-- Settles O42: each step of a rail by the state that the rail is in. -/
theorem railsStartTripAndAreCalibrated : Obligations.RailsStartTripAndAreCalibrated := by
  intro t mv ma mw r s u i st n q late waiting fault d p
  have step {v w : State} (h : v = w) : (.next v : Res) = .next w := congrArg _ h
  refine ⟨fun h => step (if_pos h), fun h => step (if_neg h), fun h2 hn => step (State.railShed_regulating h2 hn),
    fun h2 hn => step (State.railAdd_regulating h2 hn),
    fun h2 => ⟨step (if_neg fun hc => h2 hc.1), step (if_neg fun hc => h2 hc.1), step (if_neg fun hc => h2 hc.2.1), step (if_neg h2)⟩,
    fun _ hn => step (if_neg fun hc => Nat.not_le_of_lt hc.2 hn), fun _ hn => step (if_neg fun hc => Nat.not_le_of_lt hc.2 hn),
    fun h => ⟨fun hl => step (State.railHiccup_again h hl), fun hl => step (State.railHiccup_third h hl)⟩,
    fun h1 h2 => step (if_neg fun hc => hc.elim h1 h2),
    fun at_ hr h3 => ⟨fun ht => step ((State.railRetry_waiting hr).trans (if_pos ⟨h3, ht⟩)),
      fun ht => step ((State.railRetry_waiting hr).trans (if_neg fun hc => Nat.not_le_of_lt ht hc.2))⟩,
    fun h4 h0 => step (if_neg fun hc => hc.elim h4 h0), fun h => step (if_pos h), fun h2 hd hp => step (if_pos ⟨hd, h2, hp⟩),
    fun h2 => step (if_pos h2), ?calibration, fun k m e he => ⟨(factorStep_mem k m he).1, (factorStep_mem k m he).2, factorStep_within he⟩⟩
  case calibration =>
    obtain ⟨_, hr⟩ := u.rail_calibrate i mv ma mw
    refine ⟨u.calibrate i mv ma mw, rfl, ?_⟩
    rw [hr]
    exact ⟨rfl, rfl, rfl, rfl⟩

end Sys2Proof.Machine
end

section
/-! SUPPORT. The supply alert, the temperature channels, a die's thermal floor and the interval's energies
(R450 to R452, R455, R456, R464, R470). -/

namespace Sys2Proof.Machine

section
variable {s : State}

/-! The supply alert: R451 -/

theorem State.nat_alertRise_time (h : s.pins.ibcAlertLow = true) :
    s.alertRise.nat Obj.alertTime = (s.nat Obj.alertTime + (s.now + 1 - s.pow.alertLow + s.pow.alertRest) / 1000) % 2 ^ 64 := by
  unfold State.alertRise
  rw [if_pos h]
  exact (s.nat_count64 Obj.alertTime Obj.alertTime _).trans (if_pos rfl)

/-- The low time is counted and the hold begins, with the object and the two state records they stand in. -/
theorem State.alertRise_low (h : s.pins.ibcAlertLow = true) :
    let low := s.now + 1 - s.pow.alertLow + s.pow.alertRest
    let v := s.alertRise
    v.pins.ibcAlertLow = false ∧ v.pow.alertLow = 0 ∧ v.pow.alertRest = low % 1000 ∧
      v.pow.holdUntil = s.now + s.nat Obj.alertHoldTime * 1000 ∧ v = { s with objs := v.objs, pins := v.pins, pow := v.pow } := by
  have hhold : (s.count64 Obj.alertTime ((s.now + 1 - s.pow.alertLow + s.pow.alertRest) / 1000)).nat Obj.alertHoldTime =
      s.nat Obj.alertHoldTime := (s.nat_count64 ..).trans (if_neg (by decide))
  unfold State.alertRise
  rw [if_pos h]
  exact ⟨rfl, rfl, rfl, congrArg (s.now + · * 1000) hhold, rfl⟩

theorem State.alertEnd_over (ha : s.pow.alertOn = true) (hp : s.pins.ibcAlertLow = false) (ht : s.pow.holdUntil ≤ s.now) :
    s.alertEnd = ({ s with pow := { s.pow with alertOn := false } } : State).applyPoints := if_pos ⟨ha, by simp [hp], ht⟩

/-! The package power limit: R452 -/

theorem State.limitCheck_above (h : s.pow.estHist ≠ []) (hl : s.nat Obj.packagePowerLimit2D00 < sumN s.pow.estHist / s.pow.estHist.length) :
    s.limitCheck = ({ s with pow := { s.pow with
      limitFloor := min 7 ((if s.pow.limitOn then s.pow.limitFloor else s.fastestDie) + 1), limitOn := true } } : State).applyPoints :=
  (if_neg (by simpa using h)).trans (if_pos hl)

theorem State.limitCheck_empty (h : s.pow.estHist = []) : s.limitCheck = s := if_pos (by simp [h])

/-! Housekeeping: R464 -/

section
variable {c : Nat} {r : Reading}

theorem State.housekeeping_asleep (h : ¬(s.mode ≠ .off ∧ s.mode ≠ .ship ∧ s.boot.inReset = false)) : s.housekeeping c r = s := by
  refine if_pos ?_
  by_contra hc
  simp only [not_or, Bool.not_eq_true] at hc
  exact h hc

section
variable (h : s.mode ≠ .off ∧ s.mode ≠ .ship ∧ s.boot.inReset = false)
include h

theorem State.housekeeping_skips (hc : c ≠ s.lastChan)
    (hx : s.chanUnused c = true ∨ s.chanLost c = true ∨ s.readingFits c r = false) :
    s.housekeeping c r = s.setNat Obj.thermalState2E00 s.thermalStateNow := by
  have hskip : (s.chanUnused c || s.chanLost c || !s.readingFits c r) = true := by simpa [or_assoc] using hx
  unfold State.housekeeping
  rw [if_neg (by simpa using h)]
  simp only [if_pos hskip, if_neg hc]

theorem State.housekeeping_reads (hc : c ≠ (s.readChan c r).lastChan) (hu : s.chanUnused c = false) (hl : s.chanLost c = false)
    (hf : s.readingFits c r = true) :
    s.housekeeping c r = (s.readChan c r).setNat Obj.thermalState2E00 (s.readChan c r).thermalStateNow := by
  have htaken : ¬(s.chanUnused c || s.chanLost c || !s.readingFits c r) = true := by simp [hu, hl, hf]
  unfold State.housekeeping
  rw [if_neg (by simpa using h)]
  simp only [if_neg htaken, if_neg hc]

end
end

/-! Relaxing of a thermal floor: R470 -/

theorem State.relaxDie_due {d : Nat} (hon : (s.diePt d).thermalOn = true) (ht : s.throttled d = false)
    (hdue : max (s.diePt d).lastThrottle (s.diePt d).lastRelax + s.nat Obj.throttleRelax * 1000 ≤ s.now) :
    let q := s.diePt d
    let f := q.thermalFloor - 1
    let w := (s.setDiePt d { q with thermalFloor := f, thermalOn := decide (f ≠ 0), lastRelax := s.now }).applyPoint d
    s.relaxDie d = w.setNat Obj.thermalState2E00 w.thermalStateNow := if_pos ⟨hon, by simp [ht], hdue⟩

theorem State.relaxDie_off {d : Nat} (h : (s.diePt d).thermalOn = false) : s.relaxDie d = s :=
  if_neg fun hc => Bool.eq_false_iff.mp h hc.1

end

/-! The energies of an interval leave the mode, the pool and what is sent: R455, R456 -/

/-- What the accounts never touch. -/
def State.apart (s : State) : Mode × PoolSt × List Output := (s.mode, s.pool, s.out)

theorem State.apart_divide (s : State) (sum rest : Nat) (total : Option Nat) (left : Nat) (mine : Nat → Nat) (all : Nat) :
    (s.divide sum rest total left mine all).2.apart = s.apart := by
  unfold State.divide
  dsimp only
  cases total <;> exact State.forEach_frame State.apart (fun (s : State) (x : Nat × Nat) => s.count64 (mine x.1) x.2) (fun _ _ => rfl) _ s

/-- One owner takes its share of what is left of the module's own energy. -/
def ownerTakes (x : Nat × State) (key : Nat) : Nat × State :=
  let d := x.2.draw
  let v := min x.1 (Config.ownerEnergy key d.1)
  (x.1 - v, d.2.count64 key v)

theorem apart_foldl_ownerTakes (l : List Nat) (x : Nat × State) : (l.foldl ownerTakes x).2.apart = x.2.apart := by
  induction l generalizing x with
  | nil => rfl
  | cons key l ih => exact ih (ownerTakes x key)

theorem State.apart_moduleShares (s : State) (mj : Nat) : (s.moduleShares mj).apart = s.apart :=
  apart_foldl_ownerTakes _ (mj, s)

theorem State.apart_withPow (s : State) (p : PowerSt) : ({ s with pow := p } : State).apart = s.apart := rfl

theorem State.apart_judgeConditions (s : State) : s.judgeConditions.apart = s.apart := by
  obtain ⟨_, _, _, h⟩ := s.judgeConditions_marks
  rw [h, State.apart_withPow]

theorem State.energyInterval_accounts (s : State) :
    let p := s.pow
    let v := s.energyInterval
    v.pow.rackSum = 0 ∧ v.pow.disSum = 0 ∧ v.pow.chgSum = 0 ∧ v.pow.wSum = [] ∧ v.pow.opened = [] ∧ v.pow.ticks = 0 ∧
      v.pow.rackRest = (p.rackSum.toNat + p.rackRest) % 1000 ∧ v.pow.disRest = (p.disSum.toNat + p.disRest) % 1000 ∧
      v.pow.chgRest = (p.chgSum.toNat + p.chgRest) % 1000 ∧ v.pow.pkgAcc = p.pkgAcc % 100000 := by
  unfold State.energyInterval
  dsimp only
  obtain ⟨_, _, _, h⟩ := State.judgeConditions_marks (_ : State)
  rw [h]
  exact ⟨rfl, rfl, rfl, rfl, rfl, rfl, rfl, rfl, rfl, rfl⟩

theorem State.apart_energyInterval (s : State) : s.energyInterval.apart = s.apart := by
  unfold State.energyInterval
  rw [State.apart_judgeConditions, State.apart_withPow, State.forEach_frame State.apart _ (fun _ _ => ?_), State.apart_moduleShares,
    State.apart_divide, State.apart_divide, State.apart_divide]
  rfl

/-- Settles O43: each operation by its own guard. -/
theorem alertsLimitsTemperaturesAndEnergy : Obligations.AlertsLimitsTemperaturesAndEnergy := by
  intro t d c r s u p q low avg awake
  have step {v w : State} (h : v = w) : (.next v : Res) = .next w := congrArg _ h
  refine ⟨fun h => step (if_neg (Bool.eq_false_iff.mp h)), fun h => ⟨step (if_pos h), u.alertRise, rfl, ?low⟩,
    fun h => step (if_neg (Bool.eq_false_iff.mp h)), fun ha hp ht => step (State.alertEnd_over ha hp ht),
    fun h => step (if_neg fun hc => Bool.eq_false_iff.mp h hc.1), fun h0 ht => step (if_pos ⟨h0, ht⟩), fun h0 => step (if_neg fun hc => hc.1 h0),
    fun h hl => step (State.limitCheck_above h hl), fun h => step (State.limitCheck_empty h), fun h => step (State.housekeeping_asleep h),
    fun h hc hx => step (State.housekeeping_skips h hc hx), fun h hc hu hl hf => step (State.housekeeping_reads h hc hu hl hf),
    fun hon ht hdue => step (State.relaxDie_due hon ht hdue), fun hoff => step (State.relaxDie_off hoff), u.energyInterval, rfl, ?interval⟩
  case low =>
    obtain ⟨hpin, hlow, hrest, hhold, hleft⟩ := State.alertRise_low h
    exact ⟨hpin, hlow, hrest, hhold, State.nat_alertRise_time h, hleft⟩
  case interval =>
    obtain ⟨hrack, hdis, hchg, hw, hopened, hticks, hr, hd, hc, hpkg⟩ := u.energyInterval_accounts
    have hapart := u.apart_energyInterval
    simp only [State.apart, Prod.mk.injEq] at hapart
    obtain ⟨hmode, hpool, hout⟩ := hapart
    exact ⟨hrack, hdis, hchg, hw, hopened, hticks, hr, hd, hc, hpkg, hmode, hpool, hout⟩

end Sys2Proof.Machine
end

section
/-! SUPPORT. Writes through the dictionary server: the codes of its refusals, RampLimit, complete access, stores and the process data's
inputs (R523, R526, R528, R529, R532, R536, Table 19.4). -/

namespace Sys2Proof.Machine

/-! No refusal of Table 19.4 is the mark of an answer that waits -/

theorem ite_lt_of_lt {p : Prop} [Decidable p] {a b n : Nat} (ha : a < n) (hb : b < n) : (if p then a else b) < n := by
  split <;> assumption

section
variable (s : State) (role : Role) (ov : List (Nat × Int)) (idx sub : Nat) (b : List Nat)

theorem State.accessRefused_lt (write : Bool) : s.accessRefused role idx sub write < 2 ^ 48 := by
  unfold State.accessRefused
  split
  · decide
  split
  · decide
  dsimp only
  split_ifs <;> decide

theorem State.meaningRefused_lt (v : Int) : s.meaningRefused ov idx sub v b < 2 ^ 48 := by
  unfold State.meaningRefused
  dsimp only
  split <;> (repeat' apply ite_lt_of_lt) <;> decide

theorem State.valueRefused_lt : s.valueRefused ov idx sub b < 2 ^ 48 := by
  unfold State.valueRefused
  split
  · decide
  split
  · decide
  dsimp only
  split_ifs
  · exact s.meaningRefused_lt ov idx sub b _
  · split <;> (repeat' split) <;> decide
  · exact s.meaningRefused_lt ov idx sub b _

theorem State.writeRefused_lt : s.writeRefused role ov idx sub b < 2 ^ 48 := by
  have ha := s.accessRefused_lt role idx sub true
  unfold State.writeRefused
  dsimp only
  split
  · exact ha
  split_ifs
  · exact ha
  · decide
  · exact ha
  · exact s.valueRefused_lt ov idx sub b

theorem State.writeRefused_ne_abWaits : s.writeRefused role ov idx sub b ≠ abWaits :=
  Nat.ne_of_lt (s.writeRefused_lt role ov idx sub b)

end

/-! One value -/

/-- A write that the rows 1 to 9 refuse, over any path that answers. -/
theorem State.regWrite_barred {s : State} {path : Path} {role : Role} {idx sub : Nat} {b : List Nat} (port : Nat)
    (hs : s.served path = true) (h : s.writeRefused role [] idx sub b ≠ 0) :
    s.regWrite path port role idx sub b = s.declined (idx * 256 + sub) (s.writeRefused role [] idx sub b % 2 ^ 32) := by
  have hw := s.writeRefused_ne_abWaits role [] idx sub b
  unfold State.regWrite State.dictWrite State.declined
  simp [hs, h, hw, abNone]

theorem State.dictEffect_rampLimit {s : State} {path : Path} {port : Nat} {role : Role} {v : Int} {b : List Nat}
    (h : s.stateRefused 0x2900 1 v = false) :
    s.dictEffect path port role 0x2900 1 v b = (0, s.setNat Obj.rampLimit2900 (leNat b)) := by
  unfold State.dictEffect
  exact (if_neg (Bool.eq_false_iff.mp h)).trans rfl

theorem State.regWrite_rampLimit {s : State} {path : Path} {role : Role} {b : List Nat} (port : Nat) (hs : s.served path = true)
    (hw : s.writeRefused role [] 0x2900 1 b = 0) (h : s.stateRefused 0x2900 1 (leNat b) = false) :
    s.regWrite path port role 0x2900 1 b =
      ((s.setNat Obj.rampLimit2900 (leNat b)).noteWrite path 0x2900 1).emit (.answer 0 Obj.rampLimit2900) := by
  have hacc : s.acceptsOver path role Obj.rampLimit2900 b := ⟨hs, hw, h⟩
  exact State.regWrite_applied (port := port) (key := Obj.rampLimit2900) hacc rfl (State.dictEffect_rampLimit h)

theorem State.noteWrite_records (w : State) (path : Path) (idx sub : Nat) :
    (w.noteWrite path idx sub).nat Obj.writeSequence = (w.nat Obj.writeSequence + 1) % 2 ^ 32 ∧
      (w.noteWrite path idx sub).blob Obj.lastWrite =
        leBytes 4 ((w.nat Obj.writeSequence + 1) % 2 ^ 32) ++ leBytes 2 idx ++ [sub, pathCode path] ++ leBytes 8 (w.hall % 2 ^ 64) := by
  have hseq : (w.count Obj.writeSequence).nat Obj.writeSequence = (w.nat Obj.writeSequence + 1) % 2 ^ 32 :=
    (w.nat_count ..).trans (if_pos rfl)
  refine ⟨hseq, ?_⟩
  unfold State.noteWrite
  dsimp only
  rw [State.blob_setBlob, if_pos rfl, hseq]
  rfl

/-! Complete access: R529 -/

section
variable {s : State} {role : Role} {idx : Nat} {vals : List (Nat × List Nat)} (hs : s.served .coe = true)
  (hrows : (rowsOf idx).filter (fun r => decide (r.idxLo ≤ idx ∧ idx ≤ r.idxHi)) ≠ [])
  (hcmd : ∀ r ∈ (rowsOf idx).filter (fun r => decide (r.idxLo ≤ idx ∧ idx ≤ r.idxHi)), r.cmd = false)
include hs hrows hcmd

/-- Past the rows of the object itself the set is judged. -/
theorem State.completeWrite_judged :
    s.completeWrite role idx vals = match s.setRefused role (vals.map (fun e => (idx, e.1, e.2))) with
      | some e => s.declined (idx * 256 + e.2.2) (e.1 % 2 ^ 32)
      | none =>
        let s1 := s.applySet (vals.map (fun e => (idx, e.1, e.2)))
        let bad := if preopOnly idx ∧ idx < 0x1C32 then vals.find? (fun e => s1.pdoRefused idx e.1 != abNone) else none
        match bad with
        | some e => s.declined (idx * 256 + e.1) (s1.pdoRefused idx e.1 % 2 ^ 32)
        | none => (s1.noteWrite .coe idx 0).emit (.answer abNone (idx * 256)) := by
  have hany : ¬(rowsOf idx).any (fun r => decide (r.idxLo ≤ idx ∧ idx ≤ r.idxHi) && r.cmd) = true := by
    simp only [List.mem_filter] at hcmd
    simp only [List.any_eq_true, Bool.and_eq_true]
    rintro ⟨r, hr, hin, hc⟩
    exact Bool.eq_false_iff.mp (hcmd r ⟨hr, hin⟩) hc
  have hall : ¬(rowsOf idx).all (fun r => !decide (r.idxLo ≤ idx ∧ idx ≤ r.idxHi)) = true := by
    obtain ⟨r, hr⟩ := List.exists_mem_of_ne_nil _ hrows
    obtain ⟨hr, hin⟩ := List.mem_filter.mp hr
    intro h
    simpa [hin] using List.all_eq_true.mp h r hr
  unfold State.completeWrite
  rw [if_neg (by simp [hs]), if_neg hany, if_neg hall]
  rfl

end

/-! Stores: R532 -/

section
variable (s : State)

theorem State.sendFlow_dict (key : Nat) (f : Frame) (w : Option Nat) : (s.sendFlow key f w).dict = s.dict := by
  unfold State.sendFlow
  dsimp only
  split <;> rfl

theorem State.sendReturn_dict (shelf ep vc : Nat) (f : Frame) (w : Option Nat) : (s.sendReturn shelf ep vc f w).dict = s.dict := by
  unfold State.sendReturn
  split
  · split
    · exact State.sendFlow_dict ..
    · rfl
  · exact State.sendFlow_dict ..

theorem State.writeResponse_dict (lane : Nat) (req : Frame) (result detail : Nat) : (s.writeResponse lane req result detail).dict = s.dict := by
  unfold State.writeResponse
  split
  · exact State.sendReturn_dict ..
  split <;> rfl

/-- An answer takes the writes that wait for it off, and nothing else of the dictionary. -/
theorem State.answerKey_dict (key code : Nat) : ∃ l, (s.answerKey key code).dict = { s.dict with waiting := l } := by
  unfold State.answerKey
  split
  · exact ⟨_, State.writeResponse_dict ..⟩
  · exact ⟨_, rfl⟩

/-- Both halves hold the new copy: it stands in place of the older, and nothing is being stored. -/
theorem State.storeDone_dict {c : StoredCfg} (h : s.dict.storing = some c) :
    let older : Bool := match s.dict.storedA, s.dict.storedB with
      | none, _ => true
      | some _, none => false
      | some a, some b => decide (a.seq ≤ b.seq)
    ∃ l, s.storeDone.dict = { s.dict with
      storedA := if older then some c else s.dict.storedA
      storedB := if older then s.dict.storedB else some c
      storing := none, storeFoe := false, waiting := l } := by
  unfold State.storeDone
  rw [h]
  dsimp only
  split
  · exact ⟨_, rfl⟩
  · exact State.answerKey_dict ..

theorem State.storeDone_copies {c : StoredCfg} (h : s.dict.storing = some c) :
    let v := s.storeDone
    v.dict.storing = none ∧ v.dict.storeFoe = false ∧ (v.dict.storedA = some c ∨ v.dict.storedB = some c) ∧
      ∀ a b, s.dict.storedA = some a → s.dict.storedB = some b →
        (a.seq ≤ b.seq → v.dict.storedA = some c ∧ v.dict.storedB = some b) ∧
        (b.seq < a.seq → v.dict.storedA = some a ∧ v.dict.storedB = some c) := by
  obtain ⟨l, hd⟩ := s.storeDone_dict h
  dsimp only
  rw [hd]
  refine ⟨rfl, rfl, ?_, fun a b ha hb => ?_⟩
  · dsimp only
    split_ifs <;> simp
  · simp only [ha, hb]
    exact ⟨fun hle => by simp [hle], fun hlt => by simp [Nat.not_le_of_lt hlt]⟩

theorem State.storeDone_idle (h : s.dict.storing = none) : s.storeDone = s := by
  unfold State.storeDone
  rw [h]

end

section
variable {s : State} {role : Role} {n : Nat}

theorem State.dictEffect_storeParameters {path : Path} {port : Nat} {v : Int} {b : List Nat}
    (h : s.stateRefused (Obj.storeParameters / 256) (Obj.storeParameters % 256) v = false) :
    s.dictEffect path port role (Obj.storeParameters / 256) (Obj.storeParameters % 256) v b =
      if s.dict.storing.isSome then (abState, s) else (abWaits, s.storeBegin false) := by
  unfold State.dictEffect
  exact if_neg (Bool.eq_false_iff.mp h)

theorem State.dictEffect_restoreDefaults {path : Path} {port : Nat} {v : Int} {b : List Nat}
    (h : s.stateRefused (Obj.restoreDefaults / 256) (Obj.restoreDefaults % 256) v = false) :
    s.dictEffect path port role (Obj.restoreDefaults / 256) (Obj.restoreDefaults % 256) v b =
      if s.dict.storing.isSome then (abState, s) else (abNone, s.eraseStored) := by
  unfold State.dictEffect
  exact if_neg (Bool.eq_false_iff.mp h)

/-- A store is answered when it is complete, so its write answers nothing yet. -/
theorem State.cmdWrite_storeParameters (h : s.accepts role Obj.storeParameters (numBytes Obj.storeParameters n))
    (hs : s.dict.storing = none) : s.cmdWrite role Obj.storeParameters n = s.storeBegin false := by
  obtain ⟨r, hd⟩ : ∃ r, descOf (Obj.storeParameters / 256) (Obj.storeParameters % 256) = some r := ⟨_, rfl⟩
  have he := State.dictEffect_storeParameters (path := rolePath role) (port := 1) (role := role) (b := numBytes Obj.storeParameters n)
    (State.stateRefused_of_accepts h hd)
  simp only [hs, Option.isSome_none, Bool.false_eq_true, if_false] at he
  obtain ⟨hserved, hw, -⟩ := h
  rw [State.cmdWrite_eq]
  unfold State.reqWrite State.regWrite State.dictWrite
  simp only [hserved, hw, hd, he]
  rfl

theorem State.cmdWrite_storeParameters_busy {c : StoredCfg} (h : s.accepts role Obj.storeParameters (numBytes Obj.storeParameters n))
    (hs : s.dict.storing = some c) : s.cmdWrite role Obj.storeParameters n = s.declined Obj.storeParameters 0x08000022 :=
  State.reqWrite_rule_refused rfl h (fun _ => State.dictEffect_storeParameters) (if_pos (by simp [hs]))

theorem State.cmdWrite_restoreDefaults (h : s.accepts role Obj.restoreDefaults (numBytes Obj.restoreDefaults n))
    (hs : s.dict.storing = none) :
    s.cmdWrite role Obj.restoreDefaults n = s.eraseStored.applied role Obj.restoreDefaults :=
  State.reqWrite_rule_applied rfl h (fun _ => State.dictEffect_restoreDefaults) (if_neg (by simp [hs]))

end

/-! Process data: R536 -/

/-- The state without its objects. -/
def State.beside (s : State) : State := { s with objs := [] }

theorem State.beside_setNum (s : State) (k : Nat) (v : Int) : (s.setNum k v).beside = s.beside := rfl

theorem State.beside_setNat (s : State) (k v : Nat) : (s.setNat k v).beside = s.beside := rfl

/-- Two states that agree beside their objects differ in their objects only. -/
theorem State.eq_of_beside {v s : State} (h : v.beside = s.beside) : v = { s with objs := v.objs } :=
  congrArg (fun w : State => { w with objs := v.objs }) h

theorem State.num_forEach_setNum_ne {α : Type} (key : α → Nat) (val : α → Int) {k : Nat} {l : List α} (h : ∀ e ∈ l, key e ≠ k) (s : State) :
    (s.forEach l (fun s e => s.setNum (key e) (val e))).num k = s.num k := by
  induction l generalizing s with
  | nil => rfl
  | cons a l ih =>
    rw [State.forEach_cons, ih (fun e he => h e (List.mem_cons_of_mem a he)), State.num_setNum, if_neg (h a List.mem_cons_self).symm]

/-- Of writes to distinct objects each is read back. -/
theorem State.num_forEach_setNum_mem {α : Type} (key : α → Nat) (val : α → Int) {l : List α} (hl : (l.map key).Nodup) {e : α} (he : e ∈ l)
    (s : State) : (s.forEach l (fun s e => s.setNum (key e) (val e))).num (key e) = val e := by
  induction l generalizing s with
  | nil => cases he
  | cons a l ih =>
    obtain ⟨ha, hl⟩ := List.nodup_cons.mp hl
    rw [State.forEach_cons]
    rcases List.mem_cons.mp he with rfl | he
    · rw [State.num_forEach_setNum_ne key val (fun x hx hk => ha (List.mem_map.mpr ⟨x, hx, hk⟩)), State.num_setNum, if_pos rfl]
    · exact ih hl he _

/-- The sources are written in turn, each to its own input, and then the time, the shelf input and the rack load. -/
theorem State.refreshInputs_eq (s : State) :
    s.refreshInputs = (((s.forEach inputSources (fun v e => v.setNum (0x600000 + e.1) (s.readNum (e.2 / 256) (e.2 % 256)))).setNat
      Obj.sampleTime s.hall).setNum Obj.shelfInput (smGet (fun _ => ((0 : Int), 0)) s.hist.latest 0x0031).1).setNum Obj.rackLoad s.eng.rack := by
  unfold State.refreshInputs State.forEach
  rw [List.foldl_map]

theorem inputSources_keys : ∀ e ∈ inputSources,
    0x600000 + e.1 ≠ Obj.sampleTime ∧ 0x600000 + e.1 ≠ Obj.shelfInput ∧ 0x600000 + e.1 ≠ Obj.rackLoad := by
  decide

theorem inputSources_nodup : (inputSources.map (fun e => 0x600000 + e.1)).Nodup := by decide

theorem State.beside_refreshInputs (s : State) : s.refreshInputs.beside = s.beside := by
  rw [State.refreshInputs_eq, State.beside_setNum, State.beside_setNum, State.beside_setNat, State.forEach_frame State.beside]
  exact fun _ _ => rfl

theorem State.refreshInputs_inputs (s : State) :
    let v := s.refreshInputs
    v = { s with objs := v.objs } ∧ v.nat Obj.sampleTime = s.hall ∧ v.num Obj.rackLoad = s.eng.rack ∧
      ∀ e ∈ inputSources, v.num (0x600000 + e.1) = s.readNum (e.2 / 256) (e.2 % 256) := by
  refine ⟨State.eq_of_beside s.beside_refreshInputs, ?_⟩
  rw [State.refreshInputs_eq]
  refine ⟨?_, ?_, fun e he => ?_⟩
  · unfold State.nat
    rw [State.num_setNum, if_neg (by decide), State.num_setNum, if_neg (by decide)]
    exact State.nat_setNat_same ..
  · rw [State.num_setNum, if_pos rfl]
  · obtain ⟨htime, hshelf, hrack⟩ := inputSources_keys e he
    rw [State.num_setNum, if_neg hrack, State.num_setNum, if_neg hshelf]
    unfold State.setNat
    rw [State.num_setNum, if_neg htime]
    have h := State.num_forEach_setNum_mem (fun e => 0x600000 + e.1) (fun e => s.readNum (e.2 / 256) (e.2 % 256)) inputSources_nodup he s
    exact h

theorem State.processData_inputs {s : State} {b : List Nat} (hs : s.served .process = true) (hm : s.mode ≠ .seed) (he : s.dict.esc ≠ .op) :
    s.processData b = s.refreshInputs := by
  have hesc : s.refreshInputs.dict.esc ≠ .op := by
    rw [s.refreshInputs_inputs.1]
    exact he
  unfold State.processData
  rw [if_neg (by simp [hs, hm])]
  exact if_neg fun hc => hesc hc.1

theorem State.processData_seed {s : State} {b : List Nat} (hm : s.mode = .seed) : s.processData b = s := if_pos (by simp [hm])

/-- Settles O30: one value, a set of values, the stores, and the inputs. -/
theorem dictionaryWritesApplyWholeOrNotAtAll : Obligations.DictionaryWritesApplyWholeOrNotAtAll := by
  intro t idx sub path role b vals c s u key l rows
  have step {v w : State} (h : v = w) : (.next v : Res) = .next w := congrArg _ h
  refine ⟨fun hp hs hw => step ((if_neg hp).trans (State.regWrite_barred 1 hs hw)),
    fun hp hs hw h => step ((if_neg hp).trans (State.regWrite_rampLimit 1 hs hw h)), fun w => w.noteWrite_records path idx sub, ?unserved,
    fun _ => ⟨_, rfl, if_pos rfl⟩, ?whole, ?none, fun n h => ⟨fun hs => step (State.cmdWrite_storeParameters h hs),
      fun hs => step (State.cmdWrite_storeParameters_busy h hs)⟩, fun n h hs => step (State.cmdWrite_restoreDefaults h hs), ?done,
    fun hs => step (u.storeDone_idle hs), fun hs => step (if_pos hs), ?inputs, fun hm => step (State.processData_seed hm)⟩
  case unserved =>
    intro hs
    have hoff : (!u.served path) = true := by rw [hs]; rfl
    by_cases hp : path = .broadcast
    · subst hp
      exact step ((if_pos rfl).trans (if_pos hoff))
    · exact step ((if_neg hp).trans (State.regWrite_unserved hs ..))
  case whole =>
    intro hs hrows hcmd hpre hset
    refine step ((State.completeWrite_judged hs hrows hcmd).trans ?_)
    rw [hset]
    simp only [hpre, Bool.false_eq_true, false_and, if_false]
    rfl
  case none =>
    intro e hs hrows hcmd hset
    refine step ((State.completeWrite_judged hs hrows hcmd).trans ?_)
    rw [hset]
  case done =>
    intro hs
    obtain ⟨hstoring, hfoe, hheld, hcopies⟩ := u.storeDone_copies hs
    exact ⟨u.storeDone, rfl, hstoring, hfoe, hheld, hcopies⟩
  case inputs =>
    intro hs hm he
    obtain ⟨hrest, htime, hrack, hinputs⟩ := u.refreshInputs_inputs
    exact ⟨u.refreshInputs, step (State.processData_inputs hs hm he), hrest, htime, hrack, hinputs⟩

end Sys2Proof.Machine
end

section
/-! SUPPORT. Key updates, the rollback fuses, author keys and firmware images: the objects, their rules, and what verifies
(R545, R552, R553, R555 to R558, Table 20.12). -/

namespace Sys2Proof.Machine

/-! Key updates: R552, R553 -/

section
variable {s u : State} {path : Path} {port : Nat} {role : Role}

theorem State.dictEffect_keyUpdate {v : Int} {b : List Nat}
    (h : s.stateRefused (Obj.keyUpdate / 256) (Obj.keyUpdate % 256) v = false) :
    s.dictEffect path port role (Obj.keyUpdate / 256) (Obj.keyUpdate % 256) v b = s.keyUpdate path port b := by
  unfold State.dictEffect
  exact if_neg (Bool.eq_false_iff.mp h)

section
variable {op : Nat} {b : List Nat} (h : s.acceptsOver path role Obj.keyUpdate (withByte 4 op b))
include h

theorem State.keyWrite_applied (hf : s.keyUpdate path port (withByte 4 op b) = (0, u)) :
    s.keyWrite role path port op b = u.appliedOver path Obj.keyUpdate :=
  State.regWrite_applied (key := Obj.keyUpdate) h rfl ((State.dictEffect_keyUpdate h.2.2).trans hf)

theorem State.keyWrite_value (hf : s.keyUpdate path port (withByte 4 op b) = (abValue, u)) :
    s.keyWrite role path port op b = u.declined Obj.keyUpdate 0x06090030 :=
  State.regWrite_declined (key := Obj.keyUpdate) h rfl ((State.dictEffect_keyUpdate h.2.2).trans hf) (by decide) (by decide)

end

theorem length_withByte (i v : Nat) (b : List Nat) : (withByte i v b).length = b.length := List.length_set ..

theorem listGet_withByte {i : Nat} (v : Nat) {b : List Nat} (h : i < b.length) : listGet 0 (withByte i v b) i = v := by
  simp [listGet, withByte, h]

section
variable {b : List Nat} (hlen : b.length = 240) (hok : s.keyRecordOk (decide (path = .coe)) b = true)
  (hst : s.keyStateRefused (if path = .coe then port else 3) b = false)
include hlen hok hst

/-- The state after an update of operation `op` that verifies. -/
theorem State.keyUpdate_verified :
    s.keyUpdate path port b =
      let slot := listGet 0 b 5
      let s1 := s.setNat Obj.keyUpdateSequence (leNat (slice b 8 4))
      (abNone, match listGet 0 b 4 with
        | 1 =>
          let s2 := if s1.dict.opKeys.isEmpty then s1.adopt else s1
          { s2 with dict := { s2.dict with opKeys := smPut s2.dict.opKeys slot (slice b 16 96) } }
        | 2 => { s1 with dict := { s1.dict with opKeys := smErase s1.dict.opKeys slot } }
        | _ => ({ s1 with dict := { s1.dict with opKeys := [], adopted := [] } } : State).setBlob Obj.admissionTicket (List.replicate 168 0)) :=
  (if_neg (by simp [hlen])).trans ((if_neg (by simp [hok])).trans (if_neg (by simp [hst])))

theorem State.keyUpdate_enrols (hop : listGet 0 b 4 = 1) :
    let s1 := s.setNat Obj.keyUpdateSequence (leNat (slice b 8 4))
    let s2 := if s.dict.opKeys.isEmpty then s1.adopt else s1
    s.keyUpdate path port b =
      (0, { s2 with dict := { s2.dict with opKeys := smPut s2.dict.opKeys (listGet 0 b 5) (slice b 16 96) } }) := by
  rw [State.keyUpdate_verified hlen hok hst, hop]
  rfl

theorem State.keyUpdate_revokes (hop : listGet 0 b 4 = 2) :
    s.keyUpdate path port b = (0, { s.setNat Obj.keyUpdateSequence (leNat (slice b 8 4)) with
      dict := { s.dict with opKeys := smErase s.dict.opKeys (listGet 0 b 5) } }) := by
  rw [State.keyUpdate_verified hlen hok hst, hop]
  rfl

theorem State.keyUpdate_resets (hop : listGet 0 b 4 = 3) :
    s.keyUpdate path port b = (0, ({ s.setNat Obj.keyUpdateSequence (leNat (slice b 8 4)) with
      dict := { s.dict with opKeys := [], adopted := [] } } : State).setBlob Obj.admissionTicket (List.replicate 168 0)) := by
  rw [State.keyUpdate_verified hlen hok hst, hop]
  rfl

end

theorem State.keyUpdate_unverified {b : List Nat} (hlen : b.length = 240) (hok : s.keyRecordOk (decide (path = .coe)) b = false) :
    s.keyUpdate path port b = (abValue, s) :=
  (if_neg (by simp [hlen])).trans (if_pos (by simp [hok]))

/-! The rollback fuses: R557 -/

theorem isByteObj_rollbackCommit : isByteObj Obj.rollbackCommit := rfl

theorem State.dictEffect_rollbackCommit {v : Nat} {b : List Nat}
    (h : s.stateRefused (Obj.rollbackCommit / 256) (Obj.rollbackCommit % 256) v = false) :
    s.dictEffect path port role (Obj.rollbackCommit / 256) (Obj.rollbackCommit % 256) v b = s.rollbackCommit v := by
  unfold State.dictEffect
  exact if_neg (Bool.eq_false_iff.mp h)

section
variable {v : Nat}

theorem State.rollbackCommit_raises (h63 : v ≤ 63) (hup : max s.dict.fusesA s.dict.fusesB < v) (hm : s.mode = .standby)
    (h0 : s.halfGone 0 = false) (h1 : s.halfGone 1 = false) (ha : s.boot.stageA ≠ 0) (hb : s.boot.stageB ≠ 0)
    (hx : ∀ x ∈ [s.dict.imagesA, s.dict.imagesB], v ≤ activeRollback 1 x.mainActive ∧ v ≤ activeRollback 2 x.seedActive) :
    s.rollbackCommit v = (0, { s with dict := { s.dict with fusesA := v, fusesB := v } }) := by
  have hlow : ¬([s.dict.imagesA, s.dict.imagesB].any (fun x =>
      decide (activeRollback 1 x.mainActive < v) || decide (activeRollback 2 x.seedActive < v))) = true := by
    simp only [List.any_eq_true, Bool.or_eq_true, decide_eq_true_eq]
    rintro ⟨x, hmem, hlt⟩
    obtain ⟨hmain, hseed⟩ := hx x hmem
    omega
  have hA : max s.dict.fusesA v = v := by omega
  have hB : max s.dict.fusesB v = v := by omega
  unfold State.rollbackCommit
  rw [if_neg (by omega), if_neg (by omega), if_neg (by simp [hm, h0, h1, ha, hb, hlow]), hA, hB]

theorem State.rollbackCommit_low (h63 : v ≤ 63) (hle : v ≤ max s.dict.fusesA s.dict.fusesB) : s.rollbackCommit v = (abLow, s) :=
  (if_neg (by omega)).trans (if_pos hle)

end

/-! Author keys: Table 20.12 -/

theorem State.dictEffect_authorCertificate {v : Int} {b : List Nat}
    (h : s.stateRefused (Obj.authorCertificate / 256) (Obj.authorCertificate % 256) v = false) :
    s.dictEffect path port role (Obj.authorCertificate / 256) (Obj.authorCertificate % 256) v b = s.authorAdd b := by
  unfold State.dictEffect
  exact if_neg (Bool.eq_false_iff.mp h)

theorem State.dictEffect_authorKeyRemove {v : Int} {b : List Nat}
    (h : s.stateRefused (Obj.authorKeyRemove / 256) (Obj.authorKeyRemove % 256) v = false) :
    s.dictEffect path port role (Obj.authorKeyRemove / 256) (Obj.authorKeyRemove % 256) v b = s.authorRemove b := by
  unfold State.dictEffect
  exact if_neg (Bool.eq_false_iff.mp h)

theorem State.authorAdd_certified {b : List Nat} {i : Nat} (hlen : b.length = 224)
    (hok : recordOk b 96 1 (b.take 96) (fun id => if id = keyId (zheudKey 1) then some (zheudKey 1) else none) = true)
    (hfree : (List.range 15).find? (fun i => s.dict.authors.all (fun e => e.1 != i + 1)) = some i) :
    s.authorAdd b = (0, { s with dict := { s.dict with authors := smPut s.dict.authors (i + 1) (b.take 96) } }) := by
  unfold State.authorAdd
  rw [if_neg (by simp [hlen]), if_neg (by simp [hok]), hfree]

theorem State.authorRemove_held {b : List Nat} (hheld : ∃ e ∈ s.dict.authors, keyId e.2 = b) (hb : b ≠ keyId (zheudKey 4)) :
    s.authorRemove b = (0, { s with dict := { s.dict with authors := s.dict.authors.filter (fun e => keyId e.2 != b) } }) := by
  have hany : (s.dict.authors.any (fun e => keyId e.2 = b) && decide (b ≠ keyId (zheudKey 4))) = true := by
    simp only [Bool.and_eq_true, List.any_eq_true, decide_eq_true_eq]
    exact ⟨hheld, hb⟩
  exact if_pos hany

/-! Firmware images: R545, R555, R556 -/

section
variable {kind : Nat} {b : List Nat} (hr : role = .operator ∨ role = .service) (hm : s.mode = .standby ∨ s.mode = .seed)
include hr hm

theorem State.firmwareWrite_judged :
    s.firmwareWrite kind role 0 b =
      let c := s.imageCheck kind b
      let s1 := s.noteVerify c
      if c ≠ 0 then s1.emit (.foe 0x800B (hexText 2 c))
      else (s1.forEach ((List.range 2).filter (fun h => !s1.halfGone h)) (fun s h =>
        let x := s.images h
        s.setImages h (if kind = 1 then { x with mainPending := some (imageOf b) } else { x with seedPending := some (imageOf b) }))).pruneAdopted.emit
          (.foe 0 []) := by
  have hrole : ¬((0 : Nat) ≠ 0 ∨ (role ≠ .operator ∧ role ≠ .service)) := by
    rcases hr with rfl | rfl <;> simp
  have hmode : ¬(s.mode ≠ .standby ∧ s.mode ≠ .seed) := by
    rcases hm with h | h <;> simp [h]
  exact (if_neg hrole).trans (if_neg hmode)

theorem State.firmwareWrite_unverified (hc : s.imageCheck kind b ≠ 0) :
    s.firmwareWrite kind role 0 b = (s.noteVerify (s.imageCheck kind b)).emit (.foe 0x800B (hexText 2 (s.imageCheck kind b))) :=
  (State.firmwareWrite_judged hr hm).trans (if_pos hc)

/-- Each half that runs takes the verified image into the slot of its kind. -/
theorem State.firmwareWrite_verified {put : ImageSlots → ImageSlots} (hc : s.imageCheck kind b = 0)
    (hput : ∀ x : ImageSlots, (if kind = 1 then { x with mainPending := some (imageOf b) } else { x with seedPending := some (imageOf b) }) = put x) :
    s.firmwareWrite kind role 0 b =
      ((s.noteVerify 0).forEach ((List.range 2).filter (fun h => !(s.noteVerify 0).halfGone h))
        (fun s h => s.setImages h (put (s.images h)))).pruneAdopted.emit (.foe 0 []) := by
  rw [State.firmwareWrite_judged hr hm, hc]
  dsimp only
  rw [if_neg (by simp)]
  simp only [hput]

end

end

/-- Settles O34: what verifies is taken by its object's own rule, and what does not is refused. -/
theorem keysImagesAndFusesChangeOnlyBySignature : Obligations.KeysImagesAndFusesChangeOnlyBySignature := by
  intro t v role path port h reg b s u ku ac ar rc b1 b2 b3 seq coe
  have step {v w : State} (h : v = w) : (.next v : Res) = .next w := congrArg _ h
  have hop {op : Nat} (hlen : b.length = 240) : listGet 0 (withByte 4 op b) 4 = op := listGet_withByte op (by omega)
  have hlen' {op : Nat} (hlen : b.length = 240) : (withByte 4 op b).length = 240 := (length_withByte 4 op b).trans hlen
  refine ⟨fun h hlen hok hst => step (State.keyWrite_applied h (State.keyUpdate_enrols (hlen' hlen) hok hst (hop hlen))),
    fun h hlen hok hst => step (State.keyWrite_applied h (State.keyUpdate_revokes (hlen' hlen) hok hst (hop hlen))),
    fun h hlen hok hst => step (State.keyWrite_applied h (State.keyUpdate_resets (hlen' hlen) hok hst (hop hlen))),
    fun h hlen hok => step (State.keyWrite_value h (State.keyUpdate_unverified (hlen' hlen) hok)), ?raise, ?low,
    fun i h hlen hok hfree => step (State.reqWrite_rule_applied (key := Obj.authorCertificate) rfl h
      (fun _ => State.dictEffect_authorCertificate) (State.authorAdd_certified hlen hok hfree)),
    fun h hheld hb => step (State.reqWrite_rule_applied (key := Obj.authorKeyRemove) rfl h
      (fun _ => State.dictEffect_authorKeyRemove) (State.authorRemove_held hheld hb)), ?firmware, ?discarded⟩
  case raise =>
    intro h h63 hup hm h0 h1 ha hb hx
    exact step (State.cmdWrite_byte_applied (key := Obj.rollbackCommit) isByteObj_rollbackCommit (by omega) h
      State.dictEffect_rollbackCommit (State.rollbackCommit_raises h63 hup hm h0 h1 ha hb hx))
  case low =>
    intro h hle h63
    exact step (State.cmdWrite_byte_declined (key := Obj.rollbackCommit) isByteObj_rollbackCommit (by omega) h
      State.dictEffect_rollbackCommit (State.rollbackCommit_low h63 hle) (by decide) (by decide))
  case firmware =>
    intro hr hm
    exact ⟨fun hc => step (State.firmwareWrite_verified hr hm hc fun _ => if_pos rfl),
      fun hc => step (State.firmwareWrite_verified hr hm hc fun _ => if_neg (by decide)),
      fun hc => step (State.firmwareWrite_unverified hr hm hc)⟩
  case discarded =>
    intro hrun hgone
    have hown : (u.running && !u.halfGone (halfIdx h)) = true := by simp [hrun, hgone]
    exact step (if_pos hown)

end Sys2Proof.Machine
end

section
/-! SUPPORT. Sessions, admission and the TAP: the objects, their rules, and the limits (R561 to R565). -/

namespace Sys2Proof.Machine

/-! Sessions: R562, R563, R565 -/

theorem isByteObj_sessionSetup : isByteObj Obj.sessionSetup := rfl

theorem isByteObj_sessionLock : isByteObj Obj.sessionLock := rfl

section
variable {s : State} {path : Path} {port : Nat} {role : Role}

theorem State.dictEffect_sessionSetup {v : Nat} {b : List Nat}
    (h : s.stateRefused (Obj.sessionSetup / 256) (Obj.sessionSetup % 256) v = false) :
    s.dictEffect path port role (Obj.sessionSetup / 256) (Obj.sessionSetup % 256) v b = s.sessionSetup v := by
  unfold State.dictEffect
  exact if_neg (Bool.eq_false_iff.mp h)

theorem State.dictEffect_sessionResponse {v : Int} {b : List Nat}
    (h : s.stateRefused (Obj.sessionResponse / 256) (Obj.sessionResponse % 256) v = false) :
    s.dictEffect path port role (Obj.sessionResponse / 256) (Obj.sessionResponse % 256) v b = s.sessionResponse b := by
  unfold State.dictEffect
  exact if_neg (Bool.eq_false_iff.mp h)

theorem State.dictEffect_sessionLock {v : Nat} {b : List Nat}
    (h : s.stateRefused (Obj.sessionLock / 256) (Obj.sessionLock % 256) v = false) :
    s.dictEffect path port role (Obj.sessionLock / 256) (Obj.sessionLock % 256) v b = (0, s.sessionLock v) := by
  unfold State.dictEffect
  exact if_neg (Bool.eq_false_iff.mp h)

/-- The challenge of Table 20.9 to a named level and target, with the random bytes drawn in state `s`. -/
def State.challengeTo (s : State) (v : Nat) : List Nat :=
  [0x5A, 0x43, 0x48, 0x4C, v / 16, v % 16, 0, 0] ++ fused Obj.moduleSerial 16 ++ leBytes 4 (s.nat Obj.bootCount) ++ [0, 0, 0, 0] ++
    (List.range 32).map (fun i => Config.randomByte s.freeCtr i % 256)

/-- The state in which the challenge is outstanding. -/
def State.challenged (s : State) (v : Nat) : State :=
  ({ s with freeCtr := s.freeCtr + 1, dict := { s.dict with challenge := s.challengeTo v, challengeAt := s.now } } : State).setBlob
    Obj.challenge (s.challengeTo v)

section
variable {v : Nat} (hv : v / 16 = 1 ∨ (v / 16 = 2 ∧ v % 16 ≠ 3)) (ht : v % 16 ≤ 3)
include hv ht

theorem State.sessionSetup_named :
    s.sessionSetup v = if s.dict.lockUntil ≠ 0 ∨ s.sessionLevel (v % 16) ≠ 0 then (abState, s) else (0, s.challenged v) :=
  if_neg (by omega)

end

theorem State.blob_challenged (v : Nat) : (s.challenged v).blob Obj.challenge = s.challengeTo v :=
  (State.blob_setBlob ..).trans (if_pos rfl)

section
variable {b : List Nat} (hlen : b.length = 128 ∨ b.length = 256) (hc : s.dict.challenge ≠ [])
  (hnow : s.now ≤ s.dict.challengeAt + 600 * sec) (hfree : s.sessionLevel (listGet 0 s.dict.challenge 5) = 0)
include hlen hc hnow hfree

/-- A response in time is judged by its signatures alone. -/
theorem State.sessionResponse_judged :
    s.sessionResponse b =
      if s.responseOk b then
        (0, { s with dict := { s.dict with
          challenge := [], sessions := smPut s.dict.sessions (listGet 0 s.dict.challenge 5)
            { level := listGet 0 s.dict.challenge 4, openedAt := s.now } } })
      else (abValue, s.unlockFail) := by
  have hlate : ¬(s.dict.challenge.isEmpty = true ∨ s.dict.challengeAt + 600 * sec < s.now ∨
      s.sessionLevel (listGet 0 s.dict.challenge 5) ≠ 0) := by
    simp only [List.isEmpty_iff]
    rintro (h | h | h)
    · exact hc h
    · exact Nat.not_lt_of_le hnow h
    · exact h hfree
  exact (if_neg (by omega)).trans (if_neg hlate)

end

theorem State.sessions_endSession (k : Nat) : (s.endSession k).dict.sessions = smErase s.dict.sessions k := by
  unfold State.endSession
  dsimp only
  split <;> rfl

theorem State.sessionLevel_endSession (k : Nat) : (s.endSession k).sessionLevel k = 0 := by
  unfold State.sessionLevel
  rw [State.sessions_endSession, smGet_smErase_same]

end

/-! Admission: R561 -/

theorem State.challengeWrite_taken {s : State} {k : Nat} {b : List Nat} (h : s.writeRefused .agent [] 0x3103 3 b = 0) :
    s.challengeWrite k b = (0, (s.admitChallenge k b).noteWrite .mirror 0x3103 3) := if_neg (not_not_intro h)

section
variable {s : State} {k : Nat} {ticket dev sig : List Nat}

theorem State.admitTry_down (h : s.laneUp (36 + k) = false) : s.admitTry k ticket dev sig = s := if_pos (by simp [h])

section
variable (h : s.laneUp (36 + k) = true) (hadm : (smGet (fun _ => {}) s.dict.admits k : Admit).admitted = false)
  (hfail : (smGet (fun _ => {}) s.dict.admits k : Admit).failedAt = 0)
include h hadm hfail

theorem State.admitTry_noTicket (ht : s.ticketOk k ticket dev = false) :
    s.admitTry k ticket dev sig = (s.setAdmit k { (smGet (fun _ => {}) s.dict.admits k : Admit) with
      challenge := [], failedAt := s.now + 1 }).count Obj.admissionFailures :=
  (if_neg (by simp [h, hadm, hfail])).trans (if_pos (by simp [ht]))

theorem State.admitTry_admits (ht : s.ticketOk k ticket dev = true) :
    let r := s.randomBytes 48
    let peer := linkPeerLane (s.nat Obj.hallDimensions) (s.nat Obj.shelfNumber) k
    ecVerify dev (admitDigest r.1 (s.nat Obj.hallDomainId) (s.nat (Obj.peerShelf (36 + k))) peer) sig = true →
    let w := r.2.setAdmit k { (smGet (fun _ => {}) s.dict.admits k : Admit) with admitted := true, failedAt := 0, challenge := r.1 }
    s.admitTry k ticket dev sig =
      (w.setNat Obj.admittedHallLinks (setBit (w.nat Obj.admittedHallLinks) k true)).routesChanged := fun hsig =>
  (if_neg (by simp [h, hadm, hfail])).trans ((if_neg (by simp [ht])).trans (if_pos hsig))

end
end

/-! The TAP: R562, R564 -/

section
variable {s : State} (hon : s.tapOn = true)
include hon

/-- Without its session a boundary-scan instruction is not accepted. -/
theorem State.bypassed_scan (hs : s.scanAllowed = false) :
    (s.tapOn && !decide (decide (TapInstr.extest = .idcode ∨
      ((TapInstr.extest = .samplePreload ∨ TapInstr.extest = .extest) ∧ s.scanAllowed)) = true)) = true := by
  simp [hon, hs]

theorem State.bypassed_bypass :
    (s.tapOn && !decide (decide (TapInstr.bypass = .idcode ∨
      ((TapInstr.bypass = .samplePreload ∨ TapInstr.bypass = .extest) ∧ s.scanAllowed)) = true)) = true := by
  simp [hon]

end

/-- Settles O35: sessions by challenge and limit, admission by ticket and signature, the TAP by its session. -/
theorem sessionsAdmissionAndTheTap : Obligations.SessionsAdmissionAndTheTap := by
  intro t v role k tg b ticket dev sig bits s u ss sr sl c x a
  have step {v w : State} (h : v = w) : (.next v : Res) = .next w := congrArg _ h
  have hbyte (hv : v / 16 = 1 ∨ (v / 16 = 2 ∧ v % 16 ≠ 3)) : v < 256 := by omega
  refine ⟨?setup, ?barred, ?response, ?lock, State.sessionLevel_endSession _, fun hl hx => step (if_pos ⟨hl, hx⟩),
    fun hl => step (if_neg fun hc => hc.1 hl),
    fun h0 ht => step (if_pos ⟨h0, ht⟩), ?challenge, ?down, fun h hadm hfail => ⟨fun ht => step (State.admitTry_noTicket h hadm hfail ht),
      fun ht hsig => step (State.admitTry_admits h hadm hfail ht hsig)⟩, ?tap⟩
  case setup =>
    intro h hv ht h0 hl
    refine ⟨u.challenged v, step (State.cmdWrite_byte_applied (key := Obj.sessionSetup) isByteObj_sessionSetup (hbyte hv) h
      State.dictEffect_sessionSetup ((State.sessionSetup_named hv ht).trans (if_neg fun hc => hc.elim (fun h => h h0) (fun h => h hl)))),
      rfl, rfl, rfl, State.blob_challenged v, rfl⟩
  case barred =>
    intro h hv ht hbar
    exact step (State.cmdWrite_byte_refused (key := Obj.sessionSetup) isByteObj_sessionSetup (hbyte hv) h
      State.dictEffect_sessionSetup ((State.sessionSetup_named hv ht).trans (if_pos hbar)))
  case response =>
    intro h hlen hc hnow hfree
    have hj := State.sessionResponse_judged hlen hc hnow hfree
    exact ⟨fun hok => step (State.reqWrite_rule_applied (key := Obj.sessionResponse) rfl h (fun _ => State.dictEffect_sessionResponse)
        (hj.trans (if_pos hok))),
      fun hbad => step (State.reqWrite_rule_declined (key := Obj.sessionResponse) rfl h (fun _ => State.dictEffect_sessionResponse)
        (hj.trans (if_neg (Bool.eq_false_iff.mp hbad))) (by decide) (by decide))⟩
  case lock =>
    intro h hv
    exact step (State.cmdWrite_byte_applied (key := Obj.sessionLock) isByteObj_sessionLock hv h State.dictEffect_sessionLock rfl)
  case challenge =>
    intro hs hl hw
    refine step ((if_pos (Bool.and_eq_true_iff.mpr ⟨hs, hl⟩)).trans ?_)
    rw [State.challengeWrite_taken hw]
    rfl
  case down =>
    intro hl
    have hoff : ¬(u.served .mirror && u.laneUp (36 + k.val)) = true := by simp [hl]
    exact ⟨step (if_neg hoff), step (State.admitTry_down hl)⟩
  case tap =>
    intro hon
    have hpow : ¬(!u.tapOn) = true := by simp [hon]
    refine ⟨step (if_pos hon), fun hs => ⟨step ((if_neg hpow).trans (if_pos hs)), step ((if_neg hpow).trans (if_pos hs))⟩,
      fun hs => ⟨step ((if_neg hpow).trans (if_neg (Bool.eq_false_iff.mp hs))), step ((if_neg hpow).trans (if_neg (Bool.eq_false_iff.mp hs))),
        step (if_pos (State.bypassed_scan hon hs))⟩, step (if_pos (State.bypassed_bypass hon)), rfl⟩

end Sys2Proof.Machine
end
